-- ==== Sys2Proof/Word.lean ====
section
/-! DEFINITION. The word types of the model. -/

namespace Sys2Proof

/-- A register of BAR0 is 32 bits wide (R20). -/
abbrev Word := BitVec 32

/-- One byte of a structure in host memory, MRAM or on a wire. -/
abbrev Byte := BitVec 8

end Sys2Proof
end

