-- ==== Sys2Proof/Syntax.lean ====
section
/-! DEFINITION. The commands of the block: one constructor per row of spec/opcode_table.json. What reaches the module from
outside (samples, frames, levels, the results of work whose body the spec does not give) is an operand of the command that
delivers it. -/

namespace Sys2Proof

/-- The PTP messages the module sends (R106). -/
inductive PtpKind where
  | sync | delayReq | delayResp | pdelayReq | pdelayResp | announce
  deriving DecidableEq, Repr

/-- A Sync with its origin time, as one message or two bring it (R92, R93, R107). -/
structure PtpSync where
  /-- domainNumber. -/
  domain : Nat
  /-- originTimestamp, seconds. -/
  sec : Nat
  /-- originTimestamp, nanoseconds. -/
  ns : Nat
  /-- Sum of the correction fields, 2^-16 ns. -/
  corr : Int
  /-- log2 of the Sync interval that the master announces, s. -/
  logInt : Int
  /-- Units of 0.8 ns after the counter's edge at which the delimiter crossed the serialiser. -/
  frac : Fin 5
  deriving DecidableEq, Repr

/-- A clock dataset as an Announce carries it (R106, R110). -/
structure PtpSet where
  /-- priority1. -/
  prio1 : Nat
  /-- clockClass. -/
  cls : Nat
  /-- clockAccuracy. -/
  acc : Nat
  /-- offsetScaledLogVariance. -/
  var : Nat
  /-- priority2. -/
  prio2 : Nat
  /-- grandmaster identity. -/
  gm : Nat
  /-- stepsRemoved. -/
  steps : Nat
  /-- sender port identity. -/
  sender : Nat
  deriving DecidableEq, Repr


/-- What the demodulated navigation data gives during one integration (R128, R129, R131, R137). -/
structure NavObs where
  /-- Transmit time of the start of the current primary code period, ms of the system's week. -/
  tow : Option Nat
  /-- A valid ephemeris of the satellite is complete. -/
  eph : Bool
  /-- The almanac is complete. -/
  alm : Bool
  /-- The polarity of the navigation preamble is known. -/
  pol : Bool
  deriving DecidableEq, Repr

/-- One coherent integration of a channel's signal against its replica (R129, R130). -/
structure CorrObs where
  /-- The pilot component, or the only one, at offsets from prompt in 1/128 chip: in-phase and quadrature sums; 0 where none is listed. -/
  at_ : List (Int × Int × Int)
  /-- The data arm of the prompt correlator. -/
  data : Int × Int
  /-- The DLL is locked. -/
  codeLock : Bool
  /-- The code discriminator has settled. -/
  settled : Bool
  /-- Bit and secondary-code synchronisation is achieved. -/
  sync : Bool
  /-- The navigation data. -/
  nav : Option NavObs
  deriving DecidableEq, Repr

/-- One pass of the acquisition engine over 1 ms of a snapshot at one Doppler bin (R125): powers by code phase, and the noise power. -/
structure AcqPass where
  /-- Code phase in samples of 16,384, and its power; 0 where none is listed. -/
  cells : List (Nat × Nat)
  /-- Noise power. -/
  noise : Nat
  deriving DecidableEq, Repr

/-- What lane firmware's solution of an epoch gives beside the epoch record (R138 to R143). -/
structure GnssSol where
  /-- PDOP × 100. -/
  pdop : Nat
  /-- Post-fit RMS code residual, mm. -/
  rms : Nat
  /-- Offset of the counter against the system time, before the antenna delay, ns (R92). -/
  ofs : Int
  /-- That system is BeiDou. -/
  bds : Bool
  /-- The position solution is valid. -/
  fix : Bool
  /-- Latitude, 1e-7 degree. -/
  lat : Int
  /-- Longitude, 1e-7 degree. -/
  lon : Int
  /-- Height, mm. -/
  alt : Int
  /-- Velocity north, mm/s. -/
  vn : Int
  /-- Velocity east, mm/s. -/
  ve : Int
  /-- Velocity down, mm/s. -/
  vd : Int
  /-- Baseline from ANT1 to ANT2 that the phases show: north, east, down, mm. -/
  base : Int × Int × Int
  /-- 0 none, 1 DGNSS, 2 RTK float, 3 RTK fixed. -/
  rtk : Fin 4
  /-- Direction of each channel's satellite, G0 first: azimuth, and elevation as a signed angle, BAM32. -/
  dirs : List (BitVec 32 × BitVec 32)
  deriving DecidableEq, Repr

/-- A line of a spectrum (R141). -/
structure SpecLine where
  /-- Offset from the chain centre, 10 Hz. -/
  freq : Int
  /-- Level above the noise floor, 0.25 dB. -/
  level : Nat
  deriving DecidableEq, Repr


/-- A CAN frame (R394). -/
structure CanFrame where
  /-- Identifier; a standard identifier is in bits [10:0]. -/
  id : BitVec 29
  /-- 29-bit identifier. -/
  ide : Bool
  /-- Remote frame. -/
  rtr : Bool
  /-- CAN FD frame. -/
  fdf : Bool
  /-- Bit-rate switch. -/
  brs : Bool
  /-- Error state indicator. -/
  esi : Bool
  /-- Data length code. -/
  dlc : Fin 16
  /-- Data field. -/
  data : List Byte
  deriving DecidableEq, Repr

/-- How an attempt to send ends (R405, R408, R410). -/
inductive CanTxEnd where
  /-- Success; `edges` are the delays, in fCAN cycles, of the falling edges seen on RX after the one between FDF and res (R390). -/
  | ok (edges : List (Fin 256))
  /-- Arbitration lost. -/
  | lost
  /-- Error `code` of R408; in the data phase; in the control, data or CRC field; an error that ISO 11898-1 does not count; further
  rises of the counter by 8 after dominant bits; `edges` as above, none where the error came before the res bit. -/
  | err (code : Fin 7) (data body noCount : Bool) (more : Fin 64) (edges : List (Fin 256))
  deriving DecidableEq, Repr

/-- The vessel-track record of a peer, as MIR carries it (R47, R233). -/
structure PeerRec where
  /-- Position. -/
  p : Fin 3
  /-- The 32 words of R236. -/
  words : List (BitVec 32)
  deriving DecidableEq, Repr
/-- The commands. -/
inductive Instr where
  /-- A host write to a register that has no row of its own sets its writable fields according to their access types (R25). -/
  | hostRegisterWrite (port : Fin 2) (off : BitVec 26) (size : Fin 9) (data : BitVec 64)
  /-- A host read of an unmapped offset or of the wrong width returns zero and records the refusal (R634). -/
  | hostReadUnmapped (port : Fin 2) (bells : Bool) (off : BitVec 26) (size : Fin 9)
  /-- A host read of an RC field returns its value and then clears it (R25). -/
  | readClear (port : Fin 2) (off : BitVec 26)
  /-- A read of the lowest word of a multi-word value or record latches the remaining words into a shadow (R26). -/
  | shadowLatchRead (port : Fin 2) (off : BitVec 26)
  /-- An RWS write enters the pending sealed copy when the owning port writes and the seal is open, and is discarded otherwise (R453). -/
  | rwsWrite (port : Fin 2) (off : BitVec 26) (val : Word)
  /-- The counter reaches a minor-tick condition; pending minor-stage values are applied and a new minor frame begins (R38). -/
  | minorTick
  /-- At a major tick, major results and pending major-stage values take effect, together with level changes and held values (R49). -/
  | majorTick
  /-- At a slow tick, the once-per-second work runs: channel assignment, aiding rewrite, VBAT check and health telegram (R37). -/
  | slowTick (vbatMv : Fin 4096)
  /-- In the ACQ window, the signal channels are processed and their values and statuses published (R167). -/
  | acqStage (util : Fin 1001) (cic : List (List Int))
  /-- In the ALN window, queued arrivals are associated, adjusted for steps and projected into measurements (R191). -/
  | alnStage (util : Fin 1001)
  /-- In the CTL window, the due loop slots are evaluated in ascending order (R56). -/
  | ctlStage (util : Fin 1001)
  /-- In the ACT window, the profile axis samples, telegram contents and output references are formed (R42). -/
  | actStage (util : Fin 1001)
  /-- In the SUP window, the supervision runs, the lane digests are compared and one slot's checks are verified (R42). -/
  | supStage (util : Fin 1001) (mis : BitVec 4)
  /-- At minor tick + 230 µs, the ACT outputs that SUP passed are copied to the output units, or the release is omitted (R44). -/
  | release (mis : Bool)
  /-- In the EST window, the estimator sorts and processes its measurements, updates the tracks and forms the records (R217). -/
  | estStage (util : Fin 1001)
  /-- In the ALC window, the DP-axis step, the main allocation solve and the consequence solves run (R45). -/
  | alcStage (util : Fin 1001) (mis : BitVec 2)
  /-- In the MIR window, the status record, mirror set and notices are sent and the role rules are evaluated (R487). -/
  | mirStage (util : Fin 1001) (mis : BitVec 3) (peers : List PeerRec)
  /-- Jig runs its background self-tests in the JIG window and in the idle margin (R498). -/
  | jigStage (util : Fin 1001) (fail : BitVec 16) (ecc : Nat) (cyc : Option Nat)
  /-- A stage reaches the end of its window unfinished, is stopped and has its output marked stale (R54). -/
  | stageOverrun (stage : Fin 9) (done : Fin 129) (cic : List (List Int)) (one : Option (Fin 2 × Fin 1001))
  /-- A write of FRM_CTRL.START sets STARTING (R65). -/
  | frmStart
  /-- At the first major tick with the time base READY, the sequencer starts running (R65). -/
  | sequencerStart
  /-- A write of FRM_CTRL.HOLD defers or releases the pending per-lane values (R64). -/
  | frmHold (hold : Bool)
  /-- A W1C write clears a latched stage fault and its overrun counter (R59). -/
  | frmFaultClear (mask : BitVec 9)
  /-- A write that sets ARM schedules forced overruns, or is discarded (R73). -/
  | frmInjectArm (stage : BitVec 4) (count : BitVec 2)
  /-- Once the PLL has locked, the counter is loaded from the RTC and TIM_STATUS.READY is set (R99). -/
  | timeCounterLoad
  /-- A GNSS time solution gives an offset; the servo and the discipline state machine are updated (R92). -/
  | gnssOffsetMeasurement (valid bds : Bool) (ofs : Int)
  /-- A Sync on the SLAVE port gives an offset to the servo (R92). -/
  | ptpSyncReceived (p : Fin 4) (sy : PtpSync)
  /-- Three announced Sync intervals pass without a Sync, so the PTP source is lost (R93). -/
  | ptpSyncTimeout
  /-- The holdover uncertainty passes LIMIT, which sets HOLD_EXCEEDED and raises event 23 (R98). -/
  | holdoverLimit
  /-- A write of TIM_DISC changes the discipline mode at once (R96). -/
  | timDiscWrite (val : Word)
  /-- A host step request is accepted as pending or refused (R100). -/
  | timStepGo
  /-- A pending step is applied at a slow tick and the frame grid re-anchors (R95). -/
  | timeStep
  /-- Arming a compare unit with a target already reached fires it at the next edge and sets LATE (R84). -/
  | compareArm (c : Fin 16)
  /-- A compare unit reaches its target, drives TRIGc active and enters a pending instant (R81). -/
  | compareFire (c : Fin 16)
  /-- A TRIGc pulse reaches its width and returns to the inactive level (R82). -/
  | trigPulseEnd (c : Fin 16)
  /-- A qualifying edge on TSCAPn is captured to the alignment unit and the host FIFO (R88). -/
  | captureEdge (n : Fin 32) (rising : Bool)
  /-- A read of TIM_CAPFIFO_LO removes and returns the oldest capture (R90). -/
  | timCapfifoRead (port : Fin 2)
  /-- A read of TIM_NOW_NS latches SEC, SUB and LinNs into the shadow (R78). -/
  | timNowRead (port : Fin 2)
  /-- A port's link goes up or down (R103). -/
  | ethLinkChange (p : Fin 4) (up : Bool)
  /-- At the next minor tick, the other port of the network becomes active and takes over the queued frames (R103). -/
  | ethFailover (net : Fin 2)
  /-- The primary port has had link for 10 s and becomes active again (R103). -/
  | ethFailback (net : Fin 2)
  /-- A received frame is checked and dispatched to PTP, the parser, the island, the host or the drop counter (R105). -/
  | ethFrameReceived (p : Fin 4) (good : Bool) (frac : Fin 5) (bytes : List Byte)
  /-- A port starts the next queued frame of the highest priority class (R104). -/
  | ethFrameSend (p : Fin 4) (frac : Fin 5)
  /-- An Announce is evaluated by the best master clock algorithm and port states may change (R110). -/
  | ptpAnnounceReceived (p : Fin 4) (domain : Fin 256) (ds : PtpSet)
  /-- No Announce has arrived for 3 intervals and the port states are re-evaluated (R106). -/
  | ptpAnnounceTimeout (p : Fin 4)
  /-- A due PTP message is sent, one-step, with its egress time inserted (R108). -/
  | ptpMessageTransmit (p : Fin 4) (kind : PtpKind) (frac : Fin 5)
  /-- A multicast datagram is checked, deduplicated and passed to the signal chain (R112). -/
  | iec450Datagram (p : Fin 4) (g : Fin 16) (frac : Fin 5) (bytes : List Byte)
  /-- A membership query is answered with IGMPv2 reports (R111). -/
  | igmpQuery (p : Fin 4)
  /-- Writing GNS_CTRL.EN = 1 powers the radio die and starts the baseband (R155). -/
  | gnssEnable
  /-- The RF PLL locks; GNS_STATUS.READY is set and the start type is decided (R155). -/
  | gnssRfPllLock (pos10 pos100 : Bool)
  /-- Writing EN = 0 stops all channels at the next major tick (R156). -/
  | gnssDisable
  /-- A RESTART command discards aiding data for a hot, warm or cold restart (R128). -/
  | gnssRestart (kind : Fin 4)
  /-- An acquisition dwell ends with a detection, a verification or an exhausted search (R127). -/
  | acqDwellComplete (n : Fin 192) (snap : Nat) (bins : List (List AcqPass))
  /-- A channel that exhausted its search is re-queued 1 s later (R122). -/
  | gnssRequeue (n : Fin 192)
  /-- A PULLIN channel meets its lock conditions and enters TRACK (R122). -/
  | gnssTrackLock (n : Fin 192) (ints : List CorrObs)
  /-- PULLIN_T elapses without TRACK and the channel returns to ACQ (R122). -/
  | gnssPullinTimeout (n : Fin 192)
  /-- Low C/N0 or loss of code lock lasts LOSS_T and the channel enters REACQ (R122). -/
  | gnssTrackLoss (n : Fin 192) (ints : List CorrObs)
  /-- REACQ_T elapses and the channel returns to ACQ (R122). -/
  | gnssReacqTimeout (n : Fin 192)
  /-- Every 20 ms the carrier phase is checked for a slip (R131). -/
  | cycleSlipCheck (n : Fin 192) (ints : List CorrObs) (jump : Nat)
  /-- At an epoch edge, the NCO states of all channels are latched (R132). -/
  | measurementEpoch
  /-- At epoch + 1 ms, the epoch record is complete and is delivered to the lanes and optionally to the host (R134). -/
  | epochRecordComplete
  /-- At epoch + 8 ms, lane firmware delivers the time, position and heading solutions and the spoofing verdict (R138). -/
  | gnssSolution (sol : GnssSol)
  /-- 60 s pass without a failed test and SPOOF clears (R144). -/
  | spoofClear
  /-- Every 1 ms, a spectrum is computed and the notches engage, follow or release (R141). -/
  | notchSpectrum (k : Fin 4) (agc : BitVec 8) (power : Int) (lines : List SpecLine)
  /-- A chain's JI stays above THR for HOLD, which raises event 35 (R142). -/
  | jamDetect (k : Fin 4)
  /-- At boundary − 40 ms, the time message is issued to the hosts and UART11 (R150). -/
  | ppsTimeMessage
  /-- At the placed instant, PPS_OUT is driven and the internal PPS occurs (R148). -/
  | ppsPulse
  /-- The pulse reaches WIDTH ms and PPS_OUT returns to its inactive level (R149). -/
  | ppsPulseEnd
  /-- A UART sentence ends with CR LF and is checked, parsed and fed to its channels (R164). -/
  | uartSentence (u : Fin 12) (framingError : Bool) (ago : Nat) (bytes : List Byte)
  /-- A qualifying tacho edge delivers a frequency sample (R163). -/
  | tachoEdge (n : Fin 16) (rising : Bool)
  /-- No edge arrives for ZTMO, so the channel delivers 0 and sets ZERO (R163). -/
  | tachoZeroTimeout (n : Fin 96)
  /-- The count since the last sample reaches four times the timeout, which clears VALID (R183). -/
  | sigChannelTimeout (n : Fin 96)
  /-- A write of a SIG_SYNC bit requests a synchronising reset at the next minor tick (R177). -/
  | sigSync (w : Fin 3) (mask : Word) (port : Fin 2)
  /-- A write of CFG.BANK requests a bank switch with a Mitre fade (R180). -/
  | sigBankSwitch (n : Fin 96) (bank : Fin 2)
  /-- A read of SIG_S_n_VAL latches the matching SIG_S_n_STAT (R174). -/
  | sigValRead (n : Fin 96) (port : Fin 2)
  /-- The front-end calibration ends and SIG_STATUS.READY is set (R185). -/
  | afeCalibrationComplete (ok : Bool)
  /-- An overloaded excitation output is switched off and EXC_FAULT is set (R629). -/
  | excOverload (r : Fin 4)
  /-- A write of EN, MODE, KIND, REFSRC or CH restarts the stream's state machine (R196). -/
  | alnStreamReconfigure (n : Fin 32)
  /-- A pending instant not paired within pred + WIN is discarded as a miss (R194). -/
  | pendingInstantExpiry (n : Fin 32)
  /-- A reference track receives no measurement for TMO and becomes LOST (R228). -/
  | trackTimeout (track : Fin 16)
  /-- A write of EST_CTRL.REINIT returns the vessel track to WAITING (R229). -/
  | estReinit
  /-- A pending origin change takes effect for ALN and EST, shifting the states by Δ (R231). -/
  | estOriginChange
  /-- The WIN + 1 frame interval ends and a held origin write becomes pending (R231). -/
  | originDeferExpiry
  /-- A reference OUTVOTED for HOLD becomes SUSPECT (R250). -/
  | outvoteHoldExpiry (ref : Fin 16)
  /-- The contradiction timer reaches HOLD and the reference with the larger RMS becomes SUSPECT (R252). -/
  | contradictionHoldExpiry (heading : Bool)
  /-- A suspect reference stays within bounds for REHAB.TIME and its mark clears (R254). -/
  | rehabExpiry (ref : Fin 16)
  /-- No heading is fused for LOSS_T, which sets NOHDG (R255). -/
  | headingLoss
  /-- No position is fused for DELAY and the vessel track enters GECKO (R256). -/
  | geckoEntry
  /-- Gecko time reaches TLIM and the track passes to WAITING (R259). -/
  | geckoTlim
  /-- A write of a CLR bit clears the SUSPECT mark of a reference (R253). -/
  | estArbClr (mask : BitVec 16)
  /-- A write of CLE_DPAX re-marks the DP axes, or is discarded when it names a slot twice (R264). -/
  | cleDpaxWrite (val : Word)
  /-- CLE_L_n_CMD.PID moves the slot to its PID path (R280). -/
  | cmdPid (n : Fin 48)
  /-- CLE_L_n_CMD.MAIN requests a return to the main path, or is refused (R284). -/
  | cmdMain (n : Fin 48)
  /-- CLE_L_n_CMD.RESTART leaves HELD for the PID path or the main path, or is refused (R284). -/
  | cmdRestart (n : Fin 48)
  /-- CLE_L_n_CMD.PRESET presets the shaper to PV at the next execution (R273). -/
  | cmdPreset (n : Fin 48)
  /-- A write of SEL.BANK requests a checked bank switch (R285). -/
  | cleBankSwitch (n : Fin 48) (bank : Fin 2)
  /-- A write of PIDCHK adopts the staged PID set, or is refused (R285). -/
  | clePidchkCommit (port : Fin 2) (n : Fin 48) (val : Word)
  /-- OSAT holds for SATT consecutive executions, which triggers fallback cause 1 (R280). -/
  | osatSaturationCount (n : Fin 48)
  /-- The blend counter reaches K and the incoming path takes over (R282). -/
  | blendComplete (n : Fin 48)
  /-- A write of CLE_MODE_CMD requests a mode, which is accepted or refused in the DP-axis step (R307). -/
  | modeRequest (m : BitVec 4)
  /-- No joystick write arrives within JTMO, so the joystick demand drops to 0 and JLOST is set (R297). -/
  | joystickTimeout
  /-- A berthed condition fails for 1 s and BERTHED clears (R302). -/
  | berthedClear
  /-- The press gap stays below −GAP for 1 s, which sets PRESSLOSS (R304). -/
  | pressLoss
  /-- ALC_T_i_CMD.FAULT puts the thruster in FAULT (R335). -/
  | alcThrusterFault (i : Fin 16)
  /-- ALC_T_i_CMD.CLRFLT returns an available thruster from FAULT to ACTIVE (R335). -/
  | alcThrusterClrflt (i : Fin 16)
  /-- The crossing count completes XT and the azimuth enters TRANSIT (R324). -/
  | crossingBegin (i : Fin 16)
  /-- The rudder commitment count completes and the rudder changes between AHEAD and ASTERN (R326). -/
  | rudderCommitChange (i : Fin 16)
  /-- At major tick + 60 µs, the envelope of every bus is latched and its state machine advances (R342). -/
  | envelopeLatch
  /-- A FRESH envelope receives no new sample for TMO and becomes STALE (R344). -/
  | envelopeStale (b : Fin 4)
  /-- The infeasible count reaches ALARM_T and the group's alarm is set (R352). -/
  | consequenceAlarm (g : Fin 24)
  /-- The feasible count reaches CLR_T and the group's alarm clears (R352). -/
  | consequenceAlarmClear (g : Fin 24)
  /-- A 6,000-frame station-keeping bin completes (R355). -/
  | energyBinComplete (b : Fin 4)
  /-- An ALC_EN_CTRL.CLR bit clears bus b's counters at the next major tick (R355). -/
  | energyClear (mask : BitVec 4)
  /-- CMD.MOVE starts a move, fills the pending slot, or is refused (R366). -/
  | prfMove (n : Fin 32)
  /-- CMD.STOP plans a stop at A and J (R368). -/
  | prfStop (n : Fin 32)
  /-- CMD.ABORT plans a stop at EA and EJ and discards the pending move (R368). -/
  | prfAbort (n : Fin 32)
  /-- A write of PRF_ABORTALL aborts the named axes with cause 1 (R377). -/
  | prfAbortall (mask : Word)
  /-- CMD.HOME starts homing, or is refused (R378). -/
  | prfHome (n : Fin 32)
  /-- CMD.RESUME restarts FOLLOW from rest on a HALTED axis (R370). -/
  | prfResume (n : Fin 32)
  /-- CMD.CLRFLT takes an axis out of FAULT and clears HOMED (R371). -/
  | prfClrflt (n : Fin 32)
  /-- Plan time reaches the end of the plan and the axis stops at its target or stop point (R363). -/
  | moveComplete (n : Fin 32)
  /-- An axis input is stable for DEB × 4 samples, so its debounced level changes and the edge is latched (R373). -/
  | axinDebouncedChange (i : Fin 48) (level : Bool) (samples : Nat)
  /-- The chatter counter reaches CHLIM, which sets CHATTER (R375). -/
  | inputChatter (i : Fin 48) (changes : Nat)
  /-- The step timer expires and a step pulse is emitted (R382). -/
  | stepEdge (o : Fin 16)
  /-- The axis has rested HOLDT ms and the amplitude ramps to AMPH (R383). -/
  | microstepHoldAmplitude (n : Fin 32)
  /-- A write clearing INIT starts bus integration, or is refused (R391). -/
  | canInitClear (n : Fin 8)
  /-- Setting INIT abandons the frame in progress at the next bit boundary (R392). -/
  | canInitSet (n : Fin 8)
  /-- 11 recessive bits are seen and the controller becomes error active (R392). -/
  | canIntegrationComplete (n : Fin 8)
  /-- A received frame is stamped, tapped and accepted into the FIFO or an object (R398). -/
  | canFrameReceived (n : Fin 8) (f : CanFrame) (ago : BitVec 24)
  /-- No valid feedback arrives for FBTMO, which sets FBLOST (R421). -/
  | tlgFeedbackTimeout (t : Fin 16)
  /-- At a start-of-frame opportunity, a candidate is chosen and its attempt begins (R405). -/
  | canTxOpportunity (n : Fin 8)
  /-- An attempt succeeds, fails or loses arbitration; state, counters and error confinement update (R405). -/
  | canTxAttemptEnd (n : Fin 8) (e : CanTxEnd) (ago : BitVec 24)
  /-- A word 19 write with COMMIT copies the staging window to the transmit FIFO tail (R400). -/
  | canTxCommit (port : Fin 2) (n : Fin 8) (sshot : Bool)
  /-- A TXREQ bit requests transmission of a send object (R404). -/
  | canTxreq (n : Fin 8) (w : Fin 4) (mask : Word)
  /-- A CANCEL bit cancels an object's transmission request (R406). -/
  | canCancel (n : Fin 8) (w : Fin 4) (mask : Word)
  /-- CMD.TXFFLUSH cancels every transmit FIFO entry (R406). -/
  | canTxfflush (n : Fin 8)
  /-- CMD.RECOVER starts bus-off recovery (R409). -/
  | canRecover (n : Fin 8)
  /-- 128 occurrences of 11 recessive bits are counted and the controller becomes ACTIVE (R409). -/
  | canRecoveryComplete (n : Fin 8)
  /-- CMD.CLRCNT clears the controller's frame counters (R423). -/
  | canClrcnt (n : Fin 8)
  /-- A read of buffer word 0 locks the buffer for the reading port (R395). -/
  | canBufferLockRead (port : Fin 2) (n : Fin 8) (buf : Fin 128)
  /-- A read of word 19 releases the lock, clears the flags and removes a FIFO entry (R396). -/
  | canBufferReleaseRead (port : Fin 2) (n : Fin 8) (buf : Fin 128)
  /-- A buffer lock held 1 ms is released and LOCKTO is set (R396). -/
  | canLockTimeout (port : Fin 2) (n : Fin 8)
  /-- The protocol clock locks and the message RAM test passes, which sets CAN_STATUS.READY (R422). -/
  | canReady (ok : Bool)
  /-- Each 1 ms island tick samples, processes PDUs, evaluates inputs and contactors, drives outputs and publishes (R429). -/
  | islandTick (a b : Word) (fb rb : BitVec 16) (srst : BitVec 4)
  /-- DCNT reaches T and the input becomes LOCKED (R432). -/
  | discrepancyLock (n : Fin 32)
  /-- Feedback does not reach its expected state by command + TFB, so the contactor becomes LOCKED with LCAUSE 2 (R436). -/
  | contactorFeedbackTimeout (m : Fin 16)
  /-- DELAY ms elapse in DELAY and the contactor passes to STOPPING (R436). -/
  | cat1DelayExpiry (m : Fin 16)
  /-- The tick count reaches a multiple of PERIOD and a send connection forms its PDU (R441). -/
  | safePduSend (c : Fin 8)
  /-- A received safety PDU is validated, classified and accepted or discarded (R442). -/
  | safePduReceived (net : Fin 2) (pdu : List Byte) (at10 : Fin 100)
  /-- The second copy has not arrived within 5 ms and is counted as missing (R443). -/
  | copyWindowExpiry (c : Fin 8)
  /-- No new PDU is accepted for WDT and the connection enters TIMEOUT (R444). -/
  | connectionWatchdogExpiry (c : Fin 8)
  /-- An SRSTr release with a valid press length resets its contactors (R438). -/
  | resetInputRelease (r : Fin 4)
  /-- The press count exceeds MAXP × 100, which sets STUCK (R438). -/
  | resetInputStuck (r : Fin 4)
  /-- A write of SAF_RESET resets contactors with HOSTRST, or is refused (R438). -/
  | safHostReset (mask : BitVec 16)
  /-- A write of SAF_CONNRST takes a connection from MISMATCH to WAIT (R444). -/
  | safConnrst (mask : BitVec 8)
  /-- Each 1 ms window, the three clocks are compared and a fault is reacted to (R426). -/
  | clockMonitorCheck (tcxo rc xtal : Int)
  /-- The island Tadpole verifies its image and the island enters RUN, WAITCFG or SAFE (R427). -/
  | islandBoot
  /-- A lockstep, clock, supply, configuration or image fault puts the island in SAFE and de-energises all contactors (R427). -/
  | islandSafeFault (cause : Fin 5)
  /-- At the first tick after a commit, the island applies the new configuration (R445). -/
  | islandConfigApply (ok : Bool)
  /-- SEC_SEAL_CMD.OPEN starts a password check to open the seal (R452). -/
  | sealOpen (port : Fin 2)
  /-- A password comparison ends; the seal opens or FAILS and back-off advance (R456). -/
  | passwordCheckComplete
  /-- The back-off time runs out and OPEN is accepted again (R456). -/
  | backoffExpiry
  /-- SEC_SEAL_CMD.CLOSE closes the seal and discards the pending changes (R452). -/
  | sealClose (port : Fin 2)
  /-- SEC_SEAL_CMD.COMMIT starts a commit, or is refused (R459). -/
  | sealCommit (port : Fin 2)
  /-- A commit ends with its marker written or with a verify failure (R460). -/
  | commitComplete (ok : Bool)
  /-- SEC_SEAL_CMD.SETPW makes a new password pending, opening the seal in NOPASS (R455). -/
  | sealSetpw (port : Fin 2)
  /-- SEC_SEAL_CMD.ROLL replaces the exported log with one summary entry (R465). -/
  | sealRoll (port : Fin 2)
  /-- SEC_SEAL_CMD.DISCARD empties the pending register copy (R453). -/
  | sealDiscard (port : Fin 2)
  /-- The idle time reaches MIN minutes and the seal closes (R452). -/
  | sealIdleTimeout
  /-- A read of word 23 of entry EXPORTED advances EXPORTED (R465). -/
  | secSealLogwinRead (port : Fin 2) (k : Fin 24)
  /-- At the first major tick after both check sets end, the lane check is decided (R472). -/
  | laneCheckDecision (passA passB : Bool)
  /-- After a transient, Lane A's state is copied into Lane B in place of the next minor frame (R472). -/
  | laneStateCopy
  /-- At the next major tick, the failing lane retires and the module becomes SINGLE_LANE or Retired (R475). -/
  | laneRetire (lane : Fin 2)
  /-- The module check of a split pair is decided within 50 ms (R494). -/
  | moduleCheckDecision (fail : Bool)
  /-- A Kalmer frame is validated, forwarded and taken by TYPE (R477). -/
  | kalmerFrameReceived (l : Fin 2) (bytes : List Byte)
  /-- A Kalmer link goes up or down (R476). -/
  | kalmerLinkChange (l : Fin 2) (up : Bool)
  /-- No status record arrives in LINKTMO MIR windows and the peer is lost (R479). -/
  | peerLost (p : Fin 3)
  /-- A decided role change takes effect at the major tick (R481). -/
  | roleChange
  /-- RED_CMD.CLAIM, with or without FORCE, requests command (R482). -/
  | redClaim (force : Bool)
  /-- RED_CMD.JOIN requests Axolotl resynchronisation (R496). -/
  | redJoin
  /-- RED_CMD.ABANDON returns a joining module to Monitor (R496). -/
  | redAbandon
  /-- RED_CMD.HANDOVER requests a planned hand-over to HOTGT (R489). -/
  | redHandover (target : Fin 4)
  /-- RED_CMD.REJOIN takes a Retired module with a live lane to Monitor (R481). -/
  | redRejoin
  /-- At tick j + 11, the joiner loads the snapshot and enters matching (R496). -/
  | axolotlSnapshotLoad
  /-- 100 consecutive matches make the joiner a Hot Standby (R496). -/
  | axolotlComplete
  /-- The health telegram is sent on Ethernet at minor tick 23 of major frame 0 + 230 µs (R499). -/
  | healthTelegramSend
  /-- At minor tick + 240 µs, the profile words are read and records are formed into the burst buffer (R507). -/
  | recorderSnapshot
  /-- A record is written to its slot and verified, or the slot is marked bad (R513). -/
  | recordWrite (stored : Option (List Byte))
  /-- The MRAM controller fails to complete or reports an uncorrectable error, and the recorder enters FAULT (R515). -/
  | mramControllerFault
  /-- REC_CMD.MARK raises event 215 (R525). -/
  | recMark
  /-- REC_CMD.RECOVER leaves FAULT and copies the last-gasp entries, or is refused (R521). -/
  | recRecover (ok : Bool)
  /-- REC_CMD.CLEAR starts CLEARING, or is refused (R514). -/
  | recClear (port : Fin 2)
  /-- All slots are zeroed and the recorder returns to RUN (R514). -/
  | recorderClearComplete
  /-- At reset, the recorder reads its index and scans for its head before entering RUN or FAULT (R524). -/
  | recorderInit (ok : Bool)
  /-- An SQTAIL doorbell makes descriptors available, or is a doorbell error (R537). -/
  | sqtailDoorbell (p : Fin 2) (q : Fin 16) (v : Word)
  /-- A CQHEAD doorbell frees completion entries and clears interrupts (R537). -/
  | cqheadDoorbell (p : Fin 2) (q : Fin 16) (v : Word)
  /-- A SNAP doorbell requests a counter snapshot at the next minor tick (R561). -/
  | snapDoorbell (p : Fin 2)
  /-- The ring engine fetches a descriptor once completion room exists (R537). -/
  | descriptorFetch (ok : Bool) (bytes : List Byte)
  /-- The NOP descriptor completes without effect (R534). -/
  | nop (p : Fin 2) (q : Fin 16)
  /-- Up to six register writes are applied in one clock cycle (R535). -/
  | regWrite (p : Fin 2) (q : Fin 16)
  /-- Up to ten register reads are performed in one cycle and written to host memory (R535). -/
  | regRead (p : Fin 2) (q : Fin 16)
  /-- The newest, or the next, snapshot bank is copied to host memory (R562). -/
  | snapCopy (p : Fin 2) (q : Fin 16)
  /-- Recorder slots are copied to host memory with check counts (R522). -/
  | recRead (p : Fin 2) (q : Fin 16)
  /-- A buffer of RTCM frames is checked and used (R535). -/
  | rtcmSubmit (p : Fin 2) (q : Fin 16) (bytes : List Byte)
  /-- A host frame is tagged and queued in class 3 on the active port (R535). -/
  | ethTx (p : Fin 2) (q : Fin 16) (bytes : List Byte)
  /-- A receive buffer is posted to a receive ring (R547). -/
  | rxBuf (p : Fin 2) (q : Fin 16)
  /-- A completion is written in submission order once earlier completions are written (R537). -/
  | completionWrite (p : Fin 2) (q : Fin 16) (ok : Bool)
  /-- A failed host-memory access ends a transfer with DMAERR or puts the ring in ERROR (R542). -/
  | dmaError (p : Fin 2) (q : Fin 16)
  /-- A stream item is written to a posted buffer, or is dropped (R547). -/
  | rxItemDelivery
  /-- Setting CFG.EN resets the ring indices, or is refused (R531). -/
  | ringEnable (p : Fin 2) (q : Fin 16) (cfg : Word)
  /-- Clearing CFG.EN stops the ring or returns its buffers (R532). -/
  | ringDisable (p : Fin 2) (q : Fin 16) (cfg : Word)
  /-- A STOPPING command ring has completed its in-flight descriptors and passes to OFF (R532). -/
  | ringStopped (p : Fin 2) (q : Fin 16)
  /-- A read of HIF_SEM_n returns the state and takes a free semaphore (R548). -/
  | hifSemRead (p : Fin 2) (n : Fin 64)
  /-- A write frees an owned semaphore, or is discarded (R549). -/
  | hifSemWrite (p : Fin 2) (n : Fin 64) (v : Word)
  /-- A port reports DL_Up and HIF becomes READY (R528). -/
  | hostLinkUp (p : Fin 2) (wide : Bool) (speed : Fin 3)
  /-- A port loses its link: accesses stop, rings and semaphores are freed, and locks and seal are released (R552). -/
  | hostLinkLoss (p : Fin 2) (kind : Fin 3)
  /-- An asserted vector sends its MSI-X message (R556). -/
  | msixMessage (p : Fin 2) (v : Fin 32) (addr : BitVec 64) (data : Word) (masked fmask : Bool)
  /-- The MOD interval ends and a deferred message is sent (R556). -/
  | msixModerationExpiry (p : Fin 2) (v : Fin 32)
  /-- All 420 counter units are captured at a tick (R559). -/
  | counterSnapshot
  /-- At tick + 20 µs, the snapshot bank is complete and HIF_SNAP_EPOCH names it (R562). -/
  | snapshotBankComplete
  /-- A lane Tadpole verifies, measures and starts the lane image from the chosen slot (R566). -/
  | tadpoleBoot (okA okB : Bool)
  /-- SEC_MR_EXT.GO extends MR6 or MR7 (R571). -/
  | mrExtend (r : Fin 8)
  /-- SEC_ATT_CMD.GO starts an attestation report (R573). -/
  | attestationGo
  /-- The signed report is complete and DONE is set (R574). -/
  | attestationComplete
  /-- A write of SEC_FW_CTRL selects TYPE and PAGE and takes ownership of the update (R575). -/
  | fwCtrlWrite (port : Fin 2) (island : Bool) (page : Fin 64)
  /-- A window write stores image data in the inactive slot (R575). -/
  | fwWindowWrite (port : Fin 2) (w : Fin 16384) (val : Word)
  /-- SEC_FW_CMD.CHECK starts verification of the inactive slot (R575). -/
  | fwCheck (port : Fin 2)
  /-- Verification ends in CHECKED or BAD (R575). -/
  | fwCheckComplete
  /-- SEC_FW_CMD.ACTIVATE marks the checked slot as the trial slot (R575). -/
  | fwActivate (port : Fin 2)
  /-- SEC_FW_CMD.CONFIRM makes the trial slot ACTIVE and raises the minimum SVN (R575). -/
  | fwConfirm (port : Fin 2)
  /-- SEC_FW_CMD.ABORT returns the update to IDLE (R577). -/
  | fwAbort (port : Fin 2)
  /-- SEC_LC_CMD requests a life-cycle transition, or is refused (R579). -/
  | lifecycleCommand (port : Fin 2) (target : Fin 8)
  /-- The OTP step and the erasures complete and PENDING is set (R580). -/
  | lifecycleCommandComplete
  /-- SEC_SS_CMD.WRITE stores the staging entry and its attributes (R582). -/
  | secureStoreWrite
  /-- SEC_SS_CMD.ERASE zeroes the entry (R582). -/
  | secureStoreErase
  /-- A tamper sensor trips, blocking and wiping the secure store and extending MR5 (R584). -/
  | tamperTrip (sensor : Fin 4)
  /-- The backup domain powers up after losing both supplies and takes its bracketed values (R588). -/
  | backupDomainPowerUp
  /-- No crystal pulse arrives for 2 ms, which clears VALID and sets OSCSTOP (R590). -/
  | crystalStop
  /-- A read of RTC_FRAC latches SEC into the shadow (R591). -/
  | rtcFracRead (port : Fin 2)
  /-- A write of HALT stops or restarts the count at the next crystal pulse (R592). -/
  | rtcHalt (halt : Bool)
  /-- At the internal PPS, the RTC is loaded, synchronised or trim-measured (R593). -/
  | internalPps
  /-- A 1,024 s trim window ends and a new VALUE takes effect (R595). -/
  | trimWindowStart
  /-- 1,024 locked PPS intervals are counted and VALUE is written (R596). -/
  | autotrimComplete
  /-- The count reaches AT, so NEXT is copied into OFS and EN clears (R599). -/
  | leapSecond
  /-- RTC_CAL_CMD.TOCAL converts CAL_SEC to a date and time (R598). -/
  | tocal
  /-- RTC_CAL_CMD.FROMCAL converts a date and time to CAL_SEC (R598). -/
  | fromcal
  /-- RTC_CAL_CMD.LIVE converts the latched count (R598). -/
  | live
  /-- VDD_IO33 falls below 2.9 V and the RTC host interface locks (R600). -/
  | ioLockoutEnter
  /-- VDD_IO33 stays above 3.0 V for 1 ms, so READY returns and held events are raised (R600). -/
  | ioLockoutEnd
  /-- SEC reaches RTC_ALARM, which sets ALMF and drives PWR_EN (R601). -/
  | rtcAlarm
  /-- WAKE stays at WAKEPOL for 10 ms, which sets WAKEF (R602). -/
  | wakeInput (level : Bool)
  /-- PWR_CMD.GO requests a lower power state, or is refused (R609). -/
  | powerStateRequest (k : Fin 8)
  /-- Entry steps complete and STATE takes the new code, or a wake cancels the entry (R610). -/
  | powerStateEntry (src : BitVec 17) (late : Bool)
  /-- A wake source fires and the module exits its power state (R612). -/
  | wakeExit (src : BitVec 17) (pulses : Nat)
  /-- The rails reach their thresholds and the module reset is released after 50 ms (R613). -/
  | powerOnReset (pulses : Nat) (bad : BitVec 3)
  /-- A rail monitor trips and resets the module (R613). -/
  | brownOut (rail : Fin 3)
  /-- RESET_N is held low for 10 µs or more and the module is reset (R614). -/
  | resetPin (us : Nat)
  /-- PWR_RST with KEY and MODULE resets the module (R614). -/
  | hostModuleReset (port : Fin 2) (key : BitVec 16)
  /-- PWR_RST with KEY and ISLAND resets the island, or is refused (R614). -/
  | hostIslandReset (port : Fin 2) (key : BitVec 16)
  /-- VDD_SI, VDD_RF or VDD_AFE leaves its range and its function reacts (R613). -/
  | railFault (rail : Fin 3) (lvl : Fin 3)
  /-- A PERST, hot reset or function-level reset resets one host port (R614). -/
  | hostPerst (p : Fin 2) (kind : Fin 3)
  /-- An RF chain sees an ADC overload or its RF PLL loses lock, which sets OVL or PLL_UNLOCK in GNS_RF_k_STATUS and raises event 38 (R157). -/
  | gnssRfFault (k : Fin 4) (ovl pll : Bool)
  /-- A controller detects a bus error while it receives, sends an error flag, raises REC and may enter PASSIVE with event 136 + n (R408). -/
  | canReceiveError (n : Fin 8) (code : Fin 7) (data : Bool) (first : Bool) (more : Fin 64)
  /-- The 32.768 kHz crystal runs again after a stop, and the RTC count resumes while VALID stays clear (R590). -/
  | crystalRestart
  /-- A calendar conversion finishes within 2 µs, writes its outputs and clears RTC_CAL_STAT.BUSY (R598). -/
  | calendarConversionComplete
  deriving DecidableEq, Repr

end Sys2Proof
end

