-- ==== Sys2Proof/Machine/Bits.lean ====
section
/-! DEFINITION. Plain arithmetic on numbers that stand for bit fields: fields of a word, two's complement, byte
order (R17, R18), rounding of quotients (R12), and the check codes CRC-32C (R285) and CRC-64. -/

namespace Sys2Proof.Machine

/-- Bits `hi` to `lo` of a number (R19: bit 0 is the least significant, both ends included). -/
def bitsOf (n hi lo : Nat) : Nat := n / 2 ^ lo % 2 ^ (hi + 1 - lo)

/-- Bit `k` of a number. -/
def bitOf (n k : Nat) : Bool := n / 2 ^ k % 2 == 1

/-- A number with bits `hi` to `lo` replaced by `v`. -/
def setBits (n hi lo v : Nat) : Nat :=
  n - bitsOf n hi lo * 2 ^ lo + (v % 2 ^ (hi + 1 - lo)) * 2 ^ lo

/-- A number with bit `k` set to `b`. -/
def setBit (n k : Nat) (b : Bool) : Nat := setBits n k k (cond b 1 0)

/-- Two's-complement reading of the low `w` bits. -/
def toInt (w n : Nat) : Int :=
  let m := n % 2 ^ w
  if m < 2 ^ (w - 1) then (m : Int) else (m : Int) - 2 ^ w

/-- Two's-complement bits of an integer, modulo 2^w. -/
def ofInt (w : Nat) (x : Int) : Nat := (x % (2 ^ w : Int)).toNat

/-- An integer held inside the signed range of `w` bits. -/
def clampS (w : Nat) (x : Int) : Int := max (-(2 ^ (w - 1) : Int)) (min (2 ^ (w - 1) - 1 : Int) x)

/-- An integer held inside two limits; the lower one wins where they cross. -/
def clampI (lo hi x : Int) : Int := max lo (min hi x)

/-- A counter that stops at its top value. -/
def satInc (top n : Nat) : Nat := if n < top then n + 1 else top

/-- Quotient rounded to nearest, ties to even (R12, convergent rounding); the divisor is positive. -/
def divRne (a : Int) (b : Nat) : Int :=
  let q := a / (b : Int)
  let r := a % (b : Int)
  if 2 * r < b then q else if 2 * r > b then q + 1 else if q % 2 = 0 then q else q + 1

/-- `a / 2^s` rounded to nearest, ties to even. -/
def shrRne (a : Int) (s : Nat) : Int := divRne a (2 ^ s)

/-- Sign of an integer: -1, 0 or 1. -/
def sgn (x : Int) : Int := if x < 0 then -1 else if x > 0 then 1 else 0

/-- Integer square root by digits, on fuel `k` (the bits of the result). -/
def isqrtGo (n : Nat) : Nat → Nat → Nat
  | 0, r => if (r + 1) * (r + 1) ≤ n then r + 1 else r
  | k + 1, r =>
    let r' := r + 2 ^ (k + 1)
    isqrtGo n k (if r' * r' ≤ n then r' else r)

/-- The largest r with r² ≤ n. -/
def isqrt (n : Nat) : Nat := isqrtGo n (Nat.log2 n / 2 + 1) 0

/-- `k` bytes of a number, least significant first (R17). -/
def leBytes : Nat → Nat → List Byte
  | 0, _ => []
  | k + 1, n => BitVec.ofNat 8 n :: leBytes k (n / 256)

/-- `k` bytes of a number, most significant first (wire order, R17). -/
def beBytes (k n : Nat) : List Byte := (leBytes k n).reverse

/-- The number a little-endian byte list spells. -/
def ofLe (l : List Byte) : Nat := l.foldr (fun b acc => b.toNat + 256 * acc) 0

/-- The number a big-endian byte list spells. -/
def ofBe (l : List Byte) : Nat := l.foldl (fun acc b => 256 * acc + b.toNat) 0

/-- `n` bytes of a list from position `i`; bytes past the end read zero. -/
def slice (l : List Byte) (i n : Nat) : List Byte :=
  let t := (l.drop i).take n
  t ++ List.replicate (n - t.length) 0#8

/-- Little-endian field of a structure. -/
def leAt (l : List Byte) (i n : Nat) : Nat := ofLe (slice l i n)

/-- Big-endian field of a structure. -/
def beAt (l : List Byte) (i n : Nat) : Nat := ofBe (slice l i n)

/-- Bytes padded with zeros, or cut, to `n`. -/
def padTo (n : Nat) (l : List Byte) : List Byte := slice l 0 n

/-- A list of bytes with the bytes from position `i` replaced. -/
def spliceAt (l : List Byte) (i : Nat) (x : List Byte) : List Byte :=
  l.take i ++ x ++ l.drop (i + x.length)

/-- Little-endian words as bytes. -/
def wordBytes (ws : List Nat) : List Byte := ws.flatMap (leBytes 4)

/-- Bytes as little-endian words, `k` of them. -/
def bytesWords : Nat → List Byte → List Nat
  | 0, _ => []
  | k + 1, l => leAt l 0 4 :: bytesWords k (l.drop 4)

/-- One bit step of a reflected CRC with the reversed polynomial `p`. -/
def crcBit (p r : Nat) : Nat := if r % 2 = 1 then Nat.xor (r / 2) p else r / 2

/-- One byte of a reflected CRC. -/
def crcByte (p r : Nat) (b : Byte) : Nat :=
  let r0 := Nat.xor r b.toNat
  crcBit p (crcBit p (crcBit p (crcBit p (crcBit p (crcBit p (crcBit p (crcBit p r0)))))))

/-- CRC-32C over bytes: reversed polynomial 0x82F6_3B78, initial value and final inversion all ones (R285). -/
def crc32c (l : List Byte) : Nat := Nat.xor (l.foldl (crcByte 0x82F63B78) 0xFFFFFFFF) 0xFFFFFFFF

/-- CRC-32 of IEEE 802.3 over bytes: reversed polynomial 0xEDB8_8320, initial value and final inversion all ones (R108). -/
def crc32 (l : List Byte) : Nat := Nat.xor (l.foldl (crcByte 0xEDB88320) 0xFFFFFFFF) 0xFFFFFFFF

/-- The value with key `k` in a list of pairs. -/
def find1 {α : Type} (l : List (Nat × α)) (k : Nat) : Option α := l.lookup k

/-- Inserts a pair in a list with rising keys; an equal key is replaced. -/
def insertAsc {α : Type} (k : Nat) (v : α) : List (Nat × α) → List (Nat × α)
  | [] => [(k, v)]
  | (o, w) :: t => if k < o then (k, v) :: (o, w) :: t else if o = k then (k, v) :: t else (o, w) :: insertAsc k v t

/-- Removes every pair with key `k`. -/
def eraseKey {α : Type} (k : Nat) (l : List (Nat × α)) : List (Nat × α) := l.filter (fun p => p.1 != k)

/-- Puts a pair in place of every pair with its key. -/
def putKey {α : Type} (k : Nat) (v : α) (l : List (Nat × α)) : List (Nat × α) := insertAsc k v (eraseKey k l)

/-- The element at an index of a list, or a default. -/
def nth {α : Type} (l : List α) (i : Nat) (d : α) : α := l.getD i d

/-- A list with the element at an index changed. -/
def modNth {α : Type} (l : List α) (i : Nat) (f : α → α) : List α := l.modify i f

/-- A list with the element at an index replaced. -/
def setNth {α : Type} (l : List α) (i : Nat) (v : α) : List α := l.set i v

/-- Zero or one. -/
def b2n (b : Bool) : Nat := cond b 1 0

/-- Bits of a list of Booleans, the first at bit 0. -/
def maskOf : List Bool → Nat
  | [] => 0
  | b :: t => b2n b + 2 * maskOf t

/-- Number of set bits among the low `k` bits. -/
def popcount : Nat → Nat → Nat
  | 0, _ => 0
  | k + 1, n => n % 2 + popcount k (n / 2)

end Sys2Proof.Machine
end

