-- ==== Sys2Proof/Machine/Real.lean ====
section
/-! DEFINITION. Binary floating-point numbers as exact dyadic rationals m · 2^e, with rounding to binary32 and
binary64 (nearest, ties to even). A value that overflows, or the result of an invalid operation, is `bad`. The sign of
zero is not kept (log 30). -/

namespace Sys2Proof.Machine

/-- A dyadic rational `m · 2^e`, or a non-finite value. Canonical values have an odd `m`, or `m = 0` and `e = 0`. [DESIGN CHOICE: log 30] -/
structure Fl where
  /-- Signed significand. -/
  m : Int
  /-- Exponent of two. -/
  e : Int
  /-- Not a finite number. -/
  bad : Bool := false
  deriving DecidableEq, Repr, Inhabited

/-- Zero. -/
def Fl.zero : Fl := ⟨0, 0, false⟩

/-- A non-finite value. -/
def Fl.nan : Fl := ⟨0, 0, true⟩

/-- The number of trailing zero bits of a positive number. -/
def trailZeros (n : Nat) : Nat := Nat.log2 (Nat.land n (2 ^ (Nat.log2 n + 1) - n))

/-- The canonical form of `m · 2^e`. -/
def Fl.mk' (m e : Int) : Fl :=
  if m = 0 then Fl.zero
  else
    let k := trailZeros m.natAbs
    ⟨m / (2 ^ k : Int), e + k, false⟩

/-- An integer as a number. -/
def Fl.ofInt (x : Int) : Fl := Fl.mk' x 0

/-- `x · 2^k`. -/
def Fl.scale (x : Fl) (k : Int) : Fl := if x.bad then x else if x.m = 0 then x else ⟨x.m, x.e + k, false⟩

/-- The significand of a number at exponent `e0`, not above its own exponent. -/
def Fl.at (x : Fl) (e0 : Int) : Int := x.m * 2 ^ (x.e - e0).toNat

/-- The exact sum. -/
def Fl.addX (x y : Fl) : Fl :=
  if x.bad || y.bad then Fl.nan
  else if x.m = 0 then y else if y.m = 0 then x
  else let e0 := min x.e y.e; Fl.mk' (x.at e0 + y.at e0) e0

/-- The negated number. -/
def Fl.neg (x : Fl) : Fl := ⟨-x.m, x.e, x.bad⟩

/-- The exact difference. -/
def Fl.subX (x y : Fl) : Fl := x.addX y.neg

/-- The exact product. -/
def Fl.mulX (x y : Fl) : Fl :=
  if x.bad || y.bad then Fl.nan else if x.m = 0 ∨ y.m = 0 then Fl.zero else ⟨x.m * y.m, x.e + y.e, false⟩

/-- Rounds to `p` significant bits with least exponent `emin` and every magnitude below 2^emax. -/
def Fl.roundTo (p : Nat) (emin emax : Int) (x : Fl) : Fl :=
  if x.bad then Fl.nan
  else if x.m = 0 then Fl.zero
  else
    let n := x.m.natAbs
    let k := Nat.log2 n + 1
    let sh := max ((k : Int) - p) (emin - x.e)
    let y := if sh ≤ 0 then x
      else
        let d := 2 ^ sh.toNat
        let q := n / d
        let r := n % d
        let q' := if 2 * r < d then q else if 2 * r > d then q + 1 else if q % 2 = 0 then q else q + 1
        Fl.mk' (if x.m < 0 then -(q' : Int) else q') (x.e + sh)
    if y.m ≠ 0 ∧ (Nat.log2 y.m.natAbs : Int) + y.e ≥ emax then Fl.nan else y

/-- Rounds to binary64. -/
def Fl.r64 (x : Fl) : Fl := x.roundTo 53 (-1074) 1024
/-- Rounds to binary32. -/
def Fl.r32 (x : Fl) : Fl := x.roundTo 24 (-149) 128

/-- A quotient carried to 70 significant bits with a sticky bit, so that one more rounding is exact. -/
def Fl.divX (x y : Fl) : Fl :=
  if x.bad || y.bad || y.m == 0 then Fl.nan
  else if x.m = 0 then Fl.zero
  else
    let a := x.m.natAbs
    let b := y.m.natAbs
    let sh := 70 + Nat.log2 b - Nat.log2 a
    let q := a * 2 ^ sh / b
    let r := a * 2 ^ sh % b
    let q' := 2 * q + (if r = 0 then 0 else 1)
    let neg := (x.m < 0) != (y.m < 0)
    Fl.mk' (if neg then -(q' : Int) else q') (x.e - y.e - sh - 1)

/-- A square root carried to 70 significant bits with a sticky bit; negative numbers have none. -/
def Fl.sqrtX (x : Fl) : Fl :=
  if x.bad || decide (x.m < 0) then Fl.nan
  else if x.m = 0 then Fl.zero
  else
    let e1 : Int := if x.e % 2 = 0 then 0 else 1
    let n := x.m.natAbs * 2 ^ (e1.toNat) * 2 ^ 140
    let r := isqrt n
    let q := 2 * r + (if r * r = n then 0 else 1)
    Fl.mk' q ((x.e - e1) / 2 - 71)

/-- binary64 sum. [DESIGN CHOICE: log 171] -/
def Fl.add (x y : Fl) : Fl := (x.addX y).r64
/-- binary64 difference. -/
def Fl.sub (x y : Fl) : Fl := (x.subX y).r64
/-- binary64 product. -/
def Fl.mul (x y : Fl) : Fl := (x.mulX y).r64
/-- binary64 quotient. -/
def Fl.div (x y : Fl) : Fl := (x.divX y).r64
/-- binary64 square root. -/
def Fl.sqrt (x : Fl) : Fl := x.sqrtX.r64
/-- binary32 sum. -/
def Fl.addS (x y : Fl) : Fl := (x.addX y).r32
/-- binary32 difference. -/
def Fl.subS (x y : Fl) : Fl := (x.subX y).r32
/-- binary32 product. -/
def Fl.mulS (x y : Fl) : Fl := (x.mulX y).r32
/-- binary32 quotient. -/
def Fl.divS (x y : Fl) : Fl := (x.divX y).r32
/-- binary32 square root. -/
def Fl.sqrtS (x : Fl) : Fl := x.sqrtX.r32

/-- x < y for finite numbers. -/
def Fl.lt (x y : Fl) : Bool := !x.bad && !y.bad && decide ((x.subX y).m < 0)
/-- x ≤ y for finite numbers. -/
def Fl.le (x y : Fl) : Bool := !x.bad && !y.bad && decide ((x.subX y).m ≤ 0)
/-- The number is zero. -/
def Fl.isZero (x : Fl) : Bool := !x.bad && x.m == 0
/-- Magnitude. -/
def Fl.abs (x : Fl) : Fl := ⟨x.m.natAbs, x.e, x.bad⟩
/-- The smaller number. -/
def Fl.min (x y : Fl) : Fl := if y.lt x then y else x
/-- The larger number. -/
def Fl.max (x y : Fl) : Fl := if x.lt y then y else x
/-- Held between two limits. -/
def Fl.clamp (lo hi x : Fl) : Fl := Fl.max lo (Fl.min hi x)
/-- Sign of a number. -/
def Fl.sign (x : Fl) : Int := if x.bad then 0 else sgn x.m

/-- The nearest integer, ties to even. -/
def Fl.rne (x : Fl) : Int := if x.bad then 0 else if 0 ≤ x.e then x.m * 2 ^ x.e.toNat else divRne x.m (2 ^ (-x.e).toNat)
/-- The largest integer not above the number. -/
def Fl.floor (x : Fl) : Int := if x.bad then 0 else if 0 ≤ x.e then x.m * 2 ^ x.e.toNat else x.m / (2 ^ (-x.e).toNat : Int)
/-- The smallest integer not below the number. -/
def Fl.ceil (x : Fl) : Int := -(x.neg.floor)
/-- The integer nearest to zero on the near side. -/
def Fl.trunc (x : Fl) : Int := if x.m < 0 then x.ceil else x.floor

/-- The quotient of two integers as a binary64 number. -/
def Fl.ratio (a b : Int) : Fl := (Fl.ofInt a).div (Fl.ofInt b)

/-- The value of a binary32 bit pattern; infinities and NaNs are `bad`. -/
def Fl.ofBits32 (w : Nat) : Fl :=
  let s := bitOf w 31
  let ex := bitsOf w 30 23
  let f := bitsOf w 22 0
  if ex = 255 then Fl.nan
  else
    let m : Int := if ex = 0 then f else f + 2 ^ 23
    Fl.mk' (if s then -m else m) ((if ex = 0 then (1 : Int) else ex) - 150)

/-- The binary32 bit pattern of a number; a non-finite one gives the quiet NaN 0x7FC0_0000. -/
def Fl.bits32 (x0 : Fl) : Nat :=
  let x := x0.r32
  if x.bad then 0x7FC00000
  else if x.m = 0 then 0
  else
    let n := x.m.natAbs
    let k := Nat.log2 n
    let ex := (k : Int) + x.e
    let s := if x.m < 0 then 2 ^ 31 else 0
    if ex < -126 then s + n * 2 ^ (x.e + 149).toNat
    else s + (ex + 127).toNat * 2 ^ 23 + (n * 2 ^ (23 - k) - 2 ^ 23)

/-- The value of a binary64 bit pattern. -/
def Fl.ofBits64 (w : Nat) : Fl :=
  let s := bitOf w 63
  let ex := bitsOf w 62 52
  let f := bitsOf w 51 0
  if ex = 2047 then Fl.nan
  else
    let m : Int := if ex = 0 then f else f + 2 ^ 52
    Fl.mk' (if s then -m else m) ((if ex = 0 then (1 : Int) else ex) - 1075)

/-- The binary64 bit pattern of a number; a non-finite one gives the quiet NaN. -/
def Fl.bits64 (x0 : Fl) : Nat :=
  let x := x0.r64
  if x.bad then 0x7FF8000000000000
  else if x.m = 0 then 0
  else
    let n := x.m.natAbs
    let k := Nat.log2 n
    let ex := (k : Int) + x.e
    let s := if x.m < 0 then 2 ^ 63 else 0
    if ex < -1022 then s + n * 2 ^ (x.e + 1074).toNat
    else s + (ex + 1023).toNat * 2 ^ 52 + (n * 2 ^ (52 - k) - 2 ^ 52)

end Sys2Proof.Machine
end

