-- ==== Sys2Proof/Config.lean ====
section
/-! DEFINITION. What an implementation fixes, and the free values: opaque constants without a body, so that nothing can be
proved of what they are (log 2). -/

namespace Sys2Proof.Config

/-- A free number, one per draw; each use names its draw. -/
opaque freeNat : Nat → Nat

/-- A free integer, one per draw. -/
opaque freeInt : Nat → Int

/-- A random bit string of the hardware's generator, one per draw: salts and challenges (R454, R581). [DESIGN CHOICE: log 8] -/
opaque random : Nat → Nat

/-- The servo's new frequency estimate after an offset measurement, in FINE units (R94 states its limits, not its law):
of the gains KP and KI, the estimate so far and the offset in ns. -/
opaque servoFreq (kp ki : Nat) (freq ofs : Int) : Int

/-- The servo's phase correction before its slew limit, in FINE units (R94). -/
opaque servoPhase (kp ki : Nat) (freq ofs : Int) : Int

/-- clockAccuracy and offsetScaledLogVariance of the module's own clock dataset (R106 names the comparison, no rule the values). -/
opaque clockAccuracy : Nat
/-- See `clockAccuracy`. -/
opaque clockVariance : Nat

/-- The demodulated component of one resolver sample (R161 gives the product's reference, not its amplitude): of the
frequency setting, the phase setting, the sample's index in the minor frame and the sample. -/
opaque demod (freq phase k : Nat) (x : Int) : Int

/-- The error of the resolver's arc tangent of s and c, BAM (R161 bounds it). -/
opaque resolverError (s c : Int) : Int

/-- The automatic assignment of channel n of ANT1 in a slow frame (R120 names what it is made from, not how): signal code and SV, of the
second of the almanac, the second, the elevation mask, and the enabled systems and bands. -/
opaque gnssAssign (alm : Option Nat) (sec mask sys : Nat) (l5 : Bool) (n : Nat) : Nat × Nat

/-- Elevation of a satellite predicted from an almanac, degrees (R126): of the second of the almanac, the position, the second, the
system and the SV number. -/
opaque elevation (alm : Nat) (pos : Option (Int × Int × Int)) (sec sys sv : Nat) : Int
/-- Doppler of a satellite so predicted, Hz. -/
opaque dopplerAt (alm : Nat) (pos : Option (Int × Int × Int)) (sec sig sv : Nat) : Int

/-- The filter of a carrier loop (R130 names its order and bandwidth): of the loop (FLL assisting the PLL, or the PLL alone), the bandwidths of
FLL and PLL in Hz, the integration in ms, the integrators, the frequency error in Hz / 256 and the phase error in 2^-32 cycle. The new
integrators and the Doppler frequency in Hz / 256. -/
opaque carrierLoop (pullIn : Bool) (fll pll ms : Nat) (filt : Int × Int) (dopp fErr pErr : Int) : (Int × Int) × Int
/-- The first-order filter of the DLL (R130): of the bandwidth in 0.05 Hz, the integration in ms and the discriminator in 2^-16. The
correction of the chip rate in 2^-18 chip/s. -/
opaque codeLoop (bw ms : Nat) (disc : Int) : Int
/-- The C/N0 estimate over the last second, UQ8.8 dB-Hz (R133 names no method): of the powers of P and of the noise correlator, and the
ms, of its integrations. -/
opaque cn0 (l : List (Nat × Nat × Nat)) : Nat

/-- A segment of the Axolotl snapshot whose layout R497 does not give, as the joining module reads it: raw residuals of a reference, from its
768 bytes. (log 373) -/
opaque snapHist : List Byte → List (Nat × List Int)
/-- Numbers of such a segment: of what they are and the segment. (log 373) -/
opaque snapNats : Nat → List Byte → List Nat
/-- Forces of such a segment: of the failure group and the segment. (log 373) -/
opaque snapForces : Nat → List Byte → List (Nat × List Machine.Fl)

/-- Process noise densities and initial variances at basic level (R239 points to R213 and R215, which give none): of the state
index. [DESIGN CHOICE: log 170] -/
opaque estQ (i : Nat) : Machine.Fl
/-- See `estQ`. -/
opaque estP0 (i : Nat) : Machine.Fl

/-- Process noise densities of a GNSS-TC track (R224 names none): of the state index. -/
opaque tcQ (i : Nat) : Machine.Fl

/-- State and covariance with which a GNSS-TC track starts. -/
structure TcStart where
  /-- State. -/
  x : List Machine.Fl
  /-- Covariance. -/
  p : List (List Machine.Fl)
  deriving DecidableEq, Repr, Inhabited

/-- State and covariance before the first epoch update of a GNSS-TC track (R224 states none): of the number of states, the usable
channel records of the epoch and its LinNs. [DESIGN CHOICE: log 170] -/
opaque tcStart (n : Nat) (obs : List (List Nat)) (lin : Nat) : TcStart

/-- What one channel's pseudorange and Doppler say at a place (R224). -/
structure SatObs where
  /-- Unit vector to the satellite, north, east, down. -/
  los : List Machine.Fl
  /-- Pseudorange less the distance of the satellite from the place, m. -/
  range : Machine.Fl
  /-- Its noise variance, m². -/
  rangeVar : Machine.Fl
  /-- Range rate by Doppler less the satellite's own part, m/s. -/
  rate : Machine.Fl
  /-- Its noise variance, m²/s². -/
  rateVar : Machine.Fl
  deriving DecidableEq, Repr, Inhabited

/-- The spec gives neither the satellites' places nor the noise of a pseudorange: of the channel record, LinNs of the epoch, the
local origin and the antenna's place about it, m. [DESIGN CHOICE: log 170] -/
opaque satObs (rec : List Nat) (lin : Nat) (org : Int × Int) (place : List Machine.Fl) : SatObs

/-- Noise variances of a fixed RTK position, m² (R224 states none): of the axis. [DESIGN CHOICE: log 170] -/
opaque rtkVar (axis : Nat) : Machine.Fl

/-- The error of a loop whose exact value does not fit int32 (R268 gives none): of that value. -/
opaque wideError (e : Int) : Int

/-- The number that a result outside int32 leaves in its word, where no rule states one (R193, R203): of that result. -/
opaque wideValue (x : Int) : Int

/-- The result of an overflowing sum whose exact value is zero (R275 names the side of its sign). -/
opaque zeroSide : Int


/-- The rounding slack within which a point lies on a row of a problem (R329, R330 give none). -/
opaque rowSlack : Machine.Fl

/-- DIGEST and SVN of the image placed in production: 0 lane, 1 island (log 22). -/
opaque imageDigest (kind : Nat) : List Byte
/-- See `imageDigest`. -/
opaque imageSvn (kind : Nat) : Nat

/-- An image header's ECDSA P-384 signature over its first 64 bytes verifies under Zhevelo's image key (R565). [DESIGN CHOICE: log 386] -/
opaque imageSigOk (header sig : List Byte) : Bool

/-- A word of the image placed in production, in a slot that the window writes over in part (R575); of the type and the word. -/
opaque imageWord (kind k : Nat) : Nat

/-- The ROM version and the OTP contents other than the device secret, as MR0 takes them (R569 names them, not their bytes): of the
life-cycle state, the steps left, the minimum security versions and the raises left. -/
opaque mr0Bytes (lc steps : Nat) (svnMin raises : List Nat) : List Byte

/-- The bytes that KIND, and the tamper bits or the target state, take in the event record of MR5 (R570 gives no widths). -/
opaque mr5Widths : Nat × Nat

/-- The attestation public key, 24 words (R572). -/
opaque attPub (k : Nat) : Nat

/-- The signature of an attestation report, 96 bytes (R574). -/
opaque attSign (report : List Byte) : List Byte

/-- An RMA token verifies over SERIAL and the challenge (R581). -/
opaque tokenOk (serial : List Nat) (chal : Nat) (token : List Nat) : Bool

end Sys2Proof.Config
end

