-- ==== Sys2Proof/Machine/Trans.lean ====
section
/-! DEFINITION. Sine, cosine, arc tangent, exponential, logarithm and power in binary64: each is computed with 256 fraction bits and
rounded once (R12, R205). [DEDUCED: log 172] -/

namespace Sys2Proof.Machine

/-! ### Numbers with 256 fraction bits -/

/-- One. -/
def fx1 : Int := 2 ^ 256
/-- π. -/
def fxPi : Int := 363771576891766324280234942777729862653393377328392429958772151117938894466185
/-- ln 2. -/
def fxLn2 : Int := 80260960185991308862233904206310070533990667611589946606122867505419956976171
/-- Product. -/
def fxMul (a b : Int) : Int := a * b / fx1
/-- Quotient. -/
def fxDiv (a b : Int) : Int := a * fx1 / b
/-- Square root of a number that is not negative. -/
def fxSqrt (a : Int) : Int := isqrt (a.toNat * 2 ^ 256)
/-- A finite number with its fraction cut at 256 bits. -/
def Fl.fx (x : Fl) : Int := if 0 ≤ x.e + 256 then x.m * 2 ^ (x.e + 256).toNat else x.m / (2 ^ (-(x.e + 256)).toNat : Int)
/-- The binary64 number nearest to one with 256 fraction bits. -/
def flFx (a : Int) : Fl := (Fl.mk' a (-256)).r64
/-- A number below 2^-100 in magnitude. -/
def Fl.tiny (x : Fl) : Bool := x.m == 0 || decide (x.e + Nat.log2 x.m.natAbs < -100)

/-- The sum of a power series whose term k + 1 is term k times `r` over `d k`. -/
def fxSeries (r : Int) (d : Nat → Int) : Nat → Nat → Int → Int
  | 0, _, t => t
  | n + 1, k, t => t + fxSeries r d n (k + 1) (fxMul t r / d k)

/-- Sine of a number within ±π/4. -/
def fxSin0 (r : Int) : Int := fxSeries (-(fxMul r r)) (fun k => ((2 * k + 2) * (2 * k + 3) : Nat)) 30 0 r
/-- Cosine of a number within ±π/4. -/
def fxCos0 (r : Int) : Int := fxSeries (-(fxMul r r)) (fun k => ((2 * k + 1) * (2 * k + 2) : Nat)) 30 0 fx1
/-- Sine of `x` + `q` quarter turns. -/
def fxSin (x : Int) (q : Int) : Int :=
  let n := divRne (2 * x) fxPi.toNat
  let r := x - n * fxPi / 2
  match ((n + q) % 4).toNat with
  | 0 => fxSin0 r
  | 1 => fxCos0 r
  | 2 => -(fxSin0 r)
  | _ => -(fxCos0 r)
/-- Arc tangent of a number of at most 1, its argument halved three times. -/
def fxAtan (t0 : Int) : Int :=
  let half (t : Int) : Int := fxDiv t (fx1 + fxSqrt (fx1 + fxMul t t))
  let t := half (half (half t0))
  let sq := fxMul t t
  let rec go : Nat → Nat → Int → Int
    | 0, _, _ => 0
    | n + 1, k, p => (if k % 2 = 0 then p else -p) / (2 * k + 1 : Nat) + go n (k + 1) (fxMul p sq)
  8 * go 40 0 t
/-- e^x. -/
def fxExp (x : Int) : Fl :=
  let n := x / fxLn2
  let r := x - n * fxLn2
  Fl.mk' (fxSeries r (fun k => (k + 1 : Nat)) 60 0 fx1) (n - 256)
/-- Natural logarithm of a positive number. -/
def Fl.fxLog (x : Fl) : Int :=
  let k := Nat.log2 x.m.natAbs
  let a := x.m * 2 ^ (256 - k)
  let u := fxDiv (a - fx1) (a + fx1)
  let sq := fxMul u u
  let rec go : Nat → Nat → Int → Int
    | 0, _, _ => 0
    | n + 1, i, p => p / (2 * i + 1 : Nat) + go n (i + 1) (fxMul p sq)
  2 * go 90 0 u + (k + x.e) * fxLn2

/-! ### Binary64 functions -/

/-- sin x, x in radians. -/
def Fl.sin (x : Fl) : Fl := if x.bad then Fl.nan else if x.tiny then x.r64 else flFx (fxSin x.fx 0)
/-- cos x, x in radians. -/
def Fl.cos (x : Fl) : Fl := if x.bad then Fl.nan else flFx (fxSin x.fx 1)
/-- Angle of the vector (x, y), radians in (−π, π]; 0 for the zero vector. [DESIGN CHOICE: log 92] -/
def Fl.atan2 (y x : Fl) : Fl :=
  if x.bad || y.bad then Fl.nan
  else if y.m = 0 then (if x.m < 0 then flFx fxPi else Fl.zero)
  else
    let steep := x.abs.lt y.abs
    let q := if steep then x.abs.divX y.abs else y.abs.divX x.abs
    if q.tiny && !steep && decide (0 < x.m) then y.div x
    else
      let a := fxAtan q.fx
      let b := if steep then fxPi / 2 - a else a
      let c := if x.m < 0 then fxPi - b else b
      flFx (if y.m < 0 then -c else c)
/-- e^x. -/
def Fl.exp (x : Fl) : Fl := if x.bad then Fl.nan else if 2048 * fx1 < x.fx then Fl.nan else if x.fx < -2048 * fx1 then Fl.zero else (fxExp x.fx).r64
/-- Natural logarithm; a number that is not positive has none. -/
def Fl.log (x : Fl) : Fl := if x.bad || decide (x.m ≤ 0) then Fl.nan else flFx x.fxLog
/-- x^y for a positive x. -/
def Fl.pow (x y : Fl) : Fl :=
  if x.bad || y.bad || decide (x.m < 0) then Fl.nan
  else if y.m = 0 then Fl.ofInt 1
  else if x.m = 0 then Fl.zero
  else
    let l := (Fl.mk' x.fxLog (-256)).mulX y
    if 2048 * fx1 < l.fx then Fl.nan else if l.fx < -2048 * fx1 then Fl.zero else (fxExp l.fx).r64

end Sys2Proof.Machine
end

