-- ==== Sys2Proof/Machine/Geom.lean ====
section
/-! DEFINITION. Vectors, rotations and the ellipsoid in binary64 (R203 to R205). -/

namespace Sys2Proof.Machine

open Sys2Proof

/-- π as a binary64 number. -/
def flPi : Fl := ⟨884279719003555, -48, false⟩
/-- BAM32 (a number of 2^-32 turns) to radians. -/
def bamRad (x : Fl) : Fl := (x.mul flPi).scale (-31)
/-- Radians to BAM32, rounded once. -/
def radBam (x : Fl) : Nat := ofInt 32 ((x.div flPi).scale 31).rne
/-- Radians to a signed BAM32 difference. -/
def radBamS (x : Fl) : Int := toInt 32 (radBam x)

/-- A vector of three numbers. -/
structure V3 where
  /-- x or north. -/
  x : Fl
  /-- y or east. -/
  y : Fl
  /-- z or down. -/
  z : Fl
  deriving DecidableEq, Repr

/-- Sum of vectors. -/
def V3.add (a b : V3) : V3 := ⟨a.x.add b.x, a.y.add b.y, a.z.add b.z⟩
/-- Dot product. -/
def V3.dot (a b : V3) : Fl := ((a.x.mul b.x).add (a.y.mul b.y)).add (a.z.mul b.z)
/-- A vector of integers. -/
def V3.ofInts (a b c : Int) : V3 := ⟨Fl.ofInt a, Fl.ofInt b, Fl.ofInt c⟩

/-- A 3 × 3 matrix by rows. -/
structure M3 where
  /-- First row. -/
  r0 : V3
  /-- Second row. -/
  r1 : V3
  /-- Third row. -/
  r2 : V3
  deriving DecidableEq, Repr

/-- Matrix times vector. -/
def M3.app (m : M3) (v : V3) : V3 := ⟨m.r0.dot v, m.r1.dot v, m.r2.dot v⟩
/-- Transposed matrix. -/
def M3.tr (m : M3) : M3 := ⟨⟨m.r0.x, m.r1.x, m.r2.x⟩, ⟨m.r0.y, m.r1.y, m.r2.y⟩, ⟨m.r0.z, m.r1.z, m.r2.z⟩⟩
/-- Matrix product. -/
def M3.mul (a b : M3) : M3 :=
  let t := b.tr
  ⟨⟨a.r0.dot t.r0, a.r0.dot t.r1, a.r0.dot t.r2⟩, ⟨a.r1.dot t.r0, a.r1.dot t.r1, a.r1.dot t.r2⟩,
   ⟨a.r2.dot t.r0, a.r2.dot t.r1, a.r2.dot t.r2⟩⟩

/-- Rz(ψ). -/
def rotZ (c s : Fl) : M3 := ⟨⟨c, s.neg, Fl.zero⟩, ⟨s, c, Fl.zero⟩, ⟨Fl.zero, Fl.zero, Fl.ofInt 1⟩⟩
/-- Ry(θ). -/
def rotY (c s : Fl) : M3 := ⟨⟨c, Fl.zero, s⟩, ⟨Fl.zero, Fl.ofInt 1, Fl.zero⟩, ⟨s.neg, Fl.zero, c⟩⟩
/-- Rx(φ). -/
def rotX (c s : Fl) : M3 := ⟨⟨Fl.ofInt 1, Fl.zero, Fl.zero⟩, ⟨Fl.zero, c, s.neg⟩, ⟨Fl.zero, s, c⟩⟩

/-- The attitude matrix C = Rz(ψ)·Ry(θ)·Rx(φ), angles in radians (R203). -/
def attMatrix (psi theta phi : Fl) : M3 :=
  ((rotZ (Fl.cos psi) (Fl.sin psi)).mul (rotY (Fl.cos theta) (Fl.sin theta))).mul
    (rotX (Fl.cos phi) (Fl.sin phi))

/-- The rotation of a quaternion given in Q2.30 (w, x, y, z). -/
def quatMatrix (qw qx qy qz : Int) : M3 :=
  let f (i : Int) : Fl := (Fl.mk' i (-30))
  let w := f qw; let x := f qx; let y := f qy; let z := f qz
  let one := Fl.ofInt 1
  let t (a b : Fl) : Fl := (a.mul b).scale 1
  ⟨⟨one.sub ((t y y).add (t z z)), (t x y).sub (t w z), (t x z).add (t w y)⟩,
   ⟨(t x y).add (t w z), one.sub ((t x x).add (t z z)), (t y z).sub (t w x)⟩,
   ⟨(t x z).sub (t w y), (t y z).add (t w x), one.sub ((t x x).add (t y y))⟩⟩

/-- Yaw of a rotation, radians. -/
def M3.yaw (m : M3) : Fl := Fl.atan2 m.r1.x m.r0.x

/-- WGS 84 semi-major axis in mm. -/
def wgsA : Fl := Fl.ofInt 6378137000
/-- WGS 84 first eccentricity squared, f (2 - f) with f = 1 / 298.257223563. -/
def wgsE2 : Fl :=
  let f := (Fl.ofInt 1000000000).div (Fl.ofInt 298257223563)
  f.mul ((Fl.ofInt 2).sub f)
/-- 1e-7 degree to radians. -/
def degRad (x : Int) : Fl := ((Fl.ofInt x).mul flPi).div (Fl.ofInt 1800000000)

/-- The meridian and prime-vertical radii at a latitude, mm (R204). -/
def wgsRadii (lat : Int) : Fl × Fl :=
  let sn := Fl.sin (degRad lat)
  let w := (Fl.ofInt 1).sub (wgsE2.mul (sn.mul sn))
  let rt := w.sqrt
  ((wgsA.mul ((Fl.ofInt 1).sub wgsE2)).div (w.mul rt), wgsA.div rt)

/-- North and east of a position about an origin, mm (R204). -/
def northEast (lat lon lat0 lon0 : Int) : Fl × Fl :=
  let r := wgsRadii lat0
  ((degRad (lat - lat0)).mul r.1, ((degRad (lon - lon0)).mul r.2).mul (Fl.cos (degRad lat0)))

end Sys2Proof.Machine
end

