-- ==== Sys2Proof/Machine/RegTab.lean ====
section
/-! DEFINITION. The register tables of the spec: every mapped word of BAR0 with the bits, access type and after-reset value
of its fields (R20, R25, R633, R637). Bits in no field are reserved (R24); offsets in no row are unmapped (R23). -/

namespace Sys2Proof.Machine

/-- The access types of R25. -/
inductive Access where
  | rw | ro | wc | rc | wo | rws | rwh
  deriving DecidableEq, Repr

/-- One field of a register: bits `hi` to `lo`, its access type, its value after reset, and whether it is an expert field
(R30, R642). -/
structure FieldDesc where
  /-- Highest bit. -/
  hi : Nat
  /-- Lowest bit. -/
  lo : Nat
  /-- Access type. -/
  acc : Access
  /-- Value after reset. -/
  reset : Nat
  /-- Marked (expert). -/
  expert : Bool
  deriving DecidableEq, Repr

/-- One register or array of registers: the offset of its first word, the strides and counts of its instances, and its
fields. -/
structure RegDesc where
  /-- BAR0 offset of the first instance. -/
  base : Nat
  /-- Stride and count of each index, the widest stride first. -/
  dims : List (Nat × Nat)
  /-- The fields; none for a reserved word. -/
  fields : List FieldDesc
  deriving DecidableEq, Repr

/-- A basic field. -/
def fb (hi lo : Nat) (a : Access) (r : Nat) : FieldDesc := ⟨hi, lo, a, r, false⟩

/-- An expert field. -/
def fx (hi lo : Nat) (a : Access) (r : Nat) : FieldDesc := ⟨hi, lo, a, r, true⟩

/-- Registers of block GLB, part 0. -/
def tabGlb0 : List RegDesc :=
  [ ⟨0x24, [], [fb 0 0 .wc 0, fb 1 1 .wc 0, fb 2 2 .wc 0, fb 3 3 .wc 0, fb 4 4 .wc 0, fb 5 5 .wc 0, fb 8 8 .ro 0]⟩ -- GLB_ACCERR
  , ⟨0x28, [], [fb 31 0 .ro 0]⟩ -- GLB_ACCADDR
  , ⟨0x20, [], [fb 1 1 .rw 0, fb 2 2 .rw 0, fb 3 3 .rw 0, fb 4 4 .rw 0, fb 5 5 .rw 0, fb 6 6 .rw 0, fb 7 7 .rw 0, fb 8 8 .rw 0, fb 9 9 .rw 0, fb 10 10 .rw 0, fb 11 11 .rw 0, fb 12 12 .rws 0, fb 13 13 .rw 0, fb 14 14 .rw 0, fb 15 15 .rw 0, fb 16 16 .rws 0, fb 17 17 .rw 0, fb 18 18 .rw 0]⟩ -- GLB_LEVEL
  ]

/-- Registers of block GLB. -/
def tabGlb : List RegDesc := tabGlb0

/-- Registers of block FRM, part 0. -/
def tabFrm0 : List RegDesc :=
  [ ⟨0x100000, [], [fb 0 0 .wo 0, fb 1 1 .rw 0]⟩ -- FRM_CTRL
  , ⟨0x100004, [], [fb 0 0 .ro 0, fb 1 1 .ro 0, fb 2 2 .ro 0, fb 3 3 .ro 0, fb 13 8 .ro 0, fb 22 16 .ro 0]⟩ -- FRM_STATUS
  , ⟨0x100008, [], [fb 31 0 .ro 0]⟩ -- FRM_MAJCNT_LO
  , ⟨0x10000C, [], [fb 31 0 .ro 0]⟩ -- FRM_MAJCNT_HI
  , ⟨0x100010, [], [fb 8 0 .wc 0]⟩ -- FRM_OVR
  , ⟨0x100014, [], [fb 8 0 .wc 0]⟩ -- FRM_FAULT
  , ⟨0x100018, [], [fb 15 0 .ro 0, fb 31 16 .ro 0]⟩ -- FRM_REANCHOR
  , ⟨0x10001C, [], [fx 3 0 .rw 0, fx 5 4 .rw 0, fx 8 8 .rw 0]⟩ -- FRM_INJECT
  , ⟨0x100020, [], [fb 9 0 .ro 0, fb 25 16 .rc 0]⟩ -- FRM_UTILSUM
  , ⟨0x100040, [(0x4, 9)], [fb 1 0 .ro 0, fb 31 8 .ro 0]⟩ -- FRM_STAGE_s
  , ⟨0x100080, [(0x4, 9)], [fb 9 0 .ro 0, fb 25 16 .rc 0]⟩ -- FRM_UTIL_s
  ]

/-- Registers of block FRM. -/
def tabFrm : List RegDesc := tabFrm0

/-- Registers of block TIM, part 0. -/
def tabTim0 : List RegDesc :=
  [ ⟨0x200000, [], [fb 2 0 .ro 0, fb 5 4 .ro 0, fb 8 8 .ro 0, fb 9 9 .ro 0, fb 10 10 .ro 0, fb 11 11 .wc 0, fb 12 12 .wc 0, fb 13 13 .ro 0]⟩ -- TIM_STATUS
  , ⟨0x200004, [], [fb 2 0 .rw 0, fb 15 4 .rw 100, fb 31 16 .rw 0x3E8]⟩ -- TIM_DISC
  , ⟨0x200008, [], [fb 15 0 .rw 20, fb 31 16 .rw 10]⟩ -- TIM_HOLD
  , ⟨0x20000C, [], [fb 31 0 .ro 0xFFFFFFFF]⟩ -- TIM_HOLDUNC
  , ⟨0x200010, [], [fb 31 0 .ro 0]⟩ -- TIM_INCR
  , ⟨0x200014, [], [fb 31 0 .rw 0]⟩ -- TIM_MANINCR
  , ⟨0x200018, [], [fb 31 0 .ro 0]⟩ -- TIM_OFFSET
  , ⟨0x20001C, [], [fx 15 0 .rw 0x4000, fx 31 16 .rw 0x800]⟩ -- TIM_SERVO
  , ⟨0x200020, [], [fb 29 0 .ro 0]⟩ -- TIM_NOW_NS
  , ⟨0x200024, [], [fb 31 0 .ro 0]⟩ -- TIM_NOW_SEC_LO
  , ⟨0x200028, [], [fb 15 0 .ro 0]⟩ -- TIM_NOW_SEC_HI
  , ⟨0x20002C, [], [fb 31 0 .ro 0]⟩ -- TIM_NOW_SUB
  , ⟨0x200030, [], [fb 31 0 .ro 0]⟩ -- TIM_NOW_LIN_LO
  , ⟨0x200034, [], [fb 31 0 .ro 0]⟩ -- TIM_NOW_LIN_HI
  , ⟨0x200040, [], [fb 31 0 .rw 0]⟩ -- TIM_STEP_NS
  , ⟨0x200044, [], [fb 31 0 .rw 0]⟩ -- TIM_STEP_SEC
  , ⟨0x200048, [], [fb 0 0 .wo 0]⟩ -- TIM_STEP_CTRL
  , ⟨0x200050, [], [fb 31 0 .ro 0]⟩ -- TIM_LASTSTEP_LO
  , ⟨0x200054, [], [fb 31 0 .ro 0]⟩ -- TIM_LASTSTEP_HI
  , ⟨0x200060, [], [fb 31 0 .rw 0]⟩ -- TIM_CAPEDGE_0
  , ⟨0x200064, [], [fb 31 0 .rw 0]⟩ -- TIM_CAPEDGE_1
  , ⟨0x200068, [], [fb 31 0 .rw 0]⟩ -- TIM_CAPHOST
  , ⟨0x20006C, [], [fb 31 0 .ro 0]⟩ -- TIM_CAPFIFO_LO
  , ⟨0x200070, [], [fb 31 0 .ro 0]⟩ -- TIM_CAPFIFO_HI
  ]

/-- Registers of block TIM, part 1. -/
def tabTim1 : List RegDesc :=
  [ ⟨0x200074, [], [fb 9 0 .ro 0]⟩ -- TIM_CAPFIFO_INFO
  , ⟨0x200078, [], [fb 6 0 .ro 0, fb 31 16 .rc 0]⟩ -- TIM_CAPSTAT
  , ⟨0x200100, [(0x20, 16)], [fb 0 0 .rw 0, fb 2 2 .rw 0, fb 3 3 .rw 0, fb 31 8 .rw 0]⟩ -- TIM_CMP_c_CTRL
  , ⟨0x200104, [(0x20, 16)], [fb 0 0 .wc 0, fb 1 1 .wc 0, fb 2 2 .ro 0, fb 31 16 .ro 0]⟩ -- TIM_CMP_c_STATUS
  , ⟨0x200108, [(0x20, 16)], [fb 31 0 .rw 0]⟩ -- TIM_CMP_c_TGT_LO
  , ⟨0x20010C, [(0x20, 16)], [fb 31 0 .rw 0]⟩ -- TIM_CMP_c_TGT_HI
  , ⟨0x200110, [(0x20, 16)], [fb 31 0 .rw 0]⟩ -- TIM_CMP_c_PERIOD
  ]

/-- Registers of block TIM. -/
def tabTim : List RegDesc := tabTim0 ++ tabTim1

/-- Registers of block GNS, part 0. -/
def tabGns0 : List RegDesc :=
  [ ⟨0x300000, [], [fb 0 0 .rw 0, fb 2 1 .wo 0, fb 3 3 .rw 1, fb 4 4 .rw 0, fb 11 8 .rw 15, fb 12 12 .rw 1, fb 13 13 .rw 1]⟩ -- GNS_CTRL
  , ⟨0x300004, [], [fb 0 0 .ro 0, fb 2 1 .ro 0, fb 3 3 .ro 0, fb 4 4 .ro 0, fb 5 5 .ro 0, fb 6 6 .ro 0, fb 9 8 .ro 0, fb 23 16 .ro 0]⟩ -- GNS_STATUS
  , ⟨0x300008, [], [fb 1 0 .rw 2, fb 4 4 .rw 0, fb 15 8 .rw 10, fb 23 16 .rw 30]⟩ -- GNS_EPCFG
  , ⟨0x30000C, [], [fb 31 0 .ro 0]⟩ -- GNS_EPSEQ
  , ⟨0x300010, [], [fx 7 0 .rw 16, fx 13 8 .rw 8, fx 23 16 .rw 56, fx 27 24 .rw 2]⟩ -- GNS_ACQCFG
  , ⟨0x300014, [], [fb 7 0 .ro 0, fb 31 16 .ro 0]⟩ -- GNS_ACQSTAT
  , ⟨0x300018, [], [fx 7 0 .rw 15, fx 15 8 .rw 20, fx 23 16 .rw 10, fx 26 24 .rw 2]⟩ -- GNS_TRKCFG
  , ⟨0x30001C, [], [fx 7 0 .rw 32, fx 15 8 .rw 64, fx 23 16 .rw 100]⟩ -- GNS_CORRCFG
  , ⟨0x300020, [], [fx 7 0 .rw 22, fx 15 8 .rw 20, fx 23 16 .rw 50, fx 31 24 .rw 100]⟩ -- GNS_LOSS
  , ⟨0x300024, [], [fb 15 0 .rw 0]⟩ -- GNS_ANTDLY
  , ⟨0x300030, [], [fb 31 0 .rw 0]⟩ -- GNS_BASE_LEN
  , ⟨0x300034, [], [fb 31 0 .rw 0]⟩ -- GNS_BASE_AZ
  , ⟨0x300038, [], [fb 31 0 .rw 0]⟩ -- GNS_BASE_EL
  , ⟨0x30003C, [], [fx 31 0 .rw 0]⟩ -- GNS_IFB
  , ⟨0x300040, [], [fb 0 0 .rw 1, fb 15 8 .rw 15, fb 23 16 .rw 10, fb 31 24 .rw 50]⟩ -- GNS_SPOOFCFG
  , ⟨0x300044, [], [fb 2 0 .ro 0, fb 6 4 .ro 7]⟩ -- GNS_SPOOFSTAT
  , ⟨0x300048, [], [fb 7 0 .rw 30, fb 8 8 .rw 0]⟩ -- GNS_RTCMCFG
  , ⟨0x30004C, [], [fb 15 0 .rc 0, fb 31 16 .rc 0]⟩ -- GNS_RTCMCNT
  , ⟨0x300050, [], [fb 1 0 .rw 0, fb 2 2 .rw 0, fb 3 3 .rw 1, fb 4 4 .rw 1, fb 17 8 .rw 100]⟩ -- GNS_PPSCFG
  , ⟨0x300054, [], [fb 31 0 .rw 0]⟩ -- GNS_PPSOFS
  , ⟨0x300058, [], [fb 31 0 .ro 0]⟩ -- GNS_PPSRES
  , ⟨0x30005C, [], [fb 31 0 .ro 0]⟩ -- GNS_PPSSEQ
  , ⟨0x300100, [(0x20, 4)], [fb 7 0 .ro 0, fb 15 8 .ro 0, fb 19 16 .ro 0, fb 20 20 .wc 0, fb 21 21 .wc 0]⟩ -- GNS_RF_k_STATUS
  , ⟨0x300104, [(0x20, 4)], [fb 7 0 .rw 40, fb 15 8 .rw 10, fb 23 16 .rw 60, fb 31 24 .rw 10]⟩ -- GNS_RF_k_JAMCFG
  ]

/-- Registers of block GNS, part 1. -/
def tabGns1 : List RegDesc :=
  [ ⟨0x300108, [(0x20, 4), (0x4, 4)], [fb 1 0 .rw 1, fb 3 2 .rw 1, fb 4 4 .ro 0, fb 31 8 .rw 0]⟩ -- GNS_RF_k_NOTCH_j
  , ⟨0x300118, [(0x20, 4)], [fb 7 0 .rc 0]⟩ -- GNS_RF_k_JAMMAX
  , ⟨0x301000, [(0x8, 192)], [fb 3 0 .rw 0, fb 15 8 .rw 0, fb 16 16 .rw 0]⟩ -- GNS_CH_n_CFG
  , ⟨0x301004, [(0x8, 192)], [fb 2 0 .ro 0, fb 3 3 .ro 0, fb 15 8 .ro 0, fb 23 16 .ro 0, fb 31 24 .ro 0]⟩ -- GNS_CH_n_STATUS
  ]

/-- Registers of block GNS. -/
def tabGns : List RegDesc := tabGns0 ++ tabGns1

/-- Registers of block SIG, part 0. -/
def tabSig0 : List RegDesc :=
  [ ⟨0x400000, [], [fb 0 0 .ro 0, fb 1 1 .ro 0, fb 7 4 .ro 0]⟩ -- SIG_STATUS
  , ⟨0x400004, [], [fb 0 0 .wc 0, fb 1 1 .wc 0, fb 2 2 .wc 0, fb 3 3 .wc 0]⟩ -- SIG_ERR
  , ⟨0x400008, [], [fb 3 0 .rw 0, fb 4 4 .rw 0, fb 15 8 .rw 40]⟩ -- SIG_EXC
  , ⟨0x400010, [(0x4, 3)], [fb 31 0 .wo 0]⟩ -- SIG_SYNC_w
  , ⟨0x400020, [(0x4, 4)], [fb 0 0 .rw 0, fb 15 8 .rw 64, fx 31 16 .rw 0]⟩ -- SIG_RES_r_CFG
  , ⟨0x400040, [(0x8, 12)], [fb 2 0 .rw 0, fb 3 3 .rw 0, fb 4 4 .rw 1]⟩ -- SIG_UART_u_CFG
  , ⟨0x400044, [(0x8, 12)], [fb 15 0 .rc 0, fb 31 16 .rc 0]⟩ -- SIG_UART_u_CNT
  , ⟨0x4000C0, [(0x4, 16)], [fb 28 0 .rw 0, fb 29 29 .rw 0]⟩ -- SIG_CANID_m
  , ⟨0x401000, [(0x10, 96)], [fb 0 0 .rw 0, fb 3 1 .rw 0, fb 4 4 .rw 0, fb 5 5 .rw 0, fb 6 6 .rw 0, fb 15 8 .rw 8, fb 23 16 .rw 0, fb 27 24 .rw 0, fb 31 28 .rw 0]⟩ -- SIG_S_n_CFG
  , ⟨0x401004, [(0x10, 96)], [fb 2 0 .rw 0, fb 31 4 .rw 0]⟩ -- SIG_S_n_SRC
  , ⟨0x401008, [(0x10, 96)], [fb 31 0 .ro 0]⟩ -- SIG_S_n_VAL
  , ⟨0x40100C, [(0x10, 96)], [fb 0 0 .ro 0, fb 1 1 .ro 0, fb 2 2 .ro 0, fb 3 3 .ro 0, fb 4 4 .ro 0, fb 5 5 .wc 0, fb 6 6 .wc 0, fb 7 7 .ro 0, fb 8 8 .ro 0, fb 9 9 .ro 0, fb 10 10 .ro 0, fb 11 11 .wc 0, fb 12 12 .ro 0, fb 23 16 .ro 0]⟩ -- SIG_S_n_STAT
  , ⟨0x420000, [(0x400, 96), (0x200, 2)], [fx 5 0 .rw 16]⟩ -- SIG_S_n_B_b_NTAPS
  , ⟨0x420004, [(0x400, 96), (0x200, 2)], [fb 31 0 .rw 1]⟩ -- SIG_S_n_B_b_GAIN
  , ⟨0x420008, [(0x400, 96), (0x200, 2)], [fb 4 0 .rw 0]⟩ -- SIG_S_n_B_b_SHIFT
  , ⟨0x42000C, [(0x400, 96), (0x200, 2)], [fb 31 0 .rw 0]⟩ -- SIG_S_n_B_b_OFFSET
  , ⟨0x420010, [(0x400, 96), (0x200, 2), (0x4, 63)], [fx 31 0 .rw 0]⟩ -- SIG_S_n_B_b_TAP_j
  ]

/-- Registers of block SIG. -/
def tabSig : List RegDesc := tabSig0

/-- Registers of block ALN, part 0. -/
def tabAln0 : List RegDesc :=
  [ ⟨0x500000, [], [fb 3 0 .rw 3]⟩ -- ALN_CTRL
  , ⟨0x500004, [], [fb 4 0 .rw 0, fb 12 8 .rw 0, fb 16 16 .rw 0]⟩ -- ALN_ATTSRC
  , ⟨0x500008, [], [fb 0 0 .wc 0, fb 1 1 .wc 0, fb 2 2 .wc 0]⟩ -- ALN_ERR
  , ⟨0x50000C, [], [fb 31 0 .ro 0]⟩ -- ALN_STALE
  , ⟨0x500010, [], [fb 9 0 .ro 0, fb 25 16 .rc 0]⟩ -- ALN_LOAD
  , ⟨0x500014, [], [fx 15 0 .rw 0x2000, fx 31 16 .rw 0x400]⟩ -- ALN_GAIN
  , ⟨0x500100, [(0x10, 32)], [fb 0 0 .rw 0, fb 2 1 .rw 0, fb 7 4 .rw 0, fb 12 8 .rw 0, fb 21 16 .rw 8, fb 27 24 .rw 4]⟩ -- ALN_ST_n_CFG
  , ⟨0x500104, [(0x10, 32)], [fb 6 0 .rw 127, fb 14 8 .rw 127, fb 22 16 .rw 127, fb 30 24 .rw 127]⟩ -- ALN_ST_n_CH
  , ⟨0x500108, [(0x10, 32)], [fb 1 0 .ro 0, fb 2 2 .ro 0, fb 11 8 .ro 0, fb 21 16 .ro 0]⟩ -- ALN_ST_n_STAT
  , ⟨0x510000, [(0x40, 32)], [fb 31 0 .rw 0]⟩ -- ALN_ST_n_SDLY
  , ⟨0x510004, [(0x40, 32)], [fb 31 0 .rw 0]⟩ -- ALN_ST_n_LAT0
  , ⟨0x510008, [(0x40, 32), (0x4, 3)], [fb 31 0 .rw 0]⟩ -- ALN_ST_n_LEVER_a
  , ⟨0x510014, [(0x40, 32), (0x4, 4)], [fb 31 0 .rw 0]⟩ -- ALN_ST_n_Q_b
  , ⟨0x510024, [(0x40, 32)], [fb 31 0 .ro 0]⟩ -- ALN_ST_n_OFS
  , ⟨0x510028, [(0x40, 32)], [fb 31 0 .ro 0]⟩ -- ALN_ST_n_RATE
  , ⟨0x51002C, [(0x40, 32)], [fb 31 0 .ro 0]⟩ -- ALN_ST_n_RESID
  , ⟨0x510030, [(0x40, 32)], [fb 15 0 .ro 0, fb 31 16 .ro 0]⟩ -- ALN_ST_n_CNT0
  , ⟨0x510034, [(0x40, 32)], [fb 15 0 .ro 0, fb 31 16 .ro 0]⟩ -- ALN_ST_n_CNT1
  , ⟨0x510038, [(0x40, 32)], [fb 15 0 .ro 0, fb 31 16 .ro 0]⟩ -- ALN_ST_n_CNT2
  , ⟨0x51003C, [(0x40, 32)], [fb 31 0 .ro 0]⟩ -- ALN_ST_n_DELIV
  , ⟨0x520000, [(0x20, 32), (0x4, 8)], [fb 31 0 .ro 0]⟩ -- ALN_ST_n_LAST_w
  ]

/-- Registers of block ALN. -/
def tabAln : List RegDesc := tabAln0

/-- Registers of block EST, part 0. -/
def tabEst0 : List RegDesc :=
  [ ⟨0x600000, [], [fb 0 0 .rw 0, fb 1 1 .wo 0]⟩ -- EST_CTRL
  , ⟨0x600004, [], [fb 2 0 .ro 0, fb 4 4 .ro 0, fb 5 5 .ro 0, fb 11 8 .ro 0, fb 14 12 .ro 0, fb 19 16 .ro 0]⟩ -- EST_STATUS
  , ⟨0x600008, [], [fb 31 0 .rw 0]⟩ -- EST_ORIGIN_LAT
  , ⟨0x60000C, [], [fb 31 0 .rw 0]⟩ -- EST_ORIGIN_LON
  , ⟨0x600010, [], [fb 7 0 .rw 60, fb 15 8 .rw 5, fb 23 16 .rw 5, fb 31 24 .rw 10]⟩ -- EST_QUAL
  , ⟨0x600014, [], [fb 15 0 .rw 0x7D0, fb 23 16 .rw 100]⟩ -- EST_VESSEL
  , ⟨0x600018, [], [fb 15 0 .rw 0x1388]⟩ -- EST_FAR
  , ⟨0x60001C, [], [fb 0 0 .rw 0, fb 12 8 .rw 0, fb 23 16 .rw 10]⟩ -- EST_WIND
  , ⟨0x600020, [], [fb 15 0 .rw 0, fb 31 16 .rw 0]⟩ -- EST_WINDAREA
  , ⟨0x600024, [], [fb 0 0 .wc 0, fb 1 1 .wc 0, fb 2 2 .wc 0, fb 3 3 .wc 0, fb 4 4 .wc 0, fb 5 5 .wc 0]⟩ -- EST_ERR
  , ⟨0x600028, [], [fb 9 0 .ro 0, fb 25 16 .rc 0]⟩ -- EST_LOAD
  , ⟨0x60002C, [], [fb 31 0 .rw 0xDCCCD]⟩ -- EST_PEERTHR
  , ⟨0x600030, [], [fb 7 0 .rw 10, fb 8 8 .rw 1]⟩ -- EST_PEERCFG
  , ⟨0x600100, [(0x20, 12)], [fb 0 0 .rw 0, fb 3 1 .rw 0, fb 4 4 .rw 0, fb 5 5 .rw 0, fb 12 8 .rw 0, fb 20 16 .rw 0]⟩ -- EST_PR_k_CFG
  , ⟨0x600104, [(0x20, 12)], [fb 15 0 .rw 0x3E8, fb 31 16 .rw 200]⟩ -- EST_PR_k_SIGMA
  , ⟨0x600108, [(0x20, 12)], [fb 15 0 .rw 600, fb 23 16 .rw 30]⟩ -- EST_PR_k_TIME
  , ⟨0x60010C, [(0x20, 12)], [fb 31 0 .rw 0]⟩ -- EST_PR_k_REFN
  , ⟨0x600110, [(0x20, 12)], [fb 31 0 .rw 0]⟩ -- EST_PR_k_REFE
  , ⟨0x600280, [(0x10, 4)], [fb 0 0 .rw 0, fb 12 8 .rw 0, fb 31 16 .rw 10]⟩ -- EST_HR_h_CFG
  , ⟨0x600284, [(0x10, 4)], [fb 15 0 .rw 0x3E8, fb 23 16 .rw 30]⟩ -- EST_HR_h_TIME
  , ⟨0x6002C0, [(0x20, 8)], [fb 0 0 .rw 0, fb 1 1 .rw 0, fb 12 8 .rw 0, fb 13 13 .rw 0, fb 31 16 .rw 500]⟩ -- EST_TG_t_CFG
  , ⟨0x6002C4, [(0x20, 8)], [fb 31 0 .rw 0]⟩ -- EST_TG_t_N
  , ⟨0x6002C8, [(0x20, 8)], [fb 31 0 .rw 0]⟩ -- EST_TG_t_E
  , ⟨0x6002CC, [(0x20, 8)], [fb 15 0 .rw 50]⟩ -- EST_TG_t_QA
  ]

/-- Registers of block EST, part 1. -/
def tabEst1 : List RegDesc :=
  [ ⟨0x600400, [(0x20, 3)], [fb 0 0 .ro 0, fb 1 1 .ro 0, fb 2 2 .ro 0, fb 15 8 .ro 0]⟩ -- EST_PEER_p_STAT
  , ⟨0x600404, [(0x20, 3)], [fb 31 0 .ro 0]⟩ -- EST_PEER_p_D2
  , ⟨0x600408, [(0x20, 3)], [fb 31 0 .ro 0]⟩ -- EST_PEER_p_FN
  , ⟨0x60040C, [(0x20, 3)], [fb 31 0 .ro 0]⟩ -- EST_PEER_p_FE
  , ⟨0x600410, [(0x20, 3)], [fb 31 0 .ro 0]⟩ -- EST_PEER_p_SD
  , ⟨0x600414, [(0x20, 3)], [fb 4 0 .ro 0]⟩ -- EST_PEER_p_OMEGA
  , ⟨0x600418, [(0x20, 3)], [fb 31 0 .ro 0]⟩ -- EST_PEER_p_T_LO
  , ⟨0x60041C, [(0x20, 3)], [fb 31 0 .ro 0]⟩ -- EST_PEER_p_T_HI
  , ⟨0x630000, [(0xC, 3), (0x4, 3)], [fx 31 0 .rw 0]⟩ -- EST_M_i_j
  , ⟨0x630024, [(0xC, 3), (0x4, 3)], [fx 31 0 .rw 0]⟩ -- EST_D_i_j
  , ⟨0x630048, [(0x4, 3)], [fx 31 0 .rw 0]⟩ -- EST_WAVE_W_i
  , ⟨0x630054, [(0x4, 3)], [fx 31 0 .rw 0]⟩ -- EST_WAVE_Z_i
  , ⟨0x630060, [(0x4, 3)], [fx 31 0 .rw 0]⟩ -- EST_TB_i
  , ⟨0x630070, [(0x4, 15)], [fx 31 0 .rw 0]⟩ -- EST_Q_s
  , ⟨0x6300B0, [(0x4, 15)], [fx 31 0 .rw 0]⟩ -- EST_P0_s
  , ⟨0x630100, [(0x50, 3), (0x4, 18)], [fx 31 0 .rw 0]⟩ -- EST_WINDC_a_w
  , ⟨0x640000, [], [fb 15 0 .rw 0xBB8, fb 31 16 .rw 200]⟩ -- EST_ARB_CFG
  , ⟨0x640004, [], [fb 7 0 .rw 30, fb 15 8 .rw 60, fb 23 16 .rw 20]⟩ -- EST_ARB_TIME
  , ⟨0x640008, [], [fb 7 0 .rw 20, fb 15 8 .rw 120, fb 19 16 .rw 3]⟩ -- EST_GK_CFG
  , ⟨0x64000C, [], [fb 15 0 .rw 50, fb 31 16 .rw 100]⟩ -- EST_GK_GROW
  , ⟨0x640010, [], [fb 0 0 .ro 0, fb 1 1 .wc 0, fb 27 16 .ro 0]⟩ -- EST_GK_STATUS
  , ⟨0x640014, [], [fb 31 0 .ro 0]⟩ -- EST_GK_UNC
  , ⟨0x640018, [], [fb 3 0 .ro 0, fb 5 4 .ro 0, fb 10 8 .ro 0, fb 13 12 .ro 0, fb 16 16 .ro 0, fb 17 17 .ro 0, fb 18 18 .ro 0]⟩ -- EST_ARB_STATUS
  , ⟨0x64001C, [], [fb 11 0 .rw 0, fb 15 12 .rw 0, fb 27 16 .rw 0, fb 31 28 .rw 0]⟩ -- EST_ARB_OVR
  ]

/-- Registers of block EST, part 2. -/
def tabEst2 : List RegDesc :=
  [ ⟨0x640020, [], [fb 15 0 .wo 0]⟩ -- EST_ARB_CLR
  , ⟨0x640024, [], [fb 15 0 .ro 0]⟩ -- EST_ARB_SUSP
  , ⟨0x640028, [], [fb 11 0 .rw 0, fb 16 16 .rw 1]⟩ -- EST_ARB_SPOOF
  , ⟨0x64002C, [], [fb 0 0 .rw 0, fb 15 8 .rw 30]⟩ -- EST_ARB_REHAB
  , ⟨0x640100, [(0x10, 12)], [fb 7 0 .rw 50, fb 15 8 .rw 10, fb 31 16 .rw 0x7D0]⟩ -- EST_ARB_PR_k_T1
  , ⟨0x640104, [(0x10, 12)], [fb 15 0 .rw 0x7D0, fb 23 16 .rw 10]⟩ -- EST_ARB_PR_k_T2
  , ⟨0x640108, [(0x10, 12)], [fb 31 0 .rw 0xDCCCD]⟩ -- EST_ARB_PR_k_GATE
  , ⟨0x64010C, [(0x10, 12)], [fb 2 0 .ro 0, fb 6 4 .ro 0, fb 31 16 .ro 0]⟩ -- EST_ARB_PR_k_STAT
  , ⟨0x640200, [(0x10, 4)], [fb 7 0 .rw 0, fb 15 8 .rw 10, fb 31 16 .rw 200]⟩ -- EST_ARB_HR_h_T1
  , ⟨0x640204, [(0x10, 4)], [fb 15 0 .rw 100, fb 23 16 .rw 10]⟩ -- EST_ARB_HR_h_T2
  , ⟨0x640208, [(0x10, 4)], [fb 31 0 .rw 0xACCCD]⟩ -- EST_ARB_HR_h_GATE
  , ⟨0x64020C, [(0x10, 4)], [fb 2 0 .ro 0, fb 6 4 .ro 0, fb 31 16 .ro 0]⟩ -- EST_ARB_HR_h_STAT
  , ⟨0x610000, [(0x4, 32)], [fb 31 0 .ro 0]⟩ -- EST_VREC_w
  , ⟨0x610100, [(0x30, 12), (0x4, 12)], [fb 31 0 .ro 0]⟩ -- EST_PRREC_k_w
  , ⟨0x610400, [(0x30, 4), (0x4, 12)], [fb 31 0 .ro 0]⟩ -- EST_HRREC_h_w
  , ⟨0x610500, [(0x30, 8), (0x4, 12)], [fb 31 0 .ro 0]⟩ -- EST_TGREC_t_w
  , ⟨0x620000, [(0x4, 225)], [fb 31 0 .ro 0]⟩ -- EST_COV_w
  ]

/-- Registers of block EST. -/
def tabEst : List RegDesc := tabEst0 ++ tabEst1 ++ tabEst2

/-- Registers of block CLE, part 0. [DESIGN CHOICE: log 63] -/
def tabCle0 : List RegDesc :=
  [ ⟨0x700000, [], [fb 5 0 .rw 0, fb 13 8 .rw 1, fb 21 16 .rw 2, fb 24 24 .rw 1, fb 25 25 .ro 0]⟩ -- CLE_DPAX
  , ⟨0x700004, [], [fb 5 0 .ro 0, fb 13 8 .ro 0, fb 21 16 .ro 0]⟩ -- CLE_STATUS
  , ⟨0x700008, [], [fb 31 0 .ro 0]⟩ -- CLE_PID_LO
  , ⟨0x70000C, [], [fb 15 0 .ro 0]⟩ -- CLE_PID_HI
  , ⟨0x700010, [], [fb 0 0 .wc 0, fb 1 1 .wc 0, fb 2 2 .wc 0, fb 3 3 .wc 0]⟩ -- CLE_ERR
  , ⟨0x700014, [], [fb 31 0 .ro 0]⟩ -- CLE_DPOUT_X
  , ⟨0x700018, [], [fb 31 0 .ro 0]⟩ -- CLE_DPOUT_Y
  , ⟨0x70001C, [], [fb 31 0 .ro 0]⟩ -- CLE_DPOUT_N
  , ⟨0x700100, [(0x20, 48)], [fb 0 0 .rw 0, fb 1 1 .rw 0, fb 2 2 .rw 0, fb 5 4 .rw 0, fb 7 6 .rw 0, fb 14 8 .rw 0, fb 28 16 .rw 1, fb 29 29 .rw 0, fb 30 30 .rw 0]⟩ -- CLE_L_n_CFG
  , ⟨0x700104, [(0x20, 48)], [fb 11 0 .rw 0, fb 20 16 .rw 0, fb 24 24 .rw 0]⟩ -- CLE_L_n_SEL
  , ⟨0x700108, [(0x20, 48)], [fb 31 0 .rw 0]⟩ -- CLE_L_n_SP
  , ⟨0x70010C, [(0x20, 48)], [fb 0 0 .wo 0, fb 1 1 .wo 0, fb 2 2 .wo 0, fb 3 3 .wo 0]⟩ -- CLE_L_n_CMD
  , ⟨0x700110, [(0x20, 48)], [fb 2 0 .ro 0, fb 3 3 .ro 0, fb 6 4 .ro 0, fb 8 8 .ro 0, fb 9 9 .ro 0, fb 10 10 .ro 0, fb 11 11 .wc 0, fb 12 12 .ro 0, fb 13 13 .ro 0, fb 14 14 .ro 0, fb 31 16 .ro 0]⟩ -- CLE_L_n_STAT
  , ⟨0x700114, [(0x20, 48)], [fb 31 0 .ro 0]⟩ -- CLE_L_n_OUT
  , ⟨0x720000, [(0x400, 48), (0x100, 2)], [fx 3 0 .rw 0]⟩ -- CLE_L_n_B_b_CFG
  , ⟨0x720004, [(0x400, 48), (0x100, 2), (0x18, 8), (0x4, 5)], [fx 31 0 .rw 0]⟩ -- CLE_L_n_B_b_S_j_C_i
  , ⟨0x720018, [(0x400, 48), (0x100, 2), (0x18, 8)], [fx 4 0 .rw 0, fx 9 5 .rw 0, fx 14 10 .rw 0, fx 19 15 .rw 0, fx 24 20 .rw 0]⟩ -- CLE_L_n_B_b_S_j_SHIFTS
  , ⟨0x7200C4, [(0x400, 48), (0x100, 2), (0x4, 14)], []⟩ -- CLE_L_n_B_b_RSV_r
  , ⟨0x7200FC, [(0x400, 48), (0x100, 2)], [fx 31 0 .rw 0]⟩ -- CLE_L_n_B_b_CHK
  , ⟨0x720200, [(0x400, 48), (0x4, 5)], [fx 31 0 .rw 0]⟩ -- CLE_L_n_PC_i
  , ⟨0x720214, [(0x400, 48)], [fx 4 0 .rw 0, fx 9 5 .rw 0, fx 14 10 .rw 0, fx 19 15 .rw 0, fx 24 20 .rw 0]⟩ -- CLE_L_n_PSHIFTS
  , ⟨0x720218, [(0x400, 48)], [fx 31 0 .rw 0]⟩ -- CLE_L_n_IMIN
  , ⟨0x72021C, [(0x400, 48)], [fx 31 0 .rw 0]⟩ -- CLE_L_n_IMAX
  , ⟨0x72023C, [(0x400, 48)], [fx 31 0 .rw 0]⟩ -- CLE_L_n_PIDCHK
  ]

/-- Registers of block CLE, part 1. -/
def tabCle1 : List RegDesc :=
  [ ⟨0x720240, [(0x400, 48)], [fb 31 0 .rw 0]⟩ -- CLE_L_n_RATE
  , ⟨0x720244, [(0x400, 48)], [fb 31 0 .rw 0]⟩ -- CLE_L_n_ACC
  , ⟨0x720248, [(0x400, 48)], [fb 31 0 .rw 0]⟩ -- CLE_L_n_JERK
  , ⟨0x72024C, [(0x400, 48)], [fb 31 0 .rw 0x80000000]⟩ -- CLE_L_n_OMIN
  , ⟨0x720250, [(0x400, 48)], [fb 31 0 .rw 0x7FFFFFFF]⟩ -- CLE_L_n_OMAX
  , ⟨0x720254, [(0x400, 48)], [fb 31 0 .rw 0]⟩ -- CLE_L_n_ORATE
  , ⟨0x720258, [(0x400, 48)], [fb 15 0 .rw 200, fb 31 16 .rw 500]⟩ -- CLE_L_n_HOT
  , ⟨0x72025C, [(0x400, 48)], [fb 15 0 .rw 0x3E8, fb 23 16 .rw 70]⟩ -- CLE_L_n_TUNE
  , ⟨0x720280, [(0x400, 48)], [fb 31 0 .ro 0]⟩ -- CLE_L_n_SHP
  , ⟨0x720284, [(0x400, 48)], [fb 31 0 .ro 0]⟩ -- CLE_L_n_SHPV
  , ⟨0x720288, [(0x400, 48)], [fb 31 0 .ro 0]⟩ -- CLE_L_n_E
  , ⟨0x72028C, [(0x400, 48)], [fb 31 0 .ro 0]⟩ -- CLE_L_n_I
  , ⟨0x720290, [(0x400, 48)], [fb 31 0 .ro 0]⟩ -- CLE_L_n_D
  , ⟨0x720294, [(0x400, 48)], [fb 31 0 .ro 0]⟩ -- CLE_L_n_UMAIN
  , ⟨0x720298, [(0x400, 48)], [fb 31 0 .ro 0]⟩ -- CLE_L_n_UPID
  , ⟨0x72029C, [(0x400, 48)], [fb 15 0 .ro 0]⟩ -- CLE_L_n_SATCNT
  , ⟨0x700040, [], [fb 3 0 .wo 0]⟩ -- CLE_MODE_CMD
  , ⟨0x700044, [], [fb 3 0 .ro 0, fb 7 4 .ro 0, fb 10 8 .ro 7, fb 11 11 .ro 0, fb 12 12 .ro 0, fb 13 13 .ro 0, fb 19 16 .ro 0, fb 27 24 .ro 0]⟩ -- CLE_MODE_STAT
  , ⟨0x700048, [], [fb 0 0 .wc 0, fb 1 1 .wc 0]⟩ -- CLE_MODE_ERR
  , ⟨0x70004C, [], [fb 0 0 .rw 0, fb 15 8 .rw 5]⟩ -- CLE_MODE_JOY
  , ⟨0x700050, [], [fb 6 0 .rw 0, fb 14 8 .rw 0, fb 22 16 .rw 0]⟩ -- CLE_MODE_JOYCH
  , ⟨0x700054, [], [fb 31 0 .rw 0]⟩ -- CLE_MODE_JX
  , ⟨0x700058, [], [fb 31 0 .rw 0]⟩ -- CLE_MODE_JY
  , ⟨0x70005C, [], [fb 31 0 .rw 0]⟩ -- CLE_MODE_JN
  ]

/-- Registers of block CLE, part 2. -/
def tabCle2 : List RegDesc :=
  [ ⟨0x700060, [], [fb 31 0 .rw 0]⟩ -- CLE_MODE_SPN
  , ⟨0x700064, [], [fb 31 0 .rw 0]⟩ -- CLE_MODE_SPE
  , ⟨0x700068, [], [fb 31 0 .rw 0]⟩ -- CLE_MODE_SPH
  , ⟨0x70006C, [], [fb 2 0 .rw 0, fb 4 4 .rw 0]⟩ -- CLE_MODE_FT
  , ⟨0x700070, [], [fb 31 0 .rw 0]⟩ -- CLE_MODE_FTN
  , ⟨0x700074, [], [fb 31 0 .rw 0]⟩ -- CLE_MODE_FTE
  , ⟨0x700078, [], [fb 2 0 .rw 0, fb 15 8 .rw 50, fb 23 16 .rw 10, fb 31 24 .rw 30]⟩ -- CLE_MODE_BA
  , ⟨0x70007C, [], [fb 31 0 .rw 0]⟩ -- CLE_MODE_BHDG
  , ⟨0x700080, [], [fb 15 0 .rw 500, fb 31 16 .rw 500]⟩ -- CLE_MODE_BARR
  , ⟨0x700084, [], [fb 15 0 .rw 300, fb 16 16 .rw 0]⟩ -- CLE_MODE_PRESS
  , ⟨0x700088, [], [fb 15 0 .rw 100, fb 31 16 .rw 0x5DC]⟩ -- CLE_MODE_PLIM
  , ⟨0x70008C, [], [fb 15 0 .rw 300]⟩ -- CLE_MODE_PGAP
  , ⟨0x700090, [], [fb 4 0 .rw 0, fb 15 8 .rw 5, fb 23 16 .rw 20]⟩ -- CLE_MODE_TRK
  , ⟨0x730000, [(0x10, 16)], [fb 31 0 .rw 0]⟩ -- CLE_WPT_w_N
  , ⟨0x730004, [(0x10, 16)], [fb 31 0 .rw 0]⟩ -- CLE_WPT_w_E
  , ⟨0x730008, [(0x10, 16)], [fb 31 0 .rw 0]⟩ -- CLE_WPT_w_H
  , ⟨0x73000C, [(0x10, 16)], [fb 15 0 .rw 0]⟩ -- CLE_WPT_w_SPD
  ]

/-- Registers of block CLE. -/
def tabCle : List RegDesc := tabCle0 ++ tabCle1 ++ tabCle2

/-- Registers of block ALC, part 0. -/
def tabAlc0 : List RegDesc :=
  [ ⟨0x800000, [], [fb 0 0 .rw 0, fb 14 8 .rw 64]⟩ -- ALC_CTRL
  , ⟨0x800004, [], [fb 0 0 .ro 0, fb 1 1 .ro 0, fb 2 2 .ro 0, fb 7 4 .ro 0, fb 14 8 .ro 0, fb 21 16 .ro 0, fb 28 24 .ro 0]⟩ -- ALC_STATUS
  , ⟨0x800008, [], [fb 8 0 .ro 0]⟩ -- ALC_SIZE
  , ⟨0x80000C, [], [fb 0 0 .wc 0, fb 1 1 .wc 0]⟩ -- ALC_ERR
  , ⟨0x800010, [], [fx 31 0 .rw 0x186A0]⟩ -- ALC_WX
  , ⟨0x800014, [], [fx 31 0 .rw 0x186A0]⟩ -- ALC_WY
  , ⟨0x800018, [], [fx 31 0 .rw 0]⟩ -- ALC_WN
  , ⟨0x80001C, [], [fx 31 0 .rw 10]⟩ -- ALC_REG
  , ⟨0x800020, [], [fb 15 0 .rw 0x3E8, fb 23 16 .rw 30, fb 31 24 .rw 10]⟩ -- ALC_XCFG
  , ⟨0x800030, [], [fb 31 0 .ro 0]⟩ -- ALC_TAU_X
  , ⟨0x800034, [], [fb 31 0 .ro 0]⟩ -- ALC_TAU_Y
  , ⟨0x800038, [], [fb 31 0 .ro 0]⟩ -- ALC_TAU_N
  , ⟨0x80003C, [], [fb 31 0 .ro 0]⟩ -- ALC_SLACK_X
  , ⟨0x800040, [], [fb 31 0 .ro 0]⟩ -- ALC_SLACK_Y
  , ⟨0x800044, [], [fb 31 0 .ro 0]⟩ -- ALC_SLACK_N
  , ⟨0x800048, [], [fb 31 0 .ro 0]⟩ -- ALC_PTOT
  , ⟨0x800060, [(0x10, 4)], [fb 31 0 .ro 0]⟩ -- ALC_BUS_b_LIM
  , ⟨0x800064, [(0x10, 4)], [fb 31 0 .ro 0]⟩ -- ALC_BUS_b_PWR
  , ⟨0x800068, [(0x10, 4)], [fb 31 0 .ro 0]⟩ -- ALC_BUS_b_PMIN
  , ⟨0x80006C, [(0x10, 4)], [fb 15 0 .ro 0, fb 16 16 .ro 0, fb 17 17 .ro 0]⟩ -- ALC_BUS_b_STAT
  , ⟨0x800100, [(0x10, 16)], [fb 0 0 .rw 0, fb 3 1 .rw 0, fb 5 4 .rw 0, fb 6 6 .rw 1, fb 7 7 .rw 0]⟩ -- ALC_T_i_CFG
  , ⟨0x800104, [(0x10, 16)], [fb 0 0 .wo 0, fb 1 1 .wo 0]⟩ -- ALC_T_i_CMD
  , ⟨0x800108, [(0x10, 16)], [fb 2 0 .ro 0, fb 3 3 .ro 0, fb 4 4 .ro 0, fb 6 5 .ro 0, fb 15 8 .ro 0, fb 31 16 .ro 0]⟩ -- ALC_T_i_STAT
  , ⟨0x810000, [(0x100, 16)], [fb 31 0 .rw 0]⟩ -- ALC_D_i_LX
  ]

/-- Registers of block ALC, part 1. -/
def tabAlc1 : List RegDesc :=
  [ ⟨0x810004, [(0x100, 16)], [fb 31 0 .rw 0]⟩ -- ALC_D_i_LY
  , ⟨0x810008, [(0x100, 16)], [fb 31 0 .rw 0]⟩ -- ALC_D_i_FMAX
  , ⟨0x81000C, [(0x100, 16)], [fb 31 0 .rw 0]⟩ -- ALC_D_i_FREV
  , ⟨0x810010, [(0x100, 16)], [fb 31 0 .rw 0]⟩ -- ALC_D_i_TUP
  , ⟨0x810014, [(0x100, 16)], [fb 31 0 .rw 0]⟩ -- ALC_D_i_TDN
  , ⟨0x810018, [(0x100, 16)], [fb 15 0 .rw 0, fb 22 16 .rw 127]⟩ -- ALC_D_i_SLEW
  , ⟨0x81001C, [(0x100, 16)], [fb 31 0 .rw 0]⟩ -- ALC_D_i_ANG
  , ⟨0x810020, [(0x100, 16)], [fb 15 0 .rw 0, fb 31 16 .rw 0]⟩ -- ALC_D_i_RUD
  , ⟨0x810024, [(0x100, 16), (0x4, 2)], [fb 15 0 .rw 0, fb 31 16 .rw 0]⟩ -- ALC_D_i_FS_s
  , ⟨0x81002C, [(0x100, 16)], [fx 15 0 .rw 256, fx 21 16 .rw 63, fx 29 24 .rw 63]⟩ -- ALC_D_i_WP
  , ⟨0x810030, [(0x100, 16), (0x8, 9), (0x4, 2)], [fb 31 0 .rw 0]⟩ -- ALC_D_i_CURVE_k_h
  , ⟨0x810078, [(0x100, 16), (0x8, 9), (0x4, 2)], [fb 31 0 .rw 0]⟩ -- ALC_D_i_CMD_k_h
  , ⟨0x8100C0, [(0x100, 16), (0x4, 16)], []⟩ -- ALC_D_i_RSV_r
  , ⟨0x800200, [(0x20, 4)], [fb 1 0 .rw 0, fb 14 8 .rw 127, fb 22 16 .rw 127, fb 31 24 .rw 10]⟩ -- ALC_ENV_b_CFG
  , ⟨0x800204, [(0x20, 4)], [fb 7 0 .rw 5]⟩ -- ALC_ENV_b_QUAL
  , ⟨0x800208, [(0x20, 4)], [fb 31 0 .rw 0]⟩ -- ALC_ENV_b_FPA
  , ⟨0x80020C, [(0x20, 4)], [fb 31 0 .rw 0xFFFFFFFF]⟩ -- ALC_ENV_b_FRA
  , ⟨0x800210, [(0x20, 4)], [fb 31 0 .rw 0]⟩ -- ALC_ENV_b_HPA
  , ⟨0x800214, [(0x20, 4)], [fb 31 0 .rw 0xFFFFFFFF]⟩ -- ALC_ENV_b_HRA
  , ⟨0x800218, [(0x20, 4)], [fb 31 0 .ro 0]⟩ -- ALC_ENV_b_PA
  , ⟨0x80021C, [(0x20, 4)], [fb 31 0 .ro 0xFFFFFFFF]⟩ -- ALC_ENV_b_RA
  , ⟨0x800280, [], [fb 7 0 .ro 0, fb 11 8 .wc 0]⟩ -- ALC_ENV_STAT
  , ⟨0x800300, [], [fb 0 0 .rw 1, fb 15 8 .rw 50, fb 23 16 .rw 10]⟩ -- ALC_CQ_CTRL
  , ⟨0x800304, [], [fb 15 0 .rw 10, fb 31 16 .rw 10]⟩ -- ALC_CQ_TOL
  , ⟨0x800308, [], [fx 15 0 .rw 0x1000, fx 31 16 .rw 0x1000]⟩ -- ALC_CQ_SCALE
  ]

/-- Registers of block ALC, part 2. -/
def tabAlc2 : List RegDesc :=
  [ ⟨0x80030C, [], [fb 23 0 .ro 0, fb 24 24 .ro 0, fb 25 25 .ro 0]⟩ -- ALC_CQ_STAT
  , ⟨0x800310, [], [fb 23 0 .ro 0]⟩ -- ALC_CQ_ALARM
  , ⟨0x800314, [], [fb 4 0 .ro 31, fb 31 16 .ro 0]⟩ -- ALC_CQ_WORST
  , ⟨0x800318, [], [fb 31 0 .ro 0]⟩ -- ALC_CQ_REQX
  , ⟨0x80031C, [], [fb 31 0 .ro 0]⟩ -- ALC_CQ_REQY
  , ⟨0x800320, [], [fb 31 0 .ro 0]⟩ -- ALC_CQ_REQN
  , ⟨0x800400, [(0x10, 24)], [fb 15 0 .rw 0, fb 19 16 .rw 0, fb 24 24 .rw 0]⟩ -- ALC_FG_g_CFG
  , ⟨0x800404, [(0x10, 24)], [fb 1 0 .ro 0, fb 2 2 .ro 0, fb 3 3 .ro 0, fb 4 4 .ro 0, fb 11 8 .ro 0, fb 31 16 .ro 0]⟩ -- ALC_FG_g_STAT
  , ⟨0x800408, [(0x10, 24)], [fb 15 0 .ro 0, fb 23 16 .ro 255]⟩ -- ALC_FG_g_MARGIN
  , ⟨0x80040C, [(0x10, 24)], [fb 31 0 .ro 0]⟩ -- ALC_FG_g_SLACK
  , ⟨0x800600, [(0x20, 4)], [fb 6 0 .rw 127, fb 7 7 .ro 0, fb 31 16 .ro 0]⟩ -- ALC_EN_b_CFG
  , ⟨0x800604, [(0x20, 4)], [fb 31 0 .ro 0]⟩ -- ALC_EN_b_SKT
  , ⟨0x800608, [(0x20, 4)], [fb 31 0 .ro 0]⟩ -- ALC_EN_b_TOT_LO
  , ⟨0x80060C, [(0x20, 4)], [fb 31 0 .ro 0]⟩ -- ALC_EN_b_TOT_HI
  , ⟨0x800610, [(0x20, 4)], [fb 31 0 .ro 0]⟩ -- ALC_EN_b_SK_LO
  , ⟨0x800614, [(0x20, 4)], [fb 31 0 .ro 0]⟩ -- ALC_EN_b_SK_HI
  , ⟨0x800618, [(0x20, 4)], [fb 31 0 .ro 0]⟩ -- ALC_EN_b_HOUR
  , ⟨0x80061C, [(0x20, 4)], [fb 31 0 .ro 0]⟩ -- ALC_EN_b_RATE
  , ⟨0x800680, [], [fb 3 0 .wo 0]⟩ -- ALC_EN_CTRL
  , ⟨0x820000, [(0x20, 16), (0x4, 8)], [fb 31 0 .ro 0]⟩ -- ALC_T_i_RES_w
  ]

/-- Registers of block ALC. -/
def tabAlc : List RegDesc := tabAlc0 ++ tabAlc1 ++ tabAlc2

/-- Registers of block PRF, part 0. -/
def tabPrf0 : List RegDesc :=
  [ ⟨0x900000, [], [fb 31 0 .ro 0]⟩ -- PRF_MOVING
  , ⟨0x900004, [], [fb 31 0 .ro 0]⟩ -- PRF_HOMED
  , ⟨0x900008, [], [fb 31 0 .ro 0]⟩ -- PRF_FAULT
  , ⟨0x90000C, [], [fb 31 0 .wo 0]⟩ -- PRF_ABORTALL
  , ⟨0x900010, [], [fb 7 0 .rw 50, fb 15 8 .rw 10, fb 31 16 .rw 0]⟩ -- PRF_STEPCFG
  , ⟨0x900014, [], [fb 31 0 .ro 0]⟩ -- PRF_INRAW_LO
  , ⟨0x900018, [], [fb 15 0 .ro 0]⟩ -- PRF_INRAW_HI
  , ⟨0x90001C, [], [fb 31 0 .ro 0]⟩ -- PRF_INDEB_LO
  , ⟨0x900020, [], [fb 15 0 .ro 0]⟩ -- PRF_INDEB_HI
  , ⟨0x900024, [], [fb 0 0 .wc 0]⟩ -- PRF_ERR
  , ⟨0x900100, [(0x20, 32)], [fb 0 0 .rw 0, fb 1 1 .rw 0, fb 2 2 .rw 0, fb 3 3 .rw 0, fb 5 4 .rw 0, fb 6 6 .rw 0, fb 11 8 .rw 0]⟩ -- PRF_P_n_CFG
  , ⟨0x900104, [(0x20, 32)], [fb 0 0 .wo 0, fb 1 1 .wo 0, fb 2 2 .wo 0, fb 3 3 .wo 0, fb 4 4 .wo 0, fb 5 5 .wo 0]⟩ -- PRF_P_n_CMD
  , ⟨0x900108, [(0x20, 32)], [fb 31 0 .rw 0]⟩ -- PRF_P_n_TGT
  , ⟨0x90010C, [(0x20, 32)], [fb 3 0 .ro 0, fb 4 4 .ro 0, fb 5 5 .wc 0, fb 6 6 .wc 0, fb 7 7 .wc 0, fb 8 8 .wc 0, fb 9 9 .ro 0, fb 10 10 .ro 0, fb 11 11 .ro 0, fb 12 12 .ro 0, fb 13 13 .wc 0, fb 14 14 .wc 0, fb 15 15 .wc 0, fb 18 16 .ro 0, fb 21 19 .ro 0, fb 24 22 .ro 0, fb 25 25 .ro 0, fb 26 26 .ro 0]⟩ -- PRF_P_n_STAT
  , ⟨0x900110, [(0x20, 32)], [fb 31 0 .ro 0]⟩ -- PRF_P_n_POS
  , ⟨0x910000, [(0x80, 32)], [fb 31 0 .rw 0]⟩ -- PRF_P_n_V
  , ⟨0x910004, [(0x80, 32)], [fb 31 0 .rw 0]⟩ -- PRF_P_n_A
  , ⟨0x910008, [(0x80, 32)], [fb 31 0 .rw 0]⟩ -- PRF_P_n_J
  , ⟨0x91000C, [(0x80, 32)], [fb 31 0 .rw 0xFFFFFFFF]⟩ -- PRF_P_n_EA
  , ⟨0x910010, [(0x80, 32)], [fb 31 0 .rw 0xFFFFFFFF]⟩ -- PRF_P_n_EJ
  , ⟨0x910014, [(0x80, 32)], [fb 31 0 .rw 0x80000000]⟩ -- PRF_P_n_SMIN
  , ⟨0x910018, [(0x80, 32)], [fb 31 0 .rw 0x7FFFFFFF]⟩ -- PRF_P_n_SMAX
  , ⟨0x91001C, [(0x80, 32)], [fb 31 0 .rw 0]⟩ -- PRF_P_n_HV
  , ⟨0x910020, [(0x80, 32)], [fb 31 0 .rw 0]⟩ -- PRF_P_n_HOFS
  ]

/-- Registers of block PRF, part 1. -/
def tabPrf1 : List RegDesc :=
  [ ⟨0x910024, [(0x80, 32)], [fb 31 0 .rw 0x7FFFFFFF]⟩ -- PRF_P_n_HMAXD
  , ⟨0x910028, [(0x80, 32)], [fb 5 0 .rw 63, fb 13 8 .rw 63, fb 21 16 .rw 63, fb 24 24 .rw 0, fb 25 25 .rw 0, fb 26 26 .rw 0]⟩ -- PRF_P_n_INSEL
  , ⟨0x91002C, [(0x80, 32)], [fb 5 0 .rw 4, fb 13 8 .rw 4, fb 21 16 .rw 4, fb 31 24 .rw 16]⟩ -- PRF_P_n_DEB
  , ⟨0x910030, [(0x80, 32)], [fb 15 0 .rw 0, fb 31 16 .rw 0]⟩ -- PRF_P_n_AMP
  , ⟨0x910034, [(0x80, 32)], [fb 15 0 .rw 500]⟩ -- PRF_P_n_HOLDT
  , ⟨0x910040, [(0x80, 32)], [fb 31 0 .ro 0]⟩ -- PRF_P_n_VEL
  , ⟨0x910044, [(0x80, 32)], [fb 31 0 .ro 0]⟩ -- PRF_P_n_ACC
  , ⟨0x910048, [(0x80, 32)], [fb 31 0 .ro 0]⟩ -- PRF_P_n_PTGT
  , ⟨0x91004C, [(0x80, 32)], [fb 31 0 .ro 0]⟩ -- PRF_P_n_LATCHPOS
  , ⟨0x910050, [(0x80, 32)], [fb 31 0 .ro 0]⟩ -- PRF_P_n_LATCH_T_LO
  , ⟨0x910054, [(0x80, 32)], [fb 31 0 .ro 0]⟩ -- PRF_P_n_LATCH_T_HI
  , ⟨0x910058, [(0x80, 32)], [fb 7 0 .ro 0, fb 15 8 .ro 0, fb 23 16 .ro 0]⟩ -- PRF_P_n_CHATCNT
  , ⟨0x91005C, [(0x80, 32)], [fb 31 0 .ro 0]⟩ -- PRF_P_n_EOFS
  , ⟨0x920000, [(0x200, 8), (0x4, 128)], [fb 31 0 .rw 0]⟩ -- PRF_MS_a_TBL_w
  ]

/-- Registers of block PRF. -/
def tabPrf : List RegDesc := tabPrf0 ++ tabPrf1

/-- Registers of block CAN, part 0. -/
def tabCan0 : List RegDesc :=
  [ ⟨0xA00000, [(0x100, 8)], [fb 0 0 .rw 1, fb 1 1 .rw 0, fb 2 2 .rw 0, fb 3 3 .rw 0, fb 4 4 .rw 0, fb 6 6 .rw 0, fb 7 7 .rw 0, fb 8 8 .rw 1]⟩ -- CAN_n_CTRL
  , ⟨0xA00004, [(0x100, 8)], [fb 7 0 .rw 0, fb 15 8 .rw 126, fb 22 16 .rw 31, fb 30 24 .rw 31]⟩ -- CAN_n_NBT
  , ⟨0xA00008, [(0x100, 8)], [fb 4 0 .rw 0, fb 12 8 .rw 14, fb 19 16 .rw 3, fb 27 24 .rw 3]⟩ -- CAN_n_DBT
  , ⟨0xA0000C, [(0x100, 8)], [fb 6 0 .rw 16, fb 14 8 .rw 0, fb 22 16 .ro 0, fb 23 23 .wc 0]⟩ -- CAN_n_TDC
  , ⟨0xA00010, [(0x100, 8)], [fb 1 0 .ro 0, fb 2 2 .ro 0, fb 3 3 .ro 0, fb 4 4 .ro 0, fb 5 5 .ro 0, fb 10 8 .rc 0, fb 14 12 .rc 0, fb 16 16 .ro 0]⟩ -- CAN_n_STATUS
  , ⟨0xA00014, [(0x100, 8)], [fb 8 0 .ro 0, fb 22 16 .ro 0, fb 23 23 .ro 0]⟩ -- CAN_n_ERRCNT
  , ⟨0xA00018, [(0x100, 8)], [fb 0 0 .wc 0, fb 1 1 .wc 0, fb 2 2 .wc 0, fb 3 3 .wc 0, fb 4 4 .wc 0]⟩ -- CAN_n_ERR
  , ⟨0xA0001C, [(0x100, 8)], [fb 0 0 .wo 0, fb 1 1 .wo 0, fb 2 2 .wo 0]⟩ -- CAN_n_CMD
  , ⟨0xA00020, [(0x100, 8)], [fb 7 0 .ro 0, fb 31 16 .ro 0]⟩ -- CAN_n_ACKERR
  , ⟨0xA00024, [(0x100, 8)], [fb 7 0 .ro 0, fb 31 16 .ro 0]⟩ -- CAN_n_COLL
  , ⟨0xA00028, [(0x100, 8), (0x4, 4)], [fb 31 0 .ro 0]⟩ -- CAN_n_CNT_k
  , ⟨0xA00038, [(0x100, 8)], [fb 5 0 .ro 0, fb 22 16 .ro 0]⟩ -- CAN_n_FIFO
  , ⟨0xA00040, [(0x100, 8), (0x4, 4)], [fb 31 0 .wo 0]⟩ -- CAN_n_TXREQ_w
  , ⟨0xA00050, [(0x100, 8), (0x4, 4)], [fb 31 0 .wo 0]⟩ -- CAN_n_CANCEL_w
  , ⟨0xA00060, [(0x100, 8), (0x4, 4)], [fb 31 0 .ro 0]⟩ -- CAN_n_TXPEND_w
  , ⟨0xA00070, [(0x100, 8), (0x4, 4)], [fb 31 0 .ro 0]⟩ -- CAN_n_NEWDAT_w
  , ⟨0xA00800, [], [fb 0 0 .ro 0, fb 1 1 .ro 0]⟩ -- CAN_STATUS
  , ⟨0xA01000, [(0x20, 16)], [fb 0 0 .rw 0, fb 3 1 .rw 0, fb 4 4 .rw 1, fb 12 8 .rw 31, fb 21 16 .rw 40, fb 29 24 .rw 0]⟩ -- CAN_TLG_s_CFG
  , ⟨0xA01004, [(0x20, 16)], [fb 28 0 .rw 0, fb 29 29 .rw 0]⟩ -- CAN_TLG_s_CMDID
  , ⟨0xA01008, [(0x20, 16)], [fb 28 0 .rw 0, fb 29 29 .rw 0]⟩ -- CAN_TLG_s_FBID
  , ⟨0xA0100C, [(0x20, 16)], [fb 15 0 .rw 50]⟩ -- CAN_TLG_s_FBTMO
  , ⟨0xA01010, [(0x20, 16)], [fb 15 0 .ro 0, fb 16 16 .ro 0, fb 17 17 .ro 0, fb 18 18 .ro 0, fb 19 19 .ro 0]⟩ -- CAN_TLG_s_STAT
  , ⟨0xA01014, [(0x20, 16)], [fb 15 0 .ro 0, fb 31 16 .ro 0]⟩ -- CAN_TLG_s_RTT
  , ⟨0xA01018, [(0x20, 16)], [fb 15 0 .rc 0, fb 31 16 .rc 0]⟩ -- CAN_TLG_s_CNT
  ]

/-- Registers of block CAN, part 1. -/
def tabCan1 : List RegDesc :=
  [ ⟨0xA20000, [(0x80, 16), (0x4, 32)], [fb 31 0 .ro 0]⟩ -- CAN_TLGREC_s_w
  , ⟨0xA40000, [(0x4000, 8), (0x4, 2560)], [fb 31 0 .rw 0]⟩ -- CAN_n_MRAM_w
  , ⟨0xA43000, [(0x4000, 8), (0x4, 256)], [fb 31 0 .rw 0]⟩ -- CAN_n_MRAM_ID_w
  ]

/-- Registers of block CAN. -/
def tabCan : List RegDesc := tabCan0 ++ tabCan1

/-- Registers of block ETH, part 0. -/
def tabEth0 : List RegDesc :=
  [ ⟨0xB00000, [(0x40, 4)], [fb 0 0 .rw 0, fb 1 1 .rw 0, fb 2 2 .rw 1, fb 3 3 .rw 0]⟩ -- ETH_p_CFG
  , ⟨0xB00004, [(0x40, 4)], [fb 0 0 .ro 0, fb 1 1 .ro 0, fb 7 4 .ro 3, fb 31 16 .ro 0]⟩ -- ETH_p_STATUS
  , ⟨0xB00008, [(0x40, 4)], [fb 31 0 .ro 0]⟩ -- ETH_p_MAC_LO
  , ⟨0xB0000C, [(0x40, 4)], [fb 15 0 .ro 0]⟩ -- ETH_p_MAC_HI
  , ⟨0xB00010, [(0x40, 4)], [fb 31 0 .rw 0]⟩ -- ETH_p_EGRLAT
  , ⟨0xB00014, [(0x40, 4)], [fb 31 0 .rw 0]⟩ -- ETH_p_INGLAT
  , ⟨0xB00018, [(0x40, 4)], [fb 0 0 .rw 0, fb 1 1 .rw 0, fb 2 2 .rw 0, fb 3 3 .rw 0, fb 4 4 .rw 0, fb 11 8 .rw 0, fb 15 12 .rw 1, fb 19 16 .rw 0, fb 30 24 .rw 0]⟩ -- ETH_p_PTPCFG
  , ⟨0xB0001C, [(0x40, 4)], [fb 31 0 .ro 0]⟩ -- ETH_p_PTPDELAY
  , ⟨0xB00020, [(0x40, 4)], [fb 31 0 .ro 0]⟩ -- ETH_p_PTPOFS
  , ⟨0xB00024, [(0x40, 4), (0x4, 4)], [fb 31 0 .ro 0]⟩ -- ETH_p_CNT_k
  , ⟨0xB00034, [(0x40, 4)], [fb 31 0 .rw 0]⟩ -- ETH_p_IP
  , ⟨0xB00200, [], [fb 0 0 .rw 0, fb 1 1 .rw 0, fb 4 4 .rw 0, fb 5 5 .rw 0]⟩ -- ETH_NETCFG
  , ⟨0xB00204, [], [fb 7 0 .rw 128, fb 15 8 .rw 128, fb 16 16 .rw 0]⟩ -- ETH_PTPCLK
  , ⟨0xB00208, [], [fb 11 0 .rw 0, fb 14 12 .rw 0, fb 27 16 .rw 0, fb 30 28 .rw 0]⟩ -- ETH_VLAN
  , ⟨0xB0020C, [], [fb 15 0 .rc 0, fb 31 16 .rc 0]⟩ -- ETH_450DROP
  , ⟨0xB00300, [(0x8, 16)], [fb 31 0 .rw 0]⟩ -- ETH_450GRP_g_ADDR
  , ⟨0xB00304, [(0x8, 16)], [fb 15 0 .rw 0, fb 16 16 .rw 0, fb 17 17 .rw 0, fb 18 18 .rw 0]⟩ -- ETH_450GRP_g_CFG
  ]

/-- Registers of block ETH. -/
def tabEth : List RegDesc := tabEth0

/-- Registers of block SAF, part 0. -/
def tabSaf0 : List RegDesc :=
  [ ⟨0xC00000, [], [fb 1 0 .ro 0, fb 2 2 .ro 0, fb 3 3 .ro 0, fb 4 4 .ro 0, fb 5 5 .ro 0, fb 6 6 .ro 0, fb 10 8 .ro 0]⟩ -- SAF_STATUS
  , ⟨0xC00004, [], [fb 31 0 .ro 0]⟩ -- SAF_DEMAND
  , ⟨0xC00008, [], [fb 31 0 .ro 0]⟩ -- SAF_INLOCK
  , ⟨0xC0000C, [], [fb 15 0 .rw 0]⟩ -- SAF_CO_REQ
  , ⟨0xC00010, [], [fb 15 0 .ro 0, fb 31 16 .ro 0]⟩ -- SAF_CO_OUT
  , ⟨0xC00014, [], [fb 15 0 .ro 0]⟩ -- SAF_CO_LOCK
  , ⟨0xC00018, [], [fb 15 0 .wo 0]⟩ -- SAF_RESET
  , ⟨0xC0001C, [], [fb 7 0 .wo 0]⟩ -- SAF_CONNRST
  , ⟨0xC00020, [], [fb 15 0 .ro 0, fb 31 16 .ro 0]⟩ -- SAF_AVAIL
  , ⟨0xC00024, [], [fb 0 0 .wc 0]⟩ -- SAF_ERR
  , ⟨0xC00028, [], [fb 7 0 .rws 10, fb 15 8 .rws 50, fb 19 16 .rws 0]⟩ -- SAF_RSTCFG
  , ⟨0xC0002C, [], [fb 3 0 .ro 0, fb 7 4 .wc 0]⟩ -- SAF_RSTSTAT
  , ⟨0xC00100, [(0x4, 32)], [fb 0 0 .rws 0, fb 1 1 .rws 0, fb 18 8 .rws 20, fb 22 20 .ro 0, fb 23 23 .ro 0, fb 24 24 .ro 0, fb 25 25 .ro 0]⟩ -- SAF_SI_n
  , ⟨0xC00200, [(0x10, 16)], [fb 0 0 .rws 0, fb 1 1 .rws 0, fb 2 2 .rws 0, fb 7 4 .rws 0, fb 12 8 .rws 31, fb 20 16 .rws 31, fb 31 24 .rws 25]⟩ -- SAF_CO_m_CFG
  , ⟨0xC00204, [(0x10, 16)], [fb 31 0 .rws 0]⟩ -- SAF_CO_m_SIMASK
  , ⟨0xC00208, [(0x10, 16)], [fb 7 0 .rws 0, fb 21 8 .rws 0x7D0, fb 25 22 .ro 0, fb 28 26 .ro 0, fb 29 29 .ro 1, fb 30 30 .ro 0]⟩ -- SAF_CO_m_AUX
  , ⟨0xC0020C, [(0x10, 16)], []⟩ -- SAF_CO_m_RSV
  , ⟨0xC00400, [(0x40, 8)], [fb 0 0 .rws 0, fb 1 1 .rws 0, fb 3 2 .rws 3, fb 15 8 .rws 10, fb 31 16 .rws 0]⟩ -- SAF_CONN_c_CFG
  , ⟨0xC00404, [(0x40, 8)], [fb 31 0 .rws 0]⟩ -- SAF_CONN_c_KEY
  , ⟨0xC00408, [(0x40, 8)], [fb 31 0 .rws 0]⟩ -- SAF_CONN_c_MAC_LO
  , ⟨0xC0040C, [(0x40, 8)], [fb 15 0 .rws 0]⟩ -- SAF_CONN_c_MAC_HI
  , ⟨0xC00410, [(0x40, 8)], [fb 31 0 .rws 0]⟩ -- SAF_CONN_c_PMASK
  , ⟨0xC00414, [(0x40, 8)], [fb 11 0 .rws 50, fb 15 12 .rws 3, fb 31 16 .rw 0]⟩ -- SAF_CONN_c_WDT
  , ⟨0xC00418, [(0x40, 8)], [fb 2 0 .ro 0, fb 3 3 .ro 0, fb 4 4 .ro 0, fb 31 16 .ro 0]⟩ -- SAF_CONN_c_STAT
  ]

/-- Registers of block SAF, part 1. -/
def tabSaf1 : List RegDesc :=
  [ ⟨0xC0041C, [(0x40, 8)], [fb 31 0 .ro 0]⟩ -- SAF_CONN_c_PERMIT
  , ⟨0xC00420, [(0x40, 8)], [fb 15 0 .ro 0]⟩ -- SAF_CONN_c_RXAPP
  , ⟨0xC00424, [(0x40, 8)], [fb 15 0 .ro 0, fb 31 16 .ro 0]⟩ -- SAF_CONN_c_CNT0
  , ⟨0xC00428, [(0x40, 8)], [fb 15 0 .ro 0, fb 31 16 .ro 0]⟩ -- SAF_CONN_c_CNT1
  ]

/-- Registers of block SAF. -/
def tabSaf : List RegDesc := tabSaf0 ++ tabSaf1

/-- Registers of block RED, part 0. -/
def tabRed0 : List RegDesc :=
  [ ⟨0xD00000, [], [fb 1 0 .rw 0, fb 3 2 .rw 1, fb 4 4 .rw 1, fb 5 5 .rw 1, fb 6 6 .rw 1, fb 11 8 .rw 3, fb 15 12 .rw 3, fb 23 16 .rw 100]⟩ -- RED_CFG
  , ⟨0xD00004, [], [fb 1 0 .ro 0, fb 3 2 .ro 3, fb 4 4 .ro 0, fb 5 5 .ro 0, fb 6 6 .ro 0, fb 7 7 .ro 0, fb 8 8 .ro 0, fb 10 9 .ro 0, fb 11 11 .ro 0, fb 12 12 .ro 0, fb 13 13 .ro 0, fb 14 14 .ro 0, fb 18 16 .ro 0, fb 21 20 .ro 3]⟩ -- RED_STATUS
  , ⟨0xD00008, [], [fb 0 0 .wo 0, fb 1 1 .wo 0, fb 2 2 .wo 0, fb 3 3 .wo 0, fb 4 4 .wo 0, fb 6 5 .wo 0, fb 7 7 .wo 0]⟩ -- RED_CMD
  , ⟨0xD0000C, [], [fb 0 0 .wc 0, fb 1 1 .wc 0, fb 2 2 .wc 0, fb 11 8 .ro 0]⟩ -- RED_ERR
  , ⟨0xD00010, [], [fb 15 0 .ro 0]⟩ -- RED_EPOCH
  , ⟨0xD00014, [], [fb 7 0 .rw 20, fb 15 8 .rw 20, fb 31 16 .rw 100]⟩ -- RED_TOL
  , ⟨0xD00018, [], [fb 31 0 .ro 0]⟩ -- RED_CFGDIG_LO
  , ⟨0xD0001C, [], [fb 31 0 .ro 0]⟩ -- RED_CFGDIG_HI
  , ⟨0xD00020, [], [fb 15 0 .ro 0, fb 31 16 .ro 0]⟩ -- RED_DOVE
  , ⟨0xD00024, [], [fb 3 0 .ro 15, fb 5 4 .ro 0]⟩ -- RED_DOVE_LAST
  , ⟨0xD00028, [], [fb 31 0 .ro 0]⟩ -- RED_DOVE_T_LO
  , ⟨0xD0002C, [], [fb 31 0 .ro 0]⟩ -- RED_DOVE_T_HI
  , ⟨0xD00030, [], [fb 1 0 .ro 0, fb 22 16 .ro 0, fb 31 24 .ro 0]⟩ -- RED_AXO
  , ⟨0xD00034, [], [fb 15 0 .ro 0, fb 31 16 .rc 0]⟩ -- RED_JIG_CYC
  , ⟨0xD00038, [], [fb 0 0 .wc 0, fb 1 1 .wc 0, fb 2 2 .wc 0, fb 3 3 .wc 0, fb 4 4 .wc 0, fb 5 5 .wc 0, fb 6 6 .wc 0, fb 7 7 .wc 0, fb 15 8 .wc 0]⟩ -- RED_JIG_FAIL
  , ⟨0xD0003C, [], [fb 31 0 .ro 0]⟩ -- RED_JIG_ECC
  , ⟨0xD00040, [], [fb 0 0 .rw 0, fb 2 1 .rw 3]⟩ -- RED_HCFG
  , ⟨0xD00044, [], [fb 31 0 .rw 0]⟩ -- RED_HMAC_LO
  , ⟨0xD00048, [], [fb 15 0 .rw 0]⟩ -- RED_HMAC_HI
  , ⟨0xD00080, [(0x4, 16)], [fb 31 0 .ro 0]⟩ -- RED_HEALTH_k
  , ⟨0xD00100, [(0x20, 3)], [fb 0 0 .ro 0, fb 2 1 .ro 0, fb 4 3 .ro 0, fb 5 5 .ro 0, fb 6 6 .ro 0, fb 7 7 .ro 0, fb 31 16 .ro 0]⟩ -- RED_PEER_p_STAT
  , ⟨0xD00104, [(0x20, 3)], [fb 0 0 .ro 0, fb 1 1 .ro 0, fb 15 8 .ro 0, fb 19 16 .ro 0]⟩ -- RED_PEER_p_CMP
  , ⟨0xD00108, [(0x20, 3)], [fb 31 0 .ro 0]⟩ -- RED_PEER_p_DT
  , ⟨0xD0010C, [(0x20, 3)], [fb 31 0 .ro 0]⟩ -- RED_PEER_p_DA
  ]

/-- Registers of block RED, part 1. -/
def tabRed1 : List RegDesc :=
  [ ⟨0xD00110, [(0x20, 3)], [fb 31 0 .ro 0]⟩ -- RED_PEER_p_CFGDIG_LO
  , ⟨0xD00114, [(0x20, 3)], [fb 31 0 .ro 0]⟩ -- RED_PEER_p_CFGDIG_HI
  , ⟨0xD00200, [(0x10, 2)], [fb 0 0 .ro 0, fb 31 16 .ro 0]⟩ -- RED_KL_l_STAT
  , ⟨0xD00204, [(0x10, 2)], [fb 31 0 .ro 0]⟩ -- RED_KL_l_CNT
  , ⟨0xD00208, [(0x10, 2)], [fb 31 0 .ro 0]⟩ -- RED_KL_l_ERR
  ]

/-- Registers of block RED. -/
def tabRed : List RegDesc := tabRed0 ++ tabRed1

/-- Registers of block REC, part 0. -/
def tabRec0 : List RegDesc :=
  [ ⟨0xE00000, [], [fb 0 0 .rws 0, fb 31 16 .rws 0]⟩ -- REC_CTRL
  , ⟨0xE00004, [], [fb 0 0 .wo 0, fb 1 1 .wo 0, fb 2 2 .wo 0]⟩ -- REC_CMD
  , ⟨0xE00008, [], [fb 1 0 .ro 0, fb 2 2 .ro 0, fb 3 3 .ro 0, fb 4 4 .ro 0, fb 6 5 .ro 0, fb 14 8 .ro 0]⟩ -- REC_STATUS
  , ⟨0xE0000C, [], [fb 0 0 .wc 0, fb 1 1 .wc 0]⟩ -- REC_ERR
  , ⟨0xE00010, [], [fb 31 0 .ro 0]⟩ -- REC_SEQ
  , ⟨0xE00014, [], [fb 16 0 .ro 0]⟩ -- REC_HEAD
  , ⟨0xE00018, [], [fb 15 0 .ro 0]⟩ -- REC_PERMEFF
  , ⟨0xE0001C, [], [fb 15 0 .ro 0]⟩ -- REC_PERMUSED
  , ⟨0xE00020, [], [fb 17 0 .ro 0, fb 27 24 .ro 0]⟩ -- REC_BAD
  , ⟨0xE00024, [], [fb 31 0 .rc 0]⟩ -- REC_LOST
  , ⟨0xE00028, [], [fb 15 0 .ro 0, fb 31 16 .rc 0]⟩ -- REC_RATE
  , ⟨0xE0002C, [], [fb 4 0 .ro 0, fb 13 8 .ro 0, fb 31 16 .ro 0]⟩ -- REC_LG
  , ⟨0xE00030, [], [fb 16 0 .rw 0]⟩ -- REC_WINIDX
  , ⟨0xE00034, [], [fb 4 0 .rw 0]⟩ -- REC_LGIDX
  , ⟨0xE00040, [(0x4, 8)], [fb 31 0 .ro 0]⟩ -- REC_LGWIN_k
  , ⟨0xE00100, [(0x4, 64)], [fb 31 0 .ro 0]⟩ -- REC_WIN_k
  , ⟨0xE10000, [(0x4, 256)], [fb 0 0 .rws 0, fb 7 4 .rws 0]⟩ -- REC_TRIG_e
  , ⟨0xE20000, [(0xC0, 16), (0x4, 48)], [fb 31 0 .rws 0xFFFFFFFF]⟩ -- REC_PROF_p_W_j
  , ⟨0xE30000, [(0x4, 4096)], [fb 31 0 .ro 0]⟩ -- REC_BADMAP_w
  ]

/-- Registers of block REC. -/
def tabRec : List RegDesc := tabRec0

/-- Registers of block HIF, part 0. -/
def tabHif0 : List RegDesc :=
  [ ⟨0xF00000, [], [fb 0 0 .ro 0, fb 1 1 .ro 0, fb 2 2 .ro 0, fb 15 8 .ro 0]⟩ -- HIF_STATUS
  , ⟨0xF00004, [], [fb 0 0 .wc 0, fb 1 1 .wc 0, fb 2 2 .wc 0, fb 3 3 .wc 0]⟩ -- HIF_ERR
  , ⟨0xF00008, [], [fb 9 0 .ro 0, fb 25 16 .rc 0]⟩ -- HIF_LOAD
  , ⟨0xF0000C, [], [fb 15 0 .ro 0, fb 31 16 .rc 0]⟩ -- HIF_LAT
  , ⟨0xF00010, [], [fb 0 0 .rw 1]⟩ -- HIF_SNAP_CTRL
  , ⟨0xF00014, [], [fb 31 0 .ro 0]⟩ -- HIF_SNAP_EPOCH_LO
  , ⟨0xF00018, [], [fb 31 0 .ro 0]⟩ -- HIF_SNAP_EPOCH_HI
  , ⟨0xF0001C, [], [fb 0 0 .ro 0]⟩ -- HIF_SNAP_BANK
  , ⟨0xF01000, [(0x1000, 2)], [fb 0 0 .ro 0, fb 2 1 .ro 0, fb 4 3 .ro 0, fb 31 16 .ro 0]⟩ -- HIF_P_p_STATUS
  , ⟨0xF01004, [(0x1000, 2)], [fx 9 0 .rw 20]⟩ -- HIF_P_p_MOD
  , ⟨0xF01008, [(0x1000, 2)], [fb 7 0 .rc 0, fb 15 8 .rc 0, fb 23 16 .rc 0, fb 31 24 .rc 0]⟩ -- HIF_P_p_RXDROP
  , ⟨0xF01100, [(0x1000, 2), (0x10, 16)], [fb 31 0 .rw 0]⟩ -- HIF_Q_p_q_BASE_LO
  , ⟨0xF01104, [(0x1000, 2), (0x10, 16)], [fb 31 0 .rw 0]⟩ -- HIF_Q_p_q_BASE_HI
  , ⟨0xF01108, [(0x1000, 2), (0x10, 16)], [fb 0 0 .rw 0, fb 1 1 .rw 0, fb 2 2 .rw 1, fb 3 3 .rw 0, fb 7 4 .rw 4, fb 12 8 .rw 0, fb 17 16 .rw 0]⟩ -- HIF_Q_p_q_CFG
  , ⟨0xF0110C, [(0x1000, 2), (0x10, 16)], [fb 11 0 .ro 0, fb 13 12 .ro 0, fb 27 16 .ro 0, fb 28 28 .ro 0]⟩ -- HIF_Q_p_q_STAT
  , ⟨0xF10000, [(0x4, 64)], [fb 0 0 .rw 0, fb 1 1 .ro 0]⟩ -- HIF_SEM_n
  , ⟨0xF10100, [], [fb 31 0 .ro 0]⟩ -- HIF_SEMSTAT_LO
  , ⟨0xF10104, [], [fb 31 0 .ro 0]⟩ -- HIF_SEMSTAT_HI
  , ⟨0xF10108, [], [fb 31 0 .ro 0]⟩ -- HIF_SEMOWN_LO
  , ⟨0xF1010C, [], [fb 31 0 .ro 0]⟩ -- HIF_SEMOWN_HI
  , ⟨0xF20000, [(0x400, 2), (0x4, 8)], [fb 31 0 .wc 0]⟩ -- HIF_EV_p_PEND_w
  , ⟨0xF20020, [(0x400, 2), (0x4, 8)], [fb 31 0 .rw 0]⟩ -- HIF_EV_p_EN_w
  , ⟨0xF20040, [(0x400, 2)], [fb 31 0 .ro 0]⟩ -- HIF_EV_p_ASSERT
  , ⟨0xF20100, [(0x400, 2), (0x4, 64)], [fb 4 0 .rw 0, fb 12 8 .rw 0, fb 20 16 .rw 0, fb 28 24 .rw 0]⟩ -- HIF_EV_p_MAP_k
  ]

/-- Registers of block HIF, part 1. -/
def tabHif1 : List RegDesc :=
  [ ⟨0xF40000, [(0x1000, 2), (0x4, 846)], [fb 31 0 .ro 0]⟩ -- HIF_SNAP_b_w
  ]

/-- Registers of block HIF. -/
def tabHif : List RegDesc := tabHif0 ++ tabHif1

/-- Registers of block SEC, part 0. -/
def tabSec0 : List RegDesc :=
  [ ⟨0x1000100, [], [fb 1 0 .ro 0, fb 2 2 .ro 0, fb 3 3 .ro 0, fb 4 4 .ro 0, fb 5 5 .ro 0, fb 6 6 .ro 0, fb 18 8 .ro 0, fb 31 24 .ro 0]⟩ -- SEC_SEAL_STAT
  , ⟨0x1000104, [], [fb 0 0 .wo 0, fb 1 1 .wo 0, fb 2 2 .wo 0, fb 3 3 .wo 0, fb 4 4 .wo 0, fb 5 5 .wo 0]⟩ -- SEC_SEAL_CMD
  , ⟨0x1000108, [], [fb 0 0 .wc 0, fb 1 1 .wc 0, fb 2 2 .wc 0, fb 3 3 .wc 0, fb 4 4 .wc 0, fb 5 5 .wc 0, fb 6 6 .wc 0, fb 7 7 .wc 0, fb 8 8 .wc 0]⟩ -- SEC_SEAL_ERR
  , ⟨0x100010C, [], [fb 6 0 .wo 0]⟩ -- SEC_SEAL_PWLEN
  , ⟨0x1000110, [(0x4, 16)], [fb 31 0 .wo 0]⟩ -- SEC_SEAL_PW_w
  , ⟨0x1000150, [(0x4, 4)], [fb 31 0 .rw 0]⟩ -- SEC_SEAL_OPID_w
  , ⟨0x1000160, [], [fb 31 0 .ro 0]⟩ -- SEC_SEAL_CNT
  , ⟨0x1000164, [], [fb 31 0 .ro 0]⟩ -- SEC_SEAL_CSEQ
  , ⟨0x1000168, [], [fb 11 0 .ro 0]⟩ -- SEC_SEAL_BOTIME
  , ⟨0x100016C, [], [fb 11 0 .ro 0, fb 27 16 .ro 0]⟩ -- SEC_SEAL_LOG
  , ⟨0x1000170, [], [fb 10 0 .rw 0]⟩ -- SEC_SEAL_LOGIDX
  , ⟨0x1000174, [], [fb 7 0 .rw 10]⟩ -- SEC_SEAL_IDLE
  , ⟨0x1000180, [(0x4, 24)], [fb 31 0 .ro 0]⟩ -- SEC_SEAL_LOGWIN_k
  , ⟨0x10001E0, [(0x4, 12)], [fb 31 0 .ro 0]⟩ -- SEC_SEAL_MEAS_k
  , ⟨0x1000000, [], [fb 2 0 .ro 0, fb 4 4 .ro 0, fb 5 5 .ro 0, fb 6 6 .ro 0, fb 7 7 .ro 0, fb 8 8 .ro 0, fb 9 9 .ro 0, fb 10 10 .ro 0, fb 11 11 .ro 0]⟩ -- SEC_BOOT
  , ⟨0x1000004, [], [fb 31 0 .ro 0]⟩ -- SEC_BOOTCNT
  , ⟨0x1000008, [], [fb 7 0 .ro 0, fb 15 8 .ro 0, fb 23 16 .ro 0, fb 31 24 .ro 0]⟩ -- SEC_SVN
  , ⟨0x100000C, [], [fb 2 0 .ro 7, fb 13 8 .ro 0]⟩ -- SEC_LC
  , ⟨0x1000010, [], [fb 2 0 .wo 0, fb 8 8 .wo 0]⟩ -- SEC_LC_CMD
  , ⟨0x1000014, [], [fb 0 0 .wc 0, fb 3 1 .ro 0]⟩ -- SEC_LC_ERR
  , ⟨0x1000018, [], [fb 0 0 .wc 0, fb 1 1 .wc 0, fb 2 2 .wc 0, fb 3 3 .wc 0, fb 4 4 .wc 0, fb 31 16 .ro 0]⟩ -- SEC_TAMPER
  , ⟨0x100001C, [], [fb 0 0 .wc 0, fb 1 1 .wc 0, fb 2 2 .wc 0, fb 3 3 .wc 0, fb 4 4 .wc 0]⟩ -- SEC_ERR
  , ⟨0x1000020, [], [fb 0 0 .rw 0, fb 21 16 .rw 0]⟩ -- SEC_FW_CTRL
  , ⟨0x1000024, [], [fb 0 0 .wo 0, fb 1 1 .wo 0, fb 2 2 .wo 0, fb 3 3 .wo 0]⟩ -- SEC_FW_CMD
  ]

/-- Registers of block SEC, part 1. -/
def tabSec1 : List RegDesc :=
  [ ⟨0x1000028, [], [fb 2 0 .ro 0, fb 3 3 .ro 0, fb 7 4 .ro 0]⟩ -- SEC_FW_STAT
  , ⟨0x100002C, [], [fb 15 0 .rw 0xFFFF]⟩ -- SEC_SRAM_RET
  , ⟨0x1000030, [], [fb 9 0 .rw 0]⟩ -- SEC_SS_IDX
  , ⟨0x1000034, [], [fb 0 0 .rw 0, fb 1 1 .ro 0]⟩ -- SEC_SS_ATTR
  , ⟨0x1000038, [], [fb 0 0 .wo 0, fb 1 1 .wo 0]⟩ -- SEC_SS_CMD
  , ⟨0x100003C, [], [fb 0 0 .wo 0]⟩ -- SEC_ATT_CMD
  , ⟨0x1000040, [], [fb 0 0 .ro 0, fb 1 1 .ro 0, fb 2 2 .ro 0, fb 27 16 .ro 0]⟩ -- SEC_ATT_STAT
  , ⟨0x1000044, [], [fb 2 0 .wo 0, fb 8 8 .wo 0]⟩ -- SEC_MR_EXT
  , ⟨0x1000048, [], [fb 15 0 .ro 0, fb 31 16 .ro 0]⟩ -- SEC_PCIID
  , ⟨0x1000050, [(0x4, 4)], [fb 31 0 .ro 0]⟩ -- SEC_SERIAL_k
  , ⟨0x1000060, [(0x4, 8)], [fb 31 0 .rw 0]⟩ -- SEC_ATT_NONCE_k
  , ⟨0x1000080, [(0x4, 12)], [fb 31 0 .rw 0]⟩ -- SEC_MR_EXT_DATA_k
  , ⟨0x1000A00, [(0x30, 8), (0x4, 12)], [fb 31 0 .ro 0]⟩ -- SEC_MR_r_k
  , ⟨0x1000400, [(0x4, 144)], [fb 31 0 .ro 0]⟩ -- SEC_ATT_REP_k
  , ⟨0x1000800, [(0x4, 24)], [fb 31 0 .ro 0]⟩ -- SEC_ATT_PUB_k
  , ⟨0x1000880, [(0x4, 12)], [fb 31 0 .ro 0]⟩ -- SEC_LC_CHAL_k
  , ⟨0x10008C0, [(0x4, 24)], [fb 31 0 .wo 0]⟩ -- SEC_LC_TOKEN_k
  , ⟨0x1001000, [(0x4, 64)], [fb 31 0 .rw 0]⟩ -- SEC_SS_WIN_k
  , ⟨0x1002000, [(0x4, 256)], [fb 31 0 .ro 0]⟩ -- SEC_ATT_CERT_k
  , ⟨0x1010000, [(0x4, 16384)], [fb 31 0 .wo 0]⟩ -- SEC_FW_WIN
  ]

/-- Registers of block SEC. -/
def tabSec : List RegDesc := tabSec0 ++ tabSec1

/-- Registers of block RTC, part 0. -/
def tabRtc0 : List RegDesc :=
  [ ⟨0x1100000, [], [fb 15 0 .rwh 0]⟩ -- RTC_FRAC
  , ⟨0x1100004, [], [fb 31 0 .rwh 0]⟩ -- RTC_SEC_LO
  , ⟨0x1100008, [], [fb 15 0 .rwh 0]⟩ -- RTC_SEC_HI
  , ⟨0x110000C, [], [fb 0 0 .rw 0, fb 1 1 .rw 0, fb 2 2 .rw 1, fb 3 3 .rw 1, fb 15 8 .rw 66]⟩ -- RTC_CTRL
  , ⟨0x1100010, [], [fb 0 0 .ro 0, fb 1 1 .ro 0, fb 2 2 .wc 0, fb 3 3 .wc 0, fb 4 4 .ro 0, fb 5 5 .wc 1, fb 6 6 .ro 0, fb 7 7 .wc 0]⟩ -- RTC_STATUS
  , ⟨0x1100014, [], [fb 31 0 .rw 0]⟩ -- RTC_LOAD_LO
  , ⟨0x1100018, [], [fb 15 0 .rw 0]⟩ -- RTC_LOAD_HI
  , ⟨0x110001C, [], [fb 15 0 .rw 0]⟩ -- RTC_TRIM
  , ⟨0x1100020, [], [fb 9 0 .ro 0, fb 31 16 .ro 0]⟩ -- RTC_TRIMMEAS
  , ⟨0x1100024, [], [fb 7 0 .rw 37]⟩ -- RTC_TAIUTC
  , ⟨0x1100028, [], [fb 7 0 .rw 0, fb 8 8 .rw 0, fb 9 9 .wc 0]⟩ -- RTC_LEAP
  , ⟨0x110002C, [], [fb 31 0 .rw 0]⟩ -- RTC_LEAP_AT_LO
  , ⟨0x1100030, [], [fb 15 0 .rw 0]⟩ -- RTC_LEAP_AT_HI
  , ⟨0x1100034, [], [fb 31 0 .rw 0]⟩ -- RTC_CAL_SEC_LO
  , ⟨0x1100038, [], [fb 15 0 .rw 0]⟩ -- RTC_CAL_SEC_HI
  , ⟨0x110003C, [], [fb 7 0 .rw 1, fb 15 8 .rw 1, fb 31 16 .rw 0x7B2]⟩ -- RTC_CAL_DATE
  , ⟨0x1100040, [], [fb 7 0 .rw 0, fb 15 8 .rw 0, fb 23 16 .rw 0, fb 26 24 .ro 4]⟩ -- RTC_CAL_TIME
  , ⟨0x1100044, [], [fb 0 0 .wo 0, fb 1 1 .wo 0, fb 2 2 .wo 0]⟩ -- RTC_CAL_CMD
  , ⟨0x1100048, [], [fb 0 0 .ro 0, fb 1 1 .wc 0]⟩ -- RTC_CAL_STAT
  , ⟨0x110004C, [], [fb 31 0 .rw 0]⟩ -- RTC_ALARM_LO
  , ⟨0x1100050, [], [fb 15 0 .rw 0]⟩ -- RTC_ALARM_HI
  , ⟨0x1100054, [], [fb 23 0 .rw 0]⟩ -- RTC_ALARM_PER
  , ⟨0x1100058, [], [fb 0 0 .rw 0, fb 1 1 .rw 0, fb 2 2 .rw 0, fb 3 3 .rw 0, fb 4 4 .wc 0, fb 5 5 .wc 0, fb 6 6 .ro 0, fb 7 7 .ro 0]⟩ -- RTC_PWR
  , ⟨0x110005C, [], [fb 4 0 .ro 0, fb 13 8 .ro 0, fb 21 16 .ro 0]⟩ -- RTC_LGSTAT
  ]

/-- Registers of block RTC. -/
def tabRtc : List RegDesc := tabRtc0

/-- Registers of block PWR, part 0. -/
def tabPwr0 : List RegDesc :=
  [ ⟨0x1200000, [], [fb 2 0 .ro 0, fb 3 3 .ro 0, fb 4 4 .wc 0, fb 31 16 .ro 0]⟩ -- PWR_STATUS
  , ⟨0x1200004, [], [fb 2 0 .wo 0, fb 8 8 .wo 0]⟩ -- PWR_CMD
  , ⟨0x1200008, [], [fb 0 0 .wc 0, fb 10 8 .ro 0]⟩ -- PWR_ERR
  , ⟨0x120000C, [], [fb 0 0 .rw 0, fb 1 1 .rw 0, fb 2 2 .rw 1, fb 3 3 .rw 1, fb 4 4 .rw 0, fb 15 8 .rw 0]⟩ -- PWR_WAKEEN
  , ⟨0x1200010, [], [fb 0 0 .wc 0, fb 1 1 .wc 0, fb 2 2 .wc 0, fb 3 3 .wc 0, fb 4 4 .wc 0, fb 15 8 .wc 0, fb 16 16 .wc 0]⟩ -- PWR_WAKESRC
  , ⟨0x1200014, [], [fb 0 0 .wc 0, fb 1 1 .wc 0, fb 2 2 .wc 0, fb 3 3 .wc 0, fb 4 4 .wc 0, fb 5 5 .wc 0]⟩ -- PWR_RSTCAUSE
  , ⟨0x1200018, [], [fb 0 0 .wo 0, fb 1 1 .wo 0, fb 31 16 .wo 0]⟩ -- PWR_RST
  , ⟨0x120001C, [], [fb 10 0 .ro 0]⟩ -- PWR_READY
  , ⟨0x1200020, [], [fb 7 0 .ro 0, fb 15 8 .wc 0]⟩ -- PWR_RAIL
  ]

/-- Registers of block PWR. -/
def tabPwr : List RegDesc := tabPwr0

/-- The registers of the block that holds an offset (R633: 1 MiB per block). -/
def blockTab (b : Nat) : List RegDesc :=
  match b with
  | 0 => tabGlb
  | 1 => tabFrm
  | 2 => tabTim
  | 3 => tabGns
  | 4 => tabSig
  | 5 => tabAln
  | 6 => tabEst
  | 7 => tabCle
  | 8 => tabAlc
  | 9 => tabPrf
  | 10 => tabCan
  | 11 => tabEth
  | 12 => tabSaf
  | 13 => tabRed
  | 14 => tabRec
  | 15 => tabHif
  | 16 => tabSec
  | 17 => tabRtc
  | 18 => tabPwr
  | _ => []


end Sys2Proof.Machine
end

