-- ==== Sys2Proof/Machine/RegFile.lean ====
section
/-! DEFINITION. The register file: one sparse list of BAR0 words in canonical form, read and written by field. An unlisted
word reads its after-reset value. -/

namespace Sys2Proof.Machine

/-- A named field: offset of its register and its bits. -/
structure Fld where
  /-- BAR0 offset of the register. -/
  off : Nat
  /-- Highest bit. -/
  hi : Nat
  /-- Lowest bit. -/
  lo : Nat
  deriving DecidableEq, Repr

/-- Whether a distance from the first instance is that of some instance. -/
def hitDims : Nat → List (Nat × Nat) → Bool
  | x, [] => x == 0
  | x, (st, n) :: r => if x / st < n then hitDims (x % st) r else false

/-- Whether a register row covers an offset. -/
def RegDesc.covers (d : RegDesc) (off : Nat) : Bool := d.base ≤ off && hitDims (off - d.base) d.dims

/-- The row that maps an offset; none for an unmapped offset (R23). -/
def regAt (off : Nat) : Option RegDesc := (blockTab (off / 0x100000)).find? (·.covers off)

/-- A quarter wave: round(65,535 × sin(k × 90° / 256)) for k = 0 to 255 (R385). -/
def sineTable : List Nat :=
  [0, 402, 804, 1206, 1608, 2010, 2412, 2814, 3216, 3617, 4019, 4420, 4821, 5222, 5623, 6023, 6424, 6824, 7223, 7623, 8022, 8421, 8820, 9218, 9616,
    10014, 10411, 10808, 11204, 11600, 11996, 12391] ++
  [12785, 13179, 13573, 13966, 14359, 14751, 15142, 15533, 15924, 16313, 16703, 17091, 17479, 17866, 18253, 18639, 19024, 19408, 19792, 20175, 20557,
    20939, 21319, 21699, 22078, 22456, 22834, 23210, 23586, 23960, 24334, 24707] ++
  [25079, 25450, 25820, 26189, 26557, 26925, 27291, 27656, 28020, 28383, 28745, 29106, 29465, 29824, 30181, 30538, 30893, 31247, 31600, 31952, 32302,
    32651, 32999, 33346, 33692, 34036, 34379, 34721, 35061, 35400, 35738, 36074] ++
  [36409, 36743, 37075, 37406, 37736, 38064, 38390, 38715, 39039, 39361, 39682, 40001, 40319, 40635, 40950, 41263, 41575, 41885, 42194, 42500, 42806,
    43109, 43411, 43712, 44011, 44308, 44603, 44897, 45189, 45479, 45768, 46055] ++
  [46340, 46624, 46905, 47185, 47464, 47740, 48014, 48287, 48558, 48827, 49095, 49360, 49624, 49885, 50145, 50403, 50659, 50913, 51166, 51416, 51664,
    51911, 52155, 52398, 52638, 52877, 53113, 53348, 53580, 53811, 54039, 54266] ++
  [54490, 54713, 54933, 55151, 55367, 55582, 55794, 56003, 56211, 56417, 56620, 56822, 57021, 57218, 57413, 57606, 57797, 57985, 58171, 58356, 58537,
    58717, 58895, 59070, 59243, 59414, 59582, 59749, 59913, 60075, 60234, 60391] ++
  [60546, 60699, 60850, 60998, 61144, 61287, 61429, 61567, 61704, 61838, 61970, 62100, 62227, 62352, 62475, 62595, 62713, 62829, 62942, 63053, 63161,
    63267, 63371, 63472, 63571, 63668, 63762, 63853, 63943, 64030, 64114, 64196] ++
  [64276, 64353, 64428, 64500, 64570, 64638, 64703, 64765, 64826, 64883, 64939, 64992, 65042, 65090, 65136, 65179, 65219, 65258, 65293, 65327, 65357,
    65386, 65412, 65435, 65456, 65475, 65491, 65504, 65515, 65524, 65530, 65534]

/-- After-reset values that differ between the instances of a row: the mounting quaternion (0x0051_0014) is (1, 0, 0, 0)
in Q2.30; TAP_0 to TAP_15 of a coefficient bank are 0x0400_0000; the microstep tables hold a quarter wave (R385);
SEC_BOOT.LC and SEC_LC.STEPS come from OTP (log 22). -/
def resetSpecial (off : Nat) : Nat :=
  if 0x510000 ≤ off ∧ off < 0x510800 ∧ off % 0x40 = 0x14 then 0x40000000
  else if 0x420000 ≤ off ∧ off < 0x438000 ∧ 0x10 ≤ off % 0x200 ∧ off % 0x200 < 0x50 then 0x04000000
  else if 0x920000 ≤ off ∧ off < 0x921000 then
    let w := off % 0x200 / 4
    sineTable.getD (2 * w) 0 + 65536 * sineTable.getD (2 * w + 1) 0
  else if off = 0x1000000 then 2
  else if off = 0x100000C then 0x1E00
  else 0

/-- The after-reset value of a word: the values of its fields. -/
def resetNat (off : Nat) : Nat :=
  match regAt off with
  | none => 0
  | some d => d.fields.foldl (fun acc f => acc + f.reset * 2 ^ f.lo) (resetSpecial off)

/-- The after-reset value of a word. -/
def resetWord (off : Nat) : Word := BitVec.ofNat 32 (resetNat off)

/-- The register file. -/
structure RegFile where
  /-- Words that differ from their after-reset value, offsets strictly rising. -/
  words : List (Nat × Word)
  deriving DecidableEq, Repr

/-- Every word at its after-reset value. -/
def RegFile.empty : RegFile := ⟨[]⟩

/-- The word at an offset. -/
def RegFile.word (r : RegFile) (off : Nat) : Word :=
  match r.words.lookup off with
  | some v => v
  | none => resetWord off

/-- Sets the word at an offset; a word at its after-reset value is not listed. -/
def RegFile.setWord (r : RegFile) (off : Nat) (v : Word) : RegFile :=
  let l := eraseKey off r.words
  ⟨if v = resetWord off then l else insertAsc off v l⟩

/-- The value of a field, as a number. -/
def RegFile.get (r : RegFile) (f : Fld) : Nat := bitsOf (r.word f.off).toNat f.hi f.lo

/-- Sets a field. -/
def RegFile.put (r : RegFile) (f : Fld) (v : Nat) : RegFile :=
  r.setWord f.off (BitVec.ofNat 32 (setBits (r.word f.off).toNat f.hi f.lo v))

/-- The canonical form: offsets strictly rise and no word is listed at its after-reset value. -/
def wordsOk : List (Nat × Word) → Bool
  | [] => true
  | [(o, v)] => v != resetWord o
  | (o, v) :: (o', v') :: t => v != resetWord o && decide (o < o') && wordsOk ((o', v') :: t)

/-- The canonical form of the register file. -/
def RegFile.wf (r : RegFile) : Bool := wordsOk r.words

end Sys2Proof.Machine
end

