-- ==== Sys2Proof/Machine/Fields.lean ====
section
/-! DEFINITION. The fields of every register table of the spec, by name: offset of the register, highest and lowest bit.
An arrayed register takes its instance numbers as arguments. -/

namespace Sys2Proof.Machine.F

/-- GLB_ACCERR.WIDTH, W1C. -/
@[reducible] def GLB_ACCERR_WIDTH : Fld := ⟨0x24, 0, 0⟩
/-- GLB_ACCERR.UNMAPPED, W1C. -/
@[reducible] def GLB_ACCERR_UNMAPPED : Fld := ⟨0x24, 1, 1⟩
/-- GLB_ACCERR.RO_WRITE, W1C. -/
@[reducible] def GLB_ACCERR_RO_WRITE : Fld := ⟨0x24, 2, 2⟩
/-- GLB_ACCERR.SEALED, W1C. -/
@[reducible] def GLB_ACCERR_SEALED : Fld := ⟨0x24, 3, 3⟩
/-- GLB_ACCERR.HALTED, W1C. -/
@[reducible] def GLB_ACCERR_HALTED : Fld := ⟨0x24, 4, 4⟩
/-- GLB_ACCERR.LEVEL, W1C. -/
@[reducible] def GLB_ACCERR_LEVEL : Fld := ⟨0x24, 5, 5⟩
/-- GLB_ACCERR.PORT, RO. -/
@[reducible] def GLB_ACCERR_PORT : Fld := ⟨0x24, 8, 8⟩
/-- GLB_ACCADDR.OFFSET, RO. -/
@[reducible] def GLB_ACCADDR_OFFSET : Fld := ⟨0x28, 31, 0⟩
/-- GLB_LEVEL.FRM, RW. -/
@[reducible] def GLB_LEVEL_FRM : Fld := ⟨0x20, 1, 1⟩
/-- GLB_LEVEL.TIM, RW. -/
@[reducible] def GLB_LEVEL_TIM : Fld := ⟨0x20, 2, 2⟩
/-- GLB_LEVEL.GNS, RW. -/
@[reducible] def GLB_LEVEL_GNS : Fld := ⟨0x20, 3, 3⟩
/-- GLB_LEVEL.SIG, RW. -/
@[reducible] def GLB_LEVEL_SIG : Fld := ⟨0x20, 4, 4⟩
/-- GLB_LEVEL.ALN, RW. -/
@[reducible] def GLB_LEVEL_ALN : Fld := ⟨0x20, 5, 5⟩
/-- GLB_LEVEL.EST, RW. -/
@[reducible] def GLB_LEVEL_EST : Fld := ⟨0x20, 6, 6⟩
/-- GLB_LEVEL.CLE, RW. -/
@[reducible] def GLB_LEVEL_CLE : Fld := ⟨0x20, 7, 7⟩
/-- GLB_LEVEL.ALC, RW. -/
@[reducible] def GLB_LEVEL_ALC : Fld := ⟨0x20, 8, 8⟩
/-- GLB_LEVEL.PRF, RW. -/
@[reducible] def GLB_LEVEL_PRF : Fld := ⟨0x20, 9, 9⟩
/-- GLB_LEVEL.CAN, RW. -/
@[reducible] def GLB_LEVEL_CAN : Fld := ⟨0x20, 10, 10⟩
/-- GLB_LEVEL.ETH, RW. -/
@[reducible] def GLB_LEVEL_ETH : Fld := ⟨0x20, 11, 11⟩
/-- GLB_LEVEL.SAF, RWS. -/
@[reducible] def GLB_LEVEL_SAF : Fld := ⟨0x20, 12, 12⟩
/-- GLB_LEVEL.RED, RW. -/
@[reducible] def GLB_LEVEL_RED : Fld := ⟨0x20, 13, 13⟩
/-- GLB_LEVEL.REC, RW. -/
@[reducible] def GLB_LEVEL_REC : Fld := ⟨0x20, 14, 14⟩
/-- GLB_LEVEL.HIF, RW. -/
@[reducible] def GLB_LEVEL_HIF : Fld := ⟨0x20, 15, 15⟩
/-- GLB_LEVEL.SEC, RWS. -/
@[reducible] def GLB_LEVEL_SEC : Fld := ⟨0x20, 16, 16⟩
/-- GLB_LEVEL.RTC, RW. -/
@[reducible] def GLB_LEVEL_RTC : Fld := ⟨0x20, 17, 17⟩
/-- GLB_LEVEL.PWR, RW. -/
@[reducible] def GLB_LEVEL_PWR : Fld := ⟨0x20, 18, 18⟩
/-- FRM_CTRL.START, WO. -/
@[reducible] def FRM_CTRL_START : Fld := ⟨0x100000, 0, 0⟩
/-- FRM_CTRL.HOLD, RW. -/
@[reducible] def FRM_CTRL_HOLD : Fld := ⟨0x100000, 1, 1⟩
/-- FRM_STATUS.RUNNING, RO. -/
@[reducible] def FRM_STATUS_RUNNING : Fld := ⟨0x100004, 0, 0⟩
/-- FRM_STATUS.STARTING, RO. -/
@[reducible] def FRM_STATUS_STARTING : Fld := ⟨0x100004, 1, 1⟩
/-- FRM_STATUS.GAP, RO. -/
@[reducible] def FRM_STATUS_GAP : Fld := ⟨0x100004, 2, 2⟩
/-- FRM_STATUS.MAJOR_WAIT, RO. -/
@[reducible] def FRM_STATUS_MAJOR_WAIT : Fld := ⟨0x100004, 3, 3⟩
/-- FRM_STATUS.MINOR, RO. -/
@[reducible] def FRM_STATUS_MINOR : Fld := ⟨0x100004, 13, 8⟩
/-- FRM_STATUS.MAJOR, RO. -/
@[reducible] def FRM_STATUS_MAJOR : Fld := ⟨0x100004, 22, 16⟩
/-- FRM_MAJCNT_LO.COUNT, RO. -/
@[reducible] def FRM_MAJCNT_LO_COUNT : Fld := ⟨0x100008, 31, 0⟩
/-- FRM_MAJCNT_HI.COUNT, RO. -/
@[reducible] def FRM_MAJCNT_HI_COUNT : Fld := ⟨0x10000C, 31, 0⟩
/-- FRM_OVR.STAGE, W1C. -/
@[reducible] def FRM_OVR_STAGE : Fld := ⟨0x100010, 8, 0⟩
/-- FRM_FAULT.STAGE, W1C. -/
@[reducible] def FRM_FAULT_STAGE : Fld := ⟨0x100014, 8, 0⟩
/-- FRM_REANCHOR.COUNT, RO. -/
@[reducible] def FRM_REANCHOR_COUNT : Fld := ⟨0x100018, 15, 0⟩
/-- FRM_REANCHOR.LAST_GAP, RO. -/
@[reducible] def FRM_REANCHOR_LAST_GAP : Fld := ⟨0x100018, 31, 16⟩
/-- FRM_INJECT.STAGE, RW. -/
@[reducible] def FRM_INJECT_STAGE : Fld := ⟨0x10001C, 3, 0⟩
/-- FRM_INJECT.COUNT, RW. -/
@[reducible] def FRM_INJECT_COUNT : Fld := ⟨0x10001C, 5, 4⟩
/-- FRM_INJECT.ARM, RW. -/
@[reducible] def FRM_INJECT_ARM : Fld := ⟨0x10001C, 8, 8⟩
/-- FRM_UTILSUM.LAST, RO. -/
@[reducible] def FRM_UTILSUM_LAST : Fld := ⟨0x100020, 9, 0⟩
/-- FRM_UTILSUM.MAX, RC. -/
@[reducible] def FRM_UTILSUM_MAX : Fld := ⟨0x100020, 25, 16⟩
/-- FRM_STAGE_s.CONSEC, RO. -/
@[reducible] def FRM_STAGE_CONSEC (s : Nat) : Fld := ⟨0x100040 + 0x4 * s, 1, 0⟩
/-- FRM_STAGE_s.TOTAL, RO. -/
@[reducible] def FRM_STAGE_TOTAL (s : Nat) : Fld := ⟨0x100040 + 0x4 * s, 31, 8⟩
/-- FRM_UTIL_s.LAST, RO. -/
@[reducible] def FRM_UTIL_LAST (s : Nat) : Fld := ⟨0x100080 + 0x4 * s, 9, 0⟩
/-- FRM_UTIL_s.MAX, RC. -/
@[reducible] def FRM_UTIL_MAX (s : Nat) : Fld := ⟨0x100080 + 0x4 * s, 25, 16⟩
/-- TIM_STATUS.STATE, RO. -/
@[reducible] def TIM_STATUS_STATE : Fld := ⟨0x200000, 2, 0⟩
/-- TIM_STATUS.SRC, RO. -/
@[reducible] def TIM_STATUS_SRC : Fld := ⟨0x200000, 5, 4⟩
/-- TIM_STATUS.READY, RO. -/
@[reducible] def TIM_STATUS_READY : Fld := ⟨0x200000, 8, 8⟩
/-- TIM_STATUS.RTC_INVALID, RO. -/
@[reducible] def TIM_STATUS_RTC_INVALID : Fld := ⟨0x200000, 9, 9⟩
/-- TIM_STATUS.STEP_PENDING, RO. -/
@[reducible] def TIM_STATUS_STEP_PENDING : Fld := ⟨0x200000, 10, 10⟩
/-- TIM_STATUS.INCR_CLAMP, W1C. -/
@[reducible] def TIM_STATUS_INCR_CLAMP : Fld := ⟨0x200000, 11, 11⟩
/-- TIM_STATUS.STEP_REFUSED, W1C. -/
@[reducible] def TIM_STATUS_STEP_REFUSED : Fld := ⟨0x200000, 12, 12⟩
/-- TIM_STATUS.HOLD_EXCEEDED, RO. -/
@[reducible] def TIM_STATUS_HOLD_EXCEEDED : Fld := ⟨0x200000, 13, 13⟩
/-- TIM_DISC.MODE, RW. -/
@[reducible] def TIM_DISC_MODE : Fld := ⟨0x200004, 2, 0⟩
/-- TIM_DISC.SLEW, RW. -/
@[reducible] def TIM_DISC_SLEW : Fld := ⟨0x200004, 15, 4⟩
/-- TIM_DISC.STEP_THR, RW. -/
@[reducible] def TIM_DISC_STEP_THR : Fld := ⟨0x200004, 31, 16⟩
/-- TIM_HOLD.RATE, RW. -/
@[reducible] def TIM_HOLD_RATE : Fld := ⟨0x200008, 15, 0⟩
/-- TIM_HOLD.LIMIT, RW. -/
@[reducible] def TIM_HOLD_LIMIT : Fld := ⟨0x200008, 31, 16⟩
/-- TIM_HOLDUNC.NS, RO. -/
@[reducible] def TIM_HOLDUNC_NS : Fld := ⟨0x20000C, 31, 0⟩
/-- TIM_INCR.FINE, RO. -/
@[reducible] def TIM_INCR_FINE : Fld := ⟨0x200010, 31, 0⟩
/-- TIM_MANINCR.FINE, RW. -/
@[reducible] def TIM_MANINCR_FINE : Fld := ⟨0x200014, 31, 0⟩
/-- TIM_OFFSET.NS, RO. -/
@[reducible] def TIM_OFFSET_NS : Fld := ⟨0x200018, 31, 0⟩
/-- TIM_SERVO.KP, RW. -/
@[reducible] def TIM_SERVO_KP : Fld := ⟨0x20001C, 15, 0⟩
/-- TIM_SERVO.KI, RW. -/
@[reducible] def TIM_SERVO_KI : Fld := ⟨0x20001C, 31, 16⟩
/-- TIM_NOW_NS.VALUE, RO. -/
@[reducible] def TIM_NOW_NS_VALUE : Fld := ⟨0x200020, 29, 0⟩
/-- TIM_NOW_SEC_LO.VALUE, RO. -/
@[reducible] def TIM_NOW_SEC_LO_VALUE : Fld := ⟨0x200024, 31, 0⟩
/-- TIM_NOW_SEC_HI.VALUE, RO. -/
@[reducible] def TIM_NOW_SEC_HI_VALUE : Fld := ⟨0x200028, 15, 0⟩
/-- TIM_NOW_SUB.VALUE, RO. -/
@[reducible] def TIM_NOW_SUB_VALUE : Fld := ⟨0x20002C, 31, 0⟩
/-- TIM_NOW_LIN_LO.VALUE, RO. -/
@[reducible] def TIM_NOW_LIN_LO_VALUE : Fld := ⟨0x200030, 31, 0⟩
/-- TIM_NOW_LIN_HI.VALUE, RO. -/
@[reducible] def TIM_NOW_LIN_HI_VALUE : Fld := ⟨0x200034, 31, 0⟩
/-- TIM_STEP_NS.VALUE, RW. -/
@[reducible] def TIM_STEP_NS_VALUE : Fld := ⟨0x200040, 31, 0⟩
/-- TIM_STEP_SEC.VALUE, RW. -/
@[reducible] def TIM_STEP_SEC_VALUE : Fld := ⟨0x200044, 31, 0⟩
/-- TIM_STEP_CTRL.VALUE, WO. -/
@[reducible] def TIM_STEP_CTRL_VALUE : Fld := ⟨0x200048, 0, 0⟩
/-- TIM_LASTSTEP_LO.VALUE, RO. -/
@[reducible] def TIM_LASTSTEP_LO_VALUE : Fld := ⟨0x200050, 31, 0⟩
/-- TIM_LASTSTEP_HI.VALUE, RO. -/
@[reducible] def TIM_LASTSTEP_HI_VALUE : Fld := ⟨0x200054, 31, 0⟩
/-- TIM_CAPEDGE_0.VALUE, RW. -/
@[reducible] def TIM_CAPEDGE_0_VALUE : Fld := ⟨0x200060, 31, 0⟩
/-- TIM_CAPEDGE_1.VALUE, RW. -/
@[reducible] def TIM_CAPEDGE_1_VALUE : Fld := ⟨0x200064, 31, 0⟩
/-- TIM_CAPHOST.VALUE, RW. -/
@[reducible] def TIM_CAPHOST_VALUE : Fld := ⟨0x200068, 31, 0⟩
/-- TIM_CAPFIFO_LO.VALUE, RO. -/
@[reducible] def TIM_CAPFIFO_LO_VALUE : Fld := ⟨0x20006C, 31, 0⟩
/-- TIM_CAPFIFO_HI.VALUE, RO. -/
@[reducible] def TIM_CAPFIFO_HI_VALUE : Fld := ⟨0x200070, 31, 0⟩
/-- TIM_CAPFIFO_INFO.VALUE, RO. -/
@[reducible] def TIM_CAPFIFO_INFO_VALUE : Fld := ⟨0x200074, 9, 0⟩
/-- TIM_CAPSTAT.HELD, RO. -/
@[reducible] def TIM_CAPSTAT_HELD : Fld := ⟨0x200078, 6, 0⟩
/-- TIM_CAPSTAT.DROPPED, RC. -/
@[reducible] def TIM_CAPSTAT_DROPPED : Fld := ⟨0x200078, 31, 16⟩
/-- TIM_CMP_c_CTRL.ARM, RW. -/
@[reducible] def TIM_CMP_CTRL_ARM (c : Nat) : Fld := ⟨0x200100 + 0x20 * c, 0, 0⟩
/-- TIM_CMP_c_CTRL.POL, RW. -/
@[reducible] def TIM_CMP_CTRL_POL (c : Nat) : Fld := ⟨0x200100 + 0x20 * c, 2, 2⟩
/-- TIM_CMP_c_CTRL.IRQ, RW. -/
@[reducible] def TIM_CMP_CTRL_IRQ (c : Nat) : Fld := ⟨0x200100 + 0x20 * c, 3, 3⟩
/-- TIM_CMP_c_CTRL.WIDTH, RW. -/
@[reducible] def TIM_CMP_CTRL_WIDTH (c : Nat) : Fld := ⟨0x200100 + 0x20 * c, 31, 8⟩
/-- TIM_CMP_c_STATUS.FIRED, W1C. -/
@[reducible] def TIM_CMP_STATUS_FIRED (c : Nat) : Fld := ⟨0x200104 + 0x20 * c, 0, 0⟩
/-- TIM_CMP_c_STATUS.LATE, W1C. -/
@[reducible] def TIM_CMP_STATUS_LATE (c : Nat) : Fld := ⟨0x200104 + 0x20 * c, 1, 1⟩
/-- TIM_CMP_c_STATUS.OUT, RO. -/
@[reducible] def TIM_CMP_STATUS_OUT (c : Nat) : Fld := ⟨0x200104 + 0x20 * c, 2, 2⟩
/-- TIM_CMP_c_STATUS.COUNT, RO. -/
@[reducible] def TIM_CMP_STATUS_COUNT (c : Nat) : Fld := ⟨0x200104 + 0x20 * c, 31, 16⟩
/-- TIM_CMP_c_TGT_LO.TGT, RW. -/
@[reducible] def TIM_CMP_TGT_LO_TGT (c : Nat) : Fld := ⟨0x200108 + 0x20 * c, 31, 0⟩
/-- TIM_CMP_c_TGT_HI.TGT, RW. -/
@[reducible] def TIM_CMP_TGT_HI_TGT (c : Nat) : Fld := ⟨0x20010C + 0x20 * c, 31, 0⟩
/-- TIM_CMP_c_PERIOD.PERIOD, RW. -/
@[reducible] def TIM_CMP_PERIOD_PERIOD (c : Nat) : Fld := ⟨0x200110 + 0x20 * c, 31, 0⟩
/-- ETH_p_CFG.ENABLE, RW. -/
@[reducible] def ETH_CFG_ENABLE (p : Nat) : Fld := ⟨0xB00000 + 0x40 * p, 0, 0⟩
/-- ETH_p_CFG.PCS, RW. -/
@[reducible] def ETH_CFG_PCS (p : Nat) : Fld := ⟨0xB00000 + 0x40 * p, 1, 1⟩
/-- ETH_p_CFG.AN, RW. -/
@[reducible] def ETH_CFG_AN (p : Nat) : Fld := ⟨0xB00000 + 0x40 * p, 2, 2⟩
/-- ETH_p_CFG.RAWRX, RW. -/
@[reducible] def ETH_CFG_RAWRX (p : Nat) : Fld := ⟨0xB00000 + 0x40 * p, 3, 3⟩
/-- ETH_p_STATUS.LINK, RO. -/
@[reducible] def ETH_STATUS_LINK (p : Nat) : Fld := ⟨0xB00004 + 0x40 * p, 0, 0⟩
/-- ETH_p_STATUS.ACTIVE, RO. -/
@[reducible] def ETH_STATUS_ACTIVE (p : Nat) : Fld := ⟨0xB00004 + 0x40 * p, 1, 1⟩
/-- ETH_p_STATUS.PTP_STATE, RO. -/
@[reducible] def ETH_STATUS_PTP_STATE (p : Nat) : Fld := ⟨0xB00004 + 0x40 * p, 7, 4⟩
/-- ETH_p_STATUS.LINKDOWN, RO. -/
@[reducible] def ETH_STATUS_LINKDOWN (p : Nat) : Fld := ⟨0xB00004 + 0x40 * p, 31, 16⟩
/-- ETH_p_MAC_LO.MAC, RO. -/
@[reducible] def ETH_MAC_LO_MAC (p : Nat) : Fld := ⟨0xB00008 + 0x40 * p, 31, 0⟩
/-- ETH_p_MAC_HI.MAC, RO. -/
@[reducible] def ETH_MAC_HI_MAC (p : Nat) : Fld := ⟨0xB0000C + 0x40 * p, 15, 0⟩
/-- ETH_p_EGRLAT.PS, RW. -/
@[reducible] def ETH_EGRLAT_PS (p : Nat) : Fld := ⟨0xB00010 + 0x40 * p, 31, 0⟩
/-- ETH_p_INGLAT.PS, RW. -/
@[reducible] def ETH_INGLAT_PS (p : Nat) : Fld := ⟨0xB00014 + 0x40 * p, 31, 0⟩
/-- ETH_p_PTPCFG.EN, RW. -/
@[reducible] def ETH_PTPCFG_EN (p : Nat) : Fld := ⟨0xB00018 + 0x40 * p, 0, 0⟩
/-- ETH_p_PTPCFG.DELAY, RW. -/
@[reducible] def ETH_PTPCFG_DELAY (p : Nat) : Fld := ⟨0xB00018 + 0x40 * p, 1, 1⟩
/-- ETH_p_PTPCFG.TRANSPORT, RW. -/
@[reducible] def ETH_PTPCFG_TRANSPORT (p : Nat) : Fld := ⟨0xB00018 + 0x40 * p, 2, 2⟩
/-- ETH_p_PTPCFG.MASTER_ONLY, RW. -/
@[reducible] def ETH_PTPCFG_MASTER_ONLY (p : Nat) : Fld := ⟨0xB00018 + 0x40 * p, 3, 3⟩
/-- ETH_p_PTPCFG.SLAVE_ONLY, RW. -/
@[reducible] def ETH_PTPCFG_SLAVE_ONLY (p : Nat) : Fld := ⟨0xB00018 + 0x40 * p, 4, 4⟩
/-- ETH_p_PTPCFG.LOGSYNC, RW. -/
@[reducible] def ETH_PTPCFG_LOGSYNC (p : Nat) : Fld := ⟨0xB00018 + 0x40 * p, 11, 8⟩
/-- ETH_p_PTPCFG.LOGANN, RW. -/
@[reducible] def ETH_PTPCFG_LOGANN (p : Nat) : Fld := ⟨0xB00018 + 0x40 * p, 15, 12⟩
/-- ETH_p_PTPCFG.LOGDREQ, RW. -/
@[reducible] def ETH_PTPCFG_LOGDREQ (p : Nat) : Fld := ⟨0xB00018 + 0x40 * p, 19, 16⟩
/-- ETH_p_PTPCFG.DOMAIN, RW. -/
@[reducible] def ETH_PTPCFG_DOMAIN (p : Nat) : Fld := ⟨0xB00018 + 0x40 * p, 30, 24⟩
/-- ETH_p_PTPDELAY.PS, RO. -/
@[reducible] def ETH_PTPDELAY_PS (p : Nat) : Fld := ⟨0xB0001C + 0x40 * p, 31, 0⟩
/-- ETH_p_PTPOFS.NS, RO. -/
@[reducible] def ETH_PTPOFS_NS (p : Nat) : Fld := ⟨0xB00020 + 0x40 * p, 31, 0⟩
/-- ETH_p_CNT_k.COUNT, RO. -/
@[reducible] def ETH_CNT_COUNT (p k : Nat) : Fld := ⟨0xB00024 + 0x40 * p + 0x4 * k, 31, 0⟩
/-- ETH_p_IP.ADDR, RW. -/
@[reducible] def ETH_IP_ADDR (p : Nat) : Fld := ⟨0xB00034 + 0x40 * p, 31, 0⟩
/-- ETH_NETCFG.A_PRIMARY, RW. -/
@[reducible] def ETH_NETCFG_A_PRIMARY : Fld := ⟨0xB00200, 0, 0⟩
/-- ETH_NETCFG.A_FAILBACK, RW. -/
@[reducible] def ETH_NETCFG_A_FAILBACK : Fld := ⟨0xB00200, 1, 1⟩
/-- ETH_NETCFG.B_PRIMARY, RW. -/
@[reducible] def ETH_NETCFG_B_PRIMARY : Fld := ⟨0xB00200, 4, 4⟩
/-- ETH_NETCFG.B_FAILBACK, RW. -/
@[reducible] def ETH_NETCFG_B_FAILBACK : Fld := ⟨0xB00200, 5, 5⟩
/-- ETH_PTPCLK.PRIO1, RW. -/
@[reducible] def ETH_PTPCLK_PRIO1 : Fld := ⟨0xB00204, 7, 0⟩
/-- ETH_PTPCLK.PRIO2, RW. -/
@[reducible] def ETH_PTPCLK_PRIO2 : Fld := ⟨0xB00204, 15, 8⟩
/-- ETH_PTPCLK.GM_EN, RW. -/
@[reducible] def ETH_PTPCLK_GM_EN : Fld := ⟨0xB00204, 16, 16⟩
/-- ETH_VLAN.A_VID, RW. -/
@[reducible] def ETH_VLAN_A_VID : Fld := ⟨0xB00208, 11, 0⟩
/-- ETH_VLAN.A_PCP, RW. -/
@[reducible] def ETH_VLAN_A_PCP : Fld := ⟨0xB00208, 14, 12⟩
/-- ETH_VLAN.B_VID, RW. -/
@[reducible] def ETH_VLAN_B_VID : Fld := ⟨0xB00208, 27, 16⟩
/-- ETH_VLAN.B_PCP, RW. -/
@[reducible] def ETH_VLAN_B_PCP : Fld := ⟨0xB00208, 30, 28⟩
/-- ETH_450DROP.CKSUM, RC. -/
@[reducible] def ETH_450DROP_CKSUM : Fld := ⟨0xB0020C, 15, 0⟩
/-- ETH_450DROP.FORMAT, RC. -/
@[reducible] def ETH_450DROP_FORMAT : Fld := ⟨0xB0020C, 31, 16⟩
/-- ETH_450GRP_g_ADDR.ADDR, RW. -/
@[reducible] def ETH_450GRP_ADDR_ADDR (g : Nat) : Fld := ⟨0xB00300 + 0x8 * g, 31, 0⟩
/-- ETH_450GRP_g_CFG.PORT, RW. -/
@[reducible] def ETH_450GRP_CFG_PORT (g : Nat) : Fld := ⟨0xB00304 + 0x8 * g, 15, 0⟩
/-- ETH_450GRP_g_CFG.NET_A, RW. -/
@[reducible] def ETH_450GRP_CFG_NET_A (g : Nat) : Fld := ⟨0xB00304 + 0x8 * g, 16, 16⟩
/-- ETH_450GRP_g_CFG.NET_B, RW. -/
@[reducible] def ETH_450GRP_CFG_NET_B (g : Nat) : Fld := ⟨0xB00304 + 0x8 * g, 17, 17⟩
/-- ETH_450GRP_g_CFG.EN, RW. -/
@[reducible] def ETH_450GRP_CFG_EN (g : Nat) : Fld := ⟨0xB00304 + 0x8 * g, 18, 18⟩
/-- GNS_CTRL.EN, RW. -/
@[reducible] def GNS_CTRL_EN : Fld := ⟨0x300000, 0, 0⟩
/-- GNS_CTRL.RESTART, WO. -/
@[reducible] def GNS_CTRL_RESTART : Fld := ⟨0x300000, 2, 1⟩
/-- GNS_CTRL.ALLOC, RW. -/
@[reducible] def GNS_CTRL_ALLOC : Fld := ⟨0x300000, 3, 3⟩
/-- GNS_CTRL.PRIANT, RW. -/
@[reducible] def GNS_CTRL_PRIANT : Fld := ⟨0x300000, 4, 4⟩
/-- GNS_CTRL.SYS, RW. -/
@[reducible] def GNS_CTRL_SYS : Fld := ⟨0x300000, 11, 8⟩
/-- GNS_CTRL.L5EN, RW. -/
@[reducible] def GNS_CTRL_L5EN : Fld := ⟨0x300000, 12, 12⟩
/-- GNS_CTRL.ANT2EN, RW. -/
@[reducible] def GNS_CTRL_ANT2EN : Fld := ⟨0x300000, 13, 13⟩
/-- GNS_STATUS.READY, RO. -/
@[reducible] def GNS_STATUS_READY : Fld := ⟨0x300004, 0, 0⟩
/-- GNS_STATUS.START_TYPE, RO. -/
@[reducible] def GNS_STATUS_START_TYPE : Fld := ⟨0x300004, 2, 1⟩
/-- GNS_STATUS.TIMEVALID, RO. -/
@[reducible] def GNS_STATUS_TIMEVALID : Fld := ⟨0x300004, 3, 3⟩
/-- GNS_STATUS.FIX, RO. -/
@[reducible] def GNS_STATUS_FIX : Fld := ⟨0x300004, 4, 4⟩
/-- GNS_STATUS.SPOOF, RO. -/
@[reducible] def GNS_STATUS_SPOOF : Fld := ⟨0x300004, 5, 5⟩
/-- GNS_STATUS.HDG, RO. -/
@[reducible] def GNS_STATUS_HDG : Fld := ⟨0x300004, 6, 6⟩
/-- GNS_STATUS.RTK, RO. -/
@[reducible] def GNS_STATUS_RTK : Fld := ⟨0x300004, 9, 8⟩
/-- GNS_STATUS.TRACKING, RO. -/
@[reducible] def GNS_STATUS_TRACKING : Fld := ⟨0x300004, 23, 16⟩
/-- GNS_EPCFG.RATE, RW. -/
@[reducible] def GNS_EPCFG_RATE : Fld := ⟨0x300008, 1, 0⟩
/-- GNS_EPCFG.HOSTOUT, RW. -/
@[reducible] def GNS_EPCFG_HOSTOUT : Fld := ⟨0x300008, 4, 4⟩
/-- GNS_EPCFG.MASK_EL, RW. -/
@[reducible] def GNS_EPCFG_MASK_EL : Fld := ⟨0x300008, 15, 8⟩
/-- GNS_EPCFG.MIN_CN0, RW. -/
@[reducible] def GNS_EPCFG_MIN_CN0 : Fld := ⟨0x300008, 23, 16⟩
/-- GNS_EPSEQ.SEQ, RO. -/
@[reducible] def GNS_EPSEQ_SEQ : Fld := ⟨0x30000C, 31, 0⟩
/-- GNS_ACQCFG.DOPP, RW. -/
@[reducible] def GNS_ACQCFG_DOPP : Fld := ⟨0x300010, 7, 0⟩
/-- GNS_ACQCFG.NCOH, RW. -/
@[reducible] def GNS_ACQCFG_NCOH : Fld := ⟨0x300010, 13, 8⟩
/-- GNS_ACQCFG.THR, RW. -/
@[reducible] def GNS_ACQCFG_THR : Fld := ⟨0x300010, 23, 16⟩
/-- GNS_ACQCFG.VERIFY, RW. -/
@[reducible] def GNS_ACQCFG_VERIFY : Fld := ⟨0x300010, 27, 24⟩
/-- GNS_ACQSTAT.QUEUE, RO. -/
@[reducible] def GNS_ACQSTAT_QUEUE : Fld := ⟨0x300014, 7, 0⟩
/-- GNS_ACQSTAT.SEARCHES, RO. -/
@[reducible] def GNS_ACQSTAT_SEARCHES : Fld := ⟨0x300014, 31, 16⟩
/-- GNS_TRKCFG.PLL_BW, RW. -/
@[reducible] def GNS_TRKCFG_PLL_BW : Fld := ⟨0x300018, 7, 0⟩
/-- GNS_TRKCFG.DLL_BW, RW. -/
@[reducible] def GNS_TRKCFG_DLL_BW : Fld := ⟨0x300018, 15, 8⟩
/-- GNS_TRKCFG.FLL_BW, RW. -/
@[reducible] def GNS_TRKCFG_FLL_BW : Fld := ⟨0x300018, 23, 16⟩
/-- GNS_TRKCFG.TCOH, RW. -/
@[reducible] def GNS_TRKCFG_TCOH : Fld := ⟨0x300018, 26, 24⟩
/-- GNS_CORRCFG.EL, RW. -/
@[reducible] def GNS_CORRCFG_EL : Fld := ⟨0x30001C, 7, 0⟩
/-- GNS_CORRCFG.VEVL, RW. -/
@[reducible] def GNS_CORRCFG_VEVL : Fld := ⟨0x30001C, 15, 8⟩
/-- GNS_CORRCFG.NOISE, RW. -/
@[reducible] def GNS_CORRCFG_NOISE : Fld := ⟨0x30001C, 23, 16⟩
/-- GNS_LOSS.LOSS_CN0, RW. -/
@[reducible] def GNS_LOSS_LOSS_CN0 : Fld := ⟨0x300020, 7, 0⟩
/-- GNS_LOSS.LOSS_T, RW. -/
@[reducible] def GNS_LOSS_LOSS_T : Fld := ⟨0x300020, 15, 8⟩
/-- GNS_LOSS.REACQ_T, RW. -/
@[reducible] def GNS_LOSS_REACQ_T : Fld := ⟨0x300020, 23, 16⟩
/-- GNS_LOSS.PULLIN_T, RW. -/
@[reducible] def GNS_LOSS_PULLIN_T : Fld := ⟨0x300020, 31, 24⟩
/-- GNS_ANTDLY.DLY, RW. -/
@[reducible] def GNS_ANTDLY_DLY : Fld := ⟨0x300024, 15, 0⟩
/-- GNS_BASE_LEN.VALUE, RW. -/
@[reducible] def GNS_BASE_LEN_VALUE : Fld := ⟨0x300030, 31, 0⟩
/-- GNS_BASE_AZ.VALUE, RW. -/
@[reducible] def GNS_BASE_AZ_VALUE : Fld := ⟨0x300034, 31, 0⟩
/-- GNS_BASE_EL.VALUE, RW. -/
@[reducible] def GNS_BASE_EL_VALUE : Fld := ⟨0x300038, 31, 0⟩
/-- GNS_IFB.VALUE, RW. -/
@[reducible] def GNS_IFB_VALUE : Fld := ⟨0x30003C, 31, 0⟩
/-- GNS_SPOOFCFG.EN, RW. -/
@[reducible] def GNS_SPOOFCFG_EN : Fld := ⟨0x300040, 0, 0⟩
/-- GNS_SPOOFCFG.GEO_THR, RW. -/
@[reducible] def GNS_SPOOFCFG_GEO_THR : Fld := ⟨0x300040, 15, 8⟩
/-- GNS_SPOOFCFG.SPREAD_THR, RW. -/
@[reducible] def GNS_SPOOFCFG_SPREAD_THR : Fld := ⟨0x300040, 23, 16⟩
/-- GNS_SPOOFCFG.INS_THR, RW. -/
@[reducible] def GNS_SPOOFCFG_INS_THR : Fld := ⟨0x300040, 31, 24⟩
/-- GNS_SPOOFSTAT.FAIL, RO. -/
@[reducible] def GNS_SPOOFSTAT_FAIL : Fld := ⟨0x300044, 2, 0⟩
/-- GNS_SPOOFSTAT.NOTEVAL, RO. -/
@[reducible] def GNS_SPOOFSTAT_NOTEVAL : Fld := ⟨0x300044, 6, 4⟩
/-- GNS_RTCMCFG.AGE, RW. -/
@[reducible] def GNS_RTCMCFG_AGE : Fld := ⟨0x300048, 7, 0⟩
/-- GNS_RTCMCFG.EN, RW. -/
@[reducible] def GNS_RTCMCFG_EN : Fld := ⟨0x300048, 8, 8⟩
/-- GNS_RTCMCNT.ACC, RC. -/
@[reducible] def GNS_RTCMCNT_ACC : Fld := ⟨0x30004C, 15, 0⟩
/-- GNS_RTCMCNT.REJ, RC. -/
@[reducible] def GNS_RTCMCNT_REJ : Fld := ⟨0x30004C, 31, 16⟩
/-- GNS_PPSCFG.MODE, RW. -/
@[reducible] def GNS_PPSCFG_MODE : Fld := ⟨0x300050, 1, 0⟩
/-- GNS_PPSCFG.POL, RW. -/
@[reducible] def GNS_PPSCFG_POL : Fld := ⟨0x300050, 2, 2⟩
/-- GNS_PPSCFG.MSG_UART, RW. -/
@[reducible] def GNS_PPSCFG_MSG_UART : Fld := ⟨0x300050, 3, 3⟩
/-- GNS_PPSCFG.MSG_HOST, RW. -/
@[reducible] def GNS_PPSCFG_MSG_HOST : Fld := ⟨0x300050, 4, 4⟩
/-- GNS_PPSCFG.WIDTH, RW. -/
@[reducible] def GNS_PPSCFG_WIDTH : Fld := ⟨0x300050, 17, 8⟩
/-- GNS_PPSOFS.PS, RW. -/
@[reducible] def GNS_PPSOFS_PS : Fld := ⟨0x300054, 31, 0⟩
/-- GNS_PPSRES.PS, RO. -/
@[reducible] def GNS_PPSRES_PS : Fld := ⟨0x300058, 31, 0⟩
/-- GNS_PPSSEQ.SEQ, RO. -/
@[reducible] def GNS_PPSSEQ_SEQ : Fld := ⟨0x30005C, 31, 0⟩
/-- GNS_RF_k_STATUS.JI, RO. -/
@[reducible] def GNS_RF_STATUS_JI (k : Nat) : Fld := ⟨0x300100 + 0x20 * k, 7, 0⟩
/-- GNS_RF_k_STATUS.AGC, RO. -/
@[reducible] def GNS_RF_STATUS_AGC (k : Nat) : Fld := ⟨0x300100 + 0x20 * k, 15, 8⟩
/-- GNS_RF_k_STATUS.NACT, RO. -/
@[reducible] def GNS_RF_STATUS_NACT (k : Nat) : Fld := ⟨0x300100 + 0x20 * k, 19, 16⟩
/-- GNS_RF_k_STATUS.OVL, W1C. -/
@[reducible] def GNS_RF_STATUS_OVL (k : Nat) : Fld := ⟨0x300100 + 0x20 * k, 20, 20⟩
/-- GNS_RF_k_STATUS.PLL_UNLOCK, W1C. -/
@[reducible] def GNS_RF_STATUS_PLL_UNLOCK (k : Nat) : Fld := ⟨0x300100 + 0x20 * k, 21, 21⟩
/-- GNS_RF_k_JAMCFG.THR, RW. -/
@[reducible] def GNS_RF_JAMCFG_THR (k : Nat) : Fld := ⟨0x300104 + 0x20 * k, 7, 0⟩
/-- GNS_RF_k_JAMCFG.HOLD, RW. -/
@[reducible] def GNS_RF_JAMCFG_HOLD (k : Nat) : Fld := ⟨0x300104 + 0x20 * k, 15, 8⟩
/-- GNS_RF_k_JAMCFG.NDET, RW. -/
@[reducible] def GNS_RF_JAMCFG_NDET (k : Nat) : Fld := ⟨0x300104 + 0x20 * k, 23, 16⟩
/-- GNS_RF_k_JAMCFG.NHOLD, RW. -/
@[reducible] def GNS_RF_JAMCFG_NHOLD (k : Nat) : Fld := ⟨0x300104 + 0x20 * k, 31, 24⟩
/-- GNS_RF_k_NOTCH_j.MODE, RW. -/
@[reducible] def GNS_RF_NOTCH_MODE (k j : Nat) : Fld := ⟨0x300108 + 0x20 * k + 0x4 * j, 1, 0⟩
/-- GNS_RF_k_NOTCH_j.BW, RW. -/
@[reducible] def GNS_RF_NOTCH_BW (k j : Nat) : Fld := ⟨0x300108 + 0x20 * k + 0x4 * j, 3, 2⟩
/-- GNS_RF_k_NOTCH_j.ACTIVE, RO. -/
@[reducible] def GNS_RF_NOTCH_ACTIVE (k j : Nat) : Fld := ⟨0x300108 + 0x20 * k + 0x4 * j, 4, 4⟩
/-- GNS_RF_k_NOTCH_j.FREQ, RW. -/
@[reducible] def GNS_RF_NOTCH_FREQ (k j : Nat) : Fld := ⟨0x300108 + 0x20 * k + 0x4 * j, 31, 8⟩
/-- GNS_RF_k_JAMMAX.JI, RC. -/
@[reducible] def GNS_RF_JAMMAX_JI (k : Nat) : Fld := ⟨0x300118 + 0x20 * k, 7, 0⟩
/-- GNS_CH_n_CFG.SIG, RW. -/
@[reducible] def GNS_CH_CFG_SIG (n : Nat) : Fld := ⟨0x301000 + 0x8 * n, 3, 0⟩
/-- GNS_CH_n_CFG.SV, RW. -/
@[reducible] def GNS_CH_CFG_SV (n : Nat) : Fld := ⟨0x301000 + 0x8 * n, 15, 8⟩
/-- GNS_CH_n_CFG.EN, RW. -/
@[reducible] def GNS_CH_CFG_EN (n : Nat) : Fld := ⟨0x301000 + 0x8 * n, 16, 16⟩
/-- GNS_CH_n_STATUS.STATE, RO. -/
@[reducible] def GNS_CH_STATUS_STATE (n : Nat) : Fld := ⟨0x301004 + 0x8 * n, 2, 0⟩
/-- GNS_CH_n_STATUS.CFG_ERR, RO. -/
@[reducible] def GNS_CH_STATUS_CFG_ERR (n : Nat) : Fld := ⟨0x301004 + 0x8 * n, 3, 3⟩
/-- GNS_CH_n_STATUS.CN0, RO. -/
@[reducible] def GNS_CH_STATUS_CN0 (n : Nat) : Fld := ⟨0x301004 + 0x8 * n, 15, 8⟩
/-- GNS_CH_n_STATUS.SLIP, RO. -/
@[reducible] def GNS_CH_STATUS_SLIP (n : Nat) : Fld := ⟨0x301004 + 0x8 * n, 23, 16⟩
/-- GNS_CH_n_STATUS.FLAGS, RO. -/
@[reducible] def GNS_CH_STATUS_FLAGS (n : Nat) : Fld := ⟨0x301004 + 0x8 * n, 31, 24⟩
/-- SIG_STATUS.READY, RO. -/
@[reducible] def SIG_STATUS_READY : Fld := ⟨0x400000, 0, 0⟩
/-- SIG_STATUS.AFE_FAULT, RO. -/
@[reducible] def SIG_STATUS_AFE_FAULT : Fld := ⟨0x400000, 1, 1⟩
/-- SIG_STATUS.EXC_FAULT, RO. -/
@[reducible] def SIG_STATUS_EXC_FAULT : Fld := ⟨0x400000, 7, 4⟩
/-- SIG_ERR.SRC, W1C. -/
@[reducible] def SIG_ERR_SRC : Fld := ⟨0x400004, 0, 0⟩
/-- SIG_ERR.ACTIVE_WR, W1C. -/
@[reducible] def SIG_ERR_ACTIVE_WR : Fld := ⟨0x400004, 1, 1⟩
/-- SIG_ERR.BUSY, W1C. -/
@[reducible] def SIG_ERR_BUSY : Fld := ⟨0x400004, 2, 2⟩
/-- SIG_ERR.CANLEN, W1C. -/
@[reducible] def SIG_ERR_CANLEN : Fld := ⟨0x400004, 3, 3⟩
/-- SIG_EXC.EN, RW. -/
@[reducible] def SIG_EXC_EN : Fld := ⟨0x400008, 3, 0⟩
/-- SIG_EXC.FREQ, RW. -/
@[reducible] def SIG_EXC_FREQ : Fld := ⟨0x400008, 4, 4⟩
/-- SIG_EXC.AMP, RW. -/
@[reducible] def SIG_EXC_AMP : Fld := ⟨0x400008, 15, 8⟩
/-- SIG_SYNC_w.CH, WO. -/
@[reducible] def SIG_SYNC_CH (w : Nat) : Fld := ⟨0x400010 + 0x4 * w, 31, 0⟩
/-- SIG_RES_r_CFG.EN, RW. -/
@[reducible] def SIG_RES_CFG_EN (r : Nat) : Fld := ⟨0x400020 + 0x4 * r, 0, 0⟩
/-- SIG_RES_r_CFG.MINMAG, RW. -/
@[reducible] def SIG_RES_CFG_MINMAG (r : Nat) : Fld := ⟨0x400020 + 0x4 * r, 15, 8⟩
/-- SIG_RES_r_CFG.PHASE, RW. -/
@[reducible] def SIG_RES_CFG_PHASE (r : Nat) : Fld := ⟨0x400020 + 0x4 * r, 31, 16⟩
/-- SIG_UART_u_CFG.BAUD, RW. -/
@[reducible] def SIG_UART_CFG_BAUD (u : Nat) : Fld := ⟨0x400040 + 0x8 * u, 2, 0⟩
/-- SIG_UART_u_CFG.EN, RW. -/
@[reducible] def SIG_UART_CFG_EN (u : Nat) : Fld := ⟨0x400040 + 0x8 * u, 3, 3⟩
/-- SIG_UART_u_CFG.CKREQ, RW. -/
@[reducible] def SIG_UART_CFG_CKREQ (u : Nat) : Fld := ⟨0x400040 + 0x8 * u, 4, 4⟩
/-- SIG_UART_u_CNT.OK, RC. -/
@[reducible] def SIG_UART_CNT_OK (u : Nat) : Fld := ⟨0x400044 + 0x8 * u, 15, 0⟩
/-- SIG_UART_u_CNT.ERR, RC. -/
@[reducible] def SIG_UART_CNT_ERR (u : Nat) : Fld := ⟨0x400044 + 0x8 * u, 31, 16⟩
/-- SIG_CANID_m.ID, RW. -/
@[reducible] def SIG_CANID_ID (m : Nat) : Fld := ⟨0x4000C0 + 0x4 * m, 28, 0⟩
/-- SIG_CANID_m.IDE, RW. -/
@[reducible] def SIG_CANID_IDE (m : Nat) : Fld := ⟨0x4000C0 + 0x4 * m, 29, 29⟩
/-- SIG_S_n_CFG.EN, RW. -/
@[reducible] def SIG_S_CFG_EN (n : Nat) : Fld := ⟨0x401000 + 0x10 * n, 0, 0⟩
/-- SIG_S_n_CFG.RANK, RW. -/
@[reducible] def SIG_S_CFG_RANK (n : Nat) : Fld := ⟨0x401000 + 0x10 * n, 3, 1⟩
/-- SIG_S_n_CFG.DECIM, RW. -/
@[reducible] def SIG_S_CFG_DECIM (n : Nat) : Fld := ⟨0x401000 + 0x10 * n, 4, 4⟩
/-- SIG_S_n_CFG.ANGLE, RW. -/
@[reducible] def SIG_S_CFG_ANGLE (n : Nat) : Fld := ⟨0x401000 + 0x10 * n, 5, 5⟩
/-- SIG_S_n_CFG.BANK, RW. -/
@[reducible] def SIG_S_CFG_BANK (n : Nat) : Fld := ⟨0x401000 + 0x10 * n, 6, 6⟩
/-- SIG_S_n_CFG.FADE, RW. -/
@[reducible] def SIG_S_CFG_FADE (n : Nat) : Fld := ⟨0x401000 + 0x10 * n, 15, 8⟩
/-- SIG_S_n_CFG.STEP_M, RW. -/
@[reducible] def SIG_S_CFG_STEP_M (n : Nat) : Fld := ⟨0x401000 + 0x10 * n, 23, 16⟩
/-- SIG_S_n_CFG.STEP_E, RW. -/
@[reducible] def SIG_S_CFG_STEP_E (n : Nat) : Fld := ⟨0x401000 + 0x10 * n, 27, 24⟩
/-- SIG_S_n_CFG.TMO, RW. -/
@[reducible] def SIG_S_CFG_TMO (n : Nat) : Fld := ⟨0x401000 + 0x10 * n, 31, 28⟩
/-- SIG_S_n_SRC.TYPE, RW. -/
@[reducible] def SIG_S_SRC_TYPE (n : Nat) : Fld := ⟨0x401004 + 0x10 * n, 2, 0⟩
/-- SIG_S_n_SRC.PAR, RW. -/
@[reducible] def SIG_S_SRC_PAR (n : Nat) : Fld := ⟨0x401004 + 0x10 * n, 31, 4⟩
/-- SIG_S_n_VAL.VALUE, RO. -/
@[reducible] def SIG_S_VAL_VALUE (n : Nat) : Fld := ⟨0x401008 + 0x10 * n, 31, 0⟩
/-- SIG_S_n_STAT.VALID, RO. -/
@[reducible] def SIG_S_STAT_VALID (n : Nat) : Fld := ⟨0x40100C + 0x10 * n, 0, 0⟩
/-- SIG_S_n_STAT.FINE_VALID, RO. -/
@[reducible] def SIG_S_STAT_FINE_VALID (n : Nat) : Fld := ⟨0x40100C + 0x10 * n, 1, 1⟩
/-- SIG_S_n_STAT.FADE, RO. -/
@[reducible] def SIG_S_STAT_FADE (n : Nat) : Fld := ⟨0x40100C + 0x10 * n, 2, 2⟩
/-- SIG_S_n_STAT.ABANK, RO. -/
@[reducible] def SIG_S_STAT_ABANK (n : Nat) : Fld := ⟨0x40100C + 0x10 * n, 3, 3⟩
/-- SIG_S_n_STAT.NO_NEW, RO. -/
@[reducible] def SIG_S_STAT_NO_NEW (n : Nat) : Fld := ⟨0x40100C + 0x10 * n, 4, 4⟩
/-- SIG_S_n_STAT.SAT, W1C. -/
@[reducible] def SIG_S_STAT_SAT (n : Nat) : Fld := ⟨0x40100C + 0x10 * n, 5, 5⟩
/-- SIG_S_n_STAT.STEP, W1C. -/
@[reducible] def SIG_S_STAT_STEP (n : Nat) : Fld := ⟨0x40100C + 0x10 * n, 6, 6⟩
/-- SIG_S_n_STAT.SRCV, RO. -/
@[reducible] def SIG_S_STAT_SRCV (n : Nat) : Fld := ⟨0x40100C + 0x10 * n, 7, 7⟩
/-- SIG_S_n_STAT.ZERO, RO. -/
@[reducible] def SIG_S_STAT_ZERO (n : Nat) : Fld := ⟨0x40100C + 0x10 * n, 8, 8⟩
/-- SIG_S_n_STAT.SRC_ERR, RO. -/
@[reducible] def SIG_S_STAT_SRC_ERR (n : Nat) : Fld := ⟨0x40100C + 0x10 * n, 9, 9⟩
/-- SIG_S_n_STAT.RANGE, RO. -/
@[reducible] def SIG_S_STAT_RANGE (n : Nat) : Fld := ⟨0x40100C + 0x10 * n, 10, 10⟩
/-- SIG_S_n_STAT.OVF, W1C. -/
@[reducible] def SIG_S_STAT_OVF (n : Nat) : Fld := ⟨0x40100C + 0x10 * n, 11, 11⟩
/-- SIG_S_n_STAT.SWITCHING, RO. -/
@[reducible] def SIG_S_STAT_SWITCHING (n : Nat) : Fld := ⟨0x40100C + 0x10 * n, 12, 12⟩
/-- SIG_S_n_STAT.AGE, RO. -/
@[reducible] def SIG_S_STAT_AGE (n : Nat) : Fld := ⟨0x40100C + 0x10 * n, 23, 16⟩
/-- SIG_S_n_B_b_NTAPS.NTAPS, RW. -/
@[reducible] def SIG_S_B_NTAPS_NTAPS (n b : Nat) : Fld := ⟨0x420000 + 0x400 * n + 0x200 * b, 5, 0⟩
/-- SIG_S_n_B_b_GAIN.GAIN, RW. -/
@[reducible] def SIG_S_B_GAIN_GAIN (n b : Nat) : Fld := ⟨0x420004 + 0x400 * n + 0x200 * b, 31, 0⟩
/-- SIG_S_n_B_b_SHIFT.SHIFT, RW. -/
@[reducible] def SIG_S_B_SHIFT_SHIFT (n b : Nat) : Fld := ⟨0x420008 + 0x400 * n + 0x200 * b, 4, 0⟩
/-- SIG_S_n_B_b_OFFSET.OFFSET, RW. -/
@[reducible] def SIG_S_B_OFFSET_OFFSET (n b : Nat) : Fld := ⟨0x42000C + 0x400 * n + 0x200 * b, 31, 0⟩
/-- SIG_S_n_B_b_TAP_j.TAP, RW. -/
@[reducible] def SIG_S_B_TAP_TAP (n b j : Nat) : Fld := ⟨0x420010 + 0x400 * n + 0x200 * b + 0x4 * j, 31, 0⟩
/-- ALN_CTRL.WIN, RW. -/
@[reducible] def ALN_CTRL_WIN : Fld := ⟨0x500000, 3, 0⟩
/-- ALN_ATTSRC.ATT, RW. -/
@[reducible] def ALN_ATTSRC_ATT : Fld := ⟨0x500004, 4, 0⟩
/-- ALN_ATTSRC.HDG, RW. -/
@[reducible] def ALN_ATTSRC_HDG : Fld := ⟨0x500004, 12, 8⟩
/-- ALN_ATTSRC.LEVEL, RW. -/
@[reducible] def ALN_ATTSRC_LEVEL : Fld := ⟨0x500004, 16, 16⟩
/-- ALN_ERR.QUEUE_OVF, W1C. -/
@[reducible] def ALN_ERR_QUEUE_OVF : Fld := ⟨0x500008, 0, 0⟩
/-- ALN_ERR.BUDGET, W1C. -/
@[reducible] def ALN_ERR_BUDGET : Fld := ⟨0x500008, 1, 1⟩
/-- ALN_ERR.CFG, W1C. -/
@[reducible] def ALN_ERR_CFG : Fld := ⟨0x500008, 2, 2⟩
/-- ALN_STALE.ST, RO. -/
@[reducible] def ALN_STALE_ST : Fld := ⟨0x50000C, 31, 0⟩
/-- ALN_LOAD.LAST, RO. -/
@[reducible] def ALN_LOAD_LAST : Fld := ⟨0x500010, 9, 0⟩
/-- ALN_LOAD.MAX, RC. -/
@[reducible] def ALN_LOAD_MAX : Fld := ⟨0x500010, 25, 16⟩
/-- ALN_GAIN.KO, RW. -/
@[reducible] def ALN_GAIN_KO : Fld := ⟨0x500014, 15, 0⟩
/-- ALN_GAIN.KR, RW. -/
@[reducible] def ALN_GAIN_KR : Fld := ⟨0x500014, 31, 16⟩
/-- ALN_ST_n_CFG.EN, RW. -/
@[reducible] def ALN_ST_CFG_EN (n : Nat) : Fld := ⟨0x500100 + 0x10 * n, 0, 0⟩
/-- ALN_ST_n_CFG.MODE, RW. -/
@[reducible] def ALN_ST_CFG_MODE (n : Nat) : Fld := ⟨0x500100 + 0x10 * n, 2, 1⟩
/-- ALN_ST_n_CFG.KIND, RW. -/
@[reducible] def ALN_ST_CFG_KIND (n : Nat) : Fld := ⟨0x500100 + 0x10 * n, 7, 4⟩
/-- ALN_ST_n_CFG.REFSRC, RW. -/
@[reducible] def ALN_ST_CFG_REFSRC (n : Nat) : Fld := ⟨0x500100 + 0x10 * n, 12, 8⟩
/-- ALN_ST_n_CFG.QUAL, RW. -/
@[reducible] def ALN_ST_CFG_QUAL (n : Nat) : Fld := ⟨0x500100 + 0x10 * n, 21, 16⟩
/-- ALN_ST_n_CFG.MISSLIM, RW. -/
@[reducible] def ALN_ST_CFG_MISSLIM (n : Nat) : Fld := ⟨0x500100 + 0x10 * n, 27, 24⟩
/-- ALN_ST_n_CH.CH0, RW. -/
@[reducible] def ALN_ST_CH_CH0 (n : Nat) : Fld := ⟨0x500104 + 0x10 * n, 6, 0⟩
/-- ALN_ST_n_CH.CH1, RW. -/
@[reducible] def ALN_ST_CH_CH1 (n : Nat) : Fld := ⟨0x500104 + 0x10 * n, 14, 8⟩
/-- ALN_ST_n_CH.CH2, RW. -/
@[reducible] def ALN_ST_CH_CH2 (n : Nat) : Fld := ⟨0x500104 + 0x10 * n, 22, 16⟩
/-- ALN_ST_n_CH.CH3, RW. -/
@[reducible] def ALN_ST_CH_CH3 (n : Nat) : Fld := ⟨0x500104 + 0x10 * n, 30, 24⟩
/-- ALN_ST_n_STAT.STATE, RO. -/
@[reducible] def ALN_ST_STAT_STATE (n : Nat) : Fld := ⟨0x500108 + 0x10 * n, 1, 0⟩
/-- ALN_ST_n_STAT.CFG_ERR, RO. -/
@[reducible] def ALN_ST_STAT_CFG_ERR (n : Nat) : Fld := ⟨0x500108 + 0x10 * n, 2, 2⟩
/-- ALN_ST_n_STAT.PENDING, RO. -/
@[reducible] def ALN_ST_STAT_PENDING (n : Nat) : Fld := ⟨0x500108 + 0x10 * n, 11, 8⟩
/-- ALN_ST_n_STAT.QCOUNT, RO. -/
@[reducible] def ALN_ST_STAT_QCOUNT (n : Nat) : Fld := ⟨0x500108 + 0x10 * n, 21, 16⟩
/-- ALN_ST_n_SDLY.NS, RW. -/
@[reducible] def ALN_ST_SDLY_NS (n : Nat) : Fld := ⟨0x510000 + 0x40 * n, 31, 0⟩
/-- ALN_ST_n_LAT0.NS, RW. -/
@[reducible] def ALN_ST_LAT0_NS (n : Nat) : Fld := ⟨0x510004 + 0x40 * n, 31, 0⟩
/-- ALN_ST_n_LEVER_a.MM, RW. -/
@[reducible] def ALN_ST_LEVER_MM (n a : Nat) : Fld := ⟨0x510008 + 0x40 * n + 0x4 * a, 31, 0⟩
/-- ALN_ST_n_Q_b.Q, RW. -/
@[reducible] def ALN_ST_Q_Q (n b : Nat) : Fld := ⟨0x510014 + 0x40 * n + 0x4 * b, 31, 0⟩
/-- ALN_ST_n_OFS.NS, RO. -/
@[reducible] def ALN_ST_OFS_NS (n : Nat) : Fld := ⟨0x510024 + 0x40 * n, 31, 0⟩
/-- ALN_ST_n_RATE.RATE, RO. -/
@[reducible] def ALN_ST_RATE_RATE (n : Nat) : Fld := ⟨0x510028 + 0x40 * n, 31, 0⟩
/-- ALN_ST_n_RESID.NS, RO. -/
@[reducible] def ALN_ST_RESID_NS (n : Nat) : Fld := ⟨0x51002C + 0x40 * n, 31, 0⟩
/-- ALN_ST_n_CNT0.MISS, RO. -/
@[reducible] def ALN_ST_CNT0_MISS (n : Nat) : Fld := ⟨0x510030 + 0x40 * n, 15, 0⟩
/-- ALN_ST_n_CNT0.ORPHAN, RO. -/
@[reducible] def ALN_ST_CNT0_ORPHAN (n : Nat) : Fld := ⟨0x510030 + 0x40 * n, 31, 16⟩
/-- ALN_ST_n_CNT1.REASSOC, RO. -/
@[reducible] def ALN_ST_CNT1_REASSOC (n : Nat) : Fld := ⟨0x510034 + 0x40 * n, 15, 0⟩
/-- ALN_ST_n_CNT1.LATE, RO. -/
@[reducible] def ALN_ST_CNT1_LATE (n : Nat) : Fld := ⟨0x510034 + 0x40 * n, 31, 16⟩
/-- ALN_ST_n_CNT2.INCOMPLETE, RO. -/
@[reducible] def ALN_ST_CNT2_INCOMPLETE (n : Nat) : Fld := ⟨0x510038 + 0x40 * n, 15, 0⟩
/-- ALN_ST_n_CNT2.NOATT, RO. -/
@[reducible] def ALN_ST_CNT2_NOATT (n : Nat) : Fld := ⟨0x510038 + 0x40 * n, 31, 16⟩
/-- ALN_ST_n_DELIV.COUNT, RO. -/
@[reducible] def ALN_ST_DELIV_COUNT (n : Nat) : Fld := ⟨0x51003C + 0x40 * n, 31, 0⟩
/-- EST_CTRL.EN, RW. -/
@[reducible] def EST_CTRL_EN : Fld := ⟨0x600000, 0, 0⟩
/-- EST_CTRL.REINIT, WO. -/
@[reducible] def EST_CTRL_REINIT : Fld := ⟨0x600000, 1, 1⟩
/-- EST_STATUS.VSTATE, RO. -/
@[reducible] def EST_STATUS_VSTATE : Fld := ⟨0x600004, 2, 0⟩
/-- EST_STATUS.FAR, RO. -/
@[reducible] def EST_STATUS_FAR : Fld := ⟨0x600004, 4, 4⟩
/-- EST_STATUS.ORIGIN_PEND, RO. -/
@[reducible] def EST_STATUS_ORIGIN_PEND : Fld := ⟨0x600004, 5, 5⟩
/-- EST_STATUS.NPR, RO. -/
@[reducible] def EST_STATUS_NPR : Fld := ⟨0x600004, 11, 8⟩
/-- EST_STATUS.NHR, RO. -/
@[reducible] def EST_STATUS_NHR : Fld := ⟨0x600004, 14, 12⟩
/-- EST_STATUS.NTG, RO. -/
@[reducible] def EST_STATUS_NTG : Fld := ⟨0x600004, 19, 16⟩
/-- EST_ORIGIN_LAT.LAT, RW. -/
@[reducible] def EST_ORIGIN_LAT_LAT : Fld := ⟨0x600008, 31, 0⟩
/-- EST_ORIGIN_LON.LON, RW. -/
@[reducible] def EST_ORIGIN_LON_LON : Fld := ⟨0x60000C, 31, 0⟩
/-- EST_QUAL.QTIME, RW. -/
@[reducible] def EST_QUAL_QTIME : Fld := ⟨0x600010, 7, 0⟩
/-- EST_QUAL.QPOS, RW. -/
@[reducible] def EST_QUAL_QPOS : Fld := ⟨0x600010, 15, 8⟩
/-- EST_QUAL.QHDG, RW. -/
@[reducible] def EST_QUAL_QHDG : Fld := ⟨0x600010, 23, 16⟩
/-- EST_QUAL.LOSS_T, RW. -/
@[reducible] def EST_QUAL_LOSS_T : Fld := ⟨0x600010, 31, 24⟩
/-- EST_VESSEL.MASS, RW. -/
@[reducible] def EST_VESSEL_MASS : Fld := ⟨0x600014, 15, 0⟩
/-- EST_VESSEL.LEN, RW. -/
@[reducible] def EST_VESSEL_LEN : Fld := ⟨0x600014, 23, 16⟩
/-- EST_FAR.LIMIT, RW. -/
@[reducible] def EST_FAR_LIMIT : Fld := ⟨0x600018, 15, 0⟩
/-- EST_WIND.EN, RW. -/
@[reducible] def EST_WIND_EN : Fld := ⟨0x60001C, 0, 0⟩
/-- EST_WIND.STREAM, RW. -/
@[reducible] def EST_WIND_STREAM : Fld := ⟨0x60001C, 12, 8⟩
/-- EST_WIND.HOLD, RW. -/
@[reducible] def EST_WIND_HOLD : Fld := ⟨0x60001C, 23, 16⟩
/-- EST_WINDAREA.AF, RW. -/
@[reducible] def EST_WINDAREA_AF : Fld := ⟨0x600020, 15, 0⟩
/-- EST_WINDAREA.AL, RW. -/
@[reducible] def EST_WINDAREA_AL : Fld := ⟨0x600020, 31, 16⟩
/-- EST_ERR.NUMFAULT, W1C. -/
@[reducible] def EST_ERR_NUMFAULT : Fld := ⟨0x600024, 0, 0⟩
/-- EST_ERR.DEFER, W1C. -/
@[reducible] def EST_ERR_DEFER : Fld := ⟨0x600024, 1, 1⟩
/-- EST_ERR.ORIGIN_DEFER, W1C. -/
@[reducible] def EST_ERR_ORIGIN_DEFER : Fld := ⟨0x600024, 2, 2⟩
/-- EST_ERR.CFG, W1C. -/
@[reducible] def EST_ERR_CFG : Fld := ⟨0x600024, 3, 3⟩
/-- EST_ERR.PEERSKEW, W1C. -/
@[reducible] def EST_ERR_PEERSKEW : Fld := ⟨0x600024, 4, 4⟩
/-- EST_ERR.TOOOLD, W1C. -/
@[reducible] def EST_ERR_TOOOLD : Fld := ⟨0x600024, 5, 5⟩
/-- EST_LOAD.LAST, RO. -/
@[reducible] def EST_LOAD_LAST : Fld := ⟨0x600028, 9, 0⟩
/-- EST_LOAD.MAX, RC. -/
@[reducible] def EST_LOAD_MAX : Fld := ⟨0x600028, 25, 16⟩
/-- EST_PEERTHR.THR, RW. -/
@[reducible] def EST_PEERTHR_THR : Fld := ⟨0x60002C, 31, 0⟩
/-- EST_PEERCFG.N, RW. -/
@[reducible] def EST_PEERCFG_N : Fld := ⟨0x600030, 7, 0⟩
/-- EST_PEERCFG.EN, RW. -/
@[reducible] def EST_PEERCFG_EN : Fld := ⟨0x600030, 8, 8⟩
/-- EST_PR_k_CFG.EN, RW. -/
@[reducible] def EST_PR_CFG_EN (k : Nat) : Fld := ⟨0x600100 + 0x20 * k, 0, 0⟩
/-- EST_PR_k_CFG.TYPE, RW. -/
@[reducible] def EST_PR_CFG_TYPE (k : Nat) : Fld := ⟨0x600100 + 0x20 * k, 3, 1⟩
/-- EST_PR_k_CFG.VEL, RW. -/
@[reducible] def EST_PR_CFG_VEL (k : Nat) : Fld := ⟨0x600100 + 0x20 * k, 4, 4⟩
/-- EST_PR_k_CFG.ANT, RW. -/
@[reducible] def EST_PR_CFG_ANT (k : Nat) : Fld := ⟨0x600100 + 0x20 * k, 5, 5⟩
/-- EST_PR_k_CFG.STREAM, RW. -/
@[reducible] def EST_PR_CFG_STREAM (k : Nat) : Fld := ⟨0x600100 + 0x20 * k, 12, 8⟩
/-- EST_PR_k_CFG.LSTREAM, RW. -/
@[reducible] def EST_PR_CFG_LSTREAM (k : Nat) : Fld := ⟨0x600100 + 0x20 * k, 20, 16⟩
/-- EST_PR_k_SIGMA.MEAS, RW. -/
@[reducible] def EST_PR_SIGMA_MEAS (k : Nat) : Fld := ⟨0x600104 + 0x20 * k, 15, 0⟩
/-- EST_PR_k_SIGMA.BIAS, RW. -/
@[reducible] def EST_PR_SIGMA_BIAS (k : Nat) : Fld := ⟨0x600104 + 0x20 * k, 31, 16⟩
/-- EST_PR_k_TIME.TB, RW. -/
@[reducible] def EST_PR_TIME_TB (k : Nat) : Fld := ⟨0x600108 + 0x20 * k, 15, 0⟩
/-- EST_PR_k_TIME.TMO, RW. -/
@[reducible] def EST_PR_TIME_TMO (k : Nat) : Fld := ⟨0x600108 + 0x20 * k, 23, 16⟩
/-- EST_PR_k_REFN.MM, RW. -/
@[reducible] def EST_PR_REFN_MM (k : Nat) : Fld := ⟨0x60010C + 0x20 * k, 31, 0⟩
/-- EST_PR_k_REFE.MM, RW. -/
@[reducible] def EST_PR_REFE_MM (k : Nat) : Fld := ⟨0x600110 + 0x20 * k, 31, 0⟩
/-- EST_HR_h_CFG.EN, RW. -/
@[reducible] def EST_HR_CFG_EN (h : Nat) : Fld := ⟨0x600280 + 0x10 * h, 0, 0⟩
/-- EST_HR_h_CFG.STREAM, RW. -/
@[reducible] def EST_HR_CFG_STREAM (h : Nat) : Fld := ⟨0x600280 + 0x10 * h, 12, 8⟩
/-- EST_HR_h_CFG.SIGMA, RW. -/
@[reducible] def EST_HR_CFG_SIGMA (h : Nat) : Fld := ⟨0x600280 + 0x10 * h, 31, 16⟩
/-- EST_HR_h_TIME.TB, RW. -/
@[reducible] def EST_HR_TIME_TB (h : Nat) : Fld := ⟨0x600284 + 0x10 * h, 15, 0⟩
/-- EST_HR_h_TIME.TMO, RW. -/
@[reducible] def EST_HR_TIME_TMO (h : Nat) : Fld := ⟨0x600284 + 0x10 * h, 23, 16⟩
/-- EST_TG_t_CFG.EN, RW. -/
@[reducible] def EST_TG_CFG_EN (t : Nat) : Fld := ⟨0x6002C0 + 0x20 * t, 0, 0⟩
/-- EST_TG_t_CFG.TYPE, RW. -/
@[reducible] def EST_TG_CFG_TYPE (t : Nat) : Fld := ⟨0x6002C0 + 0x20 * t, 1, 1⟩
/-- EST_TG_t_CFG.STREAM, RW. -/
@[reducible] def EST_TG_CFG_STREAM (t : Nat) : Fld := ⟨0x6002C0 + 0x20 * t, 12, 8⟩
/-- EST_TG_t_CFG.SRC, RW. -/
@[reducible] def EST_TG_CFG_SRC (t : Nat) : Fld := ⟨0x6002C0 + 0x20 * t, 13, 13⟩
/-- EST_TG_t_CFG.SIGMA, RW. -/
@[reducible] def EST_TG_CFG_SIGMA (t : Nat) : Fld := ⟨0x6002C0 + 0x20 * t, 31, 16⟩
/-- EST_TG_t_N.MM, RW. -/
@[reducible] def EST_TG_N_MM (t : Nat) : Fld := ⟨0x6002C4 + 0x20 * t, 31, 0⟩
/-- EST_TG_t_E.MM, RW. -/
@[reducible] def EST_TG_E_MM (t : Nat) : Fld := ⟨0x6002C8 + 0x20 * t, 31, 0⟩
/-- EST_TG_t_QA.ACC, RW. -/
@[reducible] def EST_TG_QA_ACC (t : Nat) : Fld := ⟨0x6002CC + 0x20 * t, 15, 0⟩
/-- EST_PEER_p_STAT.VALID, RO. -/
@[reducible] def EST_PEER_STAT_VALID (p : Nat) : Fld := ⟨0x600400 + 0x20 * p, 0, 0⟩
/-- EST_PEER_p_STAT.CONSIST, RO. -/
@[reducible] def EST_PEER_STAT_CONSIST (p : Nat) : Fld := ⟨0x600400 + 0x20 * p, 1, 1⟩
/-- EST_PEER_p_STAT.PEERFAIL, RO. -/
@[reducible] def EST_PEER_STAT_PEERFAIL (p : Nat) : Fld := ⟨0x600400 + 0x20 * p, 2, 2⟩
/-- EST_PEER_p_STAT.CONSEC, RO. -/
@[reducible] def EST_PEER_STAT_CONSEC (p : Nat) : Fld := ⟨0x600400 + 0x20 * p, 15, 8⟩
/-- EST_PEER_p_D2.D2, RO. -/
@[reducible] def EST_PEER_D2_D2 (p : Nat) : Fld := ⟨0x600404 + 0x20 * p, 31, 0⟩
/-- EST_PEER_p_FN.MM, RO. -/
@[reducible] def EST_PEER_FN_MM (p : Nat) : Fld := ⟨0x600408 + 0x20 * p, 31, 0⟩
/-- EST_PEER_p_FE.MM, RO. -/
@[reducible] def EST_PEER_FE_MM (p : Nat) : Fld := ⟨0x60040C + 0x20 * p, 31, 0⟩
/-- EST_PEER_p_SD.MM, RO. -/
@[reducible] def EST_PEER_SD_MM (p : Nat) : Fld := ⟨0x600410 + 0x20 * p, 31, 0⟩
/-- EST_PEER_p_OMEGA.OMEGA, RO. -/
@[reducible] def EST_PEER_OMEGA_OMEGA (p : Nat) : Fld := ⟨0x600414 + 0x20 * p, 4, 0⟩
/-- EST_PEER_p_T_LO.T, RO. -/
@[reducible] def EST_PEER_T_LO_T (p : Nat) : Fld := ⟨0x600418 + 0x20 * p, 31, 0⟩
/-- EST_PEER_p_T_HI.T, RO. -/
@[reducible] def EST_PEER_T_HI_T (p : Nat) : Fld := ⟨0x60041C + 0x20 * p, 31, 0⟩
/-- EST_M_i_j.VALUE, RW. -/
@[reducible] def EST_M_VALUE (i j : Nat) : Fld := ⟨0x630000 + 0xC * i + 0x4 * j, 31, 0⟩
/-- EST_D_i_j.VALUE, RW. -/
@[reducible] def EST_D_VALUE (i j : Nat) : Fld := ⟨0x630024 + 0xC * i + 0x4 * j, 31, 0⟩
/-- EST_WAVE_W_i.VALUE, RW. -/
@[reducible] def EST_WAVE_W_VALUE (i : Nat) : Fld := ⟨0x630048 + 0x4 * i, 31, 0⟩
/-- EST_WAVE_Z_i.VALUE, RW. -/
@[reducible] def EST_WAVE_Z_VALUE (i : Nat) : Fld := ⟨0x630054 + 0x4 * i, 31, 0⟩
/-- EST_TB_i.VALUE, RW. -/
@[reducible] def EST_TB_VALUE (i : Nat) : Fld := ⟨0x630060 + 0x4 * i, 31, 0⟩
/-- EST_Q_s.VALUE, RW. -/
@[reducible] def EST_Q_VALUE (s : Nat) : Fld := ⟨0x630070 + 0x4 * s, 31, 0⟩
/-- EST_P0_s.VALUE, RW. -/
@[reducible] def EST_P0_VALUE (s : Nat) : Fld := ⟨0x6300B0 + 0x4 * s, 31, 0⟩
/-- EST_WINDC_a_w.VALUE, RW. -/
@[reducible] def EST_WINDC_VALUE (a w : Nat) : Fld := ⟨0x630100 + 0x50 * a + 0x4 * w, 31, 0⟩
/-- EST_ARB_CFG.LIMP, RW. -/
@[reducible] def EST_ARB_CFG_LIMP : Fld := ⟨0x640000, 15, 0⟩
/-- EST_ARB_CFG.LIMH, RW. -/
@[reducible] def EST_ARB_CFG_LIMH : Fld := ⟨0x640000, 31, 16⟩
/-- EST_ARB_TIME.HOLD, RW. -/
@[reducible] def EST_ARB_TIME_HOLD : Fld := ⟨0x640004, 7, 0⟩
/-- EST_ARB_TIME.WIN, RW. -/
@[reducible] def EST_ARB_TIME_WIN : Fld := ⟨0x640004, 15, 8⟩
/-- EST_ARB_TIME.VOTE_AGE, RW. -/
@[reducible] def EST_ARB_TIME_VOTE_AGE : Fld := ⟨0x640004, 23, 16⟩
/-- EST_GK_CFG.DELAY, RW. -/
@[reducible] def EST_GK_CFG_DELAY : Fld := ⟨0x640008, 7, 0⟩
/-- EST_GK_CFG.TLIM, RW. -/
@[reducible] def EST_GK_CFG_TLIM : Fld := ⟨0x640008, 15, 8⟩
/-- EST_GK_CFG.RET, RW. -/
@[reducible] def EST_GK_CFG_RET : Fld := ⟨0x640008, 19, 16⟩
/-- EST_GK_GROW.RATE, RW. -/
@[reducible] def EST_GK_GROW_RATE : Fld := ⟨0x64000C, 15, 0⟩
/-- EST_GK_GROW.ULIM, RW. -/
@[reducible] def EST_GK_GROW_ULIM : Fld := ⟨0x64000C, 31, 16⟩
/-- EST_GK_STATUS.ACTIVE, RO. -/
@[reducible] def EST_GK_STATUS_ACTIVE : Fld := ⟨0x640010, 0, 0⟩
/-- EST_GK_STATUS.EXPIRED, W1C. -/
@[reducible] def EST_GK_STATUS_EXPIRED : Fld := ⟨0x640010, 1, 1⟩
/-- EST_GK_STATUS.ELAPSED, RO. -/
@[reducible] def EST_GK_STATUS_ELAPSED : Fld := ⟨0x640010, 27, 16⟩
/-- EST_GK_UNC.MM, RO. -/
@[reducible] def EST_GK_UNC_MM : Fld := ⟨0x640014, 31, 0⟩
/-- EST_ARB_STATUS.N, RO. -/
@[reducible] def EST_ARB_STATUS_N : Fld := ⟨0x640018, 3, 0⟩
/-- EST_ARB_STATUS.PMODE, RO. -/
@[reducible] def EST_ARB_STATUS_PMODE : Fld := ⟨0x640018, 5, 4⟩
/-- EST_ARB_STATUS.NH, RO. -/
@[reducible] def EST_ARB_STATUS_NH : Fld := ⟨0x640018, 10, 8⟩
/-- EST_ARB_STATUS.HMODE, RO. -/
@[reducible] def EST_ARB_STATUS_HMODE : Fld := ⟨0x640018, 13, 12⟩
/-- EST_ARB_STATUS.CONTRA, RO. -/
@[reducible] def EST_ARB_STATUS_CONTRA : Fld := ⟨0x640018, 16, 16⟩
/-- EST_ARB_STATUS.HCONTRA, RO. -/
@[reducible] def EST_ARB_STATUS_HCONTRA : Fld := ⟨0x640018, 17, 17⟩
/-- EST_ARB_STATUS.NOHDG, RO. -/
@[reducible] def EST_ARB_STATUS_NOHDG : Fld := ⟨0x640018, 18, 18⟩
/-- EST_ARB_OVR.DESEL_PR, RW. -/
@[reducible] def EST_ARB_OVR_DESEL_PR : Fld := ⟨0x64001C, 11, 0⟩
/-- EST_ARB_OVR.DESEL_HR, RW. -/
@[reducible] def EST_ARB_OVR_DESEL_HR : Fld := ⟨0x64001C, 15, 12⟩
/-- EST_ARB_OVR.FORCE_PR, RW. -/
@[reducible] def EST_ARB_OVR_FORCE_PR : Fld := ⟨0x64001C, 27, 16⟩
/-- EST_ARB_OVR.FORCE_HR, RW. -/
@[reducible] def EST_ARB_OVR_FORCE_HR : Fld := ⟨0x64001C, 31, 28⟩
/-- EST_ARB_CLR.CLR, WO. -/
@[reducible] def EST_ARB_CLR_CLR : Fld := ⟨0x640020, 15, 0⟩
/-- EST_ARB_SUSP.SUSP, RO. -/
@[reducible] def EST_ARB_SUSP_SUSP : Fld := ⟨0x640024, 15, 0⟩
/-- EST_ARB_SPOOF.GNSS, RW. -/
@[reducible] def EST_ARB_SPOOF_GNSS : Fld := ⟨0x640028, 11, 0⟩
/-- EST_ARB_SPOOF.EXCL, RW. -/
@[reducible] def EST_ARB_SPOOF_EXCL : Fld := ⟨0x640028, 16, 16⟩
/-- EST_ARB_REHAB.AUTO, RW. -/
@[reducible] def EST_ARB_REHAB_AUTO : Fld := ⟨0x64002C, 0, 0⟩
/-- EST_ARB_REHAB.TIME, RW. -/
@[reducible] def EST_ARB_REHAB_TIME : Fld := ⟨0x64002C, 15, 8⟩
/-- EST_ARB_PR_k_T1.FRZ_T, RW. -/
@[reducible] def EST_ARB_PR_T1_FRZ_T (k : Nat) : Fld := ⟨0x640100 + 0x10 * k, 7, 0⟩
/-- EST_ARB_PR_k_T1.VMAX, RW. -/
@[reducible] def EST_ARB_PR_T1_VMAX (k : Nat) : Fld := ⟨0x640100 + 0x10 * k, 15, 8⟩
/-- EST_ARB_PR_k_T1.JMP, RW. -/
@[reducible] def EST_ARB_PR_T1_JMP (k : Nat) : Fld := ⟨0x640100 + 0x10 * k, 31, 16⟩
/-- EST_ARB_PR_k_T2.VARMAX, RW. -/
@[reducible] def EST_ARB_PR_T2_VARMAX (k : Nat) : Fld := ⟨0x640104 + 0x10 * k, 15, 0⟩
/-- EST_ARB_PR_k_T2.VWIN, RW. -/
@[reducible] def EST_ARB_PR_T2_VWIN (k : Nat) : Fld := ⟨0x640104 + 0x10 * k, 23, 16⟩
/-- EST_ARB_PR_k_GATE.THR, RW. -/
@[reducible] def EST_ARB_PR_GATE_THR (k : Nat) : Fld := ⟨0x640108 + 0x10 * k, 31, 0⟩
/-- EST_ARB_PR_k_STAT.STATE, RO. -/
@[reducible] def EST_ARB_PR_STAT_STATE (k : Nat) : Fld := ⟨0x64010C + 0x10 * k, 2, 0⟩
/-- EST_ARB_PR_k_STAT.CAUSE, RO. -/
@[reducible] def EST_ARB_PR_STAT_CAUSE (k : Nat) : Fld := ⟨0x64010C + 0x10 * k, 6, 4⟩
/-- EST_ARB_PR_k_STAT.RMS, RO. -/
@[reducible] def EST_ARB_PR_STAT_RMS (k : Nat) : Fld := ⟨0x64010C + 0x10 * k, 31, 16⟩
/-- EST_ARB_HR_h_T1.FRZ_T, RW. -/
@[reducible] def EST_ARB_HR_T1_FRZ_T (h : Nat) : Fld := ⟨0x640200 + 0x10 * h, 7, 0⟩
/-- EST_ARB_HR_h_T1.RMAX, RW. -/
@[reducible] def EST_ARB_HR_T1_RMAX (h : Nat) : Fld := ⟨0x640200 + 0x10 * h, 15, 8⟩
/-- EST_ARB_HR_h_T1.HJMP, RW. -/
@[reducible] def EST_ARB_HR_T1_HJMP (h : Nat) : Fld := ⟨0x640200 + 0x10 * h, 31, 16⟩
/-- EST_ARB_HR_h_T2.VARMAX, RW. -/
@[reducible] def EST_ARB_HR_T2_VARMAX (h : Nat) : Fld := ⟨0x640204 + 0x10 * h, 15, 0⟩
/-- EST_ARB_HR_h_T2.VWIN, RW. -/
@[reducible] def EST_ARB_HR_T2_VWIN (h : Nat) : Fld := ⟨0x640204 + 0x10 * h, 23, 16⟩
/-- EST_ARB_HR_h_GATE.THR, RW. -/
@[reducible] def EST_ARB_HR_GATE_THR (h : Nat) : Fld := ⟨0x640208 + 0x10 * h, 31, 0⟩
/-- EST_ARB_HR_h_STAT.STATE, RO. -/
@[reducible] def EST_ARB_HR_STAT_STATE (h : Nat) : Fld := ⟨0x64020C + 0x10 * h, 2, 0⟩
/-- EST_ARB_HR_h_STAT.CAUSE, RO. -/
@[reducible] def EST_ARB_HR_STAT_CAUSE (h : Nat) : Fld := ⟨0x64020C + 0x10 * h, 6, 4⟩
/-- EST_ARB_HR_h_STAT.RMS, RO. -/
@[reducible] def EST_ARB_HR_STAT_RMS (h : Nat) : Fld := ⟨0x64020C + 0x10 * h, 31, 16⟩
/-- CLE_DPAX.SURGE, RW. -/
@[reducible] def CLE_DPAX_SURGE : Fld := ⟨0x700000, 5, 0⟩
/-- CLE_DPAX.SWAY, RW. -/
@[reducible] def CLE_DPAX_SWAY : Fld := ⟨0x700000, 13, 8⟩
/-- CLE_DPAX.YAW, RW. -/
@[reducible] def CLE_DPAX_YAW : Fld := ⟨0x700000, 21, 16⟩
/-- CLE_DPAX.EN, RW. -/
@[reducible] def CLE_DPAX_EN : Fld := ⟨0x700000, 24, 24⟩
/-- CLE_DPAX.CFG_ERR, RO. -/
@[reducible] def CLE_DPAX_CFG_ERR : Fld := ⟨0x700000, 25, 25⟩
/-- CLE_STATUS.NPID, RO. -/
@[reducible] def CLE_STATUS_NPID : Fld := ⟨0x700004, 5, 0⟩
/-- CLE_STATUS.NBLEND, RO. -/
@[reducible] def CLE_STATUS_NBLEND : Fld := ⟨0x700004, 13, 8⟩
/-- CLE_STATUS.NHELD, RO. -/
@[reducible] def CLE_STATUS_NHELD : Fld := ⟨0x700004, 21, 16⟩
/-- CLE_PID_LO.MAP, RO. -/
@[reducible] def CLE_PID_LO_MAP : Fld := ⟨0x700008, 31, 0⟩
/-- CLE_PID_HI.MAP, RO. -/
@[reducible] def CLE_PID_HI_MAP : Fld := ⟨0x70000C, 15, 0⟩
/-- CLE_ERR.CHK, W1C. -/
@[reducible] def CLE_ERR_CHK : Fld := ⟨0x700010, 0, 0⟩
/-- CLE_ERR.BUSY, W1C. -/
@[reducible] def CLE_ERR_BUSY : Fld := ⟨0x700010, 1, 1⟩
/-- CLE_ERR.DPCFG, W1C. -/
@[reducible] def CLE_ERR_DPCFG : Fld := ⟨0x700010, 2, 2⟩
/-- CLE_ERR.REFUSED, W1C. -/
@[reducible] def CLE_ERR_REFUSED : Fld := ⟨0x700010, 3, 3⟩
/-- CLE_DPOUT_X.N, RO. -/
@[reducible] def CLE_DPOUT_X_N : Fld := ⟨0x700014, 31, 0⟩
/-- CLE_DPOUT_Y.N, RO. -/
@[reducible] def CLE_DPOUT_Y_N : Fld := ⟨0x700018, 31, 0⟩
/-- CLE_DPOUT_N.NM, RO. -/
@[reducible] def CLE_DPOUT_N_NM : Fld := ⟨0x70001C, 31, 0⟩
/-- CLE_L_n_CFG.EN, RW. -/
@[reducible] def CLE_L_CFG_EN (n : Nat) : Fld := ⟨0x700100 + 0x20 * n, 0, 0⟩
/-- CLE_L_n_CFG.START, RW. -/
@[reducible] def CLE_L_CFG_START (n : Nat) : Fld := ⟨0x700100 + 0x20 * n, 1, 1⟩
/-- CLE_L_n_CFG.ANGLE, RW. -/
@[reducible] def CLE_L_CFG_ANGLE (n : Nat) : Fld := ⟨0x700100 + 0x20 * n, 2, 2⟩
/-- CLE_L_n_CFG.DEST, RW. -/
@[reducible] def CLE_L_CFG_DEST (n : Nat) : Fld := ⟨0x700100 + 0x20 * n, 5, 4⟩
/-- CLE_L_n_CFG.INSEL, RW. -/
@[reducible] def CLE_L_CFG_INSEL (n : Nat) : Fld := ⟨0x700100 + 0x20 * n, 7, 6⟩
/-- CLE_L_n_CFG.INDEX, RW. -/
@[reducible] def CLE_L_CFG_INDEX (n : Nat) : Fld := ⟨0x700100 + 0x20 * n, 14, 8⟩
/-- CLE_L_n_CFG.DIV, RW. -/
@[reducible] def CLE_L_CFG_DIV (n : Nat) : Fld := ⟨0x700100 + 0x20 * n, 28, 16⟩
/-- CLE_L_n_CFG.FFB, RW. -/
@[reducible] def CLE_L_CFG_FFB (n : Nat) : Fld := ⟨0x700100 + 0x20 * n, 29, 29⟩
/-- CLE_L_n_CFG.FFW, RW. -/
@[reducible] def CLE_L_CFG_FFW (n : Nat) : Fld := ⟨0x700100 + 0x20 * n, 30, 30⟩
/-- CLE_L_n_SEL.PHASE, RW. -/
@[reducible] def CLE_L_SEL_PHASE (n : Nat) : Fld := ⟨0x700104 + 0x20 * n, 11, 0⟩
/-- CLE_L_n_SEL.DIDX, RW. -/
@[reducible] def CLE_L_SEL_DIDX (n : Nat) : Fld := ⟨0x700104 + 0x20 * n, 20, 16⟩
/-- CLE_L_n_SEL.BANK, RW. -/
@[reducible] def CLE_L_SEL_BANK (n : Nat) : Fld := ⟨0x700104 + 0x20 * n, 24, 24⟩
/-- CLE_L_n_SP.TARGET, RW. -/
@[reducible] def CLE_L_SP_TARGET (n : Nat) : Fld := ⟨0x700108 + 0x20 * n, 31, 0⟩
/-- CLE_L_n_CMD.PID, WO. -/
@[reducible] def CLE_L_CMD_PID (n : Nat) : Fld := ⟨0x70010C + 0x20 * n, 0, 0⟩
/-- CLE_L_n_CMD.MAIN, WO. -/
@[reducible] def CLE_L_CMD_MAIN (n : Nat) : Fld := ⟨0x70010C + 0x20 * n, 1, 1⟩
/-- CLE_L_n_CMD.RESTART, WO. -/
@[reducible] def CLE_L_CMD_RESTART (n : Nat) : Fld := ⟨0x70010C + 0x20 * n, 2, 2⟩
/-- CLE_L_n_CMD.PRESET, WO. -/
@[reducible] def CLE_L_CMD_PRESET (n : Nat) : Fld := ⟨0x70010C + 0x20 * n, 3, 3⟩
/-- CLE_L_n_STAT.PATH, RO. -/
@[reducible] def CLE_L_STAT_PATH (n : Nat) : Fld := ⟨0x700110 + 0x20 * n, 2, 0⟩
/-- CLE_L_n_STAT.ABANK, RO. -/
@[reducible] def CLE_L_STAT_ABANK (n : Nat) : Fld := ⟨0x700110 + 0x20 * n, 3, 3⟩
/-- CLE_L_n_STAT.CAUSE, RO. -/
@[reducible] def CLE_L_STAT_CAUSE (n : Nat) : Fld := ⟨0x700110 + 0x20 * n, 6, 4⟩
/-- CLE_L_n_STAT.LIMITED, RO. -/
@[reducible] def CLE_L_STAT_LIMITED (n : Nat) : Fld := ⟨0x700110 + 0x20 * n, 8, 8⟩
/-- CLE_L_n_STAT.OSAT, RO. -/
@[reducible] def CLE_L_STAT_OSAT (n : Nat) : Fld := ⟨0x700110 + 0x20 * n, 9, 9⟩
/-- CLE_L_n_STAT.INVALID, RO. -/
@[reducible] def CLE_L_STAT_INVALID (n : Nat) : Fld := ⟨0x700110 + 0x20 * n, 10, 10⟩
/-- CLE_L_n_STAT.OVF, W1C. -/
@[reducible] def CLE_L_STAT_OVF (n : Nat) : Fld := ⟨0x700110 + 0x20 * n, 11, 11⟩
/-- CLE_L_n_STAT.CHKF, RO. -/
@[reducible] def CLE_L_STAT_CHKF (n : Nat) : Fld := ⟨0x700110 + 0x20 * n, 12, 12⟩
/-- CLE_L_n_STAT.PIDF, RO. -/
@[reducible] def CLE_L_STAT_PIDF (n : Nat) : Fld := ⟨0x700110 + 0x20 * n, 13, 13⟩
/-- CLE_L_n_STAT.BANKFADE, RO. -/
@[reducible] def CLE_L_STAT_BANKFADE (n : Nat) : Fld := ⟨0x700110 + 0x20 * n, 14, 14⟩
/-- CLE_L_n_STAT.BLEND, RO. -/
@[reducible] def CLE_L_STAT_BLEND (n : Nat) : Fld := ⟨0x700110 + 0x20 * n, 31, 16⟩
/-- CLE_L_n_OUT.VALUE, RO. -/
@[reducible] def CLE_L_OUT_VALUE (n : Nat) : Fld := ⟨0x700114 + 0x20 * n, 31, 0⟩
/-- CLE_L_n_B_b_CFG.NSEC, RW. -/
@[reducible] def CLE_L_B_CFG_NSEC (n b : Nat) : Fld := ⟨0x720000 + 0x400 * n + 0x100 * b, 3, 0⟩
/-- CLE_L_n_B_b_S_j_C_i.C, RW. -/
@[reducible] def CLE_L_B_S_C_C (n b j i : Nat) : Fld := ⟨0x720004 + 0x400 * n + 0x100 * b + 0x18 * j + 0x4 * i, 31, 0⟩
/-- CLE_L_n_B_b_S_j_SHIFTS.B0, RW. -/
@[reducible] def CLE_L_B_S_SHIFTS_B0 (n b j : Nat) : Fld := ⟨0x720018 + 0x400 * n + 0x100 * b + 0x18 * j, 4, 0⟩
/-- CLE_L_n_B_b_S_j_SHIFTS.B1, RW. -/
@[reducible] def CLE_L_B_S_SHIFTS_B1 (n b j : Nat) : Fld := ⟨0x720018 + 0x400 * n + 0x100 * b + 0x18 * j, 9, 5⟩
/-- CLE_L_n_B_b_S_j_SHIFTS.B2, RW. -/
@[reducible] def CLE_L_B_S_SHIFTS_B2 (n b j : Nat) : Fld := ⟨0x720018 + 0x400 * n + 0x100 * b + 0x18 * j, 14, 10⟩
/-- CLE_L_n_B_b_S_j_SHIFTS.A1, RW. -/
@[reducible] def CLE_L_B_S_SHIFTS_A1 (n b j : Nat) : Fld := ⟨0x720018 + 0x400 * n + 0x100 * b + 0x18 * j, 19, 15⟩
/-- CLE_L_n_B_b_S_j_SHIFTS.A2, RW. -/
@[reducible] def CLE_L_B_S_SHIFTS_A2 (n b j : Nat) : Fld := ⟨0x720018 + 0x400 * n + 0x100 * b + 0x18 * j, 24, 20⟩
/-- CLE_L_n_B_b_CHK.CRC, RW. -/
@[reducible] def CLE_L_B_CHK_CRC (n b : Nat) : Fld := ⟨0x7200FC + 0x400 * n + 0x100 * b, 31, 0⟩
/-- CLE_L_n_PC_i.C, RW. -/
@[reducible] def CLE_L_PC_C (n i : Nat) : Fld := ⟨0x720200 + 0x400 * n + 0x4 * i, 31, 0⟩
/-- CLE_L_n_PSHIFTS.KP, RW. -/
@[reducible] def CLE_L_PSHIFTS_KP (n : Nat) : Fld := ⟨0x720214 + 0x400 * n, 4, 0⟩
/-- CLE_L_n_PSHIFTS.KI, RW. -/
@[reducible] def CLE_L_PSHIFTS_KI (n : Nat) : Fld := ⟨0x720214 + 0x400 * n, 9, 5⟩
/-- CLE_L_n_PSHIFTS.KB, RW. -/
@[reducible] def CLE_L_PSHIFTS_KB (n : Nat) : Fld := ⟨0x720214 + 0x400 * n, 14, 10⟩
/-- CLE_L_n_PSHIFTS.DA, RW. -/
@[reducible] def CLE_L_PSHIFTS_DA (n : Nat) : Fld := ⟨0x720214 + 0x400 * n, 19, 15⟩
/-- CLE_L_n_PSHIFTS.DB, RW. -/
@[reducible] def CLE_L_PSHIFTS_DB (n : Nat) : Fld := ⟨0x720214 + 0x400 * n, 24, 20⟩
/-- CLE_L_n_IMIN.I, RW. -/
@[reducible] def CLE_L_IMIN_I (n : Nat) : Fld := ⟨0x720218 + 0x400 * n, 31, 0⟩
/-- CLE_L_n_IMAX.I, RW. -/
@[reducible] def CLE_L_IMAX_I (n : Nat) : Fld := ⟨0x72021C + 0x400 * n, 31, 0⟩
/-- CLE_L_n_PIDCHK.CRC, RW. -/
@[reducible] def CLE_L_PIDCHK_CRC (n : Nat) : Fld := ⟨0x72023C + 0x400 * n, 31, 0⟩
/-- CLE_L_n_RATE.LIM, RW. -/
@[reducible] def CLE_L_RATE_LIM (n : Nat) : Fld := ⟨0x720240 + 0x400 * n, 31, 0⟩
/-- CLE_L_n_ACC.LIM, RW. -/
@[reducible] def CLE_L_ACC_LIM (n : Nat) : Fld := ⟨0x720244 + 0x400 * n, 31, 0⟩
/-- CLE_L_n_JERK.LIM, RW. -/
@[reducible] def CLE_L_JERK_LIM (n : Nat) : Fld := ⟨0x720248 + 0x400 * n, 31, 0⟩
/-- CLE_L_n_OMIN.VALUE, RW. -/
@[reducible] def CLE_L_OMIN_VALUE (n : Nat) : Fld := ⟨0x72024C + 0x400 * n, 31, 0⟩
/-- CLE_L_n_OMAX.VALUE, RW. -/
@[reducible] def CLE_L_OMAX_VALUE (n : Nat) : Fld := ⟨0x720250 + 0x400 * n, 31, 0⟩
/-- CLE_L_n_ORATE.LIM, RW. -/
@[reducible] def CLE_L_ORATE_LIM (n : Nat) : Fld := ⟨0x720254 + 0x400 * n, 31, 0⟩
/-- CLE_L_n_HOT.HOT, RW. -/
@[reducible] def CLE_L_HOT_HOT (n : Nat) : Fld := ⟨0x720258 + 0x400 * n, 15, 0⟩
/-- CLE_L_n_HOT.SATT, RW. -/
@[reducible] def CLE_L_HOT_SATT (n : Nat) : Fld := ⟨0x720258 + 0x400 * n, 31, 16⟩
/-- CLE_L_n_TUNE.PERIOD, RW. -/
@[reducible] def CLE_L_TUNE_PERIOD (n : Nat) : Fld := ⟨0x72025C + 0x400 * n, 15, 0⟩
/-- CLE_L_n_TUNE.ZETA, RW. -/
@[reducible] def CLE_L_TUNE_ZETA (n : Nat) : Fld := ⟨0x72025C + 0x400 * n, 23, 16⟩
/-- CLE_L_n_SHP.VALUE, RO. -/
@[reducible] def CLE_L_SHP_VALUE (n : Nat) : Fld := ⟨0x720280 + 0x400 * n, 31, 0⟩
/-- CLE_L_n_SHPV.VALUE, RO. -/
@[reducible] def CLE_L_SHPV_VALUE (n : Nat) : Fld := ⟨0x720284 + 0x400 * n, 31, 0⟩
/-- CLE_L_n_E.VALUE, RO. -/
@[reducible] def CLE_L_E_VALUE (n : Nat) : Fld := ⟨0x720288 + 0x400 * n, 31, 0⟩
/-- CLE_L_n_I.VALUE, RO. -/
@[reducible] def CLE_L_I_VALUE (n : Nat) : Fld := ⟨0x72028C + 0x400 * n, 31, 0⟩
/-- CLE_L_n_D.VALUE, RO. -/
@[reducible] def CLE_L_D_VALUE (n : Nat) : Fld := ⟨0x720290 + 0x400 * n, 31, 0⟩
/-- CLE_L_n_UMAIN.VALUE, RO. -/
@[reducible] def CLE_L_UMAIN_VALUE (n : Nat) : Fld := ⟨0x720294 + 0x400 * n, 31, 0⟩
/-- CLE_L_n_UPID.VALUE, RO. -/
@[reducible] def CLE_L_UPID_VALUE (n : Nat) : Fld := ⟨0x720298 + 0x400 * n, 31, 0⟩
/-- CLE_L_n_SATCNT.COUNT, RO. -/
@[reducible] def CLE_L_SATCNT_COUNT (n : Nat) : Fld := ⟨0x72029C + 0x400 * n, 15, 0⟩
/-- CLE_MODE_CMD.MODE, WO. -/
@[reducible] def CLE_MODE_CMD_MODE : Fld := ⟨0x700040, 3, 0⟩
/-- CLE_MODE_STAT.MODE, RO. -/
@[reducible] def CLE_MODE_STAT_MODE : Fld := ⟨0x700044, 3, 0⟩
/-- CLE_MODE_STAT.ORIGIN, RO. -/
@[reducible] def CLE_MODE_STAT_ORIGIN : Fld := ⟨0x700044, 7, 4⟩
/-- CLE_MODE_STAT.MANUAL, RO. -/
@[reducible] def CLE_MODE_STAT_MANUAL : Fld := ⟨0x700044, 10, 8⟩
/-- CLE_MODE_STAT.BERTHED, RO. -/
@[reducible] def CLE_MODE_STAT_BERTHED : Fld := ⟨0x700044, 11, 11⟩
/-- CLE_MODE_STAT.PRESSLOSS, RO. -/
@[reducible] def CLE_MODE_STAT_PRESSLOSS : Fld := ⟨0x700044, 12, 12⟩
/-- CLE_MODE_STAT.JLOST, RO. -/
@[reducible] def CLE_MODE_STAT_JLOST : Fld := ⟨0x700044, 13, 13⟩
/-- CLE_MODE_STAT.WPT, RO. -/
@[reducible] def CLE_MODE_STAT_WPT : Fld := ⟨0x700044, 19, 16⟩
/-- CLE_MODE_STAT.REASON, RO. -/
@[reducible] def CLE_MODE_STAT_REASON : Fld := ⟨0x700044, 27, 24⟩
/-- CLE_MODE_ERR.REFUSED, W1C. -/
@[reducible] def CLE_MODE_ERR_REFUSED : Fld := ⟨0x700048, 0, 0⟩
/-- CLE_MODE_ERR.SPWR, W1C. -/
@[reducible] def CLE_MODE_ERR_SPWR : Fld := ⟨0x700048, 1, 1⟩
/-- CLE_MODE_JOY.SRC, RW. -/
@[reducible] def CLE_MODE_JOY_SRC : Fld := ⟨0x70004C, 0, 0⟩
/-- CLE_MODE_JOY.JTMO, RW. -/
@[reducible] def CLE_MODE_JOY_JTMO : Fld := ⟨0x70004C, 15, 8⟩
/-- CLE_MODE_JOYCH.X, RW. -/
@[reducible] def CLE_MODE_JOYCH_X : Fld := ⟨0x700050, 6, 0⟩
/-- CLE_MODE_JOYCH.Y, RW. -/
@[reducible] def CLE_MODE_JOYCH_Y : Fld := ⟨0x700050, 14, 8⟩
/-- CLE_MODE_JOYCH.N, RW. -/
@[reducible] def CLE_MODE_JOYCH_N : Fld := ⟨0x700050, 22, 16⟩
/-- CLE_MODE_JX.VALUE, RW. -/
@[reducible] def CLE_MODE_JX_VALUE : Fld := ⟨0x700054, 31, 0⟩
/-- CLE_MODE_JY.VALUE, RW. -/
@[reducible] def CLE_MODE_JY_VALUE : Fld := ⟨0x700058, 31, 0⟩
/-- CLE_MODE_JN.VALUE, RW. -/
@[reducible] def CLE_MODE_JN_VALUE : Fld := ⟨0x70005C, 31, 0⟩
/-- CLE_MODE_SPN.MM, RW. -/
@[reducible] def CLE_MODE_SPN_MM : Fld := ⟨0x700060, 31, 0⟩
/-- CLE_MODE_SPE.MM, RW. -/
@[reducible] def CLE_MODE_SPE_MM : Fld := ⟨0x700064, 31, 0⟩
/-- CLE_MODE_SPH.BAM, RW. -/
@[reducible] def CLE_MODE_SPH_BAM : Fld := ⟨0x700068, 31, 0⟩
/-- CLE_MODE_FT.TG, RW. -/
@[reducible] def CLE_MODE_FT_TG : Fld := ⟨0x70006C, 2, 0⟩
/-- CLE_MODE_FT.HMODE, RW. -/
@[reducible] def CLE_MODE_FT_HMODE : Fld := ⟨0x70006C, 4, 4⟩
/-- CLE_MODE_FTN.MM, RW. -/
@[reducible] def CLE_MODE_FTN_MM : Fld := ⟨0x700070, 31, 0⟩
/-- CLE_MODE_FTE.MM, RW. -/
@[reducible] def CLE_MODE_FTE_MM : Fld := ⟨0x700074, 31, 0⟩
/-- CLE_MODE_BA.TG, RW. -/
@[reducible] def CLE_MODE_BA_TG : Fld := ⟨0x700078, 2, 0⟩
/-- CLE_MODE_BA.VA, RW. -/
@[reducible] def CLE_MODE_BA_VA : Fld := ⟨0x700078, 15, 8⟩
/-- CLE_MODE_BA.VMIN, RW. -/
@[reducible] def CLE_MODE_BA_VMIN : Fld := ⟨0x700078, 23, 16⟩
/-- CLE_MODE_BA.SLOW, RW. -/
@[reducible] def CLE_MODE_BA_SLOW : Fld := ⟨0x700078, 31, 24⟩
/-- CLE_MODE_BHDG.BAM, RW. -/
@[reducible] def CLE_MODE_BHDG_BAM : Fld := ⟨0x70007C, 31, 0⟩
/-- CLE_MODE_BARR.ARR, RW. -/
@[reducible] def CLE_MODE_BARR_ARR : Fld := ⟨0x700080, 15, 0⟩
/-- CLE_MODE_BARR.MAXD, RW. -/
@[reducible] def CLE_MODE_BARR_MAXD : Fld := ⟨0x700080, 31, 16⟩
/-- CLE_MODE_PRESS.FC, RW. -/
@[reducible] def CLE_MODE_PRESS_FC : Fld := ⟨0x700084, 15, 0⟩
/-- CLE_MODE_PRESS.PDIR, RW. -/
@[reducible] def CLE_MODE_PRESS_PDIR : Fld := ⟨0x700084, 16, 16⟩
/-- CLE_MODE_PLIM.FMIN, RW. -/
@[reducible] def CLE_MODE_PLIM_FMIN : Fld := ⟨0x700088, 15, 0⟩
/-- CLE_MODE_PLIM.FMAX, RW. -/
@[reducible] def CLE_MODE_PLIM_FMAX : Fld := ⟨0x700088, 31, 16⟩
/-- CLE_MODE_PGAP.GAP, RW. -/
@[reducible] def CLE_MODE_PGAP_GAP : Fld := ⟨0x70008C, 15, 0⟩
/-- CLE_MODE_TRK.NWPT, RW. -/
@[reducible] def CLE_MODE_TRK_NWPT : Fld := ⟨0x700090, 4, 0⟩
/-- CLE_MODE_TRK.RADIUS, RW. -/
@[reducible] def CLE_MODE_TRK_RADIUS : Fld := ⟨0x700090, 15, 8⟩
/-- CLE_MODE_TRK.LEAD, RW. -/
@[reducible] def CLE_MODE_TRK_LEAD : Fld := ⟨0x700090, 23, 16⟩
/-- CLE_WPT_w_N.MM, RW. -/
@[reducible] def CLE_WPT_N_MM (w : Nat) : Fld := ⟨0x730000 + 0x10 * w, 31, 0⟩
/-- CLE_WPT_w_E.MM, RW. -/
@[reducible] def CLE_WPT_E_MM (w : Nat) : Fld := ⟨0x730004 + 0x10 * w, 31, 0⟩
/-- CLE_WPT_w_H.BAM, RW. -/
@[reducible] def CLE_WPT_H_BAM (w : Nat) : Fld := ⟨0x730008 + 0x10 * w, 31, 0⟩
/-- CLE_WPT_w_SPD.WSPD, RW. -/
@[reducible] def CLE_WPT_SPD_WSPD (w : Nat) : Fld := ⟨0x73000C + 0x10 * w, 15, 0⟩
/-- ALC_CTRL.EN, RW. -/
@[reducible] def ALC_CTRL_EN : Fld := ⟨0x800000, 0, 0⟩
/-- ALC_CTRL.ITMAX, RW. -/
@[reducible] def ALC_CTRL_ITMAX : Fld := ⟨0x800000, 14, 8⟩
/-- ALC_STATUS.CONV, RO. -/
@[reducible] def ALC_STATUS_CONV : Fld := ⟨0x800004, 0, 0⟩
/-- ALC_STATUS.PROJ, RO. -/
@[reducible] def ALC_STATUS_PROJ : Fld := ⟨0x800004, 1, 1⟩
/-- ALC_STATUS.WSPROJ, RO. -/
@[reducible] def ALC_STATUS_WSPROJ : Fld := ⟨0x800004, 2, 2⟩
/-- ALC_STATUS.LIMRAISED, RO. -/
@[reducible] def ALC_STATUS_LIMRAISED : Fld := ⟨0x800004, 7, 4⟩
/-- ALC_STATUS.ITER, RO. -/
@[reducible] def ALC_STATUS_ITER : Fld := ⟨0x800004, 14, 8⟩
/-- ALC_STATUS.NVAR, RO. -/
@[reducible] def ALC_STATUS_NVAR : Fld := ⟨0x800004, 21, 16⟩
/-- ALC_STATUS.NTHR, RO. -/
@[reducible] def ALC_STATUS_NTHR : Fld := ⟨0x800004, 28, 24⟩
/-- ALC_SIZE.NROW, RO. -/
@[reducible] def ALC_SIZE_NROW : Fld := ⟨0x800008, 8, 0⟩
/-- ALC_ERR.CFG, W1C. -/
@[reducible] def ALC_ERR_CFG : Fld := ⟨0x80000C, 0, 0⟩
/-- ALC_ERR.NOCONV, W1C. -/
@[reducible] def ALC_ERR_NOCONV : Fld := ⟨0x80000C, 1, 1⟩
/-- ALC_WX.W, RW. -/
@[reducible] def ALC_WX_W : Fld := ⟨0x800010, 31, 0⟩
/-- ALC_WY.W, RW. -/
@[reducible] def ALC_WY_W : Fld := ⟨0x800014, 31, 0⟩
/-- ALC_WN.W, RW. -/
@[reducible] def ALC_WN_W : Fld := ⟨0x800018, 31, 0⟩
/-- ALC_REG.W, RW. -/
@[reducible] def ALC_REG_W : Fld := ⟨0x80001C, 31, 0⟩
/-- ALC_XCFG.XTHR, RW. -/
@[reducible] def ALC_XCFG_XTHR : Fld := ⟨0x800020, 15, 0⟩
/-- ALC_XCFG.XT, RW. -/
@[reducible] def ALC_XCFG_XT : Fld := ⟨0x800020, 23, 16⟩
/-- ALC_XCFG.XHOLD, RW. -/
@[reducible] def ALC_XCFG_XHOLD : Fld := ⟨0x800020, 31, 24⟩
/-- ALC_TAU_X.VALUE, RO. -/
@[reducible] def ALC_TAU_X_VALUE : Fld := ⟨0x800030, 31, 0⟩
/-- ALC_TAU_Y.VALUE, RO. -/
@[reducible] def ALC_TAU_Y_VALUE : Fld := ⟨0x800034, 31, 0⟩
/-- ALC_TAU_N.VALUE, RO. -/
@[reducible] def ALC_TAU_N_VALUE : Fld := ⟨0x800038, 31, 0⟩
/-- ALC_SLACK_X.VALUE, RO. -/
@[reducible] def ALC_SLACK_X_VALUE : Fld := ⟨0x80003C, 31, 0⟩
/-- ALC_SLACK_Y.VALUE, RO. -/
@[reducible] def ALC_SLACK_Y_VALUE : Fld := ⟨0x800040, 31, 0⟩
/-- ALC_SLACK_N.VALUE, RO. -/
@[reducible] def ALC_SLACK_N_VALUE : Fld := ⟨0x800044, 31, 0⟩
/-- ALC_PTOT.W, RO. -/
@[reducible] def ALC_PTOT_W : Fld := ⟨0x800048, 31, 0⟩
/-- ALC_BUS_b_LIM.W, RO. -/
@[reducible] def ALC_BUS_LIM_W (b : Nat) : Fld := ⟨0x800060 + 0x10 * b, 31, 0⟩
/-- ALC_BUS_b_PWR.W, RO. -/
@[reducible] def ALC_BUS_PWR_W (b : Nat) : Fld := ⟨0x800064 + 0x10 * b, 31, 0⟩
/-- ALC_BUS_b_PMIN.W, RO. -/
@[reducible] def ALC_BUS_PMIN_W (b : Nat) : Fld := ⟨0x800068 + 0x10 * b, 31, 0⟩
/-- ALC_BUS_b_STAT.THR, RO. -/
@[reducible] def ALC_BUS_STAT_THR (b : Nat) : Fld := ⟨0x80006C + 0x10 * b, 15, 0⟩
/-- ALC_BUS_b_STAT.LIMRAISED, RO. -/
@[reducible] def ALC_BUS_STAT_LIMRAISED (b : Nat) : Fld := ⟨0x80006C + 0x10 * b, 16, 16⟩
/-- ALC_BUS_b_STAT.ACTIVE, RO. -/
@[reducible] def ALC_BUS_STAT_ACTIVE (b : Nat) : Fld := ⟨0x80006C + 0x10 * b, 17, 17⟩
/-- ALC_T_i_CFG.EN, RW. -/
@[reducible] def ALC_T_CFG_EN (i : Nat) : Fld := ⟨0x800100 + 0x10 * i, 0, 0⟩
/-- ALC_T_i_CFG.TYPE, RW. -/
@[reducible] def ALC_T_CFG_TYPE (i : Nat) : Fld := ⟨0x800100 + 0x10 * i, 3, 1⟩
/-- ALC_T_i_CFG.BUS, RW. -/
@[reducible] def ALC_T_CFG_BUS (i : Nat) : Fld := ⟨0x800100 + 0x10 * i, 5, 4⟩
/-- ALC_T_i_CFG.AVAIL, RW. -/
@[reducible] def ALC_T_CFG_AVAIL (i : Nat) : Fld := ⟨0x800100 + 0x10 * i, 6, 6⟩
/-- ALC_T_i_CFG.FBFLT, RW. -/
@[reducible] def ALC_T_CFG_FBFLT (i : Nat) : Fld := ⟨0x800100 + 0x10 * i, 7, 7⟩
/-- ALC_T_i_CMD.FAULT, WO. -/
@[reducible] def ALC_T_CMD_FAULT (i : Nat) : Fld := ⟨0x800104 + 0x10 * i, 0, 0⟩
/-- ALC_T_i_CMD.CLRFLT, WO. -/
@[reducible] def ALC_T_CMD_CLRFLT (i : Nat) : Fld := ⟨0x800104 + 0x10 * i, 1, 1⟩
/-- ALC_T_i_STAT.STATE, RO. -/
@[reducible] def ALC_T_STAT_STATE (i : Nat) : Fld := ⟨0x800108 + 0x10 * i, 2, 0⟩
/-- ALC_T_i_STAT.TSECT, RO. -/
@[reducible] def ALC_T_STAT_TSECT (i : Nat) : Fld := ⟨0x800108 + 0x10 * i, 3, 3⟩
/-- ALC_T_i_STAT.ASTERN, RO. -/
@[reducible] def ALC_T_STAT_ASTERN (i : Nat) : Fld := ⟨0x800108 + 0x10 * i, 4, 4⟩
/-- ALC_T_i_STAT.EDGE, RO. -/
@[reducible] def ALC_T_STAT_EDGE (i : Nat) : Fld := ⟨0x800108 + 0x10 * i, 6, 5⟩
/-- ALC_T_i_STAT.XCNT, RO. -/
@[reducible] def ALC_T_STAT_XCNT (i : Nat) : Fld := ⟨0x800108 + 0x10 * i, 15, 8⟩
/-- ALC_T_i_STAT.CROSSINGS, RO. -/
@[reducible] def ALC_T_STAT_CROSSINGS (i : Nat) : Fld := ⟨0x800108 + 0x10 * i, 31, 16⟩
/-- ALC_D_i_LX.MM, RW. -/
@[reducible] def ALC_D_LX_MM (i : Nat) : Fld := ⟨0x810000 + 0x100 * i, 31, 0⟩
/-- ALC_D_i_LY.MM, RW. -/
@[reducible] def ALC_D_LY_MM (i : Nat) : Fld := ⟨0x810004 + 0x100 * i, 31, 0⟩
/-- ALC_D_i_FMAX.N, RW. -/
@[reducible] def ALC_D_FMAX_N (i : Nat) : Fld := ⟨0x810008 + 0x100 * i, 31, 0⟩
/-- ALC_D_i_FREV.N, RW. -/
@[reducible] def ALC_D_FREV_N (i : Nat) : Fld := ⟨0x81000C + 0x100 * i, 31, 0⟩
/-- ALC_D_i_TUP.RATE, RW. -/
@[reducible] def ALC_D_TUP_RATE (i : Nat) : Fld := ⟨0x810010 + 0x100 * i, 31, 0⟩
/-- ALC_D_i_TDN.RATE, RW. -/
@[reducible] def ALC_D_TDN_RATE (i : Nat) : Fld := ⟨0x810014 + 0x100 * i, 31, 0⟩
/-- ALC_D_i_SLEW.SLEW, RW. -/
@[reducible] def ALC_D_SLEW_SLEW (i : Nat) : Fld := ⟨0x810018 + 0x100 * i, 15, 0⟩
/-- ALC_D_i_SLEW.FBCH, RW. -/
@[reducible] def ALC_D_SLEW_FBCH (i : Nat) : Fld := ⟨0x810018 + 0x100 * i, 22, 16⟩
/-- ALC_D_i_ANG.BAM, RW. -/
@[reducible] def ALC_D_ANG_BAM (i : Nat) : Fld := ⟨0x81001C + 0x100 * i, 31, 0⟩
/-- ALC_D_i_RUD.KR, RW. -/
@[reducible] def ALC_D_RUD_KR (i : Nat) : Fld := ⟨0x810020 + 0x100 * i, 15, 0⟩
/-- ALC_D_i_RUD.DMAX, RW. -/
@[reducible] def ALC_D_RUD_DMAX (i : Nat) : Fld := ⟨0x810020 + 0x100 * i, 31, 16⟩
/-- ALC_D_i_FS_s.CTR, RW. -/
@[reducible] def ALC_D_FS_CTR (i s : Nat) : Fld := ⟨0x810024 + 0x100 * i + 0x4 * s, 15, 0⟩
/-- ALC_D_i_FS_s.HW, RW. -/
@[reducible] def ALC_D_FS_HW (i s : Nat) : Fld := ⟨0x810024 + 0x100 * i + 0x4 * s, 31, 16⟩
/-- ALC_D_i_WP.WP, RW. -/
@[reducible] def ALC_D_WP_WP (i : Nat) : Fld := ⟨0x81002C + 0x100 * i, 15, 0⟩
/-- ALC_D_i_WP.AXIS_A, RW. -/
@[reducible] def ALC_D_WP_AXIS_A (i : Nat) : Fld := ⟨0x81002C + 0x100 * i, 21, 16⟩
/-- ALC_D_i_WP.AXIS_C, RW. -/
@[reducible] def ALC_D_WP_AXIS_C (i : Nat) : Fld := ⟨0x81002C + 0x100 * i, 29, 24⟩
/-- ALC_D_i_CURVE_k_h.VALUE, RW. -/
@[reducible] def ALC_D_CURVE_VALUE (i k h : Nat) : Fld := ⟨0x810030 + 0x100 * i + 0x8 * k + 0x4 * h, 31, 0⟩
/-- ALC_D_i_CMD_k_h.VALUE, RW. -/
@[reducible] def ALC_D_CMD_VALUE (i k h : Nat) : Fld := ⟨0x810078 + 0x100 * i + 0x8 * k + 0x4 * h, 31, 0⟩
/-- ALC_ENV_b_CFG.SRC, RW. -/
@[reducible] def ALC_ENV_CFG_SRC (b : Nat) : Fld := ⟨0x800200 + 0x20 * b, 1, 0⟩
/-- ALC_ENV_b_CFG.PACH, RW. -/
@[reducible] def ALC_ENV_CFG_PACH (b : Nat) : Fld := ⟨0x800200 + 0x20 * b, 14, 8⟩
/-- ALC_ENV_b_CFG.RACH, RW. -/
@[reducible] def ALC_ENV_CFG_RACH (b : Nat) : Fld := ⟨0x800200 + 0x20 * b, 22, 16⟩
/-- ALC_ENV_b_CFG.TMO, RW. -/
@[reducible] def ALC_ENV_CFG_TMO (b : Nat) : Fld := ⟨0x800200 + 0x20 * b, 31, 24⟩
/-- ALC_ENV_b_QUAL.REQ, RW. -/
@[reducible] def ALC_ENV_QUAL_REQ (b : Nat) : Fld := ⟨0x800204 + 0x20 * b, 7, 0⟩
/-- ALC_ENV_b_FPA.W, RW. -/
@[reducible] def ALC_ENV_FPA_W (b : Nat) : Fld := ⟨0x800208 + 0x20 * b, 31, 0⟩
/-- ALC_ENV_b_FRA.W, RW. -/
@[reducible] def ALC_ENV_FRA_W (b : Nat) : Fld := ⟨0x80020C + 0x20 * b, 31, 0⟩
/-- ALC_ENV_b_HPA.W, RW. -/
@[reducible] def ALC_ENV_HPA_W (b : Nat) : Fld := ⟨0x800210 + 0x20 * b, 31, 0⟩
/-- ALC_ENV_b_HRA.W, RW. -/
@[reducible] def ALC_ENV_HRA_W (b : Nat) : Fld := ⟨0x800214 + 0x20 * b, 31, 0⟩
/-- ALC_ENV_b_PA.W, RO. -/
@[reducible] def ALC_ENV_PA_W (b : Nat) : Fld := ⟨0x800218 + 0x20 * b, 31, 0⟩
/-- ALC_ENV_b_RA.W, RO. -/
@[reducible] def ALC_ENV_RA_W (b : Nat) : Fld := ⟨0x80021C + 0x20 * b, 31, 0⟩
/-- ALC_ENV_STAT.STATE, RO. -/
@[reducible] def ALC_ENV_STAT_STATE : Fld := ⟨0x800280, 7, 0⟩
/-- ALC_ENV_STAT.NEG, W1C. -/
@[reducible] def ALC_ENV_STAT_NEG : Fld := ⟨0x800280, 11, 8⟩
/-- ALC_CQ_CTRL.EN, RW. -/
@[reducible] def ALC_CQ_CTRL_EN : Fld := ⟨0x800300, 0, 0⟩
/-- ALC_CQ_CTRL.ALARM_T, RW. -/
@[reducible] def ALC_CQ_CTRL_ALARM_T : Fld := ⟨0x800300, 15, 8⟩
/-- ALC_CQ_CTRL.CLR_T, RW. -/
@[reducible] def ALC_CQ_CTRL_CLR_T : Fld := ⟨0x800300, 23, 16⟩
/-- ALC_CQ_TOL.TOLF, RW. -/
@[reducible] def ALC_CQ_TOL_TOLF : Fld := ⟨0x800304, 15, 0⟩
/-- ALC_CQ_TOL.TOLM, RW. -/
@[reducible] def ALC_CQ_TOL_TOLM : Fld := ⟨0x800304, 31, 16⟩
/-- ALC_CQ_SCALE.SF, RW. -/
@[reducible] def ALC_CQ_SCALE_SF : Fld := ⟨0x800308, 15, 0⟩
/-- ALC_CQ_SCALE.SM, RW. -/
@[reducible] def ALC_CQ_SCALE_SM : Fld := ⟨0x800308, 31, 16⟩
/-- ALC_CQ_STAT.INFEAS, RO. -/
@[reducible] def ALC_CQ_STAT_INFEAS : Fld := ⟨0x80030C, 23, 0⟩
/-- ALC_CQ_STAT.NOEST, RO. -/
@[reducible] def ALC_CQ_STAT_NOEST : Fld := ⟨0x80030C, 24, 24⟩
/-- ALC_CQ_STAT.ALARM, RO. -/
@[reducible] def ALC_CQ_STAT_ALARM : Fld := ⟨0x80030C, 25, 25⟩
/-- ALC_CQ_ALARM.GROUP, RO. -/
@[reducible] def ALC_CQ_ALARM_GROUP : Fld := ⟨0x800310, 23, 0⟩
/-- ALC_CQ_WORST.GROUP, RO. -/
@[reducible] def ALC_CQ_WORST_GROUP : Fld := ⟨0x800314, 4, 0⟩
/-- ALC_CQ_WORST.MARGIN, RO. -/
@[reducible] def ALC_CQ_WORST_MARGIN : Fld := ⟨0x800314, 31, 16⟩
/-- ALC_CQ_REQX.VALUE, RO. -/
@[reducible] def ALC_CQ_REQX_VALUE : Fld := ⟨0x800318, 31, 0⟩
/-- ALC_CQ_REQY.VALUE, RO. -/
@[reducible] def ALC_CQ_REQY_VALUE : Fld := ⟨0x80031C, 31, 0⟩
/-- ALC_CQ_REQN.VALUE, RO. -/
@[reducible] def ALC_CQ_REQN_VALUE : Fld := ⟨0x800320, 31, 0⟩
/-- ALC_FG_g_CFG.THR, RW. -/
@[reducible] def ALC_FG_CFG_THR (g : Nat) : Fld := ⟨0x800400 + 0x10 * g, 15, 0⟩
/-- ALC_FG_g_CFG.BUS, RW. -/
@[reducible] def ALC_FG_CFG_BUS (g : Nat) : Fld := ⟨0x800400 + 0x10 * g, 19, 16⟩
/-- ALC_FG_g_CFG.EN, RW. -/
@[reducible] def ALC_FG_CFG_EN (g : Nat) : Fld := ⟨0x800400 + 0x10 * g, 24, 24⟩
/-- ALC_FG_g_STAT.VERDICT, RO. -/
@[reducible] def ALC_FG_STAT_VERDICT (g : Nat) : Fld := ⟨0x800404 + 0x10 * g, 1, 0⟩
/-- ALC_FG_g_STAT.NC, RO. -/
@[reducible] def ALC_FG_STAT_NC (g : Nat) : Fld := ⟨0x800404 + 0x10 * g, 2, 2⟩
/-- ALC_FG_g_STAT.HELD, RO. -/
@[reducible] def ALC_FG_STAT_HELD (g : Nat) : Fld := ⟨0x800404 + 0x10 * g, 3, 3⟩
/-- ALC_FG_g_STAT.ALARM, RO. -/
@[reducible] def ALC_FG_STAT_ALARM (g : Nat) : Fld := ⟨0x800404 + 0x10 * g, 4, 4⟩
/-- ALC_FG_g_STAT.ITER, RO. -/
@[reducible] def ALC_FG_STAT_ITER (g : Nat) : Fld := ⟨0x800404 + 0x10 * g, 11, 8⟩
/-- ALC_FG_g_STAT.COUNT, RO. -/
@[reducible] def ALC_FG_STAT_COUNT (g : Nat) : Fld := ⟨0x800404 + 0x10 * g, 31, 16⟩
/-- ALC_FG_g_MARGIN.M, RO. -/
@[reducible] def ALC_FG_MARGIN_M (g : Nat) : Fld := ⟨0x800408 + 0x10 * g, 15, 0⟩
/-- ALC_FG_g_MARGIN.LIMIT, RO. -/
@[reducible] def ALC_FG_MARGIN_LIMIT (g : Nat) : Fld := ⟨0x800408 + 0x10 * g, 23, 16⟩
/-- ALC_FG_g_SLACK.VALUE, RO. -/
@[reducible] def ALC_FG_SLACK_VALUE (g : Nat) : Fld := ⟨0x80040C + 0x10 * g, 31, 0⟩
/-- ALC_EN_b_CFG.MEASCH, RW. -/
@[reducible] def ALC_EN_CFG_MEASCH (b : Nat) : Fld := ⟨0x800600 + 0x20 * b, 6, 0⟩
/-- ALC_EN_b_CFG.HFULL, RO. -/
@[reducible] def ALC_EN_CFG_HFULL (b : Nat) : Fld := ⟨0x800600 + 0x20 * b, 7, 7⟩
/-- ALC_EN_b_CFG.FBCNT, RO. -/
@[reducible] def ALC_EN_CFG_FBCNT (b : Nat) : Fld := ⟨0x800600 + 0x20 * b, 31, 16⟩
/-- ALC_EN_b_SKT.FRAMES, RO. -/
@[reducible] def ALC_EN_SKT_FRAMES (b : Nat) : Fld := ⟨0x800604 + 0x20 * b, 31, 0⟩
/-- ALC_EN_b_TOT_LO.WS, RO. -/
@[reducible] def ALC_EN_TOT_LO_WS (b : Nat) : Fld := ⟨0x800608 + 0x20 * b, 31, 0⟩
/-- ALC_EN_b_TOT_HI.WS, RO. -/
@[reducible] def ALC_EN_TOT_HI_WS (b : Nat) : Fld := ⟨0x80060C + 0x20 * b, 31, 0⟩
/-- ALC_EN_b_SK_LO.WS, RO. -/
@[reducible] def ALC_EN_SK_LO_WS (b : Nat) : Fld := ⟨0x800610 + 0x20 * b, 31, 0⟩
/-- ALC_EN_b_SK_HI.WS, RO. -/
@[reducible] def ALC_EN_SK_HI_WS (b : Nat) : Fld := ⟨0x800614 + 0x20 * b, 31, 0⟩
/-- ALC_EN_b_HOUR.WH, RO. -/
@[reducible] def ALC_EN_HOUR_WH (b : Nat) : Fld := ⟨0x800618 + 0x20 * b, 31, 0⟩
/-- ALC_EN_b_RATE.W, RO. -/
@[reducible] def ALC_EN_RATE_W (b : Nat) : Fld := ⟨0x80061C + 0x20 * b, 31, 0⟩
/-- ALC_EN_CTRL.CLR, WO. -/
@[reducible] def ALC_EN_CTRL_CLR : Fld := ⟨0x800680, 3, 0⟩
/-- PRF_MOVING.AXES, RO. -/
@[reducible] def PRF_MOVING_AXES : Fld := ⟨0x900000, 31, 0⟩
/-- PRF_HOMED.AXES, RO. -/
@[reducible] def PRF_HOMED_AXES : Fld := ⟨0x900004, 31, 0⟩
/-- PRF_FAULT.AXES, RO. -/
@[reducible] def PRF_FAULT_AXES : Fld := ⟨0x900008, 31, 0⟩
/-- PRF_ABORTALL.AXES, WO. -/
@[reducible] def PRF_ABORTALL_AXES : Fld := ⟨0x90000C, 31, 0⟩
/-- PRF_STEPCFG.WIDTH, RW. -/
@[reducible] def PRF_STEPCFG_WIDTH : Fld := ⟨0x900010, 7, 0⟩
/-- PRF_STEPCFG.DSU, RW. -/
@[reducible] def PRF_STEPCFG_DSU : Fld := ⟨0x900010, 15, 8⟩
/-- PRF_STEPCFG.POL, RW. -/
@[reducible] def PRF_STEPCFG_POL : Fld := ⟨0x900010, 31, 16⟩
/-- PRF_INRAW_LO.LEVEL, RO. -/
@[reducible] def PRF_INRAW_LO_LEVEL : Fld := ⟨0x900014, 31, 0⟩
/-- PRF_INRAW_HI.LEVEL, RO. -/
@[reducible] def PRF_INRAW_HI_LEVEL : Fld := ⟨0x900018, 15, 0⟩
/-- PRF_INDEB_LO.LEVEL, RO. -/
@[reducible] def PRF_INDEB_LO_LEVEL : Fld := ⟨0x90001C, 31, 0⟩
/-- PRF_INDEB_HI.LEVEL, RO. -/
@[reducible] def PRF_INDEB_HI_LEVEL : Fld := ⟨0x900020, 15, 0⟩
/-- PRF_ERR.CFG, W1C. -/
@[reducible] def PRF_ERR_CFG : Fld := ⟨0x900024, 0, 0⟩
/-- PRF_P_n_CFG.EN, RW. -/
@[reducible] def PRF_P_CFG_EN (n : Nat) : Fld := ⟨0x900100 + 0x20 * n, 0, 0⟩
/-- PRF_P_n_CFG.MODE, RW. -/
@[reducible] def PRF_P_CFG_MODE (n : Nat) : Fld := ⟨0x900100 + 0x20 * n, 1, 1⟩
/-- PRF_P_n_CFG.ANGLE, RW. -/
@[reducible] def PRF_P_CFG_ANGLE (n : Nat) : Fld := ⟨0x900100 + 0x20 * n, 2, 2⟩
/-- PRF_P_n_CFG.REQHOME, RW. -/
@[reducible] def PRF_P_CFG_REQHOME (n : Nat) : Fld := ⟨0x900100 + 0x20 * n, 3, 3⟩
/-- PRF_P_n_CFG.OUT, RW. -/
@[reducible] def PRF_P_CFG_OUT (n : Nat) : Fld := ⟨0x900100 + 0x20 * n, 5, 4⟩
/-- PRF_P_n_CFG.HDIR, RW. -/
@[reducible] def PRF_P_CFG_HDIR (n : Nat) : Fld := ⟨0x900100 + 0x20 * n, 6, 6⟩
/-- PRF_P_n_CFG.OIDX, RW. -/
@[reducible] def PRF_P_CFG_OIDX (n : Nat) : Fld := ⟨0x900100 + 0x20 * n, 11, 8⟩
/-- PRF_P_n_CMD.MOVE, WO. -/
@[reducible] def PRF_P_CMD_MOVE (n : Nat) : Fld := ⟨0x900104 + 0x20 * n, 0, 0⟩
/-- PRF_P_n_CMD.STOP, WO. -/
@[reducible] def PRF_P_CMD_STOP (n : Nat) : Fld := ⟨0x900104 + 0x20 * n, 1, 1⟩
/-- PRF_P_n_CMD.ABORT, WO. -/
@[reducible] def PRF_P_CMD_ABORT (n : Nat) : Fld := ⟨0x900104 + 0x20 * n, 2, 2⟩
/-- PRF_P_n_CMD.HOME, WO. -/
@[reducible] def PRF_P_CMD_HOME (n : Nat) : Fld := ⟨0x900104 + 0x20 * n, 3, 3⟩
/-- PRF_P_n_CMD.RESUME, WO. -/
@[reducible] def PRF_P_CMD_RESUME (n : Nat) : Fld := ⟨0x900104 + 0x20 * n, 4, 4⟩
/-- PRF_P_n_CMD.CLRFLT, WO. -/
@[reducible] def PRF_P_CMD_CLRFLT (n : Nat) : Fld := ⟨0x900104 + 0x20 * n, 5, 5⟩
/-- PRF_P_n_TGT.TARGET, RW. -/
@[reducible] def PRF_P_TGT_TARGET (n : Nat) : Fld := ⟨0x900108 + 0x20 * n, 31, 0⟩
/-- PRF_P_n_STAT.STATE, RO. -/
@[reducible] def PRF_P_STAT_STATE (n : Nat) : Fld := ⟨0x90010C + 0x20 * n, 3, 0⟩
/-- PRF_P_n_STAT.PEND, RO. -/
@[reducible] def PRF_P_STAT_PEND (n : Nat) : Fld := ⟨0x90010C + 0x20 * n, 4, 4⟩
/-- PRF_P_n_STAT.REPLACED, W1C. -/
@[reducible] def PRF_P_STAT_REPLACED (n : Nat) : Fld := ⟨0x90010C + 0x20 * n, 5, 5⟩
/-- PRF_P_n_STAT.DISCARDED, W1C. -/
@[reducible] def PRF_P_STAT_DISCARDED (n : Nat) : Fld := ⟨0x90010C + 0x20 * n, 6, 6⟩
/-- PRF_P_n_STAT.OVERSHOOT, W1C. -/
@[reducible] def PRF_P_STAT_OVERSHOOT (n : Nat) : Fld := ⟨0x90010C + 0x20 * n, 7, 7⟩
/-- PRF_P_n_STAT.REFUSED, W1C. -/
@[reducible] def PRF_P_STAT_REFUSED (n : Nat) : Fld := ⟨0x90010C + 0x20 * n, 8, 8⟩
/-- PRF_P_n_STAT.HOMED, RO. -/
@[reducible] def PRF_P_STAT_HOMED (n : Nat) : Fld := ⟨0x90010C + 0x20 * n, 9, 9⟩
/-- PRF_P_n_STAT.LIMN, RO. -/
@[reducible] def PRF_P_STAT_LIMN (n : Nat) : Fld := ⟨0x90010C + 0x20 * n, 10, 10⟩
/-- PRF_P_n_STAT.LIMP, RO. -/
@[reducible] def PRF_P_STAT_LIMP (n : Nat) : Fld := ⟨0x90010C + 0x20 * n, 11, 11⟩
/-- PRF_P_n_STAT.HOME, RO. -/
@[reducible] def PRF_P_STAT_HOME (n : Nat) : Fld := ⟨0x90010C + 0x20 * n, 12, 12⟩
/-- PRF_P_n_STAT.CHATTER, W1C. -/
@[reducible] def PRF_P_STAT_CHATTER (n : Nat) : Fld := ⟨0x90010C + 0x20 * n, 13, 13⟩
/-- PRF_P_n_STAT.LIMCLAMP, W1C. -/
@[reducible] def PRF_P_STAT_LIMCLAMP (n : Nat) : Fld := ⟨0x90010C + 0x20 * n, 14, 14⟩
/-- PRF_P_n_STAT.STEPLAG, W1C. -/
@[reducible] def PRF_P_STAT_STEPLAG (n : Nat) : Fld := ⟨0x90010C + 0x20 * n, 15, 15⟩
/-- PRF_P_n_STAT.CAUSE, RO. -/
@[reducible] def PRF_P_STAT_CAUSE (n : Nat) : Fld := ⟨0x90010C + 0x20 * n, 18, 16⟩
/-- PRF_P_n_STAT.HFCAUSE, RO. -/
@[reducible] def PRF_P_STAT_HFCAUSE (n : Nat) : Fld := ⟨0x90010C + 0x20 * n, 21, 19⟩
/-- PRF_P_n_STAT.PHASE, RO. -/
@[reducible] def PRF_P_STAT_PHASE (n : Nat) : Fld := ⟨0x90010C + 0x20 * n, 24, 22⟩
/-- PRF_P_n_STAT.SRCERR, RO. -/
@[reducible] def PRF_P_STAT_SRCERR (n : Nat) : Fld := ⟨0x90010C + 0x20 * n, 25, 25⟩
/-- PRF_P_n_STAT.SRCLOST, RO. -/
@[reducible] def PRF_P_STAT_SRCLOST (n : Nat) : Fld := ⟨0x90010C + 0x20 * n, 26, 26⟩
/-- PRF_P_n_POS.VALUE, RO. -/
@[reducible] def PRF_P_POS_VALUE (n : Nat) : Fld := ⟨0x900110 + 0x20 * n, 31, 0⟩
/-- PRF_P_n_V.LIM, RW. -/
@[reducible] def PRF_P_V_LIM (n : Nat) : Fld := ⟨0x910000 + 0x80 * n, 31, 0⟩
/-- PRF_P_n_A.LIM, RW. -/
@[reducible] def PRF_P_A_LIM (n : Nat) : Fld := ⟨0x910004 + 0x80 * n, 31, 0⟩
/-- PRF_P_n_J.LIM, RW. -/
@[reducible] def PRF_P_J_LIM (n : Nat) : Fld := ⟨0x910008 + 0x80 * n, 31, 0⟩
/-- PRF_P_n_EA.LIM, RW. -/
@[reducible] def PRF_P_EA_LIM (n : Nat) : Fld := ⟨0x91000C + 0x80 * n, 31, 0⟩
/-- PRF_P_n_EJ.LIM, RW. -/
@[reducible] def PRF_P_EJ_LIM (n : Nat) : Fld := ⟨0x910010 + 0x80 * n, 31, 0⟩
/-- PRF_P_n_SMIN.VALUE, RW. -/
@[reducible] def PRF_P_SMIN_VALUE (n : Nat) : Fld := ⟨0x910014 + 0x80 * n, 31, 0⟩
/-- PRF_P_n_SMAX.VALUE, RW. -/
@[reducible] def PRF_P_SMAX_VALUE (n : Nat) : Fld := ⟨0x910018 + 0x80 * n, 31, 0⟩
/-- PRF_P_n_HV.LIM, RW. -/
@[reducible] def PRF_P_HV_LIM (n : Nat) : Fld := ⟨0x91001C + 0x80 * n, 31, 0⟩
/-- PRF_P_n_HOFS.VALUE, RW. -/
@[reducible] def PRF_P_HOFS_VALUE (n : Nat) : Fld := ⟨0x910020 + 0x80 * n, 31, 0⟩
/-- PRF_P_n_HMAXD.VALUE, RW. -/
@[reducible] def PRF_P_HMAXD_VALUE (n : Nat) : Fld := ⟨0x910024 + 0x80 * n, 31, 0⟩
/-- PRF_P_n_INSEL.NEG, RW. -/
@[reducible] def PRF_P_INSEL_NEG (n : Nat) : Fld := ⟨0x910028 + 0x80 * n, 5, 0⟩
/-- PRF_P_n_INSEL.POS, RW. -/
@[reducible] def PRF_P_INSEL_POS (n : Nat) : Fld := ⟨0x910028 + 0x80 * n, 13, 8⟩
/-- PRF_P_n_INSEL.HOME, RW. -/
@[reducible] def PRF_P_INSEL_HOME (n : Nat) : Fld := ⟨0x910028 + 0x80 * n, 21, 16⟩
/-- PRF_P_n_INSEL.POLN, RW. -/
@[reducible] def PRF_P_INSEL_POLN (n : Nat) : Fld := ⟨0x910028 + 0x80 * n, 24, 24⟩
/-- PRF_P_n_INSEL.POLP, RW. -/
@[reducible] def PRF_P_INSEL_POLP (n : Nat) : Fld := ⟨0x910028 + 0x80 * n, 25, 25⟩
/-- PRF_P_n_INSEL.POLH, RW. -/
@[reducible] def PRF_P_INSEL_POLH (n : Nat) : Fld := ⟨0x910028 + 0x80 * n, 26, 26⟩
/-- PRF_P_n_DEB.DEBN, RW. -/
@[reducible] def PRF_P_DEB_DEBN (n : Nat) : Fld := ⟨0x91002C + 0x80 * n, 5, 0⟩
/-- PRF_P_n_DEB.DEBP, RW. -/
@[reducible] def PRF_P_DEB_DEBP (n : Nat) : Fld := ⟨0x91002C + 0x80 * n, 13, 8⟩
/-- PRF_P_n_DEB.DEBH, RW. -/
@[reducible] def PRF_P_DEB_DEBH (n : Nat) : Fld := ⟨0x91002C + 0x80 * n, 21, 16⟩
/-- PRF_P_n_DEB.CHLIM, RW. -/
@[reducible] def PRF_P_DEB_CHLIM (n : Nat) : Fld := ⟨0x91002C + 0x80 * n, 31, 24⟩
/-- PRF_P_n_AMP.AMPL, RW. -/
@[reducible] def PRF_P_AMP_AMPL (n : Nat) : Fld := ⟨0x910030 + 0x80 * n, 15, 0⟩
/-- PRF_P_n_AMP.AMPH, RW. -/
@[reducible] def PRF_P_AMP_AMPH (n : Nat) : Fld := ⟨0x910030 + 0x80 * n, 31, 16⟩
/-- PRF_P_n_HOLDT.MS, RW. -/
@[reducible] def PRF_P_HOLDT_MS (n : Nat) : Fld := ⟨0x910034 + 0x80 * n, 15, 0⟩
/-- PRF_P_n_VEL.VALUE, RO. -/
@[reducible] def PRF_P_VEL_VALUE (n : Nat) : Fld := ⟨0x910040 + 0x80 * n, 31, 0⟩
/-- PRF_P_n_ACC.VALUE, RO. -/
@[reducible] def PRF_P_ACC_VALUE (n : Nat) : Fld := ⟨0x910044 + 0x80 * n, 31, 0⟩
/-- PRF_P_n_PTGT.VALUE, RO. -/
@[reducible] def PRF_P_PTGT_VALUE (n : Nat) : Fld := ⟨0x910048 + 0x80 * n, 31, 0⟩
/-- PRF_P_n_LATCHPOS.VALUE, RO. -/
@[reducible] def PRF_P_LATCHPOS_VALUE (n : Nat) : Fld := ⟨0x91004C + 0x80 * n, 31, 0⟩
/-- PRF_P_n_LATCH_T_LO.LINNS, RO. -/
@[reducible] def PRF_P_LATCH_T_LO_LINNS (n : Nat) : Fld := ⟨0x910050 + 0x80 * n, 31, 0⟩
/-- PRF_P_n_LATCH_T_HI.LINNS, RO. -/
@[reducible] def PRF_P_LATCH_T_HI_LINNS (n : Nat) : Fld := ⟨0x910054 + 0x80 * n, 31, 0⟩
/-- PRF_P_n_CHATCNT.N, RO. -/
@[reducible] def PRF_P_CHATCNT_N (n : Nat) : Fld := ⟨0x910058 + 0x80 * n, 7, 0⟩
/-- PRF_P_n_CHATCNT.P, RO. -/
@[reducible] def PRF_P_CHATCNT_P (n : Nat) : Fld := ⟨0x910058 + 0x80 * n, 15, 8⟩
/-- PRF_P_n_CHATCNT.H, RO. -/
@[reducible] def PRF_P_CHATCNT_H (n : Nat) : Fld := ⟨0x910058 + 0x80 * n, 23, 16⟩
/-- PRF_P_n_EOFS.VALUE, RO. -/
@[reducible] def PRF_P_EOFS_VALUE (n : Nat) : Fld := ⟨0x91005C + 0x80 * n, 31, 0⟩
/-- CAN_n_CTRL.INIT, RW. -/
@[reducible] def CAN_CTRL_INIT (n : Nat) : Fld := ⟨0xA00000 + 0x100 * n, 0, 0⟩
/-- CAN_n_CTRL.MODE, RW. -/
@[reducible] def CAN_CTRL_MODE (n : Nat) : Fld := ⟨0xA00000 + 0x100 * n, 1, 1⟩
/-- CAN_n_CTRL.FDEN, RW. -/
@[reducible] def CAN_CTRL_FDEN (n : Nat) : Fld := ⟨0xA00000 + 0x100 * n, 2, 2⟩
/-- CAN_n_CTRL.BRSEN, RW. -/
@[reducible] def CAN_CTRL_BRSEN (n : Nat) : Fld := ⟨0xA00000 + 0x100 * n, 3, 3⟩
/-- CAN_n_CTRL.TDCEN, RW. -/
@[reducible] def CAN_CTRL_TDCEN (n : Nat) : Fld := ⟨0xA00000 + 0x100 * n, 4, 4⟩
/-- CAN_n_CTRL.MON, RW. -/
@[reducible] def CAN_CTRL_MON (n : Nat) : Fld := ⟨0xA00000 + 0x100 * n, 6, 6⟩
/-- CAN_n_CTRL.LBACK, RW. -/
@[reducible] def CAN_CTRL_LBACK (n : Nat) : Fld := ⟨0xA00000 + 0x100 * n, 7, 7⟩
/-- CAN_n_CTRL.PXE, RW. -/
@[reducible] def CAN_CTRL_PXE (n : Nat) : Fld := ⟨0xA00000 + 0x100 * n, 8, 8⟩
/-- CAN_n_NBT.NBRP, RW. -/
@[reducible] def CAN_NBT_NBRP (n : Nat) : Fld := ⟨0xA00004 + 0x100 * n, 7, 0⟩
/-- CAN_n_NBT.NTSEG1, RW. -/
@[reducible] def CAN_NBT_NTSEG1 (n : Nat) : Fld := ⟨0xA00004 + 0x100 * n, 15, 8⟩
/-- CAN_n_NBT.NTSEG2, RW. -/
@[reducible] def CAN_NBT_NTSEG2 (n : Nat) : Fld := ⟨0xA00004 + 0x100 * n, 22, 16⟩
/-- CAN_n_NBT.NSJW, RW. -/
@[reducible] def CAN_NBT_NSJW (n : Nat) : Fld := ⟨0xA00004 + 0x100 * n, 30, 24⟩
/-- CAN_n_DBT.DBRP, RW. -/
@[reducible] def CAN_DBT_DBRP (n : Nat) : Fld := ⟨0xA00008 + 0x100 * n, 4, 0⟩
/-- CAN_n_DBT.DTSEG1, RW. -/
@[reducible] def CAN_DBT_DTSEG1 (n : Nat) : Fld := ⟨0xA00008 + 0x100 * n, 12, 8⟩
/-- CAN_n_DBT.DTSEG2, RW. -/
@[reducible] def CAN_DBT_DTSEG2 (n : Nat) : Fld := ⟨0xA00008 + 0x100 * n, 19, 16⟩
/-- CAN_n_DBT.DSJW, RW. -/
@[reducible] def CAN_DBT_DSJW (n : Nat) : Fld := ⟨0xA00008 + 0x100 * n, 27, 24⟩
/-- CAN_n_TDC.TDCO, RW. -/
@[reducible] def CAN_TDC_TDCO (n : Nat) : Fld := ⟨0xA0000C + 0x100 * n, 6, 0⟩
/-- CAN_n_TDC.TDCF, RW. -/
@[reducible] def CAN_TDC_TDCF (n : Nat) : Fld := ⟨0xA0000C + 0x100 * n, 14, 8⟩
/-- CAN_n_TDC.TDCV, RO. -/
@[reducible] def CAN_TDC_TDCV (n : Nat) : Fld := ⟨0xA0000C + 0x100 * n, 22, 16⟩
/-- CAN_n_TDC.TDCSAT, W1C. -/
@[reducible] def CAN_TDC_TDCSAT (n : Nat) : Fld := ⟨0xA0000C + 0x100 * n, 23, 23⟩
/-- CAN_n_STATUS.STATE, RO. -/
@[reducible] def CAN_STATUS_STATE (n : Nat) : Fld := ⟨0xA00010 + 0x100 * n, 1, 0⟩
/-- CAN_n_STATUS.RECOV, RO. -/
@[reducible] def CAN_STATUS_RECOV (n : Nat) : Fld := ⟨0xA00010 + 0x100 * n, 2, 2⟩
/-- CAN_n_STATUS.INTEG, RO. -/
@[reducible] def CAN_STATUS_INTEG (n : Nat) : Fld := ⟨0xA00010 + 0x100 * n, 3, 3⟩
/-- CAN_n_STATUS.TXING, RO. -/
@[reducible] def CAN_STATUS_TXING (n : Nat) : Fld := ⟨0xA00010 + 0x100 * n, 4, 4⟩
/-- CAN_n_STATUS.RXING, RO. -/
@[reducible] def CAN_STATUS_RXING (n : Nat) : Fld := ⟨0xA00010 + 0x100 * n, 5, 5⟩
/-- CAN_n_STATUS.LEC, RC. -/
@[reducible] def CAN_STATUS_LEC (n : Nat) : Fld := ⟨0xA00010 + 0x100 * n, 10, 8⟩
/-- CAN_n_STATUS.DLEC, RC. -/
@[reducible] def CAN_STATUS_DLEC (n : Nat) : Fld := ⟨0xA00010 + 0x100 * n, 14, 12⟩
/-- CAN_n_STATUS.LONE, RO. -/
@[reducible] def CAN_STATUS_LONE (n : Nat) : Fld := ⟨0xA00010 + 0x100 * n, 16, 16⟩
/-- CAN_n_ERRCNT.TEC, RO. -/
@[reducible] def CAN_ERRCNT_TEC (n : Nat) : Fld := ⟨0xA00014 + 0x100 * n, 8, 0⟩
/-- CAN_n_ERRCNT.REC, RO. -/
@[reducible] def CAN_ERRCNT_REC (n : Nat) : Fld := ⟨0xA00014 + 0x100 * n, 22, 16⟩
/-- CAN_n_ERRCNT.RP, RO. -/
@[reducible] def CAN_ERRCNT_RP (n : Nat) : Fld := ⟨0xA00014 + 0x100 * n, 23, 23⟩
/-- CAN_n_ERR.CFG, W1C. -/
@[reducible] def CAN_ERR_CFG (n : Nat) : Fld := ⟨0xA00018 + 0x100 * n, 0, 0⟩
/-- CAN_n_ERR.WRBUSY, W1C. -/
@[reducible] def CAN_ERR_WRBUSY (n : Nat) : Fld := ⟨0xA00018 + 0x100 * n, 1, 1⟩
/-- CAN_n_ERR.LOCKTO, W1C. -/
@[reducible] def CAN_ERR_LOCKTO (n : Nat) : Fld := ⟨0xA00018 + 0x100 * n, 2, 2⟩
/-- CAN_n_ERR.RXOVF, W1C. -/
@[reducible] def CAN_ERR_RXOVF (n : Nat) : Fld := ⟨0xA00018 + 0x100 * n, 3, 3⟩
/-- CAN_n_ERR.TXFULL, W1C. -/
@[reducible] def CAN_ERR_TXFULL (n : Nat) : Fld := ⟨0xA00018 + 0x100 * n, 4, 4⟩
/-- CAN_n_CMD.RECOVER, WO. -/
@[reducible] def CAN_CMD_RECOVER (n : Nat) : Fld := ⟨0xA0001C + 0x100 * n, 0, 0⟩
/-- CAN_n_CMD.TXFFLUSH, WO. -/
@[reducible] def CAN_CMD_TXFFLUSH (n : Nat) : Fld := ⟨0xA0001C + 0x100 * n, 1, 1⟩
/-- CAN_n_CMD.CLRCNT, WO. -/
@[reducible] def CAN_CMD_CLRCNT (n : Nat) : Fld := ⟨0xA0001C + 0x100 * n, 2, 2⟩
/-- CAN_n_ACKERR.CONSEC, RO. -/
@[reducible] def CAN_ACKERR_CONSEC (n : Nat) : Fld := ⟨0xA00020 + 0x100 * n, 7, 0⟩
/-- CAN_n_ACKERR.TOTAL, RO. -/
@[reducible] def CAN_ACKERR_TOTAL (n : Nat) : Fld := ⟨0xA00020 + 0x100 * n, 31, 16⟩
/-- CAN_n_COLL.CONSEC, RO. -/
@[reducible] def CAN_COLL_CONSEC (n : Nat) : Fld := ⟨0xA00024 + 0x100 * n, 7, 0⟩
/-- CAN_n_COLL.TOTAL, RO. -/
@[reducible] def CAN_COLL_TOTAL (n : Nat) : Fld := ⟨0xA00024 + 0x100 * n, 31, 16⟩
/-- CAN_n_CNT_k.COUNT, RO. -/
@[reducible] def CAN_CNT_COUNT (n k : Nat) : Fld := ⟨0xA00028 + 0x100 * n + 0x4 * k, 31, 0⟩
/-- CAN_n_FIFO.TXFILL, RO. -/
@[reducible] def CAN_FIFO_TXFILL (n : Nat) : Fld := ⟨0xA00038 + 0x100 * n, 5, 0⟩
/-- CAN_n_FIFO.RXFILL, RO. -/
@[reducible] def CAN_FIFO_RXFILL (n : Nat) : Fld := ⟨0xA00038 + 0x100 * n, 22, 16⟩
/-- CAN_n_TXREQ_w.OBJ, WO. -/
@[reducible] def CAN_TXREQ_OBJ (n w : Nat) : Fld := ⟨0xA00040 + 0x100 * n + 0x4 * w, 31, 0⟩
/-- CAN_n_CANCEL_w.OBJ, WO. -/
@[reducible] def CAN_CANCEL_OBJ (n w : Nat) : Fld := ⟨0xA00050 + 0x100 * n + 0x4 * w, 31, 0⟩
/-- CAN_n_TXPEND_w.OBJ, RO. -/
@[reducible] def CAN_TXPEND_OBJ (n w : Nat) : Fld := ⟨0xA00060 + 0x100 * n + 0x4 * w, 31, 0⟩
/-- CAN_n_NEWDAT_w.OBJ, RO. -/
@[reducible] def CAN_NEWDAT_OBJ (n w : Nat) : Fld := ⟨0xA00070 + 0x100 * n + 0x4 * w, 31, 0⟩
/-- CAN_STATUS.READY, RO. -/
@[reducible] def CAN_STATUS_READY : Fld := ⟨0xA00800, 0, 0⟩
/-- CAN_STATUS.RAMFAULT, RO. -/
@[reducible] def CAN_STATUS_RAMFAULT : Fld := ⟨0xA00800, 1, 1⟩
/-- CAN_TLG_s_CFG.EN, RW. -/
@[reducible] def CAN_TLG_CFG_EN (s : Nat) : Fld := ⟨0xA01000 + 0x20 * s, 0, 0⟩
/-- CAN_TLG_s_CFG.CTRL, RW. -/
@[reducible] def CAN_TLG_CFG_CTRL (s : Nat) : Fld := ⟨0xA01000 + 0x20 * s, 3, 1⟩
/-- CAN_TLG_s_CFG.BRS, RW. -/
@[reducible] def CAN_TLG_CFG_BRS (s : Nat) : Fld := ⟨0xA01000 + 0x20 * s, 4, 4⟩
/-- CAN_TLG_s_CFG.THR, RW. -/
@[reducible] def CAN_TLG_CFG_THR (s : Nat) : Fld := ⟨0xA01000 + 0x20 * s, 12, 8⟩
/-- CAN_TLG_s_CFG.PERIOD, RW. -/
@[reducible] def CAN_TLG_CFG_PERIOD (s : Nat) : Fld := ⟨0xA01000 + 0x20 * s, 21, 16⟩
/-- CAN_TLG_s_CFG.PHASE, RW. -/
@[reducible] def CAN_TLG_CFG_PHASE (s : Nat) : Fld := ⟨0xA01000 + 0x20 * s, 29, 24⟩
/-- CAN_TLG_s_CMDID.ID, RW. -/
@[reducible] def CAN_TLG_CMDID_ID (s : Nat) : Fld := ⟨0xA01004 + 0x20 * s, 28, 0⟩
/-- CAN_TLG_s_CMDID.IDE, RW. -/
@[reducible] def CAN_TLG_CMDID_IDE (s : Nat) : Fld := ⟨0xA01004 + 0x20 * s, 29, 29⟩
/-- CAN_TLG_s_FBID.ID, RW. -/
@[reducible] def CAN_TLG_FBID_ID (s : Nat) : Fld := ⟨0xA01008 + 0x20 * s, 28, 0⟩
/-- CAN_TLG_s_FBID.IDE, RW. -/
@[reducible] def CAN_TLG_FBID_IDE (s : Nat) : Fld := ⟨0xA01008 + 0x20 * s, 29, 29⟩
/-- CAN_TLG_s_FBTMO.MS, RW. -/
@[reducible] def CAN_TLG_FBTMO_MS (s : Nat) : Fld := ⟨0xA0100C + 0x20 * s, 15, 0⟩
/-- CAN_TLG_s_STAT.SEQ, RO. -/
@[reducible] def CAN_TLG_STAT_SEQ (s : Nat) : Fld := ⟨0xA01010 + 0x20 * s, 15, 0⟩
/-- CAN_TLG_s_STAT.FBLOST, RO. -/
@[reducible] def CAN_TLG_STAT_FBLOST (s : Nat) : Fld := ⟨0xA01010 + 0x20 * s, 16, 16⟩
/-- CAN_TLG_s_STAT.DRVFLT, RO. -/
@[reducible] def CAN_TLG_STAT_DRVFLT (s : Nat) : Fld := ⟨0xA01010 + 0x20 * s, 17, 17⟩
/-- CAN_TLG_s_STAT.FBVALID, RO. -/
@[reducible] def CAN_TLG_STAT_FBVALID (s : Nat) : Fld := ⟨0xA01010 + 0x20 * s, 18, 18⟩
/-- CAN_TLG_s_STAT.CFGERR, RO. -/
@[reducible] def CAN_TLG_STAT_CFGERR (s : Nat) : Fld := ⟨0xA01010 + 0x20 * s, 19, 19⟩
/-- CAN_TLG_s_RTT.US, RO. -/
@[reducible] def CAN_TLG_RTT_US (s : Nat) : Fld := ⟨0xA01014 + 0x20 * s, 15, 0⟩
/-- CAN_TLG_s_RTT.ACKSEQ, RO. -/
@[reducible] def CAN_TLG_RTT_ACKSEQ (s : Nat) : Fld := ⟨0xA01014 + 0x20 * s, 31, 16⟩
/-- CAN_TLG_s_CNT.DROP, RC. -/
@[reducible] def CAN_TLG_CNT_DROP (s : Nat) : Fld := ⟨0xA01018 + 0x20 * s, 15, 0⟩
/-- CAN_TLG_s_CNT.FBBAD, RC. -/
@[reducible] def CAN_TLG_CNT_FBBAD (s : Nat) : Fld := ⟨0xA01018 + 0x20 * s, 31, 16⟩
/-- SAF_STATUS.STATE, RO. -/
@[reducible] def SAF_STATUS_STATE : Fld := ⟨0xC00000, 1, 0⟩
/-- SAF_STATUS.READY, RO. -/
@[reducible] def SAF_STATUS_READY : Fld := ⟨0xC00000, 2, 2⟩
/-- SAF_STATUS.CLK_RC, RO. -/
@[reducible] def SAF_STATUS_CLK_RC : Fld := ⟨0xC00000, 3, 3⟩
/-- SAF_STATUS.TCXO_FAULT, RO. -/
@[reducible] def SAF_STATUS_TCXO_FAULT : Fld := ⟨0xC00000, 4, 4⟩
/-- SAF_STATUS.RC_FAULT, RO. -/
@[reducible] def SAF_STATUS_RC_FAULT : Fld := ⟨0xC00000, 5, 5⟩
/-- SAF_STATUS.XTAL_FAULT, RO. -/
@[reducible] def SAF_STATUS_XTAL_FAULT : Fld := ⟨0xC00000, 6, 6⟩
/-- SAF_STATUS.CAUSE, RO. -/
@[reducible] def SAF_STATUS_CAUSE : Fld := ⟨0xC00000, 10, 8⟩
/-- SAF_DEMAND.SI, RO. -/
@[reducible] def SAF_DEMAND_SI : Fld := ⟨0xC00004, 31, 0⟩
/-- SAF_INLOCK.SI, RO. -/
@[reducible] def SAF_INLOCK_SI : Fld := ⟨0xC00008, 31, 0⟩
/-- SAF_CO_REQ.REQ, RW. -/
@[reducible] def SAF_CO_REQ_REQ : Fld := ⟨0xC0000C, 15, 0⟩
/-- SAF_CO_OUT.OUT, RO. -/
@[reducible] def SAF_CO_OUT_OUT : Fld := ⟨0xC00010, 15, 0⟩
/-- SAF_CO_OUT.FBCLOSED, RO. -/
@[reducible] def SAF_CO_OUT_FBCLOSED : Fld := ⟨0xC00010, 31, 16⟩
/-- SAF_CO_LOCK.LOCK, RO. -/
@[reducible] def SAF_CO_LOCK_LOCK : Fld := ⟨0xC00014, 15, 0⟩
/-- SAF_RESET.CO, WO. -/
@[reducible] def SAF_RESET_CO : Fld := ⟨0xC00018, 15, 0⟩
/-- SAF_CONNRST.SC, WO. -/
@[reducible] def SAF_CONNRST_SC : Fld := ⟨0xC0001C, 7, 0⟩
/-- SAF_AVAIL.AVAIL, RO. -/
@[reducible] def SAF_AVAIL_AVAIL : Fld := ⟨0xC00020, 15, 0⟩
/-- SAF_AVAIL.CAT0, RO. -/
@[reducible] def SAF_AVAIL_CAT0 : Fld := ⟨0xC00020, 31, 16⟩
/-- SAF_ERR.RSTREF, W1C. -/
@[reducible] def SAF_ERR_RSTREF : Fld := ⟨0xC00024, 0, 0⟩
/-- SAF_RSTCFG.MINP, RWS. -/
@[reducible] def SAF_RSTCFG_MINP : Fld := ⟨0xC00028, 7, 0⟩
/-- SAF_RSTCFG.MAXP, RWS. -/
@[reducible] def SAF_RSTCFG_MAXP : Fld := ⟨0xC00028, 15, 8⟩
/-- SAF_RSTCFG.EN, RWS. -/
@[reducible] def SAF_RSTCFG_EN : Fld := ⟨0xC00028, 19, 16⟩
/-- SAF_RSTSTAT.LEVEL, RO. -/
@[reducible] def SAF_RSTSTAT_LEVEL : Fld := ⟨0xC0002C, 3, 0⟩
/-- SAF_RSTSTAT.STUCK, W1C. -/
@[reducible] def SAF_RSTSTAT_STUCK : Fld := ⟨0xC0002C, 7, 4⟩
/-- SAF_SI_n.EN, RWS. -/
@[reducible] def SAF_SI_EN (n : Nat) : Fld := ⟨0xC00100 + 0x4 * n, 0, 0⟩
/-- SAF_SI_n.ANTI, RWS. -/
@[reducible] def SAF_SI_ANTI (n : Nat) : Fld := ⟨0xC00100 + 0x4 * n, 1, 1⟩
/-- SAF_SI_n.DISC, RWS. -/
@[reducible] def SAF_SI_DISC (n : Nat) : Fld := ⟨0xC00100 + 0x4 * n, 18, 8⟩
/-- SAF_SI_n.STATE, RO. -/
@[reducible] def SAF_SI_STATE (n : Nat) : Fld := ⟨0xC00100 + 0x4 * n, 22, 20⟩
/-- SAF_SI_n.A, RO. -/
@[reducible] def SAF_SI_A (n : Nat) : Fld := ⟨0xC00100 + 0x4 * n, 23, 23⟩
/-- SAF_SI_n.B, RO. -/
@[reducible] def SAF_SI_B (n : Nat) : Fld := ⟨0xC00100 + 0x4 * n, 24, 24⟩
/-- SAF_SI_n.SEENDEM, RO. -/
@[reducible] def SAF_SI_SEENDEM (n : Nat) : Fld := ⟨0xC00100 + 0x4 * n, 25, 25⟩
/-- SAF_CO_m_CFG.EN, RWS. -/
@[reducible] def SAF_CO_CFG_EN (m : Nat) : Fld := ⟨0xC00200 + 0x10 * m, 0, 0⟩
/-- SAF_CO_m_CFG.CAT, RWS. -/
@[reducible] def SAF_CO_CFG_CAT (m : Nat) : Fld := ⟨0xC00200 + 0x10 * m, 1, 1⟩
/-- SAF_CO_m_CFG.HOSTRST, RWS. -/
@[reducible] def SAF_CO_CFG_HOSTRST (m : Nat) : Fld := ⟨0xC00200 + 0x10 * m, 2, 2⟩
/-- SAF_CO_m_CFG.RSTIN, RWS. -/
@[reducible] def SAF_CO_CFG_RSTIN (m : Nat) : Fld := ⟨0xC00200 + 0x10 * m, 7, 4⟩
/-- SAF_CO_m_CFG.THR, RWS. -/
@[reducible] def SAF_CO_CFG_THR (m : Nat) : Fld := ⟨0xC00200 + 0x10 * m, 12, 8⟩
/-- SAF_CO_m_CFG.ESC, RWS. -/
@[reducible] def SAF_CO_CFG_ESC (m : Nat) : Fld := ⟨0xC00200 + 0x10 * m, 20, 16⟩
/-- SAF_CO_m_CFG.TFB, RWS. -/
@[reducible] def SAF_CO_CFG_TFB (m : Nat) : Fld := ⟨0xC00200 + 0x10 * m, 31, 24⟩
/-- SAF_CO_m_SIMASK.SI, RWS. -/
@[reducible] def SAF_CO_SIMASK_SI (m : Nat) : Fld := ⟨0xC00204 + 0x10 * m, 31, 0⟩
/-- SAF_CO_m_AUX.RXMASK, RWS. -/
@[reducible] def SAF_CO_AUX_RXMASK (m : Nat) : Fld := ⟨0xC00208 + 0x10 * m, 7, 0⟩
/-- SAF_CO_m_AUX.DELAY, RWS. -/
@[reducible] def SAF_CO_AUX_DELAY (m : Nat) : Fld := ⟨0xC00208 + 0x10 * m, 21, 8⟩
/-- SAF_CO_m_AUX.STATE, RO. -/
@[reducible] def SAF_CO_AUX_STATE (m : Nat) : Fld := ⟨0xC00208 + 0x10 * m, 25, 22⟩
/-- SAF_CO_m_AUX.LCAUSE, RO. -/
@[reducible] def SAF_CO_AUX_LCAUSE (m : Nat) : Fld := ⟨0xC00208 + 0x10 * m, 28, 26⟩
/-- SAF_CO_m_AUX.FB, RO. -/
@[reducible] def SAF_CO_AUX_FB (m : Nat) : Fld := ⟨0xC00208 + 0x10 * m, 29, 29⟩
/-- SAF_CO_m_AUX.OUT, RO. -/
@[reducible] def SAF_CO_AUX_OUT (m : Nat) : Fld := ⟨0xC00208 + 0x10 * m, 30, 30⟩
/-- SAF_CONN_c_CFG.EN, RWS. -/
@[reducible] def SAF_CONN_CFG_EN (c : Nat) : Fld := ⟨0xC00400 + 0x40 * c, 0, 0⟩
/-- SAF_CONN_c_CFG.DIR, RWS. -/
@[reducible] def SAF_CONN_CFG_DIR (c : Nat) : Fld := ⟨0xC00400 + 0x40 * c, 1, 1⟩
/-- SAF_CONN_c_CFG.NET, RWS. -/
@[reducible] def SAF_CONN_CFG_NET (c : Nat) : Fld := ⟨0xC00400 + 0x40 * c, 3, 2⟩
/-- SAF_CONN_c_CFG.PERIOD, RWS. -/
@[reducible] def SAF_CONN_CFG_PERIOD (c : Nat) : Fld := ⟨0xC00400 + 0x40 * c, 15, 8⟩
/-- SAF_CONN_c_CFG.CONNID, RWS. -/
@[reducible] def SAF_CONN_CFG_CONNID (c : Nat) : Fld := ⟨0xC00400 + 0x40 * c, 31, 16⟩
/-- SAF_CONN_c_KEY.KEY, RWS. -/
@[reducible] def SAF_CONN_KEY_KEY (c : Nat) : Fld := ⟨0xC00404 + 0x40 * c, 31, 0⟩
/-- SAF_CONN_c_MAC_LO.MAC, RWS. -/
@[reducible] def SAF_CONN_MAC_LO_MAC (c : Nat) : Fld := ⟨0xC00408 + 0x40 * c, 31, 0⟩
/-- SAF_CONN_c_MAC_HI.MAC, RWS. -/
@[reducible] def SAF_CONN_MAC_HI_MAC (c : Nat) : Fld := ⟨0xC0040C + 0x40 * c, 15, 0⟩
/-- SAF_CONN_c_PMASK.MASK, RWS. -/
@[reducible] def SAF_CONN_PMASK_MASK (c : Nat) : Fld := ⟨0xC00410 + 0x40 * c, 31, 0⟩
/-- SAF_CONN_c_WDT.WDT, RWS. -/
@[reducible] def SAF_CONN_WDT_WDT (c : Nat) : Fld := ⟨0xC00414 + 0x40 * c, 11, 0⟩
/-- SAF_CONN_c_WDT.MISSLIM, RWS. -/
@[reducible] def SAF_CONN_WDT_MISSLIM (c : Nat) : Fld := ⟨0xC00414 + 0x40 * c, 15, 12⟩
/-- SAF_CONN_c_WDT.APP, RW. -/
@[reducible] def SAF_CONN_WDT_APP (c : Nat) : Fld := ⟨0xC00414 + 0x40 * c, 31, 16⟩
/-- SAF_CONN_c_STAT.STATE, RO. -/
@[reducible] def SAF_CONN_STAT_STATE (c : Nat) : Fld := ⟨0xC00418 + 0x40 * c, 2, 0⟩
/-- SAF_CONN_c_STAT.DEGA, RO. -/
@[reducible] def SAF_CONN_STAT_DEGA (c : Nat) : Fld := ⟨0xC00418 + 0x40 * c, 3, 3⟩
/-- SAF_CONN_c_STAT.DEGB, RO. -/
@[reducible] def SAF_CONN_STAT_DEGB (c : Nat) : Fld := ⟨0xC00418 + 0x40 * c, 4, 4⟩
/-- SAF_CONN_c_STAT.SEQ, RO. -/
@[reducible] def SAF_CONN_STAT_SEQ (c : Nat) : Fld := ⟨0xC00418 + 0x40 * c, 31, 16⟩
/-- SAF_CONN_c_PERMIT.PERMIT, RO. -/
@[reducible] def SAF_CONN_PERMIT_PERMIT (c : Nat) : Fld := ⟨0xC0041C + 0x40 * c, 31, 0⟩
/-- SAF_CONN_c_RXAPP.APP, RO. -/
@[reducible] def SAF_CONN_RXAPP_APP (c : Nat) : Fld := ⟨0xC00420 + 0x40 * c, 15, 0⟩
/-- SAF_CONN_c_CNT0.CHKERR, RO. -/
@[reducible] def SAF_CONN_CNT0_CHKERR (c : Nat) : Fld := ⟨0xC00424 + 0x40 * c, 15, 0⟩
/-- SAF_CONN_c_CNT0.OLD, RO. -/
@[reducible] def SAF_CONN_CNT0_OLD (c : Nat) : Fld := ⟨0xC00424 + 0x40 * c, 31, 16⟩
/-- SAF_CONN_c_CNT1.MISSA, RO. -/
@[reducible] def SAF_CONN_CNT1_MISSA (c : Nat) : Fld := ⟨0xC00428 + 0x40 * c, 15, 0⟩
/-- SAF_CONN_c_CNT1.MISSB, RO. -/
@[reducible] def SAF_CONN_CNT1_MISSB (c : Nat) : Fld := ⟨0xC00428 + 0x40 * c, 31, 16⟩
/-- SEC_SEAL_STAT.STATE, RO. -/
@[reducible] def SEC_SEAL_STAT_STATE : Fld := ⟨0x1000100, 1, 0⟩
/-- SEC_SEAL_STAT.PORT, RO. -/
@[reducible] def SEC_SEAL_STAT_PORT : Fld := ⟨0x1000100, 2, 2⟩
/-- SEC_SEAL_STAT.PENDPW, RO. -/
@[reducible] def SEC_SEAL_STAT_PENDPW : Fld := ⟨0x1000100, 3, 3⟩
/-- SEC_SEAL_STAT.IMGCHG, RO. -/
@[reducible] def SEC_SEAL_STAT_IMGCHG : Fld := ⟨0x1000100, 4, 4⟩
/-- SEC_SEAL_STAT.BACKOFF, RO. -/
@[reducible] def SEC_SEAL_STAT_BACKOFF : Fld := ⟨0x1000100, 5, 5⟩
/-- SEC_SEAL_STAT.ASLOT, RO. -/
@[reducible] def SEC_SEAL_STAT_ASLOT : Fld := ⟨0x1000100, 6, 6⟩
/-- SEC_SEAL_STAT.PEND, RO. -/
@[reducible] def SEC_SEAL_STAT_PEND : Fld := ⟨0x1000100, 18, 8⟩
/-- SEC_SEAL_STAT.FAILS, RO. -/
@[reducible] def SEC_SEAL_STAT_FAILS : Fld := ⟨0x1000100, 31, 24⟩
/-- SEC_SEAL_CMD.OPEN, WO. -/
@[reducible] def SEC_SEAL_CMD_OPEN : Fld := ⟨0x1000104, 0, 0⟩
/-- SEC_SEAL_CMD.CLOSE, WO. -/
@[reducible] def SEC_SEAL_CMD_CLOSE : Fld := ⟨0x1000104, 1, 1⟩
/-- SEC_SEAL_CMD.COMMIT, WO. -/
@[reducible] def SEC_SEAL_CMD_COMMIT : Fld := ⟨0x1000104, 2, 2⟩
/-- SEC_SEAL_CMD.SETPW, WO. -/
@[reducible] def SEC_SEAL_CMD_SETPW : Fld := ⟨0x1000104, 3, 3⟩
/-- SEC_SEAL_CMD.ROLL, WO. -/
@[reducible] def SEC_SEAL_CMD_ROLL : Fld := ⟨0x1000104, 4, 4⟩
/-- SEC_SEAL_CMD.DISCARD, WO. -/
@[reducible] def SEC_SEAL_CMD_DISCARD : Fld := ⟨0x1000104, 5, 5⟩
/-- SEC_SEAL_ERR.BADPW, W1C. -/
@[reducible] def SEC_SEAL_ERR_BADPW : Fld := ⟨0x1000108, 0, 0⟩
/-- SEC_SEAL_ERR.BACKOFF, W1C. -/
@[reducible] def SEC_SEAL_ERR_BACKOFF : Fld := ⟨0x1000108, 1, 1⟩
/-- SEC_SEAL_ERR.BUSY, W1C. -/
@[reducible] def SEC_SEAL_ERR_BUSY : Fld := ⟨0x1000108, 2, 2⟩
/-- SEC_SEAL_ERR.NOCHANGE, W1C. -/
@[reducible] def SEC_SEAL_ERR_NOCHANGE : Fld := ⟨0x1000108, 3, 3⟩
/-- SEC_SEAL_ERR.LOGFULL, W1C. -/
@[reducible] def SEC_SEAL_ERR_LOGFULL : Fld := ⟨0x1000108, 4, 4⟩
/-- SEC_SEAL_ERR.NOTEXP, W1C. -/
@[reducible] def SEC_SEAL_ERR_NOTEXP : Fld := ⟨0x1000108, 5, 5⟩
/-- SEC_SEAL_ERR.PWLEN, W1C. -/
@[reducible] def SEC_SEAL_ERR_PWLEN : Fld := ⟨0x1000108, 6, 6⟩
/-- SEC_SEAL_ERR.STATE, W1C. -/
@[reducible] def SEC_SEAL_ERR_STATE : Fld := ⟨0x1000108, 7, 7⟩
/-- SEC_SEAL_ERR.VERIFY, W1C. -/
@[reducible] def SEC_SEAL_ERR_VERIFY : Fld := ⟨0x1000108, 8, 8⟩
/-- SEC_SEAL_PWLEN.LEN, WO. -/
@[reducible] def SEC_SEAL_PWLEN_LEN : Fld := ⟨0x100010C, 6, 0⟩
/-- SEC_SEAL_PW_w.CHARS, WO. -/
@[reducible] def SEC_SEAL_PW_CHARS (w : Nat) : Fld := ⟨0x1000110 + 0x4 * w, 31, 0⟩
/-- SEC_SEAL_OPID_w.CHARS, RW. -/
@[reducible] def SEC_SEAL_OPID_CHARS (w : Nat) : Fld := ⟨0x1000150 + 0x4 * w, 31, 0⟩
/-- SEC_SEAL_CNT.COUNT, RO. -/
@[reducible] def SEC_SEAL_CNT_COUNT : Fld := ⟨0x1000160, 31, 0⟩
/-- SEC_SEAL_CSEQ.CSEQ, RO. -/
@[reducible] def SEC_SEAL_CSEQ_CSEQ : Fld := ⟨0x1000164, 31, 0⟩
/-- SEC_SEAL_BOTIME.S, RO. -/
@[reducible] def SEC_SEAL_BOTIME_S : Fld := ⟨0x1000168, 11, 0⟩
/-- SEC_SEAL_LOG.COUNT, RO. -/
@[reducible] def SEC_SEAL_LOG_COUNT : Fld := ⟨0x100016C, 11, 0⟩
/-- SEC_SEAL_LOG.EXPORTED, RO. -/
@[reducible] def SEC_SEAL_LOG_EXPORTED : Fld := ⟨0x100016C, 27, 16⟩
/-- SEC_SEAL_LOGIDX.IDX, RW. -/
@[reducible] def SEC_SEAL_LOGIDX_IDX : Fld := ⟨0x1000170, 10, 0⟩
/-- SEC_SEAL_IDLE.MIN, RW. -/
@[reducible] def SEC_SEAL_IDLE_MIN : Fld := ⟨0x1000174, 7, 0⟩
/-- SEC_SEAL_LOGWIN_k.DATA, RO. -/
@[reducible] def SEC_SEAL_LOGWIN_DATA (k : Nat) : Fld := ⟨0x1000180 + 0x4 * k, 31, 0⟩
/-- SEC_SEAL_MEAS_k.HASH, RO. -/
@[reducible] def SEC_SEAL_MEAS_HASH (k : Nat) : Fld := ⟨0x10001E0 + 0x4 * k, 31, 0⟩
/-- RED_CFG.POS, RW. -/
@[reducible] def RED_CFG_POS : Fld := ⟨0xD00000, 1, 0⟩
/-- RED_CFG.GSIZE, RW. -/
@[reducible] def RED_CFG_GSIZE : Fld := ⟨0xD00000, 3, 2⟩
/-- RED_CFG.SLHAND, RW. -/
@[reducible] def RED_CFG_SLHAND : Fld := ⟨0xD00000, 4, 4⟩
/-- RED_CFG.AUTOTAKE, RW. -/
@[reducible] def RED_CFG_AUTOTAKE : Fld := ⟨0xD00000, 5, 5⟩
/-- RED_CFG.AUTOJOIN, RW. -/
@[reducible] def RED_CFG_AUTOJOIN : Fld := ⟨0xD00000, 6, 6⟩
/-- RED_CFG.LINKTMO, RW. -/
@[reducible] def RED_CFG_LINKTMO : Fld := ⟨0xD00000, 11, 8⟩
/-- RED_CFG.CMPN, RW. -/
@[reducible] def RED_CFG_CMPN : Fld := ⟨0xD00000, 15, 12⟩
/-- RED_CFG.CLRN, RW. -/
@[reducible] def RED_CFG_CLRN : Fld := ⟨0xD00000, 23, 16⟩
/-- RED_STATUS.ROLE, RO. -/
@[reducible] def RED_STATUS_ROLE : Fld := ⟨0xD00004, 1, 0⟩
/-- RED_STATUS.LANES, RO. -/
@[reducible] def RED_STATUS_LANES : Fld := ⟨0xD00004, 3, 2⟩
/-- RED_STATUS.LSTAT, RO. -/
@[reducible] def RED_STATUS_LSTAT : Fld := ⟨0xD00004, 4, 4⟩
/-- RED_STATUS.CHECK, RO. -/
@[reducible] def RED_STATUS_CHECK : Fld := ⟨0xD00004, 5, 5⟩
/-- RED_STATUS.MCHECK, RO. -/
@[reducible] def RED_STATUS_MCHECK : Fld := ⟨0xD00004, 6, 6⟩
/-- RED_STATUS.SYNC, RO. -/
@[reducible] def RED_STATUS_SYNC : Fld := ⟨0xD00004, 7, 7⟩
/-- RED_STATUS.MIRLOST, RO. -/
@[reducible] def RED_STATUS_MIRLOST : Fld := ⟨0xD00004, 8, 8⟩
/-- RED_STATUS.AXPHASE, RO. -/
@[reducible] def RED_STATUS_AXPHASE : Fld := ⟨0xD00004, 10, 9⟩
/-- RED_STATUS.DISAGREE, RO. -/
@[reducible] def RED_STATUS_DISAGREE : Fld := ⟨0xD00004, 11, 11⟩
/-- RED_STATUS.CFGDIFF, RO. -/
@[reducible] def RED_STATUS_CFGDIFF : Fld := ⟨0xD00004, 12, 12⟩
/-- RED_STATUS.POSDUP, RO. -/
@[reducible] def RED_STATUS_POSDUP : Fld := ⟨0xD00004, 13, 13⟩
/-- RED_STATUS.INCMD, RO. -/
@[reducible] def RED_STATUS_INCMD : Fld := ⟨0xD00004, 14, 14⟩
/-- RED_STATUS.PEERS, RO. -/
@[reducible] def RED_STATUS_PEERS : Fld := ⟨0xD00004, 18, 16⟩
/-- RED_STATUS.ICPOS, RO. -/
@[reducible] def RED_STATUS_ICPOS : Fld := ⟨0xD00004, 21, 20⟩
/-- RED_CMD.CLAIM, WO. -/
@[reducible] def RED_CMD_CLAIM : Fld := ⟨0xD00008, 0, 0⟩
/-- RED_CMD.FORCE, WO. -/
@[reducible] def RED_CMD_FORCE : Fld := ⟨0xD00008, 1, 1⟩
/-- RED_CMD.JOIN, WO. -/
@[reducible] def RED_CMD_JOIN : Fld := ⟨0xD00008, 2, 2⟩
/-- RED_CMD.ABANDON, WO. -/
@[reducible] def RED_CMD_ABANDON : Fld := ⟨0xD00008, 3, 3⟩
/-- RED_CMD.HANDOVER, WO. -/
@[reducible] def RED_CMD_HANDOVER : Fld := ⟨0xD00008, 4, 4⟩
/-- RED_CMD.HOTGT, WO. -/
@[reducible] def RED_CMD_HOTGT : Fld := ⟨0xD00008, 6, 5⟩
/-- RED_CMD.REJOIN, WO. -/
@[reducible] def RED_CMD_REJOIN : Fld := ⟨0xD00008, 7, 7⟩
/-- RED_ERR.REFUSED, W1C. -/
@[reducible] def RED_ERR_REFUSED : Fld := ⟨0xD0000C, 0, 0⟩
/-- RED_ERR.NOTCMD, W1C. -/
@[reducible] def RED_ERR_NOTCMD : Fld := ⟨0xD0000C, 1, 1⟩
/-- RED_ERR.SKEW, W1C. -/
@[reducible] def RED_ERR_SKEW : Fld := ⟨0xD0000C, 2, 2⟩
/-- RED_ERR.REASON, RO. -/
@[reducible] def RED_ERR_REASON : Fld := ⟨0xD0000C, 11, 8⟩
/-- RED_EPOCH.EPOCH, RO. -/
@[reducible] def RED_EPOCH_EPOCH : Fld := ⟨0xD00010, 15, 0⟩
/-- RED_TOL.TOLP, RW. -/
@[reducible] def RED_TOL_TOLP : Fld := ⟨0xD00014, 7, 0⟩
/-- RED_TOL.TOLA, RW. -/
@[reducible] def RED_TOL_TOLA : Fld := ⟨0xD00014, 15, 8⟩
/-- RED_TOL.TOLANG, RW. -/
@[reducible] def RED_TOL_TOLANG : Fld := ⟨0xD00014, 31, 16⟩
/-- RED_CFGDIG_LO.DIG, RO. -/
@[reducible] def RED_CFGDIG_LO_DIG : Fld := ⟨0xD00018, 31, 0⟩
/-- RED_CFGDIG_HI.DIG, RO. -/
@[reducible] def RED_CFGDIG_HI_DIG : Fld := ⟨0xD0001C, 31, 0⟩
/-- RED_DOVE.MISMATCH, RO. -/
@[reducible] def RED_DOVE_MISMATCH : Fld := ⟨0xD00020, 15, 0⟩
/-- RED_DOVE.TRANSIENT, RO. -/
@[reducible] def RED_DOVE_TRANSIENT : Fld := ⟨0xD00020, 31, 16⟩
/-- RED_DOVE_LAST.STAGE, RO. -/
@[reducible] def RED_DOVE_LAST_STAGE : Fld := ⟨0xD00024, 3, 0⟩
/-- RED_DOVE_LAST.FAILED, RO. -/
@[reducible] def RED_DOVE_LAST_FAILED : Fld := ⟨0xD00024, 5, 4⟩
/-- RED_DOVE_T_LO.LINNS, RO. -/
@[reducible] def RED_DOVE_T_LO_LINNS : Fld := ⟨0xD00028, 31, 0⟩
/-- RED_DOVE_T_HI.LINNS, RO. -/
@[reducible] def RED_DOVE_T_HI_LINNS : Fld := ⟨0xD0002C, 31, 0⟩
/-- RED_AXO.PHASE, RO. -/
@[reducible] def RED_AXO_PHASE : Fld := ⟨0xD00030, 1, 0⟩
/-- RED_AXO.COUNT, RO. -/
@[reducible] def RED_AXO_COUNT : Fld := ⟨0xD00030, 22, 16⟩
/-- RED_AXO.RESTARTS, RO. -/
@[reducible] def RED_AXO_RESTARTS : Fld := ⟨0xD00030, 31, 24⟩
/-- RED_JIG_CYC.LAST, RO. -/
@[reducible] def RED_JIG_CYC_LAST : Fld := ⟨0xD00034, 15, 0⟩
/-- RED_JIG_CYC.MAX, RC. -/
@[reducible] def RED_JIG_CYC_MAX : Fld := ⟨0xD00034, 31, 16⟩
/-- RED_JIG_FAIL.SRAM_A, W1C. -/
@[reducible] def RED_JIG_FAIL_SRAM_A : Fld := ⟨0xD00038, 0, 0⟩
/-- RED_JIG_FAIL.SRAM_B, W1C. -/
@[reducible] def RED_JIG_FAIL_SRAM_B : Fld := ⟨0xD00038, 1, 1⟩
/-- RED_JIG_FAIL.KAT_A, W1C. -/
@[reducible] def RED_JIG_FAIL_KAT_A : Fld := ⟨0xD00038, 2, 2⟩
/-- RED_JIG_FAIL.KAT_B, W1C. -/
@[reducible] def RED_JIG_FAIL_KAT_B : Fld := ⟨0xD00038, 3, 3⟩
/-- RED_JIG_FAIL.MAT_A, W1C. -/
@[reducible] def RED_JIG_FAIL_MAT_A : Fld := ⟨0xD00038, 4, 4⟩
/-- RED_JIG_FAIL.MAT_B, W1C. -/
@[reducible] def RED_JIG_FAIL_MAT_B : Fld := ⟨0xD00038, 5, 5⟩
/-- RED_JIG_FAIL.ADC, W1C. -/
@[reducible] def RED_JIG_FAIL_ADC : Fld := ⟨0xD00038, 6, 6⟩
/-- RED_JIG_FAIL.CLOCK, W1C. -/
@[reducible] def RED_JIG_FAIL_CLOCK : Fld := ⟨0xD00038, 7, 7⟩
/-- RED_JIG_FAIL.CAN, W1C. -/
@[reducible] def RED_JIG_FAIL_CAN : Fld := ⟨0xD00038, 15, 8⟩
/-- RED_JIG_ECC.CORR, RO. -/
@[reducible] def RED_JIG_ECC_CORR : Fld := ⟨0xD0003C, 31, 0⟩
/-- RED_HCFG.EN, RW. -/
@[reducible] def RED_HCFG_EN : Fld := ⟨0xD00040, 0, 0⟩
/-- RED_HCFG.NET, RW. -/
@[reducible] def RED_HCFG_NET : Fld := ⟨0xD00040, 2, 1⟩
/-- RED_HMAC_LO.MAC, RW. -/
@[reducible] def RED_HMAC_LO_MAC : Fld := ⟨0xD00044, 31, 0⟩
/-- RED_HMAC_HI.MAC, RW. -/
@[reducible] def RED_HMAC_HI_MAC : Fld := ⟨0xD00048, 15, 0⟩
/-- RED_HEALTH_k.DATA, RO. -/
@[reducible] def RED_HEALTH_DATA (k : Nat) : Fld := ⟨0xD00080 + 0x4 * k, 31, 0⟩
/-- RED_PEER_p_STAT.SEEN, RO. -/
@[reducible] def RED_PEER_STAT_SEEN (p : Nat) : Fld := ⟨0xD00100 + 0x20 * p, 0, 0⟩
/-- RED_PEER_p_STAT.ROLE, RO. -/
@[reducible] def RED_PEER_STAT_ROLE (p : Nat) : Fld := ⟨0xD00100 + 0x20 * p, 2, 1⟩
/-- RED_PEER_p_STAT.LANES, RO. -/
@[reducible] def RED_PEER_STAT_LANES (p : Nat) : Fld := ⟨0xD00100 + 0x20 * p, 4, 3⟩
/-- RED_PEER_p_STAT.KL0, RO. -/
@[reducible] def RED_PEER_STAT_KL0 (p : Nat) : Fld := ⟨0xD00100 + 0x20 * p, 5, 5⟩
/-- RED_PEER_p_STAT.KL1, RO. -/
@[reducible] def RED_PEER_STAT_KL1 (p : Nat) : Fld := ⟨0xD00100 + 0x20 * p, 6, 6⟩
/-- RED_PEER_p_STAT.CHECK, RO. -/
@[reducible] def RED_PEER_STAT_CHECK (p : Nat) : Fld := ⟨0xD00100 + 0x20 * p, 7, 7⟩
/-- RED_PEER_p_STAT.EPOCH, RO. -/
@[reducible] def RED_PEER_STAT_EPOCH (p : Nat) : Fld := ⟨0xD00100 + 0x20 * p, 31, 16⟩
/-- RED_PEER_p_CMP.SPLIT, RO. -/
@[reducible] def RED_PEER_CMP_SPLIT (p : Nat) : Fld := ⟨0xD00104 + 0x20 * p, 0, 0⟩
/-- RED_PEER_p_CMP.DIS, RO. -/
@[reducible] def RED_PEER_CMP_DIS (p : Nat) : Fld := ⟨0xD00104 + 0x20 * p, 1, 1⟩
/-- RED_PEER_p_CMP.CONSEC, RO. -/
@[reducible] def RED_PEER_CMP_CONSEC (p : Nat) : Fld := ⟨0xD00104 + 0x20 * p, 15, 8⟩
/-- RED_PEER_p_CMP.WORST, RO. -/
@[reducible] def RED_PEER_CMP_WORST (p : Nat) : Fld := ⟨0xD00104 + 0x20 * p, 19, 16⟩
/-- RED_PEER_p_DT.N, RO. -/
@[reducible] def RED_PEER_DT_N (p : Nat) : Fld := ⟨0xD00108 + 0x20 * p, 31, 0⟩
/-- RED_PEER_p_DA.BAM, RO. -/
@[reducible] def RED_PEER_DA_BAM (p : Nat) : Fld := ⟨0xD0010C + 0x20 * p, 31, 0⟩
/-- RED_PEER_p_CFGDIG_LO.DIG, RO. -/
@[reducible] def RED_PEER_CFGDIG_LO_DIG (p : Nat) : Fld := ⟨0xD00110 + 0x20 * p, 31, 0⟩
/-- RED_PEER_p_CFGDIG_HI.DIG, RO. -/
@[reducible] def RED_PEER_CFGDIG_HI_DIG (p : Nat) : Fld := ⟨0xD00114 + 0x20 * p, 31, 0⟩
/-- RED_KL_l_STAT.UP, RO. -/
@[reducible] def RED_KL_STAT_UP (l : Nat) : Fld := ⟨0xD00200 + 0x10 * l, 0, 0⟩
/-- RED_KL_l_STAT.DOWNS, RO. -/
@[reducible] def RED_KL_STAT_DOWNS (l : Nat) : Fld := ⟨0xD00200 + 0x10 * l, 31, 16⟩
/-- RED_KL_l_CNT.FRAMES, RO. -/
@[reducible] def RED_KL_CNT_FRAMES (l : Nat) : Fld := ⟨0xD00204 + 0x10 * l, 31, 0⟩
/-- RED_KL_l_ERR.CHK, RO. -/
@[reducible] def RED_KL_ERR_CHK (l : Nat) : Fld := ⟨0xD00208 + 0x10 * l, 31, 0⟩
/-- REC_CTRL.EN, RWS. -/
@[reducible] def REC_CTRL_EN : Fld := ⟨0xE00000, 0, 0⟩
/-- REC_CTRL.PERM, RWS. -/
@[reducible] def REC_CTRL_PERM : Fld := ⟨0xE00000, 31, 16⟩
/-- REC_CMD.MARK, WO. -/
@[reducible] def REC_CMD_MARK : Fld := ⟨0xE00004, 0, 0⟩
/-- REC_CMD.RECOVER, WO. -/
@[reducible] def REC_CMD_RECOVER : Fld := ⟨0xE00004, 1, 1⟩
/-- REC_CMD.CLEAR, WO. -/
@[reducible] def REC_CMD_CLEAR : Fld := ⟨0xE00004, 2, 2⟩
/-- REC_STATUS.STATE, RO. -/
@[reducible] def REC_STATUS_STATE : Fld := ⟨0xE00008, 1, 0⟩
/-- REC_STATUS.READY, RO. -/
@[reducible] def REC_STATUS_READY : Fld := ⟨0xE00008, 2, 2⟩
/-- REC_STATUS.PERMFULL, RO. -/
@[reducible] def REC_STATUS_PERMFULL : Fld := ⟨0xE00008, 3, 3⟩
/-- REC_STATUS.WRAPPED, RO. -/
@[reducible] def REC_STATUS_WRAPPED : Fld := ⟨0xE00008, 4, 4⟩
/-- REC_STATUS.CAUSE, RO. -/
@[reducible] def REC_STATUS_CAUSE : Fld := ⟨0xE00008, 6, 5⟩
/-- REC_STATUS.BUF, RO. -/
@[reducible] def REC_STATUS_BUF : Fld := ⟨0xE00008, 14, 8⟩
/-- REC_ERR.OVF, W1C. -/
@[reducible] def REC_ERR_OVF : Fld := ⟨0xE0000C, 0, 0⟩
/-- REC_ERR.REFUSED, W1C. -/
@[reducible] def REC_ERR_REFUSED : Fld := ⟨0xE0000C, 1, 1⟩
/-- REC_SEQ.SEQ, RO. -/
@[reducible] def REC_SEQ_SEQ : Fld := ⟨0xE00010, 31, 0⟩
/-- REC_HEAD.SLOT, RO. -/
@[reducible] def REC_HEAD_SLOT : Fld := ⟨0xE00014, 16, 0⟩
/-- REC_PERMEFF.N, RO. -/
@[reducible] def REC_PERMEFF_N : Fld := ⟨0xE00018, 15, 0⟩
/-- REC_PERMUSED.SLOTS, RO. -/
@[reducible] def REC_PERMUSED_SLOTS : Fld := ⟨0xE0001C, 15, 0⟩
/-- REC_BAD.COUNT, RO. -/
@[reducible] def REC_BAD_COUNT : Fld := ⟨0xE00020, 17, 0⟩
/-- REC_BAD.CONSEC, RO. -/
@[reducible] def REC_BAD_CONSEC : Fld := ⟨0xE00020, 27, 24⟩
/-- REC_LOST.COUNT, RC. -/
@[reducible] def REC_LOST_COUNT : Fld := ⟨0xE00024, 31, 0⟩
/-- REC_RATE.LAST, RO. -/
@[reducible] def REC_RATE_LAST : Fld := ⟨0xE00028, 15, 0⟩
/-- REC_RATE.MAX, RC. -/
@[reducible] def REC_RATE_MAX : Fld := ⟨0xE00028, 31, 16⟩
/-- REC_LG.COPIED, RO. -/
@[reducible] def REC_LG_COPIED : Fld := ⟨0xE0002C, 4, 0⟩
/-- REC_LG.NEW, RO. -/
@[reducible] def REC_LG_NEW : Fld := ⟨0xE0002C, 13, 8⟩
/-- REC_LG.LGLOST, RO. -/
@[reducible] def REC_LG_LGLOST : Fld := ⟨0xE0002C, 31, 16⟩
/-- REC_WINIDX.SLOT, RW. -/
@[reducible] def REC_WINIDX_SLOT : Fld := ⟨0xE00030, 16, 0⟩
/-- REC_LGIDX.ENTRY, RW. -/
@[reducible] def REC_LGIDX_ENTRY : Fld := ⟨0xE00034, 4, 0⟩
/-- REC_LGWIN_k.DATA, RO. -/
@[reducible] def REC_LGWIN_DATA (k : Nat) : Fld := ⟨0xE00040 + 0x4 * k, 31, 0⟩
/-- REC_WIN_k.DATA, RO. -/
@[reducible] def REC_WIN_DATA (k : Nat) : Fld := ⟨0xE00100 + 0x4 * k, 31, 0⟩
/-- REC_TRIG_e.EN, RWS. -/
@[reducible] def REC_TRIG_EN (e : Nat) : Fld := ⟨0xE10000 + 0x4 * e, 0, 0⟩
/-- REC_TRIG_e.PROF, RWS. -/
@[reducible] def REC_TRIG_PROF (e : Nat) : Fld := ⟨0xE10000 + 0x4 * e, 7, 4⟩
/-- REC_PROF_p_W_j.OFFSET, RWS. -/
@[reducible] def REC_PROF_W_OFFSET (p j : Nat) : Fld := ⟨0xE20000 + 0xC0 * p + 0x4 * j, 31, 0⟩
/-- HIF_STATUS.READY, RO. -/
@[reducible] def HIF_STATUS_READY : Fld := ⟨0xF00000, 0, 0⟩
/-- HIF_STATUS.LINK0, RO. -/
@[reducible] def HIF_STATUS_LINK0 : Fld := ⟨0xF00000, 1, 1⟩
/-- HIF_STATUS.LINK1, RO. -/
@[reducible] def HIF_STATUS_LINK1 : Fld := ⟨0xF00000, 2, 2⟩
/-- HIF_STATUS.INFLIGHT, RO. -/
@[reducible] def HIF_STATUS_INFLIGHT : Fld := ⟨0xF00000, 15, 8⟩
/-- HIF_ERR.DBELL, W1C. -/
@[reducible] def HIF_ERR_DBELL : Fld := ⟨0xF00004, 0, 0⟩
/-- HIF_ERR.DMA, W1C. -/
@[reducible] def HIF_ERR_DMA : Fld := ⟨0xF00004, 1, 1⟩
/-- HIF_ERR.CFG, W1C. -/
@[reducible] def HIF_ERR_CFG : Fld := ⟨0xF00004, 2, 2⟩
/-- HIF_ERR.SEMOWN, W1C. -/
@[reducible] def HIF_ERR_SEMOWN : Fld := ⟨0xF00004, 3, 3⟩
/-- HIF_LOAD.LAST, RO. -/
@[reducible] def HIF_LOAD_LAST : Fld := ⟨0xF00008, 9, 0⟩
/-- HIF_LOAD.MAX, RC. -/
@[reducible] def HIF_LOAD_MAX : Fld := ⟨0xF00008, 25, 16⟩
/-- HIF_LAT.LAST, RO. -/
@[reducible] def HIF_LAT_LAST : Fld := ⟨0xF0000C, 15, 0⟩
/-- HIF_LAT.MAX, RC. -/
@[reducible] def HIF_LAT_MAX : Fld := ⟨0xF0000C, 31, 16⟩
/-- HIF_SNAP_CTRL.AUTO, RW. -/
@[reducible] def HIF_SNAP_CTRL_AUTO : Fld := ⟨0xF00010, 0, 0⟩
/-- HIF_SNAP_EPOCH_LO.EPOCH, RO. -/
@[reducible] def HIF_SNAP_EPOCH_LO_EPOCH : Fld := ⟨0xF00014, 31, 0⟩
/-- HIF_SNAP_EPOCH_HI.EPOCH, RO. -/
@[reducible] def HIF_SNAP_EPOCH_HI_EPOCH : Fld := ⟨0xF00018, 31, 0⟩
/-- HIF_SNAP_BANK.BANK, RO. -/
@[reducible] def HIF_SNAP_BANK_BANK : Fld := ⟨0xF0001C, 0, 0⟩
/-- HIF_P_p_STATUS.LINK, RO. -/
@[reducible] def HIF_P_STATUS_LINK (p : Nat) : Fld := ⟨0xF01000 + 0x1000 * p, 0, 0⟩
/-- HIF_P_p_STATUS.WIDTH, RO. -/
@[reducible] def HIF_P_STATUS_WIDTH (p : Nat) : Fld := ⟨0xF01000 + 0x1000 * p, 2, 1⟩
/-- HIF_P_p_STATUS.SPEED, RO. -/
@[reducible] def HIF_P_STATUS_SPEED (p : Nat) : Fld := ⟨0xF01000 + 0x1000 * p, 4, 3⟩
/-- HIF_P_p_STATUS.DOWNS, RO. -/
@[reducible] def HIF_P_STATUS_DOWNS (p : Nat) : Fld := ⟨0xF01000 + 0x1000 * p, 31, 16⟩
/-- HIF_P_p_MOD.MOD, RW. -/
@[reducible] def HIF_P_MOD_MOD (p : Nat) : Fld := ⟨0xF01004 + 0x1000 * p, 9, 0⟩
/-- HIF_P_p_RXDROP.S0, RC. -/
@[reducible] def HIF_P_RXDROP_S0 (p : Nat) : Fld := ⟨0xF01008 + 0x1000 * p, 7, 0⟩
/-- HIF_P_p_RXDROP.S1, RC. -/
@[reducible] def HIF_P_RXDROP_S1 (p : Nat) : Fld := ⟨0xF01008 + 0x1000 * p, 15, 8⟩
/-- HIF_P_p_RXDROP.S2, RC. -/
@[reducible] def HIF_P_RXDROP_S2 (p : Nat) : Fld := ⟨0xF01008 + 0x1000 * p, 23, 16⟩
/-- HIF_P_p_RXDROP.S3, RC. -/
@[reducible] def HIF_P_RXDROP_S3 (p : Nat) : Fld := ⟨0xF01008 + 0x1000 * p, 31, 24⟩
/-- HIF_Q_p_q_BASE_LO.ADDR, RW. -/
@[reducible] def HIF_Q_BASE_LO_ADDR (p q : Nat) : Fld := ⟨0xF01100 + 0x1000 * p + 0x10 * q, 31, 0⟩
/-- HIF_Q_p_q_BASE_HI.ADDR, RW. -/
@[reducible] def HIF_Q_BASE_HI_ADDR (p q : Nat) : Fld := ⟨0xF01104 + 0x1000 * p + 0x10 * q, 31, 0⟩
/-- HIF_Q_p_q_CFG.EN, RW. -/
@[reducible] def HIF_Q_CFG_EN (p q : Nat) : Fld := ⟨0xF01108 + 0x1000 * p + 0x10 * q, 0, 0⟩
/-- HIF_Q_p_q_CFG.TYPE, RW. -/
@[reducible] def HIF_Q_CFG_TYPE (p q : Nat) : Fld := ⟨0xF01108 + 0x1000 * p + 0x10 * q, 1, 1⟩
/-- HIF_Q_p_q_CFG.PRIO, RW. -/
@[reducible] def HIF_Q_CFG_PRIO (p q : Nat) : Fld := ⟨0xF01108 + 0x1000 * p + 0x10 * q, 2, 2⟩
/-- HIF_Q_p_q_CFG.IRQEN, RW. -/
@[reducible] def HIF_Q_CFG_IRQEN (p q : Nat) : Fld := ⟨0xF01108 + 0x1000 * p + 0x10 * q, 3, 3⟩
/-- HIF_Q_p_q_CFG.SIZE, RW. -/
@[reducible] def HIF_Q_CFG_SIZE (p q : Nat) : Fld := ⟨0xF01108 + 0x1000 * p + 0x10 * q, 7, 4⟩
/-- HIF_Q_p_q_CFG.VEC, RW. -/
@[reducible] def HIF_Q_CFG_VEC (p q : Nat) : Fld := ⟨0xF01108 + 0x1000 * p + 0x10 * q, 12, 8⟩
/-- HIF_Q_p_q_CFG.STREAM, RW. -/
@[reducible] def HIF_Q_CFG_STREAM (p q : Nat) : Fld := ⟨0xF01108 + 0x1000 * p + 0x10 * q, 17, 16⟩
/-- HIF_Q_p_q_STAT.SQHEAD, RO. -/
@[reducible] def HIF_Q_STAT_SQHEAD (p q : Nat) : Fld := ⟨0xF0110C + 0x1000 * p + 0x10 * q, 11, 0⟩
/-- HIF_Q_p_q_STAT.STATE, RO. -/
@[reducible] def HIF_Q_STAT_STATE (p q : Nat) : Fld := ⟨0xF0110C + 0x1000 * p + 0x10 * q, 13, 12⟩
/-- HIF_Q_p_q_STAT.CQTAIL, RO. -/
@[reducible] def HIF_Q_STAT_CQTAIL (p q : Nat) : Fld := ⟨0xF0110C + 0x1000 * p + 0x10 * q, 27, 16⟩
/-- HIF_Q_p_q_STAT.PHASE, RO. -/
@[reducible] def HIF_Q_STAT_PHASE (p q : Nat) : Fld := ⟨0xF0110C + 0x1000 * p + 0x10 * q, 28, 28⟩
/-- HIF_SEM_n.TAKEN, RW. -/
@[reducible] def HIF_SEM_TAKEN (n : Nat) : Fld := ⟨0xF10000 + 0x4 * n, 0, 0⟩
/-- HIF_SEM_n.OWNER, RO. -/
@[reducible] def HIF_SEM_OWNER (n : Nat) : Fld := ⟨0xF10000 + 0x4 * n, 1, 1⟩
/-- HIF_SEMSTAT_LO.TAKEN, RO. -/
@[reducible] def HIF_SEMSTAT_LO_TAKEN : Fld := ⟨0xF10100, 31, 0⟩
/-- HIF_SEMSTAT_HI.TAKEN, RO. -/
@[reducible] def HIF_SEMSTAT_HI_TAKEN : Fld := ⟨0xF10104, 31, 0⟩
/-- HIF_SEMOWN_LO.OWNER, RO. -/
@[reducible] def HIF_SEMOWN_LO_OWNER : Fld := ⟨0xF10108, 31, 0⟩
/-- HIF_SEMOWN_HI.OWNER, RO. -/
@[reducible] def HIF_SEMOWN_HI_OWNER : Fld := ⟨0xF1010C, 31, 0⟩
/-- HIF_EV_p_PEND_w.PEND, W1C. -/
@[reducible] def HIF_EV_PEND_PEND (p w : Nat) : Fld := ⟨0xF20000 + 0x400 * p + 0x4 * w, 31, 0⟩
/-- HIF_EV_p_EN_w.EN, RW. -/
@[reducible] def HIF_EV_EN_EN (p w : Nat) : Fld := ⟨0xF20020 + 0x400 * p + 0x4 * w, 31, 0⟩
/-- HIF_EV_p_ASSERT.VEC, RO. -/
@[reducible] def HIF_EV_ASSERT_VEC (p : Nat) : Fld := ⟨0xF20040 + 0x400 * p, 31, 0⟩
/-- HIF_EV_p_MAP_k.V0, RW. -/
@[reducible] def HIF_EV_MAP_V0 (p k : Nat) : Fld := ⟨0xF20100 + 0x400 * p + 0x4 * k, 4, 0⟩
/-- HIF_EV_p_MAP_k.V1, RW. -/
@[reducible] def HIF_EV_MAP_V1 (p k : Nat) : Fld := ⟨0xF20100 + 0x400 * p + 0x4 * k, 12, 8⟩
/-- HIF_EV_p_MAP_k.V2, RW. -/
@[reducible] def HIF_EV_MAP_V2 (p k : Nat) : Fld := ⟨0xF20100 + 0x400 * p + 0x4 * k, 20, 16⟩
/-- HIF_EV_p_MAP_k.V3, RW. -/
@[reducible] def HIF_EV_MAP_V3 (p k : Nat) : Fld := ⟨0xF20100 + 0x400 * p + 0x4 * k, 28, 24⟩
/-- SEC_BOOT.LC, RO. -/
@[reducible] def SEC_BOOT_LC : Fld := ⟨0x1000000, 2, 0⟩
/-- SEC_BOOT.LSLOT, RO. -/
@[reducible] def SEC_BOOT_LSLOT : Fld := ⟨0x1000000, 4, 4⟩
/-- SEC_BOOT.ISLOT, RO. -/
@[reducible] def SEC_BOOT_ISLOT : Fld := ⟨0x1000000, 5, 5⟩
/-- SEC_BOOT.LTRIAL, RO. -/
@[reducible] def SEC_BOOT_LTRIAL : Fld := ⟨0x1000000, 6, 6⟩
/-- SEC_BOOT.ITRIAL, RO. -/
@[reducible] def SEC_BOOT_ITRIAL : Fld := ⟨0x1000000, 7, 7⟩
/-- SEC_BOOT.LFALLBACK, RO. -/
@[reducible] def SEC_BOOT_LFALLBACK : Fld := ⟨0x1000000, 8, 8⟩
/-- SEC_BOOT.IFALLBACK, RO. -/
@[reducible] def SEC_BOOT_IFALLBACK : Fld := ⟨0x1000000, 9, 9⟩
/-- SEC_BOOT.LANEA_FAIL, RO. -/
@[reducible] def SEC_BOOT_LANEA_FAIL : Fld := ⟨0x1000000, 10, 10⟩
/-- SEC_BOOT.LANEB_FAIL, RO. -/
@[reducible] def SEC_BOOT_LANEB_FAIL : Fld := ⟨0x1000000, 11, 11⟩
/-- SEC_BOOTCNT.COUNT, RO. -/
@[reducible] def SEC_BOOTCNT_COUNT : Fld := ⟨0x1000004, 31, 0⟩
/-- SEC_SVN.LCUR, RO. -/
@[reducible] def SEC_SVN_LCUR : Fld := ⟨0x1000008, 7, 0⟩
/-- SEC_SVN.LMIN, RO. -/
@[reducible] def SEC_SVN_LMIN : Fld := ⟨0x1000008, 15, 8⟩
/-- SEC_SVN.ICUR, RO. -/
@[reducible] def SEC_SVN_ICUR : Fld := ⟨0x1000008, 23, 16⟩
/-- SEC_SVN.IMIN, RO. -/
@[reducible] def SEC_SVN_IMIN : Fld := ⟨0x1000008, 31, 24⟩
/-- SEC_LC.PENDING, RO. -/
@[reducible] def SEC_LC_PENDING : Fld := ⟨0x100000C, 2, 0⟩
/-- SEC_LC.STEPS, RO. -/
@[reducible] def SEC_LC_STEPS : Fld := ⟨0x100000C, 13, 8⟩
/-- SEC_LC_CMD.TARGET, WO. -/
@[reducible] def SEC_LC_CMD_TARGET : Fld := ⟨0x1000010, 2, 0⟩
/-- SEC_LC_CMD.GO, WO. -/
@[reducible] def SEC_LC_CMD_GO : Fld := ⟨0x1000010, 8, 8⟩
/-- SEC_LC_ERR.REFUSED, W1C. -/
@[reducible] def SEC_LC_ERR_REFUSED : Fld := ⟨0x1000014, 0, 0⟩
/-- SEC_LC_ERR.REASON, RO. -/
@[reducible] def SEC_LC_ERR_REASON : Fld := ⟨0x1000014, 3, 1⟩
/-- SEC_TAMPER.MESH, W1C. -/
@[reducible] def SEC_TAMPER_MESH : Fld := ⟨0x1000018, 0, 0⟩
/-- SEC_TAMPER.VOLT, W1C. -/
@[reducible] def SEC_TAMPER_VOLT : Fld := ⟨0x1000018, 1, 1⟩
/-- SEC_TAMPER.TEMP, W1C. -/
@[reducible] def SEC_TAMPER_TEMP : Fld := ⟨0x1000018, 2, 2⟩
/-- SEC_TAMPER.CLOCK, W1C. -/
@[reducible] def SEC_TAMPER_CLOCK : Fld := ⟨0x1000018, 3, 3⟩
/-- SEC_TAMPER.SSLOST, W1C. -/
@[reducible] def SEC_TAMPER_SSLOST : Fld := ⟨0x1000018, 4, 4⟩
/-- SEC_TAMPER.WIPES, RO. -/
@[reducible] def SEC_TAMPER_WIPES : Fld := ⟨0x1000018, 31, 16⟩
/-- SEC_ERR.MR, W1C. -/
@[reducible] def SEC_ERR_MR : Fld := ⟨0x100001C, 0, 0⟩
/-- SEC_ERR.ATTBUSY, W1C. -/
@[reducible] def SEC_ERR_ATTBUSY : Fld := ⟨0x100001C, 1, 1⟩
/-- SEC_ERR.OWNER, W1C. -/
@[reducible] def SEC_ERR_OWNER : Fld := ⟨0x100001C, 2, 2⟩
/-- SEC_ERR.FWSTATE, W1C. -/
@[reducible] def SEC_ERR_FWSTATE : Fld := ⟨0x100001C, 3, 3⟩
/-- SEC_ERR.SS, W1C. -/
@[reducible] def SEC_ERR_SS : Fld := ⟨0x100001C, 4, 4⟩
/-- SEC_FW_CTRL.TYPE, RW. -/
@[reducible] def SEC_FW_CTRL_TYPE : Fld := ⟨0x1000020, 0, 0⟩
/-- SEC_FW_CTRL.PAGE, RW. -/
@[reducible] def SEC_FW_CTRL_PAGE : Fld := ⟨0x1000020, 21, 16⟩
/-- SEC_FW_CMD.CHECK, WO. -/
@[reducible] def SEC_FW_CMD_CHECK : Fld := ⟨0x1000024, 0, 0⟩
/-- SEC_FW_CMD.ACTIVATE, WO. -/
@[reducible] def SEC_FW_CMD_ACTIVATE : Fld := ⟨0x1000024, 1, 1⟩
/-- SEC_FW_CMD.CONFIRM, WO. -/
@[reducible] def SEC_FW_CMD_CONFIRM : Fld := ⟨0x1000024, 2, 2⟩
/-- SEC_FW_CMD.ABORT, WO. -/
@[reducible] def SEC_FW_CMD_ABORT : Fld := ⟨0x1000024, 3, 3⟩
/-- SEC_FW_STAT.STATE, RO. -/
@[reducible] def SEC_FW_STAT_STATE : Fld := ⟨0x1000028, 2, 0⟩
/-- SEC_FW_STAT.OWNER, RO. -/
@[reducible] def SEC_FW_STAT_OWNER : Fld := ⟨0x1000028, 3, 3⟩
/-- SEC_FW_STAT.RESULT, RO. -/
@[reducible] def SEC_FW_STAT_RESULT : Fld := ⟨0x1000028, 7, 4⟩
/-- SEC_SRAM_RET.BANK, RW. -/
@[reducible] def SEC_SRAM_RET_BANK : Fld := ⟨0x100002C, 15, 0⟩
/-- SEC_SS_IDX.ENTRY, RW. -/
@[reducible] def SEC_SS_IDX_ENTRY : Fld := ⟨0x1000030, 9, 0⟩
/-- SEC_SS_ATTR.HOSTREAD, RW. -/
@[reducible] def SEC_SS_ATTR_HOSTREAD : Fld := ⟨0x1000034, 0, 0⟩
/-- SEC_SS_ATTR.VALID, RO. -/
@[reducible] def SEC_SS_ATTR_VALID : Fld := ⟨0x1000034, 1, 1⟩
/-- SEC_SS_CMD.WRITE, WO. -/
@[reducible] def SEC_SS_CMD_WRITE : Fld := ⟨0x1000038, 0, 0⟩
/-- SEC_SS_CMD.ERASE, WO. -/
@[reducible] def SEC_SS_CMD_ERASE : Fld := ⟨0x1000038, 1, 1⟩
/-- SEC_ATT_CMD.GO, WO. -/
@[reducible] def SEC_ATT_CMD_GO : Fld := ⟨0x100003C, 0, 0⟩
/-- SEC_ATT_STAT.BUSY, RO. -/
@[reducible] def SEC_ATT_STAT_BUSY : Fld := ⟨0x1000040, 0, 0⟩
/-- SEC_ATT_STAT.DONE, RO. -/
@[reducible] def SEC_ATT_STAT_DONE : Fld := ⟨0x1000040, 1, 1⟩
/-- SEC_ATT_STAT.ERR, RO. -/
@[reducible] def SEC_ATT_STAT_ERR : Fld := ⟨0x1000040, 2, 2⟩
/-- SEC_ATT_STAT.CERTLEN, RO. -/
@[reducible] def SEC_ATT_STAT_CERTLEN : Fld := ⟨0x1000040, 27, 16⟩
/-- SEC_MR_EXT.MR, WO. -/
@[reducible] def SEC_MR_EXT_MR : Fld := ⟨0x1000044, 2, 0⟩
/-- SEC_MR_EXT.GO, WO. -/
@[reducible] def SEC_MR_EXT_GO : Fld := ⟨0x1000044, 8, 8⟩
/-- SEC_PCIID.VENDOR, RO. -/
@[reducible] def SEC_PCIID_VENDOR : Fld := ⟨0x1000048, 15, 0⟩
/-- SEC_PCIID.DEVICE, RO. -/
@[reducible] def SEC_PCIID_DEVICE : Fld := ⟨0x1000048, 31, 16⟩
/-- SEC_SERIAL_k.SERIAL, RO. -/
@[reducible] def SEC_SERIAL_SERIAL (k : Nat) : Fld := ⟨0x1000050 + 0x4 * k, 31, 0⟩
/-- SEC_ATT_NONCE_k.NONCE, RW. -/
@[reducible] def SEC_ATT_NONCE_NONCE (k : Nat) : Fld := ⟨0x1000060 + 0x4 * k, 31, 0⟩
/-- SEC_MR_EXT_DATA_k.DATA, RW. -/
@[reducible] def SEC_MR_EXT_DATA_DATA (k : Nat) : Fld := ⟨0x1000080 + 0x4 * k, 31, 0⟩
/-- SEC_MR_r_k.HASH, RO. -/
@[reducible] def SEC_MR_HASH (r k : Nat) : Fld := ⟨0x1000A00 + 0x30 * r + 0x4 * k, 31, 0⟩
/-- SEC_ATT_REP_k.DATA, RO. -/
@[reducible] def SEC_ATT_REP_DATA (k : Nat) : Fld := ⟨0x1000400 + 0x4 * k, 31, 0⟩
/-- SEC_ATT_PUB_k.KEY, RO. -/
@[reducible] def SEC_ATT_PUB_KEY (k : Nat) : Fld := ⟨0x1000800 + 0x4 * k, 31, 0⟩
/-- SEC_LC_CHAL_k.DATA, RO. -/
@[reducible] def SEC_LC_CHAL_DATA (k : Nat) : Fld := ⟨0x1000880 + 0x4 * k, 31, 0⟩
/-- SEC_LC_TOKEN_k.DATA, WO. -/
@[reducible] def SEC_LC_TOKEN_DATA (k : Nat) : Fld := ⟨0x10008C0 + 0x4 * k, 31, 0⟩
/-- SEC_SS_WIN_k.DATA, RW. -/
@[reducible] def SEC_SS_WIN_DATA (k : Nat) : Fld := ⟨0x1001000 + 0x4 * k, 31, 0⟩
/-- SEC_ATT_CERT_k.DER, RO. -/
@[reducible] def SEC_ATT_CERT_DER (k : Nat) : Fld := ⟨0x1002000 + 0x4 * k, 31, 0⟩
/-- SEC_FW_WIN.DATA, WO. -/
@[reducible] def SEC_FW_WIN_DATA (w : Nat) : Fld := ⟨0x1010000 + 0x4 * w, 31, 0⟩
/-- RTC_FRAC.FRAC, RWH. -/
@[reducible] def RTC_FRAC_FRAC : Fld := ⟨0x1100000, 15, 0⟩
/-- RTC_SEC_LO.SEC, RWH. -/
@[reducible] def RTC_SEC_LO_SEC : Fld := ⟨0x1100004, 31, 0⟩
/-- RTC_SEC_HI.SEC, RWH. -/
@[reducible] def RTC_SEC_HI_SEC : Fld := ⟨0x1100008, 15, 0⟩
/-- RTC_CTRL.HALT, RW. -/
@[reducible] def RTC_CTRL_HALT : Fld := ⟨0x110000C, 0, 0⟩
/-- RTC_CTRL.LOADPPS, RW. -/
@[reducible] def RTC_CTRL_LOADPPS : Fld := ⟨0x110000C, 1, 1⟩
/-- RTC_CTRL.AUTOSYNC, RW. -/
@[reducible] def RTC_CTRL_AUTOSYNC : Fld := ⟨0x110000C, 2, 2⟩
/-- RTC_CTRL.AUTOTRIM, RW. -/
@[reducible] def RTC_CTRL_AUTOTRIM : Fld := ⟨0x110000C, 3, 3⟩
/-- RTC_CTRL.SYNCTHR, RW. -/
@[reducible] def RTC_CTRL_SYNCTHR : Fld := ⟨0x110000C, 15, 8⟩
/-- RTC_STATUS.VALID, RO. -/
@[reducible] def RTC_STATUS_VALID : Fld := ⟨0x1100010, 0, 0⟩
/-- RTC_STATUS.READY, RO. -/
@[reducible] def RTC_STATUS_READY : Fld := ⟨0x1100010, 1, 1⟩
/-- RTC_STATUS.LOCKWR, W1C. -/
@[reducible] def RTC_STATUS_LOCKWR : Fld := ⟨0x1100010, 2, 2⟩
/-- RTC_STATUS.OSCSTOP, W1C. -/
@[reducible] def RTC_STATUS_OSCSTOP : Fld := ⟨0x1100010, 3, 3⟩
/-- RTC_STATUS.VBATLOW, RO. -/
@[reducible] def RTC_STATUS_VBATLOW : Fld := ⟨0x1100010, 4, 4⟩
/-- RTC_STATUS.VBATLOST, W1C. -/
@[reducible] def RTC_STATUS_VBATLOST : Fld := ⟨0x1100010, 5, 5⟩
/-- RTC_STATUS.TRIMVALID, RO. -/
@[reducible] def RTC_STATUS_TRIMVALID : Fld := ⟨0x1100010, 6, 6⟩
/-- RTC_STATUS.TRIMSAT, W1C. -/
@[reducible] def RTC_STATUS_TRIMSAT : Fld := ⟨0x1100010, 7, 7⟩
/-- RTC_LOAD_LO.SEC, RW. -/
@[reducible] def RTC_LOAD_LO_SEC : Fld := ⟨0x1100014, 31, 0⟩
/-- RTC_LOAD_HI.SEC, RW. -/
@[reducible] def RTC_LOAD_HI_SEC : Fld := ⟨0x1100018, 15, 0⟩
/-- RTC_TRIM.VALUE, RW. -/
@[reducible] def RTC_TRIM_VALUE : Fld := ⟨0x110001C, 15, 0⟩
/-- RTC_TRIMMEAS.PROGRESS, RO. -/
@[reducible] def RTC_TRIMMEAS_PROGRESS : Fld := ⟨0x1100020, 9, 0⟩
/-- RTC_TRIMMEAS.LAST, RO. -/
@[reducible] def RTC_TRIMMEAS_LAST : Fld := ⟨0x1100020, 31, 16⟩
/-- RTC_TAIUTC.OFS, RW. -/
@[reducible] def RTC_TAIUTC_OFS : Fld := ⟨0x1100024, 7, 0⟩
/-- RTC_LEAP.NEXT, RW. -/
@[reducible] def RTC_LEAP_NEXT : Fld := ⟨0x1100028, 7, 0⟩
/-- RTC_LEAP.EN, RW. -/
@[reducible] def RTC_LEAP_EN : Fld := ⟨0x1100028, 8, 8⟩
/-- RTC_LEAP.ERR, W1C. -/
@[reducible] def RTC_LEAP_ERR : Fld := ⟨0x1100028, 9, 9⟩
/-- RTC_LEAP_AT_LO.SEC, RW. -/
@[reducible] def RTC_LEAP_AT_LO_SEC : Fld := ⟨0x110002C, 31, 0⟩
/-- RTC_LEAP_AT_HI.SEC, RW. -/
@[reducible] def RTC_LEAP_AT_HI_SEC : Fld := ⟨0x1100030, 15, 0⟩
/-- RTC_CAL_SEC_LO.SEC, RW. -/
@[reducible] def RTC_CAL_SEC_LO_SEC : Fld := ⟨0x1100034, 31, 0⟩
/-- RTC_CAL_SEC_HI.SEC, RW. -/
@[reducible] def RTC_CAL_SEC_HI_SEC : Fld := ⟨0x1100038, 15, 0⟩
/-- RTC_CAL_DATE.DAY, RW. -/
@[reducible] def RTC_CAL_DATE_DAY : Fld := ⟨0x110003C, 7, 0⟩
/-- RTC_CAL_DATE.MONTH, RW. -/
@[reducible] def RTC_CAL_DATE_MONTH : Fld := ⟨0x110003C, 15, 8⟩
/-- RTC_CAL_DATE.YEAR, RW. -/
@[reducible] def RTC_CAL_DATE_YEAR : Fld := ⟨0x110003C, 31, 16⟩
/-- RTC_CAL_TIME.SECOND, RW. -/
@[reducible] def RTC_CAL_TIME_SECOND : Fld := ⟨0x1100040, 7, 0⟩
/-- RTC_CAL_TIME.MINUTE, RW. -/
@[reducible] def RTC_CAL_TIME_MINUTE : Fld := ⟨0x1100040, 15, 8⟩
/-- RTC_CAL_TIME.HOUR, RW. -/
@[reducible] def RTC_CAL_TIME_HOUR : Fld := ⟨0x1100040, 23, 16⟩
/-- RTC_CAL_TIME.DOW, RO. -/
@[reducible] def RTC_CAL_TIME_DOW : Fld := ⟨0x1100040, 26, 24⟩
/-- RTC_CAL_CMD.TOCAL, WO. -/
@[reducible] def RTC_CAL_CMD_TOCAL : Fld := ⟨0x1100044, 0, 0⟩
/-- RTC_CAL_CMD.FROMCAL, WO. -/
@[reducible] def RTC_CAL_CMD_FROMCAL : Fld := ⟨0x1100044, 1, 1⟩
/-- RTC_CAL_CMD.LIVE, WO. -/
@[reducible] def RTC_CAL_CMD_LIVE : Fld := ⟨0x1100044, 2, 2⟩
/-- RTC_CAL_STAT.BUSY, RO. -/
@[reducible] def RTC_CAL_STAT_BUSY : Fld := ⟨0x1100048, 0, 0⟩
/-- RTC_CAL_STAT.CAL_ERR, W1C. -/
@[reducible] def RTC_CAL_STAT_CAL_ERR : Fld := ⟨0x1100048, 1, 1⟩
/-- RTC_ALARM_LO.SEC, RW. -/
@[reducible] def RTC_ALARM_LO_SEC : Fld := ⟨0x110004C, 31, 0⟩
/-- RTC_ALARM_HI.SEC, RW. -/
@[reducible] def RTC_ALARM_HI_SEC : Fld := ⟨0x1100050, 15, 0⟩
/-- RTC_ALARM_PER.PER, RW. -/
@[reducible] def RTC_ALARM_PER_PER : Fld := ⟨0x1100054, 23, 0⟩
/-- RTC_PWR.ALARM_EN, RW. -/
@[reducible] def RTC_PWR_ALARM_EN : Fld := ⟨0x1100058, 0, 0⟩
/-- RTC_PWR.WAKE_EN, RW. -/
@[reducible] def RTC_PWR_WAKE_EN : Fld := ⟨0x1100058, 1, 1⟩
/-- RTC_PWR.WAKEPOL, RW. -/
@[reducible] def RTC_PWR_WAKEPOL : Fld := ⟨0x1100058, 2, 2⟩
/-- RTC_PWR.FORCE, RW. -/
@[reducible] def RTC_PWR_FORCE : Fld := ⟨0x1100058, 3, 3⟩
/-- RTC_PWR.ALMF, W1C. -/
@[reducible] def RTC_PWR_ALMF : Fld := ⟨0x1100058, 4, 4⟩
/-- RTC_PWR.WAKEF, W1C. -/
@[reducible] def RTC_PWR_WAKEF : Fld := ⟨0x1100058, 5, 5⟩
/-- RTC_PWR.PWR_EN, RO. -/
@[reducible] def RTC_PWR_PWR_EN : Fld := ⟨0x1100058, 6, 6⟩
/-- RTC_PWR.WAKE, RO. -/
@[reducible] def RTC_PWR_WAKE : Fld := ⟨0x1100058, 7, 7⟩
/-- RTC_LGSTAT.WR, RO. -/
@[reducible] def RTC_LGSTAT_WR : Fld := ⟨0x110005C, 4, 0⟩
/-- RTC_LGSTAT.USED, RO. -/
@[reducible] def RTC_LGSTAT_USED : Fld := ⟨0x110005C, 13, 8⟩
/-- RTC_LGSTAT.BADCHK, RO. -/
@[reducible] def RTC_LGSTAT_BADCHK : Fld := ⟨0x110005C, 21, 16⟩
/-- PWR_STATUS.STATE, RO. -/
@[reducible] def PWR_STATUS_STATE : Fld := ⟨0x1200000, 2, 0⟩
/-- PWR_STATUS.PENDING, RO. -/
@[reducible] def PWR_STATUS_PENDING : Fld := ⟨0x1200000, 3, 3⟩
/-- PWR_STATUS.CANCELLED, W1C. -/
@[reducible] def PWR_STATUS_CANCELLED : Fld := ⟨0x1200000, 4, 4⟩
/-- PWR_STATUS.LASTEXIT, RO. -/
@[reducible] def PWR_STATUS_LASTEXIT : Fld := ⟨0x1200000, 31, 16⟩
/-- PWR_CMD.STATE, WO. -/
@[reducible] def PWR_CMD_STATE : Fld := ⟨0x1200004, 2, 0⟩
/-- PWR_CMD.GO, WO. -/
@[reducible] def PWR_CMD_GO : Fld := ⟨0x1200004, 8, 8⟩
/-- PWR_ERR.REFUSED, W1C. -/
@[reducible] def PWR_ERR_REFUSED : Fld := ⟨0x1200008, 0, 0⟩
/-- PWR_ERR.REASON, RO. -/
@[reducible] def PWR_ERR_REASON : Fld := ⟨0x1200008, 10, 8⟩
/-- PWR_WAKEEN.PERST0, RW. -/
@[reducible] def PWR_WAKEEN_PERST0 : Fld := ⟨0x120000C, 0, 0⟩
/-- PWR_WAKEEN.PERST1, RW. -/
@[reducible] def PWR_WAKEEN_PERST1 : Fld := ⟨0x120000C, 1, 1⟩
/-- PWR_WAKEEN.WAKE, RW. -/
@[reducible] def PWR_WAKEEN_WAKE : Fld := ⟨0x120000C, 2, 2⟩
/-- PWR_WAKEEN.ALARM, RW. -/
@[reducible] def PWR_WAKEEN_ALARM : Fld := ⟨0x120000C, 3, 3⟩
/-- PWR_WAKEEN.SI, RW. -/
@[reducible] def PWR_WAKEEN_SI : Fld := ⟨0x120000C, 4, 4⟩
/-- PWR_WAKEEN.CAN, RW. -/
@[reducible] def PWR_WAKEEN_CAN : Fld := ⟨0x120000C, 15, 8⟩
/-- PWR_WAKESRC.PERST0, W1C. -/
@[reducible] def PWR_WAKESRC_PERST0 : Fld := ⟨0x1200010, 0, 0⟩
/-- PWR_WAKESRC.PERST1, W1C. -/
@[reducible] def PWR_WAKESRC_PERST1 : Fld := ⟨0x1200010, 1, 1⟩
/-- PWR_WAKESRC.WAKE, W1C. -/
@[reducible] def PWR_WAKESRC_WAKE : Fld := ⟨0x1200010, 2, 2⟩
/-- PWR_WAKESRC.ALARM, W1C. -/
@[reducible] def PWR_WAKESRC_ALARM : Fld := ⟨0x1200010, 3, 3⟩
/-- PWR_WAKESRC.SI, W1C. -/
@[reducible] def PWR_WAKESRC_SI : Fld := ⟨0x1200010, 4, 4⟩
/-- PWR_WAKESRC.CAN, W1C. -/
@[reducible] def PWR_WAKESRC_CAN : Fld := ⟨0x1200010, 15, 8⟩
/-- PWR_WAKESRC.HOST, W1C. -/
@[reducible] def PWR_WAKESRC_HOST : Fld := ⟨0x1200010, 16, 16⟩
/-- PWR_RSTCAUSE.POR, W1C. -/
@[reducible] def PWR_RSTCAUSE_POR : Fld := ⟨0x1200014, 0, 0⟩
/-- PWR_RSTCAUSE.BOR, W1C. -/
@[reducible] def PWR_RSTCAUSE_BOR : Fld := ⟨0x1200014, 1, 1⟩
/-- PWR_RSTCAUSE.PIN, W1C. -/
@[reducible] def PWR_RSTCAUSE_PIN : Fld := ⟨0x1200014, 2, 2⟩
/-- PWR_RSTCAUSE.HOST, W1C. -/
@[reducible] def PWR_RSTCAUSE_HOST : Fld := ⟨0x1200014, 3, 3⟩
/-- PWR_RSTCAUSE.WAKE, W1C. -/
@[reducible] def PWR_RSTCAUSE_WAKE : Fld := ⟨0x1200014, 4, 4⟩
/-- PWR_RSTCAUSE.ISL, W1C. -/
@[reducible] def PWR_RSTCAUSE_ISL : Fld := ⟨0x1200014, 5, 5⟩
/-- PWR_RST.MODULE, WO. -/
@[reducible] def PWR_RST_MODULE : Fld := ⟨0x1200018, 0, 0⟩
/-- PWR_RST.ISLAND, WO. -/
@[reducible] def PWR_RST_ISLAND : Fld := ⟨0x1200018, 1, 1⟩
/-- PWR_RST.KEY, WO. -/
@[reducible] def PWR_RST_KEY : Fld := ⟨0x1200018, 31, 16⟩
/-- PWR_READY.READY, RO. -/
@[reducible] def PWR_READY_READY : Fld := ⟨0x120001C, 10, 0⟩
/-- PWR_RAIL.OK, RO. -/
@[reducible] def PWR_RAIL_OK : Fld := ⟨0x1200020, 7, 0⟩
/-- PWR_RAIL.LOWSEEN, W1C. -/
@[reducible] def PWR_RAIL_LOWSEEN : Fld := ⟨0x1200020, 15, 8⟩
/-- ALN_ST_n_LAST_w.WORD, RO. -/
@[reducible] def ALN_ST_LAST_WORD (n w : Nat) : Fld := ⟨0x520000 + 0x20 * n + 0x4 * w, 31, 0⟩
/-- EST_VREC_w.WORD, RO. -/
@[reducible] def EST_VREC_WORD (w : Nat) : Fld := ⟨0x610000 + 0x4 * w, 31, 0⟩
/-- EST_PRREC_k_w.WORD, RO. -/
@[reducible] def EST_PRREC_WORD (k w : Nat) : Fld := ⟨0x610100 + 0x30 * k + 0x4 * w, 31, 0⟩
/-- EST_HRREC_h_w.WORD, RO. -/
@[reducible] def EST_HRREC_WORD (h w : Nat) : Fld := ⟨0x610400 + 0x30 * h + 0x4 * w, 31, 0⟩
/-- EST_TGREC_t_w.WORD, RO. -/
@[reducible] def EST_TGREC_WORD (t w : Nat) : Fld := ⟨0x610500 + 0x30 * t + 0x4 * w, 31, 0⟩
/-- EST_COV_w.WORD, RO. -/
@[reducible] def EST_COV_WORD (w : Nat) : Fld := ⟨0x620000 + 0x4 * w, 31, 0⟩
/-- ALC_T_i_RES_w.WORD, RO. -/
@[reducible] def ALC_T_RES_WORD (i w : Nat) : Fld := ⟨0x820000 + 0x20 * i + 0x4 * w, 31, 0⟩
/-- PRF_MS_a_TBL_w.WORD, RW. -/
@[reducible] def PRF_MS_TBL_WORD (a w : Nat) : Fld := ⟨0x920000 + 0x200 * a + 0x4 * w, 31, 0⟩
/-- CAN_TLGREC_s_w.WORD, RO. -/
@[reducible] def CAN_TLGREC_WORD (s w : Nat) : Fld := ⟨0xA20000 + 0x80 * s + 0x4 * w, 31, 0⟩
/-- CAN_n_MRAM_w.WORD, RW. -/
@[reducible] def CAN_MRAM_WORD (n w : Nat) : Fld := ⟨0xA40000 + 0x4000 * n + 0x4 * w, 31, 0⟩
/-- REC_BADMAP_w.WORD, RO. -/
@[reducible] def REC_BADMAP_WORD (w : Nat) : Fld := ⟨0xE30000 + 0x4 * w, 31, 0⟩
/-- HIF_SNAP_b_w.WORD, RO. -/
@[reducible] def HIF_SNAP_WORD (b w : Nat) : Fld := ⟨0xF40000 + 0x1000 * b + 0x4 * w, 31, 0⟩

end Sys2Proof.Machine.F
end

