-- ==== Sys2Proof/Machine/State.lean ====
section
/-! DEFINITION. The machine's state as plain data: the register file of all software-visible fields, one structure per
function for the state the spec gives it beside its registers, and the queue of waiting commands. -/

namespace Sys2Proof.Machine

/-- Why the block stops: never in this model. Kept as the closed list the interface asks for. [DEDUCED: log 17] -/
inductive Fault where
  /-- Raised by no command: every happening of the spec has an effect (safe). -/
  | none
  deriving DecidableEq, Repr

/-- Why a command is refused. -/
inductive Refusal where
  /-- A command of the table without a meaning, raised by `exec` alone (safe). -/
  | notModelled (mnemonic : String)
  deriving DecidableEq, Repr

/-! ### Chapters 00 and 01: access, frames -/

/-- A host write that waits in the pending copy of a per-lane block (R62). -/
structure PendWrite where
  /-- BAR0 offset. -/
  off : Nat
  /-- The word written. -/
  val : Nat
  /-- The host port that wrote it. -/
  port : Nat
  deriving DecidableEq, Repr

/-- What the frame sequencer holds beside the FRM registers. -/
structure FrmState where
  /-- Pending copy of per-lane registers, oldest first (R62, R63). -/
  pend : List PendWrite
  /-- HOLD has changed to 0 and the next major tick applies every pending value (R64). -/
  releaseAll : Bool
  /-- GLB_LEVEL bits in effect since the last major tick (R31). -/
  level : Nat
  /-- Bit s: stage s has run or overrun in its current window (R43). -/
  done : Nat
  /-- SUP completed in this minor frame (R640). -/
  supOk : Bool
  /-- Bit s: the output of stage s is held and marked stale (R55). -/
  stale : Nat
  /-- Bit s: stage s consumed a held output, STALE_IN (R55). -/
  staleIn : Nat
  /-- Bits 5 and 6: the EST and ALC results in effect are held ones (R49, R55, R470). -/
  staleMaj : Nat
  /-- Bit s: stage s is forced to overrun and runs until the end of its window (R54, R73). -/
  running : Nat
  /-- Forced overruns still to come (R73). -/
  injectLeft : Nat
  /-- Largest stage utilisation in the running major frame (R52). -/
  utilMax : Nat
  /-- Events raised since the last major tick that their rule limits to one per major frame. -/
  onceMajor : List Nat
  /-- Events raised since the last minor tick that their rule limits to one per tick (R61). -/
  onceMinor : List Nat
  /-- The sequencer's next major tick starts the frames (R65): a start was seen at a major tick. -/
  firstMajor : Bool
  deriving DecidableEq, Repr

/-! ### Chapter 02: time base and network ports -/

/-- The time counter (R75); LinNs is SEC × 10^9 + NS modulo 2^64 (R79) and is computed. -/
structure Counter where
  /-- Seconds since 1970-01-01 TAI, 48 bits. -/
  sec : Nat
  /-- Nanoseconds, below 10^9. -/
  ns : Nat
  /-- Fraction of a nanosecond in 2^-32 ns. -/
  sub : Nat
  deriving DecidableEq, Repr

/-- A step waiting for its slow tick (R95, R100). -/
structure PendStep where
  /-- The step in nanoseconds. -/
  delta : Int
  /-- Total nanoseconds of the counter at the measurement or request. -/
  req : Nat
  deriving DecidableEq, Repr

/-- One sample of the LOCKED period (R97): counter total in ns, FINE, offset. -/
structure LockSample where
  /-- Counter in ns. -/
  t : Nat
  /-- FINE in use. -/
  fine : Int
  /-- Measured offset, ns. -/
  ofs : Int
  deriving DecidableEq, Repr

/-- One capture in the host FIFO (R90). -/
structure Capture where
  /-- LinNs of the edge. -/
  lin : Nat
  /-- Input number. -/
  input : Nat
  /-- Rising edge. -/
  rising : Bool
  deriving DecidableEq, Repr

/-- What the time base holds beside the TIM registers. -/
structure TimState where
  /-- The counter. -/
  ctr : Counter
  /-- FINE waiting for the next minor tick (R94). -/
  finePend : Option Int
  /-- The servo's frequency estimate, FINE units (R94). -/
  freq : Int
  /-- The servo's phase correction, FINE units (R94). -/
  phase : Int
  /-- Consecutive epochs with a valid time solution (R93). -/
  gnssCount : Nat
  /-- Consecutive Sync messages (R93). -/
  ptpCount : Nat
  /-- The PTP source has qualified and is not lost (R93). -/
  ptpQual : Bool
  /-- Counter ns of the last Sync on the SLAVE port (R93). -/
  ptpAt : Nat
  /-- log2 of the Sync interval its master announces, s (R93). -/
  ptpLog : Int
  /-- Consecutive measurements within 100 ns (R96). -/
  inLim : Nat
  /-- Consecutive measurements beyond 1 µs (R96). -/
  outLim : Nat
  /-- Counter ns at entry to LOCKED (R97). -/
  lockAt : Nat
  /-- Measurements of the LOCKED period, newest first, at most 64 s (R97). -/
  hist : List LockSample
  /-- The FINE values that came in force, with the counter in ns, newest first, back over 64 s (R97). -/
  fines : List (Nat × Int)
  /-- Counter in ns at entry to HOLDOVER (R98). -/
  holdStart : Nat
  /-- Starting uncertainty U0, ns (R97). -/
  holdU0 : Nat
  /-- Pending step (R95). -/
  step : Option PendStep
  /-- End of the pulse in progress, counter ns, per compare unit (R82). -/
  pulseEnd : List (Option Nat)
  /-- Host capture FIFO, oldest first (R90). -/
  capFifo : List Capture
  /-- Last qualifying edge of each capture input: rising, and the counter in 2^-32 ns (R88). -/
  capIn : List (Option (Bool × Nat))
  deriving DecidableEq, Repr

/-- A request that waits for its answer (R106, R108). -/
structure PtpReq where
  /-- clockIdentity of the requester. -/
  id : Nat
  /-- portNumber of the requester. -/
  port : Nat
  /-- sequenceId of the request. -/
  seq : Nat
  /-- Ingress time of the request, 2^-16 ns of the counter (R107). -/
  t : Int
  /-- correctionField of the request, 2^-16 ns. -/
  corr : Int
  deriving DecidableEq, Repr

/-- A PTP message the module sends (R107 to R109). What a kind does not carry is 0. -/
structure PtpMsg where
  /-- messageType of IEEE 1588. -/
  kind : Nat
  /-- domainNumber (R106). -/
  domain : Nat
  /-- sequenceId. -/
  seq : Nat
  /-- logMessageInterval. -/
  logInt : Int
  /-- Seconds of the timestamp. -/
  sec : Nat
  /-- Nanoseconds of the timestamp. -/
  ns : Nat
  /-- correctionField, 2^-16 ns. -/
  corr : Int
  /-- The requester of a response: clockIdentity and portNumber. -/
  req : Option (Nat × Nat)
  /-- ptpTimescale (R109). -/
  ptpTimescale : Bool
  /-- The dataset announced (R109). -/
  ds : Option PtpSet
  /-- currentUtcOffset announced. -/
  utcOfs : Nat
  /-- timeSource announced. -/
  timeSource : Nat
  deriving DecidableEq, Repr

/-- A frame as it left a port. -/
structure EthFrame where
  /-- Bytes without preamble, with tag and FCS. -/
  bytes : List Byte
  /-- The PTP message it carries, time-stamped as it departs (R108). -/
  ptp : Option PtpMsg
  deriving DecidableEq, Repr

/-- One Ethernet port beside its registers. -/
structure EthPort where
  /-- Counter ns at which the link last came up (R103). -/
  upSince : Nat
  /-- Untagged frames of the four classes, oldest first (R104). -/
  queues : List (List (List Byte))
  /-- PTP messages of class 1, oldest first; each takes its time as it departs (R104, R108). -/
  ptpQ : List (PtpKind × Option PtpReq)
  /-- Last frame sent, with its tag (R102). -/
  sent : Option EthFrame
  /-- Best foreign master heard (R110). -/
  best : Option PtpSet
  /-- Counter ns of its last Announce (R106). -/
  annAt : Nat
  /-- Announce intervals since its last Announce (R106). -/
  annMiss : Nat
  /-- Frames handed to the PTP engine, oldest first (R105). -/
  ptpRx : List (List Byte)
  /-- Delay requests that wait for an answer, oldest first (R106). -/
  reqs : List PtpReq
  /-- Counter ns at which the last Sync, Announce and (P)Delay_Req were queued (R106). -/
  lastTx : List (Option Nat)
  /-- sequenceIds of the next Sync, Announce and (P)Delay_Req. -/
  seqs : List Nat
  /-- The last Sync: origin time with its corrections, and ingress time, 2^-16 ns (R92). -/
  sync : Option (Int × Int)
  /-- A two-step Sync that waits for its Follow_Up: sequenceId, ingress time, correction (R106). -/
  twoStep : Option (Nat × Int × Int)
  /-- The last (P)Delay_Req sent: sequenceId and egress time (R106). -/
  asked : Option (Nat × Int)
  /-- A two-step Pdelay_Resp that waits for its follow-up: sequenceId, and the times so far, 2^-16 ns (R106). -/
  askedTwo : Option (Nat × Int)
  /-- Mean path delay, 2^-16 ns, once it is measured (R93). -/
  delay : Option Int
  deriving DecidableEq, Repr

/-- A sentence remembered for the cross-network duplicate check (R114). -/
structure SeenLine where
  /-- Source, parameter s:. -/
  src : List Byte
  /-- Line count, parameter n:. -/
  line : Nat
  /-- Network it arrived on. -/
  net : Nat
  /-- Arrival, counter ns. -/
  t : Nat
  deriving DecidableEq, Repr

/-- What the network ports hold beside the ETH registers. -/
structure EthState where
  /-- Ports ETH0 to ETH3. -/
  ports : List EthPort
  /-- Duplicate memory (R114). -/
  seen : List SeenLine
  /-- Membership reports sent: port and group address, newest first (R111). -/
  igmp : List (Nat × Nat)
  deriving DecidableEq, Repr

/-! ### Chapter 03: GNSS -/

/-- The correlators and loops of a channel (R129, R130). -/
structure GnsTrack where
  /-- Code NCO: prompt phase, 2^-18 chip from the start of the primary code. -/
  code : Nat
  /-- What the DLL adds to the carrier-aided chip rate, 2^-18 chip/s. -/
  codeRate : Int
  /-- Carrier NCO: accumulated phase, 2^-32 cycle. -/
  carr : Int
  /-- Carrier NCO: Doppler frequency, 1/256 Hz. -/
  dopp : Int
  /-- Integrators of the carrier loop's filter. -/
  filt : Int × Int
  /-- Counter ns to which the phases belong. -/
  t : Nat
  /-- Sums of VE, E, P, L, VL, the noise correlator and the data arm in the last integration. -/
  corr : List (Int × Int)
  /-- Transmit time of the start of the current code period, ms of the week, once known. -/
  tow : Option Nat
  /-- The polarity of the navigation preamble is known (R131). -/
  pol : Bool
  /-- Bit and secondary-code synchronisation is achieved. -/
  sync : Bool
  /-- The DLL is locked. -/
  codeLock : Bool
  /-- The code discriminator has settled. -/
  settled : Bool
  /-- The carrier lock indicator is at least 0.8. -/
  carrLock : Bool
  /-- For how many ms it has been so (R122). -/
  lockMs : Nat
  /-- For how many ms C/N0 has been below LOSS_CN0 or the code lock lost (R122). -/
  lossMs : Nat
  /-- Powers of P and of the noise correlator, |VE| - |VL| over P in 2^-16, and ms, of the last second's integrations, newest first. -/
  last : List (Nat × Nat × Nat × Nat)
  deriving DecidableEq, Repr

/-- The search of a channel (R125 to R127). -/
structure GnsSearch where
  /-- Index of the Doppler bin in the search, from the lowest. -/
  bin : Nat
  /-- Segment of 1 ms of a longer code. -/
  seg : Nat
  /-- Counter ns at which the dwell in progress began. -/
  t : Nat
  /-- A detection: snapshot, code phase in samples, and verify dwells passed. -/
  hit : Option (Nat × Nat × Nat)
  deriving DecidableEq, Repr

/-- What a tracking channel holds beside its registers (R122 to R124, R133). -/
structure GnsChan where
  /-- Signal code in effect. -/
  sig : Nat
  /-- SV number in effect. -/
  sv : Nat
  /-- Counter ns of entry to the present state. -/
  since : Nat
  /-- The search (R125 to R127). -/
  find : GnsSearch
  /-- Correlators and loops (R129, R130). -/
  trk : GnsTrack
  /-- Azimuth and elevation of the satellite, BAM32, the latter signed, once the solution has given them. -/
  dir : Option (Nat × Int)
  /-- It took part in a spoofing test that failed when last evaluated (R137). -/
  spoof : Bool
  /-- Counter ns at which the search space was exhausted. -/
  requeue : Option Nat
  /-- Counter ns from which the lock time counts (R124). -/
  lockAt : Nat
  /-- Cycle slips since entry to TRACK, modulo 256. -/
  slip : Nat
  /-- A slip occurred since the previous epoch. -/
  slipped : Bool
  deriving DecidableEq, Repr

/-- A channel record as it was latched (R137). -/
structure EpRec where
  /-- SIG. -/
  sig : Nat
  /-- SV. -/
  sv : Nat
  /-- STATE. -/
  st : Nat
  /-- CODE. -/
  code : Nat
  /-- TXMS. -/
  txms : Nat
  /-- CARR. -/
  carr : Nat
  /-- DOPP. -/
  dopp : Nat
  /-- CN0. -/
  cn0 : Nat
  /-- LOCK. -/
  lock : Nat
  /-- FLAGS. -/
  flags : Nat
  /-- SLIP. -/
  slip : Nat
  deriving DecidableEq, Repr

/-- An epoch record (R136). -/
structure Epoch where
  /-- LINNS. -/
  lin : Nat
  /-- Seconds of TIME. -/
  sec : Nat
  /-- Nanoseconds of TIME. -/
  ns : Nat
  /-- PERIOD in ms. -/
  period : Nat
  /-- SEQ. -/
  seq : Nat
  /-- TSTATE. -/
  tstate : Nat
  /-- HFLAGS. -/
  hflags : Nat
  /-- JI of chains 0 to 3. -/
  ji : List Nat
  /-- AGC of chains 0 to 3. -/
  agc : List Nat
  /-- NOTCH. -/
  notch : Nat
  /-- The channels. -/
  ch : List EpRec
  deriving DecidableEq, Repr

/-- What an RF chain holds beside its registers (R141, R142). -/
structure RfChain where
  /-- Per notch: counter ns since which its line has been below NDET. -/
  below : List (Option Nat)
  /-- Counter ns since which JI has been above THR. -/
  jamSince : Option Nat
  /-- Event 35 was raised for this condition. -/
  jamRaised : Bool
  /-- A notch engaged or moved since the previous epoch. -/
  moved : Bool
  deriving DecidableEq, Repr

/-- Aiding data (R128). -/
structure Aiding where
  /-- Satellites with an ephemeris (system × 256 + SV), and the second of the counter at which it was complete. -/
  eph : List (Nat × Nat)
  /-- The second of the counter at which the almanac was complete. -/
  alm : Option Nat
  /-- Last position: latitude and longitude in 1e-7 degree, height in mm. -/
  pos : Option (Int × Int × Int)
  deriving DecidableEq, Repr

/-- The channels as they stood before a tick on an epoch edge (R123, R133). -/
structure GnsEdge where
  /-- LinNs of the epoch. -/
  lin : Nat
  /-- The baseband was on. -/
  on : Bool
  /-- Channels. -/
  chans : List GnsChan
  /-- Their states. -/
  sts : List Nat
  deriving DecidableEq, Repr

/-- What the GNSS baseband holds beside the GNS registers. -/
structure GnsState where
  /-- Channels G0 to G191. -/
  chans : List GnsChan
  /-- Chains 0 to 3. -/
  rf : List RfChain
  /-- EN was written 1 and the RF PLL has not locked yet. -/
  starting : Bool
  /-- Acquisition runs (from the major tick after READY, R155). -/
  searching : Bool
  /-- RATE in effect (R132). -/
  rate : Nat
  /-- LinNs of the last epoch. -/
  lastEpoch : Option Nat
  /-- A step was applied since the last epoch (R135). -/
  stepped : Bool
  /-- Latched epoch whose record is not complete yet. -/
  latched : Option Epoch
  /-- Counter ns of that epoch's instant, and of the one being solved. -/
  latchAt : Nat
  /-- Epoch whose solution is still to come. -/
  solving : Option Epoch
  /-- Stamp of an epoch at a step tick that is still to be latched: LinNs, seconds, nanoseconds (R135). -/
  stepEp : Option (Nat × Nat × Nat)
  /-- The tick on this edge was an epoch edge too: the channels before it. -/
  edge : Option GnsEdge
  /-- Steps of the counter since the epoch being solved was latched, ns (R202). -/
  moved : Int
  /-- Records delivered to the lanes in the running major frame, oldest first (R134). -/
  toEst : List Epoch
  /-- Records of earlier major frames that EST has not consumed (R46, R134). -/
  estDue : List Epoch
  /-- Aiding data in use (R128). -/
  aid : Aiding
  /-- Aiding data kept in MRAM, rewritten at each slow tick (R128). -/
  kept : Aiding
  /-- The stored position is within 10 km, and within 100 km (R128). -/
  near : Bool × Bool
  /-- Velocity differences to the estimator over the last 10 s: counter ns, north and east in mm/s, newest first (R143). -/
  drift : List (Nat × Int × Int)
  /-- A test failed at the last epoch (R144). -/
  failed : Bool
  /-- Counter ns of the last failed test. -/
  failAt : Nat
  /-- Fixed RTK position of the last solution: latitude and longitude in 1e-7 degree, height in mm. -/
  rtk : Option (Int × Int × Int)
  /-- Reference station of the corrections (R146). -/
  station : Nat
  /-- Instant of the newest observations, ms of the counter's scale (R146). -/
  corrAt : Option Nat
  /-- Accepted frames, the last of each type (R145). -/
  rtcm : List (Nat × List Byte)
  /-- Position of the reference station, 0.1 mm earth-centred, and antenna height in 0.1 mm (R145). -/
  stationPos : Option (Int × Int × Int × Nat)
  /-- Level of PPS_OUT is active (R149). -/
  ppsOut : Bool
  /-- Counter ns at which the pulse ends. -/
  ppsEnd : Option Nat
  /-- Second boundary, in s, that was pulsed last, and the one the last message describes. -/
  ppsAt : Option Nat
  /-- See `ppsAt`. -/
  msgAt : Option Nat
  /-- Boundaries before this counter ns have no pulse and no message (R153). -/
  ppsFrom : Nat
  /-- Target of a boundary's pulse that a step left behind, 2^-32 ns on the corrected counter, with its residual's grid (R153). -/
  ppsOld : Option Int
  /-- Delay steps and residual of the last pulse (R148). -/
  ppsN : Nat
  /-- Residual applied to the previous pulse, ps. -/
  prevRes : Int
  /-- It differs from the one announced for that pulse (R150). -/
  prevChanged : Bool
  /-- Advance in use, ps. -/
  ofs : Int
  /-- Last sentence sent on UART11 (R152). -/
  uart11 : List Byte
  /-- Event 40 was raised in this slow frame (R146). -/
  rejRaised : Bool
  deriving DecidableEq, Repr

/-- Correlators and loops at rest. -/
def GnsTrack.init : GnsTrack :=
  { code := 0, codeRate := 0, carr := 0, dopp := 0, filt := (0, 0), t := 0, corr := List.replicate 7 (0, 0), tow := none, pol := false, sync := false
    codeLock := false, settled := false, carrLock := false, lockMs := 0, lossMs := 0, last := [] }

/-- A channel after reset. -/
def GnsChan.init : GnsChan :=
  { sig := 0, sv := 0, since := 0, find := { bin := 0, seg := 0, t := 0, hit := none }, trk := GnsTrack.init, dir := none, spoof := false
    requeue := none, lockAt := 0, slip := 0, slipped := false }

/-- No aiding data. -/
def Aiding.none_ : Aiding := { eph := [], alm := none, pos := none }

/-- A chain after reset. -/
def RfChain.init : RfChain := { below := [none, none, none, none], jamSince := none, jamRaised := false, moved := false }

/-- GNSS baseband after reset; no aiding data (log 31). -/
def GnsState.reset : GnsState :=
  { chans := List.replicate 192 GnsChan.init, rf := List.replicate 4 RfChain.init, starting := false, searching := false, rate := 2, lastEpoch := none, stepped := false, latched := none, latchAt := 0, solving := none, stepEp := none
    edge := none, moved := 0, toEst := [], estDue := [], aid := Aiding.none_, kept := Aiding.none_, near := (false, false), drift := [], failed := false, failAt := 0
    rtk := none, station := 0, corrAt := none, rtcm := [], stationPos := none, ppsOut := false, ppsEnd := none, ppsAt := none, msgAt := none
    ppsFrom := 0, ppsOld := none, ppsN := 0
    prevRes := 0, prevChanged := false, ofs := 0, uart11 := [], rejRaised := false }

/-! ### Chapter 04: signal chain -/

/-- One sample of a channel: value and stamp (R167, R173). -/
structure Sample where
  /-- Raw value. -/
  v : Int
  /-- Stamp, LinNs. -/
  stamp : Nat
  /-- The stamp was taken before a step of the counter and has been moved by it (R202). -/
  adj : Bool
  deriving DecidableEq, Repr

/-- A synchronising reset that waits (R177). -/
inductive ChanReset where
  /-- None. -/
  | none
  /-- In the ACQ of this frame. -/
  | now
  /-- Hold in this frame, reset in the next. -/
  | hold
  /-- In the ACQ of this frame, the first four analog samples replaced by the fifth. -/
  | after
  deriving DecidableEq, Repr

/-- What a signal channel holds beside its registers (R167 to R183). -/
structure Chan where
  /-- Rank window, newest first; empty after a synchronising reset. -/
  win : List Int
  /-- Last coarse value. -/
  coarse : Int
  /-- Delay line of coarse values, newest first, at most 63. -/
  line : List Int
  /-- Last fine value, unscaled. -/
  fine : Option Int
  /-- Step of the coarse-to-fine fade, 1 to 8; 0 when none (R179). -/
  fadeK : Nat
  /-- Step of the bank fade; 0 when none (R180). -/
  bankK : Nat
  /-- Length of the bank fade in progress. -/
  bankF : Nat
  /-- Old taps of the active bank while a change to derived words waits or fades (R645). -/
  oldTaps : Option (List Int)
  /-- Old taps of the bank a bank fade goes to, while a change to derived words waits for its end. -/
  oldNew : Option (List Int)
  /-- Step of that fade. -/
  oldK : Nat
  /-- Minor frames since the last sample, 17 bits (R183). -/
  age : Nat
  /-- Reference of an ANGLE channel (R176). -/
  rho : Nat
  /-- Last unscaled output (R176). -/
  last : Int
  /-- Stamp of the coarse value (R173). -/
  stamp : Nat
  /-- That stamp was moved by a step (R202). -/
  stampAdj : Bool
  /-- Samples since the last minor tick, oldest first. -/
  arriving : List Sample
  /-- Samples completed before the last minor tick. -/
  ready : List Sample
  /-- Waiting synchronising reset. -/
  reset : ChanReset
  /-- VALID was cleared by the timeout (R183). -/
  timedOut : Bool
  /-- The newest sentence was invalid, as SRCV will show (R174, R186). -/
  srcv : Bool
  /-- That flag at the last minor tick. -/
  srcvAt : Bool
  /-- LinNs of the last tacho edge (R163). -/
  tachoPrev : Option Nat
  /-- Counter in ns at that edge, or where the measurement began. -/
  tachoAt : Nat
  /-- The tacho stands at zero speed. -/
  tachoZero : Bool
  deriving DecidableEq, Repr

/-- An edge of a tacho input that its pulse has not yet outlived (R163). -/
structure TachoIn where
  /-- Counter in ns. -/
  t : Nat
  /-- LinNs. -/
  lin : Nat
  /-- Rising. -/
  rising : Bool
  deriving DecidableEq, Repr

/-- What the signal chain holds beside the SIG registers. -/
structure SigState where
  /-- Channels S0 to S95. -/
  chans : List Chan
  /-- The newest edge of each tacho input while its pulse is shorter than 1 µs (R163). -/
  tachoIn : List (Option TachoIn)
  /-- Counter in ns of the last change of each UART's setting (R164). -/
  uartAt : List Nat
  deriving DecidableEq, Repr

/-! ### Chapter 05: alignment -/

/-- A 32-byte measurement record (R201). -/
structure Meas where
  /-- Measurement instant, LinNs. -/
  m : Nat
  /-- Stream number. -/
  stream : Nat
  /-- KIND. -/
  kind : Nat
  /-- FLAGS. -/
  flags : Nat
  /-- V0 to V3. -/
  v : List Int
  /-- Residual e, ns. -/
  resid : Int
  /-- A position projected before the last change of origin (R231). -/
  old : Bool := false
  deriving DecidableEq, Repr

/-- An arrival in the queue of the alignment unit (R191). -/
structure Arrival where
  /-- Stream. -/
  stream : Nat
  /-- Arrival stamp. -/
  a : Nat
  /-- Channel values. -/
  v : List Int
  /-- All channels had FINE_VALID. -/
  fine : Bool
  /-- The stamp was taken before a step and has been adjusted (R202). -/
  adj : Bool
  /-- The measurement waited for the projection budget (R207). -/
  deferred : Bool
  deriving DecidableEq, Repr

/-- What a stream holds beside its registers. -/
structure Stream where
  /-- Pending instants, oldest first, at most 8, with a mark for those adjusted by a step (R192, R202). -/
  pend : List (Nat × Bool)
  /-- Reference instant of the previous pair. -/
  tauP : Nat
  /-- Consecutive misses (R195). -/
  misses : Nat
  /-- Consecutive orphans. -/
  orphans : Nat
  /-- The next pair is the seed (R197). -/
  seed : Bool
  deriving DecidableEq, Repr

/-- An attitude or heading sample (R206). -/
structure AttSample where
  /-- Instant, LinNs. -/
  m : Nat
  /-- Roll, BAM32 signed; heading for a heading sample. -/
  roll : Int
  /-- Pitch, BAM32 signed. -/
  pitch : Int
  deriving DecidableEq, Repr

/-- What the alignment unit holds beside the ALN registers. -/
structure AlnState where
  /-- Streams ST0 to ST31. -/
  streams : List Stream
  /-- Arrival queue, oldest first, at most 128 (R191). -/
  queue : List Arrival
  /-- Projections in the running major frame (R207). -/
  proj : Nat
  /-- GNSS solutions that wait for their frame's place in the queue, in order of delivery (R190, R191). -/
  inner : List Arrival
  /-- Attitude samples of each KIND 6 stream, newest first, at most 512 (R206). -/
  att : List (Nat × List AttSample)
  /-- Newest heading of each KIND 3 stream (R206). -/
  hdg : List (Nat × AttSample)
  /-- Measurements delivered and not yet consumed by EST, in order of delivery (R199, R46). -/
  out : List Meas
  deriving DecidableEq, Repr

/-! ### Chapters 06 and 07: estimator and arbitration -/

/-- The tightly coupled states of a GNSS-TC track (R224). -/
structure TcTrack where
  /-- Position north, east, down; velocity; clock bias and drift; inter-system biases. -/
  x : List Fl
  /-- Covariance. -/
  p : List (List Fl)
  deriving DecidableEq, Repr

/-- A position or heading reference track with its arbitration (R211, R228, R242 to R254). -/
structure RefTrack where
  /-- 0 OFF, 1 WAITING, 2 ACTIVE, 3 LOST, 4 FAULT. -/
  st : Nat
  /-- The configuration was found invalid. -/
  bad : Bool
  /-- Bias: north and east, or heading. -/
  b : List Fl
  /-- Bias covariance. -/
  pb : List (List Fl)
  /-- The next measurement is the first in ACTIVE. -/
  first : Bool
  /-- Instant of the last measurement. -/
  m : Nat
  /-- Its raw values: mm, or BAM32. -/
  z : List Int
  /-- FN and FE: its fix, mm, or heading, BAM32 (R237). -/
  fix : List Int
  /-- Instant since which the raw values are bit-identical. -/
  sameAt : Nat
  /-- Raw residuals, newest first: instant and mm, or signed BAM32. -/
  resid : List (Nat × List Int)
  /-- The last measurement passed all its tests. -/
  pass : Bool
  /-- It was rejected for spoofing. -/
  spoof : Bool
  /-- It passed its tests in this frame: the measured values, for initialisation (R230). -/
  init : Option (List Fl)
  /-- Velocity north and east delivered with it. -/
  vel : Option (List Fl)
  /-- Record FLAGS. -/
  flags : Nat
  /-- Last innovation, mm or signed BAM32. -/
  inn : List Int
  /-- NIS, UQ16.16. -/
  nis : Nat
  /-- SD field. -/
  sd : Nat
  /-- NSAT. -/
  nsat : Nat
  /-- NEXCL. -/
  nexcl : Nat
  /-- Instant of the last fused measurement. -/
  fused : Option Nat
  /-- Measurements fused in GECKO without a rejected one between (R259). -/
  run : Nat
  /-- LinNs of the major tick since which it is OUTVOTED without a break (R250). -/
  outAt : Option Nat
  /-- LinNs of the major tick since which it is within the rehabilitation bound (R254). -/
  rehabAt : Option Nat
  /-- The reference that was kept when this one became SUSPECT (R252). -/
  kept : Option Nat
  /-- GNSS-TC states. -/
  tc : TcTrack
  deriving DecidableEq, Repr

/-- A target track (R227). -/
structure TgTrack where
  /-- State as in `RefTrack`. -/
  st : Nat
  /-- The configuration was found invalid. -/
  bad : Bool
  /-- North, east, velocity north, velocity east. -/
  x : List Fl
  /-- Covariance. -/
  p : List (List Fl)
  /-- Instant of the last measurement. -/
  m : Nat
  /-- Record FLAGS. -/
  flags : Nat
  /-- Last innovation, mm. -/
  inn : List Int
  /-- NIS, UQ16.16. -/
  nis : Nat
  deriving DecidableEq, Repr

/-- A snapshot of the vessel track at a major tick (R218). -/
structure Snap where
  /-- LinNs of the tick. -/
  t : Nat
  /-- State. -/
  x : List Fl
  /-- Covariance. -/
  p : List (List Fl)
  /-- τ_T over the interval that follows. -/
  tau : List Fl
  /-- Transition from the tick before. -/
  phi : List (List Fl)
  deriving DecidableEq, Repr

/-- What the estimator holds beside the EST registers. -/
structure EstState where
  /-- LinNs to which the tracks are propagated. -/
  t : Option Nat
  /-- Vessel track: state (R212). -/
  x : List Fl
  /-- Vessel track: covariance. -/
  p : List (List Fl)
  /-- Vessel track: 0 OFF, 1 WAITING, 2 CONVERGING, 3 QUALIFIED, 4 GECKO, 5 FAULT. -/
  st : Nat
  /-- LinNs of entry to it. -/
  since : Nat
  /-- PR0 to PR11, HR0 to HR3. -/
  refs : List RefTrack
  /-- TG0 to TG7. -/
  tgs : List TgTrack
  /-- Snapshots, newest first, at most 12. -/
  snaps : List Snap
  /-- Measurements deferred under R219. -/
  defer : List Meas
  /-- Newest wind and acceleration measurements of each stream, newest first (R215, R224). -/
  recent : List (Nat × List Meas)
  /-- τ_T of the running major frame (R214). -/
  tauNow : List Fl
  /-- Major ticks that the next EST may need, newest first: LinNs, and τ_T from there on (R214, R216, R220). -/
  ticks : List (Nat × List Fl)
  /-- Last τ_W while the wind stream was FRESH (R215). -/
  tauW : List Fl
  /-- LinNs of the major tick since which the wind stream is not FRESH. -/
  windLost : Option Nat
  /-- EST executions since EN was set. -/
  seq : Nat
  /-- Records waiting for the next major tick: offset and words (R49). -/
  next : List (Nat × List Nat)
  /-- EST_STATUS fields waiting with them: VSTATE, NPR, NHR, NTG. -/
  pub : Nat × Nat × Nat × Nat
  /-- The last EST overran: the record in effect takes STALE (R220). -/
  stale : Bool
  /-- Record FLAGS set during a frame: DELAYED, DEFERRED, ORIGIN_MOVED, WIND_HELD. -/
  fl : Nat
  /-- Position and heading measurements fused in the frame. -/
  nPos : Nat
  /-- See `nPos`. -/
  nHdg : Nat
  /-- Instants of the last fused position and heading. -/
  posAt : Option Nat
  /-- See `posAt`. -/
  hdgAt : Option Nat
  /-- LinNs of entry to GECKO, and U0 in mm (R258). -/
  gkAt : Nat
  /-- See `gkAt`. -/
  gkU0 : Nat
  /-- Running contradiction of the positions: the pair, and FRM_MAJCNT of the frame in which it began (R251). -/
  contra : Option (Nat × Nat × Nat)
  /-- The same of the headings. -/
  hcontra : Option (Nat × Nat × Nat)
  /-- Pending origin (R231). -/
  orgPend : Option (Int × Int)
  /-- Origin held by the interval after a change. -/
  orgHeld : Option (Int × Int)
  /-- Major frames since the last change took effect. -/
  orgAge : Option Nat
  /-- Δ north, east, down in m still to be added by EST. -/
  orgDelta : Option (List Fl)
  /-- Δ for measurements projected before the last change. -/
  orgOld : List Fl
  /-- Vessel records of the peers received for comparison (R233). -/
  peers : List (Option (List Nat))
  deriving DecidableEq, Repr

/-- A reference track after reset. -/
def RefTrack.init0 : RefTrack :=
  { st := 0, bad := false, b := [], pb := [], first := true, m := 0, z := [], fix := [], sameAt := 0, resid := [], pass := false, spoof := false
    init := none, vel := none, flags := 0, inn := [], nis := 0, sd := 0, nsat := 0, nexcl := 0, fused := none, run := 0, outAt := none
    rehabAt := none, kept := none, tc := ⟨[], []⟩ }

/-- A target track after reset. -/
def TgTrack.init0 : TgTrack := { st := 0, bad := false, x := [], p := [], m := 0, flags := 0, inn := [], nis := 0 }

/-- Estimator after reset (R239). -/
def EstState.reset : EstState :=
  { t := none, x := List.replicate 15 Fl.zero, p := List.replicate 15 (List.replicate 15 Fl.zero), st := 0, since := 0
    refs := List.replicate 16 RefTrack.init0, tgs := List.replicate 8 TgTrack.init0, snaps := [], defer := [], recent := []
    tauNow := List.replicate 3 Fl.zero, ticks := [], tauW := List.replicate 3 Fl.zero, windLost := none, seq := 0
    next := [], pub := (0, 0, 0, 0), stale := false, fl := 0, nPos := 0, nHdg := 0, posAt := none, hdgAt := none, gkAt := 0, gkU0 := 0
    contra := none, hcontra := none, orgPend := none, orgHeld := none, orgAge := none, orgDelta := none
    orgOld := List.replicate 3 Fl.zero, peers := [none, none, none] }

/-! ### Chapters 08 and 09: control engine and station-keeping modes -/

/-- A blend in progress (R281, R282, R294). -/
structure Blend where
  /-- 0 to the PID path, 1 to the main path, 2 to the other bank, 3 a return on the main path. -/
  kind : Nat
  /-- Executions done. -/
  k : Nat
  /-- K. -/
  n : Nat
  /-- The outgoing value where it is held. -/
  old : Int
  deriving DecidableEq, Repr

/-- What a loop slot holds beside its registers (R271 to R287). -/
structure LoopSlot where
  /-- 0 OFF, 1 MAIN, 2 TO_PID, 3 PID, 4 TO_MAIN, 5 HELD. -/
  path : Nat
  /-- Active bank. -/
  abank : Nat
  /-- First cause of the fallback. -/
  cause : Nat
  /-- The derived words have been written into the coefficient memory. -/
  mat : Bool
  /-- PID set in use: sixteen words, the last its check code. -/
  use : List Nat
  /-- PID set to adopt at the next execution. -/
  adopt : Option (List Nat)
  /-- A value that enters R288 has changed (R289). -/
  retune : Bool
  /-- The bank left behind is to take the active bank's words once the switch is over (R34). -/
  even : Bool
  /-- Requested bank. -/
  breq : Option Nat
  /-- Trigger for the next execution. -/
  trig : Option Nat
  /-- Enabled, not yet executed. -/
  start : Bool
  /-- The shaper is to be preset (R273). -/
  preset : Bool
  /-- CMD.MAIN was accepted. -/
  toMain : Bool
  /-- CMD.RESTART was accepted: to the PID path, or to the main path. -/
  restart : Option Bool
  /-- The slot re-enters its path when it next runs (R270, R295). -/
  back : Bool
  /-- Blend of the paths. -/
  blend : Option Blend
  /-- Blend of a manual demand (R294). -/
  man : Option Blend
  /-- Source of the manual demand of the last execution; none when automatic. -/
  src : Option Nat
  /-- Shaped set-point. -/
  sp : Fl
  /-- Its rate. -/
  v : Fl
  /-- Its acceleration. -/
  a : Fl
  /-- Section states of the two banks: x[k-1], x[k-2], y[k-1], y[k-2]. -/
  x : List (List (List Int))
  /-- Integrator. -/
  i : Int
  /-- Filtered derivative. -/
  d : Int
  /-- Last error of the PID path. -/
  ep : Int
  /-- Last released output. -/
  u : Int
  /-- LIMITED. -/
  lim : Bool
  /-- OSAT. -/
  osat : Bool
  /-- INVALID. -/
  inv : Bool
  /-- CHKF. -/
  chkf : Bool
  /-- PIDF. -/
  pidf : Bool
  /-- Consecutive OSAT executions, and those on MAIN. -/
  sat : Nat
  /-- See `sat`. -/
  satMain : Nat
  /-- Last error, and last outputs of the main path and the PID path. -/
  e : Int
  /-- See `e`. -/
  um : Int
  /-- See `e`. -/
  up : Int
  deriving DecidableEq, Repr

/-- What the mode unit holds beside its registers (R291 to R310). -/
structure ModeState where
  /-- Mode, to take effect at the next major tick. -/
  mode : Nat
  /-- Mode before Gecko hold. -/
  origin : Nat
  /-- Requested mode. -/
  req : Option Nat
  /-- SPN, SPE, SPH were written at the major tick of the request (R299). -/
  hostSp : Nat
  /-- Targets: N, E, heading. -/
  tgt : List Int
  /-- Carrot, mm. -/
  cn : Fl
  /-- See `cn`. -/
  ce : Fl
  /-- Start of the leg, mm. -/
  ln : Fl
  /-- See `ln`. -/
  le : Fl
  /-- Active waypoint. -/
  wpt : Nat
  /-- Contact point, mm, and frozen biases, N (R303). -/
  contact : List Fl
  /-- Counter ns of the last joystick write. -/
  joyAt : Option Nat
  /-- The joystick source was valid at the last look. -/
  joyOk : Bool
  /-- JLOST. -/
  jlost : Bool
  /-- BERTHED. -/
  berthed : Bool
  /-- Steps during which its conditions have failed. -/
  unberth : Nat
  /-- PRESSLOSS. -/
  pressLoss : Bool
  /-- Steps during which the gap has been below. -/
  gapLow : Nat
  /-- REASON. -/
  reason : Nat
  /-- Manual axes. -/
  manual : Nat
  /-- CLE_DPAX was rewritten since the last step (R309). -/
  remarked : Bool
  /-- Demand of the DP-axis step: N, N, N·m. -/
  demand : List Int
  /-- The DP-axis step of the frame has run; slots to be published at the major tick. -/
  pub : Option (List Nat)
  deriving DecidableEq, Repr

/-- What the CLE block holds beside its registers. -/
structure CleState where
  /-- L0 to L47. -/
  slots : List LoopSlot
  /-- Mode unit. -/
  md : ModeState
  deriving DecidableEq, Repr

/-- A slot after reset (R287). -/
def LoopSlot.init : LoopSlot :=
  { path := 0, abank := 0, cause := 0, mat := false, use := [], adopt := none, retune := false, even := false, breq := none, trig := none, start := false
    preset := false, toMain := false, restart := none, back := false, blend := none, man := none, src := none, sp := Fl.zero, v := Fl.zero
    a := Fl.zero, x := List.replicate 2 (List.replicate 8 [0, 0, 0, 0]), i := 0, d := 0, ep := 0, u := 0, lim := false, osat := false
    inv := false, chkf := false, pidf := false, sat := 0, satMain := 0, e := 0, um := 0, up := 0 }

/-- Mode unit after reset (R311). -/
def ModeState.reset : ModeState :=
  { mode := 0, origin := 0, req := none, hostSp := 0, tgt := [0, 0, 0], cn := Fl.zero, ce := Fl.zero, ln := Fl.zero, le := Fl.zero, wpt := 0
    contact := List.replicate 4 Fl.zero, joyAt := none, joyOk := false, jlost := false, berthed := false, unberth := 0, pressLoss := false
    gapLow := 0, reason := 0, manual := 7, remarked := false, demand := [0, 0, 0], pub := none }

/-- Control engine after reset. -/
def CleState.reset : CleState := { slots := List.replicate 48 LoopSlot.init, md := ModeState.reset }
/-! ### Chapters 10 and 11: allocation, envelope, consequence analysis, energy -/

/-- A transit through a forbidden sector (R325, R327). -/
structure Transit where
  /-- Sector. -/
  sect : Nat
  /-- +1 clockwise, -1 counter-clockwise. -/
  dir : Int
  /-- Edge at which it begins, BAM32. -/
  near : Nat
  /-- Edge at which it ends, BAM32. -/
  far : Nat
  /-- The near edge has been reached at zero thrust. -/
  thru : Bool
  deriving DecidableEq, Repr

/-- What a thruster holds beside its registers (R335). -/
structure Thruster where
  /-- 0 OFF, 1 ACTIVE, 2 TRANSIT, 3 RAMPDOWN, 4 OUT, 5 FAULT. -/
  st : Nat
  /-- Committed ASTERN (R326). -/
  astern : Bool
  /-- Frames counted for sectors 0 and 1; a rudder uses the first (R324, R326). -/
  cnt : List Nat
  /-- Multipliers of the sector-edge rows in the last main solve; none where the row was not active. -/
  lam : List (Option Fl)
  /-- Frames left of XHOLD. -/
  hold : Nat
  /-- Transit in progress. -/
  trans : Option Transit
  /-- Transits and rudder changes. -/
  crossings : Nat
  /-- It enters the problem at the next main solve (R315). -/
  enter : Bool
  /-- Sector words written during a transit: offset and word (R337). -/
  fs : List (Nat × Nat)
  /-- Its invalid description has been reported. -/
  bad : Bool
  deriving DecidableEq, Repr

/-- What a failure group holds beside its registers (R350, R352). -/
structure FailGroup where
  /-- Forces of the previous consequence result: thruster and force, kN. -/
  prev : List (Nat × List Fl)
  /-- A previous result exists. -/
  ran : Bool
  /-- Final working set. -/
  wset : List Nat
  /-- Consecutive INFEASIBLE and FEASIBLE verdicts. -/
  inf : Nat
  /-- See `inf`. -/
  fea : Nat
  /-- ALARM. -/
  alarm : Bool
  deriving DecidableEq, Repr

/-- What a bus envelope holds beside its registers (R343, R344). -/
structure Envelope where
  /-- 0 FIXED, 1 WAIT, 2 FRESH, 3 STALE. -/
  st : Nat
  /-- SRC, PACH or RACH was written. -/
  wrote : Bool
  /-- A new value has arrived since the last latch. -/
  new : Bool
  /-- New samples counted. -/
  cnt : Nat
  /-- Major frames since the last new sample. -/
  gap : Nat
  /-- Last live values. -/
  pa : Nat
  /-- See `pa`. -/
  ra : Nat
  deriving DecidableEq, Repr

/-- What the energy counters of a bus hold beside their registers (R354, R355). -/
structure Energy where
  /-- Measured power at the frame's latch, W. -/
  meas : Option Nat
  /-- Remainder, 1/100 W·s. -/
  rem : Nat
  /-- Energy and frames of the running bin. -/
  bin : Nat
  /-- See `bin`. -/
  frames : Nat
  /-- Completed bins, newest first, at most 60, W·s. -/
  bins : List Nat
  deriving DecidableEq, Repr

/-- What the ALC block holds beside its registers. -/
structure AlcState where
  /-- T0 to T15. -/
  thr : List Thruster
  /-- Final working set of the last main solve, by row number of R314 with thruster numbers in place of positions. -/
  wset : List Nat
  /-- Words that take effect at the next major tick (R49). -/
  next : List (Nat × Nat)
  /-- A result waits. -/
  fresh : Bool
  /-- FG0 to FG23. -/
  groups : List FailGroup
  /-- Envelopes of buses 0 to 3. -/
  env : List Envelope
  /-- The envelope of this major frame has been latched (R342). -/
  latched : Bool
  /-- Energy of buses 0 to 3. -/
  en : List Energy
  /-- Island publication: at the last minor tick, at the last ACQ, and in effect for this frame (R437). -/
  safTick : Nat
  /-- See `safTick`. -/
  safAcq : Nat
  /-- See `safTick`. -/
  saf : Nat
  /-- ALC overran in the frame (R353). -/
  held : Bool
  deriving DecidableEq, Repr

/-- A thruster after reset. -/
def Thruster.init : Thruster :=
  { st := 0, astern := false, cnt := [0, 0], lam := [none, none], hold := 0, trans := none, crossings := 0, enter := false, fs := [], bad := false }

/-- Allocator after reset (R338, R356). -/
def AlcState.reset : AlcState :=
  { thr := List.replicate 16 Thruster.init, wset := [], next := [], fresh := false
    groups := List.replicate 24 { prev := [], ran := false, wset := [], inf := 0, fea := 0, alarm := false }
    env := List.replicate 4 { st := 0, wrote := false, new := false, cnt := 0, gap := 0, pa := 0, ra := 0xFFFFFFFF }, latched := false
    en := List.replicate 4 { meas := none, rem := 0, bin := 0, frames := 0, bins := [] }, safTick := 0, safAcq := 0, saf := 0, held := false }
/-! ### Chapter 12: profile axes -/

/-- A plan (R362): segments of constant jerk from a start state. -/
structure PrfPlan where
  /-- Jerk and duration of each segment. -/
  segs : List (Fl × Fl)
  /-- Start position. -/
  s0 : Fl
  /-- Start velocity. -/
  v0 : Fl
  /-- Start acceleration. -/
  a0 : Fl
  /-- Samples formed. -/
  k : Nat
  /-- Position at the end; a stop ends wherever the plan ends. -/
  goal : Option Fl
  deriving DecidableEq, Repr

/-- What a profile axis holds beside its registers (R358 to R379). -/
structure Axis where
  /-- 0 OFF, 1 IDLE, 2 MOVING, 3 STOPPING, 4 ABORTING, 5 HOMING, 6 FOLLOW, 7 HALTED, 8 FAULT. -/
  st : Nat
  /-- Sample position, velocity and acceleration. -/
  s : Fl
  /-- See `s`. -/
  v : Fl
  /-- See `s`. -/
  a : Fl
  /-- Position and velocity of the sample before. -/
  ps : Fl
  /-- See `ps`. -/
  pv : Fl
  /-- Plan in progress. -/
  plan : Option PrfPlan
  /-- Target of the move in progress. -/
  tgt : Int
  /-- Pending target (R366). -/
  pend : Option Int
  /-- The abort in progress ends in FAULT (R377). -/
  fault : Bool
  /-- EN was cleared in motion. -/
  off : Bool
  /-- Last source value (R359). -/
  last : Int
  /-- Minor frames at rest. -/
  rest : Nat
  /-- Homing decelerates to the end of its phase. -/
  ending : Bool
  /-- Position latched at the home edge (R378). -/
  latch : Option Fl
  /-- Debounced levels of the negative limit, the positive limit and the home input. -/
  deb : List Bool
  /-- Those levels at the last minor tick. -/
  tick : List Bool
  /-- Inputs in chatter (R375). -/
  chat : List Bool
  /-- Released samples: LinNs of the release and position, newest first, at most 70 (R374). -/
  hist : List (Nat × Fl)
  /-- Amplitude in use, and the rest has lasted HOLDT (R383). -/
  amp : Nat
  /-- See `amp`. -/
  hold : Bool
  deriving DecidableEq, Repr

/-- A step output (R382). -/
structure StepOut where
  /-- DIR level. -/
  dir : Bool
  /-- Edges to come, in 4 ns ticks after the release. -/
  edges : List Nat
  /-- Counter ns of the release. -/
  rel : Nat
  /-- Last edge placed, in ticks of this interval. -/
  last : Int
  /-- Edges carried into the next interval. -/
  carry : Nat
  /-- Pulses emitted since reset. -/
  count : Nat
  /-- Counter ns of the last edge emitted. -/
  edge : Option Nat
  deriving DecidableEq, Repr

/-- What the profile unit holds beside its registers. -/
structure PrfState where
  /-- P0 to P31. -/
  axes : List Axis
  /-- STEP00 to STEP15. -/
  steps : List StepOut
  /-- MS0 to MS7: for each of the 20 PWM periods, duty and sign of phase A and of phase B (R384). -/
  ms : List (List (Nat × Bool × Nat × Bool))
  /-- Samples released to telegram slots 0 to 15: position and velocity (R380). -/
  tlg : List (Option (Int × Int))
  deriving DecidableEq, Repr

/-- An axis after reset (R386). -/
def Axis.init : Axis :=
  { st := 0, s := Fl.zero, v := Fl.zero, a := Fl.zero, ps := Fl.zero, pv := Fl.zero, plan := none, tgt := 0, pend := none, fault := false
    off := false, last := 0, rest := 0, ending := false, latch := none, deb := [false, false, false], tick := [false, false, false]
    chat := [false, false, false], hist := [], amp := 0, hold := false }

/-- Profile unit after reset (R386). -/
def PrfState.reset : PrfState :=
  { axes := List.replicate 32 Axis.init, steps := List.replicate 16 { dir := false, edges := [], rel := 0, last := -62500, carry := 0, count := 0, edge := none }
    ms := List.replicate 8 [], tlg := List.replicate 16 none }
/-! ### Chapter 13: CAN FD controllers and drive telegrams -/

/-- What a controller is sending (R405). -/
inductive TxWho where
  | tlg (s : Nat) | fifo | obj (o : Nat)
  deriving DecidableEq, Repr

/-- An attempt in progress (R405, R406). -/
structure TxAttempt where
  /-- Whose frame it is. -/
  who : TxWho
  /-- The frame as sent. -/
  frame : CanFrame
  /-- A cancel came after arbitration began. -/
  cancel : Bool
  deriving DecidableEq, Repr

/-- An entry of the transmit FIFO (R400, R401). -/
structure TxEntry where
  /-- Words 0 to 18. -/
  words : List Nat
  /-- SSHOT. -/
  sshot : Bool
  deriving DecidableEq, Repr

/-- A buffer lock of one port (R395, R396). -/
structure BufLock where
  /-- Object, or 0 for the oldest receive entry. -/
  buf : Nat
  /-- LinNs at which it was taken. -/
  since : Nat
  deriving DecidableEq, Repr

/-- What a CAN controller holds beside its registers and its object memory. -/
structure CanCtl where
  /-- Receive FIFO, oldest first, 20 words each (R398). -/
  rx : List (List Nat)
  /-- Transmit FIFO, head first (R401). -/
  tx : List TxEntry
  /-- Staging windows of the two ports, words 0 to 18 (R400). -/
  stag : List (List Nat)
  /-- Locks of the two ports. -/
  locks : List (Option BufLock)
  /-- One-frame holds of locked receive buffers (R395). -/
  hold : List (Nat × List Nat)
  /-- Waiting updates of locked transmit buffers: words 2 and 19. -/
  wait : List (Nat × Nat × Nat)
  /-- Attempt in progress. -/
  cur : Option TxAttempt
  /-- Request of the collisions counted, and its event has been raised (R410). -/
  coll : Option TxWho
  /-- See `coll`. -/
  collEv : Bool
  deriving DecidableEq, Repr

/-- What a telegram slot holds beside its registers (R413 to R421). -/
structure TlgSlot where
  /-- Telegrams formed and released. -/
  count : Nat
  /-- Telegram formed in ACT, due at the release. -/
  formed : Option (List Byte)
  /-- Pending telegram. -/
  pend : Option (List Byte)
  /-- SEQ and release LinNs of the last 16 sent, newest first. -/
  sent : List (Nat × Nat)
  /-- Last telegram released (R471). -/
  last : Option (List Byte)
  /-- LinNs of the last valid feedback, or of EN. -/
  since : Nat
  deriving DecidableEq, Repr

/-- What the CAN block holds beside its registers. -/
structure CanState where
  /-- CAN0 to CAN7. -/
  ctl : List CanCtl
  /-- TLG0 to TLG15. -/
  tlg : List TlgSlot
  deriving DecidableEq, Repr

/-- A controller after reset (R422). -/
def CanCtl.init : CanCtl :=
  { rx := [], tx := [], stag := List.replicate 2 (List.replicate 19 0), locks := [none, none], hold := [], wait := [], cur := none, coll := none, collEv := false }

/-- CAN block after reset (R422). -/
def CanState.reset : CanState :=
  { ctl := List.replicate 8 CanCtl.init, tlg := List.replicate 16 { count := 0, formed := none, pend := none, sent := [], last := none, since := 0 } }

/-! ### Chapter 14: safety island -/

/-- What a contactor holds beside its registers (R434 to R436). -/
structure Contactor where
  /-- Command to the output. -/
  cmd : Bool
  /-- Feedback samples, newest first, at most 10; true is open. -/
  fb : List Bool
  /-- Consecutive ticks on which the read-back differed from the command. -/
  diff : Nat
  /-- Ticks since the last command or state entry. -/
  t : Nat
  deriving DecidableEq, Repr

/-- A PDU whose second copy is awaited (R443). -/
structure PduCopy where
  /-- Network of the first copy: 0 A, 1 B. -/
  net : Nat
  /-- Island clock at its arrival, 10 µs. -/
  at10 : Nat
  /-- Bytes 4 to 11. -/
  body : List Byte
  deriving DecidableEq, Repr

/-- What a connection holds beside its registers (R440 to R444). -/
structure Conn where
  /-- No PDU has come in this WAIT or TIMEOUT. -/
  fresh : Bool
  /-- New PDUs accepted since the last watchdog expiry. -/
  news : Nat
  /-- Ticks since the last new PDU. -/
  age : Nat
  /-- First copy that waits for its second. -/
  copy : Option PduCopy
  /-- Consecutive accepted PDUs without a copy from network A and B. -/
  miss : List Nat
  /-- SEQ of the next PDU to send. -/
  next : Nat
  /-- Tick count for which the PDU has been formed. -/
  formed : Option Nat
  deriving DecidableEq, Repr

/-- A PDU received since the last tick. -/
structure PduIn where
  /-- Network. -/
  net : Nat
  /-- Island clock at its arrival, 10 µs. -/
  at10 : Nat
  /-- The 16 bytes. -/
  bytes : List Byte
  deriving DecidableEq, Repr

/-- What the island holds beside the SAF registers. -/
structure SafState where
  /-- Ticks since the island entered RUN. -/
  count : Nat
  /-- Ticks since the island reset. -/
  ticks : Nat
  /-- DCNT of SI0 to SI31 (R432). -/
  dcnt : List Nat
  /-- CO0 to CO15. -/
  co : List Contactor
  /-- Active ticks of SRST0 to SRST3 (R438). -/
  press : List Nat
  /-- SC0 to SC7. -/
  conn : List Conn
  /-- PDUs received since the last tick, in order of arrival. -/
  rx : List PduIn
  /-- Contactors named by SAF_RESET since the last tick. -/
  resets : Nat
  /-- Committed configuration that waits for the first tick (R445): offset and RWS bits. -/
  cfg : Option (List (Nat × Nat))
  /-- Events raised in this tick that R447 limits to one per tick. -/
  once : List Nat
  deriving DecidableEq, Repr

/-- A contactor after reset. -/
def Contactor.init : Contactor := { cmd := false, fb := [], diff := 0, t := 0 }

/-- A connection after reset. -/
def Conn.init : Conn := { fresh := true, news := 0, age := 0, copy := none, miss := [0, 0], next := 0, formed := none }

/-- Island after reset (R427, R428). -/
def SafState.reset : SafState :=
  { count := 0, ticks := 0, dcnt := List.replicate 32 0, co := List.replicate 16 Contactor.init, press := List.replicate 4 0,
    conn := List.replicate 8 Conn.init, rx := [], resets := 0, cfg := none, once := [] }

/-! ### Chapter 15: sealed configuration -/

/-- A commit slot in MRAM (R458). -/
structure SealSlot where
  /-- Commit sequence. -/
  cseq : Nat
  /-- Seal counter. -/
  counter : Nat
  /-- Password salt, 16 bytes. -/
  salt : List Byte
  /-- Password hash, 48 bytes. -/
  hash : List Byte
  /-- Island measurement, 48 bytes. -/
  meas : List Byte
  /-- RWS bits that differ from their after-reset values: offset and value, offsets rising. -/
  body : List (Nat × Nat)
  /-- GLB_LEVEL in full at the commit (R448). -/
  level : Nat
  deriving DecidableEq, Repr

/-- A commit in progress (R460). -/
structure CommitJob where
  /-- The slot being written. -/
  slot : SealSlot
  /-- Log entries before step 2. -/
  before : Nat
  /-- A close waits for its end (R463). -/
  close : Bool
  deriving DecidableEq, Repr

/-- What the seal holds beside its registers. -/
structure SealState where
  /-- Slots A and B; none where no valid slot is stored. -/
  slots : List (Option SealSlot)
  /-- Change log, oldest first: 96 bytes each (R464). -/
  log : List (List Byte)
  /-- Next SEQ of the log. -/
  nextSeq : Nat
  /-- Pending copy: offset and RWS bits (R453). -/
  pend : List (Nat × Nat)
  /-- Pending password: salt and hash (R455). -/
  pendPw : Option (List Byte × List Byte)
  /-- Password registers: 16 words, and the length. -/
  pw : List Nat
  /-- See `pw`. -/
  pwLen : Nat
  /-- Password check in progress: port and password (R456). -/
  check : Option (Nat × List Byte)
  /-- Commit in progress. -/
  job : Option CommitJob
  /-- Counter ns of the last write that restarts the idle time (R452). -/
  idleSince : Nat
  /-- Counter ns at which the back-off ends (R456). -/
  boEnd : Nat
  /-- Committed recorder and level words for the next major tick (R462). -/
  major : Option (List (Nat × Nat))
  deriving DecidableEq, Repr

/-- Seal of a module whose MRAM holds no slot and no log (log 20). [DESIGN CHOICE: log 5] -/
def SealState.reset : SealState :=
  { slots := [none, none], log := [], nextSeq := 0, pend := [], pendPw := none, pw := List.replicate 16 0, pwLen := 0, check := none
    job := none, idleSince := 0, boEnd := 0, major := none }

/-! ### Chapter 16: redundancy -/

/-- A decided change of role, for the next major tick (R481). -/
inductive RoleMove where
  /-- CLAIM accepted. -/
  | claim
  /-- Axolotl completed. -/
  | joined
  /-- A Hot Standby takes command; by a planned hand-over or not. -/
  | take (planned : Bool)
  /-- The In Command hands over and becomes Hot Standby. -/
  | give
  /-- Back to Monitor. -/
  | monitor
  /-- To Retired. -/
  | retire
  /-- To Retired: named faulty by the comparison of the frame (R494); a lane check of the frame prevails (R491). -/
  | named
  /-- Retired to Monitor. -/
  | rejoin
  deriving DecidableEq, Repr

/-- What is held of one position of the group. -/
structure PeerLink where
  /-- FSEQ of the last frame taken (R477). -/
  fseq : Option Nat
  /-- Its T. -/
  lastT : Nat
  /-- FSEQ and T of the last frame forwarded. -/
  fwd : Option (Nat × Nat)
  /-- Consecutive MIR windows without a record (R479). -/
  miss : Nat
  /-- A record has come since the last MIR window. -/
  fresh : Bool
  /-- Last status record; empty before the first. -/
  record : List Byte
  /-- Its T. -/
  recT : Nat
  deriving DecidableEq, Repr

/-- Comparison of a pair of positions (R492, R493). -/
structure PairCmp where
  /-- Consecutive disagreeing frames. -/
  dis : Nat
  /-- Consecutive agreeing frames. -/
  agree : Nat
  /-- The pair is split. -/
  split : Bool
  deriving DecidableEq, Repr

/-- Axolotl on the joining module (R496). -/
structure Axo where
  /-- Frames since the one whose record carried the request. -/
  step : Nat
  /-- The In Command it joins. -/
  ic : Nat
  /-- Parts received. -/
  parts : List (Nat × List Byte)
  deriving DecidableEq, Repr

/-- A snapshot the In Command sends (R496). -/
structure AxoSend where
  /-- Position of the joining module. -/
  dest : Nat
  /-- T of the record that asked. -/
  t : Nat
  /-- The snapshot, once captured. -/
  snap : Option (List Byte)
  /-- Next part. -/
  next : Nat
  deriving DecidableEq, Repr

/-- What the redundancy unit holds beside its registers. -/
structure RedState where
  /-- Newest EPOCH seen (R483). -/
  newest : Nat
  /-- An EPOCH newer than its own has been seen while In Command (R484). -/
  superseded : Bool
  /-- The next status record is the first since the reset (R477). -/
  first : Bool
  /-- FSEQ of the next frame. -/
  fseq : Nat
  /-- Positions 0 to 2. -/
  peers : List PeerLink
  /-- Pairs (0,1), (0,2), (1,2). -/
  pairs : List PairCmp
  /-- The peer last known as In Command. -/
  ic : Option Nat
  /-- MIR windows since a record with ROLE In Command, at most 15 (R482). -/
  icAge : Nat
  /-- MIR windows since a record that reported this module's position. -/
  dupAge : Nat
  /-- Decided change of role. -/
  move : Option RoleMove
  /-- CLAIM waiting for its MIR window; FORCE. -/
  claim : Option Bool
  /-- JOIN waiting for its MIR window. -/
  join : Bool
  /-- HANDOVER waiting: target and counter ns of its application (R489). -/
  handover : Option (Nat × Nat)
  /-- SINGLE_LANE hands command at the next MIR window (R473). -/
  single : Bool
  /-- Target the next status record names without a request (R474, R481, R494). -/
  offer : Option Nat
  /-- Lanes that retire at the next major tick (R475). -/
  retire : Nat
  /-- The module left its role for a lane check (R474). -/
  ousted : Bool
  /-- The next minor frame copies the lanes' state (R472). -/
  copy : Bool
  /-- Axolotl in progress on this module. -/
  axo : Option Axo
  /-- Snapshots this module sends. -/
  axoOut : List AxoSend
  /-- Mirror set received since the last major tick. -/
  mir : Option (List Byte)
  /-- Mirror set last sent or applied; empty if none. -/
  mirLast : List Byte
  /-- Consecutive missing mirror sets (R487). -/
  mirMiss : Nat
  /-- Profile axes and released outputs at the last major tick, as R488 lays them out. -/
  ticked : List Byte
  /-- Released outputs of the last mirror set applied (R490). -/
  uLast : Option (List Int)
  /-- The next minor tick presets the CTL slots (R490). -/
  preset : Bool
  /-- A drive acknowledged the current EPOCH since the last MIR window (R485). -/
  fbSeen : Bool
  /-- MIR windows since one did, at most 15. -/
  fbAge : Nat
  /-- Stage faults already acted on (R481). -/
  faultSeen : Nat
  /-- Parameters that differ from their after-reset values, as of the digest in effect (R495); none before the first. -/
  cfg : Option (List (Nat × Nat))
  /-- Health telegrams formed. -/
  hseq : Nat
  /-- A health telegram waits for the Kalmer link, and for Ethernet (R499). -/
  healthKl : Bool
  /-- See `healthKl`. -/
  healthEth : Bool
  /-- Frames sent since the last MIR window began: links and bytes. -/
  out : List (Nat × List Byte)
  deriving DecidableEq, Repr

/-- A position before anything was heard of it. -/
def PeerLink.init : PeerLink := { fseq := none, lastT := 0, fwd := none, miss := 0, fresh := false, record := [], recT := 0 }

/-- Redundancy unit after reset (R500). [DESIGN CHOICE: log 364] -/
def RedState.reset : RedState :=
  { newest := 0, superseded := false, first := true, fseq := 0, peers := List.replicate 3 PeerLink.init
    pairs := List.replicate 3 { dis := 0, agree := 0, split := false }, ic := none, icAge := 15, dupAge := 15, move := none, claim := none
    join := false, handover := none, single := false, offer := none, retire := 0, ousted := false, copy := false, axo := none, axoOut := []
    mir := none, mirLast := [], mirMiss := 0, ticked := [], uLast := none, preset := false, fbSeen := false, fbAge := 15, faultSeen := 0
    cfg := none, hseq := 0, healthKl := false, healthEth := false, out := [] }

/-! ### Chapter 17: event recorder -/

/-- A trigger waiting for its snapshot (R506, R507). -/
structure Trig where
  /-- Event number. -/
  ev : Nat
  /-- Snapshot profile. -/
  prof : Nat
  /-- Seconds at the raising. -/
  sec : Nat
  /-- Nanoseconds at the raising. -/
  ns : Nat
  /-- The snapshot falls in a later minor frame than the raising (FLAGS.LATE). -/
  late : Bool
  /-- The snapshot instant of the running minor frame still lies ahead. -/
  due : Bool
  deriving DecidableEq, Repr

/-- A record in the burst buffer (R510, R511). -/
structure BurstRec where
  /-- SEQ; none before READY. -/
  seq : Option Nat
  /-- SRC, event number. -/
  src : Nat
  /-- PROF. -/
  prof : Nat
  /-- FLAGS without bit 3. -/
  flags : Nat
  /-- ROLE byte. -/
  role : Nat
  /-- Seconds of TIME. -/
  sec : Nat
  /-- Nanoseconds of TIME. -/
  ns : Nat
  /-- LOST. -/
  lost : Nat
  /-- SNAPLAG. -/
  lag : Nat
  /-- BOOTCNT. -/
  boot : Nat
  /-- Snapshot words. -/
  snap : List Nat
  deriving DecidableEq, Repr

/-- The recorder index in MRAM (R524). -/
structure RecIndex where
  /-- Next SEQ. -/
  seq : Nat
  /-- Slot of the last verified record. -/
  head : Nat
  /-- N in use. -/
  n : Nat
  /-- Permanent slots used. -/
  used : Nat
  /-- PERMFULL. -/
  full : Bool
  /-- WRAPPED. -/
  wrapped : Bool
  deriving DecidableEq, Repr

/-- What the recorder holds beside the REC registers. -/
structure RecState where
  /-- Triggers waiting for a snapshot, in order of raising. -/
  trigs : List Trig
  /-- Burst buffer, oldest first, at most 64 (R512). -/
  burst : List BurstRec
  /-- Triggers dropped since the last record formed (R512). -/
  lostSince : Nat
  /-- Slots of MRAM that are not all zero: slot number and its 256 bytes, numbers rising (R502). -/
  slots : List (Nat × List Byte)
  /-- The index; none while its area reads as erased (R524). -/
  index : Option RecIndex
  /-- Words of the bad-slot map in MRAM that are not zero, numbers rising (R502). -/
  badmap : List (Nat × Nat)
  /-- Last slot a write was attempted at since the reset (R517). -/
  lastSlot : Option Nat
  /-- Last-gasp ring of the backup domain: entry number and its 32 bytes (R517, R604). -/
  ring : List (Nat × List Byte)
  /-- Ring entries written since the last notice, oldest first (R519). -/
  notice : List (List Byte)
  /-- Records written in the running slow frame (REC_RATE). -/
  rate : Nat
  deriving DecidableEq, Repr

/-! ### Chapter 18: host ports -/

/-- An item for the receive streams (R546, R547). -/
structure RxItem where
  /-- STREAM. -/
  stream : Nat
  /-- STAMP. -/
  stamp : Nat
  /-- ETHPORT. -/
  port : Nat
  /-- The item. -/
  bytes : List Byte
  deriving DecidableEq, Repr

/-- A descriptor fetched by the ring engine, or a posted buffer (R533, R547). -/
structure Desc where
  /-- OPC. -/
  opc : Nat
  /-- FLAGS. -/
  flags : Nat
  /-- TAG. -/
  tag : Nat
  /-- The 64 bytes. -/
  raw : List Byte
  /-- Submission head after this descriptor. -/
  head : Nat
  /-- Counter ns of the doorbell that made it available (R544). -/
  bell : Nat
  /-- It has started; a buffer is posted; a SNAP_COPY with WAIT waits. -/
  started : Bool
  /-- Carried out: STATUS, RESULT0, RESULT1. -/
  done : Option (Nat × Nat × Nat)
  deriving DecidableEq, Repr

/-- What a ring pair holds beside its registers. -/
structure Ring where
  /-- Submission tail last accepted. -/
  sqTail : Nat
  /-- Completion head last accepted. -/
  cqHead : Nat
  /-- Descriptors in flight, or buffers posted, oldest first. -/
  queue : List Desc
  /-- An interrupt is pending (R557). -/
  irq : Bool
  /-- Items delivered since EN, modulo 65,536 (R547). -/
  seq : Nat
  /-- Completions the host has not read. -/
  unread : Nat
  /-- Accepted SQTAIL doorbells whose descriptors are not all fetched, oldest first: index and counter ns (R544). -/
  bells : List (Nat × Nat)
  deriving DecidableEq, Repr

/-- An entry of the MSI-X table (R527). -/
structure MsixEntry where
  /-- Message address. -/
  addr : Nat
  /-- Message data. -/
  data : Nat
  /-- The vector is masked. -/
  masked : Bool
  deriving DecidableEq, Repr

/-- What a host port holds beside its registers. -/
structure HostPort where
  /-- Rings Q0 to Q15. -/
  rings : List Ring
  /-- Writes to host memory, newest first: address and bytes; the newest 64 are kept. -/
  out : List (Nat × List Byte)
  /-- MSI-X table, 32 entries. -/
  table : List MsixEntry
  /-- The function is masked (R556). -/
  fmask : Bool
  /-- Pending-bit array. -/
  pba : Nat
  /-- Vectors whose message waits for the end of the MOD interval. -/
  due : Nat
  /-- Asserted vectors whose message has been sent, deferred or noted in the pending-bit array. -/
  told : Nat
  /-- Counter ns of the last message of each vector. -/
  sentAt : List (Option Nat)
  /-- Messages sent since reset. -/
  sent : Nat
  deriving DecidableEq, Repr

/-- What the host interface holds beside the HIF registers. -/
structure HifState where
  /-- Items waiting for delivery, oldest first. -/
  items : List RxItem
  /-- Ports HP0 and HP1. -/
  ports : List HostPort
  /-- The instant at which a doorbell first requested the snapshot that waits (R561). -/
  snapReq : Option Nat
  /-- The words of a bank that becomes complete at tick + 20 µs (R562). -/
  bank : Option (List Nat)
  /-- Port served last, for PRIO 0 and 1 (R543). -/
  lastPort : List Nat
  /-- Ring served last: HP0 PRIO 0, HP0 PRIO 1, HP1 PRIO 0, HP1 PRIO 1. -/
  lastRing : List Nat
  /-- Counter ns in this major frame during which the ring engine was in use (R544). -/
  busyNs : Nat
  /-- Counter ns from which the engine has been in use. -/
  busyFrom : Option Nat
  deriving DecidableEq, Repr

/-- A ring after reset. -/
def Ring.init : Ring := { sqTail := 0, cqHead := 0, queue := [], irq := false, seq := 0, unread := 0, bells := [] }

/-- A port after reset. [PRESUMED: log 348] -/
def HostPort.init : HostPort :=
  { rings := List.replicate 16 Ring.init, out := [], table := List.replicate 32 { addr := 0, data := 0, masked := true }, fmask := false
    pba := 0, due := 0, told := 0, sentAt := List.replicate 32 none, sent := 0 }

/-- Host interface after reset. -/
def HifState.reset : HifState :=
  { items := [], ports := List.replicate 2 HostPort.init, snapReq := none, bank := none
    lastPort := [1, 1], lastRing := [15, 15, 15, 15], busyNs := 0, busyFrom := none }

/-! ### Chapter 19: boot, life cycle, secure store -/

/-- An image slot of MRAM (R564): the image placed in production; words written through the window, index and value, indices
rising, zero words not listed; or words written over the image of production. -/
inductive ImgSlot where
  | factory | words (l : List (Nat × Nat)) | patched (l : List (Nat × Nat))
  deriving DecidableEq, Repr

/-- Supply of a lane SRAM bank (R585, R608). -/
inductive SramPower where
  /-- Usable. -/
  | on
  /-- Retained at 0.55 V. -/
  | retained
  /-- Without supply. -/
  | off
  deriving DecidableEq, Repr

/-- What a lane SRAM bank holds: the spec names no word of it. [DEDUCED: log 409] -/
inductive SramData where
  /-- Zeros with valid check bits (R585). -/
  | zeros
  /-- The body of the lane image (R566). -/
  | image
  /-- Data of the running firmware. -/
  | data
  deriving DecidableEq, Repr

/-- A bank of a lane's SRAM: 768 KiB (R8, R585). -/
structure SramBank where
  /-- Its supply. -/
  power : SramPower
  /-- Its contents. -/
  held : SramData
  deriving DecidableEq, Repr

/-- Boot record of one image type (R567). -/
structure BootRec where
  /-- ACTIVE slot. -/
  active : Nat
  /-- TRIAL: the other slot is on trial. -/
  trial : Bool
  /-- TRIALRUN. -/
  trialRun : Bool
  deriving DecidableEq, Repr

/-- An entry of the secure store (R582). -/
structure StoreEntry where
  /-- HOSTREAD. -/
  hostRead : Bool
  /-- 64 words. -/
  words : List Nat
  deriving DecidableEq, Repr

/-- What boot, life cycle and secure store hold beside the SEC registers. -/
structure SecState where
  /-- Lane slots A and B, island slots A and B. -/
  images : List ImgSlot
  /-- Boot records of lane and island. -/
  boot : List BootRec
  /-- Minimum security versions of lane and island (OTP). -/
  svnMin : List Nat
  /-- Raises left of each type (R575). -/
  raises : List Nat
  /-- Life-cycle state (OTP, R579). -/
  lc : Nat
  /-- State at the next module reset. -/
  lcNext : Option Nat
  /-- Life-cycle command in progress: its target (R580). -/
  lcJob : Option Nat
  /-- Steps left (R578). -/
  steps : Nat
  /-- The lanes' images run: slot, for each image type. -/
  running : List (Option Nat)
  /-- DIGEST of the running island image (R569). -/
  islDigest : List Byte
  /-- Secure store: entries that hold data, numbers rising (R582). -/
  store : List (Nat × StoreEntry)
  /-- Staging copy of the window, 64 words. -/
  stag : List Nat
  /-- RMA token registers, 24 words. -/
  token : List Nat
  /-- Report in progress: its bytes 0 to 479 (R573). -/
  report : Option (List Byte)
  /-- An update is owned. -/
  fwOwned : Bool
  /-- Draw of the RMA challenge (R581). -/
  chal : Nat
  /-- MR0 has been extended since the module reset (R566). -/
  mr0 : Bool
  /-- Lane SRAM: 16 banks for each of Lane A and Lane B (R8, R585). -/
  sram : List (List SramBank)
  deriving DecidableEq, Repr

/-- A provisioned module after reset (log 6, log 22). -/
def SecState.reset : SecState :=
  { images := [.factory, .words [], .factory, .words []], boot := List.replicate 2 { active := 0, trial := false, trialRun := false }
    svnMin := [0, 0], raises := [63, 63], lc := 2, lcNext := none, lcJob := none, steps := 30, running := [none, none], islDigest := List.replicate 48 0#8
    store := [], stag := List.replicate 64 0, token := List.replicate 24 0, report := none, fwOwned := false, chal := 0, mr0 := false
    sram := List.replicate 2 (List.replicate 16 { power := .on, held := .zeros }) }

/-! ### Chapter 20: real-time clock -/

/-- What the backup domain holds beside the RTC registers. -/
structure RtcState where
  /-- The count: SEC × 65,536 + FRAC (R589). -/
  count : Nat
  /-- Part of a crystal pulse elapsed: ns × 32,768, below 10^9 (log 32). -/
  acc : Nat
  /-- Crystal pulses counted in the trim window (R595). -/
  k : Nat
  /-- Trim value of the window. -/
  trim : Int
  /-- Raw crystal pulses. -/
  pulses : Nat
  /-- The crystal stands still (R590). -/
  stopped : Bool
  /-- SEC was written while halted (R590). -/
  wroteSec : Bool
  /-- Raw pulse count at the start of an automatic trim measurement (R596). -/
  trimAt : Option Nat
  /-- 1,024 intervals of the measurement are complete: the pulses counted in them. -/
  trimDue : Option Nat
  /-- Events waiting for READY (R606). -/
  held : List Nat
  /-- Conversion in progress: the words it will write (R598). -/
  conv : List (Nat × Nat)
  /-- TIM counter second of the last internal PPS handled (R593). -/
  ppsSec : Nat
  deriving DecidableEq, Repr

/-- Real-time clock as a domain power-up leaves it (R588). -/
def RtcState.reset : RtcState :=
  { count := 0, acc := 0, k := 0, trim := 0, pulses := 0, stopped := false, wroteSec := false, trimAt := none, trimDue := none, held := []
    conv := [], ppsSec := 0 }


/-! ### Chapter 21: power states and supplies -/

/-- What the power and reset unit holds beside the PWR registers. -/
structure PwrState where
  /-- The accepted request that waits for its entry (R610). -/
  req : Option Nat
  /-- Rails outside their range, bit k for rail k of R613. -/
  bad : Nat
  deriving DecidableEq, Repr

/-- Power and reset unit after reset, every rail within its range (log 33). -/
def PwrState.reset : PwrState := { req := none, bad := 0 }

/-- What one lane holds of its own: the per-lane blocks FRM, SIG, ALN, EST, CLE, ALC and PRF (R5). -/
structure LaneCopy where
  /-- Words of the per-lane blocks that differ from their after-reset value. -/
  words : List (Nat × Word)
  /-- Frame sequencer. -/
  frm : FrmState
  /-- Signal chain. -/
  sig : SigState
  /-- Alignment unit. -/
  aln : AlnState
  /-- Estimator. -/
  est : EstState
  /-- Control engine and mode unit. -/
  cle : CleState
  /-- Allocator, envelopes, failure groups, energy. -/
  alc : AlcState
  /-- Profile axes. -/
  prf : PrfState
  /-- Telegrams the lane has formed and that wait for their release (R414). -/
  formed : List (Option (List Byte))
  deriving DecidableEq, Repr

/-- The state of the machine. -/
structure State where
  /-- Every software-visible field (R20). -/
  regs : RegFile
  /-- Shadows of multi-word values (R26). -/
  shadow : List (Nat × Nat)
  /-- The word the last host read returned (R25). -/
  hostData : Nat
  /-- Free values drawn so far; the model's own (log 3). -/
  freeCtr : Nat
  /-- Commands that wait, first in first out. -/
  pending : List Instr
  /-- Frame sequencer. -/
  frm : FrmState
  /-- Time base. -/
  tim : TimState
  /-- Network ports. -/
  eth : EthState
  /-- Signal chain. -/
  sig : SigState
  /-- Alignment unit. -/
  aln : AlnState
  /-- Estimator. -/
  est : EstState
  /-- Recorder. -/
  rcd : RecState
  /-- Real-time clock and calendar port. -/
  rtc : RtcState
  /-- GNSS baseband. -/
  gns : GnsState
  /-- Host ports. -/
  hif : HifState
  /-- Control engine and mode unit. -/
  cle : CleState
  /-- Allocator, envelopes, failure groups, energy. -/
  alc : AlcState
  /-- Profile axes. -/
  prf : PrfState
  /-- CAN controllers and drive telegrams. -/
  can : CanState
  /-- Redundancy unit. -/
  red : RedState
  /-- Safety island. -/
  saf : SafState
  /-- Sealed configuration and change log. -/
  sld : SealState
  /-- Boot, life cycle, secure store. -/
  sec : SecState
  /-- Power states and supplies. -/
  pwr : PwrState
  /-- What Lane B holds, where it differs from Lane A; the fields above are Lane A's, or those of the one lane alive (R5, R7). -/
  twin : Option LaneCopy
  deriving DecidableEq, Repr

/-- Frame sequencer after reset (R65). -/
def FrmState.reset : FrmState :=
  { pend := [], releaseAll := false, level := 0, done := 0, supOk := false, stale := 0, staleIn := 0, staleMaj := 0, running := 0, injectLeft := 0
    utilMax := 0, onceMajor := [], onceMinor := [], firstMajor := false }

/-- Time base after reset; the counter is loaded from the RTC later (R99). -/
def TimState.reset : TimState :=
  { ctr := ⟨0, 0, 0⟩, finePend := none, freq := 0, phase := 0, gnssCount := 0, ptpCount := 0, ptpQual := false, ptpAt := 0, ptpLog := 0
    inLim := 0, outLim := 0, lockAt := 0, hist := [], fines := [], holdStart := 0, holdU0 := 0, step := none
    pulseEnd := List.replicate 16 none, capFifo := [], capIn := List.replicate 32 none }

/-- A port after reset. -/
def EthPort.reset : EthPort :=
  { upSince := 0, queues := [[], [], [], []], ptpQ := [], sent := none, best := none, annAt := 0, annMiss := 0, ptpRx := [], reqs := []
    lastTx := [none, none, none], seqs := [0, 0, 0], sync := none, twoStep := none, asked := none, askedTwo := none, delay := none }

/-- Network ports after reset. -/
def EthState.reset : EthState := { ports := List.replicate 4 EthPort.reset, seen := [], igmp := [] }

/-- A signal channel after reset (R185). -/
def Chan.init : Chan :=
  { win := [], coarse := 0, line := [], fine := none, fadeK := 0, bankK := 0, bankF := 0, oldTaps := none, oldNew := none, oldK := 0, age := 0
    rho := 0, last := 0, stamp := 0, stampAdj := false, arriving := [], ready := [], reset := .none, timedOut := false, srcv := false
    srcvAt := false, tachoPrev := none, tachoAt := 0, tachoZero := false }

/-- Signal chain after reset. -/
def SigState.reset : SigState :=
  { chans := List.replicate 96 Chan.init, tachoIn := List.replicate 16 none, uartAt := List.replicate 12 0 }

/-- A stream after reset (R209). -/
def Stream.init : Stream := { pend := [], tauP := 0, misses := 0, orphans := 0, seed := false }

/-- Alignment unit after reset. -/
def AlnState.reset : AlnState :=
  { streams := List.replicate 32 Stream.init, queue := [], proj := 0, inner := [], att := [], hdg := [], out := [] }

/-- Recorder after reset, MRAM erased (log 21). -/
def RecState.reset : RecState :=
  { trigs := [], burst := [], lostSince := 0, slots := [], index := none, badmap := [], lastSlot := none, ring := [], notice := [], rate := 0 }

/-- The machine right after reset. [DESIGN CHOICE: log 7 and 34] -/
def State.reset : State :=
  { regs := RegFile.empty, shadow := [], hostData := 0, freeCtr := 1, pending := []
    frm := FrmState.reset, tim := TimState.reset, eth := EthState.reset, sig := SigState.reset, aln := AlnState.reset, est := EstState.reset, rcd := RecState.reset
    rtc := RtcState.reset
    gns := GnsState.reset
    hif := HifState.reset
    cle := CleState.reset
    alc := AlcState.reset
    prf := PrfState.reset
    can := CanState.reset
    red := RedState.reset
    saf := SafState.reset
    sld := SealState.reset
    sec := SecState.reset
    pwr := PwrState.reset
    twin := none }

end Sys2Proof.Machine
end

