-- ==== Sys2Proof/Machine/Ops.lean ====
section
/-! DEFINITION. The named operations over the state: fields of registers, the time counter (R75 to R80), the grid of ticks
(R37 to R39), events (R28, R553, R554) and the triggers they make (R506, R517, R518). -/

namespace Sys2Proof.Machine

open Sys2Proof

/-! ### Fields -/

/-- A field as a number. -/
def State.get (s : State) (f : Fld) : Nat := s.regs.get f
/-- A one-bit field. -/
def State.flag (s : State) (f : Fld) : Bool := s.get f != 0
/-- A field as a two's-complement number. -/
def State.getI (s : State) (f : Fld) : Int := toInt (f.hi + 1 - f.lo) (s.get f)
/-- Sets a field. -/
def State.put (s : State) (f : Fld) (v : Nat) : State := { s with regs := s.regs.put f v }
/-- Sets a one-bit field. -/
def State.putB (s : State) (f : Fld) (b : Bool) : State := s.put f (b2n b)
/-- Sets a field to a two's-complement number. -/
def State.putI (s : State) (f : Fld) (x : Int) : State := s.put f (ofInt (f.hi + 1 - f.lo) x)
/-- Sets a field to a signed number, held inside the field's range. -/
def State.putSat (s : State) (f : Fld) (x : Int) : State := s.putI f (clampS (f.hi + 1 - f.lo) x)
/-- Counts a field up; it stops at its top value. -/
def State.inc (s : State) (f : Fld) : State := s.put f (satInc (2 ^ (f.hi + 1 - f.lo) - 1) (s.get f))
/-- Counts a field up; it wraps. -/
def State.incWrap (s : State) (f : Fld) : State := s.put f (s.get f + 1)
/-- Raises a field to at least a value. -/
def State.putMax (s : State) (f : Fld) (v : Nat) : State := s.put f (max (s.get f) v)
/-- Sets bits of a field. -/
def State.orBits (s : State) (f : Fld) (m : Nat) : State := s.put f (Nat.lor (s.get f) m)
/-- Sets or clears one bit inside a field. -/
def State.putBit (s : State) (f : Fld) (k : Nat) (b : Bool) : State := s.put ⟨f.off, f.lo + k, f.lo + k⟩ (b2n b)
/-- One bit inside a field. -/
def State.bit (s : State) (f : Fld) (k : Nat) : Bool := bitOf (s.get f) k
/-- The word at an offset. -/
def State.word (s : State) (off : Nat) : Nat := (s.regs.word off).toNat
/-- Sets the word at an offset. -/
def State.setWord (s : State) (off v : Nat) : State := { s with regs := s.regs.setWord off (BitVec.ofNat 32 v) }
/-- Sets consecutive words from an offset. -/
def State.setWords (s : State) : Nat → List Nat → State
  | _, [] => s
  | off, w :: t => (s.setWord off w).setWords (off + 4) t
/-- The words from an offset. -/
def State.words (s : State) (off n : Nat) : List Nat := (List.range n).map (fun k => s.word (off + 4 * k))
/-- A state changed by a function if a condition holds. -/
def State.when (s : State) (b : Bool) (f : State → State) : State := cond b (f s) s
/-- A state changed once for every element of a list, in order. -/
def State.each {α : Type} (s : State) (l : List α) (f : State → α → State) : State := l.foldl f s
/-- A free number: a draw nothing is known of; the counter moves on with `drawn` (log 2). -/
def State.free (s : State) : Nat := Config.freeNat s.freeCtr
/-- A free integer. -/
def State.freeI (s : State) : Int := Config.freeInt s.freeCtr
/-- Moves on to the next free value. -/
def State.drawn (s : State) : State := { s with freeCtr := s.freeCtr + 1 }

/-! ### The time counter -/

/-- SEC and NS together, in nanoseconds. -/
def Counter.total (c : Counter) : Nat := c.sec * 1000000000 + c.ns
/-- LinNs (R79). -/
def Counter.lin (c : Counter) : Nat := c.total % 2 ^ 64
/-- SEC, NS and SUB together, in 2^-32 ns. -/
def Counter.fine (c : Counter) : Nat := c.total * 2 ^ 32 + c.sub
/-- The counter at a number of 2^-32 ns. -/
def Counter.ofFine (n : Nat) : Counter :=
  { sec := n / 2 ^ 32 / 1000000000 % 2 ^ 48, ns := n / 2 ^ 32 % 1000000000, sub := n % 2 ^ 32 }
/-- The instant now, in nanoseconds of the counter. -/
def State.now (s : State) : Nat := s.tim.ctr.total
/-- LinNs now. -/
def State.lin (s : State) : Nat := s.tim.ctr.lin
/-- Signed difference of two LinNs values (R80). -/
def linDiff (a b : Nat) : Int := toInt 64 ((a + 2 ^ 64 - b % 2 ^ 64) % 2 ^ 64)
/-- The FINE limit, 500 ppm (R76). -/
def fineMax : Int := 8589935
/-- FINE as the counter uses it (R76). -/
def clampFine (x : Int) : Int := clampI (-fineMax) fineMax x
/-- The increment of one 250 MHz edge, 2^-32 ns (R76). -/
def State.edgeStep (s : State) : Nat := ((4 * 2 ^ 32 : Int) + clampFine (s.getI F.TIM_INCR_FINE)).toNat
/-- Edges until the counter has reached or passed an instant given in 2^-32 ns. -/
def State.edgesTo (s : State) (target : Nat) : Nat :=
  (target - s.tim.ctr.fine + s.edgeStep - 1) / s.edgeStep
/-- What `p` crystal pulses from pulse `k` of a trim window add to FRAC under a trim value (R589, R595). -/
def rtcGain (k p : Nat) (v : Int) : Int :=
  2 * p + 2 * sgn v * (((k + p) * v.natAbs / 2 ^ 25 : Nat) - (k * v.natAbs / 2 ^ 25 : Nat) : Int)
/-- The count after `p` raw crystal pulses (R589, R592, R595). A trim window that ends takes the register's trim value for the next. -/
def State.rtcPulses (s : State) (p : Nat) : RtcState :=
  let r1 := { s.rtc with pulses := s.rtc.pulses + p }
  if s.flag F.RTC_CTRL_HALT then r1
  else if r1.k + p < 2 ^ 25 then
    { r1 with k := r1.k + p, count := ofInt 64 (r1.count + rtcGain r1.k p r1.trim) }
  else
    let v := s.getI F.RTC_TRIM_VALUE
    let p1 := 2 ^ 25 - r1.k
    { r1 with k := (p - p1) % 2 ^ 25, trim := v, count := ofInt 64 (r1.count + rtcGain r1.k p1 r1.trim + rtcGain 0 (p - p1) v) }
/-- The crystal counts on for `n` edges of the 250 MHz clock, both at their nominal frequency (log 32). -/
def State.rtcRun (s : State) (n : Nat) : RtcState :=
  if s.rtc.stopped then s.rtc
  else
    let a := s.rtc.acc + n * 4 * 32768
    { s.rtcPulses (a / 1000000000) with acc := a % 1000000000 }
/-- Lets `n` edges of the 250 MHz clock pass (R76). -/
def State.edges (s : State) (n : Nat) : State :=
  { s with tim := { s.tim with ctr := Counter.ofFine (s.tim.ctr.fine + n * s.edgeStep) }, rtc := s.rtcRun n }
/-- The time base is loaded and runs (R99). -/
def State.ready (s : State) : Bool := s.flag F.TIM_STATUS_READY
/-- The next value, in ns, after now that is a multiple of `m` (R38). -/
def State.nextGrid (s : State) (m : Nat) : Nat := (s.now / m + 1) * m
/-- Runs the counter to the first edge that has reached or passed an instant in ns. -/
def State.runTo (s : State) (t : Nat) : State := if s.now < t then s.edges (s.edgesTo (t * 2 ^ 32)) else s
/-- Runs the counter towards an instant in ns, but not past the last edge before the next minor tick: no command but a
tick lets a tick pass (log 11). -/
def State.runInside (s : State) (t : Nat) : State :=
  if s.ready then
    let lim := s.edgesTo (s.nextGrid 250000 * 2 ^ 32) - 1
    if s.now < t then s.edges (min lim (s.edgesTo (t * 2 ^ 32))) else s
  else s
/-- The minor tick of the running minor frame. -/
def State.minTick (s : State) : Nat := s.now / 250000 * 250000 % 2 ^ 64
/-- The major tick of the running major frame. -/
def State.majTick (s : State) : Nat := s.now / 10000000 * 10000000 % 2 ^ 64
/-- Bytes of a DTime in host memory order (R15, R18). -/
def dtimeLe (sec ns : Nat) : List Byte := leBytes 6 sec ++ leBytes 4 ns
/-- Bytes of a DTime on the wire. -/
def dtimeBe (sec ns : Nat) : List Byte := beBytes 6 sec ++ beBytes 4 ns
/-- A CAN stamp: LinNs / 16, truncated, modulo 2^32 (R15). -/
def canStamp (lin : Nat) : Nat := lin / 16 % 2 ^ 32

/-! ### Role and lanes, as every structure with a ROLE byte names them -/

/-- Role code of R479. -/
def State.role (s : State) : Nat := s.get F.RED_STATUS_ROLE
/-- The module is In Command. -/
def State.inCommand (s : State) : Bool := s.role == 1
/-- Both lanes are alive. -/
def State.dualLane (s : State) : Bool := s.get F.RED_STATUS_LANES == 3
/-- Byte 11 of a record: role and position (R510). -/
def State.roleByte (s : State) : Nat := s.role % 4 + 4 * (s.get F.RED_CFG_POS % 4)

/-! ### Events -/

/-- Bytes of a last-gasp ring entry (R517). -/
def ringEntry (kind src seq sec ns cause role slot boot : Nat) : List Byte :=
  let b := leBytes 2 0x4C47 ++ leBytes 1 kind ++ leBytes 1 src ++ leBytes 4 seq ++ dtimeLe sec ns ++ leBytes 1 cause ++
    leBytes 1 role ++ leBytes 4 slot ++ leBytes 4 boot
  b ++ leBytes 4 (crc32c b)

/-- Writes one entry into the last-gasp ring; the oldest is overwritten when the ring is full, and counted when it had not
been copied (R517, R604). -/
def State.ringWrite (s : State) (kind src cause slot : Nat) : State :=
  let seq := s.get F.REC_SEQ_SEQ
  let wr := s.get F.RTC_LGSTAT_WR
  let e := ringEntry kind src seq s.tim.ctr.sec s.tim.ctr.ns cause s.roleByte slot (s.get F.SEC_BOOTCNT_COUNT)
  let full := s.get F.REC_LG_NEW == 32
  let s1 := { s with rcd := { s.rcd with ring := putKey wr e s.rcd.ring, notice := s.rcd.notice ++ [e] } }
  let s2 := ((s1.put F.REC_SEQ_SEQ (seq + 1)).put F.RTC_LGSTAT_WR (wr + 1)).put F.RTC_LGSTAT_USED
    (satInc 32 (s.get F.RTC_LGSTAT_USED))
  if full then (s2.inc F.REC_LG_LGLOST).put F.REC_LG_COPIED (s.get F.REC_LG_COPIED + 1)
  else s2.put F.REC_LG_NEW (s.get F.REC_LG_NEW + 1)

/-- Sets the pending bit of an event in both ports (R554). -/
def State.pendEvent (s : State) (e : Nat) : State :=
  (s.orBits (F.HIF_EV_PEND_PEND 0 (e / 32)) (2 ^ (e % 32))).orBits (F.HIF_EV_PEND_PEND 1 (e / 32)) (2 ^ (e % 32))

/-- The frames do not run or a re-anchor gap holds the grid, or the snapshot of this minor frame is past (R507). -/
def State.snapPassed (s : State) : Bool := 240000 ≤ s.now % 250000

/-- Event 210, at most once per major frame while ring entries are written (R517); it makes an entry itself (R518). -/
def State.gaspEvent (s : State) : State :=
  if s.frm.onceMajor.contains 210 then s
  else
    let s1 := s.when (s.flag F.REC_CTRL_EN && s.flag (F.REC_TRIG_EN 210)) (·.ringWrite 2 210 0 0xFFFFFFFF)
    ({ s1 with frm := { s1.frm with onceMajor := 210 :: s1.frm.onceMajor } }).pendEvent 210

/-- The trigger an event makes (R506): a snapshot to come, or a last-gasp entry in FAULT (R518). Event 214 makes none. -/
def State.trigger (s : State) (e : Nat) : State :=
  if s.flag F.REC_CTRL_EN && s.flag (F.REC_TRIG_EN e) && e != 214 then
    if s.get F.REC_STATUS_STATE = 2 then
      (s.ringWrite 2 e 0 0xFFFFFFFF).gaspEvent
    else
      let late := s.flag F.FRM_STATUS_GAP || (s.flag F.FRM_STATUS_RUNNING && s.snapPassed)
      { s with rcd := { s.rcd with trigs := s.rcd.trigs ++
          [{ ev := e, prof := s.get (F.REC_TRIG_PROF e), sec := s.tim.ctr.sec, ns := s.tim.ctr.ns, late := late, due := !late }] } }
  else s

/-- An event is raised (R553): its pending bit is set in both ports and it triggers the recorder. -/
def State.raise (s : State) (e : Nat) : State := (s.trigger e).pendEvent e

/-- An event raised at most once per major frame. -/
def State.raiseMajor (s : State) (e : Nat) : State :=
  if s.frm.onceMajor.contains e then s
  else ({ s with frm := { s.frm with onceMajor := e :: s.frm.onceMajor } }).raise e

/-- An event raised at most once per tick. -/
def State.raiseMinor (s : State) (e : Nat) : State :=
  if s.frm.onceMinor.contains e then s
  else ({ s with frm := { s.frm with onceMinor := e :: s.frm.onceMinor } }).raise e

/-- Sets a flag and raises an event when the flag changes from 0 to 1. -/
def State.setRaise (s : State) (f : Fld) (e : Nat) : State := if s.flag f then s else (s.put f 1).raise e

/-- A refused host access (R28, R29, R634): the bit of GLB_ACCERR is set, the first refused access since the bits were all
zero is recorded, and event 0 is raised when the bit changes from 0 to 1. -/
def State.accErr (s : State) (f : Fld) (port off : Nat) : State :=
  let first := s.word 0x24 % 64 == 0
  let s1 := s.when first (fun s => (s.put F.GLB_ACCADDR_OFFSET off).put F.GLB_ACCERR_PORT port)
  s1.setRaise f 0

/-- Whether a block is at expert level in effect (R30, R31): bit = block number of R633. -/
def State.expert (s : State) (b : Nat) : Bool := bitOf s.frm.level b

/-- The frames run and no re-anchor gap holds them (R65, R68). -/
def State.framesOn (s : State) : Bool := s.flag F.FRM_STATUS_RUNNING && !s.flag F.FRM_STATUS_GAP

/-- An item for the receive streams waits for its delivery (R546). [DESIGN CHOICE: log 344] -/
def State.hostItem (s : State) (x : RxItem) : State := { s with hif := { s.hif with items := s.hif.items ++ [x] } }

/-- Sets the shadow of some words (R26). [DESIGN CHOICE: log 52] -/
def State.latch (s : State) (l : List (Nat × Nat)) : State :=
  { s with shadow := l.foldl (fun acc p => putKey p.1 p.2 acc) s.shadow }

/-! ### The two lanes -/

/-- An offset of a per-lane block (R5, R633). -/
def laneOff (off : Nat) : Bool :=
  let b := off / 0x100000
  b == 1 || (decide (4 ≤ b) && decide (b ≤ 9))
/-- What the lane that the state shows holds of its own. -/
def State.laneCopy (s : State) : LaneCopy :=
  { words := s.regs.words.filter (fun p => laneOff p.1), frm := s.frm, sig := s.sig, aln := s.aln, est := s.est, cle := s.cle, alc := s.alc,
    prf := s.prf, formed := s.can.tlg.map (·.formed) }
/-- The words of a lane in place of those of the per-lane blocks. -/
def RegFile.withLane (r : RegFile) (ws : List (Nat × Word)) : RegFile :=
  (ws.filter (fun p => laneOff p.1)).foldl (fun r p => r.setWord p.1 p.2) ⟨r.words.filter (fun p => !laneOff p.1)⟩
/-- The machine as a lane sees it. -/
def State.asLane (s : State) (c : LaneCopy) : State :=
  { s with
    regs := s.regs.withLane c.words, frm := c.frm, sig := c.sig, aln := c.aln, est := c.est, cle := c.cle, alc := c.alc, prf := c.prf
    can := { s.can with tlg := (s.can.tlg.zip c.formed).map (fun p => { p.1 with formed := p.2 }) }
    twin := none }
/-- A state with what Lane B holds; none where the lanes hold the same. -/
def State.setTwin (s : State) (c : LaneCopy) : State := { s with twin := if c = s.laneCopy then none else some c }
/-- What a command does to the two lanes: `f` to Lane A and to the module, `g` to Lane B (R467, R468). What leaves the module is Lane A's
(R470). A reset, or the copy of Lane A into Lane B, leaves the lanes with one state. [DESIGN CHOICE: log 15] -/
def State.lanesBy (f g : State → State) (s : State) : State :=
  let a := f s
  match s.twin with
  | none => a.setTwin (g s).laneCopy
  | some c => if a.twin.isNone then a else a.setTwin (g (s.asLane c)).laneCopy
/-- What a command does, in both lanes: their inputs are the same, so lanes that hold the same go on holding the same (R468). -/
def State.lanes (f : State → State) (s : State) : State :=
  match s.twin with
  | none => f s
  | some _ => s.lanesBy f f
/-- With one lane alive the state shows that lane (R7, R473). -/
def State.survive (s : State) : State :=
  match s.twin with
  | none => s
  | some c => if s.dualLane then s else if s.bit F.RED_STATUS_LANES 0 then { s with twin := none } else s.asLane c

end Sys2Proof.Machine
end

