-- ==== Sys2Proof/Machine/Sentence.lean ====
section
/-! DEFINITION. The sentence parser (R164, R186, R187): checks, fields, exact decimals, and the value an item selects. -/

namespace Sys2Proof.Machine

open Sys2Proof

/-- Splits a list at every comma. -/
def splitComma : List Byte → List (List Byte)
  | [] => [[]]
  | b :: t =>
    match splitComma t with
    | [] => [[b]]
    | h :: r => if b = 44#8 then [] :: h :: r else (b :: h) :: r

/-- A hexadecimal digit. -/
def hexDigit (b : Byte) : Option Nat :=
  let n := b.toNat
  if 48 ≤ n ∧ n ≤ 57 then some (n - 48)
  else if 65 ≤ n ∧ n ≤ 70 then some (n - 55)
  else if 97 ≤ n ∧ n ≤ 102 then some (n - 87) else none

/-- A decimal digit. -/
def decDigit (b : Byte) : Option Nat := if 48 ≤ b.toNat ∧ b.toNat ≤ 57 then some (b.toNat - 48) else none

/-- A sentence after its checks. -/
structure Sentence where
  /-- Address field after the start character. -/
  addr : List Byte
  /-- Fields 1 and on. -/
  fields : List (List Byte)
  /-- The tag blocks that came with it (R112, R113). -/
  tags : List (List Byte)
  deriving DecidableEq, Repr

/-- Checks a sentence (R164): start character, CR LF, length, checksum when present or required. -/
def parseSentence (ckReq : Bool) (l : List Byte) : Option Sentence :=
  let n := l.length
  if n ≤ 82 ∧ 4 ≤ n ∧ (l.head? = some 36#8 ∨ l.head? = some 33#8) ∧ l.drop (n - 2) = [13#8, 10#8] then
    let body := (l.drop 1).take (n - 3)
    let txt := body.takeWhile (· != 42#8)
    let ck := body.drop txt.length
    let sum := txt.foldl (fun acc b => Nat.xor acc b.toNat) 0
    let ok : Bool := match ck with
      | [] => !ckReq
      | [_, a, b] => (match hexDigit a, hexDigit b with
        | some x, some y => sum == 16 * x + y
        | _, _ => false)
      | _ => false
    if ok then
      match splitComma txt with
      | a :: f => some { addr := a, fields := f, tags := [] }
      | [] => none
    else none
  else none

/-- Digits of a number: value and count of digits; none when a character is no digit. -/
def digits : List Byte → Nat → Option Nat
  | [], acc => some acc
  | b :: t, acc => match decDigit b with
    | some d => digits t (10 * acc + d)
    | none => none

/-- A decimal field as an exact fraction (R186); none when it is empty or malformed. -/
def decimal (f : List Byte) : Option (Int × Nat) :=
  let neg := f.head? == some 45#8
  let u := if neg || f.head? == some 43#8 then f.drop 1 else f
  let ip := u.takeWhile (· != 46#8)
  let fp := (u.drop ip.length).drop 1
  if ip.isEmpty && fp.isEmpty then none
  else match digits (ip ++ fp) 0 with
    | some n => some (if neg then -(n : Int) else n, 10 ^ fp.length)
    | none => none

/-- What an item of a sentence gives. -/
inductive ItemResult where
  /-- A sample. -/
  | value (v : Int)
  /-- The sentence or field is invalid: no sample, SRCV set. -/
  | invalid
  /-- No sample, SRCV unchanged. -/
  | skip
  deriving DecidableEq, Repr

/-- A value must lie in int32 (R186). -/
def inInt32 (x : Int) : ItemResult := if clampS 32 x = x then .value x else .invalid

/-- A field times `mul` over `div`, rounded once (R12). -/
def scaledField (f : List Byte) (mul div : Nat) : ItemResult :=
  match decimal f with
  | some (n, d) => inInt32 (divRne (n * mul) (d * div))
  | none => .invalid

/-- Degrees to BAM32 (R186). -/
def bamField (f : List Byte) : ItemResult :=
  match decimal f with
  | some (n, d) => .value (toInt 32 (ofInt 32 (divRne (n * 2 ^ 32) (d * 360))))
  | none => .invalid

/-- ddmm.mmmm with a hemisphere to 1e-7 degree (R186). -/
def latLon (f h : List Byte) (pos neg : Byte) : ItemResult :=
  match decimal f with
  | some (n, d) =>
    let deg := n / (100 * (d : Int))
    let minutes := n - deg * 100 * d
    let v := divRne ((deg * 60 * d + minutes) * 10000000) (60 * d)
    if n < 0 then .invalid
    else if h = [pos] then inInt32 v else if h = [neg] then inInt32 (-v) else .invalid
  | none => .invalid

/-- A speed with its unit letter to mm/s (R186). -/
def speedField (f u : List Byte) : ItemResult :=
  if u = [75#8] then scaledField f 1000000 3600
  else if u = [77#8] then scaledField f 1000 1
  else if u = [78#8] then scaledField f 1852000 3600
  else if u = [83#8] then scaledField f 1609344 3600
  else .invalid

/-- The formatter of each FMT (R187). -/
def fmtName (fmt : Nat) : List Nat :=
  match fmt with
  | 1 => [72, 68, 84] | 2 => [84, 72, 83] | 3 => [82, 79, 84] | 4 => [71, 71, 65] | 5 => [71, 78, 83] | 6 => [71, 83, 84]
  | 7 => [86, 84, 71] | 8 => [77, 87, 86] | 9 => [88, 68, 82] | _ => []

/-- GGA items (R187). -/
def ggaItem (item : Nat) (g : Nat → List Byte) : ItemResult :=
  let q := g 6
  if q.isEmpty then .invalid
  else if item = 2 then scaledField q 1 1
  else if q = [48#8] then .invalid
  else match item with
    | 0 => latLon (g 2) (g 3) 78#8 83#8
    | 1 => latLon (g 4) (g 5) 69#8 87#8
    | 3 => scaledField (g 7) 1 1
    | 4 => scaledField (g 8) 100 1
    | 5 => scaledField (g 9) 1000 1
    | 6 => scaledField (g 11) 1000 1
    | 7 => scaledField (g 13) 1000 1
    | _ => .skip

/-- GNS items (R187). -/
def gnsItem (item : Nat) (g : Nat → List Byte) : ItemResult :=
  let q := g 6
  if q.isEmpty then .invalid
  else if item = 2 then .value (toInt 32 (ofBe (slice q 0 4)))
  else if q.all (· == 78#8) then .invalid
  else match item with
    | 0 => latLon (g 2) (g 3) 78#8 83#8
    | 1 => latLon (g 4) (g 5) 69#8 87#8
    | 3 => scaledField (g 7) 1 1
    | 4 => scaledField (g 8) 100 1
    | 5 => scaledField (g 9) 1000 1
    | 6 => scaledField (g 10) 1000 1
    | 7 => scaledField (g 11) 1000 1
    | _ => .skip

/-- GST items (R187). -/
def gstItem (item : Nat) (g : Nat → List Byte) : ItemResult :=
  match item with
  | 0 => scaledField (g 2) 1000 1
  | 1 => scaledField (g 3) 1000 1
  | 2 => scaledField (g 4) 1000 1
  | 3 => bamField (g 5)
  | 4 => scaledField (g 6) 1000 1
  | 5 => scaledField (g 7) 1000 1
  | 6 => scaledField (g 8) 1000 1
  | _ => .skip

/-- VTG items (R187). -/
def vtgItem (item : Nat) (g : Nat → List Byte) : ItemResult :=
  if g 9 = [78#8] then .invalid
  else match item with
    | 0 => bamField (g 1)
    | 1 => if (g 7).isEmpty then speedField (g 5) [78#8] else speedField (g 7) [75#8]
    | 2 => bamField (g 3)
    | _ => .skip

/-- MWV items (R187): items 0 and 1 want reference R, items 2 and 3 reference T. -/
def mwvItem (item : Nat) (g : Nat → List Byte) : ItemResult :=
  if item > 3 then .skip
  else if g 5 != [65#8] then .invalid
  else if g 2 != (if item < 2 then [82#8] else [84#8]) then .skip
  else if item % 2 = 0 then bamField (g 1) else speedField (g 3) (g 4)

/-- The value that FMT and ITEM select from the fields of a sentence (R187); `g i` is field i, empty where absent. [PRESUMED: log 146] -/
def itemOf (fmt item : Nat) (g : Nat → List Byte) : ItemResult :=
  match fmt with
  | 1 => if item ≠ 0 then .skip else if g 2 = [84#8] then bamField (g 1) else .invalid
  | 2 => if item ≠ 0 then .skip else if g 2 = [65#8] ∨ g 2 = [69#8] then bamField (g 1) else .invalid
  | 3 => if item ≠ 0 then .skip else if g 2 = [65#8] then scaledField (g 1) 1000 1 else .invalid
  | 4 => ggaItem item g
  | 5 => gnsItem item g
  | 6 => gstItem item g
  | 7 => vtgItem item g
  | 8 => mwvItem item g
  | 9 => scaledField (g (4 * item + 2)) 1000 1
  | _ => .skip

/-- Whether a sentence carries the formatter and talker a channel names (R164, R187); talker 0 accepts any, proprietary
sentences match no formatter. -/
def addrMatches (fmt talker : Nat) (addr : List Byte) : Bool :=
  addr.head? != some 80#8 && addr.length == 5 && (addr.drop 2).map (·.toNat) == fmtName fmt &&
  (talker == 0 || ofBe (addr.take 2) == talker)

end Sys2Proof.Machine
end

