-- ==== Sys2Proof/Machine/Sig.lean ====
section
/-! DEFINITION. The signal chain: sources (R158 to R166), stage arithmetic (R167 to R176), synchronising resets and fades
(R177 to R182, R645), timeouts and ranges (R183 to R185, R644). -/

namespace Sys2Proof.Machine

open Sys2Proof

/-- A channel's hidden state. -/
def State.chan (s : State) (n : Nat) : Chan := nth s.sig.chans n Chan.init
/-- Changes a channel's hidden state. -/
def State.modChan (s : State) (n : Nat) (f : Chan → Chan) : State :=
  { s with sig := { s.sig with chans := modNth s.sig.chans n f } }

/-! ### Sources -/

/-- Bits of SIG_S_n_SRC. -/
def State.srcBits (s : State) (n hi lo : Nat) : Nat := bitsOf (s.word (0x401004 + 0x10 * n)) hi lo
/-- TYPE as it acts: 6 and 7 act as 0 (R158). -/
def State.srcType (s : State) (n : Nat) : Nat :=
  let t := s.srcBits n 2 0
  if t ≤ 5 then t else 0
/-- TYPE is permitted for the channel (R158, R159). -/
def typePermitted (n t : Nat) : Bool := t == 0 || (if n < 32 then t == 1 else 2 ≤ t)
/-- MODE of an analog channel: 3 acts as 0 (R160). -/
def State.srcMode (s : State) (n : Nat) : Nat :=
  let m := s.srcBits n 5 4
  if m = 3 then 0 else m
/-- The channel is on and takes samples of this TYPE. -/
def State.takes (s : State) (n t : Nat) : Bool := s.flag (F.SIG_S_CFG_EN n) && s.srcType n == t && typePermitted n t

/-- A sample reaches a channel (R167 step 1). -/
def State.sample (s : State) (n : Nat) (v : Int) (stamp : Nat) : State :=
  s.modChan n (fun c => { c with arriving := c.arriving ++ [⟨v, stamp, false⟩] })

/-- What a sentence gives to a channel (R186): a sample clears SRCV, an invalid field sets it. STAT shows it with the frame (R174). -/
def State.sentenceTo (s : State) (n : Nat) (x : Sentence) (stamp : Nat) : State :=
  let fmt := s.srcBits n 11 8
  if addrMatches fmt (s.srcBits n 31 16) x.addr then
    match itemOf fmt (s.srcBits n 15 12) (fun i => if i = 0 then [] else nth x.fields (i - 1) []) with
    | .value v => (s.sample n v stamp).modChan n (fun c => { c with srcv := false })
    | .invalid => s.modChan n (fun c => { c with srcv := true })
    | .skip => s
  else s

/-- A parsed sentence feeds every channel that names its port, formatter, item and talker (R164, R165). -/
def State.feedSentence (s : State) (type port : Nat) (x : Sentence) (stamp : Nat) : State :=
  s.each ((List.range 64).map (· + 32)) (fun s n =>
    if s.takes n type && s.srcBits n 7 4 == port then s.sentenceTo n x stamp else s)

/-- A UART sentence ends (R164): it is parsed and counted, and fed to its channels; one whose reception began before the
UART's setting last changed is discarded and not counted. -/
def State.uartSentence (s : State) (u : Nat) (framingError : Bool) (ago : Nat) (l : List Byte) : State :=
  if !s.flag (F.SIG_UART_CFG_EN u) then s
  else if s.now - ago < nth s.sig.uartAt u 0 then s
  else
    match (if framingError then none else parseSentence (s.flag (F.SIG_UART_CFG_CKREQ u)) l) with
    | some x => (s.inc (F.SIG_UART_CNT_OK u)).feedSentence 2 u x ((s.now - ago) % 2 ^ 64)
    | none => (s.inc (F.SIG_UART_CNT_ERR u)).when (s.get (F.SIG_UART_CNT_ERR u) != 65535) (·.raiseMajor 52)

/-- UART_SENTENCE (R164): `ago` is the time since the first start bit in ns. -/
def execUartSentence (u : Fin 12) (framingError : Bool) (ago : Nat) (bytes : List Byte) (s : State) :
    Host.Outcome State Fault Refusal := .next (s.lanes fun s => s.uartSentence u framingError ago bytes)

/-- EDGE of a tacho channel takes this edge: 1 rising, 2 falling, 3 both, 0 acts as 1 (R163). -/
def State.tachoTakes (s : State) (n : Nat) (rising : Bool) : Bool :=
  let e := s.srcBits n 9 8
  if rising then e != 2 else e == 2 || e == 3

/-- The zero-speed timeout of a tacho channel in ns: coded as TMO, 0 acts as 10 (R163). -/
def State.zeroTime (s : State) (n : Nat) : Nat :=
  let z := s.srcBits n 15 12
  2 ^ ((if z = 0 then 10 else z) - 1) * 1000000

/-- The sample of a tacho edge: the frequency in mHz over the interval since the edge before (R163). [DEDUCED: log 143] -/
def tachoSample (both : Bool) (prev now : Nat) : Option Int :=
  let per := 4 * ((now / 4 + 2 ^ 62 - prev / 4) % 2 ^ 62)
  if per = 0 then none else some (divRne (10 ^ 12) (if both then 2 * per else per))

/-- No edge for the zero-speed timeout at an instant in ns of the counter (R163): the channel delivers 0 in every minor frame, and the
first edge after it delivers nothing. -/
def State.tachoTimeout (s : State) (t n : Nat) : State :=
  let c := s.chan n
  if s.takes n 5 && !c.tachoZero && decide (c.tachoAt + s.zeroTime n ≤ t) then
    s.modChan n (fun c => { c with tachoZero := true, tachoPrev := none })
  else s

/-- A qualifying edge reaches a tacho channel (R163): every edge after the first gives a sample. -/
def State.tachoTo (s0 : State) (n : Nat) (e : TachoIn) : State :=
  let s := s0.tachoTimeout e.t n
  let s1 := s.modChan n (fun c => { c with tachoPrev := some e.lin, tachoAt := e.t, tachoZero := false })
  match (s.chan n).tachoPrev.bind (fun p => tachoSample (s.srcBits n 9 8 == 3) p e.lin) with
  | some v => s1.sample n v e.lin
  | none => s1

/-- The newest edge of an input counts once its level has lasted 1 µs (R163). -/
def State.tachoFlush (s : State) (input : Nat) : State :=
  match nth s.sig.tachoIn input none with
  | some e =>
    if e.t + 1000 ≤ s.now then
      ({ s with sig := { s.sig with tachoIn := setNth s.sig.tachoIn input none } } : State).each ((List.range 64).map (· + 32)) (fun s n =>
        if s.takes n 5 && s.srcBits n 7 4 == input && s.tachoTakes n e.rising then s.tachoTo n e else s)
    else s
  | none => s

/-- An edge on a tacho input (R163): one that ends a pulse shorter than 1 µs takes that pulse's first edge with it. -/
def State.tachoEdge (s0 : State) (input : Nat) (rising : Bool) : State :=
  let s := s0.tachoFlush input
  let short := match nth s.sig.tachoIn input none with
    | some e => e.rising != rising
    | none => false
  let e : TachoIn := { t := s.now, lin := s.lin, rising := rising }
  { s with sig := { s.sig with tachoIn := setNth s.sig.tachoIn input (if short then none else some e) } }

/-- TACHO_EDGE (R163). -/
def execTachoEdge (n : Fin 16) (rising : Bool) (s : State) : Host.Outcome State Fault Refusal := .next (s.lanes fun s => s.tachoEdge n rising)

/-- TACHO_ZERO_TIMEOUT (R163): the counter runs to the end of the timeout, inside the minor frame. -/
def execTachoZeroTimeout (n : Fin 96) (s : State) : Host.Outcome State Fault Refusal :=
  .next (s.lanes fun s =>
    let s1 := (s.runInside ((s.chan n).tachoAt + s.zeroTime n)).tachoFlush (s.srcBits n 7 4)
    s1.tachoTimeout s1.now n)

/-- A frame on a controller feeds the TYPE 4 channels whose match it meets (R166); a frame too short delivers nothing and
sets SIG_ERR.CANLEN. -/
def State.feedCan (s : State) (ctrl id : Nat) (ide : Bool) (data : List Byte) (stamp : Nat) : State :=
  s.each ((List.range 64).map (· + 32)) (fun s n =>
    let m := s.srcBits n 11 8
    let mid := s.get (F.SIG_CANID_ID m)
    let idOk := s.flag (F.SIG_CANID_IDE m) == ide && (if ide then mid == id else mid % 2 ^ 11 == id)
    if s.takes n 4 && s.srcBits n 6 4 == ctrl && idOk then
      let off := s.srcBits n 17 12
      let w := match s.srcBits n 19 18 with
        | 0 => 1 | 1 => 2 | _ => 4
      if data.length < off + w then s.put F.SIG_ERR_CANLEN 1
      else
        let raw := if s.srcBits n 21 21 = 1 then leAt data off w else beAt data off w
        let v : Int := if s.srcBits n 20 20 = 1 then toInt (8 * w) raw else toInt 32 raw
        s.sample n v stamp
    else s)

/-! ### Arithmetic -/

/-- One coefficient bank (R180). -/
structure Bank where
  /-- NTAPS, at least 1. -/
  ntaps : Nat
  /-- Taps in Q2.30. -/
  taps : List Int
  /-- GAIN. -/
  gain : Int
  /-- SHIFT. -/
  shift : Nat
  /-- OFFSET. -/
  offset : Int
  deriving DecidableEq, Repr

/-- A bank of a channel. -/
def State.bank (s : State) (n b : Nat) : Bank :=
  let nt := max (s.get (F.SIG_S_B_NTAPS_NTAPS n b)) 1
  { ntaps := nt, taps := (List.range nt).map (fun j => s.getI (F.SIG_S_B_TAP_TAP n b j))
    gain := s.getI (F.SIG_S_B_GAIN_GAIN n b), shift := s.get (F.SIG_S_B_SHIFT_SHIFT n b)
    offset := s.getI (F.SIG_S_B_OFFSET_OFFSET n b) }

/-- What a channel's settings and the frame give to its arithmetic. -/
structure ChanCfg where
  /-- Rank window length: 1, 3, 5, 7 or 9 (R168). -/
  w : Nat
  /-- The rank filter is used (R161 bypasses it). -/
  rank : Bool
  /-- This frame is a fine-output instant (R170). -/
  instant : Bool
  /-- ANGLE channel (R176). -/
  angle : Bool
  /-- Bank fade length (R180). -/
  fade : Nat
  /-- Step limit in raw units; 0 when off (R182). -/
  step : Int
  /-- Active bank number. -/
  active : Nat
  /-- Requested bank number. -/
  want : Nat
  /-- Banks 0 and 1. -/
  banks : Bank × Bank
  /-- Scaling applies (R171); not to resolver components (R161). -/
  scaled : Bool
  deriving DecidableEq, Repr

/-- How a frame's output is formed and what the fades are after it (R172, R179 to R181, R645). -/
structure Mitre where
  /-- FINE_VALID. -/
  fineValid : Bool
  /-- The output is formed anew: not between fine-output instants of a primed path. -/
  fresh : Bool
  /-- Step of the coarse-to-fine fade that this output takes; 0 when none. -/
  fk : Nat
  /-- The bank, with the words in use, that the output is formed with. -/
  old : Bank
  /-- The bank a fade goes to. -/
  new : Bank
  /-- Weight of the new bank. -/
  num : Nat
  /-- Sum of the weights. -/
  den : Nat
  /-- Active bank after the frame. -/
  active : Nat
  /-- `Chan.fadeK` after the frame. -/
  fadeK : Nat
  /-- `Chan.bankK` after the frame. -/
  bankK : Nat
  /-- `Chan.bankF` after the frame. -/
  bankF : Nat
  /-- `Chan.oldTaps` after the frame. -/
  oldTaps : Option (List Int)
  /-- `Chan.oldNew` after the frame. -/
  oldNew : Option (List Int)
  /-- `Chan.oldK` after the frame. -/
  oldK : Nat
  deriving DecidableEq, Repr

/-- What a channel's frame produces. -/
structure ChanOut where
  /-- Hidden state after the frame. -/
  c : Chan
  /-- A coarse value exists and the output is valid. -/
  has : Bool
  /-- The output is formed anew. -/
  fresh : Bool
  /-- The output before ρ is added. -/
  y : Int
  /-- FINE_VALID. -/
  fineValid : Bool
  /-- A fade is in progress. -/
  fade : Bool
  /-- Active bank after the frame. -/
  active : Nat
  /-- SAT was met. -/
  sat : Bool
  /-- STEP was met. -/
  stepped : Bool
  deriving DecidableEq, Repr

/-- Inserts into a rising list. -/
def insertI (x : Int) : List Int → List Int
  | [] => [x]
  | y :: t => if x ≤ y then x :: y :: t else y :: insertI x t

/-- The median of an odd number of values (R168). -/
def median (l : List Int) : Int := nth (l.foldr insertI []) (l.length / 2) 0

/-- Rank filter over the samples of a frame (R168, R178): the first sample after a reset fills the window. -/
def rankRun (w : Nat) : List Int → List Int → List Int × List Int
  | win, [] => (win, [])
  | win, x :: t =>
    let win' := if win.isEmpty then List.replicate w x else (x :: win).take w
    let r := rankRun w win' t
    (r.1, median win' :: r.2)

/-- The FIR over the delay line, newest first (R170): 72-bit sum, right shift by 30 under R12, before saturation. -/
def fir (taps line : List Int) : Int := shrRne ((taps.zip line).foldl (fun a p => a + p.1 * p.2) 0) 30

/-- Scaling by a bank before saturation (R171). -/
def scaleRaw (b : Bank) (v : Int) : Int := shrRne (v * b.gain) b.shift + b.offset

/-- A bank of the pair. -/
def ChanCfg.bank (k : ChanCfg) (b : Nat) : Bank := if b = 0 then k.banks.1 else k.banks.2

/-- A bank with other taps in the place of its own (R645). -/
def ChanCfg.bankWith (k : ChanCfg) (b : Nat) (taps : Option (List Int)) : Bank :=
  match taps with
  | some l => { k.bank b with ntaps := l.length, taps := l }
  | none => k.bank b

/-- Scaling, saturated to 32 bits (R171). -/
def scaleSat (b : Bank) (v : Int) : Int := clampS 32 (scaleRaw b v)
/-- Scaling as the channel uses it. -/
def ChanCfg.scale (k : ChanCfg) (b : Bank) (v : Int) : Int := if k.scaled then scaleSat b v else v
/-- Saturation met by a value through a bank. -/
def ChanCfg.sats (k : ChanCfg) (b : Bank) (v : Int) : Bool := k.scaled && scaleSat b v != scaleRaw b v

/-- A synchronising reset of the hidden state (R177, R178). -/
def Chan.clear (c : Chan) : Chan :=
  { c with win := [], line := [], fine := none, fadeK := 0, bankK := 0, oldTaps := none, oldNew := none, oldK := 0 }

/-- Weighted mean of two values, rounded under R12: `n` parts of `d` of the second (R179, R180). -/
def mix (n d : Nat) (a b : Int) : Int := divRne ((d - n) * a + n * b) d

/-- The fades of one minor frame (R179 to R182, R645): `held` coarse values since the reset, FINE_VALID before the frame, and whether a
step was met. A switch of bank and a change to derived words wait for the end of a fade and for the values they need; of the two the
change of words goes first. [DESIGN CHOICE: log 140] -/
def fadeStep (k : ChanCfg) (c0 : Chan) (held : Nat) (fineValid0 stepped : Bool) : Mitre :=
  -- a step during a bank fade makes the new bank active at once (R181)
  let act := if stepped && c0.bankK != 0 then k.want else k.active
  let c := if stepped then c0.clear else c0
  let ab := k.bankWith act c.oldTaps
  let fv0 := fineValid0 && !stepped
  let prime := k.instant && !fv0 && !stepped && decide (ab.taps.length ≤ held)
  let fv := fv0 || prime
  let fk := if !k.instant then c.fadeK else if prime then 1 else if c.fadeK = 0 then 0 else c.fadeK + 1
  let free := k.instant && fv0 && c.fadeK == 0
  let nb := k.bankWith k.want c.oldNew
  let startB := free && c.bankK == 0 && c.oldTaps.isNone && k.want != act && decide (nb.taps.length ≤ held)
  let b := startB || (k.instant && c.bankK != 0)
  let real := k.bank act
  let o := free && c.bankK == 0 && c.oldTaps.isSome && (c.oldK != 0 || decide (real.taps.length ≤ held))
  let len := if startB || (o && c.oldK == 0) then k.fade else c.bankF
  let n := if b then c.bankK + 1 else c.oldK + 1
  let done := decide (len ≤ n)
  { fineValid := fv, fresh := k.instant || !fv, fk := fk, old := ab, new := if b then nb else real
    num := if b || o then min n (max len 1) else 0, den := max len 1
    active := if b && done then k.want else act, fadeK := if k.instant && fk == 8 then 0 else fk
    bankK := if b then (if done then 0 else n) else c.bankK, bankF := len
    oldTaps := if b && done then c.oldNew else if o && done then none else c.oldTaps
    oldNew := if b && done then none else c.oldNew
    oldK := if o then (if done then 0 else n) else c.oldK }

/-- A value formed under R172 from a coarse value and the fine values of the old and the new bank, through a scaling. -/
def Mitre.form (p : Mitre) (sc : Bank → Int → Int) (coarse fOld fNew : Int) : Int :=
  let one (b : Bank) (f : Int) : Int :=
    if !p.fineValid then sc b coarse else if p.fk = 0 then sc b f else mix p.fk 8 (sc b coarse) (sc b f)
  if p.num = 0 then one p.old fOld else mix p.num p.den (one p.old fOld) (one p.new fNew)

/-- Rank filter and coarse mean of a frame (R168, R169, R178): the window, and the coarse value over the newest 16 rank outputs; the
one before where there are none. -/
def coarseStep (k : ChanCfg) (c : Chan) (xs : List Int) : List Int × Int :=
  let r := if k.rank then rankRun k.w c.win xs else (if xs.isEmpty then c.win else xs.take 1, xs)
  let l := r.2.drop (r.2.length - 16)
  (r.1, if l.isEmpty then c.coarse else divRne l.sum l.length)

/-- The step detector (R182). -/
def stepMet (k : ChanCfg) (c : Chan) (coarse : Int) (fineValid0 : Bool) : Bool :=
  match c.fine with
  | some f => fineValid0 && k.step != 0 && decide (k.step < (coarse - f).natAbs)
  | none => false

/-- The delay line after a frame (R170, R182). -/
def nextLine (c : Chan) (coarse : Int) (stepped : Bool) : List Int := if stepped then [coarse] else (coarse :: c.line).take 63

/-- The output of a frame and the hidden state after it, the fades decided (R170 to R172, R176). -/
def chanData (k : ChanCfg) (c : Chan) (p : Mitre) (win line : List Int) (coarse : Int) (stepped : Bool) : ChanOut :=
  let run := p.fineValid && p.fresh
  let fr (b : Bank) : Int := if run then fir b.taps line else c.fine.getD 0
  let fo := fr p.old
  let fn := if p.num = 0 then fo else fr p.new
  let fOld := clampS 32 fo
  let fNew := clampS 32 fn
  let two := p.num != 0
  let sat := fOld != fo || fNew != fn || k.sats p.old coarse || (two && k.sats p.new coarse) ||
    (run && (k.sats p.old fOld || (two && k.sats p.new fNew)))
  let c' : Chan := { c with
    win := win, coarse := coarse, line := line
    fine := if p.fineValid then some (if p.num = p.den then fNew else fOld) else none
    fadeK := p.fadeK, bankK := p.bankK, bankF := p.bankF, oldTaps := p.oldTaps, oldNew := p.oldNew, oldK := p.oldK
    last := if p.fresh then p.form (fun _ v => v) coarse fOld fNew else c.last }
  { c := c', has := true, fresh := p.fresh, y := p.form k.scale coarse fOld fNew, fineValid := p.fineValid
    fade := p.fadeK != 0 || p.bankK != 0 || p.oldK != 0, active := p.active, sat := sat, stepped := stepped }

/-- One minor frame of a channel on raw samples (R167 steps 2 to 6). A resetting channel comes with an empty window and
line; before its first sample it has no output. -/
def chanFrame (k : ChanCfg) (c : Chan) (xs : List Int) (fineValid0 : Bool) : ChanOut :=
  let r := coarseStep k c xs
  if r.1.isEmpty then
    { c := c, has := false, fresh := false, y := c.last, fineValid := false, fade := false, active := k.active, sat := false, stepped := false }
  else
    let stepped := stepMet k c r.2 fineValid0
    let line := nextLine c r.2 stepped
    chanData k c (fadeStep k c line.length fineValid0 stepped) r.1 line r.2 stepped

/-- The settings of a channel in the running minor frame. -/
def State.chanCfg (s : State) (n : Nat) (scaled rank : Bool) : ChanCfg :=
  let m := s.get (F.SIG_S_CFG_STEP_M n)
  { w := 2 * min (s.get (F.SIG_S_CFG_RANK n)) 4 + 1, rank := rank
    instant := s.get (F.SIG_S_CFG_DECIM n) == 0 || s.get F.FRM_STATUS_MINOR % 10 == 9
    angle := s.flag (F.SIG_S_CFG_ANGLE n), fade := s.get (F.SIG_S_CFG_FADE n)
    step := m * 2 ^ s.get (F.SIG_S_CFG_STEP_E n)
    active := s.get (F.SIG_S_STAT_ABANK n), want := s.get (F.SIG_S_CFG_BANK n)
    banks := (s.bank n 0, s.bank n 1), scaled := scaled }

/-- A quarter turn of BAM32. -/
def quarter : Int := 2 ^ 30

/-- Difference of an angle from a reference, clamped to a quarter turn (R176). -/
def angDiff (x ref : Int) : Int := clampI (-quarter) quarter (toInt 32 (ofInt 32 (x - ref)))

/-- The clamp of R176 was met. -/
def angSat (x ref : Int) : Bool :=
  let d := toInt 32 (ofInt 32 (x - ref))
  d != clampI (-quarter) quarter d

/-- The 16 samples with the first four replaced by the fifth (R177). -/
def settleFirst (xs : List Int) : List Int := List.replicate (min 4 xs.length) (nth xs 4 0) ++ xs.drop 4

/-- A raw analog sample as the converter gives it (R643). -/
def rawClamp (x : Int) : Int := clampS 24 x

/-- The samples of a channel in this frame (R167 step 1): 16 of an analog input, else those that arrived, the newest 16 at
most; a tacho at zero speed gives 0. -/
def State.frameSamples (s : State) (n : Nat) (cic : List Int) : List Sample × Bool :=
  let c := s.chan n
  let tick := s.now / 250000 * 250000
  if s.srcType n = 1 ∧ n < 32 then
    let xs := (List.range 16).map (fun k => rawClamp (nth cic k 0))
    let xs := if c.reset = .after then settleFirst xs else xs
    (xs.map (fun x => ⟨x, (tick + 2 ^ 64 - 156000) % 2 ^ 64, false⟩), false)
  else if c.tachoZero then ([⟨0, tick % 2 ^ 64, false⟩], false)
  else (c.ready, decide (16 < c.ready.length))

/-- The timeout of a channel in minor frames: four times 2^(TMO-1) ms (R183); 0 when disabled. -/
def State.chanTimeout (s : State) (n : Nat) : Nat :=
  let t := s.get (F.SIG_S_CFG_TMO n)
  if t = 0 ∨ s.srcType n = 1 then 0 else 4 * 2 ^ (t - 1)

/-- The count has reached the timeout (R183): VALID clears and the output holds; event 49. -/
def State.chanExpire (s : State) (n : Nat) : State :=
  let lim := s.chanTimeout n
  let c := s.chan n
  if s.flag (F.SIG_S_CFG_EN n) && lim != 0 && decide (lim ≤ c.age) && !c.timedOut then
    let s1 := (s.modChan n (fun c => { c with timedOut := true }))
    if s.flag (F.SIG_S_STAT_VALID n) then (s1.put (F.SIG_S_STAT_VALID n) 0).raiseMajor 49 else s1
  else s

/-- SIG_CHANNEL_TIMEOUT (R183). -/
def execSigChannelTimeout (n : Fin 96) (s : State) : Host.Outcome State Fault Refusal := .next (s.lanes fun s => s.chanExpire n)

/-- The flags of a channel after its frame (R163, R169, R171, R178, R182, R186, R188). -/
def State.chanFlags (s : State) (n : Nat) (o : ChanOut) (xs : List Sample) (ovf satX : Bool) (valid : Bool) : State :=
  let age := if xs.isEmpty then satInc 131071 (s.chan n).age else 0
  let stamp := match xs.getLast? with
    | some x => (x.stamp, x.adj)
    | none => ((s.chan n).stamp, (s.chan n).stampAdj)
  let s1 := s.modChan n (fun _ => { o.c with age := age, stamp := stamp.1, stampAdj := stamp.2, reset := .none, ready := [], timedOut := o.c.timedOut && xs.isEmpty })
  let s2 := ((s1.putB (F.SIG_S_STAT_NO_NEW n) xs.isEmpty).put (F.SIG_S_STAT_AGE n) (min age 255)).put (F.SIG_S_STAT_ABANK n) o.active
  let s3 := (s2.putB (F.SIG_S_STAT_FINE_VALID n) o.fineValid).putB (F.SIG_S_STAT_FADE n) o.fade
  let s4 := s3.when (o.sat || satX) (fun s => (s.put (F.SIG_S_STAT_SAT n) 1).raiseMajor 51)
  let s5 := s4.when o.stepped (fun s => (s.put (F.SIG_S_STAT_STEP n) 1).raiseMajor 50)
  let s6 := s5.when ovf (·.put (F.SIG_S_STAT_OVF n) 1)
  let s7 := (s6.putB (F.SIG_S_STAT_SRCV n) o.c.srcvAt).putB (F.SIG_S_STAT_ZERO n) (s.takes n 5 && o.c.tachoZero)
  if o.has && !xs.isEmpty then (s7.putB (F.SIG_S_STAT_VALID n) valid).put (F.SIG_S_STAT_SWITCHING n) 0 else s7

/-- A channel without a sample in a frame counts it (R169, R183). -/
def State.noSample (s : State) (n : Nat) : State :=
  let age := satInc 131071 (s.chan n).age
  ((s.modChan n (fun c => { c with age := age, ready := [] })).put (F.SIG_S_STAT_NO_NEW n) 1).put (F.SIG_S_STAT_AGE n) (min age 255)

/-- The coarse value lies inside the current-loop limits 3.6 mA and 21.0 mA of ±25 mA full scale (R184). -/
def loopOk (c : Int) : Bool := decide (36 * 2 ^ 23 ≤ c * 250) && decide (c * 250 ≤ 210 * 2 ^ 23)

/-- The reference of an ANGLE channel in a frame: its last unscaled output, or after a reset the frame's first sample (R176). -/
def Chan.nextRho (c : Chan) (xs : List Sample) : Nat :=
  if c.win.isEmpty then (match xs with
    | x :: _ => ofInt 32 x.v
    | [] => c.rho)
  else ofInt 32 (c.rho + c.last)

/-- Everything stored is re-expressed against a new reference (R176). -/
def Chan.rebase (c : Chan) (rho : Nat) : Chan :=
  let mv (d : Int) : Int := angDiff (d + ((c.rho : Int) - rho)) 0
  { c with win := c.win.map mv, line := c.line.map mv, coarse := mv c.coarse, fine := c.fine.map mv, last := mv c.last, rho := rho }

/-- A stored entry lies more than a quarter turn from the new reference (R176). -/
def Chan.rebaseSat (c : Chan) (rho : Nat) : Bool := (c.win ++ c.line).any (fun d => angSat (d + ((c.rho : Int) - rho)) 0)

/-- A channel's frame with samples, or without but before its timeout (R167). -/
def State.acqRun (s : State) (n : Nat) (xs : List Sample) (ovf : Bool) : State :=
  let c0 := s.chan n
  let resync := c0.reset = .now ∨ c0.reset = .after ∨ (c0.timedOut = true ∧ xs ≠ [])
  let k := s.chanCfg n true true
  let c1 := if resync then c0.clear else c0
  let fv := !(decide resync) && s.flag (F.SIG_S_STAT_FINE_VALID n)
  let rho := if k.angle then c1.nextRho xs else 0
  let c2 := if k.angle then c1.rebase rho else c1
  let vs := if k.angle then xs.map (fun x => angDiff x.v rho) else xs.map (·.v)
  let satX := k.angle && (xs.any (fun x => angSat x.v rho) || c1.rebaseSat rho)
  let o := chanFrame { k with active := if resync then k.want else k.active } c2 vs fv
  let analog := s.takes n 1
  let loop := analog && s.srcMode n == 1 && o.has
  let rangeBad := loop && !loopOk o.c.coarse
  let s1 := s.chanFlags n o xs ovf satX (!rangeBad && (!analog || s.flag F.SIG_STATUS_READY))
  let s2 := s1.when o.fresh (·.put (F.SIG_S_VAL_VALUE n) (ofInt 32 (if k.angle then rho + o.y else o.y)))
  s2.when loop (fun s2 => (s2.putB (F.SIG_S_STAT_RANGE n) rangeBad).when (rangeBad && !s.flag (F.SIG_S_STAT_RANGE n)) (·.raiseMajor 53))

/-- A channel's frame when it is not part of a resolver pair: from the timeout to the next sample it holds its output (R183). -/
def State.acqChan (s : State) (n : Nat) (cic : List Int) : State :=
  let c := s.chan n
  let fs := s.frameSamples n cic
  let lim := s.chanTimeout n
  if fs.1.isEmpty && (c.timedOut || (lim != 0 && decide (lim ≤ satInc 131071 c.age))) then (s.noSample n).chanExpire n
  else s.acqRun n fs.1 fs.2

/-- Square root to the nearest integer. -/
def sqrtRound (n : Nat) : Nat := let r := isqrt n; if r * r + r < n then r + 1 else r

/-- The resolver's angle, BAM32, to within 4,096 BAM (R161). [DESIGN CHOICE: log 144] -/
def resolverAngle (s c : Int) : Int :=
  radBamS ((Fl.ofInt s).atan2 (Fl.ofInt c)) + clampI (-4096) 4096 (Config.resolverError s c)

/-- A resolver pair's frame (R161, R162): both demodulated components pass the paths that S(2r) sets, with one set of fades; the angle
goes to S(2r) with that bank's offset, the magnitude through S(2r+1)'s bank, which has its own fade, to S(2r+1). A reset asked for on either
channel and a step of either component are of the pair. [DESIGN CHOICE: log 144] -/
def State.acqResolver (s : State) (r : Nat) (cicS cicC : List Int) : State :=
  let a := 2 * r
  let b := 2 * r + 1
  let after := (s.chan a).reset == .after || (s.chan b).reset == .after
  let resync := after || (s.chan a).reset == .now || (s.chan b).reset == .now
  let ph := s.get (F.SIG_RES_CFG_PHASE r)
  let dem (l : List Int) : List Int :=
    let xs := (List.range 16).map (fun k => Config.demod (s.get F.SIG_EXC_FREQ) ph k (rawClamp (nth l k 0)))
    if after then settleFirst xs else xs
  let chan (n : Nat) : Chan := if resync then (s.chan n).clear else s.chan n
  let fv := !resync && s.flag (F.SIG_S_STAT_FINE_VALID a)
  let k0 := { s.chanCfg a false false with angle := false }
  let k := { k0 with active := if resync then k0.want else k0.active }
  let ra := coarseStep k (chan a) (dem cicS)
  let rb := coarseStep k (chan b) (dem cicC)
  let stepped := stepMet k (chan a) ra.2 fv || stepMet k (chan b) rb.2 fv
  let la := nextLine (chan a) ra.2 stepped
  let lb := nextLine (chan b) rb.2 stepped
  let p := fadeStep k (chan a) la.length fv stepped
  let os := chanData k (chan a) p ra.1 la ra.2 stepped
  let oc := chanData k (chan b) p rb.1 lb rb.2 stepped
  -- the magnitude's bank
  let m0 := s.chanCfg b true false
  let short (x : Bank) : Bank := { x with taps := [] }
  let m : ChanCfg := { m0 with instant := k.instant, active := (if resync then m0.want else m0.active), banks := (short m0.banks.1, short m0.banks.2) }
  let q := fadeStep m { chan b with fadeK := (chan a).fadeK, oldTaps := none } lb.length fv stepped
  let mag := sqrtRound ((os.c.last * os.c.last + oc.c.last * oc.c.last).natAbs)
  let magY := if q.num = 0 then scaleSat q.old mag else mix q.num q.den (scaleSat q.old mag) (scaleSat q.new mag)
  let low := decide (mag < s.get (F.SIG_RES_CFG_MINMAG r) * 2 ^ 12)
  let valid := !low && s.flag F.SIG_STATUS_READY
  let tick := s.now / 250000 * 250000
  let xs : List Sample := [⟨0, (tick + 2 ^ 64 - 156000) % 2 ^ 64, false⟩]
  let ang := resolverAngle os.c.last oc.c.last + (k.bank os.active).offset
  let ob : ChanOut := { oc with
    c := { oc.c with fadeK := 0, bankK := q.bankK, bankF := q.bankF, oldTaps := none, oldNew := none, oldK := 0 }
    active := q.active, fade := os.fade || q.bankK != 0 }
  let s1 := (s.chanFlags a os xs false false valid).chanFlags b ob xs false (m.sats q.old mag || (q.num != 0 && m.sats q.new mag)) valid
  let s2 := s1.when os.fresh (fun s => (s.put (F.SIG_S_VAL_VALUE a) (ofInt 32 ang)).put (F.SIG_S_VAL_VALUE b) (ofInt 32 magY))
  ((s2.putB (F.SIG_S_STAT_RANGE a) low).putB (F.SIG_S_STAT_RANGE b) low).when (low && !s.flag (F.SIG_S_STAT_RANGE a)) (·.raiseMajor 53)

/-- The pair of resolver r works as a resolver (R161). -/
def State.isResolver (s : State) (r : Nat) : Bool :=
  s.flag (F.SIG_RES_CFG_EN r) && s.takes (2 * r) 1 && s.takes (2 * r + 1) 1 && s.srcMode (2 * r) == 2 && s.srcMode (2 * r + 1) == 2

/-- A channel that holds this frame and takes samples again in the next (R177); it has no new sample (R169, R183). [DEDUCED: log 141] -/
def State.holdChan (s : State) (n : Nat) : State :=
  (((s.noSample n).modChan n (fun c => { c with reset := .after })).put (F.SIG_S_STAT_SWITCHING n) 1).put (F.SIG_S_STAT_VALID n) 0

/-- Channel n in the ACQ stage: the even channel of a resolver pair does the work of both. -/
def State.acqOne (s0 : State) (n : Nat) (cic : List (List Int)) : State :=
  if !s0.flag (F.SIG_S_CFG_EN n) then s0
  else
    let s := s0.tachoTimeout (s0.now / 250000 * 250000) n
    if n < 8 && s.isResolver (n / 2) then
      if n % 2 = 1 then s
      else if (s.chan n).reset = .hold ∨ (s.chan (n + 1)).reset = .hold then (s.holdChan n).holdChan (n + 1)
      else s.acqResolver (n / 2) (nth cic n []) (nth cic (n + 1) [])
    else if (s.chan n).reset = .hold then s.holdChan n
    else s.acqChan n (nth cic n [])

/-- The channels in ascending order (R167). -/
def State.acq (s : State) (cic : List (List Int)) : State := s.each (List.range 96) (fun s n => s.acqOne n cic)

/-- The channels ACQ processes, in ascending order; the pair of a resolver is processed with its even channel. -/
def State.acqUnits (s : State) : List Nat :=
  (List.range 96).filter (fun n => s.flag (F.SIG_S_CFG_EN n) && !(n < 8 && n % 2 == 1 && s.isResolver (n / 2)))

/-- A channel that ACQ did not reach holds; its samples of the frame are discarded and its AGE counts (R175). -/
def State.acqMissed (s : State) (n : Nat) : State :=
  if s.flag (F.SIG_S_CFG_EN n) then
    let age := satInc 131071 (s.chan n).age
    (s.modChan n (fun c => { c with age := age, ready := [] })).put (F.SIG_S_STAT_AGE n) (min age 255)
  else s

/-- ACQ is stopped after `done` of its channels (R175). [DESIGN CHOICE: log 140] -/
def State.acqOver (done : Nat) (cic : List (List Int)) (s : State) : State :=
  let s1 := s.each (s.acqUnits.take done) (fun s n => s.acqOne n cic)
  s1.each (s.acqUnits.drop done) (fun s1 n =>
    let s2 := s1.acqMissed n
    if n < 8 && n % 2 == 0 && s.isResolver (n / 2) then s2.acqMissed (n + 1) else s2)

/-- At a minor tick the samples that have arrived are those of the frame that ends (R167). -/
def State.sigTick (s0 : State) : State :=
  let s := s0.each (List.range 16) State.tachoFlush
  { s with sig := { s.sig with chans := s.sig.chans.map (fun c => { c with ready := c.arriving, arriving := [], srcvAt := c.srcv }) } }

/-- A step of the counter moves every stamp taken before it (R202). -/
def State.sigStep (s : State) (delta : Int) : State :=
  let mv (x : Nat) : Nat := ofInt 64 (x + delta)
  let mvS (x : Sample) : Sample := { x with stamp := mv x.stamp, adj := true }
  { s with sig := { s.sig with chans := s.sig.chans.map (fun c =>
    { c with stamp := mv c.stamp, stampAdj := true, arriving := c.arriving.map mvS, ready := c.ready.map mvS }) } }

/-! ### Settings that act -/

/-- A synchronising reset by SIG_SYNC is asked for (R177); one of a changed source or shape that is under way stays as it is. -/
def State.askReset (s : State) (n : Nat) : State :=
  s.modChan n (fun c => { c with reset := if c.reset = .none then .now else c.reset })

/-- A change of a channel's source or filter shape: the reset clears its chain and FINE_VALID and makes a requested bank active; the
channel holds its value with SWITCHING set and VALID clear, and takes its first samples in the next frame (R177). [DEDUCED: log 142] -/
def State.reconfigChan (s : State) (n : Nat) : State :=
  (((((s.modChan n (fun c => { c.clear with reset := .hold })).put (F.SIG_S_STAT_SWITCHING n) 1).put (F.SIG_S_STAT_VALID n) 0).put
    (F.SIG_S_STAT_FINE_VALID n) 0).put (F.SIG_S_STAT_FADE n) 0).put (F.SIG_S_STAT_ABANK n) (s.get (F.SIG_S_CFG_BANK n))

/-- A channel stops (R644). -/
def State.stopChan (s : State) (n : Nat) : State :=
  ((((s.put (F.SIG_S_STAT_VALID n) 0).put (F.SIG_S_STAT_FINE_VALID n) 0).put (F.SIG_S_STAT_FADE n) 0).put
    (F.SIG_S_STAT_SWITCHING n) 0).modChan n (fun c => { c.clear with reset := .none, arriving := [], ready := [], tachoPrev := none, tachoZero := false })

/-- CFG.BANK takes a value at a minor tick (R180, R181): during a bank fade it is discarded with SIG_ERR.BUSY; before the
fine path has primed the bank changes at once. -/
def State.bankRequest (s : State) (n b : Nat) : State :=
  if (s.chan n).bankK ≠ 0 ∧ b ≠ s.get (F.SIG_S_CFG_BANK n) then s.put F.SIG_ERR_BUSY 1
  else
    let s1 := s.put (F.SIG_S_CFG_BANK n) b
    if s.flag (F.SIG_S_STAT_FINE_VALID n) then s1 else s1.put (F.SIG_S_STAT_ABANK n) b

/-- SIG_BANK_SWITCH (R180). -/
def execSigBankSwitch (n : Fin 96) (bank : Fin 2) (s : State) : Host.Outcome State Fault Refusal := .next (s.lanes fun s => s.bankRequest n bank)

/-- SIG_S_n_CFG takes a value at a minor tick, the BANK field apart (R177, R644). -/
def State.sigCfgApply (s : State) (n v : Nat) : State :=
  let off := 0x401000 + 0x10 * n
  let old := s.word off
  let s1 := s.setWord off (setBits v 6 6 (bitsOf old 6 6))
  let was := bitOf old 0
  let is := bitOf v 0
  if was && !is then s1.stopChan n
  else if is && !was then (s1.reconfigChan n).modChan n (fun c => { c with tachoAt := s.now })
  else if is && bitsOf old 5 1 != bitsOf v 5 1 then s1.reconfigChan n else s1

/-- The bits of SIG_S_n_SRC that a TYPE defines; the others are reserved. -/
def srcMask (t : Nat) : Nat :=
  match t with
  | 1 => 0x37
  | 2 => 0xFFFFFFF7
  | 3 => 0xFFFFFFF7
  | 4 => 0x3FFF77
  | 5 => 0xF3F7
  | _ => 0x7

/-- SIG_S_n_SRC takes a value at a minor tick (R159, R177). -/
def State.sigSrcApply (s : State) (n v : Nat) : State :=
  let off := 0x401004 + 0x10 * n
  let v' := Nat.land v (srcMask (v % 8))
  let bad := !typePermitted n (if v % 8 ≤ 5 then v % 8 else 0)
  let s1 := (s.setWord off v').putB (F.SIG_S_STAT_SRC_ERR n) bad
  let s2 := s1.when bad (·.put F.SIG_ERR_SRC 1)
  let s3 := s2.when (Nat.land (s.word off) 0x3F7 != Nat.land v' 0x3F7) (·.modChan n (fun c =>
    { c with tachoPrev := none, tachoAt := s.now, tachoZero := false }))
  -- EDGE, ZTMO, SIGNED and LE start no reset
  let key (x : Nat) : Nat := match x % 8 with
    | 4 => Nat.land x 0xFFFFF
    | 5 => Nat.land x 0xF7
    | _ => x
  if s.flag (F.SIG_S_CFG_EN n) && key (s.word off) != key v' then s3.reconfigChan n else s3

/-- A word of the coefficient memory takes a value at a minor tick: not in the active bank, the channel on or off (R180). -/
def State.coefApply (s : State) (off v : Nat) : State :=
  let n := (off - 0x420000) / 0x400
  let b := (off - 0x420000) / 0x200 % 2
  if s.get (F.SIG_S_STAT_ABANK n) = b then s.put F.SIG_ERR_ACTIVE_WR 1 else s.setWord off v

/-- A bit of SIG_SYNC_w asks for a reset of channel 32w + b (R177). -/
def State.syncApply (s : State) (w mask : Nat) : State :=
  s.each (List.range 32) (fun s b =>
    if bitOf mask b && s.flag (F.SIG_S_CFG_EN (32 * w + b)) then s.askReset (32 * w + b) else s)

/-- A UART setting takes effect; where it changes, a sentence in reception is discarded (R164). [DESIGN CHOICE: log 145] -/
def State.uartApply (s : State) (u v : Nat) : State :=
  if s.word (0x400040 + 8 * u) % 32 = v % 32 then s
  else { s with sig := { s.sig with uartAt := setNth s.sig.uartAt u s.now } }.setWord (0x400040 + 8 * u) (v % 32)

/-- SIG_EXC takes a value; rewriting EN ends an overload switch-off (SIG_STATUS.EXC_FAULT). -/
def State.excApply (s : State) (v : Nat) : State :=
  (((s.put F.SIG_EXC_EN v).put F.SIG_EXC_FREQ (v / 16)).put F.SIG_EXC_AMP (v / 256)).put F.SIG_STATUS_EXC_FAULT 0

/-- SIG_SYNC (R177): the write waits in the pending copy for the next minor tick (R62). -/
def execSigSync (w : Fin 3) (mask : Word) (port : Fin 2) (s : State) : Host.Outcome State Fault Refusal :=
  .next (s.lanes fun s => { s with frm := { s.frm with pend := s.frm.pend ++ [⟨0x400010 + 4 * w, mask.toNat, port⟩] } })

/-- A read of SIG_S_n_VAL latches SIG_S_n_STAT of the same frame (R174). -/
def State.valRead (s : State) (n : Nat) : State :=
  { s.latch [(0x40100C + 0x10 * n, s.word (0x40100C + 0x10 * n))] with hostData := s.word (0x401008 + 0x10 * n) }

/-- SIG_VAL_READ (R174). -/
def execSigValRead (n : Fin 96) (_port : Fin 2) (s : State) : Host.Outcome State Fault Refusal := .next (s.valRead n)

/-- The front-end calibration ends (R185): READY and event 48, or AFE_FAULT and event 54 when a check failed. -/
def execAfeCalibrationComplete (ok : Bool) (s : State) : Host.Outcome State Fault Refusal :=
  .next (s.lanes fun s => if ok then ((s.put F.SIG_STATUS_READY 1).putBit F.PWR_READY_READY 6 true).raise 48
    else (s.put F.SIG_STATUS_AFE_FAULT 1).raise 54)

/-- EXC_OVERLOAD (R629): an overloaded excitation output is switched off. -/
def execExcOverload (r : Fin 4) (s : State) : Host.Outcome State Fault Refusal :=
  .next (s.lanes fun s => if s.bit F.SIG_EXC_EN r then (s.putBit F.SIG_STATUS_EXC_FAULT r true).raise 54 else s)

/-- A change from expert to basic level (R645): the expert words of every bank take their derived values. Where the active bank of a
primed channel changes by a fade, or must wait, its old taps stay in use until then; in a bank fade those of the bank it goes to stay in use
too. [DESIGN CHOICE: log 140] -/
def State.sigToBasic (s : State) : State :=
  let keep (n : Nat) : Chan :=
    let c := s.chan n
    let a := s.get (F.SIG_S_STAT_ABANK n)
    let wait := s.get (F.SIG_S_CFG_FADE n) != 0 || c.fadeK != 0 || c.bankK != 0 || decide (c.line.length < 16)
    let second := n < 8 && n % 2 == 1 && s.isResolver (n / 2)
    if s.flag (F.SIG_S_STAT_FINE_VALID n) && wait && !second then
      { c with
        oldTaps := some (c.oldTaps.getD (s.bank n a).taps)
        oldNew := if c.bankK = 0 then none else some (c.oldNew.getD (s.bank n (s.get (F.SIG_S_CFG_BANK n))).taps) }
    else c
  let s1 := { s with sig := { s.sig with chans := (List.range 96).map keep } }
  let expert (p : Nat × Word) : Bool := decide (0x420000 ≤ p.1) && decide (p.1 < 0x438000) && (p.1 % 0x200 == 0 || decide (0x10 ≤ p.1 % 0x200))
  { s1 with regs := ⟨s1.regs.words.filter (fun p => !expert p)⟩ }.each (List.range 4) (fun s r => s.put (F.SIG_RES_CFG_PHASE r) 0)

end Sys2Proof.Machine
end

