-- ==== Sys2Proof/Machine/Aln.lean ====
section
/-! DEFINITION. The alignment unit: streams and their states (R189 to R198), the arrival queue, pairing (R191 to R197),
projection (R203 to R207) and delivery (R199 to R202). -/

namespace Sys2Proof.Machine

open Sys2Proof

/-- A stream's hidden state. -/
def State.stream (s : State) (n : Nat) : Stream := nth s.aln.streams n Stream.init
/-- Changes a stream's hidden state. -/
def State.modStream (s : State) (n : Nat) (f : Stream → Stream) : State :=
  { s with aln := { s.aln with streams := modNth s.aln.streams n f } }
/-- KIND as it acts: 8 to 15 act as 0 (R203). -/
def State.stKind (s : State) (n : Nat) : Nat :=
  let k := s.get (F.ALN_ST_CFG_KIND n)
  if k < 8 then k else 0
/-- Channel numbers CH0 to CH3. -/
def State.stChans (s : State) (n : Nat) : List Nat :=
  [s.get (F.ALN_ST_CH_CH0 n), s.get (F.ALN_ST_CH_CH1 n), s.get (F.ALN_ST_CH_CH2 n), s.get (F.ALN_ST_CH_CH3 n)]
/-- WIN in ns: 1 to 10 major frames (ALN_CTRL). -/
def State.alnWin (s : State) : Int := (max 1 (min 10 (s.get F.ALN_CTRL_WIN)) : Nat) * 10000000
/-- Channels a KIND needs (R203, R208). -/
def kindNeeds (k : Nat) : Nat :=
  match k with
  | 1 => 2 | 2 => 3 | 3 => 1 | 4 => 2 | 5 => 2 | 6 => 2 | 7 => 1 | _ => 0
/-- Mounting quaternion, w x y z. -/
def State.stQuat (s : State) (n : Nat) : List Int := (List.range 4).map (fun b => s.getI (F.ALN_ST_Q_Q n b))
/-- The configuration of a stream is valid (R208); an INTERNAL stream needs no channel. -/
def State.stValid (s : State) (n : Nat) : Bool :=
  let mode := s.get (F.ALN_ST_CFG_MODE n)
  let ref := s.get (F.ALN_ST_CFG_REFSRC n)
  let ch := s.stChans n
  let q2 := ((s.stQuat n).map (fun x => x * x)).sum
  (mode == 3 || (ch.take (kindNeeds (s.stKind n))).all (· ≠ 127)) && ch.all (fun c => c ≤ 95 || c = 127) &&
    (mode != 0 || ref ≤ 15) && (mode != 3 || ref ≤ 2) && decide ((q2 - 2 ^ 60).natAbs ≤ 2 ^ 40)
/-- A number as its 32-bit word holds it; what a wider one leaves there is free. [DESIGN CHOICE: log 149] -/
def wide32 (x : Int) : Int := if clampS 32 x = x then x else toInt 32 (ofInt 32 (Config.wideValue x))

/-- STATE of a stream, with ALN_STALE. -/
def State.setStream (s : State) (n st : Nat) : State := (s.put (F.ALN_ST_STAT_STATE n) st).putBit F.ALN_STALE_ST n (st == 3)

/-- A stream stops (R196). -/
def State.streamOff (s : State) (n : Nat) : State :=
  ((s.setStream n 0).put (F.ALN_ST_STAT_PENDING n) 0).modStream n (fun _ => Stream.init)

/-- Entry to QUALIFYING (R197): OFS is LAT0, RATE 0, and the first pair is the seed. -/
def State.qualify (s : State) (n : Nat) : State :=
  let s1 := ((s.setStream n 1).put (F.ALN_ST_STAT_QCOUNT n) 0).putI (F.ALN_ST_OFS_NS n) (s.getI (F.ALN_ST_LAT0_NS n))
  (s1.put (F.ALN_ST_RATE_RATE n) 0).modStream n (fun t => { t with seed := true, misses := 0, orphans := 0 })

/-- A stream's samples serve the attitude only while it is of the KIND they need (R206). -/
def State.attKept (s : State) (n : Nat) : State :=
  let k := s.stKind n
  { s with aln := { s.aln with
    att := if k = 6 then s.aln.att else s.aln.att.filter (fun x => x.1 != n), hdg := if k = 3 then s.aln.hdg else s.aln.hdg.filter (fun x => x.1 != n) } }
/-- EN, MODE, KIND, REFSRC or a CH field was written (R196, R208). -/
def State.streamRestart (s0 : State) (n : Nat) : State :=
  let s := s0.attKept n
  if !s.flag (F.ALN_ST_CFG_EN n) || s.stKind n == 0 then (s.put (F.ALN_ST_STAT_CFG_ERR n) 0).streamOff n
  else if !s.stValid n then (((s.streamOff n).put (F.ALN_ST_STAT_CFG_ERR n) 1).setRaise F.ALN_ERR_CFG 62)
  else (((s.streamOff n).put (F.ALN_ST_STAT_CFG_ERR n) 0).qualify n)
/-- The quaternion of a stream was written (R196, R208): only the validity of its configuration may change. -/
def State.streamCheck (s : State) (n : Nat) : State :=
  if s.flag (F.ALN_ST_CFG_EN n) && s.stKind n != 0 && (s.stValid n == (s.get (F.ALN_ST_STAT_STATE n) == 0)) then s.streamRestart n else s

/-- ALN_STREAM_RECONFIGURE (R196). -/
def execAlnStreamReconfigure (n : Fin 32) (s : State) : Host.Outcome State Fault Refusal := .next (s.lanes fun s => s.streamRestart n)

/-- FRESH is entered (R196); event 57. -/
def State.fresh (s : State) (n : Nat) : State := (s.setStream n 2).raise 57
/-- A FRESH stream enters STALE; event 56. -/
def State.goStale (s : State) (n : Nat) : State := if s.get (F.ALN_ST_STAT_STATE n) = 2 then (s.setStream n 3).raise 56 else s

/-- MISSLIM: 0 acts as 1 (R195). -/
def State.missLim (s : State) (n : Nat) : Nat := max 1 (s.get (F.ALN_ST_CFG_MISSLIM n))

/-- Counts misses (R193 to R195); event 59. -/
def State.miss (s : State) (n : Nat) : State :=
  let k := (s.stream n).misses + 1
  let s1 := ((s.inc (F.ALN_ST_CNT0_MISS n)).raiseMajor 59).modStream n (fun t => { t with misses := k })
  if s.missLim n ≤ k then s1.goStale n else s1

/-- `k` misses. -/
def State.missN (s : State) (n : Nat) : Nat → State
  | 0 => s
  | k + 1 => (s.miss n).missN n k

/-- Counts an orphan (R193, R195). -/
def State.orphan (s : State) (n : Nat) : State :=
  let k := (s.stream n).orphans + 1
  let s1 := (s.inc (F.ALN_ST_CNT0_ORPHAN n)).modStream n (fun t => { t with orphans := k })
  if s.missLim n ≤ k then s1.goStale n else s1

/-- Sets the pending list. -/
def State.setPending (s : State) (n : Nat) (l : List (Nat × Bool)) : State :=
  (s.modStream n (fun t => { t with pend := l })).put (F.ALN_ST_STAT_PENDING n) l.length

/-- A firing or a capture is a reference instant of the streams that name it (R189, R192); a ninth one discards the oldest as
a miss. -/
def State.streamInstant (s : State) (trig : Bool) (unit lin : Nat) : State :=
  s.each (List.range 32) (fun s n =>
    if s.flag F.FRM_STATUS_RUNNING ∧ s.get (F.ALN_ST_STAT_STATE n) ≠ 0 ∧ s.get (F.ALN_ST_CFG_MODE n) = (if trig then 0 else 1) ∧
        s.get (F.ALN_ST_CFG_REFSRC n) = unit then
      let l := (s.stream n).pend ++ [(lin, false)]
      if l.length ≤ 8 then s.setPending n l else (s.setPending n (l.drop 1)).miss n
    else s)

/-- Units of the clock model's numbers: 2^-16·10^-9 ns. -/
def predUnit : Int := 2 ^ 16 * 10 ^ 9
/-- pred(t) of R193, in `predUnit`. -/
def State.predict (s : State) (n t : Nat) : Int :=
  s.getI (F.ALN_ST_OFS_NS n) * predUnit + s.getI (F.ALN_ST_RATE_RATE n) * linDiff t (s.stream n).tauP

/-- Pending instants passed by more than pred + WIN are misses (R194). -/
def State.expirePending (s : State) (n : Nat) : State :=
  let l := (s.stream n).pend
  let old := l.takeWhile (fun p => decide (s.predict n p.1 + s.alnWin * predUnit < linDiff s.lin p.1 * predUnit))
  if old.isEmpty || !s.flag F.FRM_STATUS_RUNNING then s else (s.setPending n (l.drop old.length)).missN n old.length

/-- PENDING_INSTANT_EXPIRY (R194). -/
def execPendingInstantExpiry (n : Fin 32) (s : State) : Host.Outcome State Fault Refusal := .next (s.lanes fun s => s.expirePending n)

/-! ### Arrivals -/

/-- An arrival enters the queue (R191); a full queue discards it. -/
def State.enqueueArrival (s : State) (a : Arrival) : State :=
  if s.aln.queue.length < 128 then { s with aln := { s.aln with queue := s.aln.queue ++ [a] } }
  else s.setRaise F.ALN_ERR_QUEUE_OVF 60

/-- The arrival of stream n in this frame (R190): CH0 has a new sample, and every other channel named carries the same stamp
and all are valid, or the sample is dropped as INCOMPLETE. -/
def State.arrive (s : State) (n : Nat) : State :=
  let chs := (s.stChans n).filter (· ≤ 95)
  match chs with
  | [] => s
  | c0 :: _ =>
    if s.get (F.ALN_ST_STAT_STATE n) = 0 ∨ s.get (F.ALN_ST_CFG_MODE n) = 3 then s
    else if !s.flag (F.SIG_S_CFG_EN c0) || s.flag (F.SIG_S_STAT_NO_NEW c0) || (s.stChans n).head? != some c0 then s
    else
      let st := (s.chan c0).stamp
      let ok := chs.all (fun c => s.flag (F.SIG_S_STAT_VALID c) && !s.flag (F.SIG_S_STAT_NO_NEW c) && (s.chan c).stamp == st)
      if ok then s.enqueueArrival { stream := n, a := st, v := (s.stChans n).map (fun c => if c ≤ 95 then s.getI (F.SIG_S_VAL_VALUE c) else 0)
                                    fine := chs.all (fun c => s.flag (F.SIG_S_STAT_FINE_VALID c)), adj := (s.chan c0).stampAdj, deferred := false }
      else s.inc (F.ALN_ST_CNT2_INCOMPLETE n)

/-- A GNSS solution arrives for the INTERNAL streams that name it (R189, R190); it is queued with the frame's other arrivals (R191). -/
def State.internalArrive (s : State) (src epoch : Nat) (adj : Bool) (v : List Int) : State :=
  s.each (List.range 32) (fun s n =>
    if s.flag F.FRM_STATUS_RUNNING ∧ s.get (F.ALN_ST_STAT_STATE n) ≠ 0 ∧ s.get (F.ALN_ST_CFG_MODE n) = 3 ∧ s.get (F.ALN_ST_CFG_REFSRC n) = src then
      let a : Arrival := { stream := n, a := epoch, v := (v ++ [0, 0, 0, 0]).take 4, fine := false, adj := adj, deferred := false }
      { s with aln := { s.aln with inner := s.aln.inner ++ [a] } }
    else s)
/-- The waiting solutions of stream n enter the queue, if it is still INTERNAL. -/
def State.innerArrive (s : State) (n : Nat) : State :=
  let l := s.aln.inner.filter (fun a => a.stream == n)
  let s1 := { s with aln := { s.aln with inner := s.aln.inner.filter (fun a => a.stream != n) } }
  if s.get (F.ALN_ST_STAT_STATE n) = 0 ∨ s.get (F.ALN_ST_CFG_MODE n) ≠ 3 then s1 else l.foldl State.enqueueArrival s1

/-- What pairing gives. -/
structure Paired where
  /-- State with model and pending list updated. -/
  s : State
  /-- Measurement instant and residual when the stream delivers. -/
  m : Option (Nat × Int)
  /-- REASSOC. -/
  reassoc : Bool
  /-- The reference instant had been moved by a step. -/
  adj : Bool

/-- The candidate with the smallest distance, ties to the older (R193, R197). -/
def nearest (f : Nat → Int) : List (Nat × Bool) → Option (Nat × Bool)
  | [] => none
  | p :: t => match nearest f t with
    | some q => if (f q.1).natAbs < (f p.1).natAbs then some q else some p
    | none => some p

/-- A pair within limits: QUALIFYING counts on to FRESH (R196); both consecutive counts reset (R195). -/
def State.pairCount (s : State) (n : Nat) : State :=
  let s1 := s.modStream n (fun t => { t with misses := 0, orphans := 0, seed := false })
  if s.get (F.ALN_ST_STAT_STATE n) = 1 then
    let q := s.get (F.ALN_ST_STAT_QCOUNT n) + 1
    let s2 := s1.put (F.ALN_ST_STAT_QCOUNT n) q
    if max 1 (s.get (F.ALN_ST_CFG_QUAL n)) ≤ q then s2.fresh n else s2
  else s1

/-- The seed pair of QUALIFYING (R197). -/
def State.pairSeed (s : State) (n a : Nat) : Paired :=
  let l := (s.stream n).pend
  let cands := l.filter (fun p => decide (0 ≤ linDiff a p.1))
  match nearest (fun t => linDiff a t - s.getI (F.ALN_ST_LAT0_NS n)) cands with
  | none => { s := s.orphan n, m := none, reassoc := false, adj := false }
  | some p =>
    let s1 := (s.putI (F.ALN_ST_OFS_NS n) (wide32 (linDiff a p.1))).put (F.ALN_ST_RESID_NS n) 0
    let s2 := (s1.setPending n (l.filter (fun q => q.1 != p.1))).modStream n (fun t => { t with tauP := p.1 })
    let s3 := s2.pairCount n
    { s := s3, m := if s3.get (F.ALN_ST_STAT_STATE n) = 2 then some (p.1, 0) else none, reassoc := false, adj := p.2 }

/-- Pairing of an arrival with a pending instant (R193, R196): OFS and RATE are rounded once from the exact numbers. A pair with |e| above
250 µs in QUALIFYING is made, and the count and the seed start again. [DEDUCED: log 150] -/
def State.pair (s : State) (n a : Nat) : Paired :=
  let l := (s.stream n).pend
  let cands := l.filter (fun p => decide (0 ≤ linDiff a p.1))
  match cands with
  | [] => { s := s.orphan n, m := none, reassoc := false, adj := false }
  | p0 :: _ =>
    let err (t : Nat) : Int := linDiff a t * predUnit - s.predict n t
    let far := decide (250000 * predUnit < (err p0.1).natAbs)
    let p := if far then (nearest err cands).getD p0 else p0
    let e := err p.1
    let older := if far then (l.takeWhile (fun q => q.1 != p.1)).length else 0
    let s1 := (s.setPending n (l.drop older)).missN n older
    let qual := s.get (F.ALN_ST_STAT_STATE n) == 1
    if s.alnWin * predUnit < e.natAbs then { s := if qual then s1.qualify n else s1.goStale n, m := none, reassoc := far, adj := p.2 }
    else
      let dt := linDiff p.1 (s.stream n).tauP
      let ko : Int := s.get F.ALN_GAIN_KO
      let kr : Int := s.get F.ALN_GAIN_KR
      let rate := s.getI (F.ALN_ST_RATE_RATE n)
      let rate' := if dt = 0 then rate else clampI (-65536000) 65536000 (rate + divRne (sgn dt * kr * e) (2 ^ 16 * dt.natAbs))
      let ofs := divRne (s.predict n p.1 * 2 ^ 16 + ko * e) (predUnit.toNat * 2 ^ 16)
      let res := divRne e predUnit.toNat
      let s2 := ((s1.putI (F.ALN_ST_OFS_NS n) (wide32 ofs)).putI (F.ALN_ST_RATE_RATE n) rate').putSat (F.ALN_ST_RESID_NS n) res
      let s3 := (s2.setPending n ((s2.stream n).pend.filter (fun q => q.1 != p.1))).modStream n (fun t => { t with tauP := p.1 })
      if qual && decide (250000 * predUnit < e.natAbs) then { s := s3.qualify n, m := none, reassoc := far, adj := p.2 }
      else
        let s4 := s3.pairCount n
        { s := s4, m := if s4.get (F.ALN_ST_STAT_STATE n) = 2 then some (p.1, res) else none, reassoc := far, adj := p.2 }

/-! ### Projection -/

/-- Attitude at an instant: roll, pitch, heading in radians, yaw rate, flags (R206). -/
structure Attitude where
  /-- Roll. -/
  phi : Fl
  /-- Pitch. -/
  theta : Fl
  /-- Heading. -/
  psi : Fl
  /-- Yaw rate, rad/s. -/
  r : Fl
  /-- FLAGS bits ATT_HELD, HDG_STREAM, LEVEL. -/
  flags : Nat
  deriving DecidableEq, Repr

/-- Linear interpolation of roll and pitch, BAM32, between the two samples that bracket an instant; the newest, held, up to 10 ms
beyond it. -/
def interpAtt (m : Nat) : List AttSample → Option (Fl × Fl × Nat)
  | [] => none
  | x :: t =>
    let ahead := linDiff m x.m
    let here (f : Nat) : Fl × Fl × Nat := (Fl.ofInt x.roll, Fl.ofInt x.pitch, f)
    if 0 ≤ ahead then (if ahead = 0 then some (here 0) else if ahead ≤ 10000000 then some (here 4) else none)
    else go m x t
where
  /-- Looks for the older sample of the bracket; `nw` is the newer one. -/
  go (m : Nat) (nw : AttSample) : List AttSample → Option (Fl × Fl × Nat)
    | [] => none
    | o :: t =>
      if 0 ≤ linDiff m o.m then
        let d := linDiff nw.m o.m
        let k := linDiff m o.m
        let lerp (p q : Int) : Fl := if d = 0 then Fl.ofInt p else (Fl.ofInt p).add ((Fl.ofInt (toInt 32 (ofInt 32 (q - p)) * k)).div (Fl.ofInt d))
        some (lerp o.roll nw.roll, lerp o.pitch nw.pitch, 0)
      else go m o t

/-- The vessel track in effect is qualified: FLAGS.VALID of its record (R206, R229). -/
def State.vesselOk (s : State) : Bool := bitOf (s.word 0x61000C) 8
/-- Heading PSI + WPSI of the record in effect, radians (R206, R235). -/
def State.vesselPsi (s : State) : Fl := bamRad (Fl.ofInt (toInt 32 (s.word 0x610018 + s.word 0x61003C)))
/-- Yaw rate YAWR + WDPSI of the record in effect, rad/s. -/
def State.vesselRate (s : State) : Fl := bamRad (Fl.ofInt (toInt 32 (s.word 0x610024) + toInt 32 (s.word 0x610048)))
/-- LinNs of the record in effect. -/
def State.vesselT (s : State) : Nat := s.word 0x610000 + 2 ^ 32 * s.word 0x610004

/-- Attitude at instant m (R206); none when it cannot be formed. -/
def State.attitude (s : State) (m : Nat) : Option Attitude :=
  let an := s.get F.ALN_ATTSRC_ATT
  let hn := s.get F.ALN_ATTSRC_HDG
  let rp : Option (Fl × Fl × Nat) :=
    if s.flag F.ALN_ATTSRC_LEVEL then some (Fl.zero, Fl.zero, 32)
    else if s.stKind an = 6 then interpAtt m ((s.aln.att.lookup an).getD []) else none
  let hd : Option (Fl × Fl × Nat) :=
    if s.vesselOk then
      let dt := (Fl.ofInt (linDiff m s.vesselT)).div (Fl.ofInt 1000000000)
      some (s.vesselPsi.add (s.vesselRate.mul dt), s.vesselRate, 0)
    else if s.stKind hn = 3 then (s.aln.hdg.lookup hn).map (fun x => (bamRad (Fl.ofInt x.roll), Fl.zero, 8)) else none
  match rp, hd with
  | some (ro, pi, f1), some (psi, r, f2) =>
    some { phi := bamRad ro, theta := bamRad pi, psi := psi, r := r, flags := f1 + f2 }
  | _, _ => none

/-- Lever arm of a stream. -/
def State.lever (s : State) (n : Nat) : V3 :=
  V3.ofInts (s.getI (F.ALN_ST_LEVER_MM n 0)) (s.getI (F.ALN_ST_LEVER_MM n 1)) (s.getI (F.ALN_ST_LEVER_MM n 2))

/-- Arc sine in radians. -/
def flAsin (x : Fl) : Fl := Fl.atan2 x (((Fl.ofInt 1).sub (x.mul x)).sqrt)

/-- The projected values of a stream's measurement, before the range check (R203, R204). -/
def State.project (s : State) (n : Nat) (v : List Int) (att : Attitude) : List Int :=
  let g (i : Nat) : Int := nth v i 0
  let q := match s.stQuat n with
    | [w, x, y, z] => quatMatrix w x y z
    | _ => quatMatrix (2 ^ 30) 0 0 0
  let lev := s.lever n
  match s.stKind n with
  | 1 =>
    let c := (attMatrix att.psi att.theta att.phi).app lev
    let p := northEast (g 0) (g 1) (s.getI F.EST_ORIGIN_LAT_LAT) (s.getI F.EST_ORIGIN_LON_LON)
    [(p.1.sub c.x).rne, (p.2.sub c.y).rne, g 2, 0]
  | 2 =>
    let r := (attMatrix att.psi att.theta att.phi).app (lev.add (q.app (V3.ofInts (g 0) (g 1) (g 2))))
    [r.x.rne, r.y.rne, r.z.rne, 0]
  | 3 => [toInt 32 (ofInt 32 (g 0 - radBam q.yaw)), 0, 0, 0]
  | 4 =>
    let w := q.app (V3.ofInts (g 0) (g 1) 0)
    [(w.x.add (att.r.mul lev.y)).rne, (w.y.sub (att.r.mul lev.x)).rne, 0, 0]
  | 5 =>
    let a := bamRad (Fl.ofInt (g 0))
    let w := q.app ⟨Fl.cos a, Fl.sin a, Fl.zero⟩
    [toInt 32 (radBam (Fl.atan2 w.y w.x)), g 1, 0, 0]
  | 6 =>
    let b := (attMatrix Fl.zero (bamRad (Fl.ofInt (g 1))) (bamRad (Fl.ofInt (g 0)))).mul q.tr
    [radBamS (Fl.atan2 b.r2.y b.r2.z), radBamS (flAsin b.r2.x.neg), 0, 0]
  | _ => [g 0, g 1, g 2, g 3]

/-- A 32-byte record as words (R201). -/
def Meas.words (x : Meas) : List Nat :=
  [x.m % 2 ^ 32, x.m / 2 ^ 32, x.stream + 2 ^ 8 * x.kind + 2 ^ 16 * x.flags] ++ x.v.map (ofInt 32) ++ [ofInt 32 (clampS 32 x.resid)]

/-- Keeps the newest samples of a stream's history. -/
def pushHist (l : List (Nat × List AttSample)) (n : Nat) (x : AttSample) : List (Nat × List AttSample) :=
  putKey n ((x :: (l.lookup n).getD []).take 512) l

/-- A measurement is delivered (R199, R201): recorded, counted, kept for attitude and heading. -/
def State.deliver (s : State) (x : Meas) : State :=
  let n := x.stream
  let s1 := ({ s with aln := { s.aln with out := s.aln.out ++ [x] } }.setWords (0x520000 + 0x20 * n) x.words).incWrap (F.ALN_ST_DELIV_COUNT n)
  let smp : AttSample := ⟨x.m, nth x.v 0 0, nth x.v 1 0⟩
  if x.kind = 6 then { s1 with aln := { s1.aln with att := pushHist s1.aln.att n smp } }
  else if x.kind = 3 then { s1 with aln := { s1.aln with hdg := putKey n smp s1.aln.hdg } }
  else s1

/-- From a paired instant to a delivered measurement (R200, R203, R206). [DESIGN CHOICE: log 149] -/
def State.measure (s : State) (q : Arrival) (m : Nat) (e : Int) (reassoc adj : Bool) : State :=
  let n := q.stream
  let k := s.stKind n
  let tick := s.now / 250000 * 250000 % 2 ^ 64
  let need := k == 1 || k == 2 || k == 4 || k == 5
  if s.alnWin < linDiff tick m then s.inc (F.ALN_ST_CNT1_LATE n)
  else
    match (if need then s.attitude m else some { phi := Fl.zero, theta := Fl.zero, psi := Fl.zero, r := Fl.zero, flags := 0 }) with
    | none => (s.inc (F.ALN_ST_CNT2_NOATT n)).raiseMajor 61
    | some att =>
      let v := s.project n q.v att
      let s0 := s.when (k != 7) (fun s => { s with aln := { s.aln with proj := s.aln.proj + 1 } })
      if k = 1 ∧ v.any (fun x => clampS 32 x != x) = true then s0.inc (F.ALN_ST_CNT1_LATE n)
      else
        let fl := b2n reassoc + 2 * b2n (adj || q.adj) + att.flags + 16 * b2n q.fine + 64 * b2n q.deferred
        let s1 := s0.when reassoc (fun s => (s.inc (F.ALN_ST_CNT1_REASSOC n)).raiseMajor 58)
        s1.deliver { m := m, stream := n, kind := k, flags := fl, v := v.map (clampS 32), resid := e }

/-- One entry of the queue is processed (R193, R196, R189). -/
def State.processArrival (s : State) (q : Arrival) : State :=
  let n := q.stream
  let mode := s.get (F.ALN_ST_CFG_MODE n)
  let sdly := s.getI (F.ALN_ST_SDLY_NS n)
  if s.get (F.ALN_ST_STAT_STATE n) = 0 then s
  else if mode ≤ 1 then
    let s0 := if s.get (F.ALN_ST_STAT_STATE n) = 3 then s.qualify n else s
    let p := if (s0.stream n).seed then s0.pairSeed n q.a else s0.pair n q.a
    match p.m with
    | none => p.s
    | some (tau, e) => p.s.measure q (ofInt 64 (tau + sdly)) e p.reassoc p.adj
  else
    let s1 := if s.get (F.ALN_ST_STAT_STATE n) = 2 then s else s.fresh n
    s1.measure q (if mode = 3 then q.a else ofInt 64 (q.a + sdly)) 0 false false

/-- The queue, oldest first, under the projection budget of 512 per major frame (R191, R207). -/
def State.drainQueue (s : State) : List Arrival → State
  | [] => s
  | q :: t =>
    if s.stKind q.stream = 7 ∨ s.aln.proj < 512 then (s.processArrival q).drainQueue t
    else
      let s1 := s.setRaise F.ALN_ERR_BUDGET 60
      { s1 with aln := { s1.aln with queue := s1.aln.queue ++ [{ q with deferred := true }] } }.drainQueue t

/-- The arrivals of a frame from the channels that ACQ processed, and the solutions that wait, placed in the queue in ascending stream
number (R190, R191). [DESIGN CHOICE: log 148] -/
def State.alnArrivals (s : State) (reached : Nat → Bool) : State :=
  s.each (List.range 32) (fun s n =>
    match (s.stChans n).head? with
    | some c => if reached c then (s.arrive n).innerArrive n else s.innerArrive n
    | none => s.innerArrive n)

/-- The ALN stage processes the first `done` entries of its queue; the others stay queued (R191). -/
def State.alnWork (done : Nat) (s : State) : State :=
  let s1 := s.each (List.range 32) (fun s n => s.expirePending n)
  let q := s1.aln.queue
  let s2 := { s1 with aln := { s1.aln with queue := [] } }.drainQueue (q.take done)
  { s2 with aln := { s2.aln with queue := s2.aln.queue ++ q.drop done } }

/-- A step of the counter moves every instant taken before it (R202). -/
def State.alnStep (s : State) (delta : Int) : State :=
  let mv (x : Nat) : Nat := ofInt 64 (x + delta)
  { s with aln := { s.aln with
      streams := s.aln.streams.map (fun t => { t with pend := t.pend.map (fun p => (mv p.1, true)), tauP := mv t.tauP })
      queue := s.aln.queue.map (fun q => { q with a := mv q.a, adj := true })
      inner := s.aln.inner.map (fun q => { q with a := mv q.a, adj := true })
      att := s.aln.att.map (fun p => (p.1, p.2.map (fun x => { x with m := mv x.m })))
      hdg := s.aln.hdg.map (fun p => (p.1, { p.2 with m := mv p.2.m })) } }

/-- At a major tick the projection load is published and starts again (R207). -/
def State.alnMajor (s : State) : State :=
  let k := s.aln.proj
  ({ s with aln := { s.aln with proj := 0 } }.put F.ALN_LOAD_LAST k).putMax F.ALN_LOAD_MAX k

end Sys2Proof.Machine
end

