-- ==== Sys2Proof/Machine/Cal.lean ====
section
/-! DEFINITION. The proleptic Gregorian calendar of the calendar port (R597 to R599). -/

namespace Sys2Proof.Machine

/-- A leap year (R597). -/
def isLeap (y : Nat) : Bool := y % 4 == 0 && (y % 100 != 0 || y % 400 == 0)

/-- Days of a month. -/
def monthLen (y m : Nat) : Nat :=
  match m with
  | 2 => if isLeap y then 29 else 28
  | 4 => 30 | 6 => 30 | 9 => 30 | 11 => 30
  | _ => 31

/-- Days of the years from 1970 up to, but not including, `y`. -/
def daysToYear (y : Nat) : Nat :=
  let k (n : Nat) : Nat := n / 4 - n / 100 + n / 400
  (y - 1970) * 365 + (k (y - 1) - k 1969)

/-- Days of the months before `m` in year `y`. -/
def daysToMonth (y m : Nat) : Nat := ((List.range (m - 1)).map (fun i => monthLen y (i + 1))).sum

/-- Day number of a date; 1970-01-01 is day 0. -/
def dayNumber (y m d : Nat) : Nat := daysToYear y + daysToMonth y m + (d - 1)

/-- A date and time (R597). -/
structure Civil where
  /-- Year. -/
  y : Nat
  /-- Month. -/
  mo : Nat
  /-- Day. -/
  d : Nat
  /-- Hour. -/
  h : Nat
  /-- Minute. -/
  mi : Nat
  /-- Second. -/
  s : Nat
  deriving DecidableEq, Repr

/-- The year of a day number: the estimate by mean years is at most one too low or too high. -/
def yearOf (day : Nat) : Nat :=
  let e := 1970 + day * 400 / 146097
  if day < daysToYear e then e - 1 else if daysToYear (e + 1) ≤ day then e + 1 else e

/-- Month and day of a day of a year, looking from month `m` on. -/
def monthOf (y : Nat) : Nat → Nat → Nat → Nat × Nat
  | 0, m, d => (m, d + 1)
  | k + 1, m, d => if d < monthLen y m then (m, d + 1) else monthOf y k (m + 1) (d - monthLen y m)

/-- Date and time of a number of UTC seconds since 1970. -/
def civilOf (u : Nat) : Civil :=
  let day := u / 86400
  let t := u % 86400
  let y := yearOf day
  let md := monthOf y 11 1 (day - daysToYear y)
  { y := y, mo := md.1, d := md.2, h := t / 3600, mi := t / 60 % 60, s := t % 60 }

/-- UTC seconds since 1970 of a date and time. -/
def Civil.utc (c : Civil) : Nat := dayNumber c.y c.mo c.d * 86400 + c.h * 3600 + c.mi * 60 + c.s

/-- Day of the week, 1 Monday to 7 Sunday; day 0 is a Thursday. -/
def dowOf (day : Nat) : Nat := (day + 3) % 7 + 1

/-- A date and time within the port's range, second 60 apart (R598). -/
def Civil.ok (c : Civil) : Bool :=
  1970 ≤ c.y && c.y ≤ 9999 && 1 ≤ c.mo && c.mo ≤ 12 && 1 ≤ c.d && c.d ≤ monthLen c.y c.mo && c.h ≤ 23 && c.mi ≤ 59 && c.s ≤ 60

/-- The last UTC second of the port. -/
def utcMax : Nat := 253402300799

/-- An offset schedule (R597, R599): offset, and the next one with its instant. -/
structure Offsets where
  /-- OFS. -/
  ofs : Nat
  /-- NEXT and AT of a valid schedule. -/
  next : Option (Nat × Nat)
  deriving DecidableEq, Repr

/-- Date and time of a TAI second (R597, R599); none outside the port's range. -/
def Offsets.toCivil (o : Offsets) (tai : Nat) : Option Civil :=
  let plain (k : Nat) : Option Civil := if k ≤ tai ∧ tai - k ≤ utcMax then some (civilOf (tai - k)) else none
  match o.next with
  | none => plain o.ofs
  | some (nx, at') =>
    if at' ≤ tai then plain nx
    else if nx = o.ofs + 1 ∧ tai + 1 = at' then (plain (o.ofs + 1)).map (fun c => { c with s := 60 })
    else plain o.ofs

/-- The TAI second of a date and time (R598, R599); none when it is rejected. -/
def Offsets.fromCivil (o : Offsets) (c : Civil) : Option Nat :=
  if !c.ok then none
  else
    match o.next with
    | none => if c.s = 60 then none else some (c.utc + o.ofs)
    | some (nx, at') =>
      if c.s = 60 then (if nx = o.ofs + 1 ∧ c.utc + o.ofs + 1 = at' then some (c.utc + o.ofs) else none)
      else if at' ≤ c.utc + nx then some (c.utc + nx)
      else if c.utc + o.ofs < at' then some (c.utc + o.ofs) else none

end Sys2Proof.Machine
end

