-- ==== Sys2Proof/Machine/Rtc.lean ====
section
/-! DEFINITION. The real-time clock and backup domain: count and crystal (R587 to R592), loads and trim (R593 to R596),
calendar port (R597 to R599), lockout (R600), alarm, WAKE and PWR_EN (R601 to R603), coinciding happenings (R605). -/

namespace Sys2Proof.Machine

open Sys2Proof

/-- SEC of the count. -/
def State.rtcSec (s : State) : Nat := s.rtc.count / 65536 % 2 ^ 48
/-- FRAC of the count. -/
def State.rtcFrac (s : State) : Nat := s.rtc.count % 65536
/-- Sets the count. -/
def State.setCount (s : State) (sec frac : Nat) : State :=
  { s with rtc := { s.rtc with count := sec % 2 ^ 48 * 65536 + frac % 65536 } }
/-- A 48-bit value held in two words. -/
def State.get48 (s : State) (lo hi : Fld) : Nat := s.get hi % 65536 * 2 ^ 32 + s.get lo
/-- Sets a 48-bit value held in two words. -/
def State.put48 (s : State) (lo hi : Fld) (v : Nat) : State := (s.put lo (v % 2 ^ 32)).put hi (v / 2 ^ 32)

/-- An event of the domain; while the interface is locked out it waits for READY (R606). -/
def State.rtcRaise (s : State) (e : Nat) : State :=
  if s.flag F.RTC_STATUS_READY then s.raise e else { s with rtc := { s.rtc with held := s.rtc.held ++ [e] } }

/-- PWR_EN follows ALMF, WAKEF and FORCE (R603). -/
def State.pwrEn (s : State) : State :=
  s.putB F.RTC_PWR_PWR_EN (s.flag F.RTC_PWR_ALMF || s.flag F.RTC_PWR_WAKEF || s.flag F.RTC_PWR_FORCE)

/-- After a write of RTC_PWR: PWR_EN rises with FORCE; it falls at the next crystal pulse (R603). -/
def State.pwrEnUp (s : State) : State := s.when (!s.flag F.RTC_PWR_PWR_EN) State.pwrEn

/-- Signed difference of two 48-bit second counts (R601). -/
def secDiff (a b : Nat) : Int := toInt 48 (a + 2 ^ 48 - b % 2 ^ 48)

/-- The alarm fires when SEC is equal to or later than RTC_ALARM (R601). -/
def State.alarmCheck (s : State) : State :=
  let at' := s.get48 F.RTC_ALARM_LO_SEC F.RTC_ALARM_HI_SEC
  let d := secDiff s.rtcSec at'
  if s.flag F.RTC_PWR_ALARM_EN && decide (0 ≤ d) then
    let per := s.get F.RTC_ALARM_PER_PER
    let s1 := if per = 0 then s.put F.RTC_PWR_ALARM_EN 0
      else s.put48 F.RTC_ALARM_LO_SEC F.RTC_ALARM_HI_SEC ((at' + (d.toNat / per + 1) * per) % 2 ^ 48)
    ((s1.put F.RTC_PWR_ALMF 1).pwrEn).rtcRaise 240
  else s

/-- RTC_ALARM (R601). -/
def execRtcAlarm (s : State) : Host.Outcome State Fault Refusal := .next s.alarmCheck

/-- The leap schedule, if EN is set and NEXT is OFS + 1 or OFS - 1 (R599). -/
def State.offsets (s : State) : Offsets :=
  let ofs := s.get F.RTC_TAIUTC_OFS
  let nx := s.get F.RTC_LEAP_NEXT
  let ok := s.flag F.RTC_LEAP_EN && (nx == ofs + 1 || nx + 1 == ofs)
  { ofs := ofs, next := if ok then some (nx, s.get48 F.RTC_LEAP_AT_LO_SEC F.RTC_LEAP_AT_HI_SEC) else none }

/-- A schedule with any other NEXT is invalid, with LEAP.ERR (R599). -/
def State.leapErr (s : State) : State :=
  s.when (s.flag F.RTC_LEAP_EN && s.offsets.next.isNone) (·.put F.RTC_LEAP_ERR 1)

/-- The count has reached AT: OFS takes NEXT and EN clears (R599, R605). -/
def State.leapCheck (s : State) : State :=
  match s.offsets.next with
  | some (nx, at') => if 0 ≤ secDiff s.rtcSec at' ∧ s.flag F.RTC_CTRL_HALT = false then (s.put F.RTC_TAIUTC_OFS nx).put F.RTC_LEAP_EN 0 else s
  | none => s

/-- LEAP_SECOND (R599). -/
def execLeapSecond (s : State) : Host.Outcome State Fault Refusal := .next s.leapCheck

/-- What follows every change of the count (R599, R601), and every crystal pulse: PWR_EN follows its causes (R603, R605). [DEDUCED: log 414] -/
def State.rtcFollow (s : State) : State := s.leapCheck.alarmCheck.pwrEn

/-- BACKUP_DOMAIN_POWER_UP (R588): every field takes its bracketed value, the ring is empty. -/
def State.domainPowerUp (s : State) : State :=
  let rg : RegFile := ⟨s.regs.words.filter (fun p => !(decide (0x1100000 ≤ p.1) && decide (p.1 < 0x1200000)))⟩
  let s1 := { s with regs := rg, rtc := RtcState.reset, rcd := { s.rcd with ring := [] } }
  (s1.put F.REC_LG_NEW 0).put F.REC_LG_COPIED 0

/-- BACKUP_DOMAIN_POWER_UP (R588). -/
def execBackupDomainPowerUp (s : State) : Host.Outcome State Fault Refusal := .next s.domainPowerUp

/-- CRYSTAL_STOP (R590): the count stands still; VALID clears and event 244 is raised. -/
def State.crystalStop (s : State) : State :=
  (({ s with rtc := { s.rtc with stopped := true } }.put F.RTC_STATUS_VALID 0).put F.RTC_STATUS_OSCSTOP 1).rtcRaise 244

/-- CRYSTAL_STOP (R590). -/
def execCrystalStop (s : State) : Host.Outcome State Fault Refusal := .next s.crystalStop

/-- CRYSTAL_RESTART (R590): the count runs again; VALID stays as it is. -/
def State.crystalRestart (s : State) : State := { s with rtc := { s.rtc with stopped := false } }

/-- CRYSTAL_RESTART (R590). -/
def execCrystalRestart (s : State) : Host.Outcome State Fault Refusal := .next s.crystalRestart

/-- A read of RTC_FRAC returns FRAC and latches SEC (R591); 0 while the interface is locked out (R600). -/
def State.fracRead (s : State) : State :=
  if s.flag F.RTC_STATUS_READY then
    { (s.latch [(0x1100004, s.rtcSec % 2 ^ 32), (0x1100008, s.rtcSec / 2 ^ 32)]) with hostData := s.rtcFrac }
  else { s with hostData := 0 }

/-- RTC_FRAC_READ (R591). -/
def execRtcFracRead (_port : Fin 2) (s : State) : Host.Outcome State Fault Refusal := .next s.fracRead

/-- A write of HALT (R590, R592): at the release VALID is set if SEC was written while halted. -/
def State.haltWrite (s : State) (halt : Bool) : State :=
  if !s.flag F.RTC_STATUS_READY then s.put F.RTC_STATUS_LOCKWR 1
  else if halt then
    if s.flag F.RTC_CTRL_HALT then s else { s with rtc := { s.rtc with wroteSec := false } }.put F.RTC_CTRL_HALT 1
  else if s.flag F.RTC_CTRL_HALT then
    let s1 := (s.put F.RTC_CTRL_HALT 0).when s.rtc.wroteSec (·.put F.RTC_STATUS_VALID 1)
    { s1 with rtc := { s1.rtc with wroteSec := false } }.rtcFollow
  else s

/-- RTC_HALT (R592). -/
def execRtcHalt (halt : Bool) (s : State) : Host.Outcome State Fault Refusal := .next (s.haltWrite halt)

/-- A host write of a word of the count while it is halted (R592): word 0 FRAC, 1 SEC_LO, 2 SEC_HI. -/
def State.countWrite (s : State) (w v : Nat) : State :=
  let sec := s.rtcSec
  match w with
  | 0 => s.setCount sec v
  | 1 => ({ s with rtc := { s.rtc with wroteSec := true } }.setCount (sec / 2 ^ 32 * 2 ^ 32 + v % 2 ^ 32) s.rtcFrac).rtcFollow
  | _ => ({ s with rtc := { s.rtc with wroteSec := true } }.setCount (sec % 2 ^ 32 + v % 65536 * 2 ^ 32) s.rtcFrac).rtcFollow

/-! ### At the internal PPS -/

/-- An automatic trim measurement is complete (R596): VALUE is 33,554,432 - N, clamped. -/
def State.autotrimDone (s : State) : State :=
  match s.rtc.trimDue with
  | none => s
  | some n =>
    let v : Int := 33554432 - n
    let c := clampI (-17179) 17179 v
    let s1 := ((s.putI F.RTC_TRIM_VALUE c).putSat F.RTC_TRIMMEAS_LAST v).put F.RTC_STATUS_TRIMVALID 1
    ({ s1 with rtc := { s1.rtc with trimDue := none } }.when (c != v) (·.put F.RTC_STATUS_TRIMSAT 1)).rtcRaise 243

/-- AUTOTRIM_COMPLETE (R596). -/
def execAutotrimComplete (s : State) : Host.Outcome State Fault Refusal := .next s.autotrimDone

/-- A measurement in progress is discarded (R596). -/
def State.autotrimDrop (s : State) : State := { s with rtc := { s.rtc with trimAt := none } }.put F.RTC_TRIMMEAS_PROGRESS 0

/-- One internal PPS interval of the automatic trim (R596). -/
def State.autotrimPps (s0 : State) : State :=
  let s := s0.autotrimDone
  if !s.flag F.RTC_CTRL_AUTOTRIM || s.get F.TIM_STATUS_STATE != 2 then s.autotrimDrop
  else
    match s.rtc.trimAt with
    | none => { s with rtc := { s.rtc with trimAt := some s.rtc.pulses } }.put F.RTC_TRIMMEAS_PROGRESS 0
    | some p =>
      let k := s.get F.RTC_TRIMMEAS_PROGRESS + 1
      if 1024 ≤ k then
        { s with rtc := { s.rtc with trimAt := some s.rtc.pulses, trimDue := some (s.rtc.pulses - p) } }.put F.RTC_TRIMMEAS_PROGRESS 0
      else s.put F.RTC_TRIMMEAS_PROGRESS k

/-- The internal PPS of second `sec` (R593, R594, R596, R605): a load at PPS wins over the automatic synchronisation. [DEDUCED: log 412] -/
def State.internalPps (s : State) (sec : Nat) : State :=
  let s0 := { s with rtc := { s.rtc with ppsSec := sec } }.autotrimPps
  let thr := max (s.get F.RTC_CTRL_SYNCTHR) 1
  let off := toInt 64 ((s0.rtc.count + 2 ^ 64 - sec % 2 ^ 48 * 65536) % 2 ^ 64)
  if s0.flag F.RTC_CTRL_LOADPPS then
    (((s0.setCount (s0.get48 F.RTC_LOAD_LO_SEC F.RTC_LOAD_HI_SEC) 0).put F.RTC_CTRL_LOADPPS 0).put F.RTC_STATUS_VALID 1).rtcFollow
  else if s0.flag F.RTC_CTRL_AUTOSYNC && s0.get F.TIM_STATUS_STATE == 2 && decide (thr < off.natAbs) then
    (((s0.setCount sec 0).put F.RTC_STATUS_VALID 1).rtcRaise 242).rtcFollow
  else s0

/-- INTERNAL_PPS (R593): the PPS of the second boundary at or before now, if it has not been handled yet; the time base runs. -/
def execInternalPps (s : State) : Host.Outcome State Fault Refusal :=
  .next (if s.ready && s.tim.ctr.sec != s.rtc.ppsSec then s.internalPps s.tim.ctr.sec else s)

/-- TRIM_WINDOW_START (R595): a window that is at its start takes the register's VALUE. -/
def State.trimStart (s : State) : State :=
  if s.rtc.k = 0 then { s with rtc := { s.rtc with trim := s.getI F.RTC_TRIM_VALUE } } else s

/-- TRIM_WINDOW_START (R595). -/
def execTrimWindowStart (s : State) : Host.Outcome State Fault Refusal := .next s.trimStart

/-- A host write of RTC_TRIM.VALUE (R595, R596): held inside ±17,179, discarded while AUTOTRIM is 1. -/
def State.trimWrite (s : State) (v : Nat) : State :=
  if s.flag F.RTC_CTRL_AUTOTRIM then s else s.putI F.RTC_TRIM_VALUE (clampI (-17179) 17179 (toInt 16 v))

/-! ### Calendar port -/

/-- Words of RTC_CAL_DATE and RTC_CAL_TIME. -/
def calWords (c : Civil) (dow : Nat) : List (Nat × Nat) :=
  [(0x110003C, c.d + 2 ^ 8 * c.mo + 2 ^ 16 * c.y), (0x1100040, c.s + 2 ^ 8 * c.mi + 2 ^ 16 * c.h + 2 ^ 24 * dow)]

/-- Words of RTC_CAL_SEC. -/
def secWords (t : Nat) : List (Nat × Nat) := [(0x1100034, t % 2 ^ 32), (0x1100038, t / 2 ^ 32 % 65536)]

/-- Day of the week of a date. -/
def Civil.dow (c : Civil) : Nat := dowOf (dayNumber c.y c.mo c.d)

/-- A calendar command is rejected (R598); event 245. -/
def State.calReject (s : State) : State := (s.put F.RTC_CAL_STAT_CAL_ERR 1).rtcRaise 245

/-- A conversion starts, or is rejected (R598); during BUSY the command is discarded with CAL_ERR (R605). -/
def State.calStart (s : State) (r : Option (List (Nat × Nat))) : State :=
  if s.flag F.RTC_CAL_STAT_BUSY then s.put F.RTC_CAL_STAT_CAL_ERR 1
  else
    match r with
    | some l => { s with rtc := { s.rtc with conv := l } }.put F.RTC_CAL_STAT_BUSY 1
    | none => s.calReject

/-- TOCAL (R598). -/
def State.tocal (s : State) : State :=
  s.calStart ((s.offsets.toCivil (s.get48 F.RTC_CAL_SEC_LO_SEC F.RTC_CAL_SEC_HI_SEC)).map (fun c => calWords c c.dow))

/-- LIVE (R598). -/
def State.calLive (s : State) : State :=
  s.calStart ((s.offsets.toCivil s.rtcSec).map (fun c => secWords s.rtcSec ++ calWords c c.dow))

/-- The date and time in the calendar registers. -/
def State.calInput (s : State) : Civil :=
  { y := s.get F.RTC_CAL_DATE_YEAR, mo := s.get F.RTC_CAL_DATE_MONTH, d := s.get F.RTC_CAL_DATE_DAY
    h := s.get F.RTC_CAL_TIME_HOUR, mi := s.get F.RTC_CAL_TIME_MINUTE, s := s.get F.RTC_CAL_TIME_SECOND }

/-- FROMCAL (R598): the day of the week of the date is written beside the seconds, as the worked example of R599 shows. -/
def State.fromcal (s : State) : State :=
  let c := s.calInput
  s.calStart ((s.offsets.fromCivil c).map (fun t => secWords t ++ (calWords c c.dow).drop 1))

/-- TOCAL (R598). -/
def execTocal (s : State) : Host.Outcome State Fault Refusal := .next s.tocal
/-- FROMCAL (R598). -/
def execFromcal (s : State) : Host.Outcome State Fault Refusal := .next s.fromcal
/-- LIVE (R598). -/
def execLive (s : State) : Host.Outcome State Fault Refusal := .next s.calLive

/-- A write of RTC_CAL_CMD: one bit is a command, more are discarded with CAL_ERR. -/
def State.calCmd (s : State) (v : Nat) : State :=
  match v % 8 with
  | 0 => s
  | 1 => s.tocal
  | 2 => s.fromcal
  | 4 => s.calLive
  | _ => s.put F.RTC_CAL_STAT_CAL_ERR 1

/-- A conversion completes: its outputs are written and BUSY clears (R598). -/
def State.calDone (s : State) : State :=
  if s.flag F.RTC_CAL_STAT_BUSY then
    ({ (s.each s.rtc.conv (fun s p => s.setWord p.1 p.2)) with rtc := { s.rtc with conv := [] } }).put F.RTC_CAL_STAT_BUSY 0
  else s

/-- CALENDAR_CONVERSION_COMPLETE (R598). -/
def execCalendarConversionComplete (s : State) : Host.Outcome State Fault Refusal := .next s.calDone

/-! ### Lockout, WAKE, VBAT -/

/-- A rail leaves its range or is back within it (R613); LOWSEEN notes the leaving. -/
def State.railState (s : State) (k : Nat) (out : Bool) : State :=
  ({ s with pwr := { s.pwr with bad := setBit s.pwr.bad k out } }).when out (·.putBit F.PWR_RAIL_LOWSEEN k true)

/-- IO_LOCKOUT_ENTER (R600). -/
def execIoLockoutEnter (s : State) : Host.Outcome State Fault Refusal := .next ((s.put F.RTC_STATUS_READY 0).railState 0 true)

/-- The interface is ready: events held meanwhile are raised (R606). -/
def State.rtcReady (s : State) : State :=
  ({ s with rtc := { s.rtc with held := [] } }.put F.RTC_STATUS_READY 1).each s.rtc.held (fun s e => s.raise e)

/-- The lockout ends (R600); event 246 if LOCKWR is 1. -/
def State.lockoutEnd (s : State) : State :=
  if s.flag F.RTC_STATUS_READY then s else (s.rtcReady.when (s.flag F.RTC_STATUS_LOCKWR) (·.raise 246)).railState 0 false

/-- IO_LOCKOUT_END (R600). -/
def execIoLockoutEnd (s : State) : Host.Outcome State Fault Refusal := .next s.lockoutEnd

/-- The debounced WAKE input (R602): the WAKE field follows it, and a change to the level of WAKEPOL sets WAKEF while WAKE_EN
is 1. -/
def State.wakeInput (s : State) (level : Bool) : State :=
  let was := s.flag F.RTC_PWR_WAKE
  let active := level != s.flag F.RTC_PWR_WAKEPOL
  let s1 := s.putB F.RTC_PWR_WAKE level
  if level != was && active && s.flag F.RTC_PWR_WAKE_EN then ((s1.put F.RTC_PWR_WAKEF 1).pwrEn).rtcRaise 241 else s1

/-- WAKE_INPUT (R602). -/
def execWakeInput (level : Bool) (s : State) : Host.Outcome State Fault Refusal := .next (s.wakeInput level)

/-- VBAT is compared with 2.2 V at a slow tick (R588). [DESIGN CHOICE: log 413] -/
def State.vbatCheck (s : State) (mv : Nat) : State :=
  let low := decide (mv < 2200)
  let s1 := (s.putB F.RTC_STATUS_VBATLOW low).when (low != bitOf s.pwr.bad 6) (·.railState 6 low)
  s1.when (low && !s.flag F.RTC_STATUS_VBATLOW) (·.rtcRaise 244)

end Sys2Proof.Machine
end

