-- ==== Sys2Proof/Machine/Tim.lean ====
section
/-! DEFINITION. The time base: discipline and servo (R91 to R98), steps (R95, R100), compare units (R81 to R87) and capture
inputs (R88 to R90). -/

namespace Sys2Proof.Machine

open Sys2Proof

/-! ### FINE -/

/-- The entries of a list of instants, newest first, back to the newest that is 64 s old. -/
def keepBack (now : Nat) : List (Nat × Int) → List (Nat × Int)
  | [] => []
  | x :: t => if x.1 + 64000000000 ≤ now then [x] else x :: keepBack now t
/-- Puts a FINE in force; a value beyond 500 ppm is clamped and flagged (R76). -/
def State.setFine (s : State) (x : Int) : State :=
  let s1 := { s with tim := { s.tim with fines := (s.now, clampFine x) :: keepBack s.now s.tim.fines } }
  (s1.when (clampFine x != x) (·.put F.TIM_STATUS_INCR_CLAMP 1)).putI F.TIM_INCR_FINE (clampFine x)

/-- At a minor tick the pending FINE takes effect; in FREE it is TIM_MANINCR.FINE (R91, R94). A value in force is not clamped again.
[DEDUCED: log 80] -/
def State.applyFine (s : State) : State :=
  let want := if s.get F.TIM_STATUS_STATE = 0 then s.getI F.TIM_MANINCR_FINE
    else s.tim.finePend.getD (s.getI F.TIM_INCR_FINE)
  let s1 := s.when (s.tim.finePend.isSome || clampFine want != s.getI F.TIM_INCR_FINE) (·.setFine want)
  { s1 with tim := { s1.tim with finePend := none } }

/-- A write of TIM_MANINCR: in FREE it is applied at the next minor tick (R76). [DEDUCED: log 81] -/
def State.writeManIncr (s : State) (v : Nat) : State :=
  let s1 := s.putI F.TIM_MANINCR_FINE (toInt 32 v)
  if s1.get F.TIM_STATUS_STATE = 0 then { s1 with tim := { s1.tim with finePend := some (toInt 32 v) } } else s1

/-- The slew limit in FINE units: SLEW ns/s, 17,179.87 units per ppm, rounded up (R94); SLEW 0 acts as 1. -/
def slewUnits (slew : Nat) : Int := (((max slew 1) * 2 ^ 34 + 999999999) / 1000000000 : Nat)

/-- The servo after an offset measurement (R94): the frequency estimate is its own, the phase correction is held inside the
slew limit, and their sum waits for the next minor tick. -/
def State.servo (s : State) (ofs : Int) : State :=
  let kp := s.get F.TIM_SERVO_KP
  let ki := s.get F.TIM_SERVO_KI
  let lim := slewUnits (s.get F.TIM_DISC_SLEW)
  let fr := Config.servoFreq kp ki s.tim.freq ofs
  let ph := clampI (-lim) lim (Config.servoPhase kp ki s.tim.freq ofs)
  { s with tim := { s.tim with freq := fr, phase := ph, finePend := some (fr + ph) } }

/-! ### Discipline -/

/-- MODE as it acts: 5 to 7 act as 0 (R91). -/
def effMode (m : Nat) : Nat := if m ≤ 4 then m else 0

/-- Primary source of a MODE: 1 GNSS, 2 PTP, 0 none (R91). -/
def primarySrc (m : Nat) : Nat :=
  match m with
  | 1 => 1 | 2 => 2 | 3 => 1 | 4 => 2 | _ => 0

/-- Secondary source of a MODE (R91). -/
def secondarySrc (m : Nat) : Nat :=
  match m with
  | 3 => 2 | 4 => 1 | _ => 0

/-- A source qualifies: 10 consecutive valid epochs, or 16 consecutive Syncs (R93). -/
def State.qualified (s : State) (src : Nat) : Bool :=
  match src with
  | 1 => 10 ≤ s.tim.gnssCount
  | 2 => s.tim.ptpQual
  | _ => false

/-- The qualified source of the MODE, the primary if both are (R96); 0 for none. -/
def State.bestSrc (s : State) : Nat :=
  let m := effMode (s.get F.TIM_DISC_MODE)
  if s.qualified (primarySrc m) then primarySrc m
  else if s.qualified (secondarySrc m) then secondarySrc m else 0

/-- The state leaves LOCKED, if it is in it: a trim measurement is discarded (R596). -/
def State.unlocked (s : State) : State := s.when (s.get F.TIM_STATUS_STATE == 2) State.autotrimDrop
/-- LOCKING on a source (R96), with event 17. -/
def State.toLocking (s0 : State) (src : Nat) : State :=
  let s := s0.unlocked
  let s1 := ((s.put F.TIM_STATUS_STATE 1).put F.TIM_STATUS_SRC src).put F.TIM_STATUS_HOLD_EXCEEDED 0
  { s1 with tim := { s1.tim with inLim := 0, outLim := 0, hist := [] } }.raise 17

/-- FINE × ns from instant `a` to instant `e`, of the values that came in force, newest first; 0 was in force before them. -/
def fineSum (a : Nat) : Nat → List (Nat × Int) → Int
  | _, [] => 0
  | e, x :: t => if x.1 ≤ a then x.2 * (e - a : Nat) else x.2 * (e - x.1 : Nat) + fineSum a x.1 t

/-- The root of n / d to the nearest whole number, ties to even (R12). -/
def rootRne (n d : Nat) : Nat :=
  let r := isqrt (n / d)
  let m := (2 * r + 1) * (2 * r + 1) * d
  if 4 * n < m then r else if m < 4 * n then r + 1 else r + r % 2

/-- HOLDOVER (R96, R97): rate and starting uncertainty come from the LOCKED period, up to its last 64 s, where it lasted 1 s, else from
the current FINE and the last offset; event 18. [DEDUCED: log 82] -/
def State.toHoldover (s : State) : State :=
  let h := s.tim.hist.filter (fun x => s.now < x.t + 64000000000)
  let a := max s.tim.lockAt (s.now - 64000000000)
  let long := s.get F.TIM_STATUS_STATE == 2 && decide (s.tim.lockAt + 1000000000 ≤ s.now) && !h.isEmpty
  let rate := if long then divRne (fineSum a s.now s.tim.fines) (s.now - a) else s.getI F.TIM_INCR_FINE
  let u0 := if long then rootRne (h.map (fun x : LockSample => x.ofs * x.ofs)).sum.natAbs h.length else (s.getI F.TIM_OFFSET_NS).natAbs
  let s1 := s.unlocked.put F.TIM_STATUS_STATE 3
  { s1 with tim := { s1.tim with finePend := some rate, holdStart := s.now, holdU0 := u0, hist := [] } }.raise 18

/-- FREE: the current FINE is copied to TIM_MANINCR (R96). -/
def State.toFree (s : State) : State :=
  let s1 := ((s.unlocked.putI F.TIM_MANINCR_FINE (s.getI F.TIM_INCR_FINE)).put F.TIM_STATUS_STATE 0).put F.TIM_STATUS_HOLD_EXCEEDED 0
  { s1 with tim := { s1.tim with finePend := none, hist := [] } }

/-- The discipline state machine on the qualified sources as they now are (R96). -/
def State.discipline (s : State) : State :=
  let m := effMode (s.get F.TIM_DISC_MODE)
  let best := s.bestSrc
  let src := s.get F.TIM_STATUS_SRC
  match s.get F.TIM_STATUS_STATE with
  | 0 => if best = 0 then s else s.toLocking best
  | 3 => if best = 0 then s else s.toLocking best
  | _ =>
    let allowed := src != 0 && (src == primarySrc m || src == secondarySrc m)
    if !allowed || !s.qualified src then (if best = 0 then s.toHoldover else s.toLocking best)
    else if src != primarySrc m && s.qualified (primarySrc m) then s.toLocking (primarySrc m)
    else s

/-- STEP_THR as it acts, in ns (R95): 0 acts as 1. -/
def State.stepThr (s : State) : Nat := max (s.get F.TIM_DISC_STEP_THR) 1 * 1000

/-- LOCKING and LOCKED follow the measured offsets (R96). -/
def State.lockCount (s : State) (ofs : Int) : State :=
  let small := ofs.natAbs ≤ 100
  let big := ofs.natAbs > 1000
  match s.get F.TIM_STATUS_STATE with
  | 1 =>
    let n := if small then s.tim.inLim + 1 else 0
    if 10 ≤ n then ({ s with tim := { s.tim with
        inLim := 0, outLim := 0, lockAt := s.now, hist := [⟨s.now, s.getI F.TIM_INCR_FINE, ofs⟩] } }.put F.TIM_STATUS_STATE 2).raise 19
    else { s with tim := { s.tim with inLim := n } }
  | 2 =>
    let n := if big then s.tim.outLim + 1 else 0
    let h := ⟨s.now, s.getI F.TIM_INCR_FINE, ofs⟩ :: s.tim.hist.filter (fun x => s.now < x.t + 64000000000)
    if 3 ≤ n then ({ s with tim := { s.tim with inLim := 0, outLim := 0, hist := [] } }.unlocked).put F.TIM_STATUS_STATE 1
    else { s with tim := { s.tim with outLim := n, hist := h } }
  | _ => s

/-- An offset of the source in use (R92, R94, R95): a large one becomes a pending step unless one is pending, any other goes
to the servo. -/
def State.useOffset (s : State) (ofs : Int) : State :=
  let s1 := s.putI F.TIM_OFFSET_NS (clampI (-2147483647) 2147483647 ofs)
  let s2 :=
    if s.stepThr < ofs.natAbs then
      match s1.tim.step with
      | some _ => s1
      | none => { s1 with tim := { s1.tim with step := some ⟨-ofs, s1.now⟩ } }.put F.TIM_STATUS_STEP_PENDING 1
    else s1.servo ofs
  s2.lockCount ofs

/-- A measurement of source `src` (1 GNSS, 2 PTP): the state machine runs, and the offset is used when the source is the one
in use. -/
def State.measured (s : State) (src : Nat) (valid : Bool) (ofs : Int) : State :=
  let s1 := s.discipline
  let st := s1.get F.TIM_STATUS_STATE
  s1.when (valid && s1.get F.TIM_STATUS_SRC == src && (st == 1 || st == 2)) (·.useOffset ofs)

/-- One epoch of the GNSS source: valid epochs count, another loses the source (R93). -/
def State.gnssOffset (s : State) (valid : Bool) (ofs : Int) : State :=
  ({ s with tim := { s.tim with gnssCount := cond valid (satInc 10 s.tim.gnssCount) 0 } }).measured 1 valid ofs

/-- TAI minus the system time of a GNSS, ns (R92): 33 s for BeiDou, 19 s for GPS, Galileo and QZSS. -/
def taiMinus (bds : Bool) : Int := if bds then 33000000000 else 19000000000

/-- GNSS_OFFSET_MEASUREMENT (R92): the offset comes against the system time of the GNSS. -/
def execGnssOffsetMeasurement (valid bds : Bool) (ofs : Int) (s : State) : Host.Outcome State Fault Refusal :=
  .next (s.gnssOffset valid (ofs - taiMinus bds))

/-- An interval of 2^l s in ns. -/
def logNs (l : Int) : Nat := if 0 ≤ l then 1000000000 * 2 ^ l.toNat else 1000000000 / 2 ^ (-l).toNat

/-- An offset from a Sync on the SLAVE port (R92), and the count of Syncs in a row at the announced interval `log` with a valid mean path
delay (R93). [DESIGN CHOICE: log 88] -/
def State.ptpOffset (s : State) (p : Nat) (ofs : Int) (log : Int) (valid : Bool) : State :=
  let int := logNs log
  let gap := s.now - s.tim.ptpAt
  let onTime := decide (int ≤ 2 * gap) && decide (2 * gap ≤ 3 * int)
  let n := if !valid then 0 else if s.tim.ptpCount != 0 && onTime then satInc 16 s.tim.ptpCount else 1
  let s1 := s.putSat (F.ETH_PTPOFS_NS p) ofs
  ({ s1 with tim := { s1.tim with ptpCount := n, ptpQual := s1.tim.ptpQual || decide (16 ≤ n), ptpAt := s.now, ptpLog := log } }).measured 2 true ofs

/-- A Sync with origin time `t1`, corrections added, and ingress time `t2`, 2^-16 ns (R92): on the SLAVE port it gives an offset against
the mean path delay. -/
def State.ptpSync (s : State) (p : Nat) (t1 t2 log : Int) : State :=
  if s.get (F.ETH_STATUS_PTP_STATE p) = 9 then
    let port := nth s.eth.ports p EthPort.reset
    let s1 := { s with eth := { s.eth with ports := modNth s.eth.ports p (fun e => { e with sync := some (t1, t2) }) } }
    s1.ptpOffset p (divRne (t2 - t1 - port.delay.getD 0) (2 ^ 16)) log port.delay.isSome
  else s

/-- A timestamp on the network, 2^-16 ns: the counter's edge, `frac` units of 0.8 ns after it, and a latency in ps (R107). -/
def State.netTime (s : State) (frac : Nat) (ps : Int) : Int :=
  divRne ((s.tim.ctr.fine : Int) * 5000 + (frac * 4000 * 2 ^ 32 : Nat) + ps * 5 * 2 ^ 32) (5000 * 2 ^ 16)
/-- The ingress time of a frame, referred to the ball (R107). -/
def State.ingressTime (s : State) (p frac : Nat) : Int := s.netTime frac (-(s.getI (F.ETH_INGLAT_PS p)))
/-- The egress time of a frame, referred to the ball (R107). -/
def State.egressTime (s : State) (p frac : Nat) : Int := s.netTime frac (s.getI (F.ETH_EGRLAT_PS p))
/-- A time of seconds and nanoseconds in 2^-16 ns. -/
def ptpTime (sec ns : Nat) : Int := ((sec * 1000000000 + ns : Nat) : Int) * 2 ^ 16
/-- The module's domain: that of ETH0 (R106). -/
def State.ptpDomain (s : State) : Nat := s.get (F.ETH_PTPCFG_DOMAIN 0)

/-- PTP_SYNC_RECEIVED (R92, R106): a Sync of the module's domain, with its ingress time (R107). -/
def execPtpSyncReceived (p : Fin 4) (sy : PtpSync) (s : State) : Host.Outcome State Fault Refusal :=
  .next (if sy.domain = s.ptpDomain then s.ptpSync p (ptpTime sy.sec sy.ns + sy.corr) (s.ingressTime p sy.frac) sy.logInt else s)

/-- The PTP source is lost (R93). -/
def State.ptpLost (s : State) : State := ({ s with tim := { s.tim with ptpCount := 0, ptpQual := false } }).discipline

/-- Three announced Sync intervals have passed without a Sync (R93): the PTP source is lost. -/
def State.ptpTimeout (s : State) : State :=
  s.when ((s.tim.ptpQual || s.tim.ptpCount != 0) && decide (s.tim.ptpAt + 3 * logNs s.tim.ptpLog ≤ s.now)) State.ptpLost

/-- PTP_SYNC_TIMEOUT (R93). -/
def execPtpSyncTimeout (s : State) : Host.Outcome State Fault Refusal := .next s.ptpTimeout

/-- TIM_HOLDUNC (R98): in HOLDOVER U0 + RATE × t, saturated; in FREE all ones; in LOCKING and LOCKED the spec gives no value
(free, log 12). -/
def State.holdUnc (s : State) : Nat :=
  match s.get F.TIM_STATUS_STATE with
  | 0 => 0xFFFFFFFF
  | 3 => min 0xFFFFFFFF (s.tim.holdU0 + s.get F.TIM_HOLD_RATE * (s.now - s.tim.holdStart) / 1000000000)
  | _ => s.free % 2 ^ 32

/-- The uncertainty is above LIMIT (R98): HOLD_EXCEEDED is set, with event 23 the first time. -/
def State.holdLimit (s : State) : State :=
  s.when (s.get F.TIM_STATUS_STATE == 3 && decide (s.get F.TIM_HOLD_LIMIT * 100 < s.holdUnc))
    (·.setRaise F.TIM_STATUS_HOLD_EXCEEDED 23)

/-- HOLDOVER_LIMIT (R98). -/
def execHoldoverLimit (s : State) : Host.Outcome State Fault Refusal := .next s.holdLimit

/-- A write of TIM_DISC (R91, R96): a MODE change acts at once; leaving modes 1 to 4 leads to FREE. -/
def State.writeDisc (s : State) (v : Nat) : State :=
  let old := effMode (s.get F.TIM_DISC_MODE)
  let s1 := ((s.put F.TIM_DISC_MODE v).put F.TIM_DISC_SLEW (v / 16)).put F.TIM_DISC_STEP_THR (v / 65536)
  let new := effMode (s1.get F.TIM_DISC_MODE)
  if new = 0 ∧ old ≠ 0 then (if s1.get F.TIM_STATUS_STATE = 0 then s1 else s1.toFree) else s1.discipline

/-- TIM_DISC_WRITE (R96). -/
def execTimDiscWrite (val : Word) (s : State) : Host.Outcome State Fault Refusal := .next (s.writeDisc val.toNat)

/-! ### Steps -/

/-- A host step request (R100): refused outside MODE 0 or with more than 999,999,999 ns; else it is pending, in place of an
earlier one. [DEDUCED: log 87] -/
def State.stepGo (s : State) : State :=
  let ns := s.getI F.TIM_STEP_NS_VALUE
  if s.get F.TIM_DISC_MODE ≠ 0 ∨ 999999999 < ns.natAbs then s.put F.TIM_STATUS_STEP_REFUSED 1
  else ({ s with tim := { s.tim with step := some ⟨s.getI F.TIM_STEP_SEC_VALUE * 1000000000 + ns, s.now⟩ } }).put
    F.TIM_STATUS_STEP_PENDING 1

/-- TIM_STEP_GO (R100). -/
def execTimStepGo (s : State) : Host.Outcome State Fault Refusal := .next s.stepGo

/-! ### Compare units -/

/-- The target of a unit, a LinNs value. -/
def State.cmpTarget (s : State) (c : Nat) : Nat := s.get (F.TIM_CMP_TGT_HI_TGT c) * 2 ^ 32 + s.get (F.TIM_CMP_TGT_LO_TGT c)
/-- Sets the target of a unit. -/
def State.setTarget (s : State) (c t : Nat) : State :=
  (s.put (F.TIM_CMP_TGT_LO_TGT c) (t % 2 ^ 32)).put (F.TIM_CMP_TGT_HI_TGT c) (t / 2 ^ 32)
/-- The period as it acts: 1 to 15 act as 16, 0 is one-shot. -/
def State.cmpPeriod (s : State) (c : Nat) : Nat :=
  let p := s.get (F.TIM_CMP_PERIOD_PERIOD c)
  if p = 0 then 0 else max p 16
/-- The width as it acts: at least 8 ns, and half the period where it is not less than the period (R83). -/
def State.cmpWidth (s : State) (c : Nat) : Nat :=
  let w := max (s.get (F.TIM_CMP_CTRL_WIDTH c)) 8
  let p := s.cmpPeriod c
  if p ≠ 0 ∧ p ≤ w then p / 2 else w
/-- The target of an armed unit has been reached (R81, R80). [DEDUCED: log 83] -/
def State.cmpReached (s : State) (c : Nat) : Bool := s.flag (F.TIM_CMP_CTRL_ARM c) && decide (0 ≤ linDiff s.lin (s.cmpTarget c))

/-- A unit fires (R81 to R84): its output becomes active for the width counted from the firing edge, the stream it triggers
gets a pending instant (R192), and a periodic unit moves its target on past the counter. [DEDUCED: log 85] -/
def State.fire (s : State) (c : Nat) (late0 : Bool) : State :=
  let per := s.cmpPeriod c
  let tgt := s.cmpTarget c
  let s1 := ((s.put (F.TIM_CMP_STATUS_OUT c) 1).put (F.TIM_CMP_STATUS_FIRED c) 1).incWrap (F.TIM_CMP_STATUS_COUNT c)
  let s2 := { s1 with tim := { s1.tim with pulseEnd := setNth s1.tim.pulseEnd c (some (s.now + s.cmpWidth c)) } }
  let behind := linDiff s.lin ((tgt + per) % 2 ^ 64)
  let skip := if behind < 0 then 0 else behind.toNat / per + 1
  let late := late0 || (per != 0 && skip != 0)
  let s3 := if per = 0 then s2.put (F.TIM_CMP_CTRL_ARM c) 0 else s2.setTarget c ((tgt + per * (skip + 1)) % 2 ^ 64)
  let s4 := s3.when late (fun s => (s.put (F.TIM_CMP_STATUS_LATE c) 1))
  s4.streamInstant true c tgt

/-- Every unit whose target is reached, in ascending order. -/
def State.reachedUnits (s : State) : List Nat := (List.range 16).filter (fun c => s.cmpReached c)

/-- All units whose target is reached fire on this edge (R81, R87), those of `late0` late: event 22 once if any has IRQ, event 20 once if
any is late. -/
def State.fireAll (s : State) (late0 : Nat → Bool) : State :=
  let cs := s.reachedUnits
  let s1 := s.each cs (fun s c => s.fire c (late0 c))
  let irq := cs.any (fun c => s.flag (F.TIM_CMP_CTRL_IRQ c))
  let late := cs.any (fun c => late0 c || (s.cmpPeriod c != 0 &&
    decide (0 ≤ linDiff s.lin ((s.cmpTarget c + s.cmpPeriod c) % 2 ^ 64))))
  (s1.when late (·.raise 20)).when irq (·.raise 22)

/-- Arms a unit (R84): a target already reached fires at the next edge, late. -/
def State.arm (s : State) (c : Nat) : State :=
  let s1 := s.put (F.TIM_CMP_CTRL_ARM c) 1
  if s.ready && s1.cmpReached c then (s1.edges 1).fireAll (· == c) else s1

/-- COMPARE_ARM (R84). -/
def execCompareArm (c : Fin 16) (s : State) : Host.Outcome State Fault Refusal := .next (s.lanes fun s => s.arm c)

/-- The counter runs to the target of a unit, inside the minor frame; the unit fires if it has reached it, with every other that the
edge reaches (R81, R87). -/
def State.compareFire (s : State) (c : Nat) : State :=
  if s.ready && s.flag (F.TIM_CMP_CTRL_ARM c) then
    let d := linDiff (s.cmpTarget c) s.lin
    let s1 := s.runInside (s.now + d.toNat)
    if s1.cmpReached c then s1.fireAll (fun _ => false) else s1
  else s

/-- COMPARE_FIRE (R81). -/
def execCompareFire (c : Fin 16) (s : State) : Host.Outcome State Fault Refusal := .next (s.lanes fun s => s.compareFire c)

/-- The pulse of a unit ends at the first edge at or after its end (R82). -/
def State.pulseDone (s : State) (c : Nat) : State :=
  match nth s.tim.pulseEnd c none with
  | none => s
  | some t =>
    let s1 := s.runInside t
    if t ≤ s1.now then
      ({ s1 with tim := { s1.tim with pulseEnd := setNth s1.tim.pulseEnd c none } }).put (F.TIM_CMP_STATUS_OUT c) 0
    else s1

/-- TRIG_PULSE_END (R82). -/
def execTrigPulseEnd (c : Fin 16) (s : State) : Host.Outcome State Fault Refusal := .next (s.pulseDone c)

/-! ### Capture inputs -/

/-- The edge setting of an input: 0 off, 1 rising, 2 falling, 3 both. -/
def State.capEdge (s : State) (n : Nat) : Nat :=
  if n < 16 then s.get F.TIM_CAPEDGE_0_VALUE / 2 ^ (2 * n) % 4 else s.get F.TIM_CAPEDGE_1_VALUE / 2 ^ (2 * (n - 16)) % 4

/-- The two-sample filter lets an edge of an input pass (R88): its level stands for two samples, so an opposite edge comes two edges of the
clock after the last one at the earliest, and one of the same direction four. [DEDUCED: log 90] -/
def State.capPasses (s : State) (n : Nat) (rising : Bool) : Bool :=
  match nth s.tim.capIn n none with
  | none => true
  | some e => e.2 + (if e.1 = rising then 4 else 2) * s.edgeStep ≤ s.tim.ctr.fine
/-- A capture in its place behind those of earlier edges and of lower inputs (R90). -/
def capInsert (x : Capture) : List Capture → List Capture
  | [] => [x]
  | y :: t => if y.lin = x.lin ∧ x.input < y.input then x :: y :: t else y :: capInsert x t
/-- The host FIFO takes a capture (R90): in ascending input order on one edge; what a full FIFO cannot hold is dropped, counted, with
event 21 at most once per major frame. -/
def State.capHost (s : State) (x : Capture) : State :=
  let l := capInsert x s.tim.capFifo
  let s1 := ({ s with tim := { s.tim with capFifo := l.take 64 } }).put F.TIM_CAPSTAT_HELD (min 64 l.length)
  if l.length ≤ 64 then s1 else (s1.inc F.TIM_CAPSTAT_DROPPED).raiseMajor 21
/-- A qualifying edge (R88 to R90): the alignment unit gets the instant, and the host FIFO takes it when the input feeds it. -/
def State.capture (s : State) (n : Nat) (rising : Bool) : State :=
  let sel := s.capEdge n
  if s.ready && s.capPasses n rising then
    let s1 := { s with tim := { s.tim with capIn := setNth s.tim.capIn n (some (rising, s.tim.ctr.fine)) } }
    if (if rising then sel % 2 == 1 else sel / 2 == 1) then
      (s1.streamInstant false n s.lin).when (s.bit F.TIM_CAPHOST_VALUE n) (·.capHost ⟨s.lin, n, rising⟩)
    else s1
  else s

/-- CAPTURE_EDGE (R88). -/
def execCaptureEdge (n : Fin 32) (rising : Bool) (s : State) : Host.Outcome State Fault Refusal := .next (s.lanes fun s => s.capture n rising)

/-- A read of TIM_CAPFIFO_LO removes the oldest capture (R90); an empty FIFO gives 0 and an invalid entry. -/
def State.capRead (s : State) : State :=
  match s.tim.capFifo with
  | [] => ({ (s.put F.TIM_CAPFIFO_INFO_VALUE 0) with hostData := 0 })
  | e :: t =>
    let s1 := { s with tim := { s.tim with capFifo := t }, hostData := e.lin % 2 ^ 32 }
    ((s1.put F.TIM_CAPSTAT_HELD t.length).put F.TIM_CAPFIFO_HI_VALUE (e.lin / 2 ^ 32)).put F.TIM_CAPFIFO_INFO_VALUE
      (e.input + 2 ^ 8 * b2n e.rising + 2 ^ 9)

/-- TIM_CAPFIFO_READ (R90). -/
def execTimCapfifoRead (_port : Fin 2) (s : State) : Host.Outcome State Fault Refusal := .next s.capRead

/-- A read of TIM_NOW_NS returns NS and latches SEC, SUB and LinNs from the same edge (R78). -/
def State.nowRead (s : State) : State :=
  let c := s.tim.ctr
  let s1 := s.latch [(0x200024, c.sec % 2 ^ 32), (0x200028, c.sec / 2 ^ 32), (0x20002C, c.sub), (0x200030, c.lin % 2 ^ 32),
    (0x200034, c.lin / 2 ^ 32)]
  { s1 with hostData := c.ns }

/-- TIM_NOW_READ (R78). -/
def execTimNowRead (_port : Fin 2) (s : State) : Host.Outcome State Fault Refusal := .next s.nowRead

end Sys2Proof.Machine
end

