-- ==== Sys2Proof/Machine/Gns.lean ====
section
/-! DEFINITION. The GNSS baseband: channels and acquisition (R116 to R131), epochs and records (R132 to R137), solutions (R138
to R140), interference and spoofing (R141 to R144), corrections (R145 to R147), PPS output (R148 to R153), start-up (R155, R156). -/

namespace Sys2Proof.Machine

open Sys2Proof

/-! ### Signals and channels -/

/-- A signal as R117 lists it. -/
structure Signal where
  /-- L5 band. -/
  l5 : Bool
  /-- Carrier, Hz. -/
  carrier : Nat
  /-- Chip rate, chip/s. -/
  chip : Nat
  /-- Length of the primary code, ms. -/
  ms : Nat
  /-- Pilot and data components are tracked. -/
  pilot : Bool
  /-- System: 0 GPS, 1 Galileo, 2 BeiDou, 3 QZSS. -/
  sys : Nat
  /-- First SV number. -/
  sv0 : Nat
  /-- Last SV number. -/
  sv1 : Nat
  deriving DecidableEq, Repr
/-- The signal of a code (R117, R118); 0 and 11 to 15 are none. -/
def sigRow (g : Nat) : Option Signal :=
  match g with
  | 1 => some ⟨false, 1575420000, 1023000, 1, false, 0, 1, 32⟩
  | 2 => some ⟨false, 1575420000, 1023000, 10, true, 0, 1, 32⟩
  | 3 => some ⟨true, 1176450000, 10230000, 1, true, 0, 1, 32⟩
  | 4 => some ⟨false, 1575420000, 1023000, 4, true, 1, 1, 36⟩
  | 5 => some ⟨true, 1176450000, 10230000, 1, true, 1, 1, 36⟩
  | 6 => some ⟨false, 1561098000, 2046000, 1, false, 2, 1, 63⟩
  | 7 => some ⟨false, 1575420000, 1023000, 10, true, 2, 19, 63⟩
  | 8 => some ⟨true, 1176450000, 10230000, 1, true, 2, 19, 63⟩
  | 9 => some ⟨false, 1575420000, 1023000, 1, false, 3, 193, 202⟩
  | 10 => some ⟨true, 1176450000, 10230000, 1, true, 3, 193, 202⟩
  | _ => none
/-- The row of a signal in use. -/
def sigOf (g : Nat) : Signal := (sigRow g).getD ⟨false, 1575420000, 1023000, 1, false, 0, 1, 32⟩
/-- The signal is in the L5 band (R117). -/
def sigL5 (g : Nat) : Bool := (sigOf g).l5
/-- System of a signal. -/
def sigSys (g : Nat) : Nat := (sigOf g).sys
/-- The SV number is in the signal's range (R117). -/
def svOk (g sv : Nat) : Bool :=
  match sigRow g with
  | some r => decide (r.sv0 ≤ sv) && decide (sv ≤ r.sv1)
  | none => false
/-- The chain that carries a signal on a channel's antenna is on (R116, R119). -/
def State.chainOn (s : State) (n g : Nat) : Bool :=
  (!sigL5 g || s.flag F.GNS_CTRL_L5EN) && (n < 96 || s.flag F.GNS_CTRL_ANT2EN)
/-- Chain number of a signal on a channel. -/
def chainOf (n g : Nat) : Nat := 2 * (n / 96) + b2n (sigL5 g)

/-- A channel's hidden state. -/
def State.gch (s : State) (n : Nat) : GnsChan := nth s.gns.chans n GnsChan.init
/-- Changes a channel's hidden state. -/
def State.modGch (s : State) (n : Nat) (f : GnsChan → GnsChan) : State :=
  { s with gns := { s.gns with chans := modNth s.gns.chans n f } }
/-- State of a channel: 0 OFF, 1 IDLE, 2 ACQ, 3 PULLIN, 4 TRACK, 5 REACQ. -/
def State.gst (s : State) (n : Nat) : Nat := s.get (F.GNS_CH_STATUS_STATE n)
/-- Number of channels in a state. -/
def State.gcount (s : State) (st : Nat) : Nat := ((List.range 192).filter (fun n => s.gst n == st)).length
/-- TRACKING and QUEUE follow the channels. -/
def State.gnsCounts (s : State) : State :=
  (s.put F.GNS_STATUS_TRACKING (s.gcount 4)).put F.GNS_ACQSTAT_QUEUE (s.gcount 1 + s.gcount 2)

/-- A channel enters a state (R122): an exit from TRACK raises event 34 and resets the lock time (R124); entry to TRACK zeroes the carrier
phase and the slips (R137), and a search begins at its first cell. -/
def State.gnsEnter (s : State) (n st : Nat) : State :=
  let s1 := (s.put (F.GNS_CH_STATUS_STATE n) st).modGch n (fun c => { c with
    since := s.now, requeue := none, find := { bin := 0, seg := 0, t := s.now, hit := none } })
  let s2 := s1.when (s.gst n == 4 && st != 4) (·.raiseMajor 34)
  (if st = 4 then (s2.modGch n (fun c => { c with
      lockAt := s.now, slip := 0, slipped := false, trk := { c.trk with carr := 0, lossMs := 0 } })).put (F.GNS_CH_STATUS_SLIP n) 0
    else s2).gnsCounts

/-! ### Correlators and loops -/

/-- Coherent integration of a channel, ms (R130): TCOH on pilots; on data-only signals 1 ms until bit synchronisation, then the lesser of
TCOH and the length of a data bit. [PRESUMED: log 93] -/
def State.cohMs (s : State) (n : Nat) : Nat :=
  let t := match s.get F.GNS_TRKCFG_TCOH with
    | 1 => 2 | 2 => 4 | 3 => 10 | 4 => 20 | _ => 1
  if (sigOf (s.gch n).sig).pilot then t else if (s.gch n).trk.sync then min t 20 else 1
/-- Rate of the code NCO, 2^-18 chip/s: the chip rate scaled by the Doppler, and the DLL's correction (R130). -/
def GnsTrack.rate (k : GnsTrack) (g : Signal) : Int :=
  (g.chip * 2 ^ 18 : Nat) + divRne ((g.chip * 2 ^ 18 : Nat) * k.dopp) (256 * g.carrier) + k.codeRate
/-- The NCO phases carried on by some ns, with the transmit time of the code period they reach. -/
def GnsTrack.advance (k : GnsTrack) (g : Signal) (ns : Int) : GnsTrack :=
  let len : Int := (g.chip / 1000 * g.ms * 2 ^ 18 : Nat)
  let c : Int := k.code + divRne (k.rate g * ns) 1000000000
  { k with
    code := (c % len).toNat, carr := k.carr + divRne (k.dopp * 2 ^ 24 * ns) 1000000000, t := (k.t + ns).toNat
    tow := k.tow.map (fun w => ((w + c / len * g.ms) % 604800000).toNat) }
/-- Power of a sum. -/
def power (x : Int × Int) : Nat := (x.1 * x.1 + x.2 * x.2).toNat
/-- The part of a list of integrations that covers the last second. -/
def lastSecond : Nat → List (Nat × Nat × Nat × Nat) → List (Nat × Nat × Nat × Nat)
  | _, [] => []
  | ms, x :: t => if ms + x.2.2.2 ≤ 1000 then x :: lastSecond (ms + x.2.2.2) t else []
/-- C/N0 over the last second, UQ8.8 (R133). -/
def GnsTrack.cn0 (k : GnsTrack) : Nat := if k.last.isEmpty then 0 else Config.cn0 (k.last.map (fun x => (x.1, x.2.1, x.2.2.2))) % 65536
/-- Mean of |VE| - |VL| over P in magnitude, above 0.2 (R137). -/
def GnsTrack.multipath (k : GnsTrack) : Bool :=
  decide ((k.last.map (fun x => x.2.2.2)).sum * 65536 < 5 * (k.last.map (fun x => x.2.2.1 * x.2.2.2)).sum)
/-- An angle of a vector as a signed part of 2^32. -/
def turnOf (q i : Int) : Int := if q = 0 ∧ i = 0 then 0 else radBamS (Fl.atan2 (Fl.ofInt q) (Fl.ofInt i))
/-- One coherent integration (R129, R130): the five correlators, the noise correlator and the data arm are dumped, the loops close, and
the NCOs go on. E and L stand EL/2 from prompt, VE and VL half of VEVL, which acts as EL below it. [PRESUMED: log 93] -/
def State.integrate (s : State) (n : Nat) (o : CorrObs) : State :=
  let c := s.gch n
  let g := sigOf c.sig
  let st := s.gst n
  let ms := s.cohMs n
  let el : Int := max 4 (min 64 (s.get F.GNS_CORRCFG_EL))
  let vl : Int := max el (s.get F.GNS_CORRCFG_VEVL)
  let nz : Int := 128 * max 10 (s.get F.GNS_CORRCFG_NOISE)
  let pick (x : Int) : Int × Int := (o.at_.lookup x).getD (0, 0)
  let ve := pick (-vl); let e := pick (-el); let p := pick 0; let l := pick el; let v := pick vl; let z := pick nz
  let prev := nth c.trk.corr 2 (0, 0)
  let cross := prev.1 * p.2 - prev.2 * p.1
  let dot := prev.1 * p.1 + prev.2 * p.2
  let pErr := if g.pilot then turnOf p.2 p.1 else turnOf (sgn p.1 * p.2) p.1.natAbs
  let fErr := divRne ((if g.pilot then turnOf cross dot else turnOf (sgn dot * cross) dot.natAbs) * 256000) (2 ^ 32 * ms)
  let k0 := c.trk.advance g (ms * 1000000 : Nat)
  let bw (f : Fld) (hi : Nat) : Nat := max 1 (min hi (s.get f))
  let r := Config.carrierLoop (st == 3) (bw F.GNS_TRKCFG_FLL_BW 30) (bw F.GNS_TRKCFG_PLL_BW 50) ms k0.filt k0.dopp fErr pErr
  let pe := power e; let pl := power l
  let disc : Int := if pe + pl = 0 then 0 else divRne (((pe : Int) - pl) * 65536) (pe + pl)
  let mag (x : Int × Int) : Int := isqrt (power x)
  let mp := if power p = 0 then 0 else ((mag ve - mag v).natAbs * 65536) / (mag p).toNat
  let carr := decide (9 * (p.2 * p.2) ≤ p.1 * p.1) && p != (0, 0)
  let last := lastSecond 0 ((power p, power z, mp, ms) :: c.trk.last)
  let k1 := { k0 with
    filt := r.1, dopp := r.2, codeRate := Config.codeLoop (bw F.GNS_TRKCFG_DLL_BW 100) ms disc, corr := [ve, e, p, l, v, z, o.data], last := last
    sync := c.trk.sync || o.sync, codeLock := o.codeLock, settled := o.settled, carrLock := carr, lockMs := if carr then c.trk.lockMs + ms else 0
    tow := (o.nav.bind NavObs.tow).or k0.tow, pol := c.trk.pol || o.nav.any (fun (v : NavObs) => v.pol) }
  let low := decide (k1.cn0 < 256 * s.get F.GNS_LOSS_LOSS_CN0) || !o.codeLock
  let k2 := { k1 with lossMs := if low then c.trk.lossMs + ms else 0 }
  let key := g.sys * 256 + c.sv
  let aid := s.gns.aid
  let aid1 : Aiding := match o.nav with
    | some v => { aid with eph := if v.eph then putKey key s.tim.ctr.sec aid.eph else aid.eph, alm := if v.alm then some s.tim.ctr.sec else aid.alm }
    | none => aid
  if st = 3 ∨ st = 4 then { s.modGch n (fun c => { c with trk := k2 }) with gns := { (s.modGch n (fun c => { c with trk := k2 })).gns with aid := aid1 } } else s
/-- The integrations of a channel since its last row. -/
def State.integrateAll (s : State) (n : Nat) (l : List CorrObs) : State := s.each l (fun s o => s.integrate n o)

/-! ### Acquisition -/

/-- MASK_EL as it acts, degrees. -/
def State.maskEl (s : State) : Nat := min 90 (s.get F.GNS_EPCFG_MASK_EL)
/-- A satellite is predicted above the elevation mask (R126). -/
def State.aboveMask (s : State) (g sv : Nat) : Bool :=
  match s.gns.aid.alm with
  | some a => decide ((s.maskEl : Int) ≤ Config.elevation a s.gns.aid.pos s.tim.ctr.sec (sigSys g) sv)
  | none => false
/-- Order of acquisition (R126): satellites predicted above the mask first, then systems, L1 before L5, ascending SV. [DEDUCED: log 135] -/
def State.acqKey (s : State) (n : Nat) : Nat :=
  let c := s.gch n
  let low := !s.aboveMask c.sig c.sv
  (((b2n low * 4 + sigSys c.sig) * 2 + b2n (sigL5 c.sig)) * 256 + c.sv) * 256 + n

/-- The smallest of a list of numbers, or none. -/
def least : List Nat → Option Nat
  | [] => none
  | x :: t => match least t with
    | some y => some (min x y)
    | none => some x

/-- A free acquisition engine takes the first waiting channel of an enabled system (R122, R126). -/
def State.takeNext (s : State) : State :=
  if !s.gns.searching || decide (0 < s.gcount 2) then s
  else
    match least (((List.range 192).filter (fun n => s.gst n == 1 && (s.gch n).requeue.isNone && s.bit F.GNS_CTRL_SYS (sigSys (s.gch n).sig))).map s.acqKey) with
    | some k => s.gnsEnter (k % 256) 2
    | none => s

/-- The assignment in GNS_CH_n_CFG takes effect (R118, R120, R122, R123). [DEDUCED: log 121] -/
def State.gnsAssign (s : State) (n : Nat) : State :=
  let g := s.get (F.GNS_CH_CFG_SIG n)
  let sv := s.get (F.GNS_CH_CFG_SV n)
  let want := s.flag (F.GNS_CH_CFG_EN n) && (sigRow g).isSome
  let ok := svOk g sv && s.chainOn n g
  let s1 := s.putB (F.GNS_CH_STATUS_CFG_ERR n) (want && !ok)
  if want && ok && s.flag F.GNS_STATUS_READY && s.flag F.GNS_CTRL_EN then
    let c := s.gch n
    if c.sig = g ∧ c.sv = sv ∧ s.gst n ≠ 0 then s1
    else (s1.modGch n (fun c => { c with sig := g, sv := sv, trk := GnsTrack.init, dir := none, spoof := false })).gnsEnter n 1
  else if s.gst n = 0 then s1 else (s1.gnsEnter n 0).modGch n (fun c => { c with sig := 0, sv := 0, trk := GnsTrack.init, dir := none, spoof := false })

/-- Every channel's assignment takes effect, and a free engine goes on. -/
def State.gnsAssignAll (s : State) : State := (s.each (List.range 192) (fun s n => s.gnsAssign n)).takeNext

/-- The automatic assignment of a slow frame (R120, R121): the same signal of the same satellite on Gn and Gn+96. [DESIGN CHOICE: log 122] -/
def State.autoAssign (s : State) : State :=
  if s.flag F.GNS_CTRL_ALLOC && s.flag F.GNS_CTRL_EN then
    (s.each (List.range 96) (fun s n =>
      let a := Config.gnssAssign s.gns.aid.alm s.tim.ctr.sec s.maskEl (s.get F.GNS_CTRL_SYS) (s.flag F.GNS_CTRL_L5EN) n
      let g := a.1 % 16
      let put (s : State) (m : Nat) : State :=
        let ok := svOk g (a.2 % 256) && s.chainOn m g && s.bit F.GNS_CTRL_SYS (sigSys g) && (s.gns.aid.alm.isNone || s.aboveMask g (a.2 % 256))
        ((s.put (F.GNS_CH_CFG_SIG m) (if ok then g else 0)).put (F.GNS_CH_CFG_SV m) (if ok then a.2 else 0)).putB (F.GNS_CH_CFG_EN m) ok
      put (put s n) (n + 96))).gnsAssignAll
  else s

/-- What a channel searches (R126): the middle bin, bins on either side, the code phases when they are predicted, and segments. -/
structure Search where
  /-- Middle bin, units of 500 Hz. -/
  mid : Int
  /-- Bins on either side. -/
  half : Nat
  /-- Predicted code phase in samples, and samples on either side. -/
  win : Option (Nat × Nat)
  /-- Segments of 1 ms. -/
  segs : Nat
  deriving DecidableEq, Repr
/-- Phase of a code NCO inside its millisecond, in samples of 16,384. -/
def GnsTrack.sample (k : GnsTrack) (g : Signal) : Nat := k.code % (g.chip / 1000 * 2 ^ 18) * 16384 / (g.chip / 1000 * 2 ^ 18)
/-- A channel of the same antenna that tracks the satellite of channel `n` in the L1 band. -/
def State.aidChannel (s : State) (n : Nat) : Option Nat :=
  let c := s.gch n
  if !sigL5 c.sig then none
  else ((List.range 96).map (fun k => n / 96 * 96 + k)).find? (fun m =>
    s.gst m == 4 && !sigL5 (s.gch m).sig && sigSys (s.gch m).sig == sigSys c.sig && (s.gch m).sv == c.sv)
/-- The Doppler predicted for a channel, Hz (R126): the offset of the TCXO as FINE shows it, and what the almanac gives but on a cold start. -/
def State.acqDoppler (s : State) (n : Nat) : Int :=
  let c := s.gch n
  let osc := divRne (s.getI F.TIM_INCR_FINE * (sigOf c.sig).carrier) (2 ^ 34)
  match s.gns.aid.alm with
  | some a => if s.get F.GNS_STATUS_START_TYPE = 3 then osc else osc + Config.dopplerAt a s.gns.aid.pos s.tim.ctr.sec c.sig c.sv
  | none => osc
/-- The search space of a channel (R122, R126): narrow in REACQ, aided where the L1 band shows the satellite. [DEDUCED: log 131] -/
def State.searchOf (s : State) (n : Nat) : Search :=
  let c := s.gch n
  let g := sigOf c.sig
  let here (k : GnsTrack) (g : Signal) : Nat := (k.advance g ((s.now : Int) - k.t)).sample g
  if s.gst n = 5 then { mid := divRne c.trk.dopp 128000, half := 0, win := some (here c.trk g, 16384000 / g.chip), segs := 1 }
  else match s.aidChannel n with
    | some m =>
      let b := s.gch m
      let h := sigOf b.sig
      { mid := divRne (b.trk.dopp * g.carrier) (128000 * h.carrier), half := 2, win := some (here b.trk h, 2 * 16384000 / g.chip), segs := g.ms }
    | none => { mid := divRne (s.acqDoppler n) 500, half := max 1 (min 40 (s.get F.GNS_ACQCFG_DOPP)), win := none, segs := g.ms }
/-- Distance of two code phases on the circle of 16,384 samples. -/
def phaseGap (a b : Nat) : Nat := let d := (a + 16384 - b % 16384) % 16384; min d (16384 - d)
/-- The sum of passes added non-coherently, at one code phase. -/
def cellSum (ps : List AcqPass) (ph : Nat) : Nat := (ps.map (fun p => (p.cells.lookup ph).getD 0)).sum
/-- The highest cell of a dwell among the phases searched (R127). -/
def peakCell (win : Option (Nat × Nat)) (ps : List AcqPass) : Nat × Nat :=
  let phs := (ps.flatMap (fun p => p.cells.map (·.1))).filter (fun ph => match win with
    | some w => decide (phaseGap ph w.1 ≤ w.2)
    | none => true)
  phs.foldl (fun b ph => if b.2 < cellSum ps ph then (ph, cellSum ps ph) else b) (0, 0)
/-- A peak's ratio to the noise exceeds a threshold in 0.25 dB (R127). -/
def overThr (thr peak noise : Nat) : Bool := decide (10 ^ thr * noise ^ 40 < peak ^ 40)
/-- A dwell of NCOH passes exceeds THR, with its code phase (R125, R127). -/
def State.dwellPeak (s : State) (win : Option (Nat × Nat)) (ps0 : List AcqPass) : Option Nat :=
  let ps := ps0.take (max 1 (s.get F.GNS_ACQCFG_NCOH))
  let k := peakCell win ps
  if overThr (s.get F.GNS_ACQCFG_THR) k.2 (ps.map (fun p => p.noise)).sum then some k.1 else none
/-- A channel that is acquired goes to PULLIN with the detected code phase and Doppler. -/
def State.acquired (s : State) (n ph : Nat) (z : Search) : State :=
  let c := s.gch n
  let g := sigOf c.sig
  let k := { GnsTrack.init with
    code := (c.find.seg * 16384 + ph) * (g.chip / 1000 * 2 ^ 18) / 16384, dopp := (z.mid - z.half + c.find.bin) * 128000, t := s.now, tow := none }
  (((s.modGch n (fun c => { c with trk := k })).incWrap F.GNS_ACQSTAT_SEARCHES).gnsEnter n 3).takeNext
/-- A search goes on at its next cell: segments, then bins upwards; past the last the channel is idle, or in REACQ begins again. -/
def State.nextCell (s : State) (n : Nat) (z : Search) : State :=
  let f := (s.gch n).find
  let at' (b g : Nat) : State := s.modGch n (fun c => { c with find := { bin := b, seg := g, t := s.now, hit := none } })
  if f.seg + 1 < z.segs then at' f.bin (f.seg + 1)
  else if f.bin < 2 * z.half then at' (f.bin + 1) 0
  else if s.gst n = 5 then at' 0 0
  else (((s.incWrap F.GNS_ACQSTAT_SEARCHES).gnsEnter n 1).modGch n (fun c => { c with requeue := some s.now })).takeNext
/-- A dwell of a channel in ACQ or REACQ ends (R125 to R127), 10 µs for each of its passes after it began: on snapshot `snap`, in the
search the passes at its bin, after a detection those at the bin below, at it and above it, on a fresh snapshot and at the detected code phase.
[DEDUCED: log 131] -/
def State.dwell (s0 : State) (n snap : Nat) (bins : List (List AcqPass)) : State :=
  if s0.gst n = 2 ∨ s0.gst n = 5 then
    let f := (s0.gch n).find
    let t := f.t + 10000 * max 1 (s0.get F.GNS_ACQCFG_NCOH) * (if f.hit.isSome then 3 else 1)
    let s := s0.runInside t
    if s.now < t then s
    else
      let z := s.searchOf n
      match f.hit with
      | none =>
        (match s.dwellPeak z.win (nth bins 0 []) with
        | some ph => if s.get F.GNS_ACQCFG_VERIFY = 0 then s.acquired n ph z
          else s.modGch n (fun c => { c with find := { f with t := s.now, hit := some (snap, ph, 0) } })
        | none => s.nextCell n z)
      | some h =>
        if h.1 = snap then s
        else if (bins.take 3).any (fun b => (s.dwellPeak (some (h.2.1, 0)) b).isSome) then
          (if s.get F.GNS_ACQCFG_VERIFY ≤ h.2.2 + 1 then s.acquired n h.2.1 z
          else s.modGch n (fun c => { c with find := { f with t := s.now, hit := some (h.1, h.2.1, h.2.2 + 1) } }))
        else s.nextCell n z
  else s0

/-- ACQ_DWELL_COMPLETE (R127). -/
def execAcqDwellComplete (n : Fin 192) (snap : Nat) (bins : List (List AcqPass)) (s : State) : Host.Outcome State Fault Refusal :=
  .next (s.dwell n snap bins)

/-- GNSS_REQUEUE (R122): a channel that exhausted its search 1 s ago waits for the engine again. -/
def State.gnsRequeue (s0 : State) (n : Nat) : State :=
  match (s0.gch n).requeue with
  | some t =>
    let s := s0.runInside (t + 1000000000)
    if s.gst n = 1 ∧ t + 1000000000 ≤ s.now then (s.modGch n (fun c => { c with requeue := none })).takeNext else s
  | none => s0

/-- GNSS_REQUEUE (R122). -/
def execGnssRequeue (n : Fin 192) (s : State) : Host.Outcome State Fault Refusal := .next (s.gnsRequeue n)

/-- A PULLIN channel whose carrier has been locked for 100 ms, with its code discriminator settled and synchronisation achieved, enters
TRACK (R122). -/
def State.trackLock (s0 : State) (n : Nat) (l : List CorrObs) : State :=
  let s := s0.integrateAll n l
  let k := (s.gch n).trk
  if s.gst n = 3 ∧ 100 ≤ k.lockMs ∧ k.settled ∧ k.sync then s.gnsEnter n 4 else s
/-- GNSS_TRACK_LOCK (R122), with the integrations since the channel's last row. -/
def execGnssTrackLock (n : Fin 192) (ints : List CorrObs) (s : State) : Host.Outcome State Fault Refusal := .next (s.trackLock n ints)

/-- A channel that has been in state `st` for `t` ns goes to `dst`. [DESIGN CHOICE: log 14] -/
def State.gnsTimeout (s0 : State) (n st t dst : Nat) : State :=
  if s0.gst n = st then
    let e := (s0.gch n).since + t
    let s := s0.runInside e
    if e ≤ s.now then s.gnsEnter n dst else s
  else s0

/-- GNSS_PULLIN_TIMEOUT (R122): PULLIN_T, 10 ms units, 0 acts as 1. -/
def execGnssPullinTimeout (n : Fin 192) (s : State) : Host.Outcome State Fault Refusal :=
  .next (s.gnsTimeout n 3 (max 1 (s.get F.GNS_LOSS_PULLIN_T) * 10000000) 2)

/-- A channel in TRACK whose C/N0 has been below LOSS_CN0, or its code lock lost, for LOSS_T goes to REACQ (R122). -/
def State.trackLoss (s0 : State) (n : Nat) (l : List CorrObs) : State :=
  let s := s0.integrateAll n l
  if s.gst n = 4 ∧ 10 * max 1 (s.get F.GNS_LOSS_LOSS_T) ≤ (s.gch n).trk.lossMs then s.gnsEnter n 5 else s
/-- GNSS_TRACK_LOSS (R122), with the integrations since the channel's last row. -/
def execGnssTrackLoss (n : Fin 192) (ints : List CorrObs) (s : State) : Host.Outcome State Fault Refusal := .next (s.trackLoss n ints)

/-- GNSS_REACQ_TIMEOUT (R122): REACQ_T, 100 ms units, 0 acts as 1. -/
def execGnssReacqTimeout (n : Fin 192) (s : State) : Host.Outcome State Fault Refusal :=
  .next (s.gnsTimeout n 5 (max 1 (s.get F.GNS_LOSS_REACQ_T) * 100000000) 2)

/-- The check of a tracked channel every 20 ms (R131, R124): a jump of the carrier phase above 0.25 cycle (`jump` in 0.001 cycle) is a slip;
the lock time restarts. -/
def State.slipCheck (s0 : State) (n : Nat) (l : List CorrObs) (jump : Nat) : State :=
  let s := s0.integrateAll n l
  if s.gst n = 4 ∧ 250 < jump then
    (s.modGch n (fun c => { c with slip := (c.slip + 1) % 256, slipped := true, lockAt := s.now })).put (F.GNS_CH_STATUS_SLIP n) ((s.gch n).slip + 1)
  else s
/-- CYCLE_SLIP_CHECK (R131), with the integrations since the channel's last row. -/
def execCycleSlipCheck (n : Fin 192) (ints : List CorrObs) (jump : Nat) (s : State) : Host.Outcome State Fault Refusal := .next (s.slipCheck n ints jump)

/-! ### Start and stop -/

/-- EN = 1 (R155): the radio die is powered. [DESIGN CHOICE: log 124] -/
def State.gnsEnable (s : State) : State :=
  if s.flag F.GNS_CTRL_EN then s else { s with gns := { s.gns with starting := true } }.put F.GNS_CTRL_EN 1

/-- GNSS_ENABLE (R155). -/
def execGnssEnable (s : State) : Host.Outcome State Fault Refusal := .next s.gnsEnable

/-- The start type (R128) from the aiding data kept: hot 1, warm 2, cold 3. -/
def State.startType (s : State) : Nat :=
  let a := s.gns.aid
  let sec := s.tim.ctr.sec
  let time := s.ready && !s.flag F.TIM_STATUS_RTC_INVALID
  let eph := decide (5 ≤ (a.eph.filter (fun e => decide (sec < e.2 + 7200))).length)
  let alm := match a.alm with
    | some t => decide (sec < t + 7776000)
    | none => false
  if time && eph && a.pos.isSome && s.gns.near.1 then 1 else if time && alm && a.pos.isSome && s.gns.near.2 then 2 else 3

/-- The RF PLL has locked (R155): READY, with the start type. -/
def State.rfLock (s : State) (k : Nat) : State :=
  if s.flag F.GNS_CTRL_EN && s.gns.starting then
    ({ s with gns := { s.gns with starting := false } }.put F.GNS_STATUS_READY 1).put F.GNS_STATUS_START_TYPE k
  else s

/-- GNSS_RF_PLL_LOCK (R155, R128): whether the stored position lies within 10 km and 100 km of the antenna comes with it. -/
def execGnssRfPllLock (pos10 pos100 : Bool) (s : State) : Host.Outcome State Fault Refusal :=
  let s1 := { s with gns := { s.gns with near := (pos10, pos100) } }
  .next (if s.flag F.GNS_CTRL_EN && s.gns.starting then s1.rfLock s1.startType else s)

/-- The channels stop. -/
def State.gnsStop (s : State) : State :=
  let s1 := s.each (List.range 192) (fun s n => if s.gst n = 0 then s else (s.gnsEnter n 0).modGch n (fun c => { c with sig := 0, sv := 0, trk := GnsTrack.init, dir := none, spoof := false }))
  { s1 with gns := { s1.gns with searching := false, starting := false } }

/-- EN = 0 (R156): every channel is OFF. [DEDUCED: log 130] -/
def State.gnsDisable (s : State) : State :=
  let s1 := ((s.put F.GNS_CTRL_EN 0).put F.GNS_STATUS_READY 0).gnsStop
  ({ s1 with gns := { s1.gns with ppsOut := false, ppsEnd := none } })

/-- GNSS_DISABLE (R156). -/
def execGnssDisable (s : State) : Host.Outcome State Fault Refusal := .next s.gnsDisable

/-- RESTART (R128): a warm restart discards the ephemerides, a cold one the almanac and the position too; the start type is decided anew and
the search begins again. [DEDUCED: log 123] -/
def State.gnsRestart (s : State) (kind : Nat) : State :=
  if kind = 0 then s
  else
    let a := s.gns.aid
    let a1 : Aiding := if kind = 3 then Aiding.none_ else if kind = 2 then { a with eph := [] } else a
    let s1 := { s with gns := { s.gns with aid := a1 } }
    if s.flag F.GNS_STATUS_READY then
      ((s1.put F.GNS_STATUS_START_TYPE s1.startType).each (List.range 192) (fun s n => if s.gst n = 0 then s else s.gnsEnter n 1)).takeNext
    else s1

/-- GNSS_RESTART (R128). -/
def execGnssRestart (kind : Fin 4) (s : State) : Host.Outcome State Fault Refusal := .next (s.gnsRestart kind)

/-- GNSS_RF_FAULT (R157): OVL or PLL_UNLOCK of a chain is set; event 38. -/
def execGnssRfFault (k : Fin 4) (ovl pll : Bool) (s : State) : Host.Outcome State Fault Refusal :=
  .next (((s.when ovl (·.put (F.GNS_RF_STATUS_OVL k) 1)).when pll (·.put (F.GNS_RF_STATUS_PLL_UNLOCK k) 1)).when (ovl || pll) (·.raise 38))

/-! ### Epochs -/

/-- Epoch period in ms (R132). -/
def State.epochMs (s : State) : Nat :=
  match s.gns.rate with
  | 0 => 1000 | 1 => 200 | 2 => 100 | _ => 50

/-- An ephemeris of a satellite is held. -/
def State.hasEph (s : State) (g sv : Nat) : Bool := (find1 s.gns.aid.eph (sigSys g * 256 + sv)).isSome
/-- The satellite of a channel stands below the mask (R137). -/
def State.belowMask (s : State) (c : GnsChan) : Bool :=
  match c.dir with
  | some d => decide (d.2 * 360 < (s.maskEl * 2 ^ 32 : Nat))
  | none => false
/-- The record of a channel in state `st` latched at an epoch instant, counter ns (R133, R137): the phases at the edge referred back to the
instant. [DESIGN CHOICE: log 94] -/
def State.epRec (s : State) (n st t : Nat) (c : GnsChan) : EpRec :=
  let g := sigOf c.sig
  let k := if c.sig = 0 then c.trk else c.trk.advance g ((t : Int) - c.trk.t)
  let trk := st == 4
  let code := trk && k.codeLock
  let half := trk && (g.pilot || k.pol)
  let lock := if trk then min 65535 ((t - c.lockAt) / 100000000) else 0
  let ntch := (nth s.gns.rf (chainOf n c.sig) RfChain.init).moved
  let flags := maskOf [code, code, trk && k.carrLock, half, trk && k.tow.isSome, c.slipped, c.sig != 0 && s.hasEph c.sig c.sv, s.belowMask c, ntch,
    trk && k.multipath, c.spoof]
  { sig := c.sig, sv := c.sv, st := st, code := k.code, txms := k.tow.getD 0, carr := ofInt 64 k.carr, dopp := ofInt 32 k.dopp
    cn0 := if 3 ≤ st ∧ st ≤ 4 then k.cn0 else 0, lock := lock, flags := flags, slip := c.slip }

/-- The 32 bytes of channel record n (R137). -/
def EpRec.bytes (r : EpRec) (n : Nat) : List Byte :=
  leBytes 1 n ++ leBytes 1 r.sig ++ leBytes 1 r.sv ++ leBytes 1 r.st ++ leBytes 4 r.code ++ leBytes 4 r.txms ++ leBytes 8 r.carr ++
    leBytes 4 r.dopp ++ leBytes 2 r.cn0 ++ leBytes 2 r.lock ++ leBytes 2 r.flags ++ leBytes 1 r.slip ++ [0#8]

/-- The bytes of channel records from number n. -/
def chanBytes (n : Nat) : List EpRec → List Byte
  | [] => []
  | r :: t => r.bytes n ++ chanBytes (n + 1) t

/-- The 6,208 bytes of an epoch record (R136). -/
def Epoch.bytes (e : Epoch) : List Byte :=
  padTo 64 (leBytes 8 e.lin ++ dtimeLe e.sec e.ns ++ leBytes 2 e.period ++ leBytes 4 e.seq ++ leBytes 1 e.tstate ++ leBytes 1 e.hflags ++
    leBytes 2 192 ++ e.ji.flatMap (leBytes 1) ++ e.agc.flatMap (leBytes 1) ++ leBytes 2 e.notch) ++ chanBytes 0 e.ch

/-- The newest corrections are within AGE at an instant in ns of the counter (R146). -/
def State.corrFresh (s : State) (t : Nat) : Bool :=
  match s.gns.corrAt with
  | some c => decide (t / 1000000 ≤ c + max 1 (s.get F.GNS_RTCMCFG_AGE) * 1000)
  | none => false
/-- An epoch is latched on a stamp (R133, R135, R136): all channels as they stand, or as they stood before the tick on the same edge.
[DESIGN CHOICE: log 136] -/
def State.latchEpoch (s : State) (lin sec ns : Nat) (edge : Option GnsEdge) : State :=
  let seq := (s.get F.GNS_EPSEQ_SEQ + 1) % 2 ^ 32
  let t := sec * 1000000000 + ns
  let hf := b2n s.gns.stepped + 2 * b2n s.gns.failed + 4 * b2n (s.flag F.GNS_STATUS_HDG) + 8 * b2n (s.corrFresh t)
  let chan (n : Nat) : EpRec := match edge with
    | some e => s.epRec n (nth e.sts n 0) t (nth e.chans n GnsChan.init)
    | none => s.epRec n (s.gst n) t (s.gch n)
  let ep : Epoch := { lin := lin, sec := sec, ns := ns, period := s.epochMs, seq := seq, tstate := s.get F.TIM_STATUS_STATE, hflags := hf
                      ji := (List.range 4).map (fun k => s.get (F.GNS_RF_STATUS_JI k)), agc := (List.range 4).map (fun k => s.get (F.GNS_RF_STATUS_AGC k))
                      notch := ((List.range 4).map (fun k => s.get (F.GNS_RF_STATUS_NACT k) * 16 ^ k)).sum
                      ch := (List.range 192).map chan }
  let chans := s.gns.chans.map (fun c => { c with slipped := false })
  let rf := s.gns.rf.map (fun r => { r with moved := false })
  let s1 := { s with gns := { s.gns with latched := some ep, latchAt := s.now, stepped := false, chans := chans, rf := rf } }
  (s1.put F.GNS_EPSEQ_SEQ seq).each (List.range 192) (fun s n =>
    let r := nth ep.ch n ⟨0, 0, 0, 0, 0, 0, 0, 0, 0, 0, 0⟩
    (s.put (F.GNS_CH_STATUS_CN0 n) (r.cn0 / 256)).put (F.GNS_CH_STATUS_FLAGS n) r.flags)

/-- LinNs of the newest multiple of the epoch period. -/
def State.epochLin (s : State) : Nat := s.lin / (s.epochMs * 1000000) * (s.epochMs * 1000000)
/-- The baseband runs. -/
def State.gnsOn (s : State) : Bool := s.flag F.GNS_CTRL_EN && s.flag F.GNS_STATUS_READY
/-- A tick on an epoch edge keeps the channels as they are for the epoch (R123, R133). -/
def State.edgeKept (s : State) : State :=
  let e := s.epochLin
  if s.edgeStep ≤ (s.lin - e) * 2 ^ 32 + s.tim.ctr.sub ∨ s.gns.lastEpoch = some e then s
  else { s with gns := { s.gns with edge := some ⟨e, s.gnsOn, s.gns.chans, (List.range 192).map s.gst⟩ } }

/-- MEASUREMENT_EPOCH (R132, R133, R135, R156): the epoch whose multiple LinNs has reached, if it was not latched yet; one at a
step tick keeps its old stamp. With the baseband off or not READY the GNSS source is lost instead. -/
def State.measureEpoch (s : State) : State :=
  let e := s.epochLin
  let cleared (s : State) : State := { s with gns := { s.gns with edge := none } }
  if !s.ready then s
  else
    match s.gns.stepEp with
    | some (l, sec, ns) =>
      let edge := s.gns.edge.bind (fun x => if x.lin = l then some x else none)
      let on := (edge.map (fun x => x.on)).getD s.gnsOn
      let s1 := cleared { s with gns := { s.gns with stepEp := none } }
      let s2 := s1.latchEpoch l sec ns edge
      if on then { s2 with gns := { s2.gns with stepped := true } } else s1.gnssOffset false 0
    | none =>
      if s.gns.lastEpoch = some e then s
      else
        let edge := s.gns.edge.bind (fun x => if x.lin = e then some x else none)
        let on := (edge.map (fun x => x.on)).getD s.gnsOn
        let s1 := cleared { s with gns := { s.gns with lastEpoch := some e, moved := 0 } }
        let t := s.now - (s.lin - e)
        if on then s1.latchEpoch e (t / 1000000000 % 2 ^ 48) (t % 1000000000) edge else s1.gnssOffset false 0

/-- MEASUREMENT_EPOCH (R132). -/
def execMeasurementEpoch (s : State) : Host.Outcome State Fault Refusal := .next s.measureEpoch

/-- The record is complete at epoch + 1 ms (R134, R136): it goes to the lanes and, with HOSTOUT, to the hosts; a record that
carries STEP raises event 42. -/
def State.epochComplete (s0 : State) : State :=
  match s0.gns.latched with
  | none => s0
  | some e =>
    let s := s0.runInside (s0.gns.latchAt + 1000000)
    if s.now < s.gns.latchAt + 1000000 then s
    else
      let s1 := { s with gns := { s.gns with latched := none, solving := some e, toEst := s.gns.toEst ++ [e] } }
      (s1.when (s.flag F.GNS_EPCFG_HOSTOUT) (·.hostItem ⟨2, e.lin, 255, e.bytes⟩)).when (bitOf e.hflags 0) (·.raise 42)

/-- EPOCH_RECORD_COMPLETE (R134). -/
def execEpochRecordComplete (s : State) : Host.Outcome State Fault Refusal := .next s.epochComplete

/-! ### Solutions -/

/-- A channel record counts for the solution (R139). -/
def EpRec.usable (r : EpRec) (minCn0 : Nat) : Bool :=
  bitOf r.flags 0 && bitOf r.flags 4 && bitOf r.flags 6 && !bitOf r.flags 7 && decide (minCn0 * 256 ≤ r.cn0)

/-- Elements of a list without repeats. -/
def distinct (l : List Nat) : List Nat := l.foldl (fun acc x => if acc.contains x then acc else acc ++ [x]) []

/-- Satellites and systems in use of an epoch's solution antenna (R138, R139). -/
def State.usedSats (s : State) (e : Epoch) : Nat × Nat :=
  let l := ((e.ch.drop (96 * s.get F.GNS_CTRL_PRIANT)).take 96).filter (fun r => r.usable (s.get F.GNS_EPCFG_MIN_CN0))
  ((distinct (l.map (fun r => sigSys r.sig * 256 + r.sv))).length, (distinct (l.map (fun r => sigSys r.sig))).length)

/-- The time solution is valid (R139). -/
def State.timeOk (s : State) (e : Epoch) (x : GnssSol) : Bool :=
  let u := s.usedSats e
  4 ≤ u.1 && u.2 + 3 ≤ u.1 && x.pdop ≤ 600 && x.rms ≤ 15000 && !s.flag F.GNS_STATUS_SPOOF

/-- The baseline may be used: BASE_LEN is 500 to 100,000 mm (R140). -/
def State.baseOk (s : State) : Bool := decide (500 ≤ s.get F.GNS_BASE_LEN_VALUE) && decide (s.get F.GNS_BASE_LEN_VALUE ≤ 100000)
/-- The pairs of R121 in an epoch record for which something holds on both channels. -/
def Epoch.pairs (e : Epoch) (good : EpRec → Bool) : List (Nat × EpRec × EpRec) :=
  ((List.range 96).zip ((e.ch.take 96).zip (e.ch.drop 96))).filter (fun p =>
    p.2.1.sig != 0 && p.2.1.sig == p.2.2.sig && p.2.1.sv == p.2.2.sv && good p.2.1 && good p.2.2)
/-- Satellites among some pairs. -/
def pairSats (l : List (Nat × EpRec × EpRec)) : Nat := (distinct (l.map (fun p => sigSys p.2.1.sig * 256 + p.2.1.sv))).length
/-- Length of a vector in mm, to the nearest. -/
def vecLen (v : Int × Int × Int) : Nat := sqrtRound (v.1 * v.1 + v.2.1 * v.2.1 + v.2.2 * v.2.2).toNat
/-- The heading solution is valid (R140). -/
def State.headingOk (s : State) (e : Epoch) (x : GnssSol) : Bool :=
  let len := s.get F.GNS_BASE_LEN_VALUE
  let pairs := e.pairs (fun r => bitOf r.flags 2 && bitOf r.flags 3)
  s.baseOk && decide (4 ≤ pairs.length) && decide (4 ≤ pairSats pairs) && decide (((vecLen x.base : Int) - len).natAbs * 50 ≤ max len 1000)
/-- The heading that a solved baseline shows, BAM32 (R140): its azimuth less that of the antennas in the body frame. [DESIGN CHOICE: log 137] -/
def State.headingOf (s : State) (x : GnssSol) : Nat :=
  let az := radBam (Fl.atan2 (Fl.ofInt x.base.2.1) (Fl.ofInt x.base.1))
  (az + 2 ^ 32 - s.get F.GNS_BASE_AZ_VALUE) % 2 ^ 32

/-! ### Spoofing tests -/

/-- A phase in 2^-32 cycle, wrapped to half a cycle either way. -/
def halfTurn (x : Int) : Int := toInt 32 (ofInt 32 x)
/-- The fractional single difference of a pair, 2^-32 cycle, less the inter-antenna bias of its band (R140, R143). -/
def State.singleDiff (s : State) (p : Nat × EpRec × EpRec) : Int :=
  let w := s.get F.GNS_IFB_VALUE
  let b := toInt 16 (if sigL5 p.2.1.sig then w / 2 ^ 16 else w % 2 ^ 16)
  halfTurn ((p.2.1.carr : Int) - p.2.2.carr - b * 2 ^ 17)
/-- Its prediction from the satellite's direction, the baseline and a heading, all angles BAM32: the nearer antenna is ahead in phase. -/
def State.predictDiff (s : State) (psi : Nat) (d : Nat × Int) (g : Signal) : Int :=
  let ang (x : Int) : Fl := bamRad (Fl.ofInt x)
  let be := ang (s.getI F.GNS_BASE_EL_VALUE); let ba := ang ((s.get F.GNS_BASE_AZ_VALUE + psi : Nat) : Int)
  let se := ang d.2; let sa := ang d.1
  let dot := (((be.cos.mul se.cos).mul ((ba.sub sa).cos))).add (be.sin.mul se.sin)
  let m := (dot.mul (Fl.ofInt (s.get F.GNS_BASE_LEN_VALUE))).neg
  halfTurn (((m.mul (Fl.ofInt g.carrier)).div (Fl.ofInt 299792458000)).scale 32).rne
/-- Some phases with the common bias of each band removed (R143); the flag names the band. -/
def unbias (l : List (Bool × Int)) : List Int :=
  let mean (b : Bool) : Int :=
    let xs := (l.filter (fun x => x.1 == b)).map (·.2)
    match xs with
    | [] => 0
    | x0 :: _ => x0 + divRne ((xs.map (fun x => halfTurn (x - x0))).sum) xs.length
  l.map (fun x => halfTurn (x.2 - mean x.1))
/-- The mean square of some phases reaches a threshold in 0.01 cycle, as a comparison of (100 × sum of squares) in units of 2^-64 cycle². -/
def rmsAbove (l : List Int) (thr : Nat) : Bool :=
  decide ((thr * thr * l.length * 2 ^ 64 : Nat) < 10000 * (l.map (fun x => x * x)).sum)
/-- RMS of some phases below a threshold in 0.01 cycle. -/
def rmsBelow (l : List Int) (thr : Nat) : Bool :=
  decide (10000 * (l.map (fun x => x * x)).sum < (thr * thr * l.length * 2 ^ 64 : Nat))
/-- The pairs that enter the geometry and spread tests, with their directions. -/
def State.testPairs (s : State) (e : Epoch) : List ((Nat × EpRec × EpRec) × (Nat × Int)) :=
  (e.pairs (fun r => bitOf r.flags 0 && bitOf r.flags 2)).filterMap (fun p => (s.gch p.1).dir.map (fun d => (p, d)))
/-- The estimator's velocity north and east, mm/s, from the record in effect (R143). [DESIGN CHOICE: log 95] -/
def State.estVelocity (s : State) : Int × Int :=
  let w (k : Nat) : Nat := s.word (0x610000 + 4 * k)
  let psi := bamRad (Fl.ofInt (w 6))
  let u := Fl.ofInt (toInt 32 (w 7)); let v := Fl.ofInt (toInt 32 (w 8))
  (((u.mul psi.cos).sub (v.mul psi.sin)).rne, ((u.mul psi.sin).add (v.mul psi.cos)).rne)
/-- The spoofing tests at an epoch (R143): failing and not evaluated tests as bits. [DESIGN CHOICE: log 95] -/
def State.spoofTests (s : State) (e : Epoch) : Nat × Nat :=
  if !s.flag F.GNS_SPOOFCFG_EN then (0, 7)
  else
    let st := s.get F.EST_STATUS_VSTATE
    let ps := s.testPairs e
    let psi := s.word 0x610018
    let meas := ps.map (fun x => (sigL5 x.1.2.1.sig, s.singleDiff x.1))
    let pred := ps.map (fun x => (sigL5 x.1.2.1.sig, s.predictDiff psi x.2 (sigOf x.1.2.1.sig)))
    let res := (meas.zip pred).map (fun x => (x.1.1, halfTurn (x.1.2 - x.2.2)))
    let geo := if s.baseOk && (st == 3 || st == 4) && !ps.isEmpty then some (rmsAbove (unbias res) (s.get F.GNS_SPOOFCFG_GEO_THR)) else none
    let thr := s.get F.GNS_SPOOFCFG_SPREAD_THR
    let spr := if s.baseOk then
        some (decide (5 ≤ pairSats (ps.map (·.1))) && !rmsBelow (unbias pred) (3 * thr) && rmsBelow (unbias meas) thr) else none
    let n := s.gns.drift.length
    let dn := (s.gns.drift.map (fun d => d.2.1)).sum
    let de := (s.gns.drift.map (fun d => d.2.2)).sum
    let lim := s.get F.GNS_SPOOFCFG_INS_THR * 10 * n
    let ins := if st != 0 && n != 0 then some (decide ((lim * lim : Nat) < dn * dn + de * de)) else none
    let l := [geo, spr, ins]
    (maskOf (l.map (fun t => t == some true)), maskOf (l.map (·.isNone)))

/-- SPOOF clears after 60 s without a failure (R144); event 37. -/
def State.spoofClear (s : State) : State :=
  if s.flag F.GNS_STATUS_SPOOF && decide (s.gns.failAt + 60000000000 ≤ s.now) then (s.put F.GNS_STATUS_SPOOF 0).raise 37 else s

/-- SPOOF_CLEAR (R144). -/
def execSpoofClear (s : State) : Host.Outcome State Fault Refusal := .next s.spoofClear

/-- The channels that took part in a failed test show it (R137). -/
def State.spoofMarks (s : State) (e : Epoch) (fails : Nat) : State :=
  let ps := (s.testPairs e).map (fun x => x.1.1)
  let sol := 96 * s.get F.GNS_CTRL_PRIANT
  s.each (List.range 192) (fun s n => s.modGch n (fun c => { c with
    spoof := (fails % 4 != 0 && ps.contains (n % 96)) || (bitOf fails 2 && n / 96 * 96 == sol && bitOf (nth e.ch n ⟨0, 0, 0, 0, 0, 0, 0, 0, 0, 0, 0⟩).flags 0) }))
/-- The verdict of the tests (R144): SPOOF is set when a test fails on two consecutive epochs. [DEDUCED: log 128] -/
def State.spoofVerdict (s : State) (t : Nat × Nat) : State :=
  let fail := t.1 != 0
  let s1 := (s.put F.GNS_SPOOFSTAT_FAIL t.1).put F.GNS_SPOOFSTAT_NOTEVAL t.2
  let s2 := { s1 with gns := { s1.gns with failed := fail, failAt := if fail then s.now else s.gns.failAt } }
  (s2.when (fail && s.gns.failed) (·.setRaise F.GNS_STATUS_SPOOF 37)).spoofClear

/-- A status bit with an event on each change. -/
def State.putRaise (s : State) (f : Fld) (b : Bool) (e : Nat) : State := if s.flag f == b then s else (s.putB f b).raise e

/-- What the solution tells of the satellites' directions, and of the vessel's velocity against the estimator's over 10 s (R143). -/
def State.solutionSeen (s : State) (e : Epoch) (x : GnssSol) : State :=
  let v := s.estVelocity
  let s1 := s.each (List.range 192) (fun s n => s.modGch n (fun c => { c with dir := match x.dirs[n]? with
    | some d => if c.sig = 0 ∨ (nth e.ch n ⟨0, 0, 0, 0, 0, 0, 0, 0, 0, 0, 0⟩).sig ≠ c.sig then none else some (d.1.toNat, d.2.toInt)
    | none => c.dir }))
  let old := s.gns.drift.filter (fun d => decide (s.now < d.1 + 10000000000))
  let now := if x.fix && s.get F.EST_STATUS_VSTATE != 0 then [(s.now, x.vn - v.1, x.ve - v.2)] else []
  { s1 with gns := { s1.gns with
    drift := if s.get F.EST_STATUS_VSTATE = 0 then [] else now ++ old
    aid := if x.fix then { s1.gns.aid with pos := some (x.lat, x.lon, x.alt) } else s1.gns.aid
    near := if x.fix then (true, true) else s1.gns.near } }
/-- GNSS_SOLUTION (R138 to R140, R143, R144, R147, R190, R202): at epoch + 8 ms the solutions of the epoch are delivered; their stamp moves
with a step since the epoch. [DEDUCED: log 120 and 125] -/
def State.gnssSolution (s0 : State) (x : GnssSol) : State :=
  match s0.gns.solving with
  | none => s0
  | some e =>
    let s := s0.runInside (s0.gns.latchAt + 8000000)
    if s.now < s.gns.latchAt + 8000000 then s
    else
      let sa := s.solutionSeen e x
      let tests := sa.spoofTests e
      let s1 := (sa.spoofVerdict tests).spoofMarks e tests.1
      let rtk := if s.corrFresh (e.sec * 1000000000 + e.ns) then x.rtk.val else 0
      let time := s1.timeOk e x
      let hdg := s1.headingOk e x
      let s2 := (((s1.putB F.GNS_STATUS_TIMEVALID time).put F.GNS_STATUS_RTK rtk).putRaise F.GNS_STATUS_FIX x.fix 33).putRaise F.GNS_STATUS_HDG hdg 41
      let s3 := { s2 with gns := { s2.gns with solving := none, rtk := if rtk = 3 then some (x.lat, x.lon, x.alt) else none } }
      let at' := ofInt 64 (e.lin + s.gns.moved)
      let adj := s.gns.moved != 0
      let s4 := s3.when x.fix (fun s => (s.internalArrive 0 at' adj [x.lat, x.lon, x.alt]).internalArrive 1 at' adj [x.vn, x.ve, x.vd])
      let s5 := s4.when hdg (·.internalArrive 2 at' adj [toInt 32 (s.headingOf x)])
      s5.gnssOffset time (x.ofs - taiMinus x.bds - divRne (s.get F.GNS_ANTDLY_DLY) 10)

/-- GNSS_SOLUTION (R138). -/
def execGnssSolution (sol : GnssSol) (s : State) : Host.Outcome State Fault Refusal := .next (s.lanes fun s => s.gnssSolution sol)

/-! ### Interference -/

/-- A chain's hidden state. -/
def State.rfc (s : State) (k : Nat) : RfChain := nth s.gns.rf k RfChain.init
/-- Changes a chain's hidden state. -/
def State.modRf (s : State) (k : Nat) (f : RfChain → RfChain) : State := { s with gns := { s.gns with rf := modNth s.gns.rf k f } }

/-- JI above THR for HOLD raises event 35 once per condition (R142). -/
def State.jamDetect (s : State) (k : Nat) : State :=
  let c := s.rfc k
  match c.jamSince with
  | some t => if !c.jamRaised && decide (t + s.get (F.GNS_RF_JAMCFG_HOLD k) * 100000000 ≤ s.now) then
      (s.modRf k (fun c => { c with jamRaised := true })).raise 35 else s
  | none => s

/-- JAM_DETECT (R142). -/
def execJamDetect (k : Fin 4) (s : State) : Host.Outcome State Fault Refusal := .next (s.jamDetect k)

/-- Width of a notch in 10 Hz units (R141). -/
def State.notchBw (s : State) (k j : Nat) : Nat := 2500 * 2 ^ s.get (F.GNS_RF_NOTCH_BW k j)
/-- FREQ of a notch. -/
def State.notchFreq (s : State) (k j : Nat) : Int := s.getI (F.GNS_RF_NOTCH_FREQ k j)
/-- Inserts a line into a list by falling level. -/
def insertLine (x : SpecLine) : List SpecLine → List SpecLine
  | [] => [x]
  | y :: t => if y.level < x.level then x :: y :: t else y :: insertLine x t

/-- A notch engages or releases: event 36, and the channels of its chain are marked (R137, R157). -/
def State.notchSet (s : State) (k j : Nat) (on : Bool) : State :=
  if s.flag (F.GNS_RF_NOTCH_ACTIVE k j) == on then s
  else ((s.putB (F.GNS_RF_NOTCH_ACTIVE k j) on).modRf k (fun c => { c with below := setNth c.below j none, moved := c.moved || on })).raiseMajor 36
/-- A notch is off, or at its fixed place (R141). -/
def State.notchFixed (s : State) (k j : Nat) : State :=
  match s.get (F.GNS_RF_NOTCH_MODE k j) with
  | 1 => s
  | 2 => s.notchSet k j true
  | _ => s.notchSet k j false

/-- One engaged automatic notch follows its line, or releases after NHOLD (R141); the lines not taken yet are carried on. -/
def State.notchFollow (s : State) (k : Nat) (ls : List SpecLine) (j : Nat) : State × List SpecLine :=
  if s.get (F.GNS_RF_NOTCH_MODE k j) = 1 ∧ s.flag (F.GNS_RF_NOTCH_ACTIVE k j) = true then
    match ls.find? (fun l => decide (2 * (l.freq - s.notchFreq k j).natAbs ≤ s.notchBw k j)) with
    | some l =>
      let s1 := (s.putI (F.GNS_RF_NOTCH_FREQ k j) l.freq).modRf k (fun c => { c with below := setNth c.below j none, moved := c.moved || l.freq != s.notchFreq k j })
      (s1, ls.erase l)
    | none =>
      match nth (s.rfc k).below j none with
      | none => (s.modRf k (fun c => { c with below := setNth c.below j (some s.now) }), ls)
      | some t =>
        if t + s.get (F.GNS_RF_JAMCFG_NHOLD k) * 100000000 ≤ s.now then
          (s.notchSet k j false, ls)
        else (s, ls)
  else (s, ls)

/-- A line lies inside an engaged notch of its chain. -/
def State.lineNotched (s : State) (k : Nat) (l : SpecLine) : Bool :=
  (List.range 4).any (fun j => s.flag (F.GNS_RF_NOTCH_ACTIVE k j) && decide (2 * (l.freq - s.notchFreq k j).natAbs ≤ s.notchBw k j))
/-- One free automatic notch engages on the strongest line left that is not notched yet (R141). -/
def State.notchEngage (s : State) (k : Nat) (ls : List SpecLine) (j : Nat) : State × List SpecLine :=
  match ls.filter (fun l => !s.lineNotched k l) with
  | l :: t =>
    if s.get (F.GNS_RF_NOTCH_MODE k j) = 1 ∧ s.flag (F.GNS_RF_NOTCH_ACTIVE k j) = false then
      ((s.putI (F.GNS_RF_NOTCH_FREQ k j) l.freq).notchSet k j true, t)
    else (s, ls)
  | [] => (s, ls)

/-- NOTCH_SPECTRUM (R141, R142): a spectrum with its lines, the gain, and the in-band power after the notches above the
calibrated noise in 0.001 dB. [DESIGN CHOICE: log 129] -/
def State.spectrum (s : State) (k agc : Nat) (power : Int) (lines : List SpecLine) : State :=
  let js := List.range 4
  let s0 := s.each js (fun s j => s.notchFixed k j)
  let fixedAt := (js.filter (fun j => s.get (F.GNS_RF_NOTCH_MODE k j) == 2)).map (fun j => (s.notchFreq k j, s.notchBw k j))
  let strong := (lines.filter (fun l => decide (s.get (F.GNS_RF_JAMCFG_NDET k) < l.level) &&
    fixedAt.all (fun f => decide (f.2 < 2 * (l.freq - f.1).natAbs)))).foldr insertLine []
  let p := js.foldl (fun p j => p.1.notchFollow k p.2 j) (s0, strong.take 4)
  let q := js.foldl (fun p j => p.1.notchEngage k p.2 j) p
  let ji := (clampI 0 255 (divRne (4 * power) 1000)).toNat
  let thr := s.get (F.GNS_RF_JAMCFG_THR k)
  let above := decide (thr < ji)
  let s1 := (((q.1.put (F.GNS_RF_STATUS_JI k) ji).put (F.GNS_RF_STATUS_AGC k) agc).putMax (F.GNS_RF_JAMMAX_JI k) ji).put (F.GNS_RF_STATUS_NACT k)
    (maskOf (js.map (fun j => q.1.flag (F.GNS_RF_NOTCH_ACTIVE k j))))
  let s2 := s1.modRf k (fun c => if above then { c with jamSince := some (c.jamSince.getD s.now) } else { c with jamSince := none, jamRaised := c.jamRaised && ji == thr })
  s2.jamDetect k

/-- NOTCH_SPECTRUM (R141). -/
def execNotchSpectrum (k : Fin 4) (agc : BitVec 8) (power : Int) (lines : List SpecLine) (s : State) : Host.Outcome State Fault Refusal :=
  .next (s.spectrum k agc.toNat power lines)

/-! ### Corrections -/

/-- One bit step of CRC-24Q. -/
def crc24Bit (r : Nat) : Nat := if bitOf r 23 then Nat.xor (r * 2 % 2 ^ 24) 0x864CFB else r * 2 % 2 ^ 24
/-- CRC-24Q of bytes (R145). -/
def crc24q (l : List Byte) : Nat :=
  l.foldl (fun r b => crc24Bit (crc24Bit (crc24Bit (crc24Bit (crc24Bit (crc24Bit (crc24Bit (crc24Bit (Nat.xor r (b.toNat * 2 ^ 16)))))))))) 0

/-- Message types that are used (R145). -/
def rtcmTypes : List Nat := [1005, 1006, 1033, 1074, 1094, 1114, 1124, 1077, 1097, 1117, 1127]

/-- A number of `n` bits from bit `i` of a payload, most significant first. -/
def bitsAt (b : List Byte) (i n : Nat) : Nat := ofBe b / 2 ^ (8 * b.length - i - n) % 2 ^ n
/-- The instant of a frame's observations, ms of the counter's scale (R92, R146): its epoch time is the time of the system's week, of BeiDou
for types 1124 and 1127. The week is that which brings it nearest to now. [PRESUMED: log 138] -/
def State.obsAt (s : State) (typ tow : Nat) : Nat :=
  let now := s.now / 1000000
  let zero := 315964819000 + (if typ = 1124 ∨ typ = 1127 then 14000 else 0)
  let wk := 604800000
  let d : Int := ((now : Int) - zero - tow) % wk
  ((now : Int) - (if 2 * d < wk then d else d - wk)).toNat
/-- The contents of an accepted frame are kept (R145): the frame, and of 1005 and 1006 the position of the station. -/
def State.rtcmKeep (s : State) (typ : Nat) (b : List Byte) : State :=
  let x (i : Nat) : Int := toInt 38 (bitsAt b i 38)
  let pos := if typ = 1005 ∨ typ = 1006 then some (x 34, x 74, x 114, if typ = 1006 then bitsAt b 152 16 else 0) else s.gns.stationPos
  { s with gns := { s.gns with rtcm := putKey typ b s.gns.rtcm, stationPos := pos } }
/-- A frame is accepted or rejected (R146): observations renew the correction age by their own time; a change of station discards resolved
ambiguities. [DEDUCED: log 127] -/
def State.rtcmFrame (s : State) (ok : Bool) (b : List Byte) : State :=
  let typ := beAt b 0 2 / 16
  let station := beAt b 1 2 % 4096
  if ok && rtcmTypes.contains typ then
    let s1 := (s.inc F.GNS_RTCMCNT_ACC).rtcmKeep typ b
    let new := s.gns.station != station
    let obs := decide (1074 ≤ typ)
    let at' := s.obsAt typ (bitsAt b 24 30)
    { s1 with gns := { s1.gns with station := station, corrAt := if obs then some (max at' (s1.gns.corrAt.getD 0)) else s1.gns.corrAt } }.when
      (new && s.get F.GNS_STATUS_RTK == 3) (·.put F.GNS_STATUS_RTK 2)
  else
    let s1 := s.inc F.GNS_RTCMCNT_REJ
    if s.gns.rejRaised then s1 else { s1 with gns := { s1.gns with rejRaised := true } }.raise 40

/-- The frames of a buffer, end to end (R535): the state, frames accepted and rejected. A byte that is no preamble, and a
partial frame, end the buffer as one rejected frame. [DEDUCED: log 126] -/
def State.rtcmBuffer (s : State) : Nat → List Byte → State × Nat × Nat
  | 0, _ => (s, 0, 0)
  | _, [] => (s, 0, 0)
  | k + 1, l =>
    if !s.flag F.GNS_RTCMCFG_EN then (s, 0, 0)
    else
      let len := beAt l 1 2 % 1024
      if beAt l 0 1 ≠ 0xD3 ∨ l.length < 6 ∨ l.length < len + 6 then (s.rtcmFrame false [], 0, 1)
      else
        let ok := crc24q (l.take (len + 3)) == beAt l (len + 3) 3
        let typ := beAt l 3 2 / 16
        let s1 := s.rtcmFrame ok ((l.drop 3).take len)
        let acc := b2n (ok && rtcmTypes.contains typ)
        let r := s1.rtcmBuffer k (l.drop (len + 6))
        (r.1, r.2.1 + acc, r.2.2 + (1 - acc))

/-! ### PPS output -/

/-- Where a pulse falls whose target is a number of 2^-32 ns, with the counter and FINE as they are (R148): edges from now to the last edge
before the target (negative when it has passed), delay steps, residual in ps. -/
def State.ppsAim (s : State) (target : Int) : Int × Nat × Int :=
  let st : Int := s.edgeStep
  let e := (target - 1 - s.tim.ctr.fine) / st
  let g := target - (s.tim.ctr.fine + e * st)
  let n := divRne (g * 16) (2 ^ 32)
  (e, n.toNat, divRne ((n * 2 ^ 28 - g) * 1000) (2 ^ 32))
/-- Target of the pulse of a second boundary, 2^-32 ns (R148). -/
def State.ppsTarget (s : State) (boundary : Nat) : Int := (boundary * 1000000000 * 2 ^ 32 : Nat) - divRne (s.gns.ofs * 2 ^ 32) 1000
/-- Where the pulse of a second boundary falls (R148). -/
def State.ppsPlace (s : State) (boundary : Nat) : Int × Nat × Int := s.ppsAim (s.ppsTarget boundary)

/-- GNS_PPSCFG.MODE lets a pulse follow (R149, R155). -/
def State.ppsOn (s : State) : Bool :=
  s.flag F.GNS_CTRL_EN &&
    (match s.get F.GNS_PPSCFG_MODE with
     | 1 => true
     | 2 => s.get F.TIM_STATUS_STATE == 2 || (s.get F.TIM_STATUS_STATE == 3 && !s.flag F.TIM_STATUS_HOLD_EXCEEDED)
     | _ => false)

/-- ASCII bytes of a decimal number. -/
def decBytes (n : Nat) : List Byte := (Nat.toDigits 10 n).map (fun c => BitVec.ofNat 8 c.toNat)
/-- ASCII bytes of a signed decimal number. -/
def intBytes (x : Int) : List Byte := (if x < 0 then [45#8] else []) ++ decBytes x.natAbs
/-- Two decimal digits. -/
def dec2 (n : Nat) : List Byte := [BitVec.ofNat 8 (48 + n / 10 % 10), BitVec.ofNat 8 (48 + n % 10)]
/-- One hexadecimal digit, upper case. -/
def hexByte (n : Nat) : Byte := BitVec.ofNat 8 (if n % 16 < 10 then 48 + n % 16 else 55 + n % 16)
/-- Two hexadecimal digits. -/
def hex2 (n : Nat) : List Byte := [hexByte (n / 16), hexByte n]

/-- UTC of a TAI second (R152): the first seconds of 1970 TAI fall in 1969 UTC. -/
def State.utcAt (s : State) (sec : Nat) : Civil :=
  match s.offsets.toCivil sec with
  | some c => c
  | none => if s.offsets.ofs ≤ sec then civilOf (sec - s.offsets.ofs) else ⟨1969, 12, 31, 23, (3600 - s.offsets.ofs + sec) / 60, (3600 - s.offsets.ofs + sec) % 60⟩
/-- The sentence $PZHVTP (R152). -/
def State.ppsSentence (s : State) (sec : Nat) (res : Int) (unc flags : Nat) : List Byte :=
  let c := s.utcAt sec
  let comma : List Byte := [44#8]
  let st : Byte := match s.get F.TIM_STATUS_STATE with
    | 0 => 70#8 | 1 => 75#8 | 2 => 76#8 | _ => 72#8
  let body : List Byte := [80#8, 90#8, 72#8, 86#8, 84#8, 80#8] ++ comma ++ decBytes sec ++ comma ++ dec2 c.h ++ dec2 c.mi ++ dec2 c.s ++ comma ++
    dec2 c.d ++ dec2 c.mo ++ dec2 c.y ++ comma ++ decBytes (s.get F.RTC_TAIUTC_OFS) ++ comma ++ intBytes res ++ comma ++ [st] ++ comma ++
    decBytes unc ++ comma ++ hex2 flags
  let sum := body.foldl (fun a b => Nat.xor a b.toNat) 0
  [36#8] ++ body ++ [42#8] ++ hex2 sum ++ [13#8, 10#8]

/-- A step applies at the slow tick of a boundary (R95, R151). -/
def State.stepAt (s : State) (ns : Nat) : Bool :=
  match s.tim.step with
  | some p => decide (p.req + 250000 ≤ ns)
  | none => false

/-- PPS_TIME_MESSAGE (R150 to R153): the message of the coming boundary at boundary - 40 ms. [DEDUCED: log 134] -/
def State.timeMessage (s0 : State) : State :=
  let b := s0.tim.ctr.sec + 1
  let t := b * 1000000000
  let s1 := { s0 with gns := { s0.gns with ofs := s0.getI F.GNS_PPSOFS_PS } }.runInside (t - 40000000)
  if !s0.ready || decide (s1.now < t - 40000000) || decide (s1.gns.msgAt = some b) || decide (t < s1.gns.ppsFrom) then s0
  else
    let pl := s1.ppsPlace b
    let st := s1.get F.TIM_STATUS_STATE
    let seq := (s1.get F.GNS_PPSSEQ_SEQ + 1) % 2 ^ 32
    let unc := if st = 0 ∨ st = 3 then s1.holdUnc else (s1.getI F.TIM_OFFSET_NS).natAbs
    let flags := b2n s1.ppsOn + 2 * b2n (s1.stepAt t) + 4 * b2n s1.gns.prevChanged + 8 * b2n (s1.flag F.TIM_STATUS_HOLD_EXCEEDED) +
      16 * b2n (s1.flag F.GNS_STATUS_SPOOF)
    let msg := padTo 32 (dtimeLe b 0 ++ leBytes 1 st ++ leBytes 1 flags ++ leBytes 4 (ofInt 32 pl.2.2) ++ leBytes 4 (ofInt 32 s1.gns.prevRes) ++
      leBytes 4 unc ++ leBytes 4 seq ++ leBytes 1 (s1.get F.RTC_TAIUTC_OFS))
    let s2 := ({ s1 with gns := { s1.gns with msgAt := some b } }.put F.GNS_PPSSEQ_SEQ seq).putI F.GNS_PPSRES_PS pl.2.2
    let s3 := if s1.flag F.GNS_PPSCFG_MSG_HOST then (s2.hostItem ⟨3, s2.lin, 255, msg⟩).raise 39 else s2
    if s1.flag F.GNS_PPSCFG_MSG_UART then { s3 with gns := { s3.gns with uart11 := s1.ppsSentence b pl.2.2 unc flags } } else s3

/-- PPS_TIME_MESSAGE (R150). -/
def execPpsTimeMessage (s : State) : Host.Outcome State Fault Refusal := .next s.timeMessage

/-- The pulse of a boundary is driven where its target puts it, or not emitted (R148, R149). -/
def State.ppsDrive (s : State) (x : Int × Nat × Int) : State :=
  let w := max 1 (min 999 (s.get F.GNS_PPSCFG_WIDTH))
  if s.ppsOn then
    { s with gns := { s.gns with
      ppsN := x.2.1, prevRes := x.2.2, prevChanged := x.2.2 != s.getI F.GNS_PPSRES_PS, ppsOut := true, ppsEnd := some (s.now + w * 1000000) } }
  else s
/-- PPS_PULSE (R148, R149, R153): the pulse of the nearest boundary, at the last edge before its target; after a step first that which the old
counter placed. [DESIGN CHOICE: log 133] -/
def State.ppsPulse (s : State) : State :=
  match s.gns.ppsOld with
  | some target =>
    let s1 := s.runInside (s.now + 4 * (s.ppsAim target).1.toNat)
    let x := s1.ppsAim target
    if 0 < x.1 then s1 else { s1 with gns := { s1.gns with ppsOld := none } }.ppsDrive x
  | none =>
    let b := (s.now + 500000000) / 1000000000
    let s1 := s.runInside (s.now + 4 * (s.ppsPlace b).1.toNat)
    let x := s1.ppsPlace b
    if !s.ready || decide (0 < x.1) || decide (s.gns.ppsAt = some b) || decide (b * 1000000000 < s.gns.ppsFrom) then s1
    else { s1 with gns := { s1.gns with ppsAt := some b } }.ppsDrive x

/-- PPS_PULSE (R148). -/
def execPpsPulse (s : State) : Host.Outcome State Fault Refusal := .next s.ppsPulse

/-- PPS_PULSE_END (R149). -/
def State.ppsEnd (s : State) : State :=
  match s.gns.ppsEnd with
  | none => s
  | some t =>
    let s1 := s.runInside t
    if t ≤ s1.now then { s1 with gns := { s1.gns with ppsOut := false, ppsEnd := none } } else s1

/-- PPS_PULSE_END (R149). -/
def execPpsPulseEnd (s : State) : Host.Outcome State Fault Refusal := .next s.ppsEnd

/-! ### Ticks and steps -/

/-- GNS_CTRL and the channel registers take effect at a major tick (R120, R123, R155); a chain that is off stops its channels. [DEDUCED: log 132] -/
def State.gnsMajor (s : State) : State :=
  let s1 := { s with gns := { s.gns with estDue := s.gns.estDue ++ s.gns.toEst, toEst := [] } }
  if s.gnsOn then { s1 with gns := { s1.gns with searching := true } }.gnsAssignAll else s1

/-- At a slow tick a change of RATE takes effect, the channels are assigned, aiding data is rewritten and event 40 may be raised
again (R120, R128, R132, R146). -/
def State.gnsSlow (s : State) : State :=
  let s1 := { s with gns := { s.gns with rate := s.get F.GNS_EPCFG_RATE, rejRaised := false, kept := s.gns.aid } }
  s1.autoAssign

/-- A step of the counter (R135, R153): the epoch at the step tick keeps its old stamp, the next one is the first multiple reached
afterwards, and pulses pause for 500 ms. `old` is the counter before the step. -/
def State.gnsStep (s : State) (delta : Int) (old : Counter) : State :=
  let p := s.epochMs * 1000000
  let mv (t : Nat) : Nat := (t + delta).toNat
  let oldE := old.lin / p * p
  let at' := old.total - (old.lin - oldE)
  let due := s.gns.lastEpoch != some oldE && s.flag F.GNS_CTRL_EN && s.flag F.GNS_STATUS_READY
  let chans := s.gns.chans.map (fun c => { c with
    since := mv c.since, lockAt := mv c.lockAt, requeue := c.requeue.map mv, find := { c.find with t := mv c.find.t }, trk := { c.trk with t := mv c.trk.t } })
  let b := old.total / 1000000000
  let waits := s.gnsOn && old.total % 1000000000 < 10000000 && s.gns.ppsAt != some b && decide (s.gns.ppsFrom ≤ b * 1000000000) && decide (((old.fine : Int)) < s.ppsTarget b)
  let rf := s.gns.rf.map (fun r => { r with jamSince := r.jamSince.map mv, below := r.below.map (fun b => b.map mv) })
  { s with gns := { s.gns with
    stepEp := if due then some (oldE, at' / 1000000000 % 2 ^ 48, at' % 1000000000) else s.gns.stepEp
    stepped := !due, lastEpoch := some (s.lin / p * p), latchAt := mv s.gns.latchAt, ppsFrom := s.now + 500000000
    failAt := mv s.gns.failAt, corrAt := s.gns.corrAt.map mv, ppsEnd := s.gns.ppsEnd.map mv, ppsAt := none, msgAt := none
    ppsOld := if waits then some (s.ppsTarget b + delta * 2 ^ 32) else none, moved := s.gns.moved + delta
    drift := s.gns.drift.map (fun d => (mv d.1, d.2))
    chans := chans, rf := rf } }

end Sys2Proof.Machine
end

