-- ==== Sys2Proof/Machine/Linalg.lean ====
section
/-! DEFINITION. Vectors and matrices of binary32 numbers as R221 computes them: every product sum is accumulated in binary64 in
ascending index order and rounded to binary32 once; propagation by R216. -/

namespace Sys2Proof.Machine

/-- A matrix by rows. -/
abbrev Mat := List (List Fl)

/-- A product sum in binary64. -/
def dotD (a b : List Fl) : Fl := (a.zip b).foldl (fun acc p => (acc.addX (p.1.mulX p.2)).r64) Fl.zero
/-- A product sum rounded to binary32 once (R221). -/
def dotF (a b : List Fl) : Fl := (dotD a b).r32
/-- Columns of a matrix with `n` columns. -/
def Mat.cols (m : Mat) (n : Nat) : Mat := (List.range n).map (fun j => m.map (fun r => nth r j Fl.zero))
/-- Transposed matrix. -/
def Mat.tr (m : Mat) : Mat := m.cols ((m.head?.getD []).length)
/-- Matrix times vector. -/
def Mat.app (m : Mat) (v : List Fl) : List Fl := m.map (fun r => dotF r v)
/-- Matrix product. -/
def Mat.mul (a b : Mat) : Mat := let t := b.tr; a.map (fun r => t.map (fun c => dotF r c))
/-- Sum of vectors. -/
def vadd (a b : List Fl) : List Fl := (a.zip b).map (fun p => p.1.addS p.2)
/-- Difference of vectors. -/
def vsub (a b : List Fl) : List Fl := (a.zip b).map (fun p => p.1.subS p.2)
/-- Sum of matrices. -/
def Mat.add (a b : Mat) : Mat := (a.zip b).map (fun p => vadd p.1 p.2)
/-- Difference of matrices. -/
def Mat.sub (a b : Mat) : Mat := (a.zip b).map (fun p => vsub p.1 p.2)
/-- A diagonal matrix. -/
def diagM (d : List Fl) : Mat :=
  (List.range d.length).map (fun i => (List.range d.length).map (fun j => if i = j then nth d i Fl.zero else Fl.zero))
/-- The identity matrix. -/
def identM (n : Nat) : Mat := diagM (List.replicate n (Fl.ofInt 1))
/-- An entry. -/
def Mat.at' (m : Mat) (i j : Nat) : Fl := nth (nth m i []) j Fl.zero
/-- The matrix made symmetric by the mean of each off-diagonal pair (R221). -/
def Mat.symm (m : Mat) : Mat :=
  let n := m.length
  (List.range n).map (fun i => (List.range n).map (fun j => if i = j then m.at' i i else (((m.at' i j).add (m.at' j i)).scale (-1)).r32))
/-- A cofactor of a 3 × 3 matrix in binary64. -/
def cof3 (m : Mat) (i j : Nat) : Fl :=
  let a (i j : Nat) : Fl := m.at' (i % 3) (j % 3)
  ((a (i + 1) (j + 1)).mul (a (i + 2) (j + 2))).sub ((a (i + 1) (j + 2)).mul (a (i + 2) (j + 1)))
/-- Determinant of a 3 × 3 matrix in binary64. -/
def det3 (m : Mat) : Fl :=
  (((m.at' 0 0).mul (cof3 m 0 0)).add ((m.at' 0 1).mul (cof3 m 0 1))).add ((m.at' 0 2).mul (cof3 m 0 2))
/-- Inverse of a 3 × 3 matrix in binary64 by cofactors. -/
def inv3 (m : Mat) : Mat := (List.range 3).map (fun i => (List.range 3).map (fun j => (cof3 m j i).div (det3 m)))
/-- Inverse of a matrix of dimension 1, 2 or 3 in binary64 (R221); none when it is singular. -/
def Mat.inv (m : Mat) : Option Mat :=
  match m with
  | [[a]] => let r := (Fl.ofInt 1).div a; if r.bad || a.m == 0 then none else some [[r]]
  | [[a, b], [c, d]] =>
    let det := (a.mul d).sub (b.mul c)
    let k (x : Fl) : Fl := x.div det
    if det.bad || det.m == 0 then none else some [[k d, k b.neg], [k c.neg, k a]]
  | [[_, _, _], [_, _, _], [_, _, _]] => if (det3 m).bad || (det3 m).m == 0 then none else some (inv3 m)
  | _ => none
/-- Every element is finite and no diagonal element is negative (R222). -/
def Mat.sound (m : Mat) : Bool :=
  m.all (fun r => r.all (fun x => !x.bad)) && (List.range m.length).all (fun i => decide (0 ≤ (m.at' i i).m))

/-- A process model: derivative of the state, its Jacobian, noise densities. -/
structure Model where
  /-- Derivative. -/
  f : List Fl → List Fl
  /-- Jacobian. -/
  jac : List Fl → Mat
  /-- Diagonal of process noise densities. -/
  q : List Fl

/-- x + h k, each element a product sum (R221). -/
def axpy (h : Fl) (x k : List Fl) : List Fl := (x.zip k).map (fun p => dotF [Fl.ofInt 1, h] [p.1, p.2])

/-- One classical fourth-order Runge-Kutta step of length h seconds (R216): each stage and the result are product sums (R221).
[DEDUCED: log 174] -/
def rk4 (f : List Fl → List Fl) (x : List Fl) (h : Fl) : List Fl :=
  let k1 := f x
  let k2 := f (axpy (h.scale (-1)) x k1)
  let k3 := f (axpy (h.scale (-1)) x k2)
  let k4 := f (axpy h x k3)
  let sixth := h.div (Fl.ofInt 6)
  (x.zip (k1.zip (k2.zip (k3.zip k4)))).map (fun p =>
    dotF [Fl.ofInt 1, sixth, sixth.scale 1, sixth.scale 1, sixth] [p.1, p.2.1, p.2.2.1, p.2.2.2.1, p.2.2.2.2])

/-- State, covariance and transition after a propagation. -/
structure Prop3 where
  /-- State. -/
  x : List Fl
  /-- Covariance. -/
  p : Mat
  /-- Transition. -/
  phi : Mat

/-- One sub-step (R216): Φ = I + F h + (F h)² / 2 and Φ P Φᵀ + Q h. -/
def Model.sub (m : Model) (s : Prop3) (h : Fl) : Prop3 :=
  let fh : Mat := (m.jac s.x).map (fun r => r.map (fun a => (a.mul h).r32))
  let half : Mat := (Mat.mul fh fh).map (fun r => r.map (fun a => a.scale (-1)))
  let phi := Mat.add (Mat.add (identM s.x.length) fh) half
  { x := rk4 m.f s.x h, p := (Mat.add (Mat.mul (Mat.mul phi s.p) phi.tr) (diagM (m.q.map (fun a => (a.mul h).r32)))).symm
    phi := Mat.mul phi s.phi }

/-- Seconds of a number of nanoseconds, binary32. -/
def secF (ns : Nat) : Fl := (Fl.ratio ns 1000000000).r32

/-- Propagation over `ns` from an instant that lies `a` ns after a major tick: sub-steps of 2.5 ms counted from the tick, the last
one partial (R216). The model may change with the time after the tick at which a sub-step starts. -/
def propagate (mdl : Nat → Model) : Nat → Nat → Nat → Prop3 → Prop3
  | 0, _, _, s => s
  | k + 1, a, ns, s =>
    if ns = 0 then s
    else
      let h := min ns (2500000 - a % 2500000)
      propagate mdl k (a + h) (ns - h) ((mdl a).sub s (secF h))

/-- Propagation over `ns` from an instant `a` ns after a major tick. -/
def propFrom (mdl : Nat → Model) (a ns : Nat) (x : List Fl) (p : Mat) : Prop3 :=
  propagate mdl (ns / 2500000 + 2) a ns { x := x, p := p, phi := identM x.length }

/-- The result of an update: state, covariance, soundness. -/
structure Upd where
  /-- State. -/
  x : List Fl
  /-- Covariance. -/
  p : Mat
  /-- No numeric fault (R222). -/
  ok : Bool

/-- Joseph-form update with a given gain: measured rows h, noise r, innovation nu (R221). -/
def josephUpdate (x : List Fl) (p h : Mat) (k : Mat) (r : Mat) (nu : List Fl) : Upd :=
  let x' := vadd x (Mat.app k nu)
  let a := Mat.sub (identM x.length) (Mat.mul k h)
  let p' := (Mat.add (Mat.mul (Mat.mul a p) a.tr) (Mat.mul (Mat.mul k r) k.tr)).symm
  { x := x', p := p', ok := p'.sound && x'.all (fun v => !v.bad) }

end Sys2Proof.Machine
end

