-- ==== Sys2Proof/Machine/Est.lean ====
section
/-! DEFINITION. The estimator: process model (R211 to R216, R239), measurements and updates (R217 to R227), track states (R228 to
R230), origin (R231, R232), records (R235 to R238). Arbitration is in `Arb`, the stage itself in `EstStage`. -/

namespace Sys2Proof.Machine

open Sys2Proof

/-! ### Model memory -/

/-- Number of microunits as binary64. -/
def fl6 (x : Int) : Fl := Fl.ratio x 1000000

/-- The basic-level value of a word of the model memory (R213, R215, R239), internal units. -/
def State.estDerivedFl (s : State) (off : Nat) : Fl :=
  let m := Fl.ofInt ((max 1 (s.get F.EST_VESSEL_MASS) : Nat) * 1000)
  let len := Fl.ofInt (max 1 (s.get F.EST_VESSEL_LEN) : Nat)
  let mm (i : Nat) : Fl := match i with
    | 0 => m.mul (fl6 1050000)
    | 1 => m.mul (fl6 1600000)
    | _ => (m.mul (fl6 120000)).mul (len.mul len)
  let k := (off - 0x630000) / 4
  if k < 9 then (if k % 4 = 0 then mm (k / 4) else Fl.zero)
  else if k < 18 then
    (if (k - 9) % 4 = 0 then (mm ((k - 9) / 4)).div (Fl.ofInt (match (k - 9) / 4 with | 0 => 120 | 1 => 60 | _ => 40)) else Fl.zero)
  else if k < 21 then fl6 800000
  else if k < 24 then fl6 100000
  else if k < 27 then Fl.ofInt 1000
  else if 28 ≤ k ∧ k < 43 then Config.estQ (k - 28)
  else if 44 ≤ k ∧ k < 59 then Config.estP0 (k - 44)
  else Fl.zero

/-- One entry of a basic-level wind table in Q3.13 (R215): a = 0 C_X, 1 C_Y, 2 C_N. -/
def windEntry (a e : Nat) : Nat :=
  let g := (Fl.ofInt (10 * e)).mul (flPi.div (Fl.ofInt 180))
  let c := match a with
    | 0 => (fl6 (-600000)).mul (Fl.cos g)
    | 1 => (fl6 800000).mul (Fl.sin g)
    | _ => (fl6 100000).mul (Fl.sin (g.scale 1))
  ofInt 16 (clampS 16 (c.scale 13).rne)

/-- The basic-level word of the model memory. -/
def State.estDerived (s : State) (off : Nat) : Nat :=
  if off < 0x630100 then (s.estDerivedFl off).bits32
  else
    let a := (off - 0x630100) / 0x50
    let w := (off - 0x630100) % 0x50 / 4
    windEntry a (2 * w) + 2 ^ 16 * windEntry a (2 * w + 1)

/-- A word of the model memory as the block uses it (R30, R34). -/
def State.estWord (s : State) (off : Nat) : Nat := if s.expert 6 then s.word off else s.estDerived off
/-- A binary32 word of the model memory. -/
def State.estFl (s : State) (f : Fld) : Fl := Fl.ofBits32 (s.estWord f.off)

/-- A model word may be written: finite, and positive on the diagonals of M and D, for ω and T_b (R239). -/
def estWordOk (off v : Nat) : Bool :=
  let k := (off - 0x630000) / 4
  let x := Fl.ofBits32 v
  let pos := (k < 9 && k % 4 == 0) || (9 ≤ k && k < 18 && (k - 9) % 4 == 0) || (18 ≤ k && k < 21) || (24 ≤ k && k < 27)
  if 0x630100 ≤ off then true else !x.bad && (!pos || decide (0 < x.m))

/-- A host write of a model word takes effect (R239). -/
def State.estModelWrite (s : State) (off v : Nat) : State :=
  if estWordOk off v then s.setWord off v else s.put F.EST_ERR_CFG 1

/-! ### Vessel model -/

/-- The 3 × 3 matrices M and D. -/
def State.estM (s : State) : Mat := (List.range 3).map (fun i => (List.range 3).map (fun j => s.estFl (F.EST_M_VALUE i j)))
/-- See `estM`. -/
def State.estD (s : State) : Mat := (List.range 3).map (fun i => (List.range 3).map (fun j => s.estFl (F.EST_D_VALUE i j)))

/-- Matrix times vector in binary64. -/
def appD (m : Mat) (v : List Fl) : List Fl := m.map (fun r => dotD r v)

/-- Derivative of the vessel states (R213), every sum of products rounded to binary32 once (R221); in GECKO the bias states are held
(R257). -/
def vesselDeriv (minv d : Mat) (om ze tb tau : List Fl) (gecko : Bool) (x : List Fl) : List Fl :=
  let g (i : Nat) : Fl := nth x i Fl.zero
  let one := Fl.ofInt 1
  let c := Fl.cos (g 2); let sn := Fl.sin (g 2)
  let eta := [dotF [c, sn.neg] [g 3, g 4], dotF [sn, c] [g 3, g 4], g 5]
  let bb (i : Nat) : List Fl := nth [[c, sn, Fl.zero], [sn.neg, c, Fl.zero], [Fl.zero, Fl.zero, one]] i []
  let f := (List.range 3).map (fun i =>
    dotF ((nth d i []).map Fl.neg ++ [one] ++ bb i) [g 3, g 4, g 5, nth tau i Fl.zero, g 6, g 7, g 8])
  let nu := Mat.app minv f
  let b := (List.range 3).map (fun i => if gecko then Fl.zero else ((g (6 + i)).div (nth tb i Fl.zero)).neg.r32)
  let xw := [g 12, g 13, g 14]
  let xd := (List.range 3).map (fun i =>
    let w := nth om i Fl.zero
    dotF [(((nth ze i Fl.zero).scale 1).mul w).neg, (w.mul w).neg] [g (12 + i), g (9 + i)])
  eta ++ nu ++ b ++ xw ++ xd

/-- Jacobian of `vesselDeriv`. -/
def vesselJac (minv d : Mat) (om ze tb : List Fl) (gecko : Bool) (x : List Fl) : Mat :=
  let g (i : Nat) : Fl := nth x i Fl.zero
  let z := Fl.zero
  let one := Fl.ofInt 1
  let c := Fl.cos (g 2); let sn := Fl.sin (g 2)
  let zeros (n : Nat) : List Fl := List.replicate n z
  let md (i j : Nat) : Fl := dotF (nth minv i []) (d.map (fun r => nth r j z))
  let db := [dotF [c, sn.neg] [g 7, g 6], (dotF [c, sn] [g 6, g 7]).neg, z]
  let mi (i j : Nat) : Fl := (nth (nth minv i []) j z)
  let row0 := [z, z, (dotF [sn, c] [g 3, g 4]).neg, c, sn.neg] ++ zeros 10
  let row1 := [z, z, dotF [c, sn.neg] [g 3, g 4], sn, c] ++ zeros 10
  let row2 := zeros 5 ++ [one] ++ zeros 9
  let nuRow (i : Nat) : List Fl :=
    [z, z, dotF (nth minv i []) db, (md i 0).neg, (md i 1).neg, (md i 2).neg,
     dotF [mi i 0, mi i 1] [c, sn.neg], dotF [mi i 0, mi i 1] [sn, c], mi i 2] ++ zeros 6
  let bRow (i : Nat) : List Fl := zeros (6 + i) ++ [if gecko then z else (one.div (nth tb i z)).neg] ++ zeros (8 - i)
  let xRow (i : Nat) : List Fl := zeros (12 + i) ++ [one] ++ zeros (2 - i)
  let vRow (i : Nat) : List Fl :=
    let w := nth om i z
    zeros (9 + i) ++ [(w.mul w).neg] ++ zeros 2 ++ [(((nth ze i z).scale 1).mul w).neg] ++ zeros (2 - i)
  [row0, row1, row2] ++ (List.range 3).map nuRow ++ (List.range 3).map bRow ++ (List.range 3).map xRow ++ (List.range 3).map vRow

/-- Newest measurement of a stream before an instant (R215). -/
def State.newestAt (s : State) (n t : Nat) : Option Meas :=
  ((s.est.recent.lookup n).getD []).find? (fun q => decide (0 < linDiff t q.m))

/-- A wind coefficient, interpolated linearly in its table (R215); γ is a BAM32 angle. -/
def State.windCoef (s : State) (a gamma : Nat) : Fl :=
  let e (i : Nat) : Int := toInt 16 (s.estWord (0x630100 + 0x50 * a + 4 * (i % 36 / 2)) / 2 ^ (16 * (i % 2)))
  let pos := gamma % 2 ^ 32 * 36
  let i := pos / 2 ^ 32
  let f : Int := (pos % 2 ^ 32 : Nat)
  (Fl.ofInt (e i * (2 ^ 32 - f) + e (i + 1) * f)).scale (-45)

/-- τ_W of a KIND 5 measurement (R215): angle in BAM32, speed in mm/s. -/
def State.windForce (s : State) (angle speed : Int) : List Fl :=
  let v := Fl.ratio speed 1000
  let q := ((fl6 1225000).scale (-1)).mul (v.mul v)
  let af := Fl.ofInt (s.get F.EST_WINDAREA_AF); let al := Fl.ofInt (s.get F.EST_WINDAREA_AL)
  let len := Fl.ofInt (max 1 (s.get F.EST_VESSEL_LEN) : Nat)
  let g := ofInt 32 angle
  [(q.mul af).mul (s.windCoef 0 g), (q.mul al).mul (s.windCoef 1 g), ((q.mul al).mul len).mul (s.windCoef 2 g)]

/-- The wind stream is FRESH (R215). -/
def State.windFresh (s : State) : Bool := s.get (F.ALN_ST_STAT_STATE (s.get F.EST_WIND_STREAM)) == 2

/-- τ_W at an instant (R215): zero while EN is 0; while the stream is not FRESH the last value is held for HOLD and then ramps to
zero over 10 s. -/
def State.tauWind (s : State) (t : Nat) : List Fl :=
  if !s.flag F.EST_WIND_EN then List.replicate 3 Fl.zero
  else if s.windFresh then
    match s.newestAt (s.get F.EST_WIND_STREAM) t with
    | some q => s.windForce (nth q.v 0 0) (nth q.v 1 0)
    | none => s.est.tauW
  else
    let lost := linDiff t (s.est.windLost.getD t) - (s.get F.EST_WIND_HOLD * 1000000000 : Nat)
    let left := 10000000000 - lost
    if lost ≤ 0 then s.est.tauW
    else if left ≤ 0 then List.replicate 3 Fl.zero else s.est.tauW.map (fun x => x.mul (Fl.ratio left 10000000000))

/-- The vessel model over an interval with a thrust τ_T; the wind is that at the start of each sub-step. -/
def State.vesselModel (s : State) (tauT : List Fl) (t : Nat) : Model :=
  let minv := inv3 s.estM
  let d := s.estD
  let om := (List.range 3).map (fun i => s.estFl (F.EST_WAVE_W_VALUE i))
  let ze := (List.range 3).map (fun i => s.estFl (F.EST_WAVE_Z_VALUE i))
  let tb := (List.range 3).map (fun i => s.estFl (F.EST_TB_VALUE i))
  let gk := s.est.st == 4
  let tau := vadd tauT (s.tauWind t)
  { f := vesselDeriv minv d om ze tb tau gk, jac := vesselJac minv d om ze tb gk
    q := (List.range 15).map (fun i => if gk && 6 ≤ i && i < 9 then Fl.zero else s.estFl (F.EST_Q_VALUE i)) }

/-- First-order Markov biases with a time constant in s and a stationary standard deviation (R216, R225). -/
def biasModel (n : Nat) (tb : Nat) (sd : Fl) : Model :=
  let a := ((Fl.ofInt 1).div (Fl.ofInt tb)).neg
  { f := fun x => x.map (fun v => v.mul a), jac := fun _ => diagM (List.replicate n a)
    q := List.replicate n (((sd.mul sd).scale 1).div (Fl.ofInt tb)) }

/-- Constant-velocity model of a target (R227). -/
def targetModel (fixed : Bool) (qa : Fl) : Model :=
  let z := Fl.zero
  let o := if fixed then z else Fl.ofInt 1
  let q := if fixed then z else qa.mul qa
  { f := fun x => [(nth x 2 z).mul o, (nth x 3 z).mul o, z, z]
    jac := fun _ => [[z, z, o, z], [z, z, z, o], [z, z, z, z], [z, z, z, z]], q := [z, z, q, q] }

/-- GNSS-TC model with an acceleration north-east-down (R224): coasting multiplies the acceleration noise by 100. -/
def tcModel (n : Nat) (acc : List Fl) (coast : Bool) : Model :=
  let z := Fl.zero
  { f := fun x => [nth x 3 z, nth x 4 z, nth x 5 z] ++ acc ++ [nth x 7 z] ++ List.replicate (n - 7) z
    jac := fun _ => (List.range n).map (fun i => (List.range n).map (fun j =>
      if (i < 3 ∧ j = i + 3) ∨ (i = 6 ∧ j = 7) then Fl.ofInt 1 else z))
    q := (List.range n).map (fun i => if coast && 3 ≤ i && i < 6 then (Config.tcQ i).mul (Fl.ofInt 100) else Config.tcQ i) }

/-! ### Tracks -/

/-- A reference track: PRk at k, HRh at 12 + h. -/
def State.ref (s : State) (i : Nat) : RefTrack := nth s.est.refs i RefTrack.init0
/-- Changes a reference track. -/
def State.modRef (s : State) (i : Nat) (f : RefTrack → RefTrack) : State :=
  { s with est := { s.est with refs := modNth s.est.refs i f } }
/-- A target track. -/
def State.tg (s : State) (t : Nat) : TgTrack := nth s.est.tgs t TgTrack.init0
/-- Changes a target track. -/
def State.modTg (s : State) (t : Nat) (f : TgTrack → TgTrack) : State := { s with est := { s.est with tgs := modNth s.est.tgs t f } }
/-- Changes the estimator's hidden state. -/
def State.modEst (s : State) (f : EstState → EstState) : State := { s with est := f s.est }
/-- TYPE of PRk as it acts: 4 to 7 act as 0 (R223). -/
def State.prType (s : State) (k : Nat) : Nat := let t := s.get (F.EST_PR_CFG_TYPE k); if t ≤ 3 then t else 0
/-- EN of a reference track. -/
def State.refEn (s : State) (i : Nat) : Bool := if i < 12 then s.flag (F.EST_PR_CFG_EN i) else s.flag (F.EST_HR_CFG_EN (i - 12))
/-- Stream of a reference track. -/
def State.refStream (s : State) (i : Nat) : Nat := if i < 12 then s.get (F.EST_PR_CFG_STREAM i) else s.get (F.EST_HR_CFG_STREAM (i - 12))
/-- Bias time constant in s; 0 acts as 1. -/
def State.refTb (s : State) (i : Nat) : Nat := max 1 (if i < 12 then s.get (F.EST_PR_TIME_TB i) else s.get (F.EST_HR_TIME_TB (i - 12)))
/-- TMO in ns; 0 acts as 1. -/
def State.refTmo (s : State) (i : Nat) : Nat :=
  max 1 (if i < 12 then s.get (F.EST_PR_TIME_TMO i) else s.get (F.EST_HR_TIME_TMO (i - 12))) * 100000000
/-- Stationary standard deviation of the bias: PR_k_SIGMA.BIAS in m, 1° for HR (R225). -/
def State.refBiasSd (s : State) (i : Nat) : Fl :=
  if i < 12 then Fl.ratio (s.get (F.EST_PR_SIGMA_BIAS i)) 100 else (flPi.div (Fl.ofInt 180))
/-- Dimension of a reference. -/
def refDim (i : Nat) : Nat := if i < 12 then 2 else 1
/-- A lower PR track with EN and TYPE GNSS-TC, counted (R223). -/
def State.tcBefore (s : State) (k : Nat) : Nat := ((List.range k).filter (fun j => s.flag (F.EST_PR_CFG_EN j) && s.prType j == 3)).length
/-- The configuration of a reference track is valid (R228). [DEDUCED: log 162] -/
def State.refValid (s : State) (i : Nat) : Bool :=
  let kd := s.stKind (s.refStream i)
  if i < 12 then
    match s.prType i with
    | 1 => kd == 1
    | 2 => kd == 2
    | 3 => kd == 7 && s.tcBefore i < 2
    | _ => false
  else kd == 3
/-- The configuration of a target track is valid (R228). -/
def State.tgValid (s : State) (t : Nat) : Bool := s.flag (F.EST_TG_CFG_SRC t) || s.stKind (s.get (F.EST_TG_CFG_STREAM t)) == 2
/-- Suspect mark of a reference. -/
def State.suspect (s : State) (i : Nat) : Bool := s.bit F.EST_ARB_SUSP_SUSP i
/-- A track leaves for WAITING or OFF; its suspect mark clears (R254). -/
def State.refTo (s : State) (i st : Nat) : State :=
  (s.modRef i (fun _ => { RefTrack.init0 with st := st })).putBit F.EST_ARB_SUSP_SUSP i false
/-- R228 for the reference tracks, apart from measurements and timeouts. -/
def State.refConfig (s : State) (i : Nat) : State :=
  let t := s.ref i
  if !s.refEn i then (if t.st = 0 ∧ t.bad = false then s else s.refTo i 0)
  else if !s.refValid i then
    (if t.bad then s else ((s.refTo i 0).modRef i (fun t => { t with bad := true })).put F.EST_ERR_CFG 1)
  else if t.st = 0 then s.refTo i 1 else s
/-- R228 for the target tracks. [DEDUCED: log 161] -/
def State.tgConfig (s : State) (k : Nat) : State :=
  let t := s.tg k
  if !s.flag (F.EST_TG_CFG_EN k) then (if t.st = 0 ∧ t.bad = false then s else s.modTg k (fun _ => TgTrack.init0))
  else if !s.tgValid k then
    (if t.bad then s else (s.modTg k (fun _ => { TgTrack.init0 with bad := true })).put F.EST_ERR_CFG 1)
  else if t.st = 0 then s.modTg k (fun _ => { TgTrack.init0 with st := 1 }) else s
/-- STREAM, TYPE or ANT was written (R228). [DEDUCED: log 168] -/
def State.refRewritten (s : State) (i : Nat) : State := if (s.ref i).st = 0 then s else s.refTo i 1
/-- See `refRewritten`. -/
def State.tgRewritten (s : State) (k : Nat) : State := if (s.tg k).st = 0 then s else s.modTg k (fun _ => { TgTrack.init0 with st := 1 })

/-- A reference track is ACTIVE and gets no measurement for TMO: LOST (R228). -/
def State.trackTimeout (s : State) (i : Nat) : State :=
  let t := s.ref i
  if t.st = 2 ∧ (s.refTmo i : Int) ≤ linDiff s.majTick t.m then s.modRef i (fun t => { t with st := 3 }) else s

/-- TRACK_TIMEOUT (R228). -/
def execTrackTimeout (track : Fin 16) (s : State) : Host.Outcome State Fault Refusal := .next (s.lanes fun s => s.trackTimeout track)

/-- The vessel track changes state (R229), with event 64; entry to WAITING or OFF clears the states (log 40). -/
def State.vesselTo (s : State) (st : Nat) (ev : Bool) : State :=
  let z := st == 0 || st == 1 || st == 5
  let s1 := s.modEst (fun e => { e with
    st := st, since := s.majTick, x := if z then List.replicate 15 Fl.zero else e.x
    p := if z then List.replicate 15 (List.replicate 15 Fl.zero) else e.p, snaps := if z then [] else e.snaps })
  let s2 := s1.putB F.EST_GK_STATUS_ACTIVE (st == 4)
  if ev then s2.raise 64 else s2

/-- A numeric fault in the vessel track (R222, R229). [DEDUCED: log 173] -/
def State.vesselFault (s : State) : State := ((s.put F.EST_ERR_NUMFAULT 1).vesselTo 5 true).raise 65
/-- A numeric fault in a reference track. -/
def State.refFault (s : State) (i : Nat) : State :=
  ((s.put F.EST_ERR_NUMFAULT 1).modRef i (fun _ => { RefTrack.init0 with st := 4 })).raise 65
/-- A numeric fault in a target track. -/
def State.tgFault (s : State) (k : Nat) : State :=
  ((s.put F.EST_ERR_NUMFAULT 1).modTg k (fun _ => { TgTrack.init0 with st := 4 })).raise 65

/-- EST_REINIT (R229): the vessel track returns to WAITING. -/
def State.estReinit (s : State) : State := if s.est.st = 0 then s else s.vesselTo 1 true

/-- EST_REINIT (R229). -/
def execEstReinit (s : State) : Host.Outcome State Fault Refusal := .next (s.lanes fun s => s.estReinit)

/-- The vessel track carries a state (R229). -/
def State.vesselRuns (s : State) : Bool := 2 ≤ s.est.st && s.est.st ≤ 4

/-! ### Propagation of all tracks -/

/-- Acceleration of a GNSS-TC track at an instant, north-east-down in m/s²; none when it coasts (R224). -/
def State.tcAcc (s : State) (k t : Nat) : Option (List Fl) :=
  let n := s.refStream k
  if s.get (F.ALN_ST_STAT_STATE n) = 2 then
    match s.newestAt n t, s.attitude t with
    | some q, some a =>
      let r := (attMatrix a.psi a.theta a.phi).app (V3.ofInts (nth q.v 0 0) (nth q.v 1 0) (nth q.v 2 0))
      some ([r.x, r.y, r.z].map (fun v => v.div (Fl.ofInt 1000)))
    | _, _ => none
  else none

/-- Number of states of a GNSS-TC track (R224). -/
def State.tcDim (s : State) : Nat := 8 + (popcount 4 (s.get F.GNS_CTRL_SYS) - 1)

/-- A propagated track is sound (R222). -/
def Prop3.sound (r : Prop3) : Bool := r.p.sound && r.x.all (fun v => !v.bad)

/-- A reference track propagates from an instant `a` ns after the tick `base` (R225, R224); the bias of a LOST track is frozen. -/
def State.propRef (s : State) (base a ns i : Nat) : State :=
  let t := s.ref i
  if t.st = 2 ∨ t.st = 3 then
    let r := if t.st = 3 then { x := t.b, p := t.pb, phi := [] }
      else propFrom (fun _ => biasModel (refDim i) (s.refTb i) (s.refBiasSd i)) a ns t.b t.pb
    let mdl (u : Nat) : Model := match s.tcAcc i ((base + u) % 2 ^ 64) with
      | some acc => tcModel t.tc.x.length acc false
      | none => tcModel t.tc.x.length [Fl.zero, Fl.zero, Fl.zero] true
    let q := propFrom mdl a ns t.tc.x t.tc.p
    if r.sound && q.sound then s.modRef i (fun t => { t with b := r.x, pb := r.p, tc := ⟨q.x, q.p⟩ }) else s.refFault i
  else s

/-- A target track propagates (R227); one at host-set positions keeps them. -/
def State.propTg (s : State) (a ns k : Nat) : State :=
  let t := s.tg k
  if t.st = 2 ∧ s.flag (F.EST_TG_CFG_SRC k) = false then
    let r := propFrom (fun _ => targetModel (s.flag (F.EST_TG_CFG_TYPE k)) (Fl.ratio (s.get (F.EST_TG_QA_ACC k)) 1000)) a ns t.x t.p
    if r.sound then s.modTg k (fun t => { t with x := r.x, p := r.p }) else s.tgFault k
  else s

/-- Wraps the heading to -π ≤ ψ < π. -/
def wrapFl (x : Fl) : Fl :=
  let turns := ((x.div (flPi.scale 1)).add (Fl.mk' 1 (-1))).floor
  (x.sub ((Fl.ofInt turns).mul (flPi.scale 1))).r32
/-- A vessel state with its heading wrapped. -/
def wrapPsi (x : List Fl) : List Fl := setNth x 2 (wrapFl (nth x 2 Fl.zero))

/-- The vessel track propagates from an instant `a` ns after the tick `base`. -/
def State.vesselProp (s : State) (tau : List Fl) (base a ns : Nat) (x : List Fl) (p : Mat) : Prop3 :=
  propFrom (fun u => s.vesselModel tau ((base + u) % 2 ^ 64)) a ns x p

/-- The newest major tick at or before an instant, with the τ_T from there on (R214). -/
def State.tickBefore (s : State) (t : Nat) : Nat × List Fl :=
  (s.est.ticks.find? (fun p => decide (0 ≤ linDiff t p.1))).getD (t, s.est.tauNow)

/-- Every active track propagates to an instant of the same major frame (R217 step 4); the transition of the vessel track is
accumulated. -/
def State.estLeg (s : State) (t : Nat) (phi : Mat) : State × Mat :=
  match s.est.t with
  | none => (s.modEst (fun e => { e with t := some t }), phi)
  | some t0 =>
    let b := s.tickBefore t0
    let a := (linDiff t0 b.1).toNat
    let ns := (linDiff t t0).toNat
    let s1 := s.each (List.range 16) (fun s i => s.propRef b.1 a ns i)
    let s2 := s1.each (List.range 8) (fun s k => s.propTg a ns k)
    let s3 := s2.modEst (fun e => { e with t := some t })
    if s.vesselRuns then
      let r := s.vesselProp b.2 b.1 a ns s.est.x s.est.p
      if r.sound then (s3.modEst (fun e => { e with x := wrapPsi r.x, p := r.p }), Mat.mul r.phi phi) else (s3.vesselFault, phi)
    else (s3, phi)

/-- The snapshot of the vessel track at a major tick (R218): `phi` leads to it from the snapshot before. -/
def State.snapshot (s : State) (tick : Nat × List Fl) (phi : Mat) : State :=
  s.modEst (fun e => { e with
    snaps := if s.vesselRuns then (({ t := tick.1, x := e.x, p := e.p, tau := tick.2, phi := phi } : Snap) :: e.snaps).take 12 else [] })

/-- Every active track propagates to an instant, major frame by major frame (R214, R216, R220): a tick on the way, other than that
of the running frame, gets its snapshot. -/
def State.estProp (s : State) (t : Nat) (phi : Mat) : State × Mat :=
  let t0 := s.est.t.getD t
  let way := (s.est.ticks.filter (fun p => decide (0 < linDiff p.1 t0) && decide (0 ≤ linDiff t p.1) && p.1 != s.majTick)).reverse
  let r := way.foldl (fun acc p => let q := acc.1.estLeg p.1 acc.2; (q.1.snapshot p q.2, identM 15)) (s, phi)
  r.1.estLeg t r.2

/-! ### Origin -/

/-- A host write of the origin (R231): pending, or held within WIN + 1 major frames of a change; coordinates beyond ±90° of
latitude are discarded by the caller. [DEDUCED: log 169] -/
def State.originWrite (s : State) (lat lon : Option Int) : State :=
  let cur := (s.est.orgHeld.orElse (fun _ => s.est.orgPend)).getD (s.getI F.EST_ORIGIN_LAT_LAT, s.getI F.EST_ORIGIN_LON_LON)
  let new := (lat.getD cur.1, lon.getD cur.2)
  let win := max 1 (min 10 (s.get F.ALN_CTRL_WIN))
  let near := match s.est.orgAge with
    | some a => a < win + 1
    | none => false
  if near && s.est.orgPend.isNone then
    ((s.modEst (fun e => { e with orgHeld := some new })).put F.EST_ERR_ORIGIN_DEFER 1).put F.EST_STATUS_ORIGIN_PEND 1
  else (s.modEst (fun e => { e with orgPend := some new })).put F.EST_STATUS_ORIGIN_PEND 1

/-- The old origin expressed about the new one, m (R204, R231). -/
def originDelta (lat0 lon0 lat lon : Int) : List Fl :=
  let p := northEast lat0 lon0 lat lon
  [p.1.div (Fl.ofInt 1000), p.2.div (Fl.ofInt 1000), Fl.zero]

/-- EST_ORIGIN_CHANGE (R231): the pending origin takes effect for ALN and EST; Δ waits for step 1 of the next EST, and position
measurements projected before carry the old origin; event 66. -/
def State.originChange (s : State) : State :=
  match s.est.orgPend with
  | none => s
  | some (lat, lon) =>
    let d := originDelta (s.getI F.EST_ORIGIN_LAT_LAT) (s.getI F.EST_ORIGIN_LON_LON) lat lon
    let s1 := (s.putI F.EST_ORIGIN_LAT_LAT lat).putI F.EST_ORIGIN_LON_LON lon
    let mark (l : List Meas) : List Meas := l.map (fun q => if q.kind = 1 then { q with old := true } else q)
    let s2 := { s1 with
      est := { s1.est with orgPend := none, orgAge := some 0, orgDelta := some d, orgOld := d, defer := mark s1.est.defer }
      aln := { s1.aln with out := mark s1.aln.out } }
    (s2.putB F.EST_STATUS_ORIGIN_PEND s2.est.orgHeld.isSome).raiseMajor 66

/-- EST_ORIGIN_CHANGE (R231). -/
def execEstOriginChange (s : State) : Host.Outcome State Fault Refusal := .next (s.lanes fun s => s.originChange)

/-- ORIGIN_DEFER_EXPIRY (R231): the interval has passed and the held origin becomes pending. -/
def State.originDefer (s : State) : State :=
  let win := max 1 (min 10 (s.get F.ALN_CTRL_WIN))
  match s.est.orgHeld, s.est.orgAge with
  | some o, some a => if win + 1 ≤ a then s.modEst (fun e => { e with orgHeld := none, orgPend := some o }) else s
  | _, _ => s

/-- ORIGIN_DEFER_EXPIRY (R231). -/
def execOriginDeferExpiry (s : State) : Host.Outcome State Fault Refusal := .next (s.lanes fun s => s.originDefer)

/-- Step 1 of R217: Δ is added to the vessel track, the targets, the GNSS-TC tracks and the snapshots (R231), and to the last fixes
(log 175). -/
def State.originShift (s : State) : State :=
  match s.est.orgDelta with
  | none => s
  | some d =>
    let sh (x : List Fl) : List Fl := (vadd (x.take 2) d) ++ x.drop 2
    let sh3 (x : List Fl) : List Fl := (vadd (x.take 3) d) ++ x.drop 3
    let mm : List Int := (d.take 2).map (fun v => (v.mul (Fl.ofInt 1000)).rne)
    s.modEst (fun e => { e with
      orgDelta := none, fl := Nat.lor e.fl 8
      x := if s.vesselRuns then sh e.x else e.x
      tgs := e.tgs.map (fun t => { t with x := sh t.x })
      refs := e.refs.map (fun r => { r with
        tc := { r.tc with x := sh3 r.tc.x }, fix := if r.fix.length = 2 then (r.fix.zip mm).map (fun p => p.1 + p.2) else r.fix })
      snaps := e.snaps.map (fun q => { q with x := sh q.x }) })

end Sys2Proof.Machine
end

