-- ==== Sys2Proof/Machine/Frm.lean ====
section
/-! DEFINITION. The frame sequencer: stage windows (R42 to R45), utilisation (R52), overruns and stage faults (R54 to R61), start
(R65), forced overruns (R73). Stages are numbered under R72. -/

namespace Sys2Proof.Machine

open Sys2Proof

/-- Window of a stage, ns from its tick: minor stages from the minor tick, major ones from the major tick (R42, R45). -/
def stageWindow (k : Nat) : Nat × Nat :=
  match k with
  | 0 => (0, 60000) | 1 => (60000, 90000) | 2 => (90000, 150000) | 3 => (150000, 190000) | 4 => (190000, 230000)
  | 5 => (100000, 2600000) | 6 => (2600000, 4600000) | 7 => (4600000, 5100000) | _ => (5100000, 5600000)

/-- The tick a stage's window counts from, ns of the counter. -/
def State.stageTick (s : State) (k : Nat) : Nat := if k < 5 then s.now / 250000 * 250000 else s.now / 10000000 * 10000000

/-- A stage may start: the frames run, it has not run in this frame, the major stream does not wait (R65, R68, R69); no minor stage
runs in the frame that copies the lanes' state (R472), and without a lane only MIR does (R473, R479). -/
def State.stageFree (s : State) (k : Nat) : Bool :=
  s.framesOn && !bitOf s.frm.done k && (if k < 5 then !s.red.copy else !s.flag F.FRM_STATUS_MAJOR_WAIT) &&
    (k == 7 || s.get F.RED_STATUS_LANES != 0)

/-- Stages whose output of the running frame a stage consumes (R42, R46, R47). -/
def stageInputs (k : Nat) : List Nat :=
  match k with
  | 1 => [0] | 2 => [0] | 3 => [2] | 4 => [0, 1, 2, 3] | 5 => [1] | 6 => [5] | 7 => [5, 6] | _ => []
/-- Major stages whose result in effect a stage consumes: the estimator output and the allocation result (R42, R49). -/
def stageMajors (k : Nat) : List Nat :=
  match k with
  | 2 => [5, 6] | 3 => [6] | _ => []
/-- The stage consumes an output that is held (R55). -/
def State.heldIn (s : State) (k : Nat) : Bool :=
  (stageInputs k).any (fun j => bitOf s.frm.stale j) || (stageMajors k).any (fun j => bitOf s.frm.staleMaj j)

/-- A stage completes in its window (R52, R55, R57). -/
def State.stageDone (s : State) (k util : Nat) : State :=
  let f := s.frm
  let s1 := { s with frm := { f with
    done := setBit f.done k true, stale := setBit f.stale k false, staleIn := setBit f.staleIn k (s.heldIn k), utilMax := max f.utilMax util } }
  ((s1.put (F.FRM_STAGE_CONSEC k) 0).put (F.FRM_UTIL_LAST k) util).putMax (F.FRM_UTIL_MAX k) util

/-- A stage overruns (R54, R55, R57): it is stopped at the end of its window. Event 8 is raised there (R61). [DESIGN CHOICE: log 78] -/
def State.stageOver (s : State) (k : Nat) : State :=
  let f := s.frm
  let c := min 3 (s.get (F.FRM_STAGE_CONSEC k) + 1)
  let s1 := { s with frm := { f with
    done := setBit f.done k true, stale := setBit f.stale k true, running := setBit f.running k false, utilMax := 1000 } }
  let s2 := ((((s1.put (F.FRM_STAGE_CONSEC k) c).inc (F.FRM_STAGE_TOTAL k)).putBit F.FRM_OVR_STAGE k true).put (F.FRM_UTIL_LAST k) 1023).putMax
    (F.FRM_UTIL_MAX k) 1023
  let s3 := s2.raiseMinor 8
  if s.get (F.FRM_STAGE_CONSEC k) = 2 then
    { (s3.putBit F.FRM_FAULT_STAGE k true).raise 9 with red := { s3.red with faultSeen := setBit s3.red.faultSeen k false } }
  else s3

/-- The next execution of a stage is forced to overrun (R73). -/
def State.forcedOver (s : State) (k : Nat) : Bool :=
  s.flag F.FRM_INJECT_ARM && s.get F.FRM_INJECT_STAGE == k && decide (0 < s.frm.injectLeft)

/-- One forced overrun is used up (R73). -/
def State.injectUse (s : State) : State :=
  let n := s.frm.injectLeft - 1
  ({ s with frm := { s.frm with injectLeft := n } }).when (n == 0) (·.put F.FRM_INJECT_ARM 0)

/-- The end of a stage's window, ns of the counter. -/
def State.stageEnd (s : State) (k : Nat) : Nat := s.stageTick k + (stageWindow k).2

/-- A stage overruns at the end of its window, which the counter runs to inside the minor frame: what the block does, then the
bookkeeping. -/
def State.overrunAt (s : State) (k : Nat) (ovr : State → State) : State :=
  let live := bitOf s.frm.running k
  if live || (s.stageFree k && decide (s.now ≤ s.stageEnd k)) then
    let s1 := s.runInside (s.stageEnd k)
    if s.stageEnd k ≤ s1.now then (ovr (s1.when (!live && s1.forcedOver k) State.injectUse)).stageOver k else s
  else s

/-- A major stage that is forced to overrun runs until the end of its window (R73). -/
def State.overBegin (s : State) (k : Nat) : State :=
  let s1 := s.injectUse
  { s1 with frm := { s1.frm with done := setBit s1.frm.done k true, running := setBit s1.frm.running k true } }

/-- A stage command (R43, R54): the counter runs to the start of the window, and the work is done if the instant lies in the
window; a forced overrun takes its place. -/
def State.stage (s : State) (k util : Nat) (work ovr : State → State) : State :=
  if s.stageFree k then
    let t := s.stageTick k
    let w := stageWindow k
    let s1 := s.runInside (t + w.1)
    if t + w.1 ≤ s1.now ∧ s1.now ≤ t + w.2 then
      if s1.forcedOver k then (if k < 5 then s1.overrunAt k ovr else s1.overBegin k) else (work s1).stageDone k util
    else s
  else s

/-- FRM_CTRL.START (R65): waits for the first major tick with READY; no effect once the frames run (R67). -/
def State.frmStart (s : State) : State := if s.flag F.FRM_STATUS_RUNNING then s else s.put F.FRM_STATUS_STARTING 1

/-- FRM_START (R65). -/
def execFrmStart (s : State) : Host.Outcome State Fault Refusal := .next (s.lanes fun s => s.frmStart)

/-- The sequencer starts at a major tick (R65); event 11. -/
def State.sequencerStart (s : State) : State :=
  if s.flag F.FRM_STATUS_STARTING && s.ready then
    ((s.put F.FRM_STATUS_STARTING 0).put F.FRM_STATUS_RUNNING 1).raise 11
  else s

/-- SEQUENCER_START (R65): at an edge that is a major tick. -/
def execSequencerStart (s : State) : Host.Outcome State Fault Refusal :=
  .next (s.lanes fun s => if s.now % 10000000 * 2 ^ 32 + s.tim.ctr.sub < s.edgeStep then s.sequencerStart else s)

/-- A write of FRM_CTRL.HOLD (R64): at once; its release applies every pending value at the next major tick. -/
def State.frmHold (s : State) (hold : Bool) : State :=
  let rel := s.flag F.FRM_CTRL_HOLD && !hold
  { s with frm := { s.frm with releaseAll := !hold && (s.frm.releaseAll || rel) } }.putB F.FRM_CTRL_HOLD hold

/-- FRM_HOLD (R64). -/
def execFrmHold (hold : Bool) (s : State) : Host.Outcome State Fault Refusal := .next (s.lanes fun s => s.frmHold hold)

/-- A W1C write of FRM_FAULT (R59): the counter of a stage whose fault clears goes to 0. -/
def State.faultClear (s : State) (mask : Nat) : State :=
  s.each (List.range 9) (fun s k =>
    if bitOf mask k && s.bit F.FRM_FAULT_STAGE k then (s.putBit F.FRM_FAULT_STAGE k false).put (F.FRM_STAGE_CONSEC k) 0 else s)

/-- FRM_FAULT_CLEAR (R59). -/
def execFrmFaultClear (mask : BitVec 9) (s : State) : Host.Outcome State Fault Refusal := .next (s.lanes fun s => s.faultClear mask.toNat)

/-- FRM_INJECT takes a value with ARM set (R73): ARM clears at once when nothing is forced. -/
def State.injectSet (s : State) (stage count : Nat) : State :=
  let s1 := (s.put F.FRM_INJECT_STAGE stage).put F.FRM_INJECT_COUNT count
  if 9 ≤ stage ∨ count = 0 then { s1 with frm := { s1.frm with injectLeft := 0 } }.put F.FRM_INJECT_ARM 0
  else { s1 with frm := { s1.frm with injectLeft := count } }.put F.FRM_INJECT_ARM 1
/-- A write that sets FRM_INJECT.ARM (R73), at the tick that applies it: discarded while the module is In Command and in APPROVED
(R580). [DEDUCED: log 79] -/
def State.injectArm (s : State) (stage count : Nat) : State :=
  if s.inCommand || s.sec.lc == 3 then s else s.injectSet stage count

/-- FRM_INJECT_ARM (R73). -/
def execFrmInjectArm (stage : BitVec 4) (count : BitVec 2) (s : State) : Host.Outcome State Fault Refusal :=
  .next (s.lanes fun s => s.injectArm stage.toNat count.toNat)

end Sys2Proof.Machine
end

