-- ==== Sys2Proof/Machine/Cle.lean ====
section
/-! DEFINITION. The control engine (chapter 08): fixed-point sums (R274, R275), sections and PID (R276, R277), the shaper
(R271 to R273), the output stage (R278), path states and hand-over (R279 to R286), derived coefficients (R288, R289). -/

namespace Sys2Proof.Machine

open Sys2Proof

/-! ### Numbers -/

/-- A coefficient: C and σ, standing for C / 2^σ (R274). -/
abbrev Coef := Int × Nat
/-- A unit coefficient. -/
def one1 : Coef := (1, 0)
/-- C / 2^σ as a number. -/
def coefFl (c : Coef) : Fl := Fl.mk' c.1 (-(c.2 : Int))
/-- An error or difference as int32; outside it the value is free (R268). [DESIGN CHOICE: log 188] -/
def int32 (x : Int) : Int := if clampS 32 x = x then x else clampS 32 (Config.wideError x)
/-- Largest σ of R274, on fuel σ + 1. -/
def quantGo (c : Fl) : Nat → Option Coef
  | 0 => none
  | k + 1 =>
    let r := (c.scale k).rne
    if clampS 32 r = r then some (r, k) else quantGo c k
/-- A derived coefficient (R274); none fits: σ = 0 and saturated. -/
def quantise (c : Fl) : Coef × Bool := match quantGo c 32 with
  | some q => (q, false)
  | none => ((clampS 32 c.rne, 0), true)
/-- Whether a partial sum of R275 leaves Q41.31. -/
def accBad (acc : Int) : List Int → Bool
  | [] => false
  | t :: r => clampS 72 t != t || clampS 72 (acc + t) != acc + t || accBad (acc + t) r
/-- A product sum (R275): result and overflow. [DESIGN CHOICE: log 189] -/
def accum (l : List (Coef × Int)) : Int × Bool :=
  let ts := l.map (fun p => p.1.1 * p.2 * 2 ^ (31 - p.1.2))
  let sum := ts.foldl (· + ·) 0
  let y := shrRne sum 31
  let bad := accBad 0 ts || clampS 32 y != y
  (if !bad then y else if sum = 0 then clampS 32 Config.zeroSide else if 0 < sum then 2 ^ 31 - 1 else -(2 ^ 31), bad)
/-- A section: B0, B1, B2, A1, A2. -/
abbrev Section := List Coef
/-- Coefficient `i` of a section. -/
def Section.c (q : Section) (i : Nat) : Coef := nth q i (0, 0)
/-- One section (R276): its states, output, overflow. -/
def Section.run (q : Section) (st : List Int) (x : Int) : List Int × Int × Bool :=
  let g (i : Nat) : Int := nth st i 0
  let r := accum [(q.c 0, x), (q.c 1, g 0), (q.c 2, g 1), (q.c 3, -(g 2)), (q.c 4, -(g 3))]
  ([x, g 0, r.1, g 2], r.1, r.2)
/-- The path (R276): NSEC = 0 gives its input. -/
def runSections : List Section → List (List Int) → Int → List (List Int) × Int × Bool
  | [], st, x => (st, x, false)
  | q :: qs, st, x =>
    let r := q.run (nth st 0 [0, 0, 0, 0]) x
    let t := runSections qs (st.drop 1) r.2.1
    (r.1 :: t.1, t.2.1, r.2.2 || t.2.2)
/-- Settled output of a section (R282). -/
def Section.settled (q : Section) (x : Int) : Int :=
  let num := ((coefFl (q.c 0)).add (coefFl (q.c 1))).add (coefFl (q.c 2))
  let den := ((Fl.ofInt 1).add (coefFl (q.c 3))).add (coefFl (q.c 4))
  if den.isZero then 0 else clampS 32 (((num.div den).mul (Fl.ofInt x)).rne)
/-- Settled preset of the sections (R282). -/
def settleSections : List Section → List (List Int) → Int → List (List Int)
  | [], st, _ => st
  | q :: qs, st, x => let y := q.settled x; [x, x, y, y] :: settleSections qs (st.drop 1) y
/-- Remainder modulo one turn, 2^32. -/
def wrapTurn (x : Fl) : Fl := x.sub (Fl.ofInt ((x.scale (-32)).floor * 2 ^ 32))
/-- Difference as a signed half turn. -/
def wrapHalf (x : Fl) : Fl := (wrapTurn (x.add (Fl.ofInt (2 ^ 31)))).sub (Fl.ofInt (2 ^ 31))
/-- `u` blended at step `k` of `n` (R282). -/
def blendAt (k n : Nat) (old new : Int) : Int := divRne (((n : Int) - k) * old + k * new) n

/-! ### Slots and their words -/

/-- A slot's hidden state. -/
def State.loop (s : State) (n : Nat) : LoopSlot := nth s.cle.slots n LoopSlot.init
/-- Changes a slot. -/
def State.modLoop (s : State) (n : Nat) (f : LoopSlot → LoopSlot) : State := { s with cle := { s.cle with slots := modNth s.cle.slots n f } }
/-- Changes the mode unit. -/
def State.modMd (s : State) (f : ModeState → ModeState) : State := { s with cle := { s.cle with md := f s.cle.md } }
/-- The slots marked as DP axes (R264): SURGE, SWAY, YAW. -/
def State.dpSlots (s : State) : List Nat := [s.get F.CLE_DPAX_SURGE, s.get F.CLE_DPAX_SWAY, s.get F.CLE_DPAX_YAW]
/-- Axis a slot is marked as. -/
def State.dpAxis (s : State) (n : Nat) : Option Nat := (List.range 3).find? (fun a => nth s.dpSlots a 99 == n)
/-- N of a slot, in minor frames; 40 for a DP axis (R262, R264). -/
def State.loopDiv (s : State) (n : Nat) : Nat :=
  if (s.dpAxis n).isSome then 40 else min 4096 (max 1 (s.get (F.CLE_L_CFG_DIV n)))
/-- First word of a slot's memory. -/
def loopMem (n : Nat) : Nat := 0x720000 + 0x400 * n
/-- Output clamp in effect: OMIN above OMAX acts as OMAX (R278). -/
def State.outClamp (s : State) (n : Nat) : Int × Int :=
  let hi := s.getI (F.CLE_L_OMAX_VALUE n)
  (min (s.getI (F.CLE_L_OMIN_VALUE n)) hi, hi)
/-- Blend length K = ceil(HOT / T) (R282). -/
def State.blendLen (s : State) (n : Nat) : Nat :=
  let d := s.loopDiv n
  (4 * min 1000 (s.get (F.CLE_L_HOT_HOT n)) + d - 1) / d

/-- Derived coefficients: PID (KP, KI, KB, DA, DB) and main section (R288). -/
def State.loopTune (s : State) (n : Nat) : List Fl × List Fl :=
  let om := (flPi.mul (Fl.ofInt 20)).div (Fl.ofInt (max 1 (s.get (F.CLE_L_TUNE_PERIOD n)) : Nat))
  let z := Fl.ratio ((max 1 (s.get (F.CLE_L_TUNE_ZETA n)) : Nat) : Int) 100
  let t := Fl.ratio (s.loopDiv n) 4000
  let one := Fl.ofInt 1
  let two := Fl.ofInt 2
  let base := match s.dpAxis n with
    | none => [(two.mul z).mul om, (om.mul om).mul t, Fl.zero, Fl.zero]
    | some a =>
      let m := Mat.at' s.estM a a
      let d := Mat.at' s.estD a a
      let sc (x : Fl) : Fl := if a = 2 then (x.mul flPi).scale (-31) else x.div (Fl.ofInt 1000)
      let kp := (m.mul om).mul om
      let kd := Fl.max Fl.zero ((((two.mul z).mul om).mul m).sub d)
      let ki := (kp.mul om).div (Fl.ofInt 10)
      let tf := (Fl.ratio 1 10).div om
      let tt := tf.add t
      [sc kp, (sc ki).mul t, tf.div tt, (sc kd).div tt]
  let g (i : Nat) : Fl := nth base i Fl.zero
  let kb := Fl.min one (om.mul t)
  let kp := g 0; let ki := g 1; let da := g 2; let db := g 3
  ([kp, ki, kb, da, db],
   [kp.add db, (ki.sub (kp.mul (one.add da))).sub (db.scale 1), (da.mul (kp.sub ki)).add db, (one.add da).neg, da])

/-- Five coefficients as words, with their shifts. -/
def coefWords (l : List Fl) : List Nat :=
  let q := l.map (fun c => (quantise c).1)
  q.map (fun c => ofInt 32 c.1) ++ [(q.map Prod.snd).reverse.foldl (fun acc k => acc * 32 + k) 0]
/-- Words with their check code appended (R285). -/
def withChk (l : List Nat) : List Nat := l ++ [crc32c (wordBytes l)]
/-- Derived words of a bank (R288). -/
def State.derivedBank (s : State) (n : Nat) : List Nat :=
  withChk (1 :: coefWords (s.loopTune n).2 ++ List.replicate 56 0)
/-- Derived words of the PID set (R288). -/
def State.derivedPid (s : State) (n : Nat) : List Nat :=
  let c := s.outClamp n
  withChk (coefWords (s.loopTune n).1 ++ [ofInt 32 c.1, ofInt 32 c.2] ++ List.replicate 7 0)
/-- A derived coefficient that fits no σ (R274). -/
def State.deriveOvf (s : State) (n : Nat) : Bool := ((s.loopTune n).1 ++ (s.loopTune n).2).any (fun c => (quantise c).2)
/-- An expert word of a slot's memory as it reads (R30, R288), of its offset inside the slot. -/
def State.loopDerived (s : State) (n r : Nat) : Nat :=
  if r < 0x200 then nth (s.derivedBank n) (r % 0x100 / 4) 0 else nth (s.derivedPid n) ((r - 0x200) / 4) 0

/-- Words of a bank. -/
def State.bankWords (s : State) (n b : Nat) : List Nat := s.words (loopMem n + 0x100 * b) 64
/-- The check code of a bank matches (R285). -/
def State.bankOk (s : State) (n b : Nat) : Bool :=
  let w := s.bankWords n b
  !(s.loop n).mat || crc32c (wordBytes (w.take 63)) == nth w 63 0
/-- The check code of a PID set matches. -/
def pidOk (w : List Nat) : Bool := crc32c (wordBytes (w.take 15)) == nth w 15 0
/-- Five coefficients from their words and shifts. -/
def readCoefs (w : List Nat) : Section := (List.range 5).map (fun i => (toInt 32 (nth w i 0), bitsOf (nth w 5 0) (5 * i + 4) (5 * i)))
/-- Sections of a bank (R276): NSEC of 9 to 15 acts as 8. -/
def State.sections (s : State) (n b : Nat) : List Section :=
  let w := s.bankWords n b
  (List.range (min 8 (nth w 0 0 % 16))).map (fun j => readCoefs (w.drop (1 + 6 * j)))

/-- Writes the derived words into both banks and the staging copy, once (R34, R288). -/
def State.matLoop (s : State) (n : Nat) : State :=
  if (s.loop n).mat then s
  else
    let b := s.derivedBank n
    let p := s.derivedPid n
    ((((s.when (s.deriveOvf n) (fun s => (s.put (F.CLE_L_STAT_OVF n) 1).raiseMajor 83)).setWords (loopMem n) b).setWords
      (loopMem n + 0x100) b).setWords (loopMem n + 0x200) p).modLoop n (fun l => { l with mat := true, use := p })

/-- R289 at the slot's next execution: derived section into the inactive bank with a switch, derived PID set adopted. It waits while
a blend runs. [DEDUCED: log 186] -/
def State.retuneLoop (s0 : State) (n : Nat) : State :=
  let s := s0.matLoop n
  let l := s.loop n
  let dp := (s.dpAxis n).isSome && !s.expert 7 && s.derivedPid n != l.use
  if (l.retune || dp) && l.blend.isNone then
    let p := s.derivedPid n
    let ib := 1 - l.abank
    let s1 := (s.setWords (loopMem n + 0x100 * ib) (s.derivedBank n)).setWords (loopMem n + 0x200) p
    let s2 := if s.deriveOvf n then (s1.put (F.CLE_L_STAT_OVF n) 1).raiseMajor 83 else s1
    s2.modLoop n (fun l => if l.start || l.path == 0 then { l with retune := false, abank := ib, breq := none, use := p, adopt := none }
      else { l with retune := false, breq := some ib, adopt := some p })
  else s

/-! ### One execution -/

/-- What an execution takes from registers and inputs. -/
structure LoopIn where
  /-- Minor frames per execution. -/
  per : Nat
  /-- Target. -/
  r : Int
  /-- Angle slot (R268). -/
  angle : Bool
  /-- Process value, if valid; for the shaper's preset. -/
  pv : Option Fl
  /-- Error from the shaped set-point. -/
  err : Fl → Int
  /-- Feedforward (R278). -/
  ff : Int
  /-- Manual demand and its source (R293). -/
  man : Option (Int × Nat)
  /-- V, A, J. -/
  lim : Nat × Nat × Nat
  /-- Output clamp and ORATE. -/
  out : Int × Int × Nat
  /-- K. -/
  k : Nat
  /-- SATT. -/
  satt : Nat
  /-- CFG.START: the PID path. -/
  startPid : Bool
  /-- Sections of the two banks. -/
  banks : List (List Section)
  /-- The requested bank passes its check. -/
  reqOk : Bool

/-- A slot and the events and errors its execution made: event numbers, 1 for CLE_ERR.CHK, 2 for BUSY. -/
abbrev LoopRun := LoopSlot × List Nat

/-- One step of the law of R271 with V, A and J over a number of minor frames, from a state (s, v, a) towards r: the new state and
LIMITED (R272). A or J of 0 acts as 2^32 - 1. -/
def shaperStep (angle : Bool) (lim : Nat × Nat × Nat) (per : Nat) (r sp0 v0 a0 : Fl) : Fl × Fl × Fl × Bool :=
  let big (x : Nat) : Fl := Fl.ofInt (if x = 0 then 2 ^ 32 - 1 else (x : Int))
  let vm := Fl.ofInt lim.1
  let am := big lim.2.1
  let jm := big lim.2.2
  let t := Fl.ratio per 4000
  let diff (x : Fl) : Fl := if angle then wrapHalf (r.sub x) else r.sub x
  let sg (x : Fl) : Fl := Fl.ofInt x.sign
  let e := diff sp0
  let h := am.div (jm.scale 1)
  let vb := am.mul ((((h.mul h).add ((e.abs.scale 1).div am)).sqrt).sub h)
  let vt := (sg e).mul (Fl.min vm vb)
  let dv := vt.sub v0
  let at' := (sg dv).mul (Fl.min am (((jm.scale 1).mul dv.abs).sqrt))
  let jt := jm.mul t
  let a := a0.add (Fl.clamp jt.neg jt (at'.sub a0))
  let v := Fl.clamp vm.neg vm (v0.add (a.mul t))
  let s0 := sp0.add (v.mul t)
  let s := if angle then wrapTurn s0 else s0
  let half : Fl := ⟨1, -1, false⟩
  if (diff s).abs.lt half && (v.abs.mul t).lt half && ((a.abs.mul t).mul t).lt half then (r, Fl.zero, Fl.zero, false)
  else (s, v, a, vm.le v.abs || am.le a.abs)

/-- The shaper's state moves (R271 to R273); a slot that was on a manual axis presets it as it becomes automatic (R295). -/
def LoopSlot.shape (l : LoopSlot) (i : LoopIn) : LoopSlot :=
  let r := if i.angle then Fl.ofInt (i.r % 2 ^ 32) else Fl.ofInt i.r
  if (l.preset || l.src.isSome) && i.pv.isSome then { l with sp := i.pv.getD Fl.zero, v := Fl.zero, a := Fl.zero, preset := false, lim := false }
  else if i.lim.1 = 0 then { l with sp := r, v := Fl.zero, a := Fl.zero, lim := false }
  else
    let q := shaperStep i.angle i.lim i.per r l.sp l.v l.a
    { l with sp := q.1, v := q.2.1, a := q.2.2.1, lim := q.2.2.2 }

/-- Coefficients of the PID set in use: KP, KI, KB, DA, DB. -/
def LoopSlot.pid (l : LoopSlot) : Section := readCoefs l.use
/-- IMIN and IMAX in use; IMAX prevails (R277). -/
def LoopSlot.iClamp (l : LoopSlot) (x : Int) : Int := min (toInt 32 (nth l.use 7 0)) (max (toInt 32 (nth l.use 6 0)) x)

/-- Slot enters HELD (R279). -/
def LoopSlot.hold (r : LoopRun) : LoopRun := ({ r.1 with path := 5, blend := none }, r.2 ++ [84])
/-- Preset of the PID path (R281), from the last released output; `fade` false at the start (R287). -/
def LoopSlot.toPid (r : LoopRun) (i : LoopIn) (e : Int) (fade : Bool) : LoopRun :=
  let l := r.1
  if l.pidf then LoopSlot.hold r
  else
    let p := (accum [(l.pid.c 0, e)]).1
    let want := l.u - p - i.ff
    let got := l.iClamp want
    let l1 := { l with d := 0, ep := e, i := got, toMain := false }
    if fade && (got != want || (l.pid.c 1).1 == 0) && decide (0 < i.k) then
      ({ l1 with path := 2, blend := some ⟨0, 0, i.k, l.u⟩ }, r.2)
    else ({ l1 with path := 3, blend := none }, r.2)
/-- The main path takes over (R279, R280): the cause is forgotten. -/
def LoopSlot.onMain (r : LoopRun) : LoopRun := ({ r.1 with path := 1, cause := 0, satMain := 0 }, r.2)
/-- Settled preset of a bank (R282). -/
def LoopSlot.settle (l : LoopSlot) (i : LoopIn) (b : Nat) (e : Int) : LoopSlot :=
  { l with x := modNth l.x b (fun st => settleSections (nth i.banks b []) st e) }
/-- Return to the main path from a held output (R270, R282, R284). -/
def LoopSlot.toMainHeld (r : LoopRun) (i : LoopIn) (e : Int) (fade : Bool) : LoopRun :=
  let l := r.1.settle i r.1.abank e
  LoopSlot.onMain ({ l with blend := if fade && decide (0 < i.k) then some ⟨3, 0, i.k, l.u⟩ else none }, r.2)
/-- A blend ends in its target state (R282, R286). -/
def LoopSlot.endBlend (r : LoopRun) : LoopRun :=
  match r.1.blend with
  | none => r
  | some b =>
    let l := { r.1 with blend := none }
    match b.kind with
    | 0 => ({ l with path := 3 }, r.2)
    | 1 => LoopSlot.onMain (l, r.2 ++ [81])
    | 2 => ({ l with abank := 1 - l.abank }, r.2)
    | _ => (l, r.2)

/-- A pending trigger acts (R280, R286); `e` is none where no preset can be made yet (R270, R293). [DEDUCED: log 181 and 183 and 184] -/
def LoopSlot.fallback (r : LoopRun) (i : LoopIn) (e : Option Int) : LoopRun :=
  match r.1.trig with
  | none => r
  | some c =>
    let l := { r.1 with trig := none }
    if l.path = 1 ∨ l.path = 4 then
      let bank := match l.blend with | some b => if b.kind = 2 then 1 - l.abank else l.abank | none => l.abank
      let l1 := { l with abank := bank, blend := none, toMain := false, cause := if l.cause = 0 then c else l.cause, satMain := 0 }
      let ev := r.2 ++ [80]
      match e with
      | some x => LoopSlot.toPid (l1, ev) i x true
      | none => if l1.pidf then LoopSlot.hold (l1, ev) else ({ l1 with path := 3, back := true }, ev)
    else (l, r.2)

/-- A requested bank (R285, R286). [DEDUCED: log 185] -/
def LoopSlot.bankSwitch (r : LoopRun) (i : LoopIn) (e : Option Int) : LoopRun :=
  match r.1.breq with
  | none => r
  | some b =>
    let l := { r.1 with breq := none }
    if b = l.abank then (l, r.2)
    else if !i.reqOk then (l, r.2 ++ [1])
    else if l.path = 1 ∧ l.blend.isNone then
      match e with
      | none => ({ l with abank := b }, r.2)
      | some x =>
        let l1 := l.settle i b x
        if i.k = 0 then ({ l1 with abank := b }, r.2) else ({ l1 with blend := some ⟨2, 0, i.k, l.u⟩ }, r.2)
    else if l.path = 1 ∨ l.path = 4 then (l, r.2 ++ [2])
    else ({ l with abank := b }, r.2)

/-- Output clamp and rate limit (R278, steps 2 and 3): value and OSAT. [DEDUCED: log 190] -/
def LoopIn.limit (i : LoopIn) (prev w : Int) : Int × Bool :=
  let c := min i.out.2.1 (max i.out.1 w)
  let m : Int := i.out.2.2 * i.per
  let u := if i.out.2.2 = 0 then c
    else if m < (c - prev) * 4000 then prev + divRne m 4000
    else if m < (prev - c) * 4000 then prev - divRne m 4000
    else c
  (u, c != w || u != c)

/-- The saturation trigger (R280, cause 1). -/
def LoopSlot.satTrigger (l : LoopSlot) (satt : Nat) : LoopSlot :=
  if 0 < satt ∧ satt ≤ l.satMain ∧ l.path = 1 ∧ l.trig.isNone then { l with trig := some 1 } else l

/-- A blend whose count has reached K ends (R282). -/
def LoopSlot.blendDone (r : LoopRun) : LoopRun :=
  match r.1.blend with
  | some b => if b.n ≤ b.k then LoopSlot.endBlend r else r
  | none => r

/-- The paths, the blend, the output stage and the integrator (R276 to R278, R282, R283). -/
def LoopSlot.compute (r : LoopRun) (i : LoopIn) (e : Int) : LoopRun :=
  let l := r.1
  if l.path = 5 then ({ l with osat := false, sat := 0, satMain := 0, um := 0, up := 0 }, r.2)
  else
    let ks := l.pid
    let usePid := l.path = 2 ∨ l.path = 3 ∨ l.path = 4
    let useMain := l.path = 1 ∨ l.path = 4
    let p := accum [(ks.c 0, e)]
    let d := accum [(ks.c 3, l.d), (ks.c 4, e - l.ep)]
    let w := accum [(one1, p.1), (one1, l.i), (one1, d.1), (one1, i.ff)]
    let m := runSections (nth i.banks l.abank []) (nth l.x l.abank []) e
    let other := 1 - l.abank
    let fading := match l.blend with | some b => b.kind == 2 | none => false
    let m2 := runSections (nth i.banks other []) (nth l.x other []) e
    let add (y : Int) : Int × Bool := accum [(one1, y), (one1, i.ff)]
    let ym := add m.2.1
    let yn := add m2.2.1
    let mainOvf := (decide useMain && (m.2.2 || ym.2)) || (fading && (m2.2.2 || yn.2))
    let pidOvf := decide usePid && (p.2 || d.2 || w.2)
    let x1 := if useMain then setNth l.x l.abank m.1 else l.x
    let x2 := if fading then setNth x1 other m2.1 else x1
    let val : Int := match l.blend with
      | none => if useMain then ym.1 else w.1
      | some b =>
        let k := b.k + 1
        match b.kind with
        | 0 => blendAt k b.n b.old w.1
        | 1 => blendAt k b.n w.1 ym.1
        | 2 => blendAt k b.n ym.1 yn.1
        | _ => blendAt k b.n b.old ym.1
    let o := if mainOvf then (l.u, false) else i.limit l.u val
    let it := accum [(one1, l.i), (ks.c 1, e), (ks.c 2, o.1 - w.1)]
    let ovf := mainOvf || pidOvf || (decide usePid && it.2)
    let l1 := { l with x := x2, u := o.1, osat := o.2, sat := if o.2 then satInc 65535 l.sat else 0
                       satMain := if o.2 && l.path == 1 then l.satMain + 1 else 0
                       um := if useMain then m.2.1 else 0, up := if usePid then w.1 else 0
                       trig := if mainOvf && l.trig.isNone then some 3 else l.trig
                       blend := l.blend.map (fun b => if mainOvf then b else { b with k := b.k + 1 }) }
    let l2 := if usePid then { l1 with i := l1.iClamp it.1, d := d.1, ep := e } else l1
    LoopSlot.blendDone (l2.satTrigger i.satt, r.2 ++ (if ovf then [83] else []))

/-- A manual axis (R293, R294). -/
def LoopSlot.manual (r0 : LoopRun) (i : LoopIn) (dem : Int) (src : Nat) : LoopRun :=
  let l0 := { r0.1 with sp := i.pv.getD Fl.zero, v := Fl.zero, a := Fl.zero, lim := false, preset := false, inv := false, back := true, toMain := false }
  let r := LoopSlot.endBlend (l0, r0.2)
  let trig := match r.1.trig with | some 1 => none | some 3 => none | t => t
  let r1 := LoopSlot.bankSwitch (LoopSlot.fallback ({ r.1 with trig := trig }, r.2) i none) i none
  let l := r1.1
  let man := if l.src = some src then l.man else if l.start || i.k == 0 then none else some ⟨0, 0, i.k, l.u⟩
  let v := match man with | some b => blendAt (b.k + 1) b.n b.old dem | none => dem
  let o := i.limit l.u v
  ({ l with u := o.1, osat := o.2, sat := if o.2 then satInc 65535 l.sat else 0, satMain := 0, um := 0, up := 0, src := some src
            man := man.bind (fun b => if b.n ≤ b.k + 1 then none else some { b with k := b.k + 1 }) }, r1.2)

/-- One execution of a slot (R270 to R287). -/
def LoopSlot.run (l0 : LoopSlot) (i : LoopIn) : LoopRun :=
  let st := l0.start
  let l1 := if st then
      { l0 with u := 0, i := 0, d := 0, ep := 0, x := List.replicate 2 (List.replicate 8 [0, 0, 0, 0]), path := if i.startPid then 3 else 1
                abank := match l0.breq with | some b => if i.reqOk then b else l0.abank | none => l0.abank }
    else l0
  match i.man with
  | some m =>
    let l := match l1.adopt with | some w => { l1 with use := w, adopt := none, pidf := false } | none => l1
    let r := LoopSlot.manual (l, []) i m.1 m.2
    ({ r.1 with start := false, e := 0 }, r.2)
  | none =>
    let l2 : LoopSlot := { l1.shape i with src := none, man := none }
    let e := i.err l2.sp
    let l3 := { l2 with e := if i.pv.isSome then e else l2.e }
    let needBack := l3.back
    let r0 : LoopRun := match l3.adopt with
      | some w =>
        let l : LoopSlot := { l3 with use := w, adopt := none, pidf := false }
        if l.path = 3 && !st && !needBack && i.pv.isSome then LoopSlot.toPid (l, []) i e true else (l, [])
      | none => (l3, [])
    let r1 := if r0.1.pidf && (r0.1.path == 2 || r0.1.path == 3 || r0.1.path == 4) then LoopSlot.hold r0 else r0
    if i.pv.isNone then
      let r2 := LoopSlot.bankSwitch (LoopSlot.fallback (LoopSlot.endBlend r1) i none) i none
      ({ r2.1 with inv := true, back := true, osat := false, sat := 0, satMain := 0, um := 0, up := 0 }, r2.2 ++ [85])
    else
      let l4 : LoopSlot := { r1.1 with inv := false, back := false, start := false }
      let r2 : LoopRun :=
        if st || needBack then
          if l4.path = 3 then LoopSlot.toPid (l4, r1.2) i e (!st)
          else if l4.path = 1 then LoopSlot.toMainHeld (l4, r1.2) i e (!st)
          else (l4, r1.2)
        else (l4, r1.2)
      let r3 := LoopSlot.fallback r2 i (some e)
      let r4 := match r3.1.restart with
        | some b =>
          let l := { r3.1 with restart := none }
          if l.path = 5 then (if b then LoopSlot.toPid (l, r3.2) i e true else LoopSlot.toMainHeld (l, r3.2) i e true) else (l, r3.2)
        | none => r3
      let r5 : LoopRun :=
        if r4.1.toMain then
          let l := { r4.1 with toMain := false }
          if l.path = 3 then
            let l5 := l.settle i l.abank e
            if i.k = 0 then LoopSlot.onMain (l5, r4.2 ++ [81]) else ({ l5 with path := 4, blend := some ⟨1, 0, i.k, l.u⟩ }, r4.2)
          else (l, r4.2)
        else r4
      LoopSlot.compute (LoopSlot.bankSwitch r5 i (some e)) i e

/-- Events and errors of an execution (R290). -/
def State.loopEvents (s : State) (n : Nat) (ev : List Nat) : State :=
  s.each ev (fun s k =>
    if k = 1 then s.put F.CLE_ERR_CHK 1
    else if k = 2 then s.put F.CLE_ERR_BUSY 1
    else if k = 83 then (s.put (F.CLE_L_STAT_OVF n) 1).raiseMajor 83
    else if k = 80 ∨ k = 85 then s.raiseMajor k
    else s.raise k)

/-- The blend that runs in a slot: of its paths, or of a manual demand (R282, R294). -/
def LoopSlot.anyBlend (l : LoopSlot) : Option Blend := l.blend.orElse (fun _ => l.man)
/-- A slot is an angle slot (R267 to R269). -/
def State.loopAngle (s : State) (n : Nat) : Bool :=
  match s.dpAxis n with
  | some a => a == 2
  | none => s.flag (F.CLE_L_CFG_ANGLE n) || (s.get (F.CLE_L_CFG_INSEL n) == 2 && s.get (F.CLE_L_CFG_INDEX n) == 2)

/-- OUT, STAT and the state words of a slot (R266). -/
def State.publishLoop (s : State) (n : Nat) : State :=
  let l := s.loop n
  let left := match l.anyBlend with | some b => b.n - b.k | none => 0
  let fade := match l.blend with | some b => b.kind == 2 | none => false
  let ovf := s.get (F.CLE_L_STAT_OVF n)
  let st := l.path + 8 * l.abank + 16 * l.cause + 2 ^ 8 * b2n l.lim + 2 ^ 9 * b2n l.osat + 2 ^ 10 * b2n l.inv + 2 ^ 11 * ovf + 2 ^ 12 * b2n l.chkf +
    2 ^ 13 * b2n l.pidf + 2 ^ 14 * b2n fade + 2 ^ 16 * min 65535 left
  let w (x : Int) : Nat := ofInt 32 (clampS 32 x)
  let sp := if s.loopAngle n then ofInt 32 l.sp.rne else w l.sp.rne
  ((s.setWord (F.CLE_L_STAT_PATH n).off st).putI (F.CLE_L_OUT_VALUE n) l.u).setWords (F.CLE_L_SHP_VALUE n).off
    [sp, w l.v.rne, w l.e, w l.i, w l.d, w l.um, w l.up, l.sat]

/-- The summary of the slots: CLE_STATUS and the path map. -/
def State.cleSummary (s : State) : State :=
  let pid := s.cle.slots.map (fun l => l.path == 2 || l.path == 3)
  let cnt (p : LoopSlot → Bool) : Nat := (s.cle.slots.filter p).length
  let s1 := ((s.put F.CLE_STATUS_NPID (cnt (fun l => l.path == 2 || l.path == 3))).put F.CLE_STATUS_NBLEND (cnt (fun l => l.anyBlend.isSome))).put
    F.CLE_STATUS_NHELD (cnt (fun l => l.path == 5))
  (s1.put F.CLE_PID_LO_MAP (maskOf (pid.take 32))).put F.CLE_PID_HI_MAP (maskOf (pid.drop 32))

/-- The registers of a slot as an execution takes them. -/
def State.loopIn (s : State) (n : Nat) : LoopIn :=
  let l := s.loop n
  let c := s.outClamp n
  { per := s.loopDiv n, r := s.getI (F.CLE_L_SP_TARGET n), angle := s.flag (F.CLE_L_CFG_ANGLE n), pv := none, err := fun _ => 0, ff := 0, man := none
    lim := (s.get (F.CLE_L_RATE_LIM n), s.get (F.CLE_L_ACC_LIM n), s.get (F.CLE_L_JERK_LIM n)), out := (c.1, c.2, s.get (F.CLE_L_ORATE_LIM n))
    k := s.blendLen n, satt := s.get (F.CLE_L_HOT_SATT n), startPid := s.flag (F.CLE_L_CFG_START n)
    banks := [s.sections n 0, s.sections n 1], reqOk := match l.breq with | some b => s.bankOk n b | none => true }

/-- Process value of a slot that is not a DP axis (R267): value, and whether it is an angle. -/
def State.loopPv (s : State) (n : Nat) : Option Int × Bool :=
  let k := s.get (F.CLE_L_CFG_INDEX n)
  let ang := s.loopAngle n
  match s.get (F.CLE_L_CFG_INSEL n) with
  | 1 => (if k < 96 && s.flag (F.SIG_S_STAT_VALID k) then some (s.getI (F.SIG_S_VAL_VALUE k)) else none, ang)
  | 2 =>
    let ok := k < 9 && bitOf (s.word 0x61000C) 8
    (if ok then some (toInt 32 (s.word (0x610010 + 4 * k))) else none, ang)
  | _ => (none, ang)

/-- The bank left behind by the last switch takes the active bank's words, where the change to expert level asked for it (R34). -/
def State.evenBanks (s : State) (n : Nat) : State :=
  let l := s.loop n
  if l.even && l.blend.isNone && l.breq.isNone && !l.retune then
    (s.setWords (loopMem n + 0x100 * (1 - l.abank)) (s.bankWords n l.abank)).modLoop n (fun l => { l with even := false })
  else s
/-- Runs a slot with its inputs. -/
def State.runLoop (s0 : State) (n : Nat) (f : State → LoopIn → LoopIn) : State :=
  let s := s0.retuneLoop n
  let r := (s.loop n).run (f s (s.loopIn n))
  ((s.modLoop n (fun _ => r.1)).loopEvents n r.2).evenBanks n

/-- One execution of a slot that is not a DP axis (R267, R268). -/
def State.ctlSlot (s : State) (n : Nat) : State :=
  let pv := s.loopPv n
  (s.runLoop n (fun _ i =>
    { i with
      angle := pv.2, pv := pv.1.map (fun x => if pv.2 then Fl.ofInt (x % 2 ^ 32) else Fl.ofInt x)
      err := fun sp =>
        let p := pv.1.getD 0
        if pv.2 then toInt 32 (ofInt 32 (sp.rne - p)) else int32 (clampS 32 sp.rne - p) })).publishLoop n

/-- Slots due in a minor frame (R262, R264). -/
def State.ctlDue (s : State) : List Nat :=
  let c := s.minTick / 250000
  (List.range 48).filter (fun n => s.flag (F.CLE_L_CFG_EN n) && (s.dpAxis n).isNone && c % s.loopDiv n == s.get (F.CLE_L_SEL_PHASE n) % s.loopDiv n)

/-- The CTL stage (R56, R262): due slots in ascending order; OUT and STAT change at minor tick + 150 µs (R266). -/
def State.ctlWork (s : State) : State :=
  ((s.runInside (s.stageTick 2 + 150000)).each s.ctlDue State.ctlSlot).cleSummary

/-- A trigger for the slot's next execution; the first one waits (R280). -/
def State.trigLoop (s : State) (n c : Nat) : State := s.modLoop n (fun l => { l with trig := some (l.trig.getD c) })

/-- CTL overruns after `done` of its due slots (R56); a stage fault is trigger 6 for every slot, and voids a request of the main path
that came before it (R58). [DESIGN CHOICE: log 191] -/
def State.ctlOver (done : Nat) (s : State) : State :=
  let due := s.ctlDue
  let s1 := (s.each (due.take done) State.ctlSlot).each (due.drop done) (fun s n => s.trigLoop n 4)
  let s2 := if s.get (F.FRM_STAGE_CONSEC 2) = 2 then
      s1.each (List.range 48) (fun s n => if (s.loop n).path = 0 then s else (s.trigLoop n 6).modLoop n (fun l => { l with toMain := false }))
    else s1
  s2.cleSummary

/-- CTL_STAGE (R262). -/
def execCtlStage (util : Fin 1001) (s : State) : Host.Outcome State Fault Refusal := .next (s.lanes fun s => s.stage 2 util State.ctlWork (State.ctlOver 0))

/-- The continuous check of one slot in SUP (R285). [DEDUCED: log 180] -/
def State.cleCheck (s : State) : State :=
  let n := s.minTick / 250000 % 48
  let l := s.loop n
  if !l.mat then s
  else
    let bad := !s.bankOk n l.abank
    let pbad := !pidOk l.use
    let s1 := if (bad && !l.chkf) || (pbad && !l.pidf) then s.raise 82 else s
    let s2 := s1.modLoop n (fun l => { l with chkf := bad, pidf := pbad })
    let s3 := if bad && l.path != 0 then s2.trigLoop n 2 else s2
    (s3.putB (F.CLE_L_STAT_CHKF n) bad).putB (F.CLE_L_STAT_PIDF n) pbad

/-! ### Commands and writes -/

/-- CMD.PID (R280, cause 5); refused while the slot is OFF (R284). [DEDUCED: log 182] -/
def State.cmdPid (s : State) (n : Nat) : State := if (s.loop n).path = 0 then s.put F.CLE_ERR_REFUSED 1 else s.trigLoop n 5
/-- CMD.MAIN (R284, R286). -/
def State.cmdMain (s : State) (n : Nat) : State :=
  let l := s.loop n
  if l.path = 2 then s.put F.CLE_ERR_BUSY 1
  else if l.path != 3 || s.bit F.FRM_FAULT_STAGE 2 || !s.bankOk n l.abank then s.put F.CLE_ERR_REFUSED 1
  else s.modLoop n (fun l => { l with toMain := true })
/-- CMD.RESTART (R284). -/
def State.cmdRestart (s : State) (n : Nat) : State :=
  let l := s.loop n
  if l.path != 5 then s.put F.CLE_ERR_REFUSED 1
  else if !l.pidf then s.modLoop n (fun l => { l with restart := some true })
  else if s.bankOk n l.abank then s.modLoop n (fun l => { l with restart := some false })
  else s.put F.CLE_ERR_REFUSED 1
/-- CMD.PRESET (R273); refused while the slot is OFF (R284). -/
def State.cmdPreset (s : State) (n : Nat) : State :=
  if (s.loop n).path = 0 then s.put F.CLE_ERR_REFUSED 1 else s.modLoop n (fun l => { l with preset := true })
/-- A write of CLE_L_n_CMD (R286: PID and MAIN in one write are both discarded). -/
def State.loopCmd (s : State) (n v : Nat) : State :=
  let s1 := if bitOf v 0 && bitOf v 1 then s.put F.CLE_ERR_BUSY 1
    else (s.when (bitOf v 0) (·.cmdPid n)).when (bitOf v 1) (·.cmdMain n)
  (s1.when (bitOf v 2) (·.cmdRestart n)).when (bitOf v 3) (·.cmdPreset n)

/-- CMD_PID (R280). [DEDUCED: log 13] -/
def execCmdPid (n : Fin 48) (s : State) : Host.Outcome State Fault Refusal := .next (s.lanes fun s => s.loopCmd n 1)
/-- CMD_MAIN (R284). -/
def execCmdMain (n : Fin 48) (s : State) : Host.Outcome State Fault Refusal := .next (s.lanes fun s => s.loopCmd n 2)
/-- CMD_RESTART (R284). -/
def execCmdRestart (n : Fin 48) (s : State) : Host.Outcome State Fault Refusal := .next (s.lanes fun s => s.loopCmd n 4)
/-- CMD_PRESET (R273). -/
def execCmdPreset (n : Fin 48) (s : State) : Host.Outcome State Fault Refusal := .next (s.lanes fun s => s.loopCmd n 8)

/-- A write of SEL.BANK (R285): a bank other than the active one is requested for the next execution. -/
def State.bankAsk (s : State) (n b : Nat) : State :=
  (s.put (F.CLE_L_SEL_BANK n) b).modLoop n (fun l => { l with breq := if b = l.abank then none else some b })
/-- CLE_BANK_SWITCH (R285). -/
def execCleBankSwitch (n : Fin 48) (bank : Fin 2) (s : State) : Host.Outcome State Fault Refusal := .next (s.lanes fun s => s.bankAsk n bank)

/-- A write of PIDCHK (R285): the staging copy is adopted at the next execution, or the write is refused. -/
def State.pidCommit (s0 : State) (n v : Nat) : State :=
  let s := s0.matLoop n
  let w := s.words (loopMem n + 0x200) 15
  if crc32c (wordBytes w) = v then (s.put (F.CLE_L_PIDCHK_CRC n) v).modLoop n (fun l => { l with adopt := some (w ++ [v]) })
  else s.put F.CLE_ERR_CHK 1
/-- CLE_PIDCHK_COMMIT (R285), the write of PIDCHK as the tick takes it; at basic level the access is refused (R30). -/
def execClePidchkCommit (port : Fin 2) (n : Fin 48) (val : Word) (s : State) : Host.Outcome State Fault Refusal :=
  .next (s.lanes fun s => if s.expert 7 then s.pidCommit n val.toNat else s.accErr F.GLB_ACCERR_LEVEL port (F.CLE_L_PIDCHK_CRC n).off)

/-- OSAT_SATURATION_COUNT (R280). -/
def execOsatSaturationCount (n : Fin 48) (s : State) : Host.Outcome State Fault Refusal :=
  .next (s.lanes fun s => s.modLoop n (fun l => l.satTrigger (s.get (F.CLE_L_HOT_SATT n))))

/-- BLEND_COMPLETE (R282). -/
def execBlendComplete (n : Fin 48) (s : State) : Host.Outcome State Fault Refusal :=
  .next (s.lanes fun s =>
    let r := LoopSlot.blendDone (s.loop n, [])
    (s.modLoop n (fun _ => r.1)).loopEvents n r.2)

/-- A write of CLE_L_n_CFG (R279, R287, R289). -/
def State.loopCfgApply (s : State) (n v : Nat) : State :=
  let was := s.flag (F.CLE_L_CFG_EN n)
  let div := s.get (F.CLE_L_CFG_DIV n)
  let s1 := s.setWord (F.CLE_L_CFG_EN n).off v
  let now := s1.flag (F.CLE_L_CFG_EN n)
  let s2 := if s1.get (F.CLE_L_CFG_DIV n) != div && !s.expert 7 && (s.dpAxis n).isNone then s1.modLoop n (fun l => { l with retune := true }) else s1
  let clear (l : LoopSlot) : LoopSlot :=
    { l with path := 0, blend := none, man := none, src := none, trig := none, toMain := false, restart := none, back := false, inv := false, cause := 0 }
  if was && !now then ((s2.modLoop n clear).publishLoop n).cleSummary
  else if !was && now then s2.modLoop n (fun l => { clear l with start := true, preset := true })
  else s2

/-- A write into a slot's coefficient memory (R285, R289, R30): `r` is the offset inside the slot. -/
def State.loopMemApply (s0 : State) (n r v : Nat) : State :=
  let off := loopMem n + r
  if r < 0x240 then
    if !s0.expert 7 then s0
    else
      let s := s0.matLoop n
      if r < 0x200 then (if r / 0x100 = (s.loop n).abank then s.put F.CLE_ERR_CHK 1
        else (s.setWord off v).modLoop n (fun l => { l with even := l.even && l.blend.isSome }))
      else if r = 0x23C then s.pidCommit n v
      else s.setWord off v
  else
    let s1 := s0.setWord off v
    if (r = 0x24C ∨ r = 0x250 ∨ r = 0x25C) ∧ s0.word off ≠ v ∧ s0.expert 7 = false then s1.modLoop n (fun l => { l with retune := true }) else s1

/-- A write of CLE_DPAX (R264): values above 47 keep the old slot; one that names a slot twice is discarded. A newly marked slot
starts as on enable. -/
def State.dpaxWrite (s : State) (v : Nat) : State :=
  let old := s.dpSlots
  let pick (x y : Nat) : Nat := if x ≤ 47 then x else y
  let a := pick (bitsOf v 5 0) (nth old 0 0)
  let b := pick (bitsOf v 13 8) (nth old 1 0)
  let c := pick (bitsOf v 21 16) (nth old 2 0)
  if a = b ∨ a = c ∨ b = c then (s.put F.CLE_DPAX_CFG_ERR 1).setRaise F.CLE_ERR_DPCFG 86
  else
    let s1 := ((((s.put F.CLE_DPAX_SURGE a).put F.CLE_DPAX_SWAY b).put F.CLE_DPAX_YAW c).putB F.CLE_DPAX_EN (bitOf v 24)).put F.CLE_DPAX_CFG_ERR 0
    let fresh := [a, b, c].filter (fun n => !old.contains n)
    let gone := old.filter (fun n => ! [a, b, c].contains n)
    let s2 := s1.each fresh (fun s n => if s.flag (F.CLE_L_CFG_EN n) then
      s.modLoop n (fun l => { l with start := true, preset := true, retune := l.retune || !s.expert 7, blend := none, trig := none, back := false }) else s)
    let s3 := s2.each gone (fun s n => s.modLoop n (fun l => { l with back := l.back || l.src.isSome, src := none, man := none, retune := l.retune || !s.expert 7 }))
    s3.modMd (fun m => { m with remarked := true })

/-- CLE_DPAX_WRITE (R264). -/
def execCleDpaxWrite (val : Word) (s : State) : Host.Outcome State Fault Refusal := .next (s.lanes fun s => s.dpaxWrite val.toNat)

/-- The level of the CLE block changes (R32 to R34, R289). To expert level, a retuning that waits is written at once and switched to at the
next execution; a slot that is OFF has it complete. [DEDUCED: log 186] -/
def State.cleLevel (s : State) (expert : Bool) : State :=
  s.each (List.range 48) (fun s n =>
    if !expert then s.modLoop n (fun l => { l with retune := l.mat, even := false })
    else
      let s1 := s.retuneLoop n
      let l := s1.loop n
      let s2 := (if l.abank = (s.loop n).abank then s1 else s1.publishLoop n).setWords (loopMem n + 0x200) (s.derivedPid n)
      if l.retune || l.blend.isSome || l.breq.isSome then s2.modLoop n (fun l => { l with even := true })
      else s2.setWords (loopMem n + 0x100 * (1 - l.abank)) (s.derivedBank n))

end Sys2Proof.Machine
end

