-- ==== Sys2Proof/Machine/Mode.lean ====
section
/-! DEFINITION. The station-keeping modes (chapter 09): the mode unit and the DP-axis step of R48. -/

namespace Sys2Proof.Machine

open Sys2Proof

/-! ### The EST output of the frame -/

/-- Word `k` of the vessel-track record as EST has formed it in this frame; the one in effect where EST gave none (R55). -/
def State.estOut (s : State) (k : Nat) : Nat := match s.est.next.lookup 0x610000 with
  | some l => nth l k 0
  | none => s.word (0x610000 + 4 * k)
/-- FLAGS.VALID of the EST output. -/
def State.outValid (s : State) : Bool := bitOf (s.estOut 3) 8
/-- STATE of the EST output. -/
def State.outState (s : State) : Nat := s.estOut 3 % 256
/-- The EST record in effect has STATE GECKO. -/
def State.estGecko (s : State) : Bool := s.word 0x61000C % 256 == 4
/-- A vessel state in binary64. -/
def State.vx (s : State) (i : Nat) : Fl := nth s.est.x i Fl.zero
/-- N̂ and Ê, mm. -/
def State.posN (s : State) : Fl := (s.vx 0).mul (Fl.ofInt 1000)
/-- See `posN`. -/
def State.posE (s : State) : Fl := (s.vx 1).mul (Fl.ofInt 1000)
/-- ψ̂ as a number of BAM32. -/
def State.psiBam (s : State) : Fl := wrapTurn (((s.vx 2).div flPi).scale 31)
/-- Speed √(U² + V²), mm/s. -/
def State.speed (s : State) : Fl := (((s.vx 3).mul (s.vx 3)).add ((s.vx 4).mul (s.vx 4))).sqrt.mul (Fl.ofInt 1000)
/-- Distance of two points. -/
def distNE (n e n' e' : Fl) : Fl := let a := n.sub n'; let b := e.sub e'; ((a.mul a).add (b.mul b)).sqrt
/-- Word `k` of a target's record as EST has formed it in this frame (R47, R291); the one in effect where EST gave none (R55). -/
def State.tgOut (s : State) (t k : Nat) : Nat := match s.est.next.lookup (0x610500 + 0x30 * t) with
  | some l => nth l k 0
  | none => s.word (0x610500 + 0x30 * t + 4 * k)
/-- A target track is ACTIVE in the EST output of the frame. -/
def State.tgActive (s : State) (t : Nat) : Bool := bitsOf (s.tgOut t 2) 23 16 == 2
/-- Its position there, mm. -/
def State.tgPos (s : State) (t : Nat) : Int × Int := (toInt 32 (s.tgOut t 3), toInt 32 (s.tgOut t 4))
/-- Its position in the record in effect, mm (R301). -/
def State.tgRecord (s : State) (t : Nat) : Int × Int := (toInt 32 (s.word (0x61050C + 0x30 * t)), toInt 32 (s.word (0x610510 + 0x30 * t)))

/-! ### Roles and the joystick -/

/-- A mode's manual axes (R292): bit 0 SURGE, 1 SWAY, 2 YAW. -/
def manualAxes (mode : Nat) : Nat := match mode with
  | 0 => 7 | 1 => 7 | 2 => 3 | 7 => 1 | _ => 0
/-- The mode whose roles and demands apply: the origin mode in Gecko hold. -/
def ModeState.roles (m : ModeState) : Nat := if m.mode = 8 then m.origin else m.mode

/-- The joystick source is valid (R297). -/
def State.joyValid (s : State) : Bool :=
  if s.flag F.CLE_MODE_JOY_SRC then
    [s.get F.CLE_MODE_JOYCH_X, s.get F.CLE_MODE_JOYCH_Y, s.get F.CLE_MODE_JOYCH_N].all (fun n => n < 96 && s.flag (F.SIG_S_STAT_VALID n))
  else match s.cle.md.joyAt with
    | some t => decide (s.now ≤ t + max 1 (s.get F.CLE_MODE_JOY_JTMO) * 100000000)
    | none => false
/-- JX, JY, JN (R297). -/
def State.joyDemand (s : State) : List Int :=
  if s.flag F.CLE_MODE_JOY_SRC then
    [s.get F.CLE_MODE_JOYCH_X, s.get F.CLE_MODE_JOYCH_Y, s.get F.CLE_MODE_JOYCH_N].map (fun n => s.getI (F.SIG_S_VAL_VALUE n))
  else [s.getI F.CLE_MODE_JX_VALUE, s.getI F.CLE_MODE_JY_VALUE, s.getI F.CLE_MODE_JN_VALUE]
/-- The joystick source is looked at: its loss sets JLOST and raises event 94 once (R297). [DEDUCED: log 200] -/
def State.joyLook (s : State) : State :=
  let ok := s.joyValid
  let m := s.cle.md
  let s1 := s.modMd (fun m => { m with joyOk := ok, jlost := if ok then false else m.jlost || m.joyOk })
  if !ok && m.joyOk then s1.raise 94 else s1

/-- JOYSTICK_TIMEOUT (R297). -/
def execJoystickTimeout (s : State) : Host.Outcome State Fault Refusal := .next (s.lanes fun s => s.joyLook)

/-! ### Entry -/

/-- First target of an axis (R299): the shaped set-point of an automatic axis, PV of a manual one. -/
def State.firstTarget (s : State) (a : Nat) : Int :=
  let n := nth s.dpSlots a 0
  let pv := nth [s.posN, s.posE, s.psiBam] a Fl.zero
  let v := if bitOf s.cle.md.manual a then pv.rne else (s.loop n).sp.rne
  if a = 2 then toInt 32 (ofInt 32 v) else clampS 32 v

/-- Loads SPN, SPE or SPH, except where the host wrote it with the request (R299). [DEDUCED: log 204] -/
def State.loadSp (s : State) (a : Nat) (v : Int) : State :=
  if bitOf s.cle.md.hostSp a then s
  else match a with
    | 0 => s.putI F.CLE_MODE_SPN_MM v
    | 1 => s.putI F.CLE_MODE_SPE_MM v
    | _ => s.putI F.CLE_MODE_SPH_BAM v

/-- Entry to a mode with given first targets (R299, R300, R302, R303). [DEDUCED: log 202] -/
def State.enterMode (s0 : State) (m : Nat) (t0 : List Int) : State :=
  let t := if m = 7 then setNth t0 2 (nth s0.cle.md.tgt 2 0) else t0
  let changed := s0.cle.md.mode != m
  let s := if changed then s0.raise 88 else s0
  let f (i : Nat) : Fl := Fl.ofInt (nth t i 0)
  let s1 := s.modMd (fun d => { d with
    mode := m, tgt := t, manual := manualAxes m, cn := f 0, ce := f 1, ln := f 0, le := f 1, wpt := if m = 4 then 0 else d.wpt
    berthed := if changed then false else d.berthed, unberth := if changed then 0 else d.unberth, pressLoss := if m = 7 then false else d.pressLoss && m == 8, gapLow := 0
    contact := if m = 7 then [s.posN, s.posE, s.vx 6, s.vx 7] else d.contact })
  let s2 := if m = 2 ∨ m = 3 then ((s1.loadSp 0 (nth t 0 0)).loadSp 1 (nth t 1 0)).loadSp 2 (nth t 2 0) else s1
  s2.modMd (fun d => { d with hostSp := 0 })

/-- First targets of the three axes. -/
def State.firstTargets (s : State) : List Int := [s.firstTarget 0, s.firstTarget 1, s.firstTarget 2]

/-- The DP axes are ready (R307). -/
def State.dpReady (s : State) : Bool := s.flag F.CLE_DPAX_EN && s.dpSlots.all (fun n => s.flag (F.CLE_L_CFG_EN n))

/-- The last waypoint is reached (R300). -/
def State.wptReached (s : State) : Bool :=
  let w := s.cle.md.wpt
  (distNE s.posN s.posE (Fl.ofInt (s.getI (F.CLE_WPT_N_MM w))) (Fl.ofInt (s.getI (F.CLE_WPT_E_MM w)))).le
    (Fl.ofInt ((max 1 (s.get F.CLE_MODE_TRK_RADIUS) : Nat) * 1000))

/-- An automatic change of mode (R309); a set-point written for a request of the same step stays the host's for that request alone. -/
def State.autoMode (s : State) (m : Nat) (t : List Int) : State :=
  (((s.modMd (fun d => { d with hostSp := 0 })).enterMode m t).raise 90).modMd (fun d => { d with hostSp := s.cle.md.hostSp })

/-- The automatic transitions, in order of precedence; at most one applies (R305, R306, R309). -/
def State.modeAuto (s : State) : State :=
  let d := s.cle.md
  let m := d.mode
  let s0 := s.modMd (fun d => { d with remarked := false })
  if m ≠ 0 ∧ (s.flag F.CLE_DPAX_EN = false ∨ d.remarked ∨ s.dpReady = false) then s0.autoMode 0 s.firstTargets
  else if 2 ≤ m ∧ s.outValid = false then s0.autoMode 1 s.firstTargets
  else if 3 ≤ m ∧ m ≤ 7 ∧ s.outState = 4 then
    let held := (List.range 3).map (fun a => if bitOf d.manual a then nth d.tgt a 0 else s.firstTarget a)
    ((((s0.modMd (fun d => { d with mode := 8, origin := m, tgt := held, berthed := false })).raise 88)).raise 90)
  else if m = 8 ∧ s.outState = 3 then
    s0.autoMode (if d.origin = 7 then 7 else 3) d.tgt
  else if m = 5 ∧ s.tgActive (s.get F.CLE_MODE_FT_TG) = false then s0.autoMode 3 s.firstTargets
  else if m = 6 ∧ s.tgActive (s.get F.CLE_MODE_BA_TG) = false then s0.autoMode 3 s.firstTargets
  else if m = 4 ∧ s.wptReached ∧ s.get F.CLE_MODE_TRK_NWPT ≤ d.wpt + 1 then
    let w := d.wpt
    (s0.raise 93).autoMode 3 [s.getI (F.CLE_WPT_N_MM w), s.getI (F.CLE_WPT_E_MM w), s.getI (F.CLE_WPT_H_BAM w)]
  else s0

/-- Reasons against a requested mode, lowest first (R307, R308). [DEDUCED: log 203] -/
def State.modeReasons (s : State) (m : Nat) : List Nat :=
  let p := s.cle.md.mode
  let q := s.outState == 3
  let nohdg := s.flag F.EST_ARB_STATUS_NOHDG
  let from' (l : List Nat) : Bool := l.contains p
  let ba := s.tgPos (s.get F.CLE_MODE_BA_TG)
  let nw := s.get F.CLE_MODE_TRK_NWPT
  let tab := 1 ≤ nw && nw ≤ 16 && (List.range nw).all (fun w => s.get (F.CLE_WPT_SPD_WSPD w) != 0)
  let far := (Fl.ofInt ((s.get F.CLE_MODE_BARR_MAXD : Nat) * 1000)).lt (distNE s.posN s.posE (Fl.ofInt ba.1) (Fl.ofInt ba.2))
  let fc := s.get F.CLE_MODE_PRESS_FC
  let press := s.speed.le (Fl.ofInt 200) && s.get F.CLE_MODE_PLIM_FMIN ≤ fc && fc ≤ s.get F.CLE_MODE_PLIM_FMAX
  let l : List (Nat × Bool) :=
    [(1, m != 0 && !s.dpReady),
     (2, m == 2 && !s.outValid),
     (3, 3 ≤ m && !q),
     (4, (m == 2 || m == 3) && nohdg),
     (5, m == 1 && !s.joyValid),
     (6, (m == 5 && !s.tgActive (s.get F.CLE_MODE_FT_TG)) || (m == 6 && !s.tgActive (s.get F.CLE_MODE_BA_TG))),
     (7, m == 4 && !tab),
     (8, m == 6 && far),
     (9, m == 7 && !press),
     (10, match m with
        | 3 => p == 8
        | 4 => !from' [3, 4, 5, 6]
        | 5 => !from' [3, 4, 5]
        | 6 => !from' [3, 4, 6]
        | 7 => !(p == 3 || (p == 6 && s.cle.md.berthed))
        | _ => false)]
  (l.filter Prod.snd).map Prod.fst

/-- A host request is checked against the resulting mode (R307, R308, R310). -/
def State.modeServe (s : State) : State :=
  match s.cle.md.req with
  | none => s.modMd (fun d => { d with hostSp := 0 })
  | some m =>
    let s1 := s.modMd (fun d => { d with req := none })
    match s.modeReasons m with
    | [] => if m ≤ 1 ∧ s.cle.md.mode = m then s1.modMd (fun d => { d with hostSp := 0 }) else s1.enterMode m s.firstTargets
    | r :: _ => ((s1.modMd (fun d => { d with reason := r, hostSp := 0 })).put F.CLE_MODE_ERR_REFUSED 1).raise 89

/-- MODE_REQUEST (R307): the last request before a step is evaluated (R310); codes 8 to 15 are discarded. [DEDUCED: log 206] -/
def State.modeRequest (s : State) (m : Nat) : State := if 8 ≤ m then s else s.modMd (fun d => { d with req := some m })
/-- MODE_REQUEST (R307). -/
def execModeRequest (m : BitVec 4) (s : State) : Host.Outcome State Fault Refusal := .next (s.lanes fun s => s.modeRequest m.toNat)

/-! ### Targets -/

/-- The waypoint leg moves on (R300); reaching the last waypoint ends the mode instead (`modeAuto`). -/
def State.legNext (s : State) : State :=
  let w := s.cle.md.wpt
  if s.wptReached && decide (w + 1 < s.get F.CLE_MODE_TRK_NWPT) then
    (s.modMd (fun d => { d with wpt := w + 1, ln := Fl.ofInt (s.getI (F.CLE_WPT_N_MM w)), le := Fl.ofInt (s.getI (F.CLE_WPT_E_MM w))
                                cn := Fl.ofInt (s.getI (F.CLE_WPT_N_MM w)), ce := Fl.ofInt (s.getI (F.CLE_WPT_E_MM w)) })).raise 93
  else s

/-- A point moved towards another by a length, not past it. -/
def towards (n e n' e' len : Fl) : Fl × Fl :=
  let d := distNE n e n' e'
  if d.le len then (n', e') else
    let k := len.div d
    (n.add ((n'.sub n).mul k), e.add ((e'.sub e).mul k))

/-- The Autotrack carrot advances (R300). -/
def State.carrotTrack (s : State) : State :=
  let d := s.cle.md
  let wn := Fl.ofInt (s.getI (F.CLE_WPT_N_MM d.wpt))
  let we := Fl.ofInt (s.getI (F.CLE_WPT_E_MM d.wpt))
  let len := distNE d.ln d.le wn we
  let lead := Fl.ofInt ((max 1 (s.get F.CLE_MODE_TRK_LEAD) : Nat) * 1000)
  let ahead := if len.isZero then Fl.zero else
    (((d.cn.sub s.posN).mul (wn.sub d.ln)).add ((d.ce.sub s.posE).mul (we.sub d.le))).div len
  if lead.lt ahead then s
  else
    let p := towards d.cn d.ce wn we (Fl.ratio ((min 2000 (s.get (F.CLE_WPT_SPD_WSPD d.wpt)) : Nat) : Int) 100)
    s.modMd (fun d => { d with cn := p.1, ce := p.2 })

/-- The Berth Approach carrot advances (R302). -/
def State.carrotBerth (s : State) : State :=
  let d := s.cle.md
  let b := s.tgPos (s.get F.CLE_MODE_BA_TG)
  let bn := Fl.ofInt b.1; let be := Fl.ofInt b.2
  let va := max 1 (s.get F.CLE_MODE_BA_VA)
  let vm := min va (s.get F.CLE_MODE_BA_VMIN)
  let slow := Fl.ofInt ((max 1 (s.get F.CLE_MODE_BA_SLOW) : Nat) * 1000)
  let f := Fl.min (Fl.ofInt 1) ((distNE d.cn d.ce bn be).div slow)
  let vc := (Fl.ofInt (10 * vm : Nat)).add ((Fl.ofInt (10 * (va - vm) : Nat)).mul f)
  let p := towards d.cn d.ce bn be (vc.div (Fl.ofInt 100))
  s.modMd (fun d => { d with cn := p.1, ce := p.2 })

/-- BERTHED clears after its conditions have failed for 1 s (R302). -/
def State.berthedClear (s : State) : State :=
  if s.cle.md.berthed && decide (100 ≤ s.cle.md.unberth) then s.modMd (fun d => { d with berthed := false, unberth := 0 }) else s
/-- BERTHED_CLEAR (R302). -/
def execBerthedClear (s : State) : Host.Outcome State Fault Refusal := .next (s.lanes fun s => s.berthedClear)

/-- The BERTHED test of a step (R302); event 91. -/
def State.berthTest (s : State) : State :=
  let b := s.tgPos (s.get F.CLE_MODE_BA_TG)
  let ok := (distNE s.posN s.posE (Fl.ofInt b.1) (Fl.ofInt b.2)).le (Fl.ofInt (s.get F.CLE_MODE_BARR_ARR : Nat)) && s.speed.le (Fl.ofInt 100)
  let d := s.cle.md
  if ok then
    let s1 := s.modMd (fun d => { d with berthed := true, unberth := 0 })
    if d.berthed then s1 else s1.raise 91
  else (s.modMd (fun d => { d with unberth := if d.berthed then d.unberth + 1 else 0 })).berthedClear

/-- PRESSLOSS after the gap has been below for 1 s (R304); event 92. -/
def State.pressLossSet (s : State) : State :=
  if !s.cle.md.pressLoss && decide (100 ≤ s.cle.md.gapLow) then (s.modMd (fun d => { d with pressLoss := true })).raise 92 else s
/-- PRESS_LOSS (R304). -/
def execPressLoss (s : State) : Host.Outcome State Fault Refusal := .next (s.lanes fun s => s.pressLossSet)

/-- PDIR as +1 or -1 (R303). -/
def State.pdir (s : State) : Int := if s.flag F.CLE_MODE_PRESS_PDIR then -1 else 1
/-- The press gap of a step (R304). -/
def State.pressGap (s : State) : State :=
  let c (i : Nat) : Fl := nth s.cle.md.contact i Fl.zero
  let g0 := ((s.posN.sub (c 0)).mul (Fl.cos (s.vx 2))).add ((s.posE.sub (c 1)).mul (Fl.sin (s.vx 2)))
  let g := if s.pdir < 0 then g0.neg else g0
  let gap := s.get F.CLE_MODE_PGAP_GAP
  let low := g.lt (Fl.ofInt (-(gap : Int)))
  let back := (Fl.mk' (-(gap : Int)) (-1)).le g
  (s.modMd (fun d => { d with gapLow := if low then d.gapLow + 1 else 0, pressLoss := d.pressLoss && !back })).pressLossSet
/-- The press demand, N (R303). -/
def State.pressDemand (s : State) : Int :=
  let c (i : Nat) : Fl := nth s.cle.md.contact i Fl.zero
  let env := (((c 2).mul (Fl.cos (s.vx 2))).add ((c 3).mul (Fl.sin (s.vx 2)))).add (Fl.ofInt (toInt 32 (s.estOut 26)))
  let kN (f : Nat) : Fl := Fl.ofInt ((f : Int) * 100)
  let e := if s.pdir < 0 then env.neg else env
  s.pdir * (Fl.clamp (kN (s.get F.CLE_MODE_PLIM_FMIN)) (kN (s.get F.CLE_MODE_PLIM_FMAX)) ((kN (s.get F.CLE_MODE_PRESS_FC)).sub e)).rne

/-- What the mode does in a step: carrots, tests and targets of the automatic axes (R298). -/
def State.modeTargets (s0 : State) : State :=
  let m := s0.cle.md.mode
  let s := match m with
    | 4 => s0.legNext.carrotTrack
    | 6 => s0.carrotBerth.berthTest
    | 7 => s0.pressGap
    | 8 => if s0.cle.md.origin = 7 then s0.pressGap else s0
    | _ => s0
  let d := s.cle.md
  let keep (a : Nat) : Int := nth d.tgt a 0
  let car := [clampS 32 d.cn.rne, clampS 32 d.ce.rne]
  let t : List Int := match m with
    | 2 => [keep 0, keep 1, s.getI F.CLE_MODE_SPH_BAM]
    | 3 => [s.getI F.CLE_MODE_SPN_MM, s.getI F.CLE_MODE_SPE_MM, s.getI F.CLE_MODE_SPH_BAM]
    | 4 => car ++ [s.getI (F.CLE_WPT_H_BAM d.wpt)]
    | 5 =>
      let p := s.tgRecord (s.get F.CLE_MODE_FT_TG)
      let dn := (Fl.ofInt p.1).sub s.posN
      let de := (Fl.ofInt p.2).sub s.posE
      let near := (distNE (Fl.ofInt p.1) (Fl.ofInt p.2) s.posN s.posE).lt (Fl.ofInt 5000)
      let h := if !s.flag F.CLE_MODE_FT_HMODE then s.getI F.CLE_MODE_SPH_BAM
        else if near then keep 2 else toInt 32 (radBam (Fl.atan2 de dn))
      [clampS 32 (p.1 + s.getI F.CLE_MODE_FTN_MM), clampS 32 (p.2 + s.getI F.CLE_MODE_FTE_MM), h]
    | 6 => car ++ [s.getI F.CLE_MODE_BHDG_BAM]
    | 7 => [clampS 32 (nth d.contact 0 Fl.zero).rne, clampS 32 (nth d.contact 1 Fl.zero).rne, keep 2]
    | _ => d.tgt
  s.modMd (fun d => { d with tgt := t })

/-- A PRESET of a DP axis that is automatic (R273): its target becomes PV, and the set-point register with it. [DEDUCED: log 201] -/
def State.dpPreset (s : State) (a : Nat) : State :=
  let n := nth s.dpSlots a 0
  if (s.loop n).preset && !(s.loop n).start && !bitOf s.cle.md.manual a && s.outValid then
    let pv := nth [s.posN, s.posE, s.psiBam] a Fl.zero
    let v := if a = 2 then toInt 32 (ofInt 32 pv.rne) else clampS 32 pv.rne
    let s1 := s.modMd (fun d => { d with tgt := setNth d.tgt a v })
    if s.cle.md.mode = 3 ∨ (s.cle.md.mode = 2 ∧ a = 2) then s1.loadSp a v else s1
  else s

/-- The manual demand of an axis and its source: 0 none, 1 joystick, 2 press, 3 joystick not valid (R292, R297, R303). -/
def State.manualDemand (s : State) (a : Nat) : Option (Int × Nat) :=
  let d := s.cle.md
  if !bitOf d.manual a then none
  else match d.roles with
    | 0 => some (0, 0)
    | 7 => some (s.pressDemand, 2)
    | _ => if s.joyValid then some (nth s.joyDemand a 0, 1) else some (0, 3)

/-- Feedforward of a DP axis (R278). -/
def State.dpFf (s : State) (n a : Nat) : Int :=
  let c := Fl.cos (s.vx 2); let sn := Fl.sin (s.vx 2)
  let b := match a with
    | 0 => (((s.vx 6).mul c).add ((s.vx 7).mul sn)).neg
    | 1 => ((s.vx 6).mul sn).sub ((s.vx 7).mul c)
    | _ => (s.vx 8).neg
  let w := (Fl.ofInt (toInt 32 (s.estOut (26 + a)))).neg
  let x := if s.flag (F.CLE_L_CFG_FFB n) then b else Fl.zero
  clampS 32 ((if s.flag (F.CLE_L_CFG_FFW n) then x.add w else x).rne)

/-- Error of a DP axis (R269) from the shaped set-points. [DEDUCED: log 187] -/
def State.dpErr (s : State) (a : Nat) (sN sE sPsi : Fl) : Int :=
  let c := Fl.cos (s.vx 2); let sn := Fl.sin (s.vx 2)
  let dn := sN.sub s.posN; let de := sE.sub s.posE
  match a with
  | 0 => int32 ((dn.mul c).add (de.mul sn)).rne
  | 1 => int32 ((de.mul c).sub (dn.mul sn)).rne
  | _ => toInt 32 (ofInt 32 (wrapHalf (sPsi.sub s.psiBam)).rne)

/-- The shaper of a DP axis on its own, so that the errors of SURGE and SWAY use both shaped set-points. -/
def State.dpShape (s : State) (n a : Nat) (man : Option (Int × Nat)) : LoopSlot × Option Fl :=
  let pv := nth [s.posN, s.posE, s.psiBam] a Fl.zero
  let i := { s.loopIn n with angle := a == 2, pv := some pv }
  let l := s.loop n
  if man.isSome then ({ l with sp := pv }, some pv) else (l.shape i, if s.outValid then some pv else none)

/-- One DP axis (R269, R293 to R295). -/
def State.dpAxisRun (s : State) (a : Nat) (sN sE : Fl) : State :=
  let n := nth s.dpSlots a 0
  let man := s.manualDemand a
  let pv := nth [s.posN, s.posE, s.psiBam] a Fl.zero
  let pvO := if man.isSome || s.outValid then some pv else none
  s.runLoop n (fun s i => { i with
    angle := a == 2, pv := pvO, ff := s.dpFf n a, man := man
    err := fun sp => s.dpErr a (if a = 0 then sp else sN) (if a = 1 then sp else sE) sp })

/-- The DP-axis step (R48, R291): the mode unit, the targets (R296), the three slots; the demand of the main solve. -/
def State.dpStep (s0 : State) : State :=
  let s1 := ((((s0.joyLook.modeAuto).modeServe).modeTargets).dpPreset 0).dpPreset 1
  let s2 := s1.dpPreset 2
  let s := s2.each [0, 1, 2] (fun s a => s.putI (F.CLE_L_SP_TARGET (nth s.dpSlots a 0)) (nth s.cle.md.tgt a 0))
  if !s.flag F.CLE_DPAX_EN then s.modMd (fun d => { d with demand := [0, 0, 0], pub := some [] })
  else
    let on := [0, 1, 2].filter (fun a => s.flag (F.CLE_L_CFG_EN (nth s.dpSlots a 0)))
    let sh (a : Nat) : Fl := (s.dpShape (nth s.dpSlots a 0) a (s.manualDemand a)).1.sp
    let sN := sh 0; let sE := sh 1
    let s3 := s.each on (fun s a => s.dpAxisRun a sN sE)
    let dem := (List.range 3).map (fun a => if on.contains a then (s3.loop (nth s3.dpSlots a 0)).u else 0)
    s3.modMd (fun d => { d with demand := dem, pub := some (on.map (fun a => nth s3.dpSlots a 0)) })

/-- At a major tick: OUT and STAT of the DP-axis slots, the demand and CLE_MODE_STAT take effect (R266, R291). [DEDUCED: log 205] -/
def State.modeMajor (s : State) : State :=
  match s.cle.md.pub with
  | none => s
  | some l =>
    let d := s.cle.md
    let s1 := (s.each l State.publishLoop).cleSummary
    let s2 := ((s1.putI F.CLE_DPOUT_X_N (nth d.demand 0 0)).putI F.CLE_DPOUT_Y_N (nth d.demand 1 0)).putI F.CLE_DPOUT_N_NM (nth d.demand 2 0)
    let st := d.mode + 16 * d.origin + 2 ^ 8 * d.manual + 2 ^ 11 * b2n d.berthed + 2 ^ 12 * b2n d.pressLoss + 2 ^ 13 * b2n d.jlost +
      2 ^ 16 * (d.wpt % 16) + 2 ^ 24 * d.reason
    (s2.setWord F.CLE_MODE_STAT_MODE.off st).modMd (fun d => { d with pub := none })

/-- Writes of mode registers as they are applied: a joystick value restarts JTMO (R297), a set-point is the host's (R299). -/
def State.modeRegApply (s : State) (off v : Nat) : State :=
  let s1 := s.setWord off v
  if off = 0x700054 ∨ off = 0x700058 ∨ off = 0x70005C then s1.modMd (fun d => { d with joyAt := some s.now })
  else if off = 0x700060 ∨ off = 0x700064 ∨ off = 0x700068 then s1.modMd (fun d => { d with hostSp := setBit d.hostSp ((off - 0x700060) / 4) true })
  else s1

/-- A host write of the set-point of a DP-axis slot is discarded (R296); of another slot it is applied. -/
def State.spApply (s : State) (n v : Nat) : State :=
  if (s.dpAxis n).isSome then s.put F.CLE_MODE_ERR_SPWR 1 else s.setWord (F.CLE_L_SP_TARGET n).off v

end Sys2Proof.Machine
end

