-- ==== Sys2Proof/Machine/Qp.lean ====
section
/-! DEFINITION. The quadratic programme of the allocator (R316, R317), the projection of R329 and the active-set method of R330. Forces
are in kN, moments in kN·m, powers in kW. -/

namespace Sys2Proof.Machine

open Sys2Proof

/-- A row over a thruster's force variables: number, coefficients, bound. -/
structure QRow where
  /-- Row 0 to 23 of the thruster. -/
  k : Nat
  /-- Coefficients. -/
  a : List Fl
  /-- Bound. -/
  b : Fl

/-- A thruster in a problem. -/
structure QThr where
  /-- Number. -/
  i : Nat
  /-- Bus. -/
  bus : Nat
  /-- Body force of each force variable: Fx, Fy, moment. -/
  cols : List (List Fl)
  /-- Region rows: a·f ≤ b. -/
  rows : List QRow
  /-- Power rows: a·f - p ≤ b. -/
  prow : List QRow
  /-- Force per unit of t (R313). -/
  dir : List Fl
  /-- Reachable interval of t. -/
  lo : Fl
  /-- See `lo`. -/
  hi : Fl
  /-- Breakpoints of the curve, kN. -/
  brk : List Fl
  /-- Power weight. -/
  wp : Fl
  /-- Warm start. -/
  f0 : List Fl

/-- A row held in binary32 (R332). -/
def QRow.held (r : QRow) : QRow := { r with a := r.a.map Fl.r32, b := r.b.r32 }
/-- The data of a thruster held in binary32 (R332). -/
def QThr.held (q : QThr) : QThr :=
  { q with cols := q.cols.map (fun c => c.map Fl.r32), rows := q.rows.map QRow.held, prow := q.prow.map QRow.held, dir := q.dir.map Fl.r32
           lo := q.lo.r32, hi := q.hi.r32, f0 := q.f0.map Fl.r32 }
/-- Number of force variables. -/
def QThr.nf (q : QThr) : Nat := q.cols.length
/-- The curve value at a force (R320): the largest of the power rows. -/
def QThr.curve (q : QThr) (f : List Fl) : Fl :=
  let v := q.prow.map (fun r => (dotD r.a f).sub r.b)
  v.foldl Fl.max (v.headD Fl.zero)
/-- The force at a value of t. -/
def QThr.force (q : QThr) (t : Fl) : List Fl := q.dir.map (fun d => d.mul t)
/-- The minimum-power point (R321): least curve value; among equals the point nearest zero. -/
def QThr.tMin (q : QThr) : Fl :=
  let inside (x : Fl) : Bool := q.lo.le x && x.le q.hi
  let c := (q.lo :: q.hi :: Fl.zero :: q.brk).filter inside
  c.foldl (fun best x =>
    let a := q.curve (q.force x)
    let b := q.curve (q.force best)
    if a.lt b || (a == b && x.abs.lt best.abs) then x else best) q.lo
/-- Power at the minimum-power point. -/
def QThr.pMin (q : QThr) : Fl := q.curve (q.force q.tMin)
/-- A force satisfies the region rows. -/
def QThr.inside (q : QThr) (f : List Fl) : Bool := q.rows.all (fun r => (dotD r.a f).le (r.b.add Config.rowSlack))

/-- Foot of the perpendicular on a row's line. -/
def QRow.foot (r : QRow) (f : List Fl) : List Fl :=
  let nn := dotD r.a r.a
  let k := (r.b.sub (dotD r.a f)).div nn
  (f.zip r.a).map (fun p => p.1.add (k.mul p.2))
/-- Meeting point of two rows' lines in the plane. -/
def QRow.meet (r s : QRow) : Option (List Fl) :=
  let a (i : Nat) : Fl := nth r.a i Fl.zero
  let b (i : Nat) : Fl := nth s.a i Fl.zero
  let det := ((a 0).mul (b 1)).sub ((a 1).mul (b 0))
  if det.isZero || det.bad then none
  else some [((r.b.mul (b 1)).sub ((a 1).mul s.b)).div det, (((a 0).mul s.b).sub (r.b.mul (b 0))).div det]
/-- Squared distance of two forces. -/
def dist2F (f g : List Fl) : Fl := let d := (f.zip g).map (fun p => p.1.sub p.2); dotD d d
/-- The nearest point of the region (R329, step 1); the lowest rows on ties. [DEDUCED: log 222] -/
def QThr.nearest (q : QThr) (f : List Fl) : List Fl :=
  if q.inside f then f
  else
    let feet := q.rows.map (fun r => r.foot f)
    let corners := if q.nf = 2 then q.rows.flatMap (fun r => q.rows.filterMap (fun s => r.meet s)) else []
    let ok := (feet ++ corners).filter q.inside
    match ok with
    | [] => f
    | x :: t => t.foldl (fun best y => if (dist2F y f).lt (dist2F best f) then y else best) x

/-- A point of a problem: the forces and power of each thruster. -/
abbrev QPoint := List (List Fl × Fl)

/-- Sum of powers of the thrusters on a bus. -/
def busPower (l : List QThr) (x : QPoint) (b : Nat) : Fl :=
  (l.zip x).foldl (fun acc p => if p.1.bus = b then acc.add p.2.2 else acc) Fl.zero
/-- The point with the power of every thruster at its curve value. -/
def withCurve (l : List QThr) (fs : List (List Fl)) : QPoint := (l.zip fs).map (fun p => (p.2, p.1.curve p.2))
/-- The thrusters of a bus moved towards their minimum-power points by λ (R329, step 3). -/
def towardsMin (l : List QThr) (x : QPoint) (b : Nat) (lam : Fl) : QPoint :=
  (l.zip x).map (fun p =>
    if p.1.bus = b then
      let g := p.1.force p.1.tMin
      let f := (p.2.1.zip g).map (fun e => (((Fl.ofInt 1).sub lam).mul e.1).add (lam.mul e.2))
      (f, p.1.curve f)
    else p.2)
/-- The bracket after `n` bisection steps: its upper end. -/
def bisect (ok : Fl → Bool) : Nat → Fl → Fl → Fl
  | 0, _, hi => hi
  | n + 1, lo, hi => let m := (lo.add hi).scale (-1); if ok m then bisect ok n lo m else bisect ok n m hi
/-- The projection (R329): the feasible point and whether a force moved. -/
def project (l : List QThr) (bounds : List (Nat × Fl)) (fs : List (List Fl)) : QPoint × Bool :=
  let x0 := withCurve l ((l.zip fs).map (fun p => p.1.nearest p.2))
  let x := bounds.foldl (fun x b =>
    if b.2.lt (busPower l x b.1) then
      towardsMin l x b.1 (bisect (fun m => (busPower l (towardsMin l x b.1 m) b.1).le b.2) 24 Fl.zero (Fl.ofInt 1))
    else x) x0
  (x, x.map Prod.fst != fs)

/-- All rows of a problem as dense rows over the variables: global number, coefficients, bound. -/
structure DRow where
  /-- 24 × thruster + row; 384 + bus for a bus row. -/
  id : Nat
  /-- Coefficients. -/
  a : List Fl
  /-- Bound. -/
  b : Fl

/-- First variable of each thruster. -/
def varStart : List QThr → Nat → List Nat
  | [], _ => []
  | q :: t, n => n :: varStart t (n + q.nf + 1)
/-- A dense vector of length `n` with a block at `k`. -/
def dense (n k : Nat) (l : List Fl) : List Fl := List.replicate k Fl.zero ++ l ++ List.replicate (n - k - l.length) Fl.zero
/-- Number of variables. -/
def varCount (l : List QThr) : Nat := l.foldl (fun n q => n + q.nf + 1) 0
/-- The rows, in order (R314); null rows are left out. -/
def denseRows (l : List QThr) (bounds : List (Nat × Fl)) : List DRow :=
  let n := varCount l
  let st := varStart l 0
  let one (p : QThr × Nat) : List DRow :=
    let reg := p.1.rows.map (fun r => ({ id := p.1.i * 24 + r.k, a := dense n p.2 r.a, b := r.b } : DRow))
    let pow := p.1.prow.map (fun r => ({ id := p.1.i * 24 + r.k, a := dense n p.2 (r.a ++ [(Fl.ofInt 1).neg]), b := r.b } : DRow))
    if (p.1.prow.headD ⟨0, [], Fl.zero⟩).k < (p.1.rows.headD ⟨0, [], Fl.zero⟩).k then pow ++ reg else reg ++ pow
  let buses := bounds.map (fun b => ({ id := 384 + b.1, b := b.2
                                       a := (l.zip st).foldl (fun acc p => if p.1.bus = b.1 then setNth acc (p.2 + p.1.nf) (Fl.ofInt 1) else acc) (List.replicate n Fl.zero) } : DRow))
  (l.zip st).flatMap one ++ buses

/-- A point as one vector, and back. -/
def flat (x : QPoint) : List Fl := x.flatMap (fun p => p.1 ++ [p.2])
/-- See `flat`. -/
def unflat : List QThr → List Fl → QPoint
  | [], _ => []
  | q :: t, v => (v.take q.nf, nth v q.nf Fl.zero) :: unflat t (v.drop (q.nf + 1))

/-- Weights: WX, WY, WN and REG. -/
structure QWeights where
  /-- Surge, W/kN². -/
  wx : Fl
  /-- Sway. -/
  wy : Fl
  /-- Yaw, W/(kN·m)². -/
  wn : Fl
  /-- REG, W/kN². -/
  reg : Fl

/-- Body forces and moment of a point. -/
def bodyForce (l : List QThr) (x : QPoint) : List Fl :=
  (List.range 3).map (fun r => (l.zip x).foldl (fun acc p => acc.add (dotD (p.1.cols.map (fun c => nth c r Fl.zero)) p.2.1)) Fl.zero)
/-- Slack of a demand (R316). -/
def slackOf (l : List QThr) (x : QPoint) (tau : List Fl) : List Fl := (tau.zip (bodyForce l x)).map (fun p => p.1.sub p.2)

/-- Hessian and gradient of J (R316) at a point. -/
def quadOf (l : List QThr) (w : QWeights) (tau : List Fl) (ws x : QPoint) : Mat × List Fl :=
  let cols := l.flatMap (fun q => q.cols ++ [[Fl.zero, Fl.zero, Fl.zero]])
  let isF := l.flatMap (fun q => List.replicate q.nf true ++ [false])
  let wp := l.flatMap (fun q => List.replicate q.nf Fl.zero ++ [q.wp])
  let s := slackOf l x tau
  let wt := [w.wx, w.wy, w.wn]
  let two (y : Fl) : Fl := y.scale 1
  let wc (c : List Fl) : List Fl := (c.zip wt).map (fun p => p.1.mul p.2)
  let idx := List.range cols.length
  let h := idx.map (fun i => idx.map (fun j =>
    let v := two (dotD (wc (nth cols i [])) (nth cols j []))
    if i = j ∧ nth isF i false then v.add (two w.reg) else v))
  let dx := ((flat x).zip (flat ws)).map (fun p => p.1.sub p.2)
  let g := idx.map (fun i =>
    let base := (two (dotD (wc (nth cols i [])) s)).neg
    if nth isF i false then base.add (two (w.reg.mul (nth dx i Fl.zero))) else (nth wp i Fl.zero).mul (Fl.ofInt 1000))
  (h, g)

/-- Position of the first entry of largest magnitude, and the rows without the row there. -/
def takePivot : List (List Fl) → Option (List Fl × List (List Fl))
  | [] => none
  | r :: t => match takePivot t with
    | none => some (r, t)
    | some (p, rest) => if ((r.headD Fl.zero).abs).lt ((p.headD Fl.zero).abs) then some (p, r :: rest) else some (r, t)
/-- Gaussian elimination in binary64 over rows of `n` coefficients and a right-hand side; a variable without a pivot is zero.
[DEDUCED: log 221] -/
def gauss : Nat → List (List Fl) → List Fl
  | 0, _ => []
  | n + 1, rows => match takePivot rows with
    | none => List.replicate (n + 1) Fl.zero
    | some (p, rest) =>
      let h := p.headD Fl.zero
      if h.isZero || h.bad then Fl.zero :: gauss n (rows.map (fun r => r.drop 1))
      else
        let tail := p.drop 1
        let low := rest.map (fun r => let k := (r.headD Fl.zero).div h; ((r.drop 1).zip tail).map (fun q => q.1.sub (k.mul q.2)))
        let xs := gauss n low
        ((nth tail n Fl.zero).sub (dotD (tail.take n) xs)).div h :: xs
/-- A direction of zero curvature (R330): the power variables that no power row of the working set holds descend together along the
negative gradient, within the bus rows of the working set. [DEDUCED: log 221] -/
def flatStep (power : List Bool) (grad : List Fl) (rows : List (List Fl)) : List Fl :=
  let n := grad.length
  let has (r : List Fl) (k : Nat) : Bool := !(nth r k Fl.zero).isZero
  let isBus (r : List Fl) : Bool := (List.range n).all (fun k => nth power k false || !has r k) && (r.all (fun x => decide (0 ≤ x.m)))
  let free (k : Nat) : Bool := nth power k false && rows.all (fun r => isBus r || !has r k)
  (List.range n).map (fun k =>
    if free k then
      let mean : Fl := match rows.find? (fun r => isBus r && has r k) with
        | none => Fl.zero
        | some r =>
          let mine := (List.range n).filter (fun j => free j && has r j)
          (mine.foldl (fun acc j => acc.add (nth grad j Fl.zero)) Fl.zero).div (Fl.ofInt mine.length)
      ((mean.sub (nth grad k Fl.zero)).scale 20)
    else Fl.zero)
/-- The step and the multipliers of the equality-constrained problem on a working set (R330, R332): a direction of zero curvature
where there is one, else the solution of the optimality conditions. [DEDUCED: log 221] -/
def kktStep (power : List Bool) (hess : List (List Fl)) (grad : List Fl) (rows : List (List Fl)) : List Fl × List Fl :=
  let n := grad.length
  let m := rows.length
  let z := flatStep power grad rows
  if z.any (fun x => !x.isZero) then (z, List.replicate m Fl.zero)
  else
    let top := (hess.zip (List.range n)).map (fun p => p.1 ++ rows.map (fun r => nth r p.2 Fl.zero) ++ [(nth grad p.2 Fl.zero).neg])
    let low := rows.map (fun r => r ++ List.replicate (m + 1) Fl.zero)
    let x := gauss (n + m) (top ++ low)
    (x.take n, x.drop n)

/-- What a solve gives. -/
structure QSol where
  /-- The point. -/
  x : QPoint
  /-- Working set: row numbers, and their multipliers. -/
  w : List (Nat × Fl)
  /-- Iterations. -/
  iter : Nat
  /-- Converged. -/
  conv : Bool

/-- The active-set method (R330), on fuel: ITMAX iterations. -/
def activeSet (l : List QThr) (rows : List DRow) (w : QWeights) (tau : List Fl) (ws : QPoint) : Nat → Nat → List Nat → List Fl → QSol
  | 0, it, wset, v => { x := unflat l v, w := wset.map (fun k => (k, Fl.zero)), iter := it, conv := false }
  | n + 1, it, wset, v =>
    let q := quadOf l w tau ws (unflat l v)
    let act := rows.filter (fun r => wset.contains r.id)
    let r := kktStep (l.flatMap (fun t => List.replicate t.nf false ++ [true])) q.1 q.2 (act.map (·.a))
    let d := r.1
    let mul := (act.map (·.id)).zip r.2
    if d.all (fun x => x.abs.lt (Fl.ratio 1 1000000)) then
      if mul.all (fun p => (Fl.ratio (-1) 1000000000).le p.2) then { x := unflat l v, w := mul, iter := it + 1, conv := true }
      else
        let worst := mul.foldl (fun acc p => match acc with
          | none => some p
          | some b => if p.2.lt b.2 then some p else some b) (none : Option (Nat × Fl))
        match worst with
        | some p => activeSet l rows w tau ws n (it + 1) (wset.filter (· != p.1)) v
        | none => { x := unflat l v, w := mul, iter := it + 1, conv := true }
    else
      let block := rows.foldl (fun (acc : Fl × Option Nat) row =>
        if wset.contains row.id then acc
        else
          let ad := dotD row.a d
          if Fl.zero.lt ad then
            let t := Fl.max Fl.zero ((row.b.sub (dotD row.a v)).div ad)
            if t.lt acc.1 then (t, some row.id) else acc
          else acc) (Fl.ofInt 1, none)
      let v' := (v.zip d).map (fun p => p.1.add (block.1.mul p.2))
      match block.2 with
      | some id => activeSet l rows w tau ws n (it + 1) (wset ++ [id]) v'
      | none => activeSet l rows w tau ws n (it + 1) wset v'

/-- A whole solve (R328 to R332) of held data: solution, whether the warm start moved, whether the result was projected. -/
def solveQp (l : List QThr) (bounds : List (Nat × Fl)) (w : QWeights) (tau : List Fl) (prevW : List Nat) (itmax : Nat) : QSol × Bool × Bool :=
  let p := project l bounds (l.map (·.f0))
  let rows := denseRows l bounds
  let v := flat p.1
  let active := (rows.filter (fun r => prevW.contains r.id && ((r.b.sub (dotD r.a v)).abs).le Config.rowSlack)).map (·.id)
  let s := activeSet l rows w tau p.1 itmax 0 active v
  if s.conv then (s, p.2, false)
  else ({ s with x := (project l bounds (s.x.map Prod.fst)).1 }, p.2, true)

end Sys2Proof.Machine
end

