-- ==== Sys2Proof/Machine/Alc.lean ====
section
/-! DEFINITION. Thrust allocation (chapter 10): references and regions (R315 to R319), the power model and bus bounds (R320 to R322),
sectors and commitment (R323 to R327), the main solve (R328 to R333), thruster states (R335 to R337), descriptions (R339). -/

namespace Sys2Proof.Machine

open Sys2Proof

/-- A thruster's hidden state. -/
def State.thr (s : State) (i : Nat) : Thruster := nth s.alc.thr i Thruster.init
/-- Changes a thruster. -/
def State.modThr (s : State) (i : Nat) (f : Thruster → Thruster) : State := { s with alc := { s.alc with thr := modNth s.alc.thr i f } }
/-- Changes the allocator's hidden state. -/
def State.modAlc (s : State) (f : AlcState → AlcState) : State := { s with alc := f s.alc }
/-- TYPE as it acts: 5 to 7 act as 0 (R313). -/
def State.thrType (s : State) (i : Nat) : Nat := let t := s.get (F.ALC_T_CFG_TYPE i); if t ≤ 4 then t else 0
/-- Word `w` of the result record in effect. -/
def State.res (s : State) (i w : Nat) : Nat := s.get (F.ALC_T_RES_WORD i w)
/-- A signed word of the result record in effect. -/
def State.resI (s : State) (i w : Nat) : Int := toInt 32 (s.res i w)
/-- N to kN, W to kW, mm to m, held in binary32 (R332). -/
def kilo (x : Int) : Fl := (Fl.ratio x 1000).r32

/-! ### Descriptions -/

/-- T_k and P_k (R320). -/
def State.curvePts (s : State) (i : Nat) : List (Int × Int) :=
  (List.range 9).map (fun k => (s.getI (F.ALC_D_CURVE_VALUE i k 0), (s.get (F.ALC_D_CURVE_VALUE i k 1) : Int)))
/-- CT_k and CV_k (R334). -/
def State.cmdPts (s : State) (i : Nat) : List (Int × Int) :=
  (List.range 9).map (fun k => (s.getI (F.ALC_D_CMD_VALUE i k 0), s.getI (F.ALC_D_CMD_VALUE i k 1)))
/-- Strictly ascending first entries. -/
def ascends : List (Int × Int) → Bool
  | [] => true
  | [_] => true
  | a :: b :: t => decide (a.1 < b.1) && ascends (b :: t)
/-- Slopes that do not decrease. -/
def slopesRise : List (Int × Int) → Bool
  | a :: b :: c :: t => decide ((b.2 - a.2) * (c.1 - b.1) ≤ (c.2 - b.2) * (b.1 - a.1)) && slopesRise (b :: c :: t)
  | _ => true
/-- Centre and half-width of a sector, BAM32; half-width 0 means none. -/
def State.sector (s : State) (i k : Nat) : Nat × Nat := (s.get (F.ALC_D_FS_CTR i k) * 65536, s.get (F.ALC_D_FS_HW i k) * 65536)
/-- The description of a thruster is valid (R339). -/
def State.descValid (s : State) (i : Nat) : Bool :=
  let t := s.thrType i
  let a := s.sector i 0; let b := s.sector i 1
  let apart := (toInt 32 (ofInt 32 (a.1 - b.1))).natAbs
  let sect := a.2 ≤ 2 ^ 30 && b.2 ≤ 2 ^ 30 && (a.2 == 0 || b.2 == 0 || a.2 + b.2 ≤ apart)
  0 < s.get (F.ALC_D_FMAX_N i) && ascends (s.curvePts i) && ascends (s.cmdPts i) && slopesRise (s.curvePts i) && (t != 1 || sect) &&
    (t != 3 || (0 < s.get (F.ALC_D_RUD_KR i) && 0 < s.get (F.ALC_D_RUD_DMAX i)))

/-- Words of a description as a major tick applies them (R337, R339): the sector words wait for the end of a transit; an invalid
description is discarded whole while the thruster is on. [DEDUCED: log 229] -/
def State.descApply (s : State) (i : Nat) (ws : List (Nat × Nat)) : State :=
  let isFs (o : Nat) : Bool := o % 0x100 == 0x24 || o % 0x100 == 0x28
  let t := s.thr i
  let wait := if t.st = 2 then ws.filter (fun p => isFs p.1) else []
  let now := if t.st = 2 then ws.filter (fun p => !isFs p.1) else ws
  let s1 := s.modThr i (fun t => { t with fs := t.fs ++ wait, bad := false })
  let s2 := s1.each now (fun s p => s.setWord p.1 p.2)
  if t.st = 0 ∨ s2.descValid i then s2 else (s1.put F.ALC_ERR_CFG 1).raise 100
/-- The sector words that waited for the end of a transit (R337). [DEDUCED: log 227] -/
def State.fsServe (s : State) (i : Nat) : State :=
  let t := s.thr i
  if t.st != 2 && !t.fs.isEmpty then (s.modThr i (fun t => { t with fs := [] })).descApply i t.fs else s

/-! ### References, sectors, regions -/

/-- Reference point (R315): angle, t in kN, force in kN. [DEDUCED: log 220] -/
def State.thrRef (s : State) (i : Nat) : Nat × Fl × Fl × Fl :=
  let t := s.thr i
  let fb := s.get (F.ALC_D_SLEW_FBCH i)
  if t.enter then
    (if fb < 96 && s.flag (F.SIG_S_STAT_VALID fb) then s.get (F.SIG_S_VAL_VALUE fb) else s.res i 1, Fl.zero, Fl.zero, Fl.zero)
  else
    let fx := kilo (s.resI i 2); let fy := kilo (s.resI i 3)
    (s.res i 1, if s.thrType i = 1 then ((fx.mul fx).add (fy.mul fy)).sqrt else kilo (s.resI i 0), fx, fy)

/-- Change of angle in one frame, in 2^-32 turns. -/
def State.slewBam (s : State) (i : Nat) : Fl := ((Fl.ofInt (s.get (F.ALC_D_SLEW_SLEW i) : Nat)).scale 32).div (Fl.ofInt 360000)
/-- Side and way from an angle to the near edge of a sector: +1 clockwise; a negative way lies inside. -/
def State.edgeWay (s : State) (i k th : Nat) : Option (Int × Int) :=
  let q := s.sector i k
  if q.2 = 0 ∨ s.thrType i ≠ 1 then none
  else
    let d := toInt 32 (ofInt 32 ((q.1 : Int) - th))
    some (if 0 ≤ d then (1, d - q.2) else (-1, -d - q.2))
/-- Angle at a way from another, BAM32. -/
def turned (th : Nat) (x : Int) : Nat := ofInt 32 ((th : Int) + x)
/-- Radians of an angle with an offset. -/
def angleAt (th : Nat) (x : Fl) : Fl := bamRad ((Fl.ofInt th).add x)
/-- Unit vector and its perpendicular. -/
def uVec (a : Fl) : List Fl := [Fl.cos a, Fl.sin a]
/-- See `uVec`. -/
def vVec (a : Fl) : List Fl := [(Fl.sin a).neg, Fl.cos a]
/-- A vector negated. -/
def negV (l : List Fl) : List Fl := l.map Fl.neg
/-- A vector scaled. -/
def sclV (k : Fl) (l : List Fl) : List Fl := l.map (fun x => k.mul x)

/-- Slopes with their points: (T_k, P_k, S_k), kN and kW (R320). -/
def State.segments (s : State) (i : Nat) : List (Fl × Fl × Fl) :=
  let p := s.curvePts i
  (List.range 8).map (fun k =>
    let a := nth p k (0, 0); let b := nth p (k + 1) (0, 0)
    (kilo a.1, kilo a.2, (Fl.ratio (b.2 - a.2) (b.1 - a.1)).r32))
/-- Power rows along a direction of the force, numbered from `k0`. -/
def powerRows (seg : List (Fl × Fl × Fl)) (k0 : Nat) (dir : List Fl) : List QRow :=
  (seg.zip (List.range 8)).map (fun p => { k := k0 + p.2, a := sclV p.1.2.2 dir, b := (p.1.2.2.mul p.1.1).sub p.1.2.1 })

/-- Sector-edge rows of the main problem: the row that stands at the edge of sector k (12 or 13), where that edge is the one that clips its side (R323). -/
def State.edgeRow (s : State) (i k th : Nat) : Option Nat :=
  match s.edgeWay i k th with
  | some (d, w) =>
    let other := match s.edgeWay i (1 - k) th with
      | some (d', w') => d' == d && decide (w' < w)
      | none => false
    if (Fl.ofInt w).le (s.slewBam i) && !other then some (if d = 1 then 13 else 12) else none
  | none => none
/-- Clipped reachable offsets of an azimuth, 2^-32 turns (R318, R323). -/
def State.reach (s : State) (i th : Nat) : Fl × Fl :=
  let d := s.slewBam i
  (List.range 2).foldl (fun acc k => match s.edgeWay i k th with
    | some (dir, w) =>
      let x := Fl.ofInt (max 0 w)
      if (Fl.ofInt w).le d then (if dir = 1 then (acc.1, Fl.min acc.2 x) else (Fl.max acc.1 x.neg, acc.2)) else acc
    | none => acc) (d.neg, d)

/-- One frame of a transit (R325): magnitude is the caller's; the angle and the transit afterwards. -/
def Transit.advance (t : Transit) (th : Nat) (m0 : Fl) (step : Fl) : Nat × Transit :=
  let goal := if t.thru then t.far else t.near
  let way := max 0 (t.dir * toInt 32 (ofInt 32 ((goal : Int) - th)))
  let here := if (Fl.ofInt way).le step then goal else turned th (t.dir * step.rne)
  if !t.thru && m0.isZero && way == 0 then
    let w2 := max 0 (t.dir * toInt 32 (ofInt 32 ((t.far : Int) - th)))
    (if (Fl.ofInt w2).le step then t.far else turned th (t.dir * step.rne), { t with thru := true })
  else (here, t)

/-- Magnitude lowered by TDN in one frame. -/
def State.lowered (s : State) (i : Nat) (m : Fl) : Fl := Fl.max Fl.zero (m.sub ((Fl.ratio (s.get (F.ALC_D_TDN_RATE i) : Nat) 100000).r32))

/-- Body columns of the force variables (R313). -/
def State.thrCols (s : State) (i : Nat) : List (List Fl) :=
  let lx := kilo (s.getI (F.ALC_D_LX_MM i)); let ly := kilo (s.getI (F.ALC_D_LY_MM i))
  let col (x y : Fl) : List Fl := [x, y, (lx.mul y).sub (ly.mul x)]
  let o := Fl.ofInt 1
  match s.thrType i with
  | 2 => [col Fl.zero o]
  | 4 => let a := bamRad (Fl.ofInt (s.get (F.ALC_D_ANG_BAM i))); [col (Fl.cos a) (Fl.sin a)]
  | _ => [col o Fl.zero, col Fl.zero o]

/-- WP_i; 0 acts as 1/256. -/
def State.thrWp (s : State) (i : Nat) : Fl := Fl.mk' (max 1 (s.get (F.ALC_D_WP_WP i)) : Nat) (-8)

/-- A thruster in the main problem (R317 to R320, R325). -/
def State.mainThr (s : State) (i : Nat) : QThr :=
  let t := s.thr i
  let r := s.thrRef i
  let th := r.1; let t0 := r.2.1; let fx := r.2.2.1; let fy := r.2.2.2
  let up := (Fl.ratio (s.get (F.ALC_D_TUP_RATE i) : Nat) 100000).r32
  let dn := (Fl.ratio (s.get (F.ALC_D_TDN_RATE i) : Nat) 100000).r32
  let fmax := kilo (s.get (F.ALC_D_FMAX_N i)); let frev := kilo (s.get (F.ALC_D_FREV_N i))
  let seg := s.segments i
  let base : QThr := { i := i, bus := s.get (F.ALC_T_CFG_BUS i), cols := s.thrCols i, rows := [], prow := [], dir := [], lo := Fl.zero, hi := Fl.zero
                       brk := (s.curvePts i).map (fun p => kilo p.1), wp := s.thrWp i, f0 := [] }
  let ramp := t.st == 3
  let toZero (x : Fl) : Fl := if x.sign < 0 then (s.lowered i x.abs).neg else s.lowered i x
  match s.thrType i with
  | 1 =>
    let u0 := uVec (angleAt th Fl.zero)
    match t.trans with
    | some tr =>
      let m := s.lowered i t0
      let a := angleAt (tr.advance th t0 (s.slewBam i)).1 Fl.zero
      let u := uVec a; let v := vVec a
      { base with rows := [⟨0, u, m⟩, ⟨1, negV u, m.neg⟩, ⟨2, v, Fl.zero⟩, ⟨3, negV v, Fl.zero⟩], prow := powerRows seg 16 u0, dir := u, lo := m, hi := m, f0 := [fx, fy] }
    | none =>
      let o := if ramp then (Fl.zero, Fl.zero) else s.reach i th
      let mLo := if ramp then s.lowered i t0 else Fl.max Fl.zero (t0.sub dn)
      let mHi := if ramp then mLo else Fl.min fmax (t0.add up)
      let arc := (List.range 12).map (fun k =>
        ({ k := k, a := uVec (angleAt th (o.1.add (((o.2.sub o.1).mul (Fl.mk' (2 * k + 1) (-1))).div (Fl.ofInt 12)))), b := mHi } : QRow))
      { base with
        rows := arc ++ [⟨12, negV (vVec (angleAt th o.1)), Fl.zero⟩, ⟨13, vVec (angleAt th o.2), Fl.zero⟩, ⟨14, negV u0, mLo.neg⟩, ⟨15, u0, mHi⟩]
        prow := powerRows seg 16 u0, dir := u0, lo := mLo, hi := mHi, f0 := [fx, fy] }
  | 3 =>
    let kr := Fl.mk' (s.get (F.ALC_D_RUD_KR i)) (-15)
    let one := Fl.ofInt 1; let z := Fl.zero
    let lo := if ramp then toZero fx else if t.astern then Fl.max frev.neg (fx.sub dn) else Fl.max z (fx.sub dn)
    let hi := if ramp then lo else if t.astern then Fl.min z (fx.add up) else Fl.min fmax (fx.add up)
    let del := ((kr.mul fmax).mul (Fl.ofInt (s.get (F.ALC_D_SLEW_SLEW i) : Nat))).div (Fl.ofInt ((100 * max 1 (s.get (F.ALC_D_RUD_DMAX i)) : Nat)))
    let pin := if fx.isZero then z else (fy.mul lo).div fx
    let side := if ramp then [⟨4, [z, one], pin⟩, ⟨5, [z, one.neg], pin.neg⟩]
      else if t.astern then [⟨4, [z, one], z⟩, ⟨5, [z, one.neg], z⟩]
      else [⟨2, [kr.neg, one], z⟩, ⟨3, [kr.neg, one.neg], z⟩, ⟨4, [z, one], fy.add del⟩, ⟨5, [z, one.neg], del.sub fy⟩]
    { base with rows := [⟨0, [one.neg, z], lo.neg⟩, ⟨1, [one, z], hi⟩] ++ side, prow := powerRows seg 16 [one, z], dir := [one, z], lo := lo, hi := hi, f0 := [fx, fy] }
  | _ =>
    let one := Fl.ofInt 1
    let lo := if ramp then toZero t0 else Fl.max frev.neg (t0.sub dn)
    let hi := if ramp then lo else Fl.min fmax (t0.add up)
    { base with rows := [⟨0, [one.neg], lo.neg⟩, ⟨1, [one], hi⟩], prow := powerRows seg 16 [one], dir := [one], lo := lo, hi := hi, f0 := [t0] }

/-! ### Thruster states -/

/-- AVAIL and the island's bit (R336). -/
def State.thrAvail (s : State) (i : Nat) : Bool := s.flag (F.ALC_T_CFG_AVAIL i) && bitOf s.alc.saf i
/-- Zero thrust in the result in effect, the angle held (R335); the body forces and powers of the result follow (R333). -/
def State.zeroResult (s : State) (i : Nat) : State :=
  let fx := s.resI i 2; let fy := s.resI i 3
  let p := s.res i 4
  let b := s.get (F.ALC_T_CFG_BUS i)
  let n := divRne (s.getI (F.ALC_D_LX_MM i) * fy - s.getI (F.ALC_D_LY_MM i) * fx) 1000
  let s1 := ((((s.put (F.ALC_T_RES_WORD i 0) 0).put (F.ALC_T_RES_WORD i 2) 0).put (F.ALC_T_RES_WORD i 3) 0).put (F.ALC_T_RES_WORD i 4) 0)
  let s2 := ((s1.putSat F.ALC_TAU_X_VALUE (s.getI F.ALC_TAU_X_VALUE - fx)).putSat F.ALC_TAU_Y_VALUE (s.getI F.ALC_TAU_Y_VALUE - fy)).putSat F.ALC_TAU_N_VALUE (s.getI F.ALC_TAU_N_VALUE - n)
  (s2.put F.ALC_PTOT_W (s.get F.ALC_PTOT_W - p)).put (F.ALC_BUS_PWR_W b) (s.get (F.ALC_BUS_PWR_W b) - p)
/-- A change of state (R335); event 101. -/
def State.thrTo (s : State) (i st : Nat) : State := if (s.thr i).st = st then s else (s.modThr i (fun t => { t with st := st })).raiseMajor 101
/-- A thruster enters FAULT (R335): removed at once; events 98 and 101. -/
def State.thrFault (s : State) (i : Nat) : State :=
  if (s.thr i).st = 0 ∨ (s.thr i).st = 5 then s
  else
    let s1 := ((s.zeroResult i).modThr i (fun t => { t with trans := none, cnt := [0, 0], enter := false })).thrTo i 5
    ((s1.put (F.ALC_T_STAT_STATE i) 5).put ⟨(F.ALC_T_RES_WORD i 6).off, 7, 0⟩ 5).raise 98
/-- ACTIVE, or TRANSIT where the reference angle lies inside a sector (R327). -/
def State.thrStart (s : State) (i : Nat) : State :=
  let th := (s.thrRef i).1
  let inside := (List.range 2).find? (fun k => match s.edgeWay i k th with | some (_, w) => decide (w < 0) | none => false)
  match inside with
  | none => s.thrTo i 1
  | some k =>
    let q := s.sector i k
    let d := toInt 32 (ofInt 32 ((q.1 : Int) - th))
    let cw := d + q.2 ≤ (q.2 : Int) - d
    let tr : Transit := { sect := k, dir := if cw then 1 else -1, near := th, far := turned q.1 (if cw then q.2 else -(q.2 : Int)), thru := true }
    ((s.modThr i (fun t => { t with trans := some tr, crossings := satInc 65535 t.crossings })).thrTo i 2)
/-- A thruster enters the problem (R315, R327). -/
def State.thrEnter (s : State) (i : Nat) : State :=
  (s.modThr i (fun t => { t with enter := true, trans := none, cnt := [0, 0], lam := [none, none], astern := false })).thrStart i

/-- The state machine of a thruster at the start of a main solve (R335, R336). [DEDUCED: log 224] -/
def State.thrMachine (s : State) (i : Nat) : State :=
  let t := s.thr i
  let on := s.flag (F.ALC_T_CFG_EN i) && s.thrType i != 0
  let av := s.thrAvail i
  if !on then
    if t.st = 0 then s else (s.modThr i (fun t => { t with trans := none, cnt := [0, 0], enter := false, bad := false })).thrTo i 0
  else if t.st != 0 && t.st != 5 && bitOf s.alc.saf (16 + i) then s.thrFault i
  else match t.st with
    | 0 =>
      if !s.descValid i then (if t.bad then s else ((s.put F.ALC_ERR_CFG 1).raise 100).modThr i (fun t => { t with bad := true }))
      else if av then s.thrEnter i else s
    | 1 => if av then s else s.thrTo i 3
    | 2 =>
      if !av then (s.modThr i (fun t => { t with trans := none })).thrTo i 3
      else match t.trans with
        | some tr => if tr.thru && (s.thrRef i).1 == tr.far && !t.enter then
            (s.modThr i (fun t => { t with trans := none, hold := s.get F.ALC_XCFG_XHOLD * 100, cnt := [0, 0] })).thrTo i 1
          else s
        | none => s.thrTo i 1
    | 3 => if av then s.thrStart i else if s.resI i 0 = 0 then s.thrTo i 4 else s
    | 4 => if av then s.thrEnter i else s
    | _ => s

/-- ALC_THRUSTER_FAULT (R335). -/
def execAlcThrusterFault (i : Fin 16) (s : State) : Host.Outcome State Fault Refusal := .next (s.lanes fun s => s.thrFault i)
/-- CMD.CLRFLT (R335). -/
def State.thrClear (s : State) (i : Nat) : State := if (s.thr i).st = 5 ∧ s.thrAvail i then s.thrEnter i else s
/-- ALC_THRUSTER_CLRFLT (R335). -/
def execAlcThrusterClrflt (i : Fin 16) (s : State) : Host.Outcome State Fault Refusal := .next (s.lanes fun s => s.thrClear i)
/-- A write of ALC_T_i_CMD (R335): both bits in one write are discarded. -/
def State.thrCmd (s : State) (i v : Nat) : State := match v % 4 with
  | 1 => s.thrFault i
  | 2 => s.thrClear i
  | _ => s

/-! ### Crossing and commitment -/

/-- Frames of ALC_XCFG.XT; 0 acts as 1. [DEDUCED: log 225] -/
def State.crossFrames (s : State) : Nat := 10 * max 1 (s.get F.ALC_XCFG_XT)
/-- A crossing begins (R324): the sector whose count is complete, the one with the larger multiplier, sector 0 on equal ones;
event 99. -/
def State.crossBegin (s : State) (i : Nat) : State :=
  let t := s.thr i
  let full (k : Nat) : Bool := decide (s.crossFrames ≤ nth t.cnt k 0)
  let l (k : Nat) : Fl := (nth t.lam k none).getD Fl.zero
  if t.st = 1 ∧ s.thrType i = 1 ∧ (full 0 ∨ full 1) then
    let k := if full 0 ∧ (full 1 = false ∨ (l 1).le (l 0)) then 0 else 1
    let th := s.res i 1
    match s.edgeWay i k th with
    | none => s
    | some (d, _) =>
      let q := s.sector i k
      let tr : Transit := { sect := k, dir := d, near := turned q.1 (-d * q.2), far := turned q.1 (d * q.2), thru := false }
      (((s.modThr i (fun t => { t with trans := some tr, cnt := [0, 0], crossings := satInc 65535 t.crossings })).thrTo i 2).raise 99)
  else s
/-- CROSSING_BEGIN (R324). -/
def execCrossingBegin (i : Fin 16) (s : State) : Host.Outcome State Fault Refusal := .next (s.lanes fun s => s.crossBegin i)
/-- A rudder changes its commitment (R326); event 99. -/
def State.rudderChange (s : State) (i : Nat) : State :=
  let t := s.thr i
  if t.st = 1 ∧ s.thrType i = 3 ∧ s.crossFrames ≤ nth t.cnt 0 0 then
    (s.modThr i (fun t => { t with astern := !t.astern, cnt := [0, 0], hold := s.get F.ALC_XCFG_XHOLD * 100, crossings := satInc 65535 t.crossings })).raise 99
  else s
/-- RUDDER_COMMIT_CHANGE (R326). -/
def execRudderCommitChange (i : Fin 16) (s : State) : Host.Outcome State Fault Refusal := .next (s.lanes fun s => s.rudderChange i)

/-- The counts of a thruster after a main solve (R324, R326); `w` is the final working set. -/
def State.crossCount (s : State) (w : List (Nat × Fl)) (i : Nat) : State :=
  let t := s.thr i
  let mul (k : Nat) : Option Fl := w.lookup (i * 24 + k)
  let th := (s.thrRef i).1
  let rows : List (Option Nat) := if s.thrType i = 3 then
      [some (if t.astern then 1 else 0), none]
    else [s.edgeRow i 0 th, s.edgeRow i 1 th]
  let lam := rows.map (fun r => r.bind mul)
  let thr := Fl.ofInt (s.get F.ALC_XCFG_XTHR : Nat)
  let step (k : Nat) : Nat := match nth lam k none with
    | some x => if thr.lt x && t.hold == 0 && t.st == 1 then nth t.cnt k 0 + 1 else 0
    | none => 0
  s.modThr i (fun t => { t with lam := lam, cnt := [step 0, step 1], hold := t.hold - 1 })

/-! ### The main solve -/

/-- WN as it acts: derived at basic level. -/
def State.alcWn (s : State) : Nat :=
  if s.expert 8 then max 1 (s.get F.ALC_WN_W)
  else let n := max 1 (s.get F.EST_VESSEL_LEN); max 1 (divRne 400000 (n * n)).toNat
/-- Weights of the solves (R316); 0 acts as 1. -/
def State.alcWeights (s : State) : QWeights :=
  let w (f : Fld) : Fl := (Fl.ofInt (max 1 (s.get f) : Nat)).r32
  { wx := w F.ALC_WX_W, wy := w F.ALC_WY_W, wn := (Fl.ofInt s.alcWn).r32, reg := w F.ALC_REG_W }
/-- Iteration limit of the main solve. -/
def State.itMax (s : State) : Nat := min 64 (max 1 (s.get F.ALC_CTRL_ITMAX))

/-- Whether the row named has Fx = 0 as its bound: the commitment row is active only there (R326). [DESIGN CHOICE: log 230] -/
def rudderAtZero (q : QThr) (astern : Bool) : Bool := if astern then q.hi.isZero else q.lo.isZero

/-- U_b, Pmin_b and whether Pmin_b decides (R322). -/
def State.busBound (s : State) (l : List QThr) (b : Nat) : Fl × Fl × Bool :=
  let pmin := l.foldl (fun acc q => if q.bus = b then acc.add q.pMin else acc) Fl.zero
  let pa := kilo (s.get (F.ALC_ENV_PA_W b))
  let ra := s.get (F.ALC_ENV_RA_W b)
  let rise := (kilo (s.get (F.ALC_BUS_PWR_W b))).add ((Fl.ratio ra 100000).r32)
  let env := if ra = 0xFFFFFFFF then pa else Fl.min pa rise
  (Fl.max env pmin, pmin, env.lt pmin)

/-- kN or kW as a whole number of N or W. -/
def whole (x : Fl) : Int := (x.mul (Fl.ofInt 1000)).rne
/-- t of a force (R313). -/
def QThr.tOf (q : QThr) (u : List Fl) (f : List Fl) : Fl := if q.nf = 1 then nth f 0 Fl.zero else dotD u f

/-- The command of R334: linear between the nine points, clamped outside them. -/
def interpCmd (t : Int) : List (Int × Int) → Int
  | [] => 0
  | [p] => p.2
  | a :: b :: r => if t ≤ a.1 then a.2 else if t < b.1 then a.2 + divRne ((b.2 - a.2) * (t - a.1)) (b.1 - a.1).toNat else interpCmd t (b :: r)

/-- ACT forms the commands of the result in effect (R334). [DESIGN CHOICE: log 154] -/
def State.thrCommands (s : State) : State :=
  s.each (List.range 16) (fun s i => s.putI (F.ALC_T_RES_WORD i 5) (interpCmd (s.resI i 0) (s.cmdPts i)))

/-- Angle of a thruster in a result (R319, R333): BAM32. -/
def State.resAngle (s : State) (q : QThr) (f : List Fl) : Nat :=
  let i := q.i
  let th := (s.thrRef i).1
  let fx := nth f 0 Fl.zero; let fy := nth f 1 Fl.zero
  match s.thrType i with
  | 1 => match (s.thr i).trans with
    | some tr => (tr.advance th (s.thrRef i).2.1 (s.slewBam i)).1
    | none => if (Fl.ratio 1 1000).le (((fx.mul fx).add (fy.mul fy)).sqrt) && (s.thr i).st != 3 then radBam (Fl.atan2 fy fx) else th
  | 2 => 0x40000000
  | 3 => if Fl.zero.lt fx then
      let kr := Fl.mk' (s.get (F.ALC_D_RUD_KR i)) (-15)
      ofInt 32 (((((Fl.ofInt (s.get (F.ALC_D_RUD_DMAX i) : Nat)).mul fy).div (kr.mul fx)).scale 32).div (Fl.ofInt 3600)).rne
    else 0
  | _ => s.get (F.ALC_D_ANG_BAM i)

/-- Result words of a thruster in the problem (R333). -/
def State.resWords (s : State) (q : QThr) (f : List Fl) (w : List (Nat × Fl)) (raised : Bool) : List (Nat × Nat) :=
  let i := q.i
  let r := s.thrRef i
  let u := if s.thrType i = 1 then uVec (angleAt r.1 Fl.zero) else q.dir
  let t := q.tOf u f
  let bf := (List.range 2).map (fun k => dotD (q.cols.map (fun c => nth c k Fl.zero)) f)
  let has (k : Nat) : Bool := (w.lookup (i * 24 + k)).isSome
  let th := (s.thr i)
  let az := s.thrType i == 1 && th.trans.isNone
  let edge := az && th.lam.any Option.isSome
  let lam := th.lam.foldl (fun acc x => Fl.max acc (x.getD Fl.zero)) Fl.zero
  let fl := b2n (az && has 15) + 2 * b2n (az && has 14) + 4 * b2n edge + 8 * b2n th.astern + 16 * b2n raised
  let base := (F.ALC_T_RES_WORD i 0).off
  [(base, ofInt 32 (whole t)), (base + 4, s.resAngle q f), (base + 8, ofInt 32 (whole (nth bf 0 Fl.zero))), (base + 12, ofInt 32 (whole (nth bf 1 Fl.zero))),
   (base + 16, (whole (q.curve f)).toNat), (base + 20, ofInt 32 (interpCmd (whole t) (s.cmdPts i))), (base + 24, th.st + 256 * fl),
   (base + 28, min (2 ^ 32 - 1) lam.rne.toNat)]
/-- Result words of a thruster outside the problem: zero thrust, angle held. [DEDUCED: log 223] -/
def State.zeroWords (s : State) (i : Nat) : List (Nat × Nat) :=
  let base := (F.ALC_T_RES_WORD i 0).off
  [(base, 0), (base + 4, s.res i 1), (base + 8, 0), (base + 12, 0), (base + 16, 0), (base + 20, ofInt 32 (interpCmd 0 (s.cmdPts i))),
   (base + 24, (s.thr i).st + 256 * 8 * b2n (s.thr i).astern), (base + 28, 0)]
/-- ALC_T_i_STAT. -/
def State.thrStatWord (s : State) (i : Nat) : Nat :=
  let t := s.thr i
  let e := maskOf (t.lam.map Option.isSome)
  t.st + 8 * (t.trans.map (·.sect)).getD 0 + 16 * b2n t.astern + 32 * (if s.thrType i = 1 then e else 0) +
    256 * min 255 (max (nth t.cnt 0 0) (nth t.cnt 1 0)) + 65536 * t.crossings

/-- The main solve (R315 to R333). -/
def State.mainSolve (s0 : State) : State :=
  let s := s0.each (List.range 16) State.thrMachine
  let ids := (List.range 16).filter (fun i => let t := (s.thr i).st; 1 ≤ t && t ≤ 3)
  let l := ids.map (fun i => (s.mainThr i).held)
  let buses := (List.range 4).filter (fun b => l.any (fun q => q.bus == b))
  let bb := (List.range 4).map (fun b => s.busBound l b)
  let bound (b : Nat) : Fl × Fl × Bool := nth bb b (Fl.zero, Fl.zero, false)
  let bounds := buses.map (fun b => (b, (bound b).1.r32))
  let dem := s.cle.md.demand.map kilo
  let r := solveQp l bounds s.alcWeights dem s.alc.wset s.itMax
  let sol := r.1
  let w := sol.w.filter (fun p => match l.find? (fun q => decide (p.1 / 24 = q.i) && s.thrType q.i == 3) with
    | some q => p.1 % 24 != (if (s.thr q.i).astern then 1 else 0) || rudderAtZero q (s.thr q.i).astern
    | none => true)
  let s1 := s.each ids (fun s i => s.crossCount w i)
  let lr (b : Nat) : Bool := buses.contains b && (bound b).2.2
  let res := (l.zip sol.x).flatMap (fun p => s1.resWords p.1 p.2.1 w (lr p.1.bus))
  let off := ((List.range 16).filter (fun i => !ids.contains i)).flatMap s1.zeroWords
  let bf := bodyForce l sol.x
  let sl := slackOf l sol.x dem
  let pw (b : Nat) : Nat := (l.zip sol.x).foldl (fun acc p => if p.1.bus = b then acc + (whole (p.1.curve p.2.1)).toNat else acc) 0
  let busW := (List.range 4).flatMap (fun b =>
    let m := maskOf ((List.range 16).map (fun i => l.any (fun q => q.i == i && q.bus == b)))
    [((F.ALC_BUS_LIM_W b).off, if buses.contains b then (whole (bound b).1).toNat else 0), ((F.ALC_BUS_PWR_W b).off, pw b),
     ((F.ALC_BUS_PMIN_W b).off, (whole (bound b).2.1).toNat),
     ((F.ALC_BUS_STAT_THR b).off, m + 2 ^ 16 * b2n (lr b) + 2 ^ 17 * b2n (sol.w.any (fun p => p.1 == 384 + b)))])
  let st := b2n sol.conv + 2 * b2n r.2.2 + 4 * b2n r.2.1 + 16 * maskOf ((List.range 4).map lr) + 256 * sol.iter + 2 ^ 16 * varCount l + 2 ^ 24 * l.length
  let tw (f : Fld) (x : Fl) : Nat × Nat := (f.off, ofInt 32 (clampS 32 (whole x)))
  let g (v : List Fl) (k : Nat) : Fl := nth v k Fl.zero
  let stw := (List.range 16).map (fun i => ((F.ALC_T_STAT_STATE i).off, s1.thrStatWord i))
  let words := res ++ off ++ stw ++ busW ++ [(F.ALC_STATUS_CONV.off, st), (F.ALC_SIZE_NROW.off, 24 * l.length + buses.length),
    tw F.ALC_TAU_X_VALUE (g bf 0), tw F.ALC_TAU_Y_VALUE (g bf 1), tw F.ALC_TAU_N_VALUE (g bf 2), tw F.ALC_SLACK_X_VALUE (g sl 0), tw F.ALC_SLACK_Y_VALUE (g sl 1),
    tw F.ALC_SLACK_N_VALUE (g sl 2), (F.ALC_PTOT_W.off, pw 0 + pw 1 + pw 2 + pw 3)]
  let adv (s : State) (i : Nat) : State := s.modThr i (fun t => { t with
    enter := false
    trans := t.trans.map (fun tr => (tr.advance (s1.thrRef i).1 (s1.thrRef i).2.1 (s1.slewBam i)).2) })
  let s2 := ((s1.each ids adv).each ids State.crossBegin).each ids State.rudderChange
  let s3 := s2.modAlc (fun a => { a with wset := sol.w.map Prod.fst, next := a.next ++ words, fresh := true })
  if r.2.2 then (s3.put F.ALC_ERR_NOCONV 1).raiseMajor 96 else s3

end Sys2Proof.Machine
end

