-- ==== Sys2Proof/Machine/Arb.lean ====
section
/-! DEFINITION. Measurement updates and tests (R218, R225, R226, R241 to R245), reference states and votes (R246 to R255), Gecko
hold (R256 to R259). -/

namespace Sys2Proof.Machine

open Sys2Proof

/-! ### Measurements of reference tracks -/

/-- A measurement of a reference as it enters the tests. -/
structure RefIn where
  /-- Reference: PRk at k, HRh at 12 + h. -/
  i : Nat
  /-- Instant. -/
  m : Nat
  /-- Measured values: m, or radians. -/
  z : List Fl
  /-- Measurement noise. -/
  r : Mat
  /-- Raw values: mm, or BAM32. -/
  raw : List Int
  /-- The fix in mm, or the heading in BAM32, as the record shows it (R237). -/
  fix : List Int
  /-- Record FLAGS that come with it. -/
  flags : Nat
  /-- A value saturated in projection. -/
  clipped : Bool
  /-- SD of the fix, mm, or of the heading, BAM32. -/
  sd : Nat
  /-- Velocity north and east with its covariance (R224). -/
  vel : Option (List Fl × Mat)
  /-- Channels used and excluded. -/
  sats : Nat × Nat

/-- A row of 15 with ones at given places. -/
def onesRow (l : List Nat) : List Fl := (List.range 15).map (fun j => if l.contains j then Fl.ofInt 1 else Fl.zero)
/-- Measured rows of a reference (R225). -/
def refRows (i : Nat) : Mat := if i < 12 then [onesRow [0, 9], onesRow [1, 10]] else [onesRow [2, 11]]
/-- Measured rows of a velocity. -/
def velRows : Mat := [onesRow [3], onesRow [4]]
/-- Rotation of north and east into the body frame. -/
def bodyRot (psi : Fl) : Mat := [[Fl.cos psi, Fl.sin psi], [(Fl.sin psi).neg, Fl.cos psi]]

/-- The vessel track as a measurement sees it: state and covariance at the instant, and the transition to the current state for a
delayed one (R218). -/
structure View where
  /-- State. -/
  x : List Fl
  /-- Covariance. -/
  p : Mat
  /-- Transition. -/
  phi : Option Mat

/-- The current track. -/
def State.viewNow (s : State) : View := { x := s.est.x, p := s.est.p, phi := none }

/-- The vessel track at an instant before the last tick, from the snapshot at the last tick before it (R218); none when it lies
before the oldest snapshot. -/
def State.viewAt (s : State) (m : Nat) : Option View :=
  let newer := s.est.snaps.takeWhile (fun q => decide (linDiff m q.t < 0))
  match s.est.snaps[newer.length]? with
  | none => none
  | some q =>
    let d := (linDiff m q.t).toNat
    let a := s.vesselProp q.tau q.t 0 d q.x q.p
    match newer.reverse with
    | [] => some { x := a.x, p := a.p, phi := none }
    | nx :: rest =>
      let b := s.vesselProp q.tau q.t d (linDiff nx.t m).toNat a.x a.p
      some { x := a.x, p := a.p, phi := some (rest.foldl (fun acc r => Mat.mul r.phi acc) b.phi) }

/-- The gain of the vessel track as it acts: in GECKO the bias states keep their values (R257). [DEDUCED: log 176] -/
def State.heldGain (s : State) (k : Mat) : Mat :=
  if s.est.st = 4 then (List.range k.length).map (fun i => let r := nth k i []; if 6 ≤ i ∧ i < 9 then r.map (fun _ => Fl.zero) else r) else k

/-- Fuses an innovation into the vessel track (R218, R221, R225): gain rows h, innovation covariance inverse, total noise. -/
def State.fuse (s : State) (v : View) (h sinv rTot : Mat) (sc : Mat) (nu : List Fl) : State :=
  match v.phi with
  | none =>
    let k := s.heldGain (Mat.mul (Mat.mul s.est.p h.tr) sinv)
    let u := josephUpdate s.est.x s.est.p h k rTot nu
    if u.ok then s.modEst (fun e => { e with x := wrapPsi u.x, p := u.p }) else s.vesselFault
  | some phi =>
    let k := s.heldGain (Mat.mul (Mat.mul (Mat.mul phi v.p) h.tr) sinv)
    let x := wrapPsi (vadd s.est.x (Mat.app k nu))
    let p := (Mat.sub s.est.p (Mat.mul (Mat.mul k sc) k.tr)).symm
    if p.sound && x.all (fun a => !a.bad) then s.modEst (fun e => { e with x := x, p := p, fl := Nat.lor e.fl 16 }) else s.vesselFault

/-- NIS = νᵀ S⁻¹ ν in binary64. -/
def nisFl (nu : List Fl) (sinv : Mat) : Fl := dotD nu (appD sinv nu)
/-- NIS as UQ16.16. -/
def nisWord (nu : List Fl) (sinv : Mat) : Nat := min (2 ^ 32 - 1) ((nisFl nu sinv).scale 16).rne.toNat

/-- Metres to mm, or radians to signed BAM32. -/
def refInt (i : Nat) (x : Fl) : Int := if i < 12 then clampS 32 (x.mul (Fl.ofInt 1000)).rne else radBamS x

/-- The measurement is rejected before its tests for spoofing (R244). -/
def State.spoofed (s : State) (i : Nat) : Bool :=
  let n := s.refStream i
  let internal := s.get (F.ALN_ST_CFG_MODE n) == 3
  let src := s.get (F.ALN_ST_CFG_REFSRC n)
  s.flag F.GNS_STATUS_SPOOF && s.flag F.EST_ARB_SPOOF_EXCL &&
    (if i < 12 then s.prType i == 3 || (internal && src ≤ 1) || s.bit F.EST_ARB_SPOOF_GNSS i else internal && src == 2)

/-- Sum of squares minus squared mean, times n squared, of one axis of a window. -/
def spread (l : List (Nat × List Int)) (a : Nat) : Int :=
  let xs := l.map (fun p => nth p.2 a 0)
  l.length * (xs.map (fun x => x * x)).sum - xs.sum * xs.sum

/-- Signed difference of two raw values: of headings modulo a turn. -/
def rawDiff (i : Nat) (a b : Int) : Int := if i < 12 then a - b else toInt 32 (ofInt 32 (a - b))

/-- Freeze test (R242). [DESIGN CHOICE: log 165] -/
def State.testFreeze (s : State) (q : RefIn) (t : RefTrack) : Bool :=
  let frz := if q.i < 12 then s.get (F.EST_ARB_PR_T1_FRZ_T q.i) else s.get (F.EST_ARB_HR_T1_FRZ_T (q.i - 12))
  frz != 0 && t.z == q.raw && decide ((frz * 100000000 : Nat) ≤ linDiff q.m t.sameAt)

/-- Range test (R242); of a RELATIVE reference the distance is that of the measured vectors, of the others that of the fixes, which
carry the present origin (R231). -/
def State.testRange (s : State) (q : RefIn) (t : RefTrack) : Bool :=
  let dt := (linDiff q.m t.m).natAbs
  !t.first && (q.clipped ||
    if q.i < 12 then
      let v := max 1 (s.get (F.EST_ARB_PR_T1_VMAX q.i))
      let lim := v * dt + s.get (F.EST_ARB_PR_T1_JMP q.i) * 1000000
      let l := if s.prType q.i = 2 then q.raw.zip t.z else q.fix.zip t.fix
      let d2 := (l.map (fun p => (p.1 - p.2) * (p.1 - p.2))).sum
      decide (((lim * lim : Nat) : Int) < d2 * 10 ^ 12)
    else
      let v := max 1 (s.get (F.EST_ARB_HR_T1_RMAX (q.i - 12)))
      let lim := v * 100 * dt + s.get (F.EST_ARB_HR_T1_HJMP (q.i - 12)) * 10 ^ 9
      decide (lim * 2 ^ 32 < (rawDiff 12 (nth q.raw 0 0) (nth t.z 0 0)).natAbs * 36000 * 10 ^ 9))

/-- Variance test over the residuals with this one (R242); of a position the root of the mean of both axes' variances (log 41). -/
def State.testVariance (s : State) (q : RefIn) (resid : List (Nat × List Int)) : Bool :=
  let win := max 1 (if q.i < 12 then s.get (F.EST_ARB_PR_T2_VWIN q.i) else s.get (F.EST_ARB_HR_T2_VWIN (q.i - 12)))
  let l := resid.filter (fun p => decide (linDiff q.m p.1 < (win * 1000000000 : Nat)))
  let n := l.length
  if q.i < 12 then
    let vm := s.get (F.EST_ARB_PR_T2_VARMAX q.i)
    (5 ≤ n && decide (((2 * vm * vm * n * n : Nat) : Int) < spread l 0 + spread l 1)) || (s.prType q.i == 3 && decide (vm < q.sd))
  else
    let vm := s.get (F.EST_ARB_HR_T2_VARMAX (q.i - 12))
    5 ≤ n && decide (((vm * vm * n * n * 2 ^ 64 : Nat) : Int) < spread l 0 * 36000 * 36000)

/-- Gate (R242, R243). -/
def State.testGate (s : State) (i : Nat) (nis : Fl) : Bool :=
  let thr := if i < 12 then s.get (F.EST_ARB_PR_GATE_THR i) else s.get (F.EST_ARB_HR_GATE_THR (i - 12))
  thr != 0 && s.vesselRuns && (Fl.mk' thr (-16)).lt nis

/-- CAUSE field of a reference. -/
def arbCause (i : Nat) : Fld := if i < 12 then F.EST_ARB_PR_STAT_CAUSE i else F.EST_ARB_HR_STAT_CAUSE (i - 12)
/-- STATE field of a reference. -/
def arbStateF (i : Nat) : Fld := if i < 12 then F.EST_ARB_PR_STAT_STATE i else F.EST_ARB_HR_STAT_STATE (i - 12)
/-- Deselected by the host (R246). -/
def State.deselected (s : State) (i : Nat) : Bool := bitOf (s.word F.EST_ARB_OVR_DESEL_PR.off) i
/-- Forced by the host (R253). -/
def State.forced (s : State) (i : Nat) : Bool := bitOf (s.word F.EST_ARB_OVR_DESEL_PR.off) (16 + i)
/-- Arbitration excludes a reference (R246, R248): deselected, suspect, or outvoted at the last step 6; a forced one is never
outvoted (R253). Rejection for spoofing is decided by measurement (R244). -/
def State.excluded (s : State) (i : Nat) : Bool :=
  s.deselected i || s.suspect i || (s.get (arbStateF i) == 3 && !s.forced i)

/-- A measurement of a WAITING or LOST track makes it ACTIVE (R228). -/
def State.refWake (s : State) (i : Nat) : State :=
  let t := s.ref i
  let sd := s.refBiasSd i
  let pb := diagM (List.replicate (refDim i) (sd.mul sd).r32)
  if t.st = 1 then s.modRef i (fun t => { t with st := 2, b := List.replicate (refDim i) Fl.zero, pb := pb, first := true })
  else if t.st = 3 then s.modRef i (fun t => { t with st := 2, pb := pb, first := true })
  else s

/-- A measurement of a reference: residual, innovation, tests, and the updates of the vessel track and the bias (R218, R225, R226,
R241 to R245). [DEDUCED: log 164] -/
def State.refMeasure (s0 : State) (v : View) (q : RefIn) : State :=
  let i := q.i
  let s := s0.refWake i
  let t := s.ref i
  let h := refRows i
  let pred := Mat.app h v.x
  let wrap (l : List Fl) : List Fl := if i < 12 then l else l.map wrapFl
  let r0 := wrap (vsub q.z pred)
  let nu := wrap (vsub r0 t.b)
  let hph := Mat.mul (Mat.mul h v.p) h.tr
  let sc := Mat.add (Mat.add hph t.pb) q.r
  match sc.inv with
  | none => s.refFault i
  | some sinv =>
    let nis := nisFl nu sinv
    let res := (q.m, r0.map (refInt i))
    let resid := (res :: t.resid).filter (fun p => decide (linDiff q.m p.1 < 255000000000))
    let spoof := s.spoofed i
    let cause := if spoof then 0 else if s.testFreeze q t then 1 else if s.testRange q t then 2 else if s.testVariance q resid then 3
      else if s.testGate i nis then 4 else 0
    let pass := !spoof && cause == 0
    let use := pass && !s.excluded i
    let fused := use && s.vesselRuns
    let s1 := (s.modRef i (fun t => { t with
      first := false, m := q.m, z := q.raw, fix := q.fix, sameAt := if t.z = q.raw then t.sameAt else q.m, resid := resid, pass := pass
      spoof := spoof, init := if pass then some q.z else t.init, vel := if pass then q.vel.map (·.1) else t.vel
      flags := Nat.lor q.flags (1 + 2 * b2n fused), inn := nu.map (refInt i), nis := nisWord nu sinv, sd := q.sd, nsat := q.sats.1
      nexcl := q.sats.2
      fused := if fused then some q.m else t.fused, run := if fused then t.run + 1 else 0 })).put (arbCause i) cause
    if !fused then s1
    else
      let rTot := Mat.add t.pb q.r
      let s2 := s1.fuse v h sinv rTot sc nu
      let u := josephUpdate t.b t.pb (identM (refDim i)) (Mat.mul t.pb sinv) (Mat.add hph q.r) nu
      let s3 := if u.ok then s2.modRef i (fun t => { t with b := u.x, pb := u.p }) else s2.refFault i
      let s4 := s3.modEst (fun e => if i < 12 then { e with nPos := satInc 255 e.nPos, posAt := some q.m } else { e with nHdg := satInc 255 e.nHdg, hdgAt := some q.m })
      let s5 := if i < 12 then s4 else s4.put F.EST_ARB_STATUS_NOHDG 0
      match q.vel with
      | none => s5
      | some (zn, rn) =>
        let w := if v.phi.isSome then v else s5.viewNow
        let rot := bodyRot (nth w.x 2 Fl.zero)
        let rv := Mat.mul (Mat.mul rot rn) rot.tr
        let vs := Mat.add (Mat.mul (Mat.mul velRows w.p) velRows.tr) rv
        match vs.inv with
        | none => s5.refFault i
        | some vi => s5.fuse w velRows vi rv vs (vsub (Mat.app rot zn) (Mat.app velRows w.x))

/-! ### Arbitration at step 6 -/

/-- The state SPOOF of a reference (R244, R246). -/
def State.refSpoof (s : State) (i : Nat) : Bool := (s.ref i).spoof || s.spoofed i
/-- The reference is passing (R247) at a major tick. -/
def State.passing (s : State) (tick i : Nat) : Bool :=
  let t := s.ref i
  t.st == 2 && !s.deselected i && !s.refSpoof i && !s.suspect i && t.pass &&
    decide (linDiff tick t.m ≤ (max 1 (s.get F.EST_ARB_TIME_VOTE_AGE) * 100000000 : Nat))
/-- Latest raw residual. -/
def RefTrack.last (t : RefTrack) : List Int := match t.resid with
  | p :: _ => p.2
  | [] => [0, 0]
/-- Square of the distance of two residuals. -/
def dist2 (hdg : Bool) (a b : List Int) : Int :=
  if hdg then let d := rawDiff 12 (nth a 0 0) (nth b 0 0); d * d
  else (nth a 0 0 - nth b 0 0) * (nth a 0 0 - nth b 0 0) + (nth a 1 0 - nth b 1 0) * (nth a 1 0 - nth b 1 0)
/-- Two residuals lie further apart than num / den of LIMP in mm, or of LIMH in 0.01°, compared exactly. -/
def State.beyond (s : State) (hdg : Bool) (num den : Nat) (a b : List Int) : Bool :=
  let lim := if hdg then max 1 (s.get F.EST_ARB_CFG_LIMH) * 2 ^ 32 else max 1 (s.get F.EST_ARB_CFG_LIMP)
  let unit := if hdg then 36000 else 1
  decide (((lim * num * (lim * num) : Nat) : Int) < dist2 hdg a b * ((unit * den * (unit * den) : Nat) : Int))
/-- Median of integers; for an even number the mean of the two middle ones, rounded (R250). -/
def medianI (l : List Int) : Int :=
  let q := l.foldr insertI []
  if l.length % 2 = 1 then nth q (l.length / 2) 0 else divRne (nth q (l.length / 2 - 1) 0 + nth q (l.length / 2) 0) 2
/-- Point of the component medians of some references. -/
def State.medianOf (s : State) (l : List Nat) : List Int :=
  [medianI (l.map (fun i => nth (s.ref i).last 0 0)), medianI (l.map (fun i => nth (s.ref i).last 1 0))]
/-- Mean square of the residual magnitudes over the last WIN seconds: sum and number (R252). -/
def State.rms2 (s : State) (tick i : Nat) : Nat × Nat :=
  let win := max 10 (min 120 (s.get F.EST_ARB_TIME_WIN))
  let l := (s.ref i).resid.filter (fun p => decide (linDiff tick p.1 < (win * 1000000000 : Nat)))
  ((l.map (fun p => ((p.2.map (fun x => x * x)).sum).natAbs)).sum, l.length)
/-- STAT.RMS in 10 mm, or 0.01°. -/
def State.rmsWord (s : State) (tick i : Nat) : Nat :=
  let r := s.rms2 tick i
  let v := if r.2 = 0 then 0 else sqrtRound (r.1 / r.2)
  min 65535 (if i < 12 then (divRne v 10).toNat else (divRne (v * 36000) (2 ^ 32)).toNat)
/-- STAT.RMS field. -/
def arbRms (i : Nat) : Fld := if i < 12 then F.EST_ARB_PR_STAT_RMS i else F.EST_ARB_HR_STAT_RMS (i - 12)
/-- A reference becomes SUSPECT (R250, R252), `kept` being the one kept against it; event 72. -/
def State.markSuspect (s : State) (i : Nat) (kept : Option Nat) : State :=
  (((s.putBit F.EST_ARB_SUSP_SUSP i true).modRef i (fun t => { t with outAt := none, rehabAt := none, kept := kept })).put (arbStateF i) 4).raise 72
/-- HOLD in major frames. -/
def State.arbHold (s : State) : Nat := max 1 (s.get F.EST_ARB_TIME_HOLD) * 100

/-- Time since an instant at a major tick, ns; below zero when there is none. -/
def State.heldFor (s : State) (a : Option Nat) : Int := match a with
  | some t => linDiff s.majTick t
  | none => -1
/-- OUTVOTE_HOLD_EXPIRY (R250): OUTVOTED for HOLD without a break. -/
def State.outvoteExpire (s : State) (i : Nat) : State :=
  if s.get (arbStateF i) = 3 ∧ ((s.arbHold * 10000000 : Nat) : Int) ≤ s.heldFor (s.ref i).outAt then s.markSuspect i none else s

/-- OUTVOTE_HOLD_EXPIRY (R250). -/
def execOutvoteHoldExpiry (ref : Fin 16) (s : State) : Host.Outcome State Fault Refusal := .next (s.lanes fun s => s.outvoteExpire ref)

/-- The contradiction of positions or headings. -/
def State.contra (s : State) (hdg : Bool) : Option (Nat × Nat × Nat) := if hdg then s.est.hcontra else s.est.contra
/-- Sets it, with its status bit. -/
def State.setContra (s : State) (hdg : Bool) (c : Option (Nat × Nat × Nat)) : State :=
  if hdg then (s.modEst (fun e => { e with hcontra := c })).putB F.EST_ARB_STATUS_HCONTRA c.isSome
  else (s.modEst (fun e => { e with contra := c })).putB F.EST_ARB_STATUS_CONTRA c.isSome

/-- FRM_MAJCNT. -/
def State.majCount (s : State) : Nat := s.get F.FRM_MAJCNT_HI_COUNT * 2 ^ 32 + s.get F.FRM_MAJCNT_LO_COUNT
/-- The timer of a contradiction: major frames since that in which it began (R251). -/
def State.contraT (s : State) (since : Nat) : Nat := (s.majCount + 2 ^ 64 - since) % 2 ^ 64

/-- CONTRADICTION_HOLD_EXPIRY (R252): at HOLD the reference with the larger RMS becomes SUSPECT; a forced one is kept, and with
both forced nothing changes. [DEDUCED: log 167] -/
def State.contraExpire (s : State) (hdg : Bool) : State :=
  match s.contra hdg with
  | none => s
  | some (a, b, k) =>
    if s.contraT k < s.arbHold then s
    else
      let tick := s.majTick
      let ra := s.rms2 tick a
      let rb := s.rms2 tick b
      let keepA := decide (ra.1 * rb.2 ≤ rb.1 * ra.2)
      match s.forced a, s.forced b with
      | true, true => s
      | true, false => (s.markSuspect b (some a)).setContra hdg none
      | false, true => (s.markSuspect a (some b)).setContra hdg none
      | false, false => (if keepA then s.markSuspect b (some a) else s.markSuspect a (some b)).setContra hdg none

/-- CONTRADICTION_HOLD_EXPIRY (R252). -/
def execContradictionHoldExpiry (heading : Bool) (s : State) : Host.Outcome State Fault Refusal := .next (s.lanes fun s => s.contraExpire heading)

/-- The two-reference rule (R251) on the passing references. [DEDUCED: log 166] -/
def State.twoRule (s : State) (hdg : Bool) (l : List Nat) : State :=
  match l with
  | [a, b] =>
    let far (num den : Nat) : Bool := s.beyond hdg num den (s.ref a).last (s.ref b).last
    let start (s : State) : State := (s.setContra hdg (some (a, b, s.majCount))).raise 71
    match s.contra hdg with
    | some (a', b', _) =>
      if a' = a ∧ b' = b ∧ far 4 5 then s.contraExpire hdg
      else
        let s1 := (s.setContra hdg none).raise 71
        if far 1 1 ∧ ¬(a' = a ∧ b' = b) then start s1 else s1
    | none => if far 1 1 then start s else s
  | _ => match s.contra hdg with
    | some _ => (s.setContra hdg none).raise 71
    | none => s

/-- The references beyond the limit from the median (R250); forced ones never are (R253). -/
def State.voted (s : State) (hdg : Bool) (l : List Nat) : List Nat :=
  if l.length < 3 then []
  else
    let md := s.medianOf l
    l.filter (fun i => !s.forced i && s.beyond hdg 1 1 (s.ref i).last md)

/-- The state of a reference by precedence (R246). -/
def State.arbStateOf (s : State) (out : List Nat) (i : Nat) : Nat :=
  let t := s.ref i
  if t.st ≠ 2 then 0 else if s.deselected i then 5 else if s.refSpoof i then 6 else if s.suspect i then 4
  else if !t.pass then 2 else if out.contains i then 3 else 1

/-- Event of entry to a state (R260): 2 TESTFAIL, 3 OUTVOTED, 6 SPOOF. -/
def arbEvent (st : Nat) : Option Nat :=
  match st with
  | 2 => some 70 | 3 => some 73 | 6 => some 76 | _ => none

/-- Rehabilitation (R254): the suspect mark clears after TIME within half the limit. -/
def State.rehabExpire (s : State) (i : Nat) : State :=
  if s.suspect i && s.flag F.EST_ARB_REHAB_AUTO &&
      decide ((max 1 (s.get F.EST_ARB_REHAB_TIME) * 10000000000 : Nat) ≤ s.heldFor (s.ref i).rehabAt) then
    (s.putBit F.EST_ARB_SUSP_SUSP i false).modRef i (fun t => { t with rehabAt := none, kept := none })
  else s

/-- REHAB_EXPIRY (R254). -/
def execRehabExpiry (ref : Fin 16) (s : State) : Host.Outcome State Fault Refusal := .next (s.lanes fun s => s.rehabExpire ref)

/-- One major frame of rehabilitation (R254) of a suspect reference: against the reference that was kept, while that one passes, or
against the median of a vote. [DEDUCED: log 177] -/
def State.rehab (s : State) (hdg : Bool) (l : List Nat) (i : Nat) : State :=
  if !s.suspect i then s
  else
    let t := s.ref i
    let aim : Option (List Int) := match t.kept.filter l.contains with
      | some r => some (s.ref r).last
      | none => if 3 ≤ l.length then some (s.medianOf l) else none
    let near := s.flag F.EST_ARB_REHAB_AUTO && t.st == 2 && match aim with
      | some p => !s.beyond hdg 1 2 t.last p
      | none => false
    (s.modRef i (fun t => { t with rehabAt := if near then t.rehabAt.orElse (fun _ => some s.majTick) else none })).rehabExpire i

/-- A suspect mark clears. -/
def State.unmark (s : State) (i : Nat) : State :=
  if s.suspect i then (s.putBit F.EST_ARB_SUSP_SUSP i false).modRef i (fun t => { t with rehabAt := none, kept := none }) else s
/-- A forced reference loses its suspect mark (R253). -/
def State.forceClear (s : State) (i : Nat) : State := if s.forced i then s.unmark i else s
/-- EST_ARB_OVR takes effect at a major tick (R253): a forced reference loses its mark, one that is deselected no longer has none. -/
def State.arbOvrApply (s : State) (v : Nat) : State :=
  (s.setWord F.EST_ARB_OVR_DESEL_PR.off v).each (List.range 16) (fun t i =>
    if s.deselected i && !t.deselected i then t.unmark i else t.forceClear i)

/-- EST_ARB_CLR (R253): the marks of the references named clear; a contradiction that persists then starts a new timer. -/
def State.arbClr (s : State) (mask : Nat) : State := s.each (List.range 16) (fun s i => if bitOf mask i then s.unmark i else s)

/-- EST_ARB_CLR (R253). -/
def execEstArbClr (mask : BitVec 16) (s : State) : Host.Outcome State Fault Refusal := .next (s.lanes fun s => s.arbClr mask.toNat)

/-- Arbitration of one kind of reference at step 6 (R246 to R254). -/
def State.arbitrate (s : State) (hdg : Bool) (tick : Nat) : State :=
  let all := if hdg then [12, 13, 14, 15] else List.range 12
  let l := all.filter (fun i => s.passing tick i)
  let n := l.length
  let s1 := s.twoRule hdg l
  let out := s1.voted hdg l
  let s2 := s1.each all (fun s i =>
    let st := s.arbStateOf out i
    let was := s.get (arbStateF i)
    let s1 := (s.put (arbStateF i) st).modRef i (fun t => { t with outAt := if st = 3 then t.outAt.orElse (fun _ => some s.majTick) else none })
    let s2 := match arbEvent st with
      | some e => if was = st then s1 else s1.raiseMajor e
      | none => s1
    ((s2.put (arbRms i) (s2.rmsWord tick i)).outvoteExpire i).rehab hdg l i)
  let mode := min n 3
  if hdg then (s2.put F.EST_ARB_STATUS_NH n).put F.EST_ARB_STATUS_HMODE mode
  else (s2.put F.EST_ARB_STATUS_N n).put F.EST_ARB_STATUS_PMODE mode

/-! ### Gecko hold and the vessel state machine -/

/-- Time since an instant at a tick, ns; a very long time when there was none. -/
def ageOf (tick : Nat) (a : Option Nat) : Int := match a with
  | some t => linDiff tick t
  | none => 2 ^ 62
/-- LOSS_T in ns; 0 acts as 1. -/
def State.lossT (s : State) : Int := (max 1 (s.get F.EST_QUAL_LOSS_T) * 1000000000 : Nat)

/-- HEADING_LOSS (R255): no heading passing and none fused for LOSS_T in QUALIFIED or GECKO; event 75. -/
def State.headingLoss (s : State) : State :=
  let tick := s.majTick
  if (s.est.st == 3 || s.est.st == 4) && s.get F.EST_ARB_STATUS_NH == 0 && decide (s.lossT ≤ ageOf tick s.est.hdgAt) then
    s.setRaise F.EST_ARB_STATUS_NOHDG 75
  else s

/-- HEADING_LOSS (R255). -/
def execHeadingLoss (s : State) : Host.Outcome State Fault Refusal := .next (s.lanes fun s => s.headingLoss)

/-- The standard deviation of N or E is at most some tenths of a metre, compared exactly. -/
def State.sdWithin (s : State) (i tenths : Nat) : Bool :=
  ((Mat.at' s.est.p i i).mulX (Fl.ofInt 100)).le (Fl.ofInt (tenths * tenths : Nat))

/-- GECKO_ENTRY (R256, R258): no position fused for DELAY in QUALIFIED. -/
def State.geckoEntry (s : State) : State :=
  let tick := s.majTick
  if s.est.st = 3 ∧ ((max 1 (s.get F.EST_GK_CFG_DELAY) * 100000000 : Nat) : Int) ≤ ageOf tick s.est.posAt then
    let a := Mat.at' s.est.p 0 0
    let b := Mat.at' s.est.p 1 1
    let u0 := ((((a.add b).scale (-1)).sqrt).mul (Fl.ofInt 1000)).rne.toNat
    let s1 := s.vesselTo 4 true
    ((s1.modEst (fun e => { e with gkAt := tick, gkU0 := u0, refs := e.refs.map (fun t => { t with run := 0 }) })).put F.EST_GK_UNC_MM
      (min u0 (2 ^ 32 - 1))).put F.EST_GK_STATUS_ELAPSED 0
  else s

/-- GECKO_ENTRY (R256). -/
def execGeckoEntry (s : State) : Host.Outcome State Fault Refusal := .next (s.lanes fun s => s.geckoEntry)

/-- EST_GK_UNC and ELAPSED in GECKO (R258). -/
def State.geckoGrow (s : State) (tick : Nat) : State :=
  if s.est.st = 4 then
    let t := (linDiff tick s.est.gkAt).toNat
    let grown := (divRne (s.get F.EST_GK_GROW_RATE * t : Nat) 1000000000).toNat
    (s.put F.EST_GK_UNC_MM (min (2 ^ 32 - 1) (s.est.gkU0 + grown))).put F.EST_GK_STATUS_ELAPSED (min 4095 (t / 100000000))
  else s

/-- GECKO ends without a reference (R259): WAITING, events 64 and 74, EXPIRED. -/
def State.geckoExpire (s : State) : State := ((s.vesselTo 1 true).put F.EST_GK_STATUS_EXPIRED 1).raise 74

/-- GECKO_TLIM (R259). -/
def State.geckoTlim (s : State) : State :=
  let tick := s.majTick
  if s.est.st = 4 ∧ ((max 1 (s.get F.EST_GK_CFG_TLIM) * 1000000000 : Nat) : Int) ≤ linDiff tick s.est.gkAt then s.geckoExpire else s

/-- GECKO_TLIM (R259). -/
def execGeckoTlim (s : State) : Host.Outcome State Fault Refusal := .next (s.lanes fun s => s.geckoTlim)

/-- The end of GECKO at step 6 by the rows of R259 in order. -/
def State.geckoEnd (s : State) : State :=
  if s.est.st ≠ 4 then s
  else
    let ret := max 1 (s.get F.EST_GK_CFG_RET)
    let ulim := s.get F.EST_GK_GROW_ULIM * 100
    if (s.est.refs.take 12).any (fun t => decide (ret ≤ t.run)) then s.vesselTo 3 true
    else
      let s1 := s.geckoTlim
      if s1.est.st = 4 ∧ ulim ≠ 0 ∧ ulim < s1.get F.EST_GK_UNC_MM then s1.geckoExpire else s1

/-- The lowest-numbered of some references with a measurement that passed its tests in this frame. -/
def State.firstInit (s : State) (l : List Nat) : Option Nat := l.find? (fun i => (s.ref i).init.isSome)

/-- Initialisation (R229, R230): it counts as the first update of the references it takes. [DEDUCED: log 163] -/
def State.estInit (s : State) : State :=
  match s.firstInit (List.range 12), s.firstInit [12, 13, 14, 15] with
  | some p, some h =>
    let zp := (s.ref p).init.getD []
    let psi := wrapFl (nth ((s.ref h).init.getD []) 0 Fl.zero)
    let uv := match ((s.est.refs.take 12).filterMap (·.vel)).head? with
      | some v => Mat.app (bodyRot psi) v
      | none => [Fl.zero, Fl.zero]
    let x := [nth zp 0 Fl.zero, nth zp 1 Fl.zero, psi] ++ uv ++ List.replicate 10 Fl.zero
    let s1 := s.each [p, h] (fun s i => s.modRef i (fun t => { t with flags := Nat.lor t.flags 2, fused := some t.m }))
    ((s1.put F.EST_ARB_STATUS_NOHDG 0).vesselTo 2 true).modEst (fun e => { e with
      x := x.map Fl.r32, p := diagM ((List.range 15).map (fun i => s.estFl (F.EST_P0_VALUE i))), posAt := some (s.ref p).m
      hdgAt := some (s.ref h).m, nPos := satInc 255 e.nPos, nHdg := satInc 255 e.nHdg })
  | _, _ => s

/-- CONVERGING becomes QUALIFIED, or WAITING (R229). -/
def State.converge (s : State) (tick : Nat) : State :=
  let sec : Int := 1000000000
  let pa := ageOf tick s.est.posAt
  let ha := ageOf tick s.est.hdgAt
  if s.lossT ≤ pa ∨ s.lossT ≤ ha then s.vesselTo 1 true
  else
    let qpos := s.get F.EST_QUAL_QPOS
    let ok := decide ((s.get F.EST_QUAL_QTIME * 1000000000 : Nat) ≤ linDiff tick s.est.since) && s.sdWithin 0 qpos &&
      s.sdWithin 1 qpos && (Fl.sqrt (Mat.at' s.est.p 2 2)).le (((Fl.ofInt (s.get F.EST_QUAL_QHDG)).mul flPi).div (Fl.ofInt 1800)) &&
      decide (pa ≤ sec) && decide (ha ≤ sec)
    if ok then s.vesselTo 3 true else s

/-- The vessel state machine at step 6 (R229, R256, R259). -/
def State.vesselMachine (s : State) (tick : Nat) : State :=
  match s.est.st with
  | 1 => s.estInit
  | 2 => s.converge tick
  | 3 => s.geckoEntry
  | 4 => (s.geckoGrow tick).geckoEnd
  | _ => s

/-- FAR (R232): event 67 once; the flag clears below 0.9 × LIMIT. -/
def State.farCheck (s : State) : State :=
  let lim : Int := s.get F.EST_FAR_LIMIT
  let big := Fl.max (nth s.est.x 0 Fl.zero).abs (nth s.est.x 1 Fl.zero).abs
  if (Fl.ofInt lim).lt big then s.setRaise F.EST_STATUS_FAR 67
  else if (big.mulX (Fl.ofInt 10)).lt (Fl.ofInt (lim * 9)) then s.put F.EST_STATUS_FAR 0 else s

end Sys2Proof.Machine
end

