-- ==== Sys2Proof/Machine/EstStage.lean ====
section
/-! DEFINITION. The EST stage: collection and order of measurements (R217 to R220), GNSS-TC updates (R224), target updates (R227),
peer comparison (R233, R234), records (R235 to R238), and what takes effect at a major tick (R49). -/

namespace Sys2Proof.Machine

open Sys2Proof

/-- A measurement or an epoch record in the order of R217. -/
inductive EstIn where
  /-- An epoch record. -/
  | epoch (e : Epoch)
  /-- A stream's measurement. -/
  | meas (q : Meas)

/-- Instant. -/
def EstIn.m : EstIn → Nat
  | .epoch e => e.lin
  | .meas q => q.m
/-- Order at equal instants: an epoch record first, then streams ascending. -/
def EstIn.cls : EstIn → Nat
  | .epoch _ => 0
  | .meas q => q.stream + 1
/-- Inserts by instant, counted from a tick. -/
def insertIn (tick : Nat) (x : EstIn) : List EstIn → List EstIn
  | [] => [x]
  | y :: t =>
    let a := linDiff x.m tick
    let b := linDiff y.m tick
    if a < b ∨ (a = b ∧ x.cls < y.cls) then x :: y :: t else y :: insertIn tick x t

/-- mm to m. -/
def mToFl (x : Int) : Fl := (Fl.ratio x 1000).r32

/-- A stream measurement as PRk takes it (R223, R225, R231). -/
def State.prIn (s : State) (k : Nat) (q : Meas) (delayed : Bool) : RefIn :=
  let v0 := nth q.v 0 0
  let v1 := nth q.v 1 0
  let fix := if s.prType k = 1 then [v0, v1] else [s.getI (F.EST_PR_REFN_MM k) - v0, s.getI (F.EST_PR_REFE_MM k) - v1]
  let z := fix.map mToFl
  let old := q.old && s.prType k == 1
  let z' := if old then vadd z s.est.orgOld else z
  let sd := max 1 (s.get (F.EST_PR_SIGMA_MEAS k))
  let var := (mToFl sd).mulS (mToFl sd)
  let clip (x : Int) : Bool := x == 2 ^ 31 - 1 || x == -(2 ^ 31)
  { i := k, m := q.m, z := z', r := diagM [var, var], raw := [v0, v1], fix := (if old then z'.map (refInt 0) else fix).map (clampS 32)
    flags := 4 * (q.flags % 2) + 8 * b2n delayed, clipped := clip v0 || clip v1, sd := sd, vel := none, sats := (0, 0) }

/-- A stream measurement as HRh takes it. -/
def State.hrIn (s : State) (h : Nat) (q : Meas) (delayed : Bool) : RefIn :=
  let v := nth q.v 0 0
  let sg := ((Fl.ofInt (max 1 (s.get (F.EST_HR_CFG_SIGMA h)) : Nat)).mul flPi).div (Fl.ofInt 18000)
  { i := 12 + h, m := q.m, z := [(bamRad (Fl.ofInt v)).r32], r := [[(sg.mul sg).r32]], raw := [v], fix := [v]
    flags := 4 * (q.flags % 2) + 8 * b2n delayed, clipped := false, sd := radBam sg, vel := none, sats := (0, 0) }

/-- A measurement of a target (R227). -/
def State.tgMeasure (s0 : State) (v : View) (k : Nat) (q : Meas) (delayed : Bool) : State :=
  let sg := mToFl (s0.get (F.EST_TG_CFG_SIGMA k))
  let z := vadd ((Mat.app (refRows 0) v.x).take 2) [mToFl (nth q.v 0 0), mToFl (nth q.v 1 0)]
  let r := diagM [(sg.mul sg).addS (Mat.at' v.p 0 0), (sg.mul sg).addS (Mat.at' v.p 1 1)]
  let zz := Fl.zero
  let s := if (s0.tg k).st = 1 then s0.modTg k (fun t => { t with st := 2, x := z ++ [zz, zz], p := diagM [Mat.at' r 0 0, Mat.at' r 1 1, zz, zz] }) else s0
  let t := s.tg k
  let h : Mat := [[Fl.ofInt 1, zz, zz, zz], [zz, Fl.ofInt 1, zz, zz]]
  let nu := vsub z (t.x.take 2)
  let sc := Mat.add (Mat.mul (Mat.mul h t.p) h.tr) r
  match sc.inv with
  | none => s.tgFault k
  | some si =>
    let u := josephUpdate t.x t.p h (Mat.mul (Mat.mul t.p h.tr) si) r nu
    if u.ok then s.modTg k (fun t => { t with
      x := u.x, p := u.p, m := q.m, flags := 1 + 4 * (q.flags % 2) + 8 * b2n delayed, inn := nu.map (refInt 0), nis := nisWord nu si })
    else s.tgFault k

/-- Reference tracks and targets that a stream feeds (R211). -/
def State.fedRefs (s : State) (q : Meas) : List Nat :=
  (List.range 16).filter (fun i => s.refEn i && s.refValid i && s.refStream i == q.stream && !(i < 12 && s.prType i == 3) && 0 < (s.ref i).st && (s.ref i).st < 4)
/-- See `fedRefs`. -/
def State.fedTgs (s : State) (q : Meas) : List Nat :=
  (List.range 8).filter (fun k => s.flag (F.EST_TG_CFG_EN k) && !s.flag (F.EST_TG_CFG_SRC k) && s.tgValid k &&
    s.get (F.EST_TG_CFG_STREAM k) == q.stream && 0 < (s.tg k).st && (s.tg k).st < 4)

/-- One stream measurement updates the tracks it feeds. -/
def State.measUpdate (s : State) (v : View) (q : Meas) (delayed : Bool) : State :=
  let vw (s : State) : View := if delayed then v else s.viewNow
  let s1 := s.each (s.fedRefs q) (fun s i => s.refMeasure (vw s) (if i < 12 then s.prIn i q delayed else s.hrIn (i - 12) q delayed))
  s1.each (s.fedTgs q) (fun s k => s.tgMeasure (vw s) k q delayed)

/-- The usable channel records of an antenna as numbers (R224). -/
def State.tcObs (s : State) (ant : Nat) (e : Epoch) : List (List Nat) :=
  (((e.ch.drop (96 * ant)).take 96).filter (fun r => r.usable (s.get F.GNS_EPCFG_MIN_CN0) && !bitOf r.flags 10)).map
    (fun r => [r.sig, r.sv, r.code, r.txms, r.carr, r.dopp, r.cn0])

/-- A GNSS-TC filter in the course of an epoch: state, covariance, channels used and excluded; none after a numeric fault. -/
abbrev TcRun := Option (List Fl × Mat × Nat × Nat)

/-- One measurement of a GNSS-TC filter: rows, noise and innovation (R221). -/
def tcFuse (x : List Fl) (p h r : Mat) (nu : List Fl) : Option (List Fl × Mat) :=
  match (Mat.add (Mat.mul (Mat.mul h p) h.tr) r).inv with
  | none => none
  | some si =>
    let u := josephUpdate x p h (Mat.mul (Mat.mul p h.tr) si) r nu
    if u.ok then some (u.x, u.p) else none
/-- |ν| > 4 √S of a scalar innovation (R224). -/
def tcOut (p : Mat) (h : List Fl) (r nu : Fl) : Bool :=
  let sc := (dotF h (Mat.app p h)).addS r
  ((sc.mulX (Fl.ofInt 16)).r64).lt ((nu.mulX nu).r64)
/-- Rows of a channel's pseudorange and Doppler; `isb` is the state of its inter-system bias. -/
def tcRow (n : Nat) (los : List Fl) (isb : Option Nat) (rate : Bool) : List Fl :=
  (List.range n).map (fun j =>
    if rate then (if 3 ≤ j ∧ j < 6 then (nth los (j - 3) Fl.zero).neg else if j = 7 then Fl.ofInt 1 else Fl.zero)
    else if j < 3 then (nth los j Fl.zero).neg else if j = 6 ∨ isb = some j then Fl.ofInt 1 else Fl.zero)
/-- One channel of an epoch: its pseudorange, not while a fixed RTK position takes its place, and its Doppler; a channel beyond 4 √S is
excluded from the epoch (R224). [DEDUCED: log 178] -/
def tcChannel (n lin : Nat) (org : Int × Int) (arm : List Fl) (rtk : Bool) (run : TcRun) (c : List Nat × Option Nat) : TcRun :=
  match run with
  | none => none
  | some (x, p, used, excl) =>
    let o := Config.satObs c.1 lin org (vadd (x.take 3) arm)
    let hr := tcRow n o.los c.2 false
    let hd := tcRow n o.los c.2 true
    let clk := (nth x 6 Fl.zero).addS ((c.2.map (fun j => nth x j Fl.zero)).getD Fl.zero)
    let nr := o.range.subS clk
    let nd := o.rate.subS (dotF hd x)
    if (!rtk && tcOut p hr o.rangeVar nr) || tcOut p hd o.rateVar nd then some (x, p, used, excl + 1)
    else
      let a := if rtk then some (x, p) else tcFuse x p [hr] [[o.rangeVar]] [nr]
      match a.bind (fun a => tcFuse a.1 a.2 [hd] [[o.rateVar]] [o.rate.subS (dotF hd a.1)]) with
      | none => none
      | some b => some (b.1, b.2, used + 1, excl)

/-- The fixed RTK position about the local origin, m (R224); down is counted from the ellipsoid. [DESIGN CHOICE: log 179] -/
def State.rtkPlace (s : State) (q : Int × Int × Int) : List Fl :=
  let p := northEast q.1 q.2.1 (s.getI F.EST_ORIGIN_LAT_LAT) (s.getI F.EST_ORIGIN_LON_LON)
  [p.1.div (Fl.ofInt 1000), p.2.div (Fl.ofInt 1000), (Fl.ratio (-q.2.2) 1000)].map Fl.r32

/-- State of the inter-system bias of a system (R224): none for the first enabled one. -/
def State.tcIsb (s : State) (sys : Nat) : Option Nat :=
  let before := (List.range sys).filter (fun j => bitOf (s.get F.GNS_CTRL_SYS) j)
  if before.isEmpty then none else some (7 + before.length)

/-- The GNSS-TC filter of track k after an epoch (R224): channel by channel, the fixed RTK position first where there is one. -/
def State.tcFilter (s : State) (k : Nat) (e : Epoch) (arm : List Fl) (rtk : Option (Int × Int × Int)) : TcRun :=
  let t := (s.ref k).tc
  let n := s.tcDim
  let obs := s.tcObs (s.get (F.EST_PR_CFG_ANT k)) e
  let org := (s.getI F.EST_ORIGIN_LAT_LAT, s.getI F.EST_ORIGIN_LON_LON)
  let start := if t.x.length = n then (t.x, t.p) else let c := Config.tcStart n obs e.lin; (c.x, c.p)
  let fixed := match rtk with
    | none => some start
    | some q =>
      let h : Mat := (List.range 3).map (fun i => (List.range n).map (fun j => if i = j then Fl.ofInt 1 else Fl.zero))
      tcFuse start.1 start.2 h (diagM ((List.range 3).map Config.rtkVar)) (vsub (vsub (s.rtkPlace q) arm) (start.1.take 3))
  obs.foldl (fun run c => tcChannel n e.lin org arm rtk.isSome run (c, s.tcIsb (sigSys (nth c 0 0)))) (fixed.map (fun f => (f.1, f.2, 0, 0)))

/-- Epoch update of GNSS-TC track k and its fix (R224); without an attitude the antenna has no place and the epoch is left out
(log 151). -/
def State.tcEpoch (s : State) (v : View) (delayed : Bool) (k : Nat) (e : Epoch) : State :=
  match s.attitude e.lin with
  | none => s
  | some att =>
    let lev := (attMatrix att.psi att.theta att.phi).app (s.lever (s.get (F.EST_PR_CFG_LSTREAM k)))
    let arm := [lev.x, lev.y, lev.z].map (fun c => (c.div (Fl.ofInt 1000)).r32)
    let rtk := if s.get F.GNS_STATUS_RTK = 3 then s.gns.rtk else none
    match s.tcFilter k e arm rtk with
    | none => s.refFault k
    | some (x, p, used, excl) =>
      let s1 := s.modRef k (fun t => { t with tc := ⟨x, p⟩ })
      let g (i : Nat) : Fl := nth x i Fl.zero
      let c (i j : Nat) : Fl := Mat.at' p i j
      let vel := if s.flag (F.EST_PR_CFG_VEL k) then some ([g 3, g 4], [[c 3 3, c 3 4], [c 4 3, c 4 4]]) else none
      let sd := (((((c 0 0).add (c 1 1)).scale (-1)).sqrt).mul (Fl.ofInt 1000)).rne.toNat
      let fix := [refInt 0 (g 0), refInt 0 (g 1)]
      s1.refMeasure v
        { i := k, m := e.lin, z := [g 0, g 1], r := [[c 0 0, c 0 1], [c 1 0, c 1 1]], raw := fix, fix := fix
          flags := 8 * b2n delayed + 16 * b2n rtk.isSome + 32 * b2n ((s.tcAcc k e.lin).isNone), clipped := false, sd := sd, vel := vel
          sats := (min 255 used, min 255 excl) }

/-- The GNSS-TC tracks that run (R223). -/
def State.tcTracks (s : State) : List Nat :=
  (List.range 12).filter (fun k => s.refEn k && s.prType k == 3 && s.refValid k && 0 < (s.ref k).st && (s.ref k).st < 4)

/-- One entry processed (R217 steps 3 and 4): an entry before the last completed tick is a delayed measurement. [DEDUCED: log 160] -/
def State.estOne (s : State) (last : Nat) (x : EstIn) (phi : Mat) : State × Mat :=
  let delayed := decide (linDiff x.m last < 0)
  let tooOld (s : State) : State := (s.put F.EST_ERR_TOOOLD 1).raiseMajor 68
  if delayed then
    let v? := if s.vesselRuns then s.viewAt x.m else some s.viewNow
    match v? with
    | none => (tooOld s, phi)
    | some v =>
      match x with
      | .epoch e => (s.each s.tcTracks (fun s k => s.tcEpoch v true k e), phi)
      | .meas q => (s.measUpdate v q true, phi)
  else
    let p := s.estProp x.m phi
    match x with
    | .epoch e => (p.1.each p.1.tcTracks (fun s k => s.tcEpoch s.viewNow false k e), p.2)
    | .meas q => (p.1.measUpdate p.1.viewNow q false, p.2)

/-- Updates a measurement costs under R219. -/
def State.estCost (s : State) (x : EstIn) : Nat := match x with
  | .epoch _ => 0
  | .meas q => (s.fedRefs q).length + (s.fedTgs q).length

/-- A measurement waits for the next EST (R219). -/
def State.estDefer (s : State) (q : Meas) : State :=
  ((s.modEst (fun e => { e with defer := e.defer ++ [q], fl := Nat.lor e.fl 32 })).put F.EST_ERR_DEFER 1).raiseMajor 68

/-- The measurement that has to wait, after `n` updates: one beyond 320, and those after it; epoch records do not wait (R219). -/
def State.estLate (s : State) (n : Nat) (x : EstIn) : Option Meas := match x with
  | .epoch _ => none
  | .meas q => if 320 < n + s.estCost x ∨ s.est.defer ≠ [] then some q else none
/-- The entries in order, at most 320 updates (R219). -/
def State.estRun (s : State) (last : Nat) : Nat → List EstIn → Mat → State × Mat × Nat
  | n, [], phi => (s, phi, n)
  | n, x :: t, phi =>
    match s.estLate n x with
    | some q => (s.estDefer q).estRun last n t phi
    | none =>
      let r := s.estOne last x phi
      r.1.estRun last (n + s.estCost x) t r.2

/-- A measurement is kept for wind and acceleration (R215, R224). -/
def State.keepRecent (s : State) (q : Meas) : State :=
  if q.kind = 5 ∨ q.kind = 7 then
    s.modEst (fun e => { e with recent := putKey q.stream ((q :: (e.recent.lookup q.stream).getD []).take 512) e.recent })
  else s

/-! ### Records -/

/-- Bytes of signed fields with the mark of a saturation. -/
def satBytes (l : List Int) : List Byte × Bool :=
  (l.flatMap (fun x => leBytes 4 (ofInt 32 (clampS 32 x))), l.any (fun x => clampS 32 x != x))
/-- Bytes of unsigned fields with the mark of a saturation. -/
def satU (l : List Int) : List Byte × Bool :=
  (l.flatMap (fun x => leBytes 4 (min (2 ^ 32 - 1) x.toNat)), l.any (fun x => decide ((2 ^ 32 - 1 : Int) < x)))
/-- Thousandths of a value. -/
def milli (x : Fl) : Int := (x.mul (Fl.ofInt 1000)).rne
/-- Radians to BAM32 without wrapping, for deviations (log 152). -/
def radSd (x : Fl) : Int := ((x.div flPi).scale 31).rne

/-- The vessel-track record (R235, R236) at a tick. -/
def State.vesselRec (s : State) (tick : Nat) : List Nat :=
  let g (i : Nat) : Fl := nth s.est.x i Fl.zero
  let sd (i : Nat) : Fl := (Mat.at' s.est.p i i).sqrt
  let gk (x : Int) : Int := if s.est.st = 4 then max x (s.get F.EST_GK_UNC_MM) else x
  let a := satBytes [milli (g 0), milli (g 1)]
  let b := satBytes [milli (g 3), milli (g 4), radBamS (g 5), (g 6).rne, (g 7).rne, (g 8).rne, milli (g 9), milli (g 10)]
  let c := satBytes [milli (g 12), milli (g 13), radBamS (g 14)]
  let d := satU [gk (milli (sd 0)), gk (milli (sd 1))]
  let r := satBytes [(((Mat.at' s.est.p 0 1).div ((sd 0).mul (sd 1))).scale 31).rne]
  let e := satU [radSd (sd 2), milli (sd 3), milli (sd 4), radSd (sd 5)]
  let w := s.tauWind tick
  let f := satBytes (w.map Fl.rne)
  let valid := s.est.st == 3 || s.est.st == 4
  let wh := s.flag F.EST_WIND_EN && !s.windFresh
  let sat := a.2 || b.2 || c.2 || d.2 || r.2 || e.2 || f.2
  let fl := b2n valid + 4 * b2n (s.flag F.EST_STATUS_FAR) + (s.est.fl / 8 % 8) * 8 + 64 * b2n sat + 128 * b2n wh
  let ms := min (2 ^ 32 - 1) ((linDiff tick s.est.since).toNat / 1000000)
  let peers := maskOf ((List.range 3).map (fun p => s.flag (F.EST_PEER_STAT_VALID p) && s.flag (F.EST_PEER_STAT_CONSIST p)))
  let fails := maskOf ((List.range 3).map (fun p => s.flag (F.EST_PEER_STAT_PEERFAIL p)))
  bytesWords 32 (leBytes 8 tick ++ leBytes 4 s.est.seq ++ leBytes 1 s.est.st ++ leBytes 1 fl ++ leBytes 1 s.est.nPos ++ leBytes 1 s.est.nHdg ++
    a.1 ++ leBytes 4 (radBam (g 2)) ++ b.1 ++ leBytes 4 (radBam (g 11)) ++ c.1 ++ d.1 ++ r.1 ++ e.1 ++ f.1 ++
    leBytes 4 ms ++ leBytes 1 peers ++ leBytes 1 fails)

/-- Words of a reference record (R237). -/
def State.refRec (s : State) (i : Nat) : List Nat :=
  let t := s.ref i
  let two (l : List Int) : List Byte := leBytes 4 (ofInt 32 (nth l 0 0)) ++ leBytes 4 (if i < 12 then ofInt 32 (nth l 1 0) else 0)
  bytesWords 12 (leBytes 8 t.m ++ leBytes 1 (if i < 12 then i else i - 12) ++ leBytes 1 (if i < 12 then s.prType i else 0) ++ leBytes 1 t.st ++
    leBytes 1 t.flags ++ two t.fix ++ two (t.b.map (refInt i)) ++ two t.inn ++ leBytes 4 t.nis ++ leBytes 4 t.sd ++ leBytes 1 t.nsat ++ leBytes 1 t.nexcl)

/-- Words of a target record (R237). -/
def State.tgRec (s : State) (k : Nat) : List Nat :=
  let t := s.tg k
  let c (i : Nat) : List Byte := leBytes 4 (ofInt 32 (refInt 0 (nth t.x i Fl.zero)))
  let sd := (((((Mat.at' t.p 0 0).add (Mat.at' t.p 1 1)).scale (-1)).sqrt).mul (Fl.ofInt 1000)).rne.toNat
  bytesWords 12 (leBytes 8 t.m ++ leBytes 1 k ++ leBytes 1 (s.get (F.EST_TG_CFG_TYPE k)) ++ leBytes 1 t.st ++ leBytes 1 t.flags ++ c 0 ++ c 1 ++ c 2 ++ c 3 ++
    leBytes 4 (ofInt 32 (nth t.inn 0 0)) ++ leBytes 4 (ofInt 32 (nth t.inn 1 0)) ++ leBytes 4 t.nis ++ leBytes 4 (min sd (2 ^ 32 - 1)))

/-- The records of a frame, to take effect at the next major tick (R49, R235 to R238). -/
def State.formRecords (s : State) (tick : Nat) : State :=
  let l := [(0x610000, s.vesselRec tick)] ++ (List.range 12).map (fun k => (0x610100 + 0x30 * k, s.refRec k)) ++
    (List.range 4).map (fun h => (0x610400 + 0x30 * h, s.refRec (12 + h))) ++ (List.range 8).map (fun k => (0x610500 + 0x30 * k, s.tgRec k)) ++
    [(0x620000, s.est.p.flatMap (fun r => r.map Fl.bits32))]
  let act (l : List Nat) : Nat := (l.filter (fun i => (s.ref i).st == 2)).length
  let ntg := (s.est.tgs.filter (fun t => t.st == 2)).length
  s.modEst (fun e => { e with next := l, pub := (e.st, act (List.range 12), act [12, 13, 14, 15], ntg), stale := false })

/-! ### Peers -/

/-- No comparison with a peer is made in this frame (R233). -/
def State.peerClear (s : State) (i : Nat) : State := (s.put (F.EST_PEER_STAT_VALID i) 0).put (F.EST_PEER_STAT_CONSIST i) 0

/-- Comparison with a peer's record (R233, R234); `x`, `p` and `t` are the module's own snapshot. A covariance without an inverse
makes none. [DESIGN CHOICE: log 153] -/
def State.peerCompare (s : State) (t : Nat) (x : List Fl) (p : Mat) (i : Nat) : State :=
  let clear (s : State) : State := s.peerClear i
  if s.flag F.EST_PEERCFG_EN = false then clear s
  else
    match nth s.est.peers i none with
    | none => clear s
    | some w =>
      let tb := nth w 0 0 + 2 ^ 32 * nth w 1 0
      if 1000000 < (linDiff tb t).natAbs then (clear s).put F.EST_ERR_PEERSKEW 1
      else
        let mm (k : Nat) : Fl := Fl.ratio (toInt 32 (nth w k 0)) 1000
        let sn := Fl.ratio ((nth w 19 0 : Nat) : Int) 1000
        let se := Fl.ratio ((nth w 20 0 : Nat) : Int) 1000
        let rho := Fl.mk' (toInt 32 (nth w 21 0)) (-31)
        let off := (rho.mul sn).mul se
        let pb : Mat := [[sn.mul sn, off], [off, se.mul se]]
        let pa : Mat := [[Mat.at' p 0 0, Mat.at' p 0 1], [Mat.at' p 1 0, Mat.at' p 1 1]]
        let addD (a b : Mat) : Mat := (a.zip b).map (fun r => (r.1.zip r.2).map (fun e => e.1.add e.2))
        let scl (k : Int) (m : Mat) : Mat := m.map (fun r => r.map (fun e => (e.mul (Fl.ofInt k)).scale (-4)))
        match (addD pa pb).inv, pa.inv, pb.inv with
        | some si, some ai, some bi =>
          let d := [(mm 4).sub (nth x 0 Fl.zero), (mm 5).sub (nth x 1 Fl.zero)]
          let d2 := dotD d (appD si d)
          let info (k : Nat) : Mat := addD (scl k ai) (scl (16 - k) bi)
          let tr (k : Nat) : Option Fl := (info k).inv.map (fun m => (Mat.at' m 0 0).add (Mat.at' m 1 1))
          let best := (List.range 17).foldl (fun acc k => match tr k, tr acc with
            | some a, some b => if a.lt b then k else acc
            | some _, none => k
            | _, _ => acc) 0
          match (info best).inv with
          | none => clear s
          | some pw =>
            let rhs := (appD (scl best ai) [nth x 0 Fl.zero, nth x 1 Fl.zero]).zip (appD (scl (16 - best) bi) [mm 4, mm 5]) |>.map (fun e => e.1.add e.2)
            let xf := appD pw rhs
            let sd := milli (((Mat.at' pw 0 0).add (Mat.at' pw 1 1)).scale (-1)).sqrt
            let ok := d2.le (Fl.mk' (s.get F.EST_PEERTHR_THR) (-16))
            let consec := if ok then 0 else satInc 255 (s.get (F.EST_PEER_STAT_CONSEC i))
            let s1 := (((s.put (F.EST_PEER_STAT_VALID i) 1).putB (F.EST_PEER_STAT_CONSIST i) ok).put (F.EST_PEER_STAT_CONSEC i) consec).put
              (F.EST_PEER_D2_D2 i) (min (2 ^ 32 - 1) (d2.scale 16).rne.toNat)
            let s2 := (((s1.putI (F.EST_PEER_FN_MM i) (clampS 32 (milli (nth xf 0 Fl.zero)))).putI (F.EST_PEER_FE_MM i) (clampS 32 (milli (nth xf 1 Fl.zero)))).put
              (F.EST_PEER_SD_MM i) (min (2 ^ 32 - 1) sd.toNat)).put (F.EST_PEER_OMEGA_OMEGA i) best
            let s3 := (s2.put (F.EST_PEER_T_LO_T i) (t % 2 ^ 32)).put (F.EST_PEER_T_HI_T i) (t / 2 ^ 32)
            if ok then s3.put (F.EST_PEER_STAT_PEERFAIL i) 0
            else if max 1 (s.get F.EST_PEERCFG_N) ≤ consec then s3.setRaise (F.EST_PEER_STAT_PEERFAIL i) 69 else s3
        | _, _, _ => clear s

/-! ### The stage -/

/-- Step 8 of R217: comparison with the peers' records of the tick before; the entry of the module's own position reads zero (R233). -/
def State.peerStep (s : State) : State :=
  let own : Option Snap := match s.est.ticks with
    | _ :: q :: _ => s.est.snaps.find? (fun o => o.t == q.1)
    | _ => none
  let one (s : State) (i : Nat) : State :=
    if i = s.get F.RED_CFG_POS then s.setWords (F.EST_PEER_STAT_VALID i).off (List.replicate 8 0)
    else match own with
      | some o => s.peerCompare o.t o.x o.p i
      | none => s.peerClear i
  (s.each [0, 1, 2] one).modEst (fun e => { e with peers := [none, none, none] })

/-- The estimator is off (R229, R239): tracks OFF, measurements of the frame discarded. -/
def State.estOff (s : State) (tick : Nat) : State :=
  let s1 := if s.est.st = 0 then s else s.vesselTo 0 false
  let s2 := s1.modEst (fun e => { e with
    refs := List.replicate 16 RefTrack.init0, tgs := List.replicate 8 TgTrack.init0, defer := [], t := none, seq := 0, nPos := 0, nHdg := 0
    ticks := e.ticks.take 13 })
  ((((s2.put F.EST_LOAD_LAST 0).arbitrate false tick).arbitrate true tick).farCheck.formRecords tick).peerStep

/-- A target at host-set positions (R227): at each major tick, zero covariance, no innovation. -/
def State.tgHost (s : State) (k : Nat) : State :=
  if s.flag (F.EST_TG_CFG_SRC k) && decide (0 < (s.tg k).st) && decide ((s.tg k).st < 4) then
    s.modTg k (fun t => { t with st := 2, x := [mToFl (s.getI (F.EST_TG_N_MM k)), mToFl (s.getI (F.EST_TG_E_MM k)), Fl.zero, Fl.zero]
                                 p := diagM [Fl.zero, Fl.zero, Fl.zero, Fl.zero], m := s.majTick, flags := 1 })
  else s

/-- Steps 2 to 5 of R217: the measurements in order, then every track at the major tick; of the epoch records one per EST (R219).
`last` is the tick from which the tracks propagate. -/
def State.estMeasure (s : State) (tick last : Nat) (take : List Meas) : State × Mat :=
  let ins := ((s.gns.estDue.take 1).map EstIn.epoch ++ (s.est.defer ++ take).map EstIn.meas).foldr (insertIn tick) []
  let s1 := { s.modEst (fun e => { e with defer := [] }) with gns := { s.gns with estDue := s.gns.estDue.drop 1 } }
  let r := s1.estRun last 0 ins (identM 15)
  let p := r.1.estProp tick r.2.1
  let s2 := (p.1.put F.EST_LOAD_LAST r.2.2).putMax F.EST_LOAD_MAX r.2.2
  ((s2.modEst (fun e => { e with tauW := if s2.windFresh then s2.tauWind tick else e.tauW })).each (List.range 8) (fun s k => s.tgHost k), p.2)

/-- Step 6 of R217: the state machines of the tracks, arbitration, the vessel track (R228, R229, R246). -/
def State.estMachines (s : State) (tick : Nat) : State :=
  let s1 := (s.each (List.range 16) (fun s i => s.refConfig i)).each (List.range 8) (fun s k => s.tgConfig k)
  let s2 := ((s1.each (List.range 16) (fun s i => s.trackTimeout i)).arbitrate false tick).arbitrate true tick
  ((if s2.est.st = 0 then s2.vesselTo 1 false else s2.vesselMachine tick).headingLoss).farCheck

/-- Everything EST does in major frame k (R217), `tick` being its major tick. -/
def State.estWork (s : State) : State :=
  let tick := s.majTick
  let mine (q : Meas) : Bool := decide (linDiff q.m tick < 0)
  let take := s.aln.out.filter mine
  let s0 := { s with aln := { s.aln with out := s.aln.out.filter (fun q => !mine q) } }
  let s1 := ((s0.modEst (fun e => { e with fl := 0, nPos := 0, nHdg := 0 })).originShift).each take (fun s q => s.keepRecent q)
  if !s.flag F.EST_CTRL_EN then ({ s1 with gns := { s1.gns with estDue := [] } }).estOff tick
  else
    let prev := (s1.tickBefore ((tick + 2 ^ 64 - 1) % 2 ^ 64)).1
    let s2 := s1.modEst (fun e => { e with
      seq := (e.seq + 1) % 2 ^ 32, t := some (e.t.getD prev)
      refs := e.refs.map (fun t => { t with flags := 0, init := none, vel := none }), tgs := e.tgs.map (fun t => { t with flags := 0 }) })
    let r := s2.estMeasure tick (s2.est.t.getD tick) take
    let s3 := (r.1.estMachines tick).snapshot (tick, s.est.tauNow) r.2
    ((s3.formRecords tick).peerStep).modEst (fun e => { e with ticks := e.ticks.take (max 2 ((e.ticks.takeWhile (fun p => decide (0 ≤ linDiff p.1 tick))).length)) })

/-- EST overran (R220): the record in effect is held and takes STALE; its measurements stay for the next EST. -/
def State.estOver (s : State) : State := s.modEst (fun e => { e with stale := true, next := [] })

/-- EST_STAGE (R217). -/
def execEstStage (util : Fin 1001) (s : State) : Host.Outcome State Fault Refusal := .next (s.lanes fun s => s.stage 5 util State.estWork State.estOver)

/-- EST at a major tick: the records take effect (R49), τ_T moves on (R214), FAULT becomes WAITING (R228, R229), the origin is
served (R231), a pending origin not while HOLD stands (R64). -/
def State.estMajor (s : State) : State :=
  let s1 := s.each s.est.next (fun s p => s.setWords p.1 p.2)
  let s2 := if s.est.stale then s1.setWord 0x61000C (Nat.lor (s1.word 0x61000C) 0x200) else s1
  let pb := s.est.pub
  let s3 := (((s2.put F.EST_STATUS_VSTATE pb.1).put F.EST_STATUS_NPR pb.2.1).put F.EST_STATUS_NHR pb.2.2.1).put F.EST_STATUS_NTG pb.2.2.2
  let s4 := s3.modEst (fun e => { e with
    next := [], stale := false, orgAge := e.orgAge.map (· + 1)
    windLost := if s3.windFresh then none else e.windLost.orElse (fun _ => some s3.majTick) })
  let s5 := if s4.est.st = 5 then s4.vesselTo 1 true else s4
  let s6 := (s5.each (List.range 16) (fun s i => if (s.ref i).st = 4 then s.refTo i 1 else s)).each (List.range 8)
    (fun s k => if (s.tg k).st = 4 then s.modTg k (fun _ => { TgTrack.init0 with st := 1 }) else s)
  s6.originDefer.when (!s6.flag F.FRM_CTRL_HOLD) State.originChange

/-- A step of the counter moves the instants the estimator holds (log 42). -/
def State.estStep (s : State) (delta : Int) : State :=
  let mv (x : Nat) : Nat := ofInt 64 (x + delta)
  let mq (q : Meas) : Meas := { q with m := mv q.m }
  { s with
    est := { s.est with
      t := s.est.t.map mv, since := mv s.est.since, snaps := s.est.snaps.map (fun q => { q with t := mv q.t }), defer := s.est.defer.map mq
      ticks := s.est.ticks.map (fun p => (mv p.1, p.2)), windLost := s.est.windLost.map mv
      recent := s.est.recent.map (fun p => (p.1, p.2.map mq)), posAt := s.est.posAt.map mv, hdgAt := s.est.hdgAt.map mv, gkAt := mv s.est.gkAt
      refs := s.est.refs.map (fun t => { t with
        m := mv t.m, sameAt := mv t.sameAt, resid := t.resid.map (fun p => (mv p.1, p.2)), fused := t.fused.map mv, outAt := t.outAt.map mv
        rehabAt := t.rehabAt.map mv })
      tgs := s.est.tgs.map (fun t => { t with m := mv t.m }) }
    aln := { s.aln with out := s.aln.out.map mq } }

end Sys2Proof.Machine
end

