-- ==== Sys2Proof/Machine/Env.lean ====
section
/-! DEFINITION. Power envelope, consequence analysis and energy counters (chapter 11), the ALC stage (R45, R48) and what takes effect at a
major tick (R49, R333, R337, R338). -/

namespace Sys2Proof.Machine

open Sys2Proof

/-! ### Envelope -/

/-- A bus's envelope. -/
def State.envOf (s : State) (b : Nat) : Envelope :=
  nth s.alc.env b { st := 0, wrote := false, new := false, cnt := 0, gap := 0, pa := 0, ra := 0xFFFFFFFF }
/-- Changes a bus's envelope. -/
def State.modEnv (s : State) (b : Nat) (f : Envelope → Envelope) : State := s.modAlc (fun a => { a with env := modNth a.env b f })
/-- State of an envelope, with its register field (R344). -/
def State.envTo (s : State) (b st : Nat) : State :=
  (s.modEnv b (fun e => { e with st := st })).put ⟨0x800280, 2 * b + 1, 2 * b⟩ st
/-- TMO in major frames; 0 acts as 1. -/
def State.envTmo (s : State) (b : Nat) : Nat := 10 * max 1 (s.get (F.ALC_ENV_CFG_TMO b))

/-- ACQ has run: a PA channel with NO_NEW clear may give a new sample (R343); the lanes have the island's publication (R437). -/
def State.envAcq (s : State) : State :=
  (s.each (List.range 4) (fun s b =>
    let c := s.get (F.ALC_ENV_CFG_PACH b)
    if s.get (F.ALC_ENV_CFG_SRC b) = 1 ∧ c < 96 ∧ s.flag (F.SIG_S_STAT_NO_NEW c) = false then
      s.modEnv b (fun e => { e with new := true }) else s)).modAlc (fun a => { a with safAcq := a.safTick })

/-- A negative live value counts as 0 and sets NEG (R343). -/
def State.envLive (s : State) (b : Nat) (x : Int) : State := s.when (decide (x < 0)) (·.putBit F.ALC_ENV_STAT_NEG b true)

/-- A FRESH envelope without a new sample for TMO becomes STALE (R344); event 102. -/
def State.envStale (s : State) (b : Nat) : State :=
  let e := s.envOf b
  if e.st = 2 ∧ s.envTmo b ≤ e.gap then ((s.modEnv b (fun e => { e with cnt := 0 })).envTo b 3).raise 102 else s
/-- ENVELOPE_STALE (R344). -/
def execEnvelopeStale (b : Fin 4) (s : State) : Host.Outcome State Fault Refusal := .next (s.lanes fun s => s.envStale b)

/-- The latch of one bus (R343 to R345). [DESIGN CHOICE: log 231] -/
def State.envLatch (s0 : State) (b : Nat) : State :=
  let src := s0.get (F.ALC_ENV_CFG_SRC b)
  let pc := s0.get (F.ALC_ENV_CFG_PACH b); let rc := s0.get (F.ALC_ENV_CFG_RACH b)
  let val (c : Nat) : Bool := c < 96 && s0.flag (F.SIG_S_STAT_VALID c)
  let e0 := s0.envOf b
  let fra := s0.get (F.ALC_ENV_FRA_W b); let fpa := s0.get (F.ALC_ENV_FPA_W b)
  let fresh := if src = 1 then e0.new && val pc && (rc == 127 || val rc) else src == 2 && e0.new
  let live (c : Nat) : Int := s0.getI (F.SIG_S_VAL_VALUE c)
  let pa := if src = 1 then (if pc < 96 then (live pc).toNat else e0.pa) else s0.get (F.ALC_ENV_HPA_W b)
  let ra := if src = 1 then (if rc = 127 then fra else if rc < 96 then (live rc).toNat else e0.ra) else s0.get (F.ALC_ENV_HRA_W b)
  let s := (s0.when (src == 1 && pc < 96) (·.envLive b (live pc))).when (src == 1 && rc < 96) (·.envLive b (live rc))
  let s1 : State :=
    if src = 0 ∨ src = 3 then (s.modEnv b (fun e => { e with wrote := false, new := false, cnt := 0, gap := 0 })).envTo b 0
    else
      let s2 := if e0.wrote || e0.st == 0 then (s.modEnv b (fun e => { e with cnt := 0, gap := 0 })).envTo b 1 else s
      let s3 := s2.modEnv b (fun e =>
        if fresh then { e with wrote := false, new := false, cnt := if e.cnt = 0 ∨ s.envTmo b < e.gap + 1 then 1 else e.cnt + 1, gap := 0, pa := pa, ra := ra }
        else { e with wrote := false, new := false, gap := e.gap + 1, pa := if e.st = 2 then pa else e.pa, ra := if e.st = 2 then ra else e.ra })
      let e := s3.envOf b
      if (e.st = 1 ∨ e.st = 3) ∧ max 1 (s.get (F.ALC_ENV_QUAL_REQ b)) ≤ e.cnt then (s3.envTo b 2).raise 103 else s3.envStale b
  let e := s1.envOf b
  let v : Nat × Nat := match e.st with
    | 2 => (e.pa, e.ra)
    | 3 => (min e.pa fpa, min e.ra fra)
    | _ => (fpa, fra)
  let mc := s1.get (F.ALC_EN_CFG_MEASCH b)
  let meas : Option Nat := if mc < 96 && s1.flag (F.SIG_S_STAT_VALID mc) then some (s1.getI (F.SIG_S_VAL_VALUE mc)).toNat else none
  ((s1.put (F.ALC_ENV_PA_W b) v.1).put (F.ALC_ENV_RA_W b) (if src = 1 && rc == 127 then fra else v.2)).modAlc (fun a =>
    { a with en := modNth a.en b (fun x => { x with meas := meas }) })

/-- HPA and HRA as the host wrote them take effect (R343). -/
def State.envHostAll (s : State) : State :=
  let mine (p : PendWrite) : Bool := 0x800200 ≤ p.off && p.off < 0x800280 && (p.off % 0x20 == 0x10 || p.off % 0x20 == 0x14)
  let l := s.frm.pend.filter mine
  let s1 := { s with frm := { s.frm with pend := s.frm.pend.filter (fun p => !mine p) } }
  s1.each l (fun s p =>
    let s2 := s.setWord p.off p.val
    if p.off % 0x20 = 0x10 then s2.modEnv ((p.off - 0x800200) / 0x20) (fun e => { e with new := e.new || s.get (F.ALC_ENV_CFG_SRC ((p.off - 0x800200) / 0x20)) == 2 })
    else s2)

/-- HPA and HRA count at the next latch (R343), not while HOLD stands (R64). -/
def State.envHost (s : State) : State := if s.flag F.FRM_CTRL_HOLD || s.frm.releaseAll then s else s.envHostAll

/-- The latch at major tick + 60 µs (R342); once in a major frame. -/
def State.latchAll (s : State) : State :=
  if s.alc.latched then s
  else ((s.envHost.each (List.range 4) State.envLatch).modAlc (fun a => { a with latched := true, saf := a.safAcq }))
/-- ENVELOPE_LATCH (R342): in minor frame 0, once ACQ has run. -/
def execEnvelopeLatch (s : State) : Host.Outcome State Fault Refusal :=
  .next (s.lanes fun s => if s.framesOn && s.now % 10000000 < 250000 then (s.runInside (s.stageTick 5 + 60000)).latchAll else s)

/-- A write of ALC_ENV_b_CFG (R344). -/
def State.envCfgApply (s : State) (b v : Nat) : State :=
  let s1 := s.setWord (F.ALC_ENV_CFG_SRC b).off v
  let src := s1.get (F.ALC_ENV_CFG_SRC b)
  if src = 1 ∨ src = 2 then s1.modEnv b (fun e => { e with wrote := true, new := false }) else s1

/-! ### Consequence problems -/

/-- tan 22.5° and tan 11.25° (R349). -/
def tan22 : Fl := ((Fl.ofInt 2).sqrt).sub (Fl.ofInt 1)
/-- See `tan22`. -/
def tan11 : Fl := (((Fl.ofInt 4).add (((Fl.ofInt 2).sqrt).scale 1)).sqrt).sub (((Fl.ofInt 2).sqrt).add (Fl.ofInt 1))
/-- A failure group. -/
def State.group (s : State) (g : Nat) : FailGroup := nth s.alc.groups g { prev := [], ran := false, wset := [], inf := 0, fea := 0, alarm := false }
/-- Changes a failure group. -/
def State.modGroup (s : State) (g : Nat) (f : FailGroup → FailGroup) : State := s.modAlc (fun a => { a with groups := modNth a.groups g f })
/-- Required forces (R348): N, N, N·m. -/
def State.required (s : State) : List Int :=
  let psi := bamRad (Fl.ofInt (s.estOut 6))
  let c := Fl.cos psi; let sn := Fl.sin psi
  let w (k : Nat) : Fl := Fl.ofInt (toInt 32 (s.estOut k))
  let sf := Fl.mk' (s.get F.ALC_CQ_SCALE_SF) (-12); let sm := Fl.mk' (s.get F.ALC_CQ_SCALE_SM) (-12)
  let x := sf.mul ((((w 10).mul c).add ((w 11).mul sn)).neg.sub (w 26))
  let y := sf.mul ((((w 10).mul sn).sub ((w 11).mul c)).sub (w 27))
  let n := sm.mul ((w 12).neg.sub (w 28))
  [x, y, n].map (fun v => clampS 32 v.rne)

/-- θc of an azimuth in a group's problem (R349): of its previous consequence result, else of the main result in effect; in TRANSIT
never short of the far edge (R347). [DESIGN CHOICE: log 226] -/
def State.cqAngle (s : State) (i : Nat) (prev : Option (List Fl)) : Nat :=
  let th : Nat := match prev with
    | some [fx, fy] => if (Fl.ofInt 1).le (((fx.mul fx).add (fy.mul fy)).sqrt) then radBam (Fl.atan2 fy fx) else s.res i 1
    | _ => s.res i 1
  match (s.thr i).trans with
  | some tr => if 0 ≤ tr.dir * toInt 32 (ofInt 32 ((th : Int) - tr.far)) then th else tr.far
  | none => th

/-- A thruster in a consequence problem (R349). -/
def State.cqThr (s : State) (g i : Nat) : QThr :=
  let prev := (s.group g).prev.lookup i
  let fmax := kilo (s.get (F.ALC_D_FMAX_N i)); let frev := kilo (s.get (F.ALC_D_FREV_N i))
  let seg := s.segments i
  let one := Fl.ofInt 1; let z := Fl.zero
  let base : QThr := { i := i, bus := s.get (F.ALC_T_CFG_BUS i), cols := s.thrCols i, rows := [], prow := [], dir := [], lo := z, hi := fmax
                       brk := (s.curvePts i).map (fun p => kilo p.1), wp := s.thrWp i, f0 := [] }
  match s.thrType i with
  | 1 =>
    let th := s.cqAngle i prev
    let a := angleAt th z
    let u := uVec a; let v := vVec a
    let comb (k : Fl) : List Fl := (u.zip v).map (fun p => p.1.add (k.mul p.2))
    let side (d : Int) : List Fl :=
      let hit := (List.range 2).filterMap (fun k => match s.edgeWay i k th with
        | some (dir, w) => if dir = d ∧ w ≤ 2 ^ 28 then some (max 0 w) else none
        | none => none)
      match hit with
      | w0 :: t => let w := t.foldl min w0; let n := vVec (angleAt th (Fl.ofInt (d * w))); if d = 1 then n else negV n
      | [] => let n := (v.map (fun x => if d = 1 then x else x.neg)); (n.zip u).map (fun p => p.1.sub (tan22.mul p.2))
    { base with
      rows := [⟨16, side 1, z⟩, ⟨17, side (-1), z⟩, ⟨18, comb tan11, fmax⟩, ⟨19, comb tan11.neg, fmax⟩]
      prow := powerRows seg 0 (comb tan11) ++ powerRows seg 8 (comb tan11.neg), dir := u
      f0 := prev.getD [kilo (s.resI i 2), kilo (s.resI i 3)] }
  | 3 =>
    let kr := Fl.mk' (s.get (F.ALC_D_RUD_KR i)) (-15)
    let ast := (s.thr i).astern
    let lo := if ast then frev.neg else z
    let hi := if ast then z else fmax
    let side : List QRow := if ast then [⟨2, [z, one], z⟩, ⟨3, [z, one.neg], z⟩] else [⟨2, [kr.neg, one], z⟩, ⟨3, [kr.neg, one.neg], z⟩]
    { base with rows := [⟨0, [one.neg, z], lo.neg⟩, ⟨1, [one, z], hi⟩] ++ side, prow := powerRows seg 4 [one, z], dir := [one, z], lo := lo, hi := hi
                f0 := prev.getD [kilo (s.resI i 2), kilo (s.resI i 3)] }
  | _ =>
    { base with rows := [⟨0, [one], fmax⟩, ⟨1, [one.neg], frev⟩], prow := powerRows seg 2 [one], dir := [one], lo := frev.neg
                f0 := prev.getD [kilo (s.resI i 0)] }

/-- A thruster is lost with a group (R346). -/
def State.lostWith (s : State) (g i : Nat) : Bool := bitOf (s.get (F.ALC_FG_CFG_THR g)) i || bitOf (s.get (F.ALC_FG_CFG_BUS g)) (s.get (F.ALC_T_CFG_BUS i))
/-- Thrust use of a thruster (R351). -/
def State.thrustUse (s : State) (q : QThr) (f : List Fl) : Fl :=
  let fmax := kilo (s.get (F.ALC_D_FMAX_N q.i)); let frev := kilo (s.get (F.ALC_D_FREV_N q.i))
  let x := nth f 0 Fl.zero; let y := nth f 1 Fl.zero
  let mag := if s.thrType q.i = 1 then (((x.mul x).add (y.mul y)).sqrt) else x.abs
  let lim := if s.thrType q.i != 1 && decide (x.sign < 0) then frev else fmax
  if mag.isZero then Fl.zero else mag.div lim

/-- Largest of numbered values, lowest number on ties. -/
def argMax (l : List (Nat × Fl)) : Nat × Fl := l.foldl (fun acc p => if acc.2.lt p.2 then p else acc) (l.headD (255, Fl.zero))

/-- One consequence solve (R349 to R352). -/
def State.cqSolve (s : State) (g : Nat) : State :=
  let ids := (List.range 16).filter (fun i => let t := (s.thr i).st; (t == 1 || t == 2) && !s.lostWith g i)
  let l := ids.map (fun i => (s.cqThr g i).held)
  let buses := (List.range 4).filter (fun b => !bitOf (s.get (F.ALC_FG_CFG_BUS g)) b && l.any (fun q => q.bus == b))
  let idle (b : Nat) : Fl := l.foldl (fun acc q => if q.bus = b then acc.add q.pMin else acc) Fl.zero
  let pa (b : Nat) : Fl := kilo (s.get (F.ALC_ENV_PA_W b))
  let bounds := buses.map (fun b => (b, (Fl.max (pa b) (idle b)).r32))
  let raised := buses.filter (fun b => (pa b).lt (idle b))
  let req := s.required
  let r := solveQp l bounds s.alcWeights (req.map kilo) (s.group g).wset 12
  let sol := r.1
  let slF := slackOf l sol.x (req.map kilo)
  let sl := slF.map whole
  let tol : List Nat := [s.get F.ALC_CQ_TOL_TOLF * 100, s.get F.ALC_CQ_TOL_TOLF * 100, s.get F.ALC_CQ_TOL_TOLM * 1000]
  let slN (a : Nat) : Fl := (nth slF a Fl.zero).abs.mul (Fl.ofInt 1000)
  let ovr := (List.range 3).filter (fun a => (Fl.ofInt (nth tol a 0 : Nat)).lt (slN a))
  let ratio (a : Nat) : Fl :=
    let d := max (nth req a 0).natAbs (10 * nth tol a 0)
    if d = 0 then Fl.ofInt 1 else (slN a).div (Fl.ofInt d)
  let useT := (l.zip sol.x).map (fun p => (p.1.i, s.thrustUse p.1 p.2.1))
  let useB := buses.map (fun b =>
    let p := (l.zip sol.x).foldl (fun acc q => if q.1.bus = b then acc.add (q.1.curve q.2.1) else acc) Fl.zero
    (16 + b, if p.isZero then Fl.zero else p.div (pa b)))
  let out : Nat × Int × Nat × Int :=
    if !raised.isEmpty then (2, -1000, 16 + raised.headD 0, 0)
    else if !ovr.isEmpty then
      let m := argMax (ovr.map (fun a => (a, ratio a)))
      (2, max (-1000) (-((m.2.mul (Fl.ofInt 1000)).rne)), 32 + m.1, nth sl m.1 0)
    else
      let m := argMax (useT ++ useB)
      (1, (((Fl.ofInt 1).sub m.2).mul (Fl.ofInt 1000)).rne, m.1, 0)
  let gr := s.group g
  let inf := if out.1 = 2 then gr.inf + 1 else 0
  let fea := if out.1 = 1 then gr.fea + 1 else 0
  let st := out.1 + 4 * b2n r.2.2 + 256 * sol.iter + 65536 * min 65535 (max inf fea)
  let words := [((F.ALC_FG_STAT_VERDICT g).off, st), ((F.ALC_FG_MARGIN_M g).off, ofInt 16 out.2.1 + 65536 * out.2.2.1), ((F.ALC_FG_SLACK_VALUE g).off, ofInt 32 out.2.2.2)]
  let s1 := (s.modGroup g (fun x => { x with prev := (l.zip sol.x).map (fun p => (p.1.i, p.2.1)), ran := true, wset := sol.w.map Prod.fst, inf := inf, fea := fea })).modAlc
    (fun a => { a with next := a.next ++ words })
  if r.2.2 then s1.raiseMajor 106 else s1

/-- The consequence solves of a frame (R350, R353). -/
def State.cqAll (s : State) : State :=
  let req := s.required
  let reqW := [(F.ALC_CQ_REQX_VALUE.off, ofInt 32 (nth req 0 0)), (F.ALC_CQ_REQY_VALUE.off, ofInt 32 (nth req 1 0)), (F.ALC_CQ_REQN_VALUE.off, ofInt 32 (nth req 2 0))]
  let idle (s : State) (g : Nat) : State := s.modAlc (fun a => { a with next := a.next ++ [((F.ALC_FG_STAT_VERDICT g).off, s.word (F.ALC_FG_STAT_VERDICT g).off / 4 * 4)] })
  let run := s.flag F.ALC_CTRL_EN && s.flag F.ALC_CQ_CTRL_EN
  if !run then (s.each (List.range 24) idle).each (List.range 24) (fun s g => s.modGroup g (fun x => { x with inf := 0, fea := 0 }))
  else if !s.outValid then (s.each (List.range 24) idle).modAlc (fun a => { a with next := a.next ++ reqW ++ [(F.ALC_CQ_STAT_NOEST.off, s.word F.ALC_CQ_STAT_NOEST.off % 2 ^ 24 + 2 ^ 24)] })
  else
    let s1 := s.each (List.range 24) (fun s g => if s.flag (F.ALC_FG_CFG_EN g) then s.cqSolve g else idle s g)
    s1.modAlc (fun a => { a with next := a.next ++ reqW ++ [(F.ALC_CQ_STAT_NOEST.off, s.word F.ALC_CQ_STAT_NOEST.off % 2 ^ 24)] })

/-- ALARM_T and CLR_T in major frames; 0 acts as 1 (R352). -/
def State.alarmFrames (s : State) (f : Fld) : Nat := 10 * max 1 (s.get f)
/-- ALARM of a group, in its register and in the map. -/
def State.putAlarm (s : State) (g : Nat) (b : Bool) : State :=
  let s1 := ((s.modGroup g (fun x => { x with alarm := b })).putB (F.ALC_FG_STAT_ALARM g) b).putBit F.ALC_CQ_ALARM_GROUP g b
  s1.putB F.ALC_CQ_STAT_ALARM (s1.get F.ALC_CQ_ALARM_GROUP != 0)
/-- The infeasible count reaches ALARM_T (R352); event 104. -/
def State.cqAlarm (s : State) (g : Nat) : State :=
  if !(s.group g).alarm && decide (s.alarmFrames F.ALC_CQ_CTRL_ALARM_T ≤ (s.group g).inf) then (s.putAlarm g true).raise 104 else s
/-- CONSEQUENCE_ALARM (R352). -/
def execConsequenceAlarm (g : Fin 24) (s : State) : Host.Outcome State Fault Refusal := .next (s.lanes fun s => s.cqAlarm g)
/-- A group's ALARM clears; with the last one, event 105 (R352, R353). -/
def State.cqDrop (s : State) (g : Nat) : State :=
  if (s.group g).alarm then
    let s1 := s.putAlarm g false
    if s1.flag F.ALC_CQ_STAT_ALARM then s1 else s1.raise 105
  else s
/-- The feasible count reaches CLR_T (R352). -/
def State.cqClear (s : State) (g : Nat) : State := if s.alarmFrames F.ALC_CQ_CTRL_CLR_T ≤ (s.group g).fea then s.cqDrop g else s
/-- CONSEQUENCE_ALARM_CLEAR (R352). -/
def execConsequenceAlarmClear (g : Fin 24) (s : State) : Host.Outcome State Fault Refusal := .next (s.lanes fun s => s.cqClear g)

/-- A write of ALC_FG_g_CFG (R346): the group's counters and its alarm bit are cleared. -/
def State.groupApply (s : State) (g v : Nat) : State :=
  (((s.setWord (F.ALC_FG_CFG_THR g).off v).modGroup g (fun x => { x with inf := 0, fea := 0 })).put (F.ALC_FG_STAT_COUNT g) 0).cqDrop g

/-- Verdicts in effect: alarms, the map of INFEASIBLE groups and the worst margin (R351 to R353). -/
def State.cqMajor (s : State) : State :=
  let run := s.flag F.ALC_CTRL_EN && s.flag F.ALC_CQ_CTRL_EN
  let m := s.get F.CLE_MODE_STAT_MODE
  let s1 := s.each (List.range 24) (fun s g => s.putB (F.ALC_FG_STAT_ALARM g) (s.group g).alarm)
  let s2 := if !run then (s1.each (List.range 24) (fun s g => s.put (F.ALC_FG_STAT_COUNT g) 0)).each (List.range 24) State.cqDrop
    else if m < 3 then (s1.each (List.range 24) (fun s g => (s.modGroup g (fun x => { x with inf := 0, fea := 0 })).put (F.ALC_FG_STAT_COUNT g) 0)).each (List.range 24) State.cqDrop
    else (s1.each (List.range 24) State.cqAlarm).each (List.range 24) State.cqClear
  let verd (g : Nat) : Nat := s2.get (F.ALC_FG_STAT_VERDICT g)
  let inf := maskOf ((List.range 24).map (fun g => verd g == 2))
  let worst := (List.range 24).foldl (fun (acc : Nat × Int) g =>
    if verd g = 0 then acc
    else let x := s2.getI (F.ALC_FG_MARGIN_M g); if acc.1 = 31 ∨ x < acc.2 then (g, x) else acc) (31, 0)
  ((s2.put F.ALC_CQ_STAT_INFEAS inf).put F.ALC_CQ_WORST_GROUP worst.1).putI F.ALC_CQ_WORST_MARGIN worst.2

/-! ### Energy -/

/-- A bus's energy state. -/
def State.energy (s : State) (b : Nat) : Energy := nth s.alc.en b { meas := none, rem := 0, bin := 0, frames := 0, bins := [] }
/-- Changes it. -/
def State.modEnergy (s : State) (b : Nat) (f : Energy → Energy) : State := s.modAlc (fun a => { a with en := modNth a.en b f })
/-- A 64-bit pair of counters. -/
def State.pair64 (s : State) (lo hi : Fld) : Nat := s.get lo + 2 ^ 32 * s.get hi
/-- See `pair64`. -/
def State.putPair (s : State) (lo hi : Fld) (v : Nat) : State := (s.put lo (v % 2 ^ 32)).put hi (v / 2 ^ 32)
/-- A bin of 6,000 frames completes (R355). -/
def State.binDone (s : State) (b : Nat) : State :=
  let e := s.energy b
  if e.frames < 6000 then s
  else
    let bins := (e.bin :: e.bins).take 60
    ((s.modEnergy b (fun e => { e with bin := 0, frames := 0, bins := bins })).put (F.ALC_EN_HOUR_WH b) (divRne (bins.foldl (· + ·) 0 : Nat) 3600).toNat).putB
      (F.ALC_EN_CFG_HFULL b) (bins.length == 60)
/-- ENERGY_BIN_COMPLETE (R355). -/
def execEnergyBinComplete (b : Fin 4) (s : State) : Host.Outcome State Fault Refusal := .next (s.lanes fun s => s.binDone b)
/-- The energy of the ending frame on one bus (R354, R355). -/
def State.energyBus (s : State) (b : Nat) : State :=
  let e := s.energy b
  let set := s.get (F.ALC_EN_CFG_MEASCH b) != 127
  let p := e.meas.getD (s.get (F.ALC_BUS_PWR_W b))
  let s0 := if set && e.meas.isNone then s.inc (F.ALC_EN_CFG_FBCNT b) else s
  let q := (e.rem + p) / 100
  let m := s.get F.CLE_MODE_STAT_MODE
  let s1 := (s0.modEnergy b (fun e => { e with rem := (e.rem + p) % 100, meas := none })).putPair (F.ALC_EN_TOT_LO_WS b) (F.ALC_EN_TOT_HI_WS b)
    ((s.pair64 (F.ALC_EN_TOT_LO_WS b) (F.ALC_EN_TOT_HI_WS b) + q) % 2 ^ 64)
  if 3 ≤ m then
    let sk := (s.pair64 (F.ALC_EN_SK_LO_WS b) (F.ALC_EN_SK_HI_WS b) + q) % 2 ^ 64
    let n := (s.get (F.ALC_EN_SKT_FRAMES b) + 1) % 2 ^ 32
    let s2 := ((s1.putPair (F.ALC_EN_SK_LO_WS b) (F.ALC_EN_SK_HI_WS b) sk).put (F.ALC_EN_SKT_FRAMES b) n).modEnergy b (fun e => { e with bin := e.bin + q, frames := e.frames + 1 })
    (s2.put (F.ALC_EN_RATE_W b) (if n = 0 then 0 else min (2 ^ 32 - 1) (divRne (100 * sk : Nat) n).toNat)).binDone b
  else s1
/-- CLR bits of ALC_EN_CTRL (R355). -/
def State.energyClear (s : State) (mask : Nat) : State :=
  s.each ((List.range 4).filter (bitOf mask)) (fun s b =>
    let s1 := s.modEnergy b (fun e => { e with rem := 0, bin := 0, frames := 0, bins := [] })
    let s2 := (s1.putPair (F.ALC_EN_TOT_LO_WS b) (F.ALC_EN_TOT_HI_WS b) 0).putPair (F.ALC_EN_SK_LO_WS b) (F.ALC_EN_SK_HI_WS b) 0
    (((s2.put (F.ALC_EN_SKT_FRAMES b) 0).put (F.ALC_EN_HOUR_WH b) 0).put (F.ALC_EN_RATE_W b) 0).put (F.ALC_EN_CFG_HFULL b) 0)
/-- ENERGY_CLEAR (R355): applied at a major tick. -/
def execEnergyClear (mask : BitVec 4) (s : State) : Host.Outcome State Fault Refusal := .next (s.lanes fun s => s.energyClear mask.toNat)

/-! ### The stage and the major tick -/

/-- The ALC stage (R45): DP-axis step, main solve, consequence solves. -/
def State.alcWork (s : State) : State :=
  let s1 := (s.latchAll).dpStep
  if s1.flag F.ALC_CTRL_EN then s1.mainSolve.cqAll else s1.cqAll
/-- ALC overran (R55, R353): the result is held. -/
def State.alcOver (s : State) : State := (s.modAlc (fun a => { a with next := [], fresh := false, held := true })).modMd (fun d => { d with pub := none })
/-- At a major tick the energy of the ending frame is added, then the results of the ending frame take effect (R49, R333, R354).
[DEDUCED: log 232] -/
def State.alcMajor (s : State) : State :=
  let run := s.framesOn && !s.flag F.FRM_STATUS_MAJOR_WAIT
  let s0 := if run then s.each (List.range 4) State.energyBus else s
  let was (b : Nat) : Bool := s0.flag (F.ALC_BUS_STAT_LIMRAISED b)
  let s1 := (s0.each s0.alc.next (fun s p => s.setWord p.1 p.2)).modeMajor
  let s2 := s1.each (List.range 4) (fun s b => if s.flag (F.ALC_BUS_STAT_LIMRAISED b) && !was b then s.raise 97 else s)
  let s3 := if s2.alc.held then s2.each ((List.range 24).filter (fun g => s2.flag (F.ALC_FG_CFG_EN g))) (fun s g => s.put (F.ALC_FG_STAT_HELD g) 1) else s2.cqMajor
  (s3.each (List.range 16) State.fsServe).modAlc (fun a => { a with next := [], fresh := false, held := false, latched := false })

/-- The body forces of the result in effect are the τ_T of the frame that begins (R214, R333); the estimator keeps the tick (R218,
R220). -/
def State.alcTau (s : State) : State :=
  let tau := [F.ALC_TAU_X_VALUE, F.ALC_TAU_Y_VALUE, F.ALC_TAU_N_VALUE].map (fun f => (Fl.ofInt (s.getI f)).r32)
  s.modEst (fun e => { e with tauNow := tau, ticks := ((s.majTick, tau) :: e.ticks).take 64 })

/-- A write of ALC_CTRL (R337, R338): clearing EN gives zero thrust on every thruster. [DEDUCED: log 228] -/
def State.alcCtrlApply (s : State) (v : Nat) : State :=
  let s1 := s.setWord 0x800000 v
  if s.flag F.ALC_CTRL_EN && !s1.flag F.ALC_CTRL_EN then
    let s2 := (s1.each (List.range 16) State.zeroResult).each [F.ALC_TAU_X_VALUE, F.ALC_TAU_Y_VALUE, F.ALC_TAU_N_VALUE, F.ALC_PTOT_W] (fun s f => s.put f 0)
    (s2.each (List.range 4) (fun s b => s.put (F.ALC_BUS_PWR_W b) 0)).modAlc (fun a => { a with next := [] })
  else s1

end Sys2Proof.Machine
end

