-- ==== Sys2Proof/Machine/Prf.lean ====
section
/-! DEFINITION. The profile unit (chapter 12): plans (R361 to R363), moves, stops and aborts (R364 to R371), inputs and limits (R372 to
R376), homing (R378, R379), step and microstep outputs (R380 to R384). -/

namespace Sys2Proof.Machine

open Sys2Proof

/-! ### Plans -/

/-- Jerk time, constant-acceleration time and duration of a velocity change (R361). -/
def velTimes (dv a j : Fl) : Fl × Fl × Fl :=
  let d := dv.abs
  if ((a.mul a).div j).le d then
    let tj := a.div j
    let ta := (d.div a).sub tj
    (tj, ta, (tj.scale 1).add ta)
  else
    let tj := (d.div j).sqrt
    (tj, Fl.zero, tj.scale 1)
/-- Distance δ(va → vb) (R361). -/
def velDist (va vb a j : Fl) : Fl := (((va.add vb).scale (-1)).mul (velTimes (vb.sub va) a j).2.2)
/-- Segments of C(va → vb). -/
def velSegs (va vb a j : Fl) : List (Fl × Fl) :=
  let dv := vb.sub va
  if dv.isZero then []
  else
    let t := velTimes dv a j
    let jj := if dv.sign < 0 then j.neg else j
    [(jj, t.1), (Fl.zero, t.2.1), (jj.neg, t.1)]
/-- Phase Z: segment, velocity after it and way covered (R362). -/
def phaseZ (v a j : Fl) : List (Fl × Fl) × Fl × Fl :=
  if a.isZero then ([], v, Fl.zero)
  else
    let t := a.abs.div j
    let v1 := v.add ((a.mul a.abs).div (j.scale 1))
    let jj := if 0 < a.sign then j.neg else j
    let ds := ((v.mul t).add (((a.mul t).mul t).scale (-1))).add ((((jj.mul t).mul t).mul t).div (Fl.ofInt 6))
    ([(jj, t)], v1, ds)
/-- Lower end of the bracket after `n` bisection steps for the largest speed that fits (R362). [DESIGN CHOICE: log 252] -/
def cruiseGo (fits : Fl → Bool) : Nat → Fl → Fl → Fl
  | 0, lo, _ => lo
  | n + 1, lo, hi => let m := (lo.add hi).scale (-1); if fits m then cruiseGo fits n m hi else cruiseGo fits n lo m
/-- The normal route from velocity v1 over a distance (R362, step 2). -/
def normalRoute (v1 d vmax a j : Fl) : List (Fl × Fl) :=
  let total (vc : Fl) : Fl := (velDist v1 vc a j).add (velDist vc Fl.zero a j)
  let vc := cruiseGo (fun x => (total x).le d) 48 Fl.zero vmax
  let cruise := if vc.isZero then [] else [(Fl.zero, (d.sub (total vc)).div vc)]
  velSegs v1 vc a j ++ cruise ++ velSegs vc Fl.zero a j
/-- Segments with the jerk's sign changed. -/
def flipSegs (l : List (Fl × Fl)) : List (Fl × Fl) := l.map (fun p => (p.1.neg, p.2))
/-- The farthest point along the way in phase Z, where the velocity turns there (R362). -/
def phaseZPeak (v a j : Fl) : Fl :=
  let disc := (a.mul a).sub ((j.mul v).scale 1)
  if Fl.zero.lt v && a.sign < 0 && Fl.zero.le disc then
    let t := (a.neg.sub disc.sqrt).div j
    if t.le (a.abs.div j) then ((v.mul t).add (((a.mul t).mul t).scale (-1))).add ((((j.mul t).mul t).mul t).div (Fl.ofInt 6)) else Fl.zero
  else Fl.zero
/-- A plan over a signed distance (R362): segments, and whether the target is passed. Where no distance is left, σ is the sign of the
motion. -/
def planSegs (d v a vmax amax j : Fl) : List (Fl × Fl) × Bool :=
  let neg := if d.isZero then decide (v.sign < 0) else decide (d.sign < 0)
  let f (x : Fl) : Fl := if neg then x.neg else x
  let z := phaseZ (f v) (f a) j
  let v1 := z.2.1
  let d1 := (f d).sub z.2.2
  let stop := velDist v1 Fl.zero amax j
  let r : List (Fl × Fl) × Bool :=
    if 0 ≤ d1.sign && 0 ≤ v1.sign && stop.le d1 then (z.1 ++ normalRoute v1 d1 vmax amax j, false)
    else
      let d2 := d1.sub stop
      let back := normalRoute Fl.zero d2.abs vmax amax j
      (z.1 ++ velSegs v1 Fl.zero amax j ++ (if d2.sign < 0 then flipSegs back else back), decide (d1.sign < 0) || decide (d2.sign < 0) || (f d).lt (phaseZPeak (f v) (f a) j))
  (if neg then flipSegs r.1 else r.1, r.2)
/-- Segments of a stop (R368). -/
def stopSegs (v a amax j : Fl) : List (Fl × Fl) := let z := phaseZ v a j; z.1 ++ velSegs z.2.1 Fl.zero amax j
/-- Duration of a plan. -/
def PrfPlan.total (p : PrfPlan) : Fl := p.segs.foldl (fun t x => t.add x.2) Fl.zero
/-- State after a time along segments. -/
def walkSegs : List (Fl × Fl) → Fl → Fl → Fl → Fl → Fl × Fl × Fl
  | [], _, s, v, a => (s, v, a)
  | (j, d) :: r, t, s, v, a =>
    let x := if t.lt d then t else d
    let s' := (s.add (v.mul x)).add (((((a.mul x).mul x).scale (-1))).add ((((j.mul x).mul x).mul x).div (Fl.ofInt 6)))
    let v' := (v.add (a.mul x)).add (((j.mul x).mul x).scale (-1))
    let a' := a.add (j.mul x)
    if t.lt d then (s', v', a') else walkSegs r (t.sub d) s' v' a'

/-! ### Axes -/

/-- An axis's hidden state. -/
def State.axis (s : State) (n : Nat) : Axis := nth s.prf.axes n Axis.init
/-- Changes the profile unit. -/
def State.modPrf (s : State) (f : PrfState → PrfState) : State := { s with prf := f s.prf }
/-- Changes an axis. -/
def State.modAxis (s : State) (n : Nat) (f : Axis → Axis) : State := s.modPrf (fun p => { p with axes := modNth p.axes n f })
/-- State of an axis, with its register field. -/
def State.axisTo (s : State) (n st : Nat) : State := (s.modAxis n (fun x => { x with st := st })).put (F.PRF_P_STAT_STATE n) st
/-- A limit word; A or J of 0 acts as 2^32 - 1. [DEDUCED: log 243] -/
def limFl (x : Nat) : Fl := Fl.ofInt (if x = 0 then 2 ^ 32 - 1 else (x : Int))
/-- V as it acts: clamped by the output form (R381, R384). -/
def State.axisV (s : State) (n : Nat) : Nat :=
  let v := s.get (F.PRF_P_V_LIM n)
  match s.get (F.PRF_P_CFG_OUT n) with
  | 2 => min v 1000000
  | 3 => min v 20400000
  | _ => v
/-- V, A, J, or the emergency limits. -/
def State.axisLim (s : State) (n : Nat) (em : Bool) : Fl × Fl :=
  if em then (limFl (s.get (F.PRF_P_EA_LIM n)), limFl (s.get (F.PRF_P_EJ_LIM n))) else (limFl (s.get (F.PRF_P_A_LIM n)), limFl (s.get (F.PRF_P_J_LIM n)))
/-- The axis is at rest. -/
def Axis.atRest (x : Axis) : Bool := x.plan.isNone && x.v.isZero && x.a.isZero
/-- Position as an int32 or BAM32 word. -/
def Axis.posWord (x : Axis) (angle : Bool) : Nat := if angle then ofInt 32 x.s.rne else ofInt 32 (clampS 32 x.s.rne)
/-- POS, VEL and ACC of the sample (R363). [DEDUCED: log 248] -/
def State.axisPub (s : State) (n : Nat) : State :=
  let x := s.axis n
  ((s.put (F.PRF_P_POS_VALUE n) (x.posWord (s.flag (F.PRF_P_CFG_ANGLE n)))).putSat (F.PRF_P_VEL_VALUE n) x.v.rne).putSat (F.PRF_P_ACC_VALUE n) x.a.rne
/-- Signed distance from the position to a target (R360). -/
def State.axisDist (s : State) (n : Nat) (t : Fl) : Fl :=
  let d := t.sub (s.axis n).s
  if s.flag (F.PRF_P_CFG_ANGLE n) then wrapHalf d else d
/-- Target word as a number. -/
def State.axisTgt (s : State) (n : Nat) (t : Int) : Fl := Fl.ofInt (if s.flag (F.PRF_P_CFG_ANGLE n) then t % 2 ^ 32 else t)
/-- The clamp of V sets LIMCLAMP (R381, R384). -/
def State.vClamp (s : State) (n : Nat) : State := if s.axisV n < s.get (F.PRF_P_V_LIM n) then s.put (F.PRF_P_STAT_LIMCLAMP n) 1 else s
/-- A plan to a target at a speed limit (R362). [DESIGN CHOICE: log 244] -/
def State.axisPlan (s : State) (n : Nat) (t : Fl) (vmax : Fl) : State :=
  let x := s.axis n
  let l := s.axisLim n false
  let p := planSegs (s.axisDist n t) x.v x.a vmax l.1 l.2
  let s1 := s.modAxis n (fun x => { x with plan := some { segs := p.1, s0 := x.s, v0 := x.v, a0 := x.a, k := 0, goal := some t } })
  let s2 := s1.vClamp n
  if p.2 then s2.put (F.PRF_P_STAT_OVERSHOOT n) 1 else s2
/-- V of an axis as a number. -/
def State.axisVFl (s : State) (n : Nat) : Fl := Fl.ofInt (s.axisV n : Nat)
/-- A stop plan (R368). -/
def State.axisStopPlan (s : State) (n : Nat) (em : Bool) : State :=
  let l := s.axisLim n em
  s.modAxis n (fun x => { x with plan := some { segs := stopSegs x.v x.a l.1 l.2, s0 := x.s, v0 := x.v, a0 := x.a, k := 0, goal := none } })
/-- Refusal of a command (R369). -/
def State.axisRefuse (s : State) (n : Nat) : State := s.put (F.PRF_P_STAT_REFUSED n) 1

/-- A limit is active (R376): role 0 negative, 1 positive; 2 the home input. -/
def State.axisActive (s : State) (n r : Nat) : Bool :=
  let sel := nth [s.get (F.PRF_P_INSEL_NEG n), s.get (F.PRF_P_INSEL_POS n), s.get (F.PRF_P_INSEL_HOME n)] r 63
  let pol := nth [s.flag (F.PRF_P_INSEL_POLN n), s.flag (F.PRF_P_INSEL_POLP n), s.flag (F.PRF_P_INSEL_POLH n)] r false
  let x := s.axis n
  sel < 48 && ((nth x.tick r false != pol) || (r < 2 && nth x.chat r false))
/-- A limit is active in a direction. -/
def State.limitAhead (s : State) (n : Nat) (dir : Int) : Bool := (dir > 0 && s.axisActive n 1) || (dir < 0 && s.axisActive n 0)

/-- An ABORT (R368, R377); event 113. The first cause stays. -/
def State.axisAbort (s : State) (n cause : Nat) (fault : Bool) : State :=
  let x := s.axis n
  let s1 := if s.get (F.PRF_P_STAT_CAUSE n) = 0 then s.put (F.PRF_P_STAT_CAUSE n) cause else s
  let mark (s : State) : State := s.modAxis n (fun x => { x with fault := x.fault || fault })
  if x.st = 2 ∨ x.st = 3 ∨ x.st = 5 ∨ x.st = 6 then
    let s2 := if x.pend.isSome then (s1.put (F.PRF_P_STAT_DISCARDED n) 1).put (F.PRF_P_STAT_PEND n) 0 else s1
    ((mark ((s2.modAxis n (fun x => { x with pend := none, ending := false })).axisStopPlan n true)).axisTo n 4).raise 113
  else if x.st = 4 then mark s1
  else s

/-- A homing fault (R379); event 116. -/
def State.homeFault (s : State) (n cause : Nat) : State := ((s.put (F.PRF_P_STAT_HFCAUSE n) cause).raise 116).axisAbort n 4 true

/-- Where the motion in progress ends: the target of its plan, or the stop point. -/
def Axis.endPos (x : Axis) : Fl :=
  match x.plan with
  | none => x.s
  | some p => p.goal.getD (walkSegs p.segs p.total p.s0 p.v0 p.a0).1
/-- A MOVE is refused (R369); a move that waits starts where the motion in progress ends. -/
def State.moveRefused (s : State) (n : Nat) (t : Int) : Bool :=
  let x := s.axis n
  let d := (s.axisTgt n t).sub x.endPos
  let from' := if s.flag (F.PRF_P_CFG_ANGLE n) then wrapHalf d else d
  s.flag (F.PRF_P_CFG_MODE n) || x.st == 4 || x.st == 5 || x.st == 8 || x.st == 0 || x.off ||
    (!s.flag (F.PRF_P_CFG_ANGLE n) && (decide (t < s.getI (F.PRF_P_SMIN_VALUE n)) || decide (s.getI (F.PRF_P_SMAX_VALUE n) < t))) ||
    (s.flag (F.PRF_P_CFG_REQHOME n) && !s.flag (F.PRF_P_STAT_HOMED n)) || s.limitAhead n from'.sign
/-- A move starts (R366). -/
def State.moveStart (s : State) (n : Nat) (t : Int) : State :=
  ((s.modAxis n (fun x => { x with tgt := t })).axisPlan n (s.axisTgt n t) (s.axisVFl n)).axisTo n 2
/-- CMD.MOVE (R366, R369). -/
def State.axisMove (s0 : State) (n : Nat) : State :=
  let t := s0.getI (F.PRF_P_TGT_TARGET n)
  if s0.moveRefused n t then s0.axisRefuse n
  else
    let s := s0.put (F.PRF_P_STAT_CAUSE n) 0
    let x := s.axis n
    if x.st = 1 then s.moveStart n t
    else
      let s1 := if x.pend.isSome then (s.put (F.PRF_P_STAT_REPLACED n) 1).raise 118 else s
      ((s1.modAxis n (fun x => { x with pend := some t })).put (F.PRF_P_STAT_PEND n) 1).putI (F.PRF_P_PTGT_VALUE n) t
/-- CMD.STOP (R368, R370). -/
def State.axisStop (s : State) (n : Nat) : State :=
  let x := s.axis n
  if x.st = 2 ∨ x.st = 5 ∨ x.st = 6 then ((s.modAxis n (fun x => { x with ending := false })).axisStopPlan n false).axisTo n 3 else s
/-- A homing phase begins: LEAVE, SEEK or PARK (R378). -/
def State.homePhase (s : State) (n ph : Nat) : State :=
  let up := s.flag (F.PRF_P_CFG_HDIR n) == (ph == 2)
  let d := Fl.ofInt (s.getI (F.PRF_P_HMAXD_VALUE n))
  let t := if ph = 4 then s.axisTgt n (s.getI (F.PRF_P_HOFS_VALUE n)) else (s.axis n).s.add (if up then d else d.neg)
  let v := if ph = 4 then s.axisVFl n else Fl.ofInt (s.get (F.PRF_P_HV_LIM n) : Nat)
  let s1 := (s.modAxis n (fun x => { x with ending := false, latch := if ph = 2 then none else x.latch })).put (F.PRF_P_STAT_PHASE n) ph
  if ph = 4 then s1.axisPlan n t v
  else
    let x := s1.axis n
    let l := s1.axisLim n false
    s1.modAxis n (fun y => { y with plan := some { segs := (planSegs (t.sub x.s) x.v x.a v l.1 l.2).1, s0 := x.s, v0 := x.v, a0 := x.a, k := 0, goal := some t } })
/-- CMD.HOME (R378). -/
def State.axisHome (s : State) (n : Nat) : State :=
  let x := s.axis n
  let ok := x.st == 1 && !s.flag (F.PRF_P_CFG_MODE n) && s.get (F.PRF_P_CFG_OUT n) != 1 && s.get (F.PRF_P_INSEL_HOME n) < 48 && s.get (F.PRF_P_HV_LIM n) != 0
  if ok then ((s.put (F.PRF_P_STAT_HFCAUSE n) 0).homePhase n (if s.axisActive n 2 then 1 else 2)).axisTo n 5 else s.axisRefuse n
/-- CMD.RESUME (R370). -/
def State.axisResume (s : State) (n : Nat) : State :=
  if (s.axis n).st = 7 then (s.modAxis n (fun x => { x with v := Fl.zero, a := Fl.zero, last := x.s.rne })).axisTo n 6 else s
/-- CMD.CLRFLT: CAUSE keeps the first cause until it (R377); in FAULT the axis leaves that state (R371). [DEDUCED: log 250] -/
def State.axisClrflt (s0 : State) (n : Nat) : State :=
  let s := s0.put (F.PRF_P_STAT_CAUSE n) 0
  if (s.axis n).st = 8 then
    ((s.put (F.PRF_P_STAT_HOMED n) 0).modAxis n (fun x => { x with fault := false })).axisTo n
      (if s.flag (F.PRF_P_CFG_MODE n) then 7 else 1)
  else s
/-- A write of PRF_P_n_CMD, with the coincidences of R370. [DEDUCED: log 247] -/
def State.prfCmd (s : State) (n v : Nat) : State :=
  let mv := bitOf v 0; let st := bitOf v 1; let ab := bitOf v 2
  let s1 :=
    if ab then (s.axisAbort n 1 false).when mv (·.axisRefuse n)
    else if st then
      if mv && (s.axis n).st == 1 then s.axisMove n else (s.axisStop n).when mv (·.axisMove n)
    else s.when mv (·.axisMove n)
  ((s1.when (bitOf v 3) (·.axisHome n)).when (bitOf v 4) (·.axisResume n)).when (bitOf v 5) (·.axisClrflt n)

/-- PRF_MOVE (R366). -/
def execPrfMove (n : Fin 32) (s : State) : Host.Outcome State Fault Refusal := .next (s.lanes fun s => s.prfCmd n 1)
/-- PRF_STOP (R368). -/
def execPrfStop (n : Fin 32) (s : State) : Host.Outcome State Fault Refusal := .next (s.lanes fun s => s.prfCmd n 2)
/-- PRF_ABORT (R368). -/
def execPrfAbort (n : Fin 32) (s : State) : Host.Outcome State Fault Refusal := .next (s.lanes fun s => s.prfCmd n 4)
/-- PRF_HOME (R378). -/
def execPrfHome (n : Fin 32) (s : State) : Host.Outcome State Fault Refusal := .next (s.lanes fun s => s.prfCmd n 8)
/-- PRF_RESUME (R370). -/
def execPrfResume (n : Fin 32) (s : State) : Host.Outcome State Fault Refusal := .next (s.lanes fun s => s.prfCmd n 16)
/-- PRF_CLRFLT (R371). -/
def execPrfClrflt (n : Fin 32) (s : State) : Host.Outcome State Fault Refusal := .next (s.lanes fun s => s.prfCmd n 32)
/-- PRF_ABORTALL (R377). -/
def State.prfAbortAll (s : State) (mask : Nat) : State := s.each ((List.range 32).filter (bitOf mask)) (fun s n => s.axisAbort n 1 false)
/-- PRF_ABORTALL (R377). -/
def execPrfAbortall (mask : Word) (s : State) : Host.Outcome State Fault Refusal := .next (s.lanes fun s => s.prfAbortAll mask.toNat)

/-- The telegram slot of an axis has a thruster, and the axis is neither its AXIS_A nor its AXIS_C (R416). -/
def State.tlgForeign (s : State) (n : Nat) : Bool :=
  let i := s.get (F.CAN_TLG_CFG_THR (s.get (F.PRF_P_CFG_OIDX n)))
  s.get (F.PRF_P_CFG_OUT n) == 1 && decide (i < 16) && s.get (F.ALC_D_WP_AXIS_A i) != n && s.get (F.ALC_D_WP_AXIS_C i) != n
/-- Another axis with EN uses the same telegram slot, step output or actuator (R380), or the slot is another's (R416). -/
def State.outTaken (s : State) (n : Nat) : Bool :=
  let o := s.get (F.PRF_P_CFG_OUT n)
  s.tlgForeign n || (o != 0 && (List.range 32).any (fun m =>
    m != n && s.flag (F.PRF_P_CFG_EN m) && s.get (F.PRF_P_CFG_OUT m) == o && s.get (F.PRF_P_CFG_OIDX m) == s.get (F.PRF_P_CFG_OIDX n)))
/-- A conflict of axes or sources (R359, R380): SRCERR, PRF_ERR.CFG, event 119. -/
def State.srcErr (s : State) (n : Nat) : State := if s.flag (F.PRF_P_STAT_SRCERR n) then s else ((s.put (F.PRF_P_STAT_SRCERR n) 1).put F.PRF_ERR_CFG 1).raise 119
/-- POS as a position of the axis (R360). -/
def State.posInt (s : State) (n : Nat) : Int :=
  let w := s.word (F.PRF_P_POS_VALUE n).off
  if s.flag (F.PRF_P_CFG_ANGLE n) then (w : Int) else toInt 32 w
/-- An axis is switched on (R371). -/
def State.axisOn (s : State) (n : Nat) : State :=
  if s.outTaken n then (s.put (F.PRF_P_CFG_EN n) 0).srcErr n
  else
    let p := s.posInt n
    let z := Fl.zero
    ((s.put (F.PRF_P_STAT_SRCERR n) 0).modAxis n (fun x => { x with
      s := Fl.ofInt p, ps := Fl.ofInt p, v := z, a := z, pv := z, plan := none, pend := none, fault := false, off := false, last := p, rest := 0, hist := []
      amp := s.get (F.PRF_P_AMP_AMPL n) })).axisTo n (if s.flag (F.PRF_P_CFG_MODE n) then 6 else 1)
/-- A write of PRF_P_n_CFG (R370, R371, R380). [DEDUCED: log 245 and 246] -/
def State.prfCfgApply (s : State) (n v : Nat) : State :=
  let old := s.word (F.PRF_P_CFG_EN n).off
  let fixed (w : Nat) : Nat := bitsOf w 2 1 + 4 * bitsOf w 5 4 + 16 * bitsOf w 11 8
  let x := s.axis n
  if fixed old ≠ fixed v ∧ ¬(x.st = 0 ∨ x.st = 1 ∨ x.st = 7) then s.axisRefuse n
  else
    let s1 := s.setWord (F.PRF_P_CFG_EN n).off v
    let was := bitOf old 0; let now := bitOf v 0
    if !was && now then s1.axisOn n
    else if was && !now then
      if x.atRest then (s1.modAxis n (fun x => { x with pend := none, off := false })).axisTo n 0
      else (s1.modAxis n (fun x => { x with off := true })).axisAbort n 5 false
    else if fixed old ≠ fixed v && now then
      let s2 := if bitOf old 2 == bitOf v 2 then s1
        else s1.modAxis n (fun x => { x with s := Fl.ofInt (s1.posInt n), ps := Fl.ofInt (s1.posInt n), hist := [] })
      if s1.outTaken n then (s.srcErr n).axisRefuse n
      else if x.st = 1 ∧ s1.flag (F.PRF_P_CFG_MODE n) then (s2.modAxis n (fun x => { x with last := x.s.rne })).axisTo n 6
      else if x.st = 7 ∧ s1.flag (F.PRF_P_CFG_MODE n) = false then s2.axisTo n 1
      else s2
    else s1
/-- New limits of an axis (R364): a running plan is formed anew from the sample last formed. -/
def State.axisReplan (s : State) (n : Nat) : State :=
  let x := s.axis n
  if x.plan.isNone then s
  else match x.st with
    | 2 => s.axisPlan n (s.axisTgt n x.tgt) (s.axisVFl n)
    | 3 => s.axisStopPlan n false
    | 4 => s.axisStopPlan n true
    | 5 =>
      if x.ending then s.axisStopPlan n false
      else match x.plan with
        | some p =>
          let v := if s.get (F.PRF_P_STAT_PHASE n) = 4 then s.axisVFl n else Fl.ofInt (s.get (F.PRF_P_HV_LIM n) : Nat)
          let l := s.axisLim n false
          let g := p.goal.getD x.s
          s.modAxis n (fun x => { x with plan := some { p with segs := (planSegs (g.sub x.s) x.v x.a v l.1 l.2).1, s0 := x.s, v0 := x.v, a0 := x.a, k := 0 } })
        | none => s
    | _ => s

/-! ### Inputs -/

/-- Position of the plan at an instant, between the two samples that bracket it (R374). -/
def State.posAt (s : State) (n t : Nat) : Fl :=
  let x := s.axis n
  let ang := s.flag (F.PRF_P_CFG_ANGLE n)
  let rec go : List (Nat × Fl) → Fl
    | [] => x.s
    | [p] => p.2
    | p :: q :: r =>
      if 0 ≤ linDiff t p.1 then p.2
      else if 0 ≤ linDiff t q.1 then
        let d0 := p.2.sub q.2
        let d := if ang then wrapHalf d0 else d0
        q.2.add ((d.mul (Fl.ofInt (linDiff t q.1))).div (Fl.ofInt (linDiff p.1 q.1)))
      else go (q :: r)
  go x.hist

/-- Input of a role of an axis, and its debounce length in samples. -/
def State.axisInput (s : State) (n r : Nat) : Nat × Nat :=
  let d := nth [s.get (F.PRF_P_DEB_DEBN n), s.get (F.PRF_P_DEB_DEBP n), s.get (F.PRF_P_DEB_DEBH n)] r 0
  (nth [s.get (F.PRF_P_INSEL_NEG n), s.get (F.PRF_P_INSEL_POS n), s.get (F.PRF_P_INSEL_HOME n)] r 63, 4 * (if d = 0 then 64 else d))
/-- Chatter counter field of a role. -/
def chatField (n r : Nat) : Fld := nth [F.PRF_P_CHATCNT_N n, F.PRF_P_CHATCNT_P n, F.PRF_P_CHATCNT_H n] r (F.PRF_P_CHATCNT_N n)
/-- A bit of a pair of level registers. -/
def State.putLevel (s : State) (lo hi : Fld) (i : Nat) (b : Bool) : State := if i < 32 then s.putBit lo i b else s.putBit hi (i - 32) b

/-- One role of an axis sees a raw level that has stood for some samples (R373, R374). [DESIGN CHOICE: log 240, DEDUCED: log 241] -/
def State.roleLevel (s : State) (n r i : Nat) (level : Bool) (samples : Nat) : State :=
  let q := s.axisInput n r
  let x := s.axis n
  if q.1 ≠ i ∨ samples < q.2 ∨ nth x.deb r false = level then s
  else
    let t := (s.lin / 62500 * 62500 + 2 ^ 64 - (samples - 1) * 62500 % 2 ^ 64) % 2 ^ 64
    let p := s.posAt n t
    let pol := s.flag (F.PRF_P_INSEL_POLH n)
    let ang := s.flag (F.PRF_P_CFG_ANGLE n)
    let s1 := s.modAxis n (fun x => { x with
      deb := setNth x.deb r level, chat := setNth x.chat r false
      latch := if r = 2 ∧ (level != pol) ∧ x.latch.isNone then some (Fl.ofInt p.rne) else x.latch })
    let s2 := ((s1.put (chatField n r) 0).put (F.PRF_P_LATCHPOS_VALUE n) (ofInt 32 (if ang then p.rne else clampS 32 p.rne)))
    ((s2.put (F.PRF_P_LATCH_T_LO_LINNS n) (t % 2 ^ 32)).put (F.PRF_P_LATCH_T_HI_LINNS n) (t / 2 ^ 32)).putLevel F.PRF_INDEB_LO_LEVEL F.PRF_INDEB_HI_LEVEL i level

/-- The debounced levels that ACT of the frame uses, at a minor tick (R373). -/
def State.prfTick (s : State) : State :=
  s.each (List.range 32) (fun s n =>
    let s1 := s.modAxis n (fun x => { x with tick := x.deb })
    ((s1.putB (F.PRF_P_STAT_LIMN n) (s1.axisActive n 0)).putB (F.PRF_P_STAT_LIMP n) (s1.axisActive n 1)).putB (F.PRF_P_STAT_HOME n) (s1.axisActive n 2))

/-- An input's raw level, and the number of consecutive samples for which it has stood (R372, R373); the sample at the edge of a
minor tick counts for the frame that begins there. -/
def State.axinLevel (s : State) (i : Nat) (level : Bool) (samples : Nat) : State :=
  let s1 := s.putLevel F.PRF_INRAW_LO_LEVEL F.PRF_INRAW_HI_LEVEL i level
  let s2 := s1.each (List.range 32) (fun s n => s.each [0, 1, 2] (fun s r => s.roleLevel n r i level samples))
  s2.when (s.ready && decide (s.tim.ctr.fine % (250000 * 2 ^ 32) < s.edgeStep)) State.prfTick
/-- AXIN_DEBOUNCED_CHANGE (R373). -/
def execAxinDebouncedChange (i : Fin 48) (level : Bool) (samples : Nat) (s : State) : Host.Outcome State Fault Refusal := .next (s.lanes fun s => s.axinLevel i level samples)

/-- Raw changes of an input that led to no debounced change (R375); event 117. -/
def State.axinChatter (s : State) (i changes : Nat) : State :=
  s.each (List.range 32) (fun s n => s.each [0, 1, 2] (fun s r =>
    if (s.axisInput n r).1 ≠ i then s
    else
      let c := min 255 (s.get (chatField n r) + changes)
      let s1 := s.put (chatField n r) c
      let lim := s.get (F.PRF_P_DEB_CHLIM n)
      if lim ≠ 0 ∧ lim ≤ c ∧ nth (s.axis n).chat r false = false then
        ((s1.modAxis n (fun x => { x with chat := setNth x.chat r true })).put (F.PRF_P_STAT_CHATTER n) 1).raiseMajor 117
      else s1))
/-- INPUT_CHATTER (R375). -/
def execInputChatter (i : Fin 48) (changes : Nat) (s : State) : Host.Outcome State Fault Refusal := .next (s.lanes fun s => s.axinChatter i changes)

/-! ### ACT -/

/-- The sources that name a FOLLOW axis (R359): value, and whether it is on. -/
def State.axisSources (s : State) (n : Nat) : List (Int × Bool) :=
  let loops := (List.range 48).filter (fun k => (s.dpAxis k).isNone && s.get (F.CLE_L_CFG_DEST k) == 1 && s.get (F.CLE_L_SEL_DIDX k) == n)
  let ang := (List.range 16).filter (fun i => s.get (F.ALC_D_WP_AXIS_A i) == n)
  let cmd := (List.range 16).filter (fun i => s.get (F.ALC_D_WP_AXIS_C i) == n)
  loops.map (fun k => (s.getI (F.CLE_L_OUT_VALUE k), s.get (F.CLE_L_STAT_PATH k) != 0)) ++ ang.map (fun i => (s.getI (F.ALC_T_RES_WORD i 1), true)) ++
    cmd.map (fun i => (s.getI (F.ALC_T_RES_WORD i 5), true))

/-- A FOLLOW sample (R358, R359). -/
def State.followSample (s : State) (n : Nat) : State :=
  let ang := s.flag (F.PRF_P_CFG_ANGLE n)
  let clip (x : Int) : Int := if ang then x else clampI (s.getI (F.PRF_P_SMIN_VALUE n)) (s.getI (F.PRF_P_SMAX_VALUE n)) x
  let s1 : State := match s.axisSources n with
    | [] => (s.put (F.PRF_P_STAT_SRCERR n) 0).put (F.PRF_P_STAT_SRCLOST n) 1
    | [(v, on)] =>
      let s2 := (s.put (F.PRF_P_STAT_SRCERR n) 0).putB (F.PRF_P_STAT_SRCLOST n) (!on)
      if on then s2.modAxis n (fun x => { x with last := clip v }) else s2
    | _ => s.srcErr n
  let x := s1.axis n
  let q := shaperStep ang (s1.axisV n, s1.get (F.PRF_P_A_LIM n), s1.get (F.PRF_P_J_LIM n)) 1 (s1.axisTgt n x.last) x.s x.v x.a
  (s1.vClamp n).modAxis n (fun x => { x with s := q.1, v := q.2.1, a := q.2.2.1 })

/-- An axis comes to rest after a stop, an abort or a move (R368, R371); a pending move starts in the next minor frame (R366). [DEDUCED: log 251] -/
def State.axisRest (s : State) (n : Nat) : State :=
  let x := s.axis n
  if x.off then (s.modAxis n (fun x => { x with off := false, pend := none, fault := false })).axisTo n 0
  else if x.fault then s.axisTo n 8
  else match x.pend with
    | some _ => s
    | none => s.axisTo n (if s.flag (F.PRF_P_CFG_MODE n) then 7 else 1)

/-- Homing phase 3 (R378): position, plan and pending slot are shifted by HOFS - LATCHPOS. -/
def State.homeSet (s : State) (n : Nat) : State :=
  let x := s.axis n
  let sh := (s.axisTgt n (s.getI (F.PRF_P_HOFS_VALUE n))).sub (x.latch.getD x.s)
  let mv (y : Fl) : Fl := if s.flag (F.PRF_P_CFG_ANGLE n) then wrapTurn (y.add sh) else y.add sh
  let s1 := (s.put (F.PRF_P_STAT_PHASE n) 3).modAxis n (fun x => { x with
    s := mv x.s, ps := mv x.ps, pend := x.pend.map (fun t => t + sh.rne), hist := x.hist.map (fun p => (p.1, mv p.2)) })
  s1.putI (F.PRF_P_EOFS_VALUE n) (s.getI (F.PRF_P_EOFS_VALUE n) + sh.rne)

/-- The end of a plan has been reached (R363, R371, R378). -/
def State.planEnd (s0 : State) (n : Nat) : State :=
  let s := s0.modAxis n (fun x => { x with plan := none })
  let x := s.axis n
  match x.st with
  | 2 => (s.raiseMajor 112).axisRest n
  | 3 => s.axisRest n
  | 4 => s.axisRest n
  | 5 => match s.get (F.PRF_P_STAT_PHASE n) with
    | 1 => if x.ending then s.homePhase n 2 else s.homeFault n 3
    | 2 => if x.ending then (s.homeSet n).homePhase n 4 else s.homeFault n 3
    | _ => (((s.put (F.PRF_P_STAT_HOMED n) 1).put (F.PRF_P_STAT_PHASE n) 0).axisTo n 1).raise 115
  | _ => s

/-- A plan whose time has run out is complete (R363): the sample is the target itself, or the stop point. -/
def State.moveComplete (s : State) (n : Nat) : State :=
  let x := s.axis n
  match x.plan with
  | none => s
  | some p =>
    if p.total.le (Fl.ratio p.k 4000) then
      let e := walkSegs p.segs p.total p.s0 p.v0 p.a0
      let g0 := p.goal.getD e.1
      let g := if s.flag (F.PRF_P_CFG_ANGLE n) then wrapTurn g0 else g0
      ((s.modAxis n (fun x => { x with s := g, v := Fl.zero, a := Fl.zero })).planEnd n).axisPub n
    else s
/-- MOVE_COMPLETE (R363). -/
def execMoveComplete (n : Fin 32) (s : State) : Host.Outcome State Fault Refusal := .next (s.lanes fun s => s.moveComplete n)

/-- A sample of the plan (R363). -/
def State.planSample (s : State) (n : Nat) : State :=
  let x := s.axis n
  match x.plan with
  | none => s
  | some p =>
    let k := p.k + 1
    let e := walkSegs p.segs (Fl.ratio k 4000) p.s0 p.v0 p.a0
    let pos := if s.flag (F.PRF_P_CFG_ANGLE n) then wrapTurn e.1 else e.1
    (s.modAxis n (fun x => { x with plan := some { p with k := k }, s := pos, v := e.2.1, a := e.2.2 })).moveComplete n

/-- Limits and the end of homing phases, before the sample (R376, R378, R379). [DEDUCED: log 242] -/
def State.axisGuard (s : State) (n : Nat) : State :=
  let x := s.axis n
  let dir := x.v.sign
  let wrong := s.limitAhead n (-dir) && dir != 0
  let ahead := s.limitAhead n dir
  if x.st = 5 then
    let ph := s.get (F.PRF_P_STAT_PHASE n)
    if nth x.chat 2 false then s.homeFault n 4
    else if wrong then s.homeFault n 2
    else if ph = 2 ∧ ahead ∧ x.latch.isNone then s.homeFault n 1
    else if ahead then (s.raise 114).axisAbort n 2 false
    else if x.ending then s
    else if (ph = 1 ∧ s.axisActive n 2 = false) ∨ (ph = 2 ∧ x.latch.isSome) then
      (s.modAxis n (fun x => { x with ending := true })).axisStopPlan n false
    else s
  else if x.st = 4 then s.when wrong (·.axisAbort n 3 true)
  else if x.st = 2 ∨ x.st = 3 ∨ x.st = 6 then
    if wrong then s.axisAbort n 3 true
    else if ahead then (s.raise 114).axisAbort n 2 false
    else s
  else s

/-- The move that starts in this frame: the pending one, or one whose plan is to be made anew (R366). -/
def State.axisStart (s : State) (n : Nat) : State :=
  let x := s.axis n
  if x.plan.isSome || (x.st != 2 && x.st != 3) then s
  else
    match x.pend with
    | some t => ((s.modAxis n (fun x => { x with pend := none })).put (F.PRF_P_STAT_PEND n) 0).moveStart n t
    | none => s.when (x.st == 2) (·.moveStart n x.tgt)

/-- One axis in ACT (R363, R371). -/
def State.axisAct (s0 : State) (n : Nat) : State :=
  let x0 := s0.axis n
  if x0.st = 0 then s0
  else
    let s := (s0.modAxis n (fun x => { x with ps := x.s, pv := x.v })).axisGuard n
    let x := s.axis n
    let s1 := s.axisStart n
    let s2 := if x.st = 6 then s1.followSample n else s1.planSample n
    let y := s2.axis n
    let rest := y.v.isZero && y.ps == y.s
    (s2.modAxis n (fun x => { x with rest := if rest then x.rest + 1 else 0, hold := x.hold && rest })).axisPub n

/-- Summary registers of the axes. -/
def State.prfSummary (s : State) : State :=
  let m (p : Axis → Bool) : Nat := maskOf (s.prf.axes.map p)
  ((s.put F.PRF_MOVING_AXES (m (fun x => !x.atRest))).put F.PRF_FAULT_AXES (m (fun x => x.st == 8))).put F.PRF_HOMED_AXES
    (maskOf ((List.range 32).map (fun n => s.flag (F.PRF_P_STAT_HOMED n))))

/-- Axes in ascending order; those from `done` on hold their samples (R365). -/
def State.prfAct (s : State) (done : Nat) : State :=
  let on := (List.range 32).filter (fun n => (s.axis n).st != 0)
  ((s.each (on.take done) State.axisAct).each (on.drop done) (fun s n => s.modAxis n (fun x => { x with ps := x.s, pv := Fl.zero }))).prfSummary

/-! ### Output units -/

/-- Edges of a step interval (R382): instants in ticks, and the direction. -/
def crossings (s1 v1 s2 : Fl) : List Nat :=
  let t := Fl.ratio 1 4000
  let r1 := s1.rne; let r2 := s2.rne
  let n := (r2 - r1).natAbs
  let up := decide (r1 < r2)
  let c := ((s2.sub s1).sub (v1.mul t)).div (t.mul t)
  let vEnd := v1.add ((c.scale 1).mul t)
  let linear := v1.sign * vEnd.sign < 0
  let tick (x : Fl) : Nat := ((x.mul (Fl.ofInt 250000000)).rne).toNat
  (List.range n).map (fun (j : Nat) =>
    let b := Fl.mk' (2 * (if up then r1 + (j : Int) else r1 - (j : Int)) + (if up then 1 else -1)) (-1)
    let d := b.sub s1
    if linear || c.isZero then
      let sl := if linear then (s2.sub s1).div t else v1
      tick (Fl.clamp Fl.zero t (d.div sl))
    else
      let disc := (v1.mul v1).add (((c.scale 2)).mul d)
      let rt := (Fl.max Fl.zero disc).sqrt
      let root (sg : Bool) : Fl := ((if sg then rt.sub v1 else (rt.neg).sub v1)).div (c.scale 1)
      let ok (x : Fl) : Bool := Fl.zero.lt x && x.le t
      let a := root true; let e := root false
      tick (if ok a && (!ok e || a.le e) then a else if ok e then e else t))

/-- Edges placed at least 250 ticks apart, from a previous edge (R382, step 4). -/
def spaceEdges : Int → List Nat → List Nat
  | _, [] => []
  | p, t :: r => let e := max (t : Int) (p + 250); e.toNat :: spaceEdges e r

/-- A step output takes the interval between the last two samples at the release (R381, R382). [DEDUCED: log 249] -/
def State.stepRelease (s : State) (n o : Nat) : State :=
  let x := s.axis n
  let out := nth s.prf.steps o { dir := false, edges := [], rel := 0, last := -62500, carry := 0, count := 0, edge := none }
  let way := if s.flag (F.PRF_P_CFG_ANGLE n) then wrapHalf (x.s.sub x.ps) else x.s.sub x.ps
  let d := way.sign
  let dir := if d = 0 then out.dir else decide (0 < d)
  let dsu := 25 * min 50 (s.get F.PRF_STEPCFG_DSU)
  let own := crossings x.ps x.pv (x.ps.add way)
  let wish := List.replicate out.carry 0 ++ own
  let lead : Int := if dir != out.dir then max (out.last - 62500) ((dsu : Int) - 250) else out.last - 62500
  let e := spaceEdges lead wish
  let now := e.filter (· < 62500)
  let late := e.length - now.length
  let last : Int := match now.getLast? with
    | some t => (t : Int)
    | none => out.last - 62500
  let o2 : StepOut := { dir := dir, edges := now, rel := s.now, last := max (-62500) last, carry := late, count := out.count + out.edges.length,
                         edge := (out.edges.getLast?.map (fun t => out.rel + 4 * t)).or out.edge }
  let s1 := s.modPrf (fun p => { p with steps := setNth p.steps o o2 })
  if 0 < late then (s1.put (F.PRF_P_STAT_STEPLAG n) 1).raiseMajor 120 else s1
/-- The step timer expires (R382): the next edge of a step output is emitted. -/
def State.stepEdge (s : State) (o : Nat) : State :=
  let out := nth s.prf.steps o { dir := false, edges := [], rel := 0, last := -62500, carry := 0, count := 0, edge := none }
  match out.edges with
  | [] => s
  | t :: r =>
    let s1 := s.runInside (out.rel + 4 * t)
    if s1.now < out.rel + 4 * t then s else s1.modPrf (fun p => { p with steps := setNth p.steps o { out with edges := r, count := out.count + 1, edge := some (out.rel + 4 * t) } })
/-- STEP_EDGE (R382). -/
def execStepEdge (o : Fin 16) (s : State) : Host.Outcome State Fault Refusal := .next (s.lanes fun s => s.stepEdge o)

/-- Entry of an actuator's table; entry 256 is 65,535 (R383). -/
def State.tblEntry (s : State) (a k : Nat) : Int :=
  if 256 ≤ k then 65535 else let w := s.get (F.PRF_MS_TBL_WORD a (k / 2)); if k % 2 = 0 then bitsOf w 15 0 else bitsOf w 31 16
/-- Duty and sign of a phase (R384). -/
def duty (ref : Int) : Nat × Bool := ((divRne ((ref.natAbs : Int) * 3125) 65536).toNat, decide (ref < 0))
/-- Amplitude of an axis: AMPH once it has rested for HOLDT (R383). -/
def State.holdAmp (s : State) (n : Nat) : State :=
  if 4 * s.get (F.PRF_P_HOLDT_MS n) ≤ (s.axis n).rest then s.modAxis n (fun x => { x with hold := true }) else s
/-- MICROSTEP_HOLD_AMPLITUDE (R383). -/
def execMicrostepHoldAmplitude (n : Fin 32) (s : State) : Host.Outcome State Fault Refusal := .next (s.lanes fun s => s.holdAmp n)
/-- A microstep actuator takes the interval between the last two samples at the release (R383, R384). -/
def State.microRelease (s0 : State) (n a : Nat) : State :=
  let s := s0.holdAmp n
  let x := s.axis n
  let goal := s.get (if x.hold then F.PRF_P_AMP_AMPH n else F.PRF_P_AMP_AMPL n)
  let eofs := s.getI (F.PRF_P_EOFS_VALUE n)
  let ang := s.flag (F.PRF_P_CFG_ANGLE n)
  let d0 := x.s.sub x.ps
  let d := if ang then wrapHalf d0 else d0
  let per (j : Nat) : Nat × Bool × Nat × Bool :=
    let pos := (x.ps.add ((d.mul (Fl.ofInt j)).div (Fl.ofInt 20))).rne
    let amp : Int := x.amp + divRne (((goal : Int) - x.amp) * j) 20
    let e := ((pos - eofs) % 1024).toNat
    let k := e % 256
    let up := s.tblEntry a k; let dn := s.tblEntry a (256 - k)
    let ab : Int × Int := match e / 256 with
      | 0 => (up, dn) | 1 => (dn, -up) | 2 => (-up, -dn) | _ => (-dn, up)
    let p := duty (divRne (ab.1 * amp) 65536); let q := duty (divRne (ab.2 * amp) 65536)
    (p.1, p.2, q.1, q.2)
  let l := (List.range 20).map (fun j => per (j + 1))
  (s.modAxis n (fun x => { x with amp := goal })).modPrf (fun p => { p with ms := setNth p.ms a l })

/-- The release of the profile unit (R44, R380, R382): output units take the samples. -/
def State.prfRelease (s0 : State) : State :=
  s0.each (List.range 32) (fun s n =>
    let x := s.axis n
    if x.st = 0 then s
    else
      let s1 := s.modAxis n (fun x => { x with hist := ((s.lin, x.s) :: x.hist).take 70 })
      let i := s.get (F.PRF_P_CFG_OIDX n)
      match s.get (F.PRF_P_CFG_OUT n) with
      | 1 =>
        let p := toInt 32 (x.posWord (s.flag (F.PRF_P_CFG_ANGLE n)))
        s1.modPrf (fun q => { q with tlg := setNth q.tlg i (some (p, clampS 32 x.v.rne)) })
      | 2 => s1.stepRelease n i
      | 3 => if i < 8 then s1.microRelease n i else s1
      | _ => s1)

end Sys2Proof.Machine
end

