-- ==== Sys2Proof/Machine/Can.lean ====
section
/-! DEFINITION. CAN FD controllers and drive telegrams (chapter 13): mode and bit timing (R388 to R393), buffers and locks (R394 to R400),
acceptance (R398, R402, R403), transmission (R404 to R407), error confinement (R408 to R410), stamps (R411, R412), telegrams (R413 to
R421). -/

namespace Sys2Proof.Machine

open Sys2Proof

/-- A controller's hidden state. -/
def State.canCtl (s : State) (n : Nat) : CanCtl := nth s.can.ctl n CanCtl.init
/-- Changes a controller's hidden state. -/
def State.modCan (s : State) (n : Nat) (f : CanCtl → CanCtl) : State := { s with can := { s.can with ctl := modNth s.can.ctl n f } }
/-- A telegram slot's hidden state. -/
def State.tlgSlot (s : State) (t : Nat) : TlgSlot := nth s.can.tlg t { count := 0, formed := none, pend := none, sent := [], last := none, since := 0 }
/-- Changes a telegram slot's hidden state. -/
def State.modTlg (s : State) (t : Nat) (f : TlgSlot → TlgSlot) : State := { s with can := { s.can with tlg := modNth s.can.tlg t f } }
/-- The controller takes part in traffic (R392, R408). -/
def State.canOn (s : State) (n : Nat) : Bool :=
  !s.flag (F.CAN_CTRL_INIT n) && !s.flag (F.CAN_STATUS_INTEG n) && (s.get (F.CAN_STATUS_STATE n) == 1 || s.get (F.CAN_STATUS_STATE n) == 2)
/-- A refused access to a controller's configuration. -/
def State.canCfgErr (s : State) (n : Nat) : State := s.put (F.CAN_ERR_CFG n) 1

/-! ### Mode and timing -/

/-- Nominal bit time, fCAN cycles (R389). -/
def State.canNominal (s : State) (n : Nat) : Nat :=
  (s.get (F.CAN_NBT_NBRP n) + 1) * (1 + max 2 (s.get (F.CAN_NBT_NTSEG1 n) + 1) + max 2 (s.get (F.CAN_NBT_NTSEG2 n) + 1))
/-- Data bit time, fCAN cycles (R389). -/
def State.canData (s : State) (n : Nat) : Nat :=
  (s.get (F.CAN_DBT_DBRP n) + 1) * (1 + (s.get (F.CAN_DBT_DTSEG1 n) + 1) + (s.get (F.CAN_DBT_DTSEG2 n) + 1))
/-- INIT may not clear (R391). -/
def State.canInitRefused (s : State) (n : Nat) : Bool :=
  !s.flag F.CAN_STATUS_READY || decide (s.canNominal n < 80) || (s.flag (F.CAN_CTRL_FDEN n) && decide (s.canData n < 10)) ||
    (s.flag (F.CAN_CTRL_BRSEN n) && decide (s.canData n < 80) && !s.flag (F.CAN_CTRL_TDCEN n))
/-- INIT clears: integration begins (R392), unless refused (R391). -/
def State.canInitClear (s : State) (n : Nat) : State :=
  if !s.flag (F.CAN_CTRL_INIT n) then s
  else if s.canInitRefused n then s.canCfgErr n
  else
    let s1 := s.put (F.CAN_CTRL_INIT n) 0
    if s.get (F.CAN_STATUS_STATE n) = 3 then s1 else s1.put (F.CAN_STATUS_INTEG n) 1
/-- INIT is set: a frame in progress is abandoned; bus-off is not left (R392). [DEDUCED: log 268] -/
def State.canInitSet (s : State) (n : Nat) : State :=
  let s1 := (((s.put (F.CAN_CTRL_INIT n) 1).put (F.CAN_STATUS_INTEG n) 0).put (F.CAN_STATUS_TXING n) 0).put (F.CAN_STATUS_RXING n) 0
  (s1.modCan n (fun c => { c with cur := none })).when (s.get (F.CAN_STATUS_STATE n) != 3) (·.put (F.CAN_STATUS_STATE n) 0)
/-- A change of MODE clears the message RAM and all pending requests (R393). -/
def State.canModeClear (s : State) (n : Nat) : State :=
  let w := (F.CAN_MRAM_WORD n 0).off
  let keep (o : Nat) : Bool := !(w ≤ o && o < w + 0x4000)
  let s1 : State := { s with regs := ⟨s.regs.words.filter (fun p => keep p.1)⟩ }
  let s2 := s1.modCan n (fun c => { c with rx := [], tx := [], stag := CanCtl.init.stag, locks := [none, none], hold := [], wait := [] })
  ((s2.each [0, 1, 2, 3] (fun s w => (s.put (F.CAN_TXPEND_OBJ n w) 0).put (F.CAN_NEWDAT_OBJ n w) 0)).put (F.CAN_FIFO_TXFILL n) 0).put (F.CAN_FIFO_RXFILL n) 0
/-- A write of CAN_n_CTRL (R391, R393): with INIT = 0 a change of another field is discarded. [DEDUCED: log 273] -/
def State.canCtrlWrite (s : State) (n v : Nat) : State :=
  let old := s.word (F.CAN_CTRL_INIT n).off
  let init := bitOf v 0
  if bitOf old 0 then
    let mode := bitOf v 1 != bitOf old 1
    let s1 := (s.setWord (F.CAN_CTRL_INIT n).off (setBits (setBits v 0 0 1 % 2 ^ 9) 5 5 0)).when mode (·.canModeClear n)
    if init then s1 else s1.canInitClear n
  else
    let s1 := if v / 2 % 2 ^ 8 ≠ old / 2 % 2 ^ 8 then s.canCfgErr n else s
    if init then s1.canInitSet n else s1
/-- CAN_INIT_CLEAR (R391, R392). -/
def execCanInitClear (n : Fin 8) (s : State) : Host.Outcome State Fault Refusal := .next (s.canInitClear n)
/-- CAN_INIT_SET (R392). -/
def execCanInitSet (n : Fin 8) (s : State) : Host.Outcome State Fault Refusal := .next (if s.flag (F.CAN_CTRL_INIT n) then s else s.canInitSet n)
/-- State by the error counters, with the entry into bus-off (R407, R408); events 128 + n and 136 + n. -/
def State.canConfine (s : State) (n : Nat) : State :=
  let st := s.get (F.CAN_STATUS_STATE n)
  if 256 ≤ s.get (F.CAN_ERRCNT_TEC n) then
    let s1 := (((s.put (F.CAN_ERRCNT_TEC n) 256).put (F.CAN_STATUS_STATE n) 3).put (F.CAN_STATUS_TXING n) 0).modCan n (fun c => { c with cur := none })
    (s1.each (List.range 16) (fun s t =>
      if s.get (F.CAN_TLG_CFG_CTRL t) = n ∧ (s.tlgSlot t).pend.isSome then (s.modTlg t (fun x => { x with pend := none })).inc (F.CAN_TLG_CNT_DROP t) else s)).when
        (st != 3) (·.raise (128 + n))
  else if 128 ≤ s.get (F.CAN_ERRCNT_TEC n) ∨ s.flag (F.CAN_ERRCNT_RP n) then (s.put (F.CAN_STATUS_STATE n) 2).when (st != 2) (·.raise (136 + n))
  else s.put (F.CAN_STATUS_STATE n) 1
/-- CAN_INTEGRATION_COMPLETE (R392): the state follows the counters kept. -/
def execCanIntegrationComplete (n : Fin 8) (s : State) : Host.Outcome State Fault Refusal :=
  .next (if s.flag (F.CAN_STATUS_INTEG n) && decide (s.get F.PWR_STATUS_STATE < 2) then (s.put (F.CAN_STATUS_INTEG n) 0).canConfine n else s)
/-- CMD.RECOVER (R409). -/
def State.canRecover (s : State) (n : Nat) : State := if s.get (F.CAN_STATUS_STATE n) = 3 then s.put (F.CAN_STATUS_RECOV n) 1 else s
/-- CAN_RECOVER (R409). -/
def execCanRecover (n : Fin 8) (s : State) : Host.Outcome State Fault Refusal := .next (s.canRecover n)
/-- CAN_RECOVERY_COMPLETE (R409); event 166. -/
def execCanRecoveryComplete (n : Fin 8) (s : State) : Host.Outcome State Fault Refusal :=
  .next (if s.flag (F.CAN_STATUS_RECOV n) && !s.flag (F.CAN_CTRL_INIT n) then
    (((((s.put (F.CAN_STATUS_RECOV n) 0).put (F.CAN_ERRCNT_TEC n) 0).put (F.CAN_ERRCNT_REC n) 0).put (F.CAN_ERRCNT_RP n) 0).put (F.CAN_STATUS_STATE n) 1).raise 166
  else s)
/-- CMD.CLRCNT (R423). -/
def State.canClrCnt (s : State) (n : Nat) : State := s.each [0, 1, 2, 3] (fun s k => s.put (F.CAN_CNT_COUNT n k) 0)
/-- CAN_CLRCNT (R423). -/
def execCanClrcnt (n : Fin 8) (s : State) : Host.Outcome State Fault Refusal := .next (s.canClrCnt n)
/-- CAN_READY (R422); event 164. -/
def execCanReady (ok : Bool) (s : State) : Host.Outcome State Fault Refusal :=
  .next (if s.flag F.CAN_STATUS_READY || s.flag F.CAN_STATUS_RAMFAULT then s
    else if ok then ((s.put F.CAN_STATUS_READY 1).putBit F.PWR_READY_READY 5 true).raise 164
    else s.put F.CAN_STATUS_RAMFAULT 1)

/-! ### Buffers -/

/-- Data bytes of a data length code (R394). -/
def canLen (fdf : Bool) (dlc : Nat) : Nat :=
  if dlc ≤ 8 then dlc else if fdf then nth [12, 16, 20, 24, 32, 48, 64] (dlc - 9) 64 else 8
/-- Word 0 of a frame. -/
def frameWord0 (f : CanFrame) : Nat := (if f.ide then f.id.toNat else f.id.toNat % 2 ^ 11) + 2 ^ 29 * b2n f.ide + 2 ^ 30 * b2n f.rtr
/-- Data bytes of a frame: LEN of them; a remote frame has none. -/
def frameBytes (f : CanFrame) : List Byte := if f.rtr then [] else padTo (canLen f.fdf f.dlc) f.data
/-- Word 1 of a frame. -/
def frameWord1 (f : CanFrame) (idx : Nat) : Nat :=
  f.dlc + 16 * b2n f.fdf + 32 * b2n f.brs + 64 * b2n f.esi + 256 * canLen f.fdf f.dlc + 65536 * (idx % 128)
/-- The 20 words of a received frame (R394). -/
def frameWords (f : CanFrame) (stamp idx flags : Nat) : List Nat :=
  [frameWord0 f, frameWord1 f idx, stamp] ++ bytesWords 16 (padTo 64 (frameBytes f)) ++ [flags]
/-- The frame a transmit buffer describes; FDF and BRS as the controller allows (R394). -/
def State.bufFrame (s : State) (n : Nat) (w : List Nat) (id : Nat) (ide : Bool) : CanFrame :=
  let w0 := nth w 0 0; let w1 := nth w 1 0
  let fdf := bitOf w1 4 && s.flag (F.CAN_CTRL_FDEN n)
  { id := BitVec.ofNat 29 id, ide := ide, rtr := bitOf w0 30 && !fdf, fdf := fdf, brs := bitOf w1 5 && fdf && s.flag (F.CAN_CTRL_BRSEN n)
    esi := s.get (F.CAN_STATUS_STATE n) == 2, dlc := ⟨w1 % 16, Nat.mod_lt _ (by decide)⟩, data := (wordBytes (w.drop 3)).take (canLen fdf (w1 % 16)) }
/-- Word of an object's buffer. -/
def State.objWord (s : State) (n o w : Nat) : Nat := s.get (F.CAN_MRAM_WORD n (20 * o + w))
/-- The words of an object's buffer. -/
def State.objWords (s : State) (n o : Nat) : List Nat := (List.range 20).map (s.objWord n o)
/-- OBJ_o_ID (R402). -/
def State.objId (s : State) (n o : Nat) : Nat := s.get (F.CAN_MRAM_WORD n (3072 + 2 * o))
/-- OBJ_o_MASK (R402). -/
def State.objMask (s : State) (n o : Nat) : Nat := s.get (F.CAN_MRAM_WORD n (3073 + 2 * o))
/-- A buffer is locked by a port. -/
def State.canLock (s : State) (n port : Nat) : Option BufLock := nth (s.canCtl n).locks port none
/-- A buffer is locked. -/
def State.canLocked (s : State) (n buf : Nat) : Bool := (s.canCtl n).locks.any (fun l => match l with | some k => k.buf == buf | none => false)
/-- TXPEND of an object. -/
def State.txPend (s : State) (n o : Nat) : Bool := s.bit (F.CAN_TXPEND_OBJ n (o / 32)) (o % 32)
/-- Bits of word 19 and the stamp of a transmit buffer change; the update waits while the buffer is locked (R395). The
attempt count stays (0), rises (1) or starts again (2). -/
def State.objUpdate (s : State) (n o clr set : Nat) (stamp : Option Nat) (att : Nat) : State :=
  let old := match find1 (s.canCtl n).wait o with
    | some p => p
    | none => (s.objWord n o 2, s.objWord n o 19)
  let a := match att with
    | 0 => bitsOf old.2 15 8
    | 1 => min 255 (bitsOf old.2 15 8 + 1)
    | _ => 0
  let w19 := setBits (Nat.lor (old.2 - Nat.land old.2 clr) set) 15 8 a
  let p := (stamp.getD old.1, w19)
  if s.canLocked n o then s.modCan n (fun c => { c with wait := putKey o p c.wait })
  else (s.put (F.CAN_MRAM_WORD n (20 * o + 2)) p.1).put (F.CAN_MRAM_WORD n (20 * o + 19)) p.2
/-- A received frame is written into an object; NEWDAT still set makes it an overwrite (R403); event 161. -/
def State.objStore (s : State) (n o : Nat) (w : List Nat) : State :=
  let ovr := bitOf (s.objWord n o 19) 0
  let w19 := Nat.lor (nth w 19 0) (if ovr then 3 else 1)
  ((s.setWords (F.CAN_MRAM_WORD n (20 * o)).off (w.take 19 ++ [w19])).putBit (F.CAN_NEWDAT_OBJ n (o / 32)) (o % 32) true).when ovr (·.raiseMajor 161)
/-- The lock of a port is released; hold and waiting update are written (R396). -/
def State.canRelease (s : State) (n port : Nat) (kept : Nat) : State :=
  match s.canLock n port with
  | none => s
  | some l =>
    let c := s.canCtl n
    let s1 := s.modCan n (fun c => { c with locks := setNth c.locks port none, hold := eraseKey l.buf c.hold, wait := eraseKey l.buf c.wait })
    if s.flag (F.CAN_CTRL_MODE n) then
      let s2 := match find1 c.wait l.buf with
        | some p => (s1.put (F.CAN_MRAM_WORD n (20 * l.buf + 2)) p.1).put (F.CAN_MRAM_WORD n (20 * l.buf + 19)) (p.2 - Nat.land p.2 kept)
        | none => s1
      match find1 c.hold l.buf with
      | some w => s2.objStore n l.buf w
      | none => s2
    else s1
/-- Receive FIFO fill. -/
def State.rxFill (s : State) (n : Nat) : State := s.put (F.CAN_FIFO_RXFILL n) (s.canCtl n).rx.length
/-- Transmit FIFO fill. -/
def State.txFill (s : State) (n : Nat) : State := s.put (F.CAN_FIFO_TXFILL n) (s.canCtl n).tx.length
/-- Word `k` of a buffer as it is read: data bytes beyond LEN read 0 (R394); `w1` is its word 1. -/
def bufRead (w1 k v : Nat) : Nat :=
  if 3 ≤ k ∧ k < 19 then v % 2 ^ (8 * min 4 (canLen (bitOf w1 4) (w1 % 16) - 4 * (k - 3))) else v
/-- A word of the message RAM as a port reads it (R394, R399, R400). -/
def State.canWord (s : State) (port n w : Nat) : Nat :=
  if s.flag (F.CAN_CTRL_MODE n) then
    let v := s.get (F.CAN_MRAM_WORD n w)
    if w < 2560 then bufRead (s.objWord n (w / 20) 1) (w % 20) v else v
  else if w < 20 then nth (nth (s.canCtl n).rx 0 []) w 0
  else if 64 ≤ w ∧ w < 83 then
    let l := nth (s.canCtl n).stag port []
    bufRead (nth l 1 0) (w - 64) (nth l (w - 64) 0)
  else if 3072 ≤ w ∧ w < 3104 then s.get (F.CAN_MRAM_WORD n w)
  else 0
/-- A read of word 0 of a buffer (R395 to R399): the port takes the lock, or moves its lock there. -/
def State.canLockRead (s : State) (port n buf : Nat) : State :=
  let q := !s.flag (F.CAN_CTRL_MODE n)
  let s1 := { s with hostData := s.canWord port n (20 * buf) }
  if q && (buf != 0 || (s.canCtl n).rx.isEmpty) then s1
  else if s.canLocked n buf then s1
  else (s1.canRelease n port 0).modCan n (fun c => { c with locks := setNth c.locks port (some { buf := buf, since := s.lin }) })
/-- A read of word 19 of a buffer (R396, R399). -/
def State.canReleaseRead (s : State) (port n buf : Nat) : State :=
  let s1 := { s with hostData := s.canWord port n (20 * buf + 19) }
  match s.canLock n port with
  | none => s1
  | some l =>
    if l.buf ≠ buf then s1
    else if s.flag (F.CAN_CTRL_MODE n) then
      let old := s.objWord n buf 19
      let s2 := (s1.put (F.CAN_MRAM_WORD n (20 * buf + 19)) (old - Nat.land old 0x43)).putBit (F.CAN_NEWDAT_OBJ n (buf / 32)) (buf % 32) false
      s2.canRelease n port (Nat.land old 0x43)
    else ((s1.canRelease n port 0).modCan n (fun c => { c with rx := c.rx.drop 1 })).rxFill n
/-- CAN_BUFFER_LOCK_READ (R395). -/
def execCanBufferLockRead (port : Fin 2) (n : Fin 8) (buf : Fin 128) (s : State) : Host.Outcome State Fault Refusal := .next (s.canLockRead port n buf)
/-- CAN_BUFFER_RELEASE_READ (R396). -/
def execCanBufferReleaseRead (port : Fin 2) (n : Fin 8) (buf : Fin 128) (s : State) : Host.Outcome State Fault Refusal := .next (s.canReleaseRead port n buf)
/-- A lock held 1 ms ends (R396); event 165. -/
def State.canLockExpire (s : State) (port n : Nat) : State :=
  match s.canLock n port with
  | none => s
  | some l => if 1000000 ≤ linDiff s.lin l.since then ((s.canRelease n port 0).put (F.CAN_ERR_LOCKTO n) 1).raise 165 else s
/-- CAN_LOCK_TIMEOUT (R396): the counter runs to the end of the lock, inside the minor frame. -/
def execCanLockTimeout (port : Fin 2) (n : Fin 8) (s : State) : Host.Outcome State Fault Refusal :=
  .next (match s.canLock n port with
    | none => s
    | some l => (s.runInside (s.now + (1000000 - linDiff s.lin l.since).toNat)).canLockExpire port n)
/-- A port loses its link: its locks are released (R396). -/
def State.canLinkLoss (s : State) (port : Nat) : State := s.each (List.range 8) (fun s n => s.canRelease n port 0)
/-- Writable bits of words 0 and 1 of a transmit buffer; LEN follows DLC and FDF (R394). -/
def bufWord (w v : Nat) : Nat :=
  if w = 0 then v % 2 ^ 31 else if w = 1 then v % 64 + 256 * canLen (bitOf v 4) (v % 16) else v
/-- COMMIT (R400). -/
def State.canCommit (s : State) (port n : Nat) (sshot : Bool) : State :=
  if s.flag (F.CAN_CTRL_MODE n) then s
  else if 32 ≤ (s.canCtl n).tx.length then s.put (F.CAN_ERR_TXFULL n) 1
  else (s.modCan n (fun c => { c with tx := c.tx ++ [{ words := nth c.stag port [], sshot := sshot }] })).txFill n
/-- CAN_TX_COMMIT (R400). -/
def execCanTxCommit (port : Fin 2) (n : Fin 8) (sshot : Bool) (s : State) : Host.Outcome State Fault Refusal := .next (s.canCommit port n sshot)
/-- A host write of a word of the message RAM (R394, R397, R400, R404). [DEDUCED: log 270] -/
def State.canMramWrite (s : State) (port n w v : Nat) : State :=
  let busy := s.put (F.CAN_ERR_WRBUSY n) 1
  if s.flag (F.CAN_CTRL_MODE n) then
    if w < 2560 then
      let o := w / 20; let k := w % 20
      let other := match s.canLock n (1 - port) with
        | some l => l.buf == o
        | none => false
      if other || s.txPend n o then busy
      else if k = 2 ∨ k = 19 then s
      else s.put (F.CAN_MRAM_WORD n w) (bufWord k v)
    else if 3072 ≤ w ∧ w < 3328 then
      if s.txPend n ((w - 3072) / 2) then busy else s.put (F.CAN_MRAM_WORD n w) (if w % 2 = 0 then v else v % 2 ^ 31)
    else s
  else if 64 ≤ w ∧ w < 83 then
    if w = 66 then s else s.modCan n (fun c => { c with stag := modNth c.stag port (fun l => setNth l (w - 64) (bufWord (w - 64) v)) })
  else if w = 83 then (if bitOf v 0 then s.canCommit port n (bitOf v 1) else s)
  else if 3072 ≤ w ∧ w < 3104 then s.put (F.CAN_MRAM_WORD n w) (if w % 2 = 0 then v else v % 2 ^ 31)
  else s

/-! ### Requests -/

/-- TXREQ (R404). [DEDUCED: log 271] -/
def State.canTxReq (s : State) (n w mask : Nat) : State :=
  s.each ((List.range 32).filter (bitOf mask)) (fun s b =>
    let o := 32 * w + b
    let id := s.objId n o
    if s.flag (F.CAN_CTRL_MODE n) && bitOf id 31 && bitOf id 30 then
      if s.txPend n o then s
      else (s.putBit (F.CAN_TXPEND_OBJ n w) b true).objUpdate n o 0x3C 0x04 none 2
    else s.canCfgErr n)
/-- CAN_TXREQ (R404). -/
def execCanTxreq (n : Fin 8) (w : Fin 4) (mask : Word) (s : State) : Host.Outcome State Fault Refusal := .next (s.canTxReq n w mask.toNat)
/-- An object's request ends (R405, R406). -/
def State.objEnd (s : State) (n o set : Nat) (stamp : Option Nat) : State :=
  (s.putBit (F.CAN_TXPEND_OBJ n (o / 32)) (o % 32) false).objUpdate n o 0x04 set stamp 0
/-- CANCEL (R406). -/
def State.canCancel (s : State) (n w mask : Nat) : State :=
  s.each ((List.range 32).filter (bitOf mask)) (fun s b =>
    let o := 32 * w + b
    if !s.txPend n o then s
    else match (s.canCtl n).cur with
      | some a => if a.who = .obj o then s.modCan n (fun c => { c with cur := some { a with cancel := true } }) else s.objEnd n o 0x10 none
      | none => s.objEnd n o 0x10 none)
/-- CAN_CANCEL (R406). -/
def execCanCancel (n : Fin 8) (w : Fin 4) (mask : Word) (s : State) : Host.Outcome State Fault Refusal := .next (s.canCancel n w mask.toNat)
/-- CMD.TXFFLUSH (R406). -/
def State.canFlush (s : State) (n : Nat) : State :=
  match (s.canCtl n).cur with
  | some a =>
    if a.who = .fifo then (s.modCan n (fun c => { c with tx := c.tx.take 1, cur := some { a with cancel := true } })).txFill n
    else (s.modCan n (fun c => { c with tx := [] })).txFill n
  | none => (s.modCan n (fun c => { c with tx := [] })).txFill n
/-- CAN_TXFFLUSH (R406). -/
def execCanTxfflush (n : Fin 8) (s : State) : Host.Outcome State Fault Refusal := .next (s.canFlush n)
/-- A write of CAN_n_CMD (R409, R406, R423). -/
def State.canCmd (s : State) (n v : Nat) : State :=
  ((s.when (bitOf v 0) (·.canRecover n)).when (bitOf v 1) (·.canFlush n)).when (bitOf v 2) (·.canClrCnt n)

/-! ### Telegrams -/

/-- Slot validity (R413). -/
def State.tlgInvalid (s : State) (t : Nat) : Bool :=
  let n := s.get (F.CAN_TLG_CFG_CTRL t)
  let id (t : Nat) : Nat × Nat := (s.get (F.CAN_TLG_CMDID_ID t), s.get (F.CAN_TLG_CMDID_IDE t))
  !s.flag (F.CAN_CTRL_FDEN n) || id t == (s.get (F.CAN_TLG_FBID_ID t), s.get (F.CAN_TLG_FBID_IDE t)) ||
    (List.range 16).any (fun u => u != t && s.flag (F.CAN_TLG_CFG_EN u) && s.get (F.CAN_TLG_CFG_CTRL u) == n && id u == id t)
/-- CFGERR of a slot (R413); event 167. -/
def State.tlgCheck (s : State) (t : Nat) : State :=
  if s.flag (F.CAN_TLG_CFG_EN t) && s.tlgInvalid t then s.setRaise (F.CAN_TLG_STAT_CFGERR t) 167 else s.put (F.CAN_TLG_STAT_CFGERR t) 0
/-- A profile axis as a telegram part: sample position and velocity (R416). [DESIGN CHOICE: log 267] -/
def State.axisPart (s : State) (a : Nat) : Nat × Nat :=
  let x := s.axis a
  (x.posWord (s.flag (F.PRF_P_CFG_ANGLE a)), ofInt 32 (clampS 32 x.v.rne))
/-- The command telegram of a slot (R416, R417). [DESIGN CHOICE: log 265] -/
def State.tlgBytes (s : State) (t : Nat) : List Byte :=
  let i := s.get (F.CAN_TLG_CFG_THR t)
  let thr := i < 16
  let own := (List.range 32).find? (fun a => s.flag (F.PRF_P_CFG_EN a) && s.get (F.PRF_P_CFG_OUT a) == 1 && s.get (F.PRF_P_CFG_OIDX a) == t)
  let part (axis word : Nat) : Nat × Nat := if axis < 32 then s.axisPart axis else (s.get (F.ALC_T_RES_WORD i word), 0)
  let cmd := if thr then part (s.get (F.ALC_D_WP_AXIS_C i)) 5 else match own with
    | some a => s.axisPart a
    | none => (0, 0)
  let ang := if thr then part (s.get (F.ALC_D_WP_AXIS_A i)) 1 else (0, 0)
  let st := s.get (F.ALC_T_STAT_STATE i)
  let mode := s.get F.CLE_MODE_STAT_MODE
  let flags := b2n (thr && (st == 1 || st == 2 || st == 3)) + 2 * b2n (thr && st == 2) + 4 * b2n (bitOf s.frm.stale 2 || bitOf s.frm.stale 6) +
    8 * b2n (!s.dualLane) + 16 * b2n (s.estGecko)
  let body := beBytes 1 1 ++ beBytes 1 1 ++ beBytes 1 (s.role) ++ beBytes 1 (s.get F.RED_CFG_POS) ++ beBytes 2 ((s.tlgSlot t).count + 1) ++
    beBytes 2 (s.get F.RED_EPOCH_EPOCH) ++ beBytes 8 (s.now / 250000 * 250000 + 230000) ++ beBytes 4 cmd.1 ++ beBytes 4 cmd.2 ++ beBytes 4 ang.1 ++
    beBytes 4 ang.2 ++ beBytes 4 (if thr then s.get (F.ALC_T_RES_WORD i 0) else 0) ++
    beBytes 4 (if thr then s.get (F.ALC_BUS_LIM_W (s.get (F.ALC_T_CFG_BUS i))) else 0) ++ beBytes 1 mode ++ beBytes 1 flags ++
    beBytes 1 (if thr then i else 255) ++ beBytes 1 t ++ List.replicate 16 0#8
  body ++ beBytes 4 (crc32c body)
/-- A slot is due in the minor frame (R414). -/
def State.tlgDue (s : State) (t : Nat) : Bool :=
  let per := max 1 (min 40 (s.get (F.CAN_TLG_CFG_PERIOD t)))
  s.flag (F.CAN_TLG_CFG_EN t) && !s.tlgInvalid t && s.inCommand && s.minTick / 250000 % per == s.get (F.CAN_TLG_CFG_PHASE t) % per
/-- Telegram formation in ACT (R414, R415). [DEDUCED: log 263] -/
def State.tlgForm (s : State) : State :=
  s.each (List.range 16) (fun s t => s.modTlg t (fun x => { x with formed := if s.tlgDue t then some (s.tlgBytes t) else none }))
/-- The release makes the telegrams pending (R414). -/
def State.tlgRelease (s : State) : State :=
  s.each (List.range 16) (fun s t =>
    let x := s.tlgSlot t
    match x.formed with
    | none => s
    | some b =>
      (s.modTlg t (fun x => { x with formed := none, pend := some b, last := some b, count := (x.count + 1) % 65536 })).when x.pend.isSome (·.inc (F.CAN_TLG_CNT_DROP t)))
/-- Before the decision of a lane check each slot due sends its last telegram again, HELD (R471). -/
def State.tlgRepeat (s : State) : State :=
  s.each (List.range 16) (fun s t =>
    let x := s.tlgSlot t
    match x.last with
    | none => s
    | some b =>
      if s.tlgDue t then
        let body := b.take 4 ++ beBytes 2 (x.count + 1) ++ (b.drop 6).take 2 ++ beBytes 8 (s.now / 250000 * 250000 + 230000) ++ (b.drop 16).take 25 ++
          beBytes 1 (Nat.lor (beAt b 41 1) 4) ++ (b.drop 42).take 18
        let c := body ++ beBytes 4 (crc32c body)
        (s.modTlg t (fun x => { x with formed := none, pend := some c, last := some c, count := (x.count + 1) % 65536 })).when x.pend.isSome
          (·.inc (F.CAN_TLG_CNT_DROP t))
      else s)
/-- An omitted release discards the telegrams due (R640). -/
def State.tlgOmit (s : State) : State :=
  s.each (List.range 16) (fun s t =>
    if (s.tlgSlot t).formed.isSome then (s.modTlg t (fun x => { x with formed := none })).inc (F.CAN_TLG_CNT_DROP t) else s)
/-- The module leaves In Command: pending telegrams are discarded (R415). -/
def State.tlgLeave (s : State) : State :=
  s.each (List.range 16) (fun s t => s.modTlg t (fun x => { x with pend := none, formed := none }))
/-- A drive feedback fault takes the thrusters of the slots to FAULT (R335, R421). [DEDUCED: log 272] -/
def State.tlgFaults (s : State) : State :=
  s.each (List.range 16) (fun s t =>
    let i := s.get (F.CAN_TLG_CFG_THR t)
    if s.flag (F.CAN_TLG_CFG_EN t) && decide (i < 16) && s.flag (F.ALC_T_CFG_FBFLT i) && (s.flag (F.CAN_TLG_STAT_FBLOST t) || s.flag (F.CAN_TLG_STAT_DRVFLT t))
    then s.thrFault i else s)
/-- Feedback timeout of a slot (R421); event 162. -/
def State.tlgTimeout (s : State) (t : Nat) : State :=
  let ms := s.get (F.CAN_TLG_FBTMO_MS t)
  if s.flag (F.CAN_TLG_CFG_EN t) && ms != 0 && decide ((ms * 1000000 : Int) ≤ linDiff s.lin (s.tlgSlot t).since) then
    (s.setRaise (F.CAN_TLG_STAT_FBLOST t) 162).tlgFaults
  else s
/-- TLG_FEEDBACK_TIMEOUT (R421): the counter runs to the end of the timeout, inside the minor frame. -/
def execTlgFeedbackTimeout (t : Fin 16) (s : State) : Host.Outcome State Fault Refusal :=
  .next (s.lanes fun s =>
    let left := (s.get (F.CAN_TLG_FBTMO_MS t) * 1000000 : Int) - linDiff s.lin (s.tlgSlot t).since
    if s.flag (F.CAN_TLG_CFG_EN t) && s.get (F.CAN_TLG_FBTMO_MS t) != 0 then (s.runInside (s.now + left.toNat)).tlgTimeout t else s)
/-- A write of CAN_TLG_s_CFG, at a minor tick: setting EN starts the feedback timeout (R421). -/
def State.tlgCfgApply (s : State) (t v : Nat) : State :=
  let on := bitOf v 0 && !s.flag (F.CAN_TLG_CFG_EN t)
  (s.setWord (F.CAN_TLG_CFG_EN t).off v).when on (·.modTlg t (fun x => { x with since := s.lin }))
/-- A newer EPOCH in 16-bit serial arithmetic. -/
def newerEpoch (a b : Nat) : Bool := let d := (a + 65536 - b % 65536) % 65536; 0 < d && d < 32768
/-- EPOCH is seen in a status record, a mirror set or valid feedback (R483, R484); event 206. -/
def State.epochSeen (s : State) (e : Nat) : State :=
  let s1 := if newerEpoch e s.red.newest then ({ s with red := { s.red with newest := e } }).when (!s.inCommand) (·.put F.RED_EPOCH_EPOCH e) else s
  if s.inCommand && newerEpoch e (s.get F.RED_EPOCH_EPOCH) && !s.red.superseded then ({ s1 with red := { s1.red with superseded := true } }).raise 206 else s1
/-- A valid feedback telegram (R419, R420). -/
def frameFeedback (f : CanFrame) : Bool :=
  let b := frameBytes f
  f.fdf && b.length == 64 && beAt b 0 1 == 0x81 && beAt b 1 1 == 1 && beAt b 60 4 == crc32c (b.take 60)
/-- A frame with a slot's FBID (R420, R421); event 163. [DEDUCED: log 266] -/
def State.tlgFeedback (s : State) (n : Nat) (f : CanFrame) (lin : Nat) : State :=
  s.each (List.range 16) (fun s t =>
    if !(s.flag (F.CAN_TLG_CFG_EN t) && s.get (F.CAN_TLG_CFG_CTRL t) == n && frameWord0 f % 2 ^ 30 == s.word (F.CAN_TLG_FBID_ID t).off % 2 ^ 30) then s
    else if !frameFeedback f then s.inc (F.CAN_TLG_CNT_FBBAD t)
    else
      let b := frameBytes f
      let ack := beAt b 2 2
      let s1 := ((((s.setWords (F.CAN_TLGREC_WORD t 16).off (bytesWords 16 b)).put (F.CAN_TLG_STAT_FBVALID t) 1).put (F.CAN_TLG_RTT_ACKSEQ t) ack).put
        (F.CAN_TLG_STAT_FBLOST t) 0).modTlg t (fun x => { x with since := s.lin })
      let s2 := match find1 (s.tlgSlot t).sent ack with
        | some rel => s1.put (F.CAN_TLG_RTT_US t) (min 65535 (linDiff lin rel / 1000).toNat)
        | none => s1
      let live := beAt b 4 2 == s.get F.RED_EPOCH_EPOCH && (!s.flag (F.CAN_TLG_STAT_FBVALID t) || s.get (F.CAN_TLG_RTT_ACKSEQ t) != ack)
      let s2 := if live then { s2 with red := { s2.red with fbSeen := true } } else s2
      let s3 := if bitOf (beAt b 24 4) 1 then (s2.setRaise (F.CAN_TLG_STAT_DRVFLT t) 163).tlgFaults else s2.put (F.CAN_TLG_STAT_DRVFLT t) 0
      s3.epochSeen (beAt b 4 2))
/-- CAN work of a minor tick: slot validity, feedback timeouts, drive faults, lock timeouts (R396, R413, R421). -/
def State.canTick (s : State) : State :=
  let s1 := s.each (List.range 16) (fun s t => (s.tlgCheck t).tlgTimeout t)
  (s1.tlgFaults).each (List.range 8) (fun s n => (s.canLockExpire 0 n).canLockExpire 1 n)
/-- A step of the counter moves the running timeouts with it. -/
def State.canStep (s : State) (d : Int) : State :=
  let mv (t : Nat) : Nat := ofInt 64 ((t : Int) + d)
  { s with can := { ctl := s.can.ctl.map (fun c => { c with locks := c.locks.map (fun l => l.map (fun k => { k with since := mv k.since })) }),
                    tlg := s.can.tlg.map (fun x => { x with since := mv x.since }) } }

/-! ### Reception -/

/-- A filter or object matches a frame (R398). -/
def frameMatches (f : CanFrame) (id mask : Nat) : Bool :=
  bitOf id 31 && f.ide == bitOf id 29 && Nat.land (Nat.xor (frameWord0 f % 2 ^ 29) (id % 2 ^ 29)) (mask % 2 ^ 29) == 0
/-- A frame no buffer takes. -/
def State.canDrop (s : State) (n : Nat) : State := s.incWrap (F.CAN_CNT_COUNT n 3)
/-- Acceptance in queue mode (R398, R399); events 160 and 168 + n. [DESIGN CHOICE: log 261] -/
def State.canQueue (s : State) (n : Nat) (f : CanFrame) (stamp : Nat) : State :=
  let any := (List.range 16).any (fun k => bitOf (s.objId n k) 31)
  let hit := (List.range 16).find? (fun k => frameMatches f (s.objId n k) (s.objMask n k))
  if any && hit.isNone then s.canDrop n
  else if 64 ≤ (s.canCtl n).rx.length then ((s.canDrop n).put (F.CAN_ERR_RXOVF n) 1).raiseMajor 160
  else
    let s1 := if any then s else s.drawn
    ((s1.modCan n (fun c => { c with rx := c.rx ++ [frameWords f stamp (hit.getD s.free) 1] })).rxFill n).raiseMajor (168 + n)
/-- Acceptance in object mode (R395, R403); events 161 and 168 + n. -/
def State.canObject (s : State) (n : Nat) (f : CanFrame) (stamp : Nat) : State :=
  match (List.range 128).find? (fun o => !bitOf (s.objId n o) 30 && frameMatches f (s.objId n o) (s.objMask n o)) with
  | none => s.canDrop n
  | some o =>
    let s1 :=
      if s.canLocked n o then
        let again := (find1 (s.canCtl n).hold o).isSome
        (s.modCan n (fun c => { c with hold := putKey o (frameWords f stamp o (if again then 3 else 1)) c.hold })).when again (·.raiseMajor 161)
      else s.objStore n o (frameWords f stamp o 1)
    s1.when (bitOf (s.objMask n o) 30) (·.raiseMajor (168 + n))
/-- A frame is tapped and accepted (R166, R398, R403, R420). [DEDUCED: log 260, DESIGN CHOICE: log 269] -/
def State.canDeliver (s : State) (n : Nat) (f : CanFrame) (stamp : Nat) : State :=
  let lin := ofInt 64 ((s.lin : Int) - ((s.lin / 16 + 2 ^ 32 - stamp) % 2 ^ 32 * 16 : Nat))
  let s1 := (s.feedCan n f.id.toNat f.ide (frameBytes f) lin).tlgFeedback n f lin
  if s.flag (F.CAN_CTRL_MODE n) then s1.canObject n f stamp else s1.canQueue n f stamp
/-- REC after a frame received without error: down by 1, from above 127 to a value from 119 to 127 (ISO 11898-1). [PRESUMED: log 262] -/
def State.recDown (s : State) (n : Nat) : State :=
  if s.flag (F.CAN_ERRCNT_RP n) then ((s.drawn.put (F.CAN_ERRCNT_RP n) 0).put (F.CAN_ERRCNT_REC n) (119 + s.free % 9))
  else s.put (F.CAN_ERRCNT_REC n) (s.get (F.CAN_ERRCNT_REC n) - 1)
/-- The stamp of a frame whose start of frame lies some ns back (R411). -/
def State.canStampOf (s : State) (ago : Nat) : Nat := canStamp ((s.lin + 2 ^ 64 - ago) % 2 ^ 64)
/-- CAN_FRAME_RECEIVED (R398, R410, R411): a frame of another node, without error. -/
def execCanFrameReceived (n : Fin 8) (f : CanFrame) (ago : BitVec 24) (s : State) : Host.Outcome State Fault Refusal :=
  .next (s.lanes fun s =>if s.canOn n && (s.canCtl n).cur.isNone then
    let s1 := ((((s.incWrap (F.CAN_CNT_COUNT n 1)).put (F.CAN_ACKERR_CONSEC n) 0).put (F.CAN_STATUS_LONE n) 0).recDown n).canConfine n
    s1.canDeliver n f (s.canStampOf ago.toNat)
  else s)
/-- REC rises (R408); it reads 127 with RP from 128 on. -/
def State.recUp (s : State) (n k : Nat) : State :=
  let r := s.get (F.CAN_ERRCNT_REC n) + k
  if s.flag (F.CAN_ERRCNT_RP n) then s
  else if 128 ≤ r then (s.put (F.CAN_ERRCNT_REC n) 127).put (F.CAN_ERRCNT_RP n) 1
  else s.put (F.CAN_ERRCNT_REC n) r
/-- The last error (R408). -/
def State.canLec (s : State) (n code : Nat) (data : Bool) : State := s.put (if data then F.CAN_STATUS_DLEC n else F.CAN_STATUS_LEC n) code
/-- An error as a receiver (R408). -/
def State.canRxError (s : State) (n code : Nat) (data first : Bool) (more : Nat) : State :=
  (((s.canLec n code data).incWrap (F.CAN_CNT_COUNT n 2)).recUp n (1 + (if first then 8 else 0) + 8 * more)).canConfine n
/-- CAN_RECEIVE_ERROR (R408): an error as a receiver; `first`: the first bit after its error flag was dominant. Code 0 stands for a
recessive res bit: the protocol exception with PXE = 1, after which the controller integrates again, a form error with PXE = 0
(R388). [PRESUMED: log 156] -/
def execCanReceiveError (n : Fin 8) (code : Fin 7) (data : Bool) (first : Bool) (more : Fin 64) (s : State) : Host.Outcome State Fault Refusal :=
  .next (if s.canOn n && (s.canCtl n).cur.isNone then
    if code.val = 0 then
      if s.flag (F.CAN_CTRL_PXE n) then s.put (F.CAN_STATUS_INTEG n) 1 else s.canRxError n 2 data first more
    else s.canRxError n code data first more
  else s)

/-! ### Transmission -/

/-- A candidate for arbitration: its order and its frame (R405). -/
structure TxCand where
  /-- Base identifier, extended, extension, buffer, number. -/
  key : Nat
  /-- Whose. -/
  who : TxWho
  /-- The frame. -/
  frame : CanFrame
deriving DecidableEq, Repr
/-- Order of a candidate on the bus: base identifier, standard first, extension; a telegram first, then the lower number. -/
def candKey (id : Nat) (ide : Bool) (buf num : Nat) : Nat :=
  let base := if ide then id / 2 ^ 18 else id % 2 ^ 11
  let ext := if ide then id % 2 ^ 18 else 0
  (((base * 2 + b2n ide) * 2 ^ 18 + ext) * 2 + buf) * 128 + num
/-- The candidates of a controller (R405). -/
def State.txCands (s : State) (n : Nat) : List TxCand :=
  let passive := s.get (F.CAN_STATUS_STATE n) == 2
  let tl := (List.range 16).filterMap (fun t =>
    if s.get (F.CAN_TLG_CFG_CTRL t) = n then
      (s.tlgSlot t).pend.map (fun b =>
        let id := s.get (F.CAN_TLG_CMDID_ID t); let ide := s.flag (F.CAN_TLG_CMDID_IDE t)
        { key := candKey id ide 0 t, who := .tlg t,
          frame := { id := BitVec.ofNat 29 id, ide := ide, rtr := false, fdf := true, brs := s.flag (F.CAN_TLG_CFG_BRS t) && s.flag (F.CAN_CTRL_BRSEN n), esi := passive, dlc := 15, data := b } })
    else none)
  let bu :=
    if s.flag (F.CAN_CTRL_MODE n) then
      ((List.range 128).filter (s.txPend n)).map (fun o =>
        let id := s.objId n o; let ide := bitOf id 29
        { key := candKey (id % 2 ^ 29) ide 1 o, who := TxWho.obj o, frame := s.bufFrame n (s.objWords n o) (id % 2 ^ 29) ide : TxCand })
    else match (s.canCtl n).tx with
      | [] => []
      | e :: _ =>
        let w0 := nth e.words 0 0
        [{ key := candKey (w0 % 2 ^ 29) (bitOf w0 29) 1 0, who := TxWho.fifo, frame := s.bufFrame n e.words (w0 % 2 ^ 29) (bitOf w0 29) }]
  tl ++ bu
/-- The candidate that wins: the lowest order. -/
def bestCand : List TxCand → Option TxCand
  | [] => none
  | c :: r => match bestCand r with
    | some d => if d.key < c.key then some d else some c
    | none => some c
/-- An opportunity to start a frame (R405): the candidate's attempt begins. -/
def State.txStart (s : State) (n : Nat) : State :=
  if s.canOn n && !s.flag (F.CAN_CTRL_MON n) && (s.canCtl n).cur.isNone then
    match bestCand (s.txCands n) with
    | none => s
    | some c =>
      let s1 := (s.put (F.CAN_STATUS_TXING n) 1).modCan n (fun x => { x with cur := some { who := c.who, frame := c.frame, cancel := false } })
      match c.who with
      | .obj o => s1.objUpdate n o 0 0 none 1
      | _ => s1
  else s
/-- CAN_TX_OPPORTUNITY (R405). -/
def execCanTxOpportunity (n : Fin 8) (s : State) : Host.Outcome State Fault Refusal := .next (s.txStart n)
/-- The request of an attempt ends without success: cancelled, or SSHOT (R405, R406). -/
def State.txGiveUp (s : State) (n : Nat) (who : TxWho) (flags : Nat) : State :=
  let s1 := s.modCan n (fun c => { c with coll := none })
  match who with
  | .fifo => (s1.modCan n (fun c => { c with tx := c.tx.drop 1 })).txFill n
  | .obj o => s1.objEnd n o flags none
  | .tlg _ => s1
/-- The transmitter delay is measured (R390). -/
def State.tdcMeasure (s : State) (n : Nat) (edges : List (Fin 256)) : State :=
  match (edges.map Fin.val).find? (fun e => s.get (F.CAN_TDC_TDCF n) ≤ e) with
  | none => s
  | some d => (s.put (F.CAN_TDC_TDCV n) (min 127 d)).when (decide (127 < d + s.get (F.CAN_TDC_TDCO n))) (·.put (F.CAN_TDC_TDCSAT n) 1)
/-- The measurement of an attempt with BRS (R390). -/
def State.tdcOf (s : State) (n : Nat) (a : TxAttempt) (edges : List (Fin 256)) : State :=
  s.when (s.flag (F.CAN_CTRL_TDCEN n) && a.frame.brs) (·.tdcMeasure n edges)
/-- A successful attempt (R405). -/
def State.txOk (s : State) (n : Nat) (a : TxAttempt) (edges : List (Fin 256)) (ago : Nat) : State :=
  let stamp := s.canStampOf ago
  let s1 := (((s.incWrap (F.CAN_CNT_COUNT n 0)).put (F.CAN_ERRCNT_TEC n) (s.get (F.CAN_ERRCNT_TEC n) - 1)).put (F.CAN_ACKERR_CONSEC n) 0).put (F.CAN_STATUS_LONE n) 0
  let s2 := ((s1.put (F.CAN_COLL_CONSEC n) 0).modCan n (fun c => { c with coll := none })).tdcOf n a edges
  let s3 := match a.who with
    | .fifo => (s2.modCan n (fun c => { c with tx := c.tx.drop 1 })).txFill n
    | .obj o => s2.objEnd n o (0x08 + (if a.cancel then 0x40 else 0)) (some stamp)
    | .tlg t =>
      let b := frameBytes a.frame
      let seq := beAt b 4 2
      ((s2.modTlg t (fun x => { x with pend := if x.pend = some b then none else x.pend, sent := ((seq, beAt b 8 8) :: x.sent).take 16 })).put
        (F.CAN_TLG_STAT_SEQ t) seq).setWords (F.CAN_TLGREC_WORD t 0).off (bytesWords 16 b)
  (s3.canConfine n).when (s.flag (F.CAN_CTRL_LBACK n)) (·.canDeliver n a.frame stamp)
/-- Acknowledgement errors in a row (R410); event 144 + n. -/
def State.ackError (s : State) (n : Nat) : State :=
  let s1 := (s.inc (F.CAN_ACKERR_CONSEC n)).inc (F.CAN_ACKERR_TOTAL n)
  if s1.get (F.CAN_ACKERR_CONSEC n) = 64 then s1.setRaise (F.CAN_STATUS_LONE n) (144 + n) else s1
/-- Collisions of a request in a row (R410); event 152 + n, once for the request. -/
def State.collision (s : State) (n : Nat) (who : TxWho) : State :=
  let c := s.canCtl n
  let same := decide (c.coll = some who)
  let k := if same then min 255 (s.get (F.CAN_COLL_CONSEC n) + 1) else 1
  let ev := same && c.collEv
  let fire := decide (k = 8) && !ev
  (((s.inc (F.CAN_COLL_TOTAL n)).put (F.CAN_COLL_CONSEC n) k).modCan n (fun c => { c with coll := some who, collEv := ev || fire })).when fire (·.raise (152 + n))
/-- A failed attempt (R405, R406, R408, R410). -/
def State.txError (s : State) (n : Nat) (a : TxAttempt) (code : Nat) (data body noCount : Bool) (more : Nat) : State :=
  let exempt := noCount && ((code == 3 && s.get (F.CAN_STATUS_STATE n) == 2) || (code == 1 && !body))
  let s1 := ((s.canLec n code data).incWrap (F.CAN_CNT_COUNT n 2)).put (F.CAN_ERRCNT_TEC n) (min 256 (s.get (F.CAN_ERRCNT_TEC n) + (if exempt then 0 else 8) + 8 * more))
  let s2 := (s1.when (code == 3) (·.ackError n)).when ((code == 4 || code == 5) && body) (·.collision n a.who)
  let sshot := match a.who with
    | .fifo => match (s.canCtl n).tx with
      | e :: _ => e.sshot
      | [] => false
    | .obj o => bitOf (s.objMask n o) 29
    | .tlg _ => false
  let s3 := if a.cancel then s2.txGiveUp n a.who 0x10 else if sshot then s2.txGiveUp n a.who 0x20 else s2
  s3.canConfine n
/-- An attempt ends (R405, R406). [DESIGN CHOICE: log 274] -/
def State.txEnd (s : State) (n : Nat) (e : CanTxEnd) (ago : Nat) : State :=
  match (s.canCtl n).cur with
  | none => s
  | some a =>
    let s1 := (s.put (F.CAN_STATUS_TXING n) 0).modCan n (fun c => { c with cur := none })
    match e with
    | .ok edges => s1.txOk n a edges ago
    | .lost => if a.cancel then s1.txGiveUp n a.who 0x10 else s1
    | .err code data body noCount more edges => (s1.tdcOf n a edges).txError n a code data body noCount more
/-- CAN_TX_ATTEMPT_END (R405). -/
def execCanTxAttemptEnd (n : Fin 8) (e : CanTxEnd) (ago : BitVec 24) (s : State) : Host.Outcome State Fault Refusal :=
  .next (s.lanes fun s => s.txEnd n e ago.toNat)

end Sys2Proof.Machine
end

