-- ==== Sys2Proof/Machine/Eth.lean ====
section
/-! DEFINITION. Ethernet ports: link, active port, transmit classes (R101 to R104), PTP port states and messages (R106 to
R110), membership reports (R111). -/

namespace Sys2Proof.Machine

open Sys2Proof

/-- The state of a port. -/
def State.port (s : State) (p : Nat) : EthPort := nth s.eth.ports p EthPort.reset
/-- Changes the state of a port. -/
def State.setPort (s : State) (p : Nat) (f : EthPort → EthPort) : State :=
  { s with eth := { s.eth with ports := modNth s.eth.ports p f } }

/-! ### Networks -/

/-- The primary port of a network (R101, ETH_NETCFG). -/
def State.ethPrimary (s : State) (net : Nat) : Nat :=
  2 * net + (if net = 0 then s.get F.ETH_NETCFG_A_PRIMARY else s.get F.ETH_NETCFG_B_PRIMARY)
/-- The other port of the same network. -/
def ethMate (p : Nat) : Nat := p / 2 * 2 + (1 - p % 2)
/-- A port has link and is in service. -/
def State.ethUp (s : State) (p : Nat) : Bool := s.flag (F.ETH_STATUS_LINK p) && s.flag (F.ETH_CFG_ENABLE p)
/-- The active port of a network, if any. -/
def State.ethActive (s : State) (net : Nat) : Option Nat :=
  [2 * net, 2 * net + 1].find? (fun p => s.flag (F.ETH_STATUS_ACTIVE p))

/-- A port becomes the active one of its network and takes over the frames its mate has not started, PTP apart, in their
order (R103); event 25. [DEDUCED: log 103] -/
def State.ethSwitch (s : State) (p : Nat) : State :=
  let m := ethMate p
  let q := (s.port m).queues
  let s1 := s.setPort p (fun e => { e with queues := (List.range 4).map (fun c =>
    if c = 1 then nth e.queues c [] else nth q c [] ++ nth e.queues c []) })
  let s2 := s1.setPort m (fun e => { e with queues := (List.range 4).map (fun c => if c = 1 then nth e.queues c [] else []) })
  ((s2.put (F.ETH_STATUS_ACTIVE m) 0).put (F.ETH_STATUS_ACTIVE p) 1).raise 25

/-- A network whose active port has lost link, or that has none, changes to a port with link, the primary first (R103). -/
def State.failover (s : State) (net : Nat) : State :=
  let ok := match s.ethActive net with
    | some a => s.ethUp a
    | none => false
  let pr := s.ethPrimary net
  if ok then s
  else if s.ethUp pr then s.ethSwitch pr
  else if s.ethUp (ethMate pr) then s.ethSwitch (ethMate pr) else s

/-- ETH_FAILOVER (R103). -/
def execEthFailover (net : Fin 2) (s : State) : Host.Outcome State Fault Refusal := .next (s.failover net)

/-- With FAILBACK the primary becomes active again once its link has been up for 10 s (R103). -/
def State.failback (s : State) (net : Nat) : State :=
  let on := if net = 0 then s.flag F.ETH_NETCFG_A_FAILBACK else s.flag F.ETH_NETCFG_B_FAILBACK
  let pr := s.ethPrimary net
  if on && s.ethUp pr && !s.flag (F.ETH_STATUS_ACTIVE pr) && decide ((s.port pr).upSince + 10000000000 ≤ s.now)
  then s.ethSwitch pr else s

/-- ETH_FAILBACK (R103). -/
def execEthFailback (net : Fin 2) (s : State) : Host.Outcome State Fault Refusal := .next (s.failback net)

/-! ### PTP -/

/-- clockClass that the module announces for itself (R109). -/
def State.clockClass (s : State) : Nat :=
  let st := s.get F.TIM_STATUS_STATE
  if st = 2 ∧ s.get F.TIM_STATUS_SRC = 1 then 6
  else if st = 3 ∧ s.get F.TIM_STATUS_SRC = 1 then (if s.holdUnc ≤ s.get F.TIM_HOLD_LIMIT * 100 then 7 else 52)
  else 248

/-- The module offers itself as grandmaster (R109). -/
def State.gmOffer (s : State) : Bool := s.flag F.ETH_PTPCLK_GM_EN && s.get F.TIM_STATUS_SRC == 1

/-- The address of a port. -/
def State.ethMac (s : State) (p : Nat) : Nat := s.get (F.ETH_MAC_HI_MAC p) * 2 ^ 32 + s.get (F.ETH_MAC_LO_MAC p)
/-- The module's clockIdentity: the address of ETH0 with FFFE in its middle. [PRESUMED: log 100] -/
def State.ptpIdentity (s : State) : Nat :=
  let m := s.ethMac 0
  m / 2 ^ 24 * 2 ^ 40 + 0xFFFE * 2 ^ 24 + m % 2 ^ 24

/-- The module's own clock dataset. [PRESUMED: log 100] -/
def State.ptpOwn (s : State) : PtpSet :=
  { prio1 := s.get F.ETH_PTPCLK_PRIO1, cls := s.clockClass, acc := Config.clockAccuracy, var := Config.clockVariance
    prio2 := s.get F.ETH_PTPCLK_PRIO2, gm := s.ptpIdentity, steps := 0, sender := s.ptpIdentity * 2 ^ 16 }

/-- Lexicographic comparison of two lists of numbers. -/
def lexLt : List Nat → List Nat → Bool
  | a :: as, b :: bs => if a < b then true else if b < a then false else lexLt as bs
  | _, _ => false

/-- The default dataset comparison (R106): the first dataset is better. -/
def ptpBetter (a b : PtpSet) : Bool :=
  if a.gm = b.gm then lexLt [a.steps, a.sender] [b.steps, b.sender]
  else lexLt [a.prio1, a.cls, a.acc, a.var, a.prio2, a.gm] [b.prio1, b.cls, b.acc, b.var, b.prio2, b.gm]

/-- PTP runs on a port (R103, ETH_p_PTPCFG). -/
def State.ptpOn (s : State) (p : Nat) : Bool :=
  s.ethUp p && s.flag (F.ETH_PTPCFG_EN p) &&
  !(s.flag (F.ETH_PTPCFG_MASTER_ONLY p) && s.flag (F.ETH_PTPCFG_SLAVE_ONLY p)) &&
  !(s.flag (F.ETH_PTPCFG_TRANSPORT p) && s.get (F.ETH_IP_ADDR p) == 0)

/-- The best foreign master of a port; a MASTER_ONLY port takes none. -/
def State.erBest (s : State) (p : Nat) : Option PtpSet :=
  if s.ptpOn p && !s.flag (F.ETH_PTPCFG_MASTER_ONLY p) then (s.port p).best else none

/-- The port with the best foreign master of the module. -/
def State.eBest (s : State) : Option (Nat × PtpSet) :=
  (List.range 4).foldl (fun acc p =>
    match s.erBest p, acc with
    | some d, none => some (p, d)
    | some d, some b => if ptpBetter d b.2 then some (p, d) else acc
    | none, _ => acc) none

/-- The state the best master clock algorithm gives a port (R106, R110; the states of IEEE 1588). [PRESUMED: log 101] -/
def State.ptpState (s : State) (p : Nat) : Nat :=
  if !s.ptpOn p then 3
  else
    let own := s.ptpOwn
    let offer := s.gmOffer
    let st :=
      if offer && decide (own.cls ≤ 127) then
        match s.erBest p with
        | none => 6
        | some d => if ptpBetter own d then 6 else 7
      else
        match s.eBest with
        | none => if offer then 6 else 4
        | some (q, d) =>
          if offer && ptpBetter own d then 6
          else if q = p then 9
          else match s.erBest p with
            | none => 6
            | some e => if e.gm = d.gm then 7 else 6
    if s.flag (F.ETH_PTPCFG_SLAVE_ONLY p) && (st == 6 || st == 7) then 4 else st

/-- A port that is SLAVE no more forgets the Sync and the path delay of its master. -/
def EthPort.noMaster (e : EthPort) : EthPort := { e with sync := none, twoStep := none, asked := none, delay := none }
/-- The port states are evaluated again: each change raises event 26, and a change of the SLAVE port loses the PTP source
(R93, R110). [DEDUCED: log 89] -/
def State.ptpEval (s : State) : State :=
  let old := (List.range 4).map (fun p => s.get (F.ETH_STATUS_PTP_STATE p))
  let new := (List.range 4).map (fun p => s.ptpState p)
  let s1 := s.each (List.range 4) (fun s p =>
    if nth old p 0 = nth new p 0 then s
    else ((s.put (F.ETH_STATUS_PTP_STATE p) (nth new p 0)).when (nth old p 0 == 9) (·.setPort p EthPort.noMaster)).raise 26)
  if old.findIdx? (· == 9) = new.findIdx? (· == 9) then s1 else s1.ptpLost

/-- A signed 4-bit interval field, held inside its limits. -/
def logField (lo hi : Int) (x : Nat) : Int := clampI lo hi (toInt 4 x)
/-- log2 of the Announce interval of a port. -/
def State.logAnn (s : State) (p : Nat) : Int := logField 0 3 (s.get (F.ETH_PTPCFG_LOGANN p))
/-- An Announce (R110): the best foreign master of the port is renewed and the states are evaluated. -/
def State.announce (s : State) (p : Nat) (ds : PtpSet) : State :=
  let old := (s.port p).best
  let take : Bool := match old with
    | none => true
    | some b => b.sender == ds.sender || ptpBetter ds b
  if s.ptpOn p && take then (s.setPort p (fun e => { e with best := some ds, annAt := s.now, annMiss := 0 })).ptpEval else s

/-- PTP_ANNOUNCE_RECEIVED (R106, R110): an Announce of the module's domain. -/
def execPtpAnnounceReceived (p : Fin 4) (domain : Fin 256) (ds : PtpSet) (s : State) : Host.Outcome State Fault Refusal :=
  .next (if domain.val = s.ptpDomain then s.announce p ds else s)

/-- Announce intervals of a port since its best master's last Announce. -/
def State.annMissed (s : State) (p : Nat) : Nat := (s.now - (s.port p).annAt) / logNs (s.logAnn p)
/-- After three intervals without an Announce the foreign master is forgotten (R106). -/
def State.annCheck (s : State) (p : Nat) : State :=
  let n := s.annMissed p
  if (s.port p).best.isNone then s
  else if 3 ≤ n then (s.setPort p (fun e => { e with best := none, annMiss := 0 })).ptpEval
  else s.setPort p (fun e => { e with annMiss := n })
/-- PTP_ANNOUNCE_TIMEOUT (R106). -/
def execPtpAnnounceTimeout (p : Fin 4) (s : State) : Host.Outcome State Fault Refusal := .next (s.annCheck p)
/-- PTP at a minor tick: the time-outs of R93 and R106, and the port states, which follow the time base (R109). -/
def State.ptpTick (s : State) : State := (s.each (List.range 4) State.annCheck).ptpTimeout.ptpEval

/-- The dataset the module announces: its own, or its parent's, one step further, while a port is SLAVE. -/
def State.ptpParent (s : State) : PtpSet :=
  match ((List.range 4).find? (fun p => s.get (F.ETH_STATUS_PTP_STATE p) == 9)).bind (fun p => (s.port p).best) with
  | some d => { d with steps := d.steps + 1 }
  | none => s.ptpOwn

/-- messageType of IEEE 1588. -/
def ptpKindCode : PtpKind → Nat
  | .sync => 0 | .delayReq => 1 | .pdelayReq => 2 | .pdelayResp => 3 | .delayResp => 9 | .announce => 11
/-- Which of the port's counters and instants a message uses: 0 Sync, 1 Announce, 2 requests; responses use none. -/
def ptpClock : PtpKind → Option Nat
  | .sync => some 0 | .announce => some 1 | .delayReq => some 2 | .pdelayReq => some 2 | .delayResp => none | .pdelayResp => none
/-- log2 of the interval of a message. -/
def State.ptpLogInt (s : State) (p : Nat) (k : PtpKind) : Int :=
  match ptpClock k with
  | some 0 => logField (-7) 1 (s.get (F.ETH_PTPCFG_LOGSYNC p))
  | some 1 => s.logAnn p
  | _ => logField (-7) 4 (s.get (F.ETH_PTPCFG_LOGDREQ p))

/-- A message of this kind is due from a port (R106): by the port's state and mechanism, an interval after the last one, or once a request
waits for its answer. -/
def State.ptpDue (s : State) (p : Nat) (k : PtpKind) : Bool :=
  let st := s.get (F.ETH_STATUS_PTP_STATE p)
  let peer := s.flag (F.ETH_PTPCFG_DELAY p)
  let role : Bool := match k with
    | .sync => st == 6
    | .announce => st == 6
    | .delayReq => st == 9 && !peer
    | .delayResp => st == 6 && !peer && !(s.port p).reqs.isEmpty
    | .pdelayReq => peer
    | .pdelayResp => peer && !(s.port p).reqs.isEmpty
  let waited : Bool := match (ptpClock k).bind (fun c => nth (s.port p).lastTx c none) with
    | none => true
    | some t => t + logNs (s.ptpLogInt p k) ≤ s.now
  s.ptpOn p && role && waited

/-- A message as it departs at a time in 2^-16 ns (R107 to R109): one-step, the whole nanoseconds in its timestamp and the rest in its
correction; a Delay_Resp carries the time its request came in, a Pdelay_Resp the turnaround time. [PRESUMED: log 102] -/
def State.ptpMessage (s : State) (p : Nat) (k : PtpKind) (req : Option PtpReq) (t : Int) : PtpMsg :=
  let at' : Int := match k, req with
    | .delayResp, some r => r.t
    | .pdelayResp, _ => 0
    | _, _ => t
  let whole := (at' / 2 ^ 16).toNat
  let rest := at' % 2 ^ 16
  let ann := k == PtpKind.announce
  let own := (ptpClock k).map (fun c => nth (s.port p).seqs c 0)
  { kind := ptpKindCode k, domain := s.ptpDomain, logInt := s.ptpLogInt p k, sec := whole / 1000000000, ns := whole % 1000000000
    seq := own.getD ((req.map (fun r => r.seq)).getD 0), req := req.map (fun r => (r.id, r.port))
    corr := match k, req with
      | .delayResp, some r => r.corr - rest
      | .pdelayResp, some r => r.corr + (t - r.t)
      | .announce, _ => 0
      | _, _ => rest
    ptpTimescale := true, ds := if ann then some s.ptpParent else none
    utcOfs := if ann then s.get F.RTC_TAIUTC_OFS else 0, timeSource := if ann then 0x20 else 0 }

/-- The bytes of a message of port `p` (IEEE 1588-2019). [PRESUMED: log 102] -/
def State.ptpBytes (s : State) (p : Nat) (m : PtpMsg) : List Byte :=
  let stamp := beBytes 6 m.sec ++ beBytes 4 m.ns
  let body := stamp ++ (match m.ds, m.req with
    | some d, _ => beBytes 2 m.utcOfs ++ beBytes 1 0 ++ beBytes 1 d.prio1 ++ beBytes 1 d.cls ++ beBytes 1 d.acc ++ beBytes 2 d.var ++
        beBytes 1 d.prio2 ++ beBytes 8 d.gm ++ beBytes 2 d.steps ++ beBytes 1 m.timeSource
    | none, some r => beBytes 8 r.1 ++ beBytes 2 r.2
    | none, none => if m.kind = 2 then beBytes 10 0 else [])
  beBytes 1 m.kind ++ beBytes 1 0x12 ++ beBytes 2 (34 + body.length) ++ beBytes 1 m.domain ++ beBytes 1 0 ++
    beBytes 2 (8 * b2n m.ptpTimescale + 4 * b2n m.ds.isSome) ++ beBytes 8 (ofInt 64 m.corr) ++ beBytes 4 0 ++ beBytes 8 s.ptpIdentity ++
    beBytes 2 (p + 1) ++ beBytes 2 m.seq ++ beBytes 1 (if m.kind = 0 then 0 else if m.kind = 1 then 1 else if m.kind = 9 then 3 else 5) ++
    beBytes 1 (ofInt 8 m.logInt) ++ body
/-- The one's complement of the one's-complement sum of 16-bit words. -/
def ipSum (l : List Byte) : Nat :=
  let t := (List.range (l.length / 2)).foldl (fun acc i => acc + beAt l (2 * i) 2) 0
  let f := t % 65536 + t / 65536
  65535 - (f % 65536 + f / 65536)
/-- An IPv4 header of some options before `len` bytes: time to live, protocol, source and destination. [PRESUMED: log 102] -/
def ipHeader (opts : List Byte) (len ttl proto src dst : Nat) : List Byte :=
  let h (sum : Nat) : List Byte := beBytes 1 (0x45 + opts.length / 4) ++ beBytes 1 0 ++ beBytes 2 (20 + opts.length + len) ++ beBytes 4 0 ++ beBytes 1 ttl ++
    beBytes 1 proto ++ beBytes 2 sum ++ beBytes 4 src ++ beBytes 4 dst ++ opts
  h (ipSum (h 0))
/-- The Ethernet address of an IPv4 multicast group. -/
def mcastMac (ip : Nat) : Nat := 0x01005E000000 + ip % 2 ^ 23
/-- The frame of a message (R106, R108): straight over Ethernet, or over UDP and IPv4 with a UDP checksum of zero. [PRESUMED: log 102] -/
def State.ptpFrame (s : State) (p : Nat) (m : PtpMsg) : List Byte :=
  let b := s.ptpBytes p m
  let peer := m.kind == 2 || m.kind == 3
  let src := beBytes 6 (s.ethMac p)
  if s.flag (F.ETH_PTPCFG_TRANSPORT p) then
    let dst := if peer then 0xE000006B else 0xE0000181
    let port := if m.kind < 8 then 319 else 320
    let udp := beBytes 2 port ++ beBytes 2 port ++ beBytes 2 (8 + b.length) ++ beBytes 2 0 ++ b
    beBytes 6 (mcastMac dst) ++ src ++ beBytes 2 0x0800 ++ ipHeader [] udp.length 1 17 (s.get (F.ETH_IP_ADDR p)) dst ++ udp
  else beBytes 6 (if peer then 0x0180C200000E else 0x011B19000000) ++ src ++ beBytes 2 0x88F7 ++ b

/-- A due message joins class 1 of its port (R104): its counter and instant move on; a response takes its request along. -/
def State.ptpQueue (s : State) (p : Nat) (k : PtpKind) : State :=
  s.setPort p (fun e =>
    match ptpClock k with
    | some c => { e with ptpQ := e.ptpQ ++ [(k, none)], lastTx := setNth e.lastTx c (some s.now) }
    | none => { e with ptpQ := e.ptpQ ++ [(k, e.reqs.head?)], reqs := e.reqs.drop 1 })

/-! ### Links and transmission -/

/-- The link of a port goes up or down (R103): event 24, losses counted, port states evaluated. -/
def State.linkChange (s : State) (p : Nat) (up : Bool) : State :=
  if s.flag (F.ETH_STATUS_LINK p) = up then s
  else
    let s1 := s.putB (F.ETH_STATUS_LINK p) up
    let s2 := if up then s1.setPort p (fun e => { e with upSince := s.now })
      else (s1.inc (F.ETH_STATUS_LINKDOWN p)).setPort p (fun e => { e with best := none, ptpQ := [], reqs := [] })
    (s2.raise 24).ptpEval

/-- ETH_LINK_CHANGE (R103). -/
def execEthLinkChange (p : Fin 4) (up : Bool) (s : State) : Host.Outcome State Fault Refusal := .next (s.linkChange p up)

/-- Queues a frame in a class of a port. -/
def State.ethQueue (s : State) (p cls : Nat) (b : List Byte) : State :=
  s.setPort p (fun e => { e with queues := modNth e.queues cls (· ++ [b]) })

/-- Queues a frame in a class of the active port of a network; without an active port it is discarded. -/
def State.ethQueueNet (s : State) (net cls : Nat) (b : List Byte) : State :=
  match s.ethActive net with
  | some p => s.ethQueue p cls b
  | none => s

/-- A frame with the tag of its network (R102): VID 0 sends it untagged. -/
def State.ethTag (s : State) (net : Nat) (b : List Byte) : List Byte :=
  let vid := if net = 0 then s.get F.ETH_VLAN_A_VID else s.get F.ETH_VLAN_B_VID
  let pcp := if net = 0 then s.get F.ETH_VLAN_A_PCP else s.get F.ETH_VLAN_B_PCP
  if vid = 0 then b else b.take 12 ++ beBytes 2 0x8100 ++ beBytes 2 (pcp * 2 ^ 13 + vid) ++ b.drop 12

/-- Frames wait in a class of a port. -/
def State.classWaits (s : State) (p c : Nat) : Bool :=
  if c = 1 then !(s.port p).ptpQ.isEmpty else !(nth (s.port p).queues c []).isEmpty && s.flag (F.ETH_STATUS_ACTIVE p)
/-- The class a port starts next: the lowest with a frame (R104); only the active port sends other than PTP (R103). -/
def State.nextClass (s : State) (p : Nat) : Option Nat := [0, 1, 2, 3].find? (fun c => s.classWaits p c)
/-- A frame as it leaves a port: tagged (R102), its FCS behind it. -/
def State.wireFrame (s : State) (p : Nat) (b : List Byte) : List Byte :=
  let t := s.ethTag (p / 2) b
  t ++ leBytes 4 (crc32 t)
/-- The oldest PTP message of a port departs, `frac` units of 0.8 ns after the edge (R107, R108). -/
def State.ptpDepart (s : State) (p frac : Nat) : State :=
  match (s.port p).ptpQ with
  | [] => s
  | x :: t =>
    let m := s.ptpMessage p x.1 x.2 (s.egressTime p frac)
    s.setPort p (fun e => { e with
      ptpQ := t
      sent := some ⟨s.wireFrame p (s.ptpFrame p m), some m⟩
      asked := if ptpClock x.1 = some 2 then some (m.seq, s.egressTime p frac) else e.asked
      seqs := match ptpClock x.1 with
        | some c => setNth e.seqs c ((m.seq + 1) % 65536)
        | none => e.seqs })

/-- A port starts its next frame (R104). -/
def State.ethSend (s : State) (p frac : Nat) : State :=
  match s.ethUp p, s.nextClass p with
  | true, some c =>
    let q := nth (s.port p).queues c []
    let s1 := if c = 1 then s.ptpDepart p frac
      else s.setPort p (fun e => { e with queues := setNth e.queues c (q.drop 1), sent := (q.head?).map (fun b => ⟨s.wireFrame p b, none⟩) })
    s1.incWrap (F.ETH_CNT_COUNT p 1)
  | _, _ => s

/-- ETH_FRAME_SEND (R104). -/
def execEthFrameSend (p : Fin 4) (frac : Fin 5) (s : State) : Host.Outcome State Fault Refusal := .next (s.ethSend p frac)

/-- A due PTP message departs once no frame of class 0 is before it (R104, R108). -/
def State.ptpSend (s : State) (p : Nat) (k : PtpKind) (frac : Nat) : State :=
  if s.ptpDue p k then
    let s1 := s.ptpQueue p k
    s1.when (s1.nextClass p == some 1) (·.ethSend p frac)
  else s
/-- PTP_MESSAGE_TRANSMIT (R108). -/
def execPtpMessageTransmit (p : Fin 4) (kind : PtpKind) (frac : Fin 5) (s : State) : Host.Outcome State Fault Refusal :=
  .next (s.ptpSend p kind frac)

/-! ### PTP reception -/

/-- The mean path delay of a port is measured, 2^-16 ns (R93). -/
def State.setDelay (s : State) (p : Nat) (d : Int) : State :=
  (s.setPort p (fun e => { e with delay := some d })).put (F.ETH_PTPDELAY_PS p) (clampI 0 (2 ^ 32 - 1) (divRne (d * 1000) (2 ^ 16))).toNat
/-- A PTP message on a port, with its ingress time in 2^-16 ns (R105 to R107, R110): of the module's domain and not its own.
[PRESUMED: log 102] -/
def State.ptpEngine (s : State) (p : Nat) (t2 : Int) (b : List Byte) : State :=
  let kind := beAt b 0 1 % 16
  let src := beAt b 20 8
  let seq := beAt b 30 2
  let corr := toInt 64 (beAt b 8 8)
  let two := bitOf (beAt b 6 1) 1
  let t1 := ptpTime (beAt b 34 6) (beAt b 40 4)
  let port := s.port p
  let mine := beAt b 44 8 == s.ptpIdentity && beAt b 52 2 == p + 1
  let peer := s.flag (F.ETH_PTPCFG_DELAY p)
  let req : PtpReq := { id := src, port := beAt b 28 2, seq := seq, t := t2, corr := corr }
  let log := toInt 8 (beAt b 33 1)
  if beAt b 4 1 ≠ s.ptpDomain ∨ src = s.ptpIdentity ∨ s.ptpOn p = false ∨ b.length < 44 then s
  else match kind with
    | 0 => if two then s.setPort p (fun e => { e with twoStep := some (seq, t2, corr) }) else s.ptpSync p (t1 + corr) t2 log
    | 8 => (match port.twoStep with
      | some w => if w.1 = seq then (s.ptpSync p (t1 + w.2.2 + corr) w.2.1 log).setPort p (fun e => { e with twoStep := none }) else s
      | none => s)
    | 1 => if s.get (F.ETH_STATUS_PTP_STATE p) = 6 ∧ peer = false then s.setPort p (fun e => { e with reqs := e.reqs ++ [req] }) else s
    | 9 => (match port.asked, port.sync with
      | some a, some y => if a.1 = seq ∧ mine ∧ peer = false then s.setDelay p (divRne (y.2 - a.2 + t1 - y.1 - corr) 2) else s
      | _, _ => s)
    | 2 => if peer then s.setPort p (fun e => { e with reqs := e.reqs ++ [req] }) else s
    | 3 => (match port.asked with
      | some a => if a.1 = seq ∧ mine ∧ peer then
          (if two then s.setPort p (fun e => { e with askedTwo := some (seq, t2 - a.2 + t1 - corr) }) else s.setDelay p (divRne (t2 - a.2 - corr) 2))
        else s
      | none => s)
    | 10 => (match port.askedTwo with
      | some a => if a.1 = seq ∧ mine ∧ peer then s.setDelay p (divRne (a.2 - t1 - corr) 2) else s
      | none => s)
    | 11 => s.announce p { prio1 := beAt b 47 1, cls := beAt b 48 1, acc := beAt b 49 1, var := beAt b 50 2, prio2 := beAt b 52 1, gm := beAt b 53 8,
                           steps := beAt b 61 2, sender := beAt b 20 10 }
    | _ => s

/-! ### Multicast groups -/

/-- A group is in service on a network: enabled, named for it, with a multicast address (R111). -/
def State.grpOn (s : State) (g net : Nat) : Bool :=
  s.flag (F.ETH_450GRP_CFG_EN g) && s.get (F.ETH_450GRP_ADDR_ADDR g) / 2 ^ 28 == 14 &&
  (if net = 0 then s.flag (F.ETH_450GRP_CFG_NET_A g) else s.flag (F.ETH_450GRP_CFG_NET_B g))

/-- An IGMPv2 membership report of a group, from a port (R111). [PRESUMED: log 107] -/
def State.igmpFrame (s : State) (p grp : Nat) : List Byte :=
  let r (sum : Nat) : List Byte := beBytes 2 0x1600 ++ beBytes 2 sum ++ beBytes 4 grp
  beBytes 6 (mcastMac grp) ++ beBytes 6 (s.ethMac p) ++ beBytes 2 0x0800 ++ ipHeader (beBytes 4 0x94040000) 8 1 2 (s.get (F.ETH_IP_ADDR p)) grp ++
    r (ipSum (r 0))
/-- Membership reports of some groups are queued on the active port of a network, in class 3 (R111). [PRESUMED: log 107] -/
def State.igmpReport (s : State) (net : Nat) (gs : List Nat) : State :=
  match s.ethActive net with
  | none => s
  | some p =>
    if s.get (F.ETH_IP_ADDR p) = 0 then s
    else
      let l := (gs.filter (fun g => s.grpOn g net)).map (fun g => s.get (F.ETH_450GRP_ADDR_ADDR g))
      let s1 := { s with eth := { s.eth with igmp := s.eth.igmp ++ l.map (fun a => (p, a)) } }
      s1.each l (fun s a => s.ethQueue p 3 (s.igmpFrame p a))
/-- A group that a write puts in service on a network, or gives another address there, is reported (R111). -/
def State.grpWritten (s s0 : State) (g : Nat) : State :=
  s.each [0, 1] (fun s net =>
    if s.grpOn g net && !(s0.grpOn g net && s0.get (F.ETH_450GRP_ADDR_ADDR g) == s.get (F.ETH_450GRP_ADDR_ADDR g)) then s.igmpReport net [g] else s)

/-- IGMP_QUERY (R111): a query on a port of a network is answered from its active port. -/
def execIgmpQuery (p : Fin 4) (s : State) : Host.Outcome State Fault Refusal := .next (s.igmpReport (p / 2) (List.range 16))

end Sys2Proof.Machine
end

