-- ==== Sys2Proof/Machine/Hash.lean ====
section
/-! DEFINITION. SHA-384, HMAC with it, and the password hash of R454: the measurement (R449), the measurement registers (R569) and the
change log (R464) use them. -/

namespace Sys2Proof.Machine

open Sys2Proof

/-- The 80 round constants of SHA-384. -/
def shaK : List Nat :=
  [0x428A2F98D728AE22, 0x7137449123EF65CD, 0xB5C0FBCFEC4D3B2F, 0xE9B5DBA58189DBBC, 0x3956C25BF348B538, 0x59F111F1B605D019, 0x923F82A4AF194F9B,
    0xAB1C5ED5DA6D8118, 0xD807AA98A3030242, 0x12835B0145706FBE, 0x243185BE4EE4B28C, 0x550C7DC3D5FFB4E2, 0x72BE5D74F27B896F, 0x80DEB1FE3B1696B1,
    0x9BDC06A725C71235, 0xC19BF174CF692694, 0xE49B69C19EF14AD2, 0xEFBE4786384F25E3, 0x0FC19DC68B8CD5B5, 0x240CA1CC77AC9C65] ++
  [0x2DE92C6F592B0275, 0x4A7484AA6EA6E483, 0x5CB0A9DCBD41FBD4, 0x76F988DA831153B5, 0x983E5152EE66DFAB, 0xA831C66D2DB43210, 0xB00327C898FB213F,
    0xBF597FC7BEEF0EE4, 0xC6E00BF33DA88FC2, 0xD5A79147930AA725, 0x06CA6351E003826F, 0x142929670A0E6E70, 0x27B70A8546D22FFC, 0x2E1B21385C26C926,
    0x4D2C6DFC5AC42AED, 0x53380D139D95B3DF, 0x650A73548BAF63DE, 0x766A0ABB3C77B2A8, 0x81C2C92E47EDAEE6, 0x92722C851482353B] ++
  [0xA2BFE8A14CF10364, 0xA81A664BBC423001, 0xC24B8B70D0F89791, 0xC76C51A30654BE30, 0xD192E819D6EF5218, 0xD69906245565A910, 0xF40E35855771202A,
    0x106AA07032BBD1B8, 0x19A4C116B8D2D0C8, 0x1E376C085141AB53, 0x2748774CDF8EEB99, 0x34B0BCB5E19B48A8, 0x391C0CB3C5C95A63, 0x4ED8AA4AE3418ACB,
    0x5B9CCA4F7763E373, 0x682E6FF3D6B2B8A3, 0x748F82EE5DEFB2FC, 0x78A5636F43172F60, 0x84C87814A1F0AB72, 0x8CC702081A6439EC] ++
  [0x90BEFFFA23631E28, 0xA4506CEBDE82BDE9, 0xBEF9A3F7B2C67915, 0xC67178F2E372532B, 0xCA273ECEEA26619C, 0xD186B8C721C0C207, 0xEADA7DD6CDE0EB1E,
    0xF57D4F7FEE6ED178, 0x06F067AA72176FBA, 0x0A637DC5A2C898A6, 0x113F9804BEF90DAE, 0x1B710B35131C471B, 0x28DB77F523047D84, 0x32CAAB7B40C72493,
    0x3C9EBE0A15C9BEBC, 0x431D67C49C100D4C, 0x4CC5D4BECB3E42B6, 0x597F299CFC657E2A, 0x5FCB6FAB3AD6FAEC, 0x6C44198C4A475817]
/-- The initial hash value of SHA-384. -/
def shaH : List Nat :=
  [0xCBBB9D5DC1059ED8, 0x629A292A367CD507, 0x9159015A3070DD17, 0x152FECD8F70E5939, 0x67332667FFC00B31, 0x8EB44A8768581511, 0xDB0C2E0D64F98FA7,
    0x47B5481DBEFA4FA4]
/-- Rotation right of a 64-bit word. -/
def rotr64 (x k : Nat) : Nat := x / 2 ^ k + x % 2 ^ k * 2 ^ (64 - k)
/-- Exclusive or of three words. -/
def xor3 (a b c : Nat) : Nat := Nat.xor (Nat.xor a b) c
/-- The message schedule, from its last 16 words, newest first. -/
def shaSched : Nat → List Nat → List Nat
  | 0, l => l
  | n + 1, l =>
    let w (k : Nat) : Nat := nth l (k - 1) 0
    let s0 := xor3 (rotr64 (w 15) 1) (rotr64 (w 15) 8) (w 15 / 2 ^ 7)
    let s1 := xor3 (rotr64 (w 2) 19) (rotr64 (w 2) 61) (w 2 / 2 ^ 6)
    shaSched n (((w 16 + s0 + w 7 + s1) % 2 ^ 64) :: l)
/-- One round on the working words a to h. -/
def shaRound (v : List Nat) (kw : Nat × Nat) : List Nat :=
  let g (i : Nat) : Nat := nth v i 0
  let e := g 4; let a := g 0
  let s1 := xor3 (rotr64 e 14) (rotr64 e 18) (rotr64 e 41)
  let ch := Nat.xor (Nat.land e (g 5)) (Nat.land (2 ^ 64 - 1 - e) (g 6))
  let t1 := g 7 + s1 + ch + kw.1 + kw.2
  let s0 := xor3 (rotr64 a 28) (rotr64 a 34) (rotr64 a 39)
  let mj := xor3 (Nat.land a (g 1)) (Nat.land a (g 2)) (Nat.land (g 1) (g 2))
  [(t1 + s0 + mj) % 2 ^ 64, a, g 1, g 2, (g 3 + t1) % 2 ^ 64, e, g 5, g 6]
/-- Big-endian 64-bit words of a block. -/
def beWords : Nat → List Byte → List Nat
  | 0, _ => []
  | k + 1, l => beAt l 0 8 :: beWords k (l.drop 8)
/-- One block of 128 bytes. -/
def shaBlock (h : List Nat) (b : List Byte) : List Nat :=
  let w := (shaSched 64 (beWords 16 b).reverse).reverse
  let v := (shaK.zip w).foldl shaRound h
  (h.zip v).map (fun p => (p.1 + p.2) % 2 ^ 64)
/-- The blocks of a padded message. -/
def shaBlocks : Nat → List Nat → List Byte → List Nat
  | 0, h, _ => h
  | n + 1, h, l => shaBlocks n (shaBlock h (l.take 128)) (l.drop 128)
/-- SHA-384 of a message: 48 bytes. -/
def sha384 (m : List Byte) : List Byte :=
  let n := (m.length + 17 + 127) / 128
  let pad := m ++ [0x80#8] ++ List.replicate (n * 128 - m.length - 17) 0#8 ++ beBytes 16 (8 * m.length)
  ((shaBlocks n shaH pad).flatMap (beBytes 8)).take 48
/-- Exclusive or with a constant byte of a key padded to a block. -/
def hmacKey (k : List Byte) (c : Nat) : List Byte :=
  (padTo 128 (if 128 < k.length then sha384 k else k)).map (fun b => b ^^^ BitVec.ofNat 8 c)
/-- HMAC with SHA-384. -/
def hmac384 (k m : List Byte) : List Byte := sha384 (hmacKey k 0x5C ++ sha384 (hmacKey k 0x36 ++ m))
/-- Exclusive or of two byte strings. -/
def xorBytes (a b : List Byte) : List Byte := (a.zip b).map (fun p => p.1 ^^^ p.2)
/-- Iterations of PBKDF2 after the first. -/
def pbkdfGo (pw : List Byte) : Nat → List Byte → List Byte → List Byte
  | 0, _, acc => acc
  | n + 1, u, acc => let u' := hmac384 pw u; pbkdfGo pw n u' (xorBytes acc u')
/-- The password hash: PBKDF2 with HMAC-SHA-384 and 4,096 iterations, 48 bytes (R454). -/
def pwHash (pw salt : List Byte) : List Byte := let u := hmac384 pw (salt ++ beBytes 4 1); pbkdfGo pw 4095 u u

end Sys2Proof.Machine
end

