-- ==== Sys2Proof/Machine/Island.lean ====
section
/-! DEFINITION. The safety island (chapter 14): states and clocks (R426 to R428), the tick (R429), dual-channel inputs (R431 to R433),
contactors and resets (R434 to R439), safe telegrams (R440 to R444), configuration (R445). -/

namespace Sys2Proof.Machine

open Sys2Proof

/-- Changes the island. -/
def State.modSaf (s : State) (f : SafState → SafState) : State := { s with saf := f s.saf }
/-- A contactor's hidden state. -/
def State.con (s : State) (m : Nat) : Contactor := nth s.saf.co m Contactor.init
/-- Changes a contactor. -/
def State.modCon (s : State) (m : Nat) (f : Contactor → Contactor) : State := s.modSaf (fun x => { x with co := modNth x.co m f })
/-- A connection's hidden state. -/
def State.conn (s : State) (c : Nat) : Conn := nth s.saf.conn c Conn.init
/-- Changes a connection. -/
def State.modConn (s : State) (c : Nat) (f : Conn → Conn) : State := s.modSaf (fun x => { x with conn := modNth x.conn c f })
/-- State of a contactor (SAF_CO_m_AUX.STATE). -/
def State.coSt (s : State) (m : Nat) : Nat := s.get (F.SAF_CO_AUX_STATE m)
/-- The island is in RUN. -/
def State.islRun (s : State) : Bool := s.get F.SAF_STATUS_STATE == 2
/-- An event raised at most once per island tick (R447). -/
def State.raiseIsl (s : State) (e : Nat) : State :=
  if s.saf.once.contains e then s else (s.modSaf (fun x => { x with once := e :: x.once })).raise e
/-- A measurement register is extended (R569). -/
def State.mrExtend (s : State) (r : Nat) (x : List Byte) : State :=
  s.setWords (F.SEC_MR_HASH r 0).off (bytesWords 12 (sha384 (wordBytes (s.words (F.SEC_MR_HASH r 0).off 12) ++ x)))

/-- FB counts as open: the last samples all show it (R434, R436). -/
def Contactor.open (c : Contactor) (k : Nat) : Bool := decide (k ≤ c.fb.length) && (c.fb.take k).all id
/-- FB counts as closed (R434). -/
def Contactor.closed (c : Contactor) : Bool := decide (3 ≤ c.fb.length) && (c.fb.take 3).all (!·)
/-- The outputs and SAF_AVAIL are published (R437). -/
def State.islPublish (s : State) : State :=
  let out := maskOf ((List.range 16).map (fun m => (s.con m).cmd))
  let fbc := maskOf ((List.range 16).map (fun m => (s.con m).closed))
  let allOn (i : Nat) (cat0 : Bool) : Bool := (List.range 16).all (fun m =>
    !(s.flag (F.SAF_CO_CFG_EN m) && s.get (F.SAF_CO_CFG_THR m) == i && (!cat0 || !s.flag (F.SAF_CO_CFG_CAT m))) || s.coSt m == 4)
  let av := maskOf ((List.range 16).map (fun i => allOn i false))
  let c0 := maskOf ((List.range 16).map (fun i => s.bit F.SAF_AVAIL_CAT0 i && !allOn i true))
  (((s.put F.SAF_CO_OUT_OUT out).put F.SAF_CO_OUT_FBCLOSED fbc).put F.SAF_AVAIL_AVAIL av).put F.SAF_AVAIL_CAT0 c0

/-! ### Island states -/

/-- SAFE (R427, R428, R439): every output is de-energised; event 185. The first cause stays. [DEDUCED: log 281] -/
def State.islandSafe (s : State) (cause : Nat) : State :=
  if s.get F.SAF_STATUS_STATE = 3 then s
  else
    let s1 := (s.put F.SAF_STATUS_STATE 3).put F.SAF_STATUS_CAUSE cause
    let s2 := s1.each (List.range 16) (fun s m =>
      let t := s.coSt m
      ((s.modCon m (fun c => { c with cmd := false })).put (F.SAF_CO_AUX_OUT m) 0).when (2 ≤ t && t != 8) (·.put (F.SAF_CO_AUX_STATE m) 1))
    s2.islPublish.raise 185
/-- ISLAND_SAFE_FAULT (R427): causes 1 to 5. -/
def execIslandSafeFault (cause : Fin 5) (s : State) : Host.Outcome State Fault Refusal := .next (s.islandSafe ((cause : Nat) + 1))
/-- State of a connection after a start (R444). -/
def State.connRestart (s : State) (c : Nat) : State :=
  let st := if !s.flag (F.SAF_CONN_CFG_EN c) then 0 else if s.flag (F.SAF_CONN_CFG_DIR c) then 5 else 1
  (s.modConn c (fun _ => Conn.init)).put (F.SAF_CONN_STAT_STATE c) st
/-- The island enters RUN (R427, R438, R441, R569): contactors STOPPED, connections start, MR4 is extended; event 176. -/
def State.islandRun (s : State) : State :=
  let s1 := ((s.put F.SAF_STATUS_STATE 2).put F.SAF_STATUS_READY 1).putBit F.PWR_READY_READY 4 true
  let s2 := s1.each (List.range 16) (fun s m => s.put (F.SAF_CO_AUX_STATE m) (b2n (s.flag (F.SAF_CO_CFG_EN m))))
  let s3 := (s2.each (List.range 8) State.connRestart).modSaf (fun x => { x with count := 0 })
  (s3.mrExtend 4 (wordBytes (s3.words (F.SEC_SEAL_MEAS_HASH 0).off 12))).raise 176
/-- Frequencies, in ppm, that differ by more than 2 % (R426). -/
def clockApart (a b : Int) : Bool := decide (20000 < (a - b).natAbs)
/-- CLOCK_MONITOR_CHECK (R426): deviations of the three clocks, ppm. -/
def State.clockCheck (s : State) (tcxo rc xtal : Int) : State :=
  let tr := clockApart tcxo rc; let tx := clockApart tcxo xtal; let rx := clockApart rc xtal
  if tr && tx && rx then s.islandSafe 2
  else if tr && tx then if s.flag F.SAF_STATUS_TCXO_FAULT then s else ((s.put F.SAF_STATUS_CLK_RC 1).put F.SAF_STATUS_TCXO_FAULT 1).raise 186
  else if tr && rx then s.setRaise F.SAF_STATUS_RC_FAULT 186
  else if tx && rx then s.setRaise F.SAF_STATUS_XTAL_FAULT 186
  else s
/-- CLOCK_MONITOR_CHECK (R426). -/
def execClockMonitorCheck (tcxo rc xtal : Int) (s : State) : Host.Outcome State Fault Refusal := .next (s.clockCheck tcxo rc xtal)

/-! ### Inputs -/

/-- T of an input, ms (R432). -/
def State.discT (s : State) (n : Nat) : Nat := max 1 (min 2000 (s.get (F.SAF_SI_DISC n)))
/-- An input enters LOCKED (R432); event 178. -/
def State.inLock (s : State) (n : Nat) : State :=
  ((((s.put (F.SAF_SI_STATE n) 4).put (F.SAF_SI_SEENDEM n) 0).putBit F.SAF_INLOCK_SI n true).putBit F.SAF_DEMAND_SI n true).raise 178
/-- Evaluation of an input (R431 to R433); event 177. -/
def State.inputEval (s : State) (n : Nat) : State :=
  let a := s.flag (F.SAF_SI_A n); let b := s.flag (F.SAF_SI_B n) != s.flag (F.SAF_SI_ANTI n)
  let st := s.get (F.SAF_SI_STATE n)
  let dst (s : State) (st' d : Nat) : State :=
    ((s.put (F.SAF_SI_STATE n) st').modSaf (fun x => { x with dcnt := setNth x.dcnt n d })).when (st == 1 && st' != 1) (·.raiseIsl 177)
  let s1 :=
    if !s.flag (F.SAF_SI_EN n) then dst s 0 0
    else if st = 0 then dst s 2 0
    else if st = 4 then
      let seen := s.flag (F.SAF_SI_SEENDEM n) || (!a && !b)
      let s1 := s.putB (F.SAF_SI_SEENDEM n) seen
      if seen && a && b then dst s1 1 0 else s1
    else if a != b then
      let d := nth s.saf.dcnt n 0 + 1
      if s.discT n ≤ d then (dst s 3 d).inLock n else dst s 3 d
    else dst s (if a then 1 else 2) 0
  let t := s1.get (F.SAF_SI_STATE n)
  (s1.putBit F.SAF_DEMAND_SI n (t != 0 && t != 1)).putBit F.SAF_INLOCK_SI n (t == 4)
/-- DISCREPANCY_LOCK (R432): the next sample of an input in DISAGREE brings DCNT to T. -/
def execDiscrepancyLock (n : Fin 32) (s : State) : Host.Outcome State Fault Refusal :=
  .next (if s.islRun && s.get (F.SAF_SI_STATE n) == 3 && decide (s.discT n ≤ nth s.saf.dcnt n 0 + 1) then
    (s.modSaf (fun x => { x with dcnt := setNth x.dcnt n (nth x.dcnt n 0 + 1) })).inLock n
  else s)

/-! ### Contactors -/

/-- A receive connection is in demand (R444). -/
def State.connDemand (s : State) (c : Nat) : Bool :=
  let p := s.get (F.SAF_CONN_PMASK_MASK c)
  !s.flag (F.SAF_CONN_CFG_DIR c) && s.get (F.SAF_CONN_STAT_STATE c) != 0 &&
    !(s.get (F.SAF_CONN_STAT_STATE c) == 2 && Nat.land (s.get (F.SAF_CONN_PERMIT_PERMIT c)) p == p)
/-- A stop demand stands on a contactor (R435); `locked`: the contactors LOCKED at the start of step 6. -/
def State.stopDemand (s : State) (locked m : Nat) : Bool :=
  !s.islRun || Nat.land (s.get (F.SAF_CO_SIMASK_SI m)) (s.get F.SAF_DEMAND_SI) != 0 ||
    (List.range 8).any (fun c => bitOf (s.get (F.SAF_CO_AUX_RXMASK m)) c && s.connDemand c) ||
    (List.range 16).any (fun k => k != m && s.get (F.SAF_CO_CFG_ESC k) == m && bitOf locked k)
/-- Feedback time, ms. -/
def State.coTfb (s : State) (m : Nat) : Nat := 2 * max 1 (s.get (F.SAF_CO_CFG_TFB m))
/-- A contactor changes state; the output follows it (R436). -/
def State.coTo (s : State) (m st : Nat) : State :=
  (s.modCon m (fun c => { c with cmd := st == 3 || st == 4 || st == 5, t := 0 })).put (F.SAF_CO_AUX_STATE m) st
/-- A CAT 0 contactor of a thruster leaves ON by a stop or a lock (R437). [DEDUCED: log 287] -/
def State.cat0Mark (s : State) (m : Nat) : State :=
  let i := s.get (F.SAF_CO_CFG_THR m)
  if i < 16 ∧ s.flag (F.SAF_CO_CFG_CAT m) = false ∧ s.coSt m = 4 then s.putBit F.SAF_AVAIL_CAT0 i true else s
/-- A contactor enters LOCKED (R436); event 179 or 180. -/
def State.coLock (s : State) (m cause : Nat) : State :=
  ((((s.cat0Mark m).coTo m 8).put (F.SAF_CO_AUX_LCAUSE m) cause).putBit F.SAF_CO_LOCK_LOCK m true).raise (if cause = 4 then 180 else 179)
/-- The cause for which a contactor locks at a tick, the lowest first; 0 for none (R436). -/
def State.lockCause (s : State) (m : Nat) (dem : Bool) : Nat :=
  let c := s.con m
  let late := decide (s.coTfb m ≤ c.t)
  match s.coSt m with
  | 2 => if s.bit F.SAF_CO_REQ_REQ m && !dem && !c.open 10 then 1 else if 2 ≤ c.diff then 4 else 0
  | 3 => if late && !c.closed then 2 else if 2 ≤ c.diff then 4 else 0
  | 4 => if c.open 3 then 3 else if 2 ≤ c.diff then 4 else 0
  | 6 => if late && !c.open 3 then 2 else if 2 ≤ c.diff then 4 else 0
  | 7 => if late && !c.open 3 then 2 else if 2 ≤ c.diff then 4 else 0
  | 0 => 0
  | 8 => 0
  | _ => if 2 ≤ c.diff then 4 else 0
/-- A reset that is asked for is accepted, or refused (R438); events 181 and 188. -/
def State.coReset (s : State) (m : Nat) (dem : Bool) : State :=
  let st := s.coSt m
  if (st == 1 || st == 8) && s.islRun && !dem && (s.con m).open 3 && !s.flag (F.SAF_CO_AUX_OUT m) then
    (((s.coTo m 2).put (F.SAF_CO_AUX_LCAUSE m) 0).putBit F.SAF_CO_LOCK_LOCK m false).raise 181
  else (s.put F.SAF_ERR_RSTREF 1).raiseIsl 188
/-- One contactor at a tick (R436): its demand, and a reset asked for. [DEDUCED: log 282] -/
def State.coTick (s0 : State) (m : Nat) (dem rst : Bool) : State :=
  let s := s0.modCon m (fun c => { c with t := c.t + 1 })
  let c := s.con m
  let st := s.coSt m
  let cause := s.lockCause m dem
  if !s.flag (F.SAF_CO_CFG_EN m) then ((s.coTo m 0).putBit F.SAF_CO_LOCK_LOCK m false).when rst (·.coReset m dem)
  else if st = 0 then (s.coTo m 1).when rst (fun s => (s.put F.SAF_ERR_RSTREF 1).raiseIsl 188)
  else if cause ≠ 0 then (s.coLock m cause).when rst (fun s => (s.put F.SAF_ERR_RSTREF 1).raiseIsl 188)
  else
    let req := s.bit F.SAF_CO_REQ_REQ m
    let s := s.when rst (·.coReset m dem)
    match st with
    | 2 => if dem then s.coTo m 1 else if req then s.coTo m 3 else s
    | 3 => if dem then s.coTo m 6 else if !req then s.coTo m 7 else if c.closed then s.coTo m 4 else s
    | 4 =>
      if dem then (if s.flag (F.SAF_CO_CFG_CAT m) then s.coTo m 5 else (s.cat0Mark m).coTo m 6)
      else if !req then s.coTo m 7 else s
    | 5 => if s.get (F.SAF_CO_AUX_DELAY m) ≤ c.t then s.coTo m 6 else s
    | 6 => if c.open 3 then s.coTo m 1 else s
    | 7 => if c.open 3 then s.coTo m 2 else s
    | _ => s
/-- CONTACTOR_FEEDBACK_TIMEOUT (R436): at command + TFB the feedback has not reached its state. -/
def execContactorFeedbackTimeout (m : Fin 16) (s : State) : Host.Outcome State Fault Refusal :=
  let c := s.con m
  let st := s.coSt m
  let late := decide (s.coTfb m ≤ c.t + 1)
  .next (if s.islRun && late && ((st == 3 && !c.closed) || ((st == 6 || st == 7) && !c.open 3)) then (s.coLock m 2).islPublish else s)
/-- CAT1_DELAY_EXPIRY (R436). -/
def execCat1DelayExpiry (m : Fin 16) (s : State) : Host.Outcome State Fault Refusal :=
  .next (if s.islRun && s.coSt m == 5 && decide (s.get (F.SAF_CO_AUX_DELAY m) ≤ (s.con m).t + 1) then (s.coTo m 6).islPublish else s)

/-- The contactors, in ascending order, with the resets asked for (R436, R438). -/
def State.coAll (s : State) (rst : Nat) : State :=
  let locked := s.get F.SAF_CO_LOCK_LOCK
  s.each (List.range 16) (fun s m => s.coTick m (s.stopDemand locked m) (bitOf rst m))
/-- Contactors that a release of a reset input resets; those that are OFF are left out (R438). -/
def State.rstTargets (s : State) (r : Nat) : Nat := maskOf ((List.range 16).map (fun m => bitOf (s.get (F.SAF_CO_CFG_RSTIN m)) r && s.coSt m != 0))
/-- A press of a length that resets (R438). -/
def State.pressOk (s : State) (n : Nat) : Bool :=
  decide (max 1 (s.get F.SAF_RSTCFG_MINP) * 10 ≤ n) && decide (n ≤ max 1 (s.get F.SAF_RSTCFG_MAXP) * 100)
/-- Resets asked for by some contactors, outside the tick's order (R438). -/
def State.coResets (s : State) (mask : Nat) : State :=
  let locked := s.get F.SAF_CO_LOCK_LOCK
  (s.each ((List.range 16).filter (bitOf mask)) (fun s m => s.coReset m (s.stopDemand locked m))).islPublish
/-- RESET_INPUT_RELEASE (R438): an input in use is released after its count of active ticks. -/
def execResetInputRelease (r : Fin 4) (s : State) : Host.Outcome State Fault Refusal :=
  let n := nth s.saf.press r 0
  let s1 := s.modSaf (fun x => { x with press := setNth x.press r 0 })
  .next (if s.islRun && s.bit F.SAF_RSTCFG_EN r then (if s.pressOk n then s1.coResets (s.rstTargets r) else s1) else s)
/-- RESET_INPUT_STUCK (R438): the next active tick exceeds MAXP × 100. -/
def execResetInputStuck (r : Fin 4) (s : State) : Host.Outcome State Fault Refusal :=
  .next (if s.islRun && s.bit F.SAF_RSTCFG_EN r && decide (max 1 (s.get F.SAF_RSTCFG_MAXP) * 100 ≤ nth s.saf.press r 0)
    then s.putBit F.SAF_RSTSTAT_STUCK r true else s)
/-- Contactors that a write of SAF_RESET names and that take a host reset (R438). [DEDUCED: log 283 and 286] -/
def State.hostResets (s : State) (mask : Nat) : Nat := maskOf ((List.range 16).map (fun m => bitOf mask m && s.flag (F.SAF_CO_CFG_HOSTRST m)))
/-- A write of SAF_RESET (R438): contactors with HOSTRST are reset at the next tick; outside RUN no tick takes it, and it is refused. -/
def State.safReset (s : State) (mask : Nat) : State :=
  let m := s.hostResets mask
  if s.islRun then s.modSaf (fun x => { x with resets := Nat.lor x.resets m })
  else s.when (m != 0) (fun s => (s.put F.SAF_ERR_RSTREF 1).raiseIsl 188)
/-- SAF_HOST_RESET (R438): the resets at the tick that takes the write. -/
def execSafHostReset (mask : BitVec 16) (s : State) : Host.Outcome State Fault Refusal :=
  .next (if s.islRun then s.coResets (s.hostResets mask.toNat) else s.safReset mask.toNat)
/-- A write of SAF_CONNRST (R444). -/
def State.safConnRst (s : State) (mask : Nat) : State :=
  s.each ((List.range 8).filter (bitOf mask)) (fun s c =>
    if s.get (F.SAF_CONN_STAT_STATE c) = 4 then (s.modConn c (fun x => { x with fresh := true, news := 0, copy := none })).put (F.SAF_CONN_STAT_STATE c) 1 else s)
/-- SAF_CONNRST (R444). -/
def execSafConnrst (mask : BitVec 8) (s : State) : Host.Outcome State Fault Refusal := .next (s.safConnRst mask.toNat)

/-! ### Safe telegrams -/

/-- Networks of a connection: bit 0 A, bit 1 B; 0 acts as both. -/
def State.connNet (s : State) (c : Nat) : Nat := let n := s.get (F.SAF_CONN_CFG_NET c); if n = 0 then 3 else n
/-- The check of a PDU under a connection's key (R440). -/
def State.pduChk (s : State) (c : Nat) (b : List Byte) : Nat := crc32c (beBytes 4 (s.get (F.SAF_CONN_KEY_KEY c)) ++ b.take 12)
/-- A send connection forms its PDU and hands it to both networks (R440, R441). -/
def State.pduSend (s : State) (c : Nat) : State :=
  let x := s.conn c
  let permit := maskOf ((List.range 32).map (fun n => s.get (F.SAF_SI_STATE n) == 1))
  let h := beBytes 2 (s.get (F.SAF_CONN_CFG_CONNID c)) ++ beBytes 2 x.next ++ beBytes 4 permit ++ beBytes 2 (1 + 2 * s.get F.SAF_STATUS_CLK_RC) ++
    beBytes 2 (s.get (F.SAF_CONN_WDT_APP c))
  let pdu := h ++ beBytes 4 (s.pduChk c h)
  let s1 := s.each [0, 1] (fun s net => match s.ethActive net with
    | some p =>
      if bitOf (s.connNet c) net && s.ethUp p then
        s.ethQueue p 0 (beBytes 6 (s.get (F.SAF_CONN_MAC_HI_MAC c) * 2 ^ 32 + s.get (F.SAF_CONN_MAC_LO_MAC c)) ++
          beBytes 6 (s.get (F.ETH_MAC_HI_MAC p) * 2 ^ 32 + s.get (F.ETH_MAC_LO_MAC p)) ++ beBytes 2 0x88B5 ++ pdu ++ List.replicate 30 0#8)
      else s
    | none => s)
  ((s1.modConn c (fun x => { x with next := (x.next + 1) % 65536 })).put (F.SAF_CONN_STAT_SEQ c) x.next).put (F.SAF_CONN_PERMIT_PERMIT c) permit
/-- A send connection is due at a tick count (R441). -/
def State.pduDue (s : State) (c count : Nat) : Bool :=
  let p := max 1 (min 100 (s.get (F.SAF_CONN_CFG_PERIOD c)))
  s.islRun && s.get (F.SAF_CONN_STAT_STATE c) == 5 && count % p == 0 && (s.conn c).formed != some count
/-- SAFE_PDU_SEND (R441): the PDU of the next tick. -/
def execSafePduSend (c : Fin 8) (s : State) : Host.Outcome State Fault Refusal :=
  let k := s.saf.count + 1
  .next (if s.pduDue c k then (s.pduSend c).modConn c (fun x => { x with formed := some k }) else s)
/-- Degraded flag and missing counter of a network. -/
def degField (c net : Nat) : Fld := if net = 0 then F.SAF_CONN_STAT_DEGA c else F.SAF_CONN_STAT_DEGB c
/-- A copy from a network is missing (R443); event 182. -/
def State.copyMissing (s : State) (c net : Nat) : State :=
  let k := nth (s.conn c).miss net 0 + 1
  let s1 := (s.modConn c (fun x => { x with miss := setNth x.miss net k, copy := none })).inc (if net = 0 then F.SAF_CONN_CNT1_MISSA c else F.SAF_CONN_CNT1_MISSB c)
  if max 1 (s.get (F.SAF_CONN_WDT_MISSLIM c)) ≤ k ∧ s.flag (degField c net) = false then (s1.put (degField c net) 1).raiseIsl 182 else s1
/-- A copy from a network came in time (R443). -/
def State.copySeen (s : State) (c net : Nat) : State := (s.modConn c (fun x => { x with miss := setNth x.miss net 0 })).put (degField c net) 0
/-- The copy that is awaited has not come within 5 ms (R443). -/
def State.copyExpire (s : State) (c now10 : Nat) : State :=
  match (s.conn c).copy with
  | some p => if p.at10 + 500 < now10 then s.copyMissing c (1 - p.net) else s
  | none => s
/-- COPY_WINDOW_EXPIRY (R443): within the running tick. -/
def execCopyWindowExpiry (c : Fin 8) (s : State) : Host.Outcome State Fault Refusal := .next (s.copyExpire c (100 * s.saf.ticks + 99))
/-- A new PDU is accepted (R443, R444). [DEDUCED: log 284] -/
def State.pduAccept (s0 : State) (c net at10 : Nat) (b : List Byte) : State :=
  let both := s0.connNet c == 3
  let s := match (s0.conn c).copy with
    | some p => s0.copyMissing c (1 - p.net)
    | none => s0
  let s1 := ((s.put (F.SAF_CONN_PERMIT_PERMIT c) (beAt b 4 4)).put (F.SAF_CONN_RXAPP_APP c) (beAt b 10 2)).put (F.SAF_CONN_STAT_SEQ c) (beAt b 2 2)
  let s2 := s1.modConn c (fun x => { x with
    fresh := false, news := x.news + 1, age := 0, copy := if both then some { net := net, at10 := at10, body := slice b 4 8 } else none })
  let st := s.get (F.SAF_CONN_STAT_STATE c)
  (s2.when both (·.copySeen c net)).when (2 ≤ (s2.conn c).news && (st == 1 || st == 3)) (·.put (F.SAF_CONN_STAT_STATE c) 2)
/-- A PDU at one connection (R442, R443); event 184. -/
def State.pduAt (s : State) (c net at10 : Nat) (b : List Byte) : State :=
  let st := s.get (F.SAF_CONN_STAT_STATE c)
  if s.flag (F.SAF_CONN_CFG_DIR c) ∨ st = 0 ∨ beAt b 0 2 ≠ s.get (F.SAF_CONN_CFG_CONNID c) then s
  else if beAt b 12 4 ≠ s.pduChk c b then s.inc (F.SAF_CONN_CNT0_CHKERR c)
  else if bitOf (s.connNet c) net = false ∨ st = 4 then s
  else
    let d := (beAt b 2 2 + 65536 - s.get (F.SAF_CONN_STAT_SEQ c)) % 65536
    if (s.conn c).fresh && (st == 1 || st == 3) then s.pduAccept c net at10 b
    else if d = 0 then match (s.conn c).copy with
      | none => s
      | some p =>
        if p.net = net then s
        else if p.at10 + 500 < at10 then s.copyMissing c net
        else if p.body = slice b 4 8 then (s.modConn c (fun x => { x with copy := none })).copySeen c net
        else ((s.modConn c (fun x => { x with copy := none })).put (F.SAF_CONN_STAT_STATE c) 4).raise 184
    else if d < 32768 then s.pduAccept c net at10 b
    else s.inc (F.SAF_CONN_CNT0_OLD c)
/-- A PDU is processed (R442); only in RUN (R428). [DEDUCED: log 285 and 288] -/
def State.pduTake (s : State) (net at10 : Nat) (b : List Byte) : State :=
  if s.islRun then s.each (List.range 8) (fun s c => s.pduAt c net at10 b) else s
/-- SAFE_PDU_RECEIVED (R442): arrival within the running tick, in 10 µs. -/
def execSafePduReceived (net : Fin 2) (pdu : List Byte) (at10 : Fin 100) (s : State) : Host.Outcome State Fault Refusal :=
  .next (s.pduTake net (100 * s.saf.ticks + at10) (padTo 16 pdu))
/-- A connection's watchdog runs out (R444); event 183. -/
def State.connTimeout (s : State) (c : Nat) : State :=
  let s1 := s.modConn c (fun x => { x with news := 0, age := 0, fresh := x.fresh || s.get (F.SAF_CONN_STAT_STATE c) == 2 })
  if s.get (F.SAF_CONN_STAT_STATE c) = 2 then (s1.put (F.SAF_CONN_STAT_STATE c) 3).raise 183 else s1
/-- CONNECTION_WATCHDOG_EXPIRY (R444): at the next tick the watchdog time is reached. -/
def execConnectionWatchdogExpiry (c : Fin 8) (s : State) : Host.Outcome State Fault Refusal :=
  .next (if s.islRun && s.get (F.SAF_CONN_STAT_STATE c) == 2 && decide (max 1 (s.get (F.SAF_CONN_WDT_WDT c)) ≤ (s.conn c).age + 1) then s.connTimeout c else s)

/-! ### Configuration and the tick -/

/-- Whether an offset was among the changed ones. -/
def changedOff (l : List (Nat × Nat)) (off : Nat) : Bool := l.any (fun p => p.1 == off)
/-- A committed configuration is applied (R445); event 187. The words hold the RWS bits under their masks. [DEDUCED: log 289] -/
def State.islandApply (s : State) (l : List (Nat × Nat × Nat)) : State :=
  let new := l.filterMap (fun p => let w := s.word p.1; let v := w - Nat.land w p.2.1 + p.2.2; if v = w then none else some (p.1, v))
  let hit (off : Nat) : Bool := changedOff new off
  let si := maskOf ((List.range 32).map (fun n => hit (F.SAF_SI_EN n).off))
  let sc := maskOf ((List.range 8).map (fun c => [0, 4, 8, 12, 16, 20].any (fun k => hit ((F.SAF_CONN_CFG_EN c).off + k))))
  let s1 := s.each new (fun s p => s.setWord p.1 p.2)
  let s2 := s1.each ((List.range 32).filter (bitOf si)) (fun s n => (s.when (s.get (F.SAF_SI_STATE n) == 1) (·.raiseIsl 177)).put (F.SAF_SI_STATE n) 0)
  let s3 := s2.each ((List.range 8).filter (bitOf sc)) State.connRestart
  let touched (m : Nat) : Bool := [0, 4, 8].any (fun k => hit ((F.SAF_CO_CFG_EN m).off + k)) || Nat.land (s3.get (F.SAF_CO_SIMASK_SI m)) si != 0 ||
    Nat.land (s3.get (F.SAF_CO_AUX_RXMASK m)) sc != 0
  let s4 := s3.each ((List.range 16).filter touched) (fun s m => let st := s.coSt m; if st = 0 ∨ st = 1 ∨ st = 8 then s else (s.cat0Mark m).coTo m 6)
  s4.raise 187
/-- RWS bits of the SAF registers (R445). -/
def safMask (off : Nat) : Nat :=
  match regAt off with
  | some d => d.fields.foldl (fun acc f => if f.acc = .rws then acc + (2 ^ (f.hi + 1) - 2 ^ f.lo) else acc) 0
  | none => 0
/-- The configuration that waits is applied; a failed check is cause 4 (R427). -/
def State.cfgApply (s : State) (ok : Bool) : State :=
  match s.saf.cfg with
  | none => s
  | some l =>
    let s1 := s.modSaf (fun x => { x with cfg := none })
    if ok then s1.islandApply (l.map (fun p => (p.1, safMask p.1, p.2))) else s1.islandSafe 4
/-- ISLAND_CONFIG_APPLY (R445): in RUN, the configuration check passes or fails. -/
def execIslandConfigApply (ok : Bool) (s : State) : Host.Outcome State Fault Refusal := .next (if s.islRun then s.cfgApply ok else s)

/-- Step 1: samples (R429); inputs, feedback, read-back, reset inputs. [DESIGN CHOICE: log 290] -/
def State.islSample (s : State) (a b fb rb srst : Nat) : State :=
  let s1 := s.each (List.range 32) (fun s n => (s.putB (F.SAF_SI_A n) (bitOf a n)).putB (F.SAF_SI_B n) (bitOf b n))
  let s2 := s1.each (List.range 16) (fun s m =>
    let s1 := s.modCon m (fun c => { c with fb := (bitOf fb m :: c.fb).take 10, diff := if bitOf rb m == c.cmd then 0 else c.diff + 1 })
    (s1.putB (F.SAF_CO_AUX_FB m) (bitOf fb m)).putB (F.SAF_CO_AUX_OUT m) (bitOf rb m))
  s2.put F.SAF_RSTSTAT_LEVEL srst
/-- Reset inputs at a tick (R438): contactors that a release resets. -/
def State.islPress (s : State) (srst : Nat) : State × Nat :=
  (List.range 4).foldl (fun acc r =>
    let s := acc.1
    let n := nth s.saf.press r 0
    if !s.bit F.SAF_RSTCFG_EN r then (s.modSaf (fun x => { x with press := setNth x.press r 0 }), acc.2)
    else if bitOf srst r then
      let s1 := s.modSaf (fun x => { x with press := setNth x.press r (n + 1) })
      (s1.when (n == max 1 (s.get F.SAF_RSTCFG_MAXP) * 100) (·.putBit F.SAF_RSTSTAT_STUCK r true), acc.2)
    else (s.modSaf (fun x => { x with press := setNth x.press r 0 }), if s.pressOk n then Nat.lor acc.2 (s.rstTargets r) else acc.2)) (s, 0)
/-- Watchdogs and copy windows (R443, R444). -/
def State.islWatch (s : State) (now10 : Nat) : State :=
  s.each (List.range 8) (fun s c =>
    let s1 := s.copyExpire c now10
    let st := s1.get (F.SAF_CONN_STAT_STATE c)
    if (st == 1 || st == 2 || st == 3) && decide (max 1 (s1.get (F.SAF_CONN_WDT_WDT c)) ≤ (s1.conn c).age) then s1.connTimeout c else s1)
/-- One island tick (R429): the steps in their order, in RUN; in WAITCFG, where nothing is enabled, it samples and publishes. [DEDUCED: log 280] -/
def State.islandTick (s0 : State) (a b fb rb srst : Nat) : State :=
  let s := s0.modSaf (fun x => { x with once := [], ticks := x.ticks + 1, rx := [], resets := 0 })
  if 3 ≤ s.get F.PWR_STATUS_STATE then s
  else if !s.islRun then s.when (s.get F.SAF_STATUS_STATE == 1) (fun s => (s.islSample a b fb rb srst).islPublish)
  else
    let now10 := 100 * s.saf.ticks
    let s1 := ((s.modSaf (fun x => { x with count := x.count + 1 })).cfgApply true).islSample a b fb rb srst
    let s2 := s1.each (List.range 8) (fun s c => s.modConn c (fun x => { x with age := x.age + 1 }))
    let s3 := (s2.each s0.saf.rx (fun s p => s.pduTake p.net p.at10 p.bytes)).islWatch now10
    let s4 := s3.each (List.range 32) State.inputEval
    let p := s4.islPress srst
    let s5 := (p.1.coAll (Nat.lor p.2 s0.saf.resets)).islPublish
    s5.each (List.range 8) (fun s c => s.when (s.pduDue c s.saf.count) (·.pduSend c))
/-- ISLAND_TICK (R429). -/
def execIslandTick (a b : Word) (fb rb : BitVec 16) (srst : BitVec 4) (s : State) : Host.Outcome State Fault Refusal :=
  .next (s.islandTick a.toNat b.toNat fb.toNat rb.toNat srst.toNat)

end Sys2Proof.Machine
end

