-- ==== Sys2Proof/Machine/Seal.lean ====
section
/-! DEFINITION. The sealed configuration and its change log (chapter 15): partition and measurement (R448, R449), seal states (R452,
R453), password (R454 to R457), commit (R458 to R463), log (R464, R465). -/

namespace Sys2Proof.Machine

open Sys2Proof

/-- Changes the seal. -/
def State.modSeal (s : State) (f : SealState → SealState) : State := { s with sld := f s.sld }
/-- State of the seal (SEC_SEAL_STAT.STATE): 0 NOPASS, 1 CLOSED, 2 OPEN, 3 COMMITTING. -/
def State.sealSt (s : State) : Nat := s.get F.SEC_SEAL_STAT_STATE
/-- The seal is OPEN and owned by a port. -/
def State.sealOwner (s : State) (port : Nat) : Bool := s.sealSt == 2 && s.get F.SEC_SEAL_STAT_PORT == port
/-- Offsets of every register with RWS fields, rising (R448). -/
def rwsOffs : List Nat :=
  [0x20, 0xC00028] ++ (List.range 32).map (fun n => 0xC00100 + 4 * n) ++
    (List.range 16).flatMap (fun m => [0, 4, 8].map (fun k => 0xC00200 + 16 * m + k)) ++
    (List.range 8).flatMap (fun c => [0, 4, 8, 12, 16, 20].map (fun k => 0xC00400 + 64 * c + k)) ++ [0xE00000] ++
    (List.range 256).map (fun e => 0xE10000 + 4 * e) ++ (List.range 16).flatMap (fun p => (List.range 48).map (fun j => 0xE20000 + 192 * p + 4 * j))
/-- RWS bits of a word. -/
def rwsBits (off v : Nat) : Nat := Nat.land v (safMask off)
/-- A serial number is later, in 32-bit serial arithmetic (R461). -/
def laterSeq (a b : Nat) : Bool := let d := (a + 2 ^ 32 - b % 2 ^ 32) % 2 ^ 32; 0 < d && d < 2 ^ 31
/-- The active slot: valid, with the later CSEQ (R461). -/
def SealState.active (x : SealState) : Option (Nat × SealSlot) :=
  match nth x.slots 0 none, nth x.slots 1 none with
  | some a, some b => if laterSeq b.cseq a.cseq then some (1, b) else some (0, a)
  | some a, none => some (0, a)
  | none, some b => some (1, b)
  | none, none => none
/-- Configuration in effect: RWS bits of a register (R453, R461). -/
def SealState.eff (x : SealState) (off : Nat) : Nat :=
  match x.active with
  | some a => (find1 a.2.body off).getD (rwsBits off (resetNat off))
  | none => rwsBits off (resetNat off)
/-- The partition measurement (R449). [DEDUCED: log 300] -/
def partMeas (meas : List Byte) (body : List (Nat × Nat)) : List Byte :=
  sha384 (meas ++ wordBytes (rwsOffs.map (fun o => (find1 body o).getD (rwsBits o (resetNat o)))))
/-- The body of the active slot. -/
def SealState.body (x : SealState) : List (Nat × Nat) := match x.active with
  | some a => a.2.body
  | none => []
/-- SEC_SEAL_MEAS from the running image and the configuration in effect (R449, R451). -/
def State.putMeas (s : State) : State := s.setWords (F.SEC_SEAL_MEAS_HASH 0).off (bytesWords 12 (partMeas s.sec.islDigest s.sld.body))
/-- PEND (R453). -/
def State.putPend (s : State) : State := s.put F.SEC_SEAL_STAT_PEND s.sld.pend.length
/-- The password registers are cleared (R457). -/
def State.pwClear (s : State) : State := s.modSeal (fun x => { x with pw := List.replicate 16 0, pwLen := 0 })
/-- Registers that show the slots and the log (R450, R461, R464). -/
def State.sealShow (s : State) : State :=
  let s1 := match s.sld.active with
    | some a => ((s.put F.SEC_SEAL_STAT_ASLOT a.1).put F.SEC_SEAL_CNT_COUNT a.2.counter).put F.SEC_SEAL_CSEQ_CSEQ a.2.cseq
    | none => s
  s1.put F.SEC_SEAL_LOG_COUNT s.sld.log.length

/-! ### Open and close -/

/-- The seal opens for a port (R452); event 224. -/
def State.sealOpened (s : State) (port : Nat) : State :=
  (((s.put F.SEC_SEAL_STAT_STATE 2).put F.SEC_SEAL_STAT_PORT port).modSeal (fun x => { x with idleSince := s.now })).raise 224
/-- The seal leaves OPEN (R452, R453, R457); pending changes are discarded; event 225. -/
def State.sealLeave (s : State) : State :=
  let st := if s.sld.active.isSome then 1 else 0
  ((((((s.put F.SEC_SEAL_STAT_STATE st).put F.SEC_SEAL_STAT_PENDPW 0).modSeal (fun x => { x with pend := [], pendPw := none })).putPend).pwClear)).raise 225
/-- A close from any source: at once in OPEN, after the commit in COMMITTING (R463). -/
def State.sealShut (s : State) : State :=
  if s.sealSt = 2 then s.sealLeave
  else if s.sealSt = 3 then s.modSeal (fun x => { x with job := x.job.map (fun j => { j with close := true }) })
  else s
/-- The owning port loses its link (R452). -/
def State.sealLinkLoss (s : State) (port : Nat) : State :=
  if (s.sealSt = 2 ∨ s.sealSt = 3) ∧ s.get F.SEC_SEAL_STAT_PORT = port then s.sealShut else s
/-- Idle limit, ns (R452). -/
def State.sealIdleMax (s : State) : Nat := max 1 (s.get F.SEC_SEAL_IDLE_MIN) * 60000000000
/-- The idle time has reached the limit: the seal closes (R452). -/
def State.sealIdle (s : State) : State :=
  if (s.sealSt = 2 ∨ s.sealSt = 3) ∧ s.sld.idleSince + s.sealIdleMax ≤ s.now then s.sealShut else s
/-- SEAL_IDLE_TIMEOUT (R452): the counter runs to the end of the idle time, inside the minor frame. -/
def execSealIdleTimeout (s : State) : Host.Outcome State Fault Refusal :=
  .next (if s.sealSt = 2 ∨ s.sealSt = 3 then (s.runInside (s.sld.idleSince + s.sealIdleMax)).sealIdle else s)
/-- The password in the registers (R454). -/
def SealState.password (x : SealState) : List Byte := (wordBytes x.pw).take x.pwLen
/-- A password has a valid length and valid bytes (R454). -/
def SealState.pwOk (x : SealState) : Bool :=
  decide (8 ≤ x.pwLen) && decide (x.pwLen ≤ 64) && x.password.all (fun b => decide (0x20 ≤ b.toNat) && decide (b.toNat ≤ 0x7E))
/-- A bit of SEC_SEAL_ERR. [DEDUCED: log 303] -/
def State.sealErr (s : State) (f : Fld) : State := s.put f 1
/-- Another command is in progress (R459). -/
def State.sealBusy (s : State) : Bool := s.sld.check.isSome || s.sealSt == 3
/-- The owner's command restarts the idle time (R452). -/
def State.sealTouch (s : State) (port : Nat) : State := s.when (s.sealOwner port) (·.modSeal (fun x => { x with idleSince := s.now }))
/-- OPEN (R452, R454, R456): a check starts; the count of failures rises before the comparison. -/
def State.sealOpen (s : State) (port : Nat) : State :=
  if s.sealBusy then s.sealErr F.SEC_SEAL_ERR_BUSY
  else if s.sealSt ≠ 1 then (s.sealErr F.SEC_SEAL_ERR_STATE).pwClear
  else if s.flag F.SEC_SEAL_STAT_BACKOFF then (s.sealErr F.SEC_SEAL_ERR_BACKOFF).pwClear
  else if !s.sld.pwOk then (s.sealErr F.SEC_SEAL_ERR_PWLEN).pwClear
  else ((s.modSeal (fun x => { x with check := some (port, x.password) })).inc F.SEC_SEAL_STAT_FAILS).pwClear
/-- Length of the back-off, s (R456). -/
def State.backoffSecs (s : State) : Nat := min (2 ^ (s.get F.SEC_SEAL_STAT_FAILS - 3)) 3600
/-- The back-off starts from the third failure on (R456). -/
def State.backoffStart (s : State) : State :=
  if s.get F.SEC_SEAL_STAT_FAILS < 3 then s
  else ((s.put F.SEC_SEAL_STAT_BACKOFF 1).put F.SEC_SEAL_BOTIME_S s.backoffSecs).modSeal (fun x => { x with boEnd := s.now + s.backoffSecs * 1000000000 })
/-- The check ends (R456); events 224 or 228. -/
def State.pwChecked (s : State) : State :=
  match s.sld.check with
  | none => s
  | some (port, pw) =>
    let s1 := s.modSeal (fun x => { x with check := none })
    let ok := match s.sld.active with
      | some a => pwHash pw a.2.salt == a.2.hash
      | none => false
    if ok then (s1.put F.SEC_SEAL_STAT_FAILS 0).sealOpened port
    else ((s1.sealErr F.SEC_SEAL_ERR_BADPW).raise 228).backoffStart
/-- PASSWORD_CHECK_COMPLETE (R456). -/
def execPasswordCheckComplete (s : State) : Host.Outcome State Fault Refusal := .next s.pwChecked
/-- Back-off remaining; at its end OPEN is accepted again (R456). [DEDUCED: log 305] -/
def State.backoffRun (s : State) : State :=
  if s.flag F.SEC_SEAL_STAT_BACKOFF then
    let left := s.sld.boEnd - s.now
    (s.put F.SEC_SEAL_BOTIME_S ((left + 999999999) / 1000000000)).when (left == 0) (·.put F.SEC_SEAL_STAT_BACKOFF 0)
  else s
/-- BACKOFF_EXPIRY (R456): the counter runs to the end of the back-off, inside the minor frame. -/
def execBackoffExpiry (s : State) : Host.Outcome State Fault Refusal :=
  .next (if s.flag F.SEC_SEAL_STAT_BACKOFF then (s.runInside s.sld.boEnd).backoffRun else s)
/-- SEAL_OPEN (R452). -/
def execSealOpen (port : Fin 2) (s : State) : Host.Outcome State Fault Refusal := .next ((s.sealTouch port).sealOpen port)
/-- CLOSE (R452). -/
def State.sealClose (s : State) (port : Nat) : State :=
  if (s.sealSt = 2 ∨ s.sealSt = 3) ∧ s.get F.SEC_SEAL_STAT_PORT = port then s.sealShut else s.sealErr F.SEC_SEAL_ERR_STATE
/-- SEAL_CLOSE (R452). -/
def execSealClose (port : Fin 2) (s : State) : Host.Outcome State Fault Refusal := .next (s.sealClose port)
/-- A 16-byte random salt (R454). -/
def State.newSalt (s : State) : List Byte := leBytes 16 (Config.random s.freeCtr)
/-- SETPW (R452, R455). [DEDUCED: log 302] -/
def State.sealSetpw (s : State) (port : Nat) : State :=
  if s.sealBusy then s.sealErr F.SEC_SEAL_ERR_BUSY
  else if s.sealSt = 0 ∨ s.sealOwner port then
    if !s.sld.pwOk then (s.sealErr F.SEC_SEAL_ERR_PWLEN).pwClear
    else
      let s1 := (((s.modSeal (fun x => { x with pendPw := some (s.newSalt, pwHash x.password s.newSalt) })).drawn).put F.SEC_SEAL_STAT_PENDPW 1).pwClear
      if s.sealSt = 0 then s1.sealOpened port else s1
  else (s.sealErr F.SEC_SEAL_ERR_STATE).pwClear
/-- SEAL_SETPW (R455). -/
def execSealSetpw (port : Fin 2) (s : State) : Host.Outcome State Fault Refusal := .next ((s.sealTouch port).sealSetpw port)
/-- DISCARD (R453). -/
def State.sealDiscard (s : State) (port : Nat) : State :=
  if s.sealBusy then s.sealErr F.SEC_SEAL_ERR_BUSY
  else if s.sealOwner port then (s.modSeal (fun x => { x with pend := [] })).putPend
  else s.sealErr F.SEC_SEAL_ERR_STATE
/-- SEAL_DISCARD (R453). -/
def execSealDiscard (port : Fin 2) (s : State) : Host.Outcome State Fault Refusal := .next ((s.sealTouch port).sealDiscard port)
/-- An RWS write (R25, R453, R463): the RWS bits of a word. -/
def State.rwsWrite (s : State) (port off v : Nat) : State :=
  if s.sealOwner port then
    let w := rwsBits off v
    let s1 := s.modSeal (fun x => { x with idleSince := s.now, pend := if w = x.eff off then eraseKey off x.pend else putKey off w x.pend })
    s1.putPend
  else s.accErr F.GLB_ACCERR_SEALED port off
/-- RWS_WRITE (R453): of a register with RWS fields. -/
def execRwsWrite (port : Fin 2) (off : BitVec 26) (val : Word) (s : State) : Host.Outcome State Fault Refusal :=
  .next (if safMask off.toNat = 0 then s else s.rwsWrite port off.toNat val.toNat)

/-! ### Change log -/

/-- A log entry (R464). -/
def State.logEntry (s : State) (kind seq cseq param : Nat) (oldh newh : List Byte) : List Byte :=
  let b := leBytes 1 kind ++ List.replicate 3 0#8 ++ leBytes 4 seq ++ leBytes 4 cseq ++ dtimeLe s.tim.ctr.sec s.tim.ctr.ns ++ [0#8, 0#8] ++
    wordBytes (s.words (F.SEC_SEAL_OPID_CHARS 0).off 4) ++ leBytes 4 param ++ padTo 24 oldh ++ padTo 24 newh
  b ++ leBytes 4 (crc32c b)
/-- First 24 bytes of the hash of salt, PARAM and a value (R464). -/
def logHash (salt : List Byte) (param : Nat) (v : List Byte) : List Byte := (sha384 (salt ++ leBytes 4 param ++ v)).take 24
/-- The entries a commit appends (R464): changed registers in ascending offset, password, island image. [DEDUCED: log 304] -/
def State.commitEntries (s : State) (slot : SealSlot) : List (Nat × Nat × List Byte × List Byte) :=
  let x := s.sld
  let regs := x.pend.map (fun p => (1, p.1, logHash slot.salt p.1 (leBytes 4 (x.eff p.1)), logHash slot.salt p.1 (leBytes 4 p.2)))
  let oldHash := match x.active with
    | some a => a.2.hash
    | none => List.replicate 48 0#8
  let oldMeas := match x.active with
    | some a => a.2.meas
    | none => List.replicate 48 0#8
  let pw := if x.pendPw.isSome then [(4, 0, logHash slot.salt 0 oldHash, logHash slot.salt 0 slot.hash)] else []
  let img := if s.flag F.SEC_SEAL_STAT_IMGCHG then [(3, 0, logHash slot.salt 0 oldMeas, logHash slot.salt 0 slot.meas)] else []
  regs ++ pw ++ img
/-- Appends entries to the log (R464). -/
def State.logAppend (s : State) (cseq : Nat) : List (Nat × Nat × List Byte × List Byte) → State
  | [] => s
  | e :: r =>
    let n := s.sld.nextSeq
    (s.modSeal (fun x => { x with log := x.log ++ [s.logEntry e.1 n cseq e.2.1 e.2.2.1 e.2.2.2], nextSeq := (n + 1) % 2 ^ 32 })).logAppend cseq r
/-- The slot a commit writes (R450, R458). [DESIGN CHOICE: log 301] -/
def State.commitSlot (s : State) : SealSlot :=
  let x := s.sld
  let body := x.pend.foldl (fun b p => if p.2 = rwsBits p.1 (resetNat p.1) then eraseKey p.1 b else putKey p.1 p.2 b) x.body
  let new := partMeas s.sec.islDigest body
  let a := x.active
  let cnt := match a with
    | some p => if new = partMeas p.2.meas p.2.body then p.2.counter else p.2.counter + 1
    | none => 1
  let pw := match x.pendPw, a with
    | some p, _ => p
    | none, some p => (p.2.salt, p.2.hash)
    | none, none => (List.replicate 16 0#8, List.replicate 48 0#8)
  let cseq := match a with
    | some p => (p.2.cseq + 1) % 2 ^ 32
    | none => 1
  { cseq := cseq, counter := cnt, salt := pw.1, hash := pw.2, meas := s.sec.islDigest, body := body
    level := s.word 0x20 - rwsBits 0x20 (s.word 0x20) + (find1 body 0x20).getD 0 }
/-- COMMIT (R459, R460): the checks, and the entries of step 2. -/
def State.sealCommit (s : State) (port : Nat) : State :=
  if s.sealBusy then s.sealErr F.SEC_SEAL_ERR_BUSY
  else if !s.sealOwner port then s.sealErr F.SEC_SEAL_ERR_STATE
  else
    let slot := s.commitSlot
    let es := s.commitEntries slot
    let inactive := match s.sld.active with
      | some a => 1 - a.1
      | none => 0
    if es.isEmpty then s.sealErr F.SEC_SEAL_ERR_NOCHANGE
    else if 2048 < s.sld.log.length + es.length then s.sealErr F.SEC_SEAL_ERR_LOGFULL
    else if 2 ^ 32 ≤ slot.counter then s.sealErr F.SEC_SEAL_ERR_STATE
    else
      let s1 := s.modSeal (fun x => { x with job := some { slot := slot, before := x.log.length, close := false }, slots := setNth x.slots inactive none })
      ((s1.logAppend slot.cseq es).put F.SEC_SEAL_STAT_STATE 3).sealShow
/-- SEAL_COMMIT (R459). -/
def execSealCommit (port : Fin 2) (s : State) : Host.Outcome State Fault Refusal := .next ((s.sealTouch port).sealCommit port)
/-- The commit ends (R460 to R463, R569); events 226 or 227. -/
def State.commitEnd (s : State) (ok : Bool) : State :=
  match s.sld.job with
  | none => s
  | some j =>
    let s0 := (s.modSeal (fun x => { x with job := none })).put F.SEC_SEAL_STAT_STATE 2
    let s1 : State :=
      if ok then
        let inactive := match s.sld.active with
          | some a => 1 - a.1
          | none => 0
        let all := rwsOffs.map (fun o => (o, (find1 j.slot.body o).getD (rwsBits o (resetNat o))))
        let saf (p : Nat × Nat) : Bool := p.1 / 0x100000 == 12
        let a := s0.modSeal (fun x => { x with slots := setNth x.slots inactive (some j.slot), pend := [], pendPw := none, major := some (all.filter (fun p => !saf p)) })
        let b := (((a.modSaf (fun x => { x with cfg := some (all.filter saf) })).put F.SEC_SEAL_STAT_PENDPW 0).put F.SEC_SEAL_STAT_IMGCHG 0).putPend
        let c := b.sealShow.putMeas
        if c.get F.SAF_STATUS_STATE = 1 then (c.raise 226).islandRun
        else if c.islRun then (c.mrExtend 4 (wordBytes (c.words (F.SEC_SEAL_MEAS_HASH 0).off 12))).raise 226
        else c.raise 226
      else
        (((s0.modSeal (fun x => { x with log := x.log.take j.before })).sealShow).sealErr F.SEC_SEAL_ERR_VERIFY).raise 227
    s1.when j.close State.sealLeave
/-- COMMIT_COMPLETE (R460). -/
def execCommitComplete (ok : Bool) (s : State) : Host.Outcome State Fault Refusal := .next (s.commitEnd ok)
/-- Recorder fields and level bits of a commit take effect at the major tick (R462). -/
def State.sealMajor (s : State) : State :=
  match s.sld.major with
  | none => s
  | some l =>
    (s.each l (fun s p => let w := s.word p.1; s.setWord p.1 (w - rwsBits p.1 w + p.2))).modSeal (fun x => { x with major := none })
/-- ROLL (R465); event 230. -/
def State.sealRoll (s : State) (port : Nat) : State :=
  if s.sealBusy then s.sealErr F.SEC_SEAL_ERR_BUSY
  else if !s.sealOwner port then s.sealErr F.SEC_SEAL_ERR_STATE
  else if s.get F.SEC_SEAL_LOG_EXPORTED ≠ s.sld.log.length then s.sealErr F.SEC_SEAL_ERR_NOTEXP
  else
    let l := s.sld.log
    let seqOf (e : Option (List Byte)) : Nat := leAt (e.getD []) 4 4
    let n := s.sld.nextSeq
    let e := s.logEntry 2 n (s.get F.SEC_SEAL_CSEQ_CSEQ) l.length ((sha384 l.flatten).take 24) (leBytes 4 (seqOf l.head?) ++ leBytes 4 (seqOf l.getLast?))
    (((s.modSeal (fun x => { x with log := [e], nextSeq := (n + 1) % 2 ^ 32 })).sealShow).put F.SEC_SEAL_LOG_EXPORTED 0).raise 230
/-- SEAL_ROLL (R465). -/
def execSealRoll (port : Fin 2) (s : State) : Host.Outcome State Fault Refusal := .next ((s.sealTouch port).sealRoll port)
/-- A word of the log window (R464). -/
def State.logWord (s : State) (k : Nat) : Nat := leAt (nth s.sld.log (s.get F.SEC_SEAL_LOGIDX_IDX) []) (4 * k) 4
/-- A read of word 23 of entry EXPORTED advances EXPORTED (R465). -/
def State.logExport (s : State) (k : Nat) : State :=
  let e := s.get F.SEC_SEAL_LOG_EXPORTED
  if k = 23 ∧ s.get F.SEC_SEAL_LOGIDX_IDX = e ∧ e < s.sld.log.length then s.put F.SEC_SEAL_LOG_EXPORTED (e + 1) else s
/-- SEC_SEAL_LOGWIN_READ (R26, R465): word 0 latches the others. -/
def State.logWinRead (s : State) (k : Nat) : State :=
  let base := (F.SEC_SEAL_LOGWIN_DATA 0).off
  let s1 := if k = 0 then s.latch ((List.range 23).map (fun j => (base + 4 * (j + 1), s.logWord (j + 1)))) else s
  let v := if k = 0 then s.logWord 0 else (find1 s1.shadow (base + 4 * k)).getD (s.logWord k)
  { s1.logExport k with hostData := v }
/-- SEC_SEAL_LOGWIN_READ (R465). -/
def execSecSealLogwinRead (_port : Fin 2) (k : Fin 24) (s : State) : Host.Outcome State Fault Refusal := .next (s.logWinRead k)
/-- A write of SEC_SEAL_CMD (R463): more than one bit discards all; each write of the owner restarts the idle time. [DEDUCED: log 306] -/
def State.sealCmd (s0 : State) (port v : Nat) : State :=
  let s := s0.sealTouch port
  if popcount 6 v = 0 then s
  else if 1 < popcount 6 v then s.sealErr F.SEC_SEAL_ERR_STATE
  else if bitOf v 0 then s.sealOpen port
  else if bitOf v 1 then s.sealClose port
  else if bitOf v 2 then s.sealCommit port
  else if bitOf v 3 then s.sealSetpw port
  else if bitOf v 4 then s.sealRoll port
  else s.sealDiscard port
/-- Seal work of a tick: idle time and back-off (R452, R456). -/
def State.sealTick (s : State) : State := s.sealIdle.backoffRun
/-- A step of the counter moves the running times with it. -/
def State.sealStep (s : State) (d : Int) : State :=
  s.modSeal (fun x => { x with idleSince := ((x.idleSince : Int) + d).toNat, boEnd := ((x.boEnd : Int) + d).toNat })
/-- The seal at a module reset (R448, R452, R456, R461): from the slots and the log of MRAM, which the reset keeps; `s` is the machine
after reset, `x` the seal before it, with the failures counted; event 227. -/
def State.sealReset (s : State) (x : SealState) (fails : Nat) : State :=
  let y : SealState := { SealState.reset with slots := x.slots, log := x.log, nextSeq := x.nextSeq }
  let cseq := match y.active with
    | some a => a.2.cseq
    | none => 0
  let keep := y.log.filter (fun e => !laterSeq (leAt e 8 4) cseq)
  let s1 := ({ s with sld := { y with log := keep } }).put F.SEC_SEAL_STAT_FAILS fails
  let s2 := (s1.put F.SEC_SEAL_STAT_STATE (if y.active.isSome then 1 else 0)).sealShow
  let s3 := s2.each y.body (fun s p => let w := s.word p.1; s.setWord p.1 (w - rwsBits p.1 w + p.2))
  let s4 := match y.active with
    | some a => s3.setWord 0x20 a.2.level
    | none => s3
  (s4.when (keep.length != y.log.length) (·.raise 227)).backoffStart

end Sys2Proof.Machine
end

