-- ==== Sys2Proof/Machine/Rec.lean ====
section
/-! DEFINITION. The event recorder (chapter 17): layout (R502 to R505), record bytes (R510, R511), writing (R512 to R515), the
last-gasp ring (R516 to R521), start-up (R524). -/

namespace Sys2Proof.Machine

open Sys2Proof

/-- Changes the recorder. -/
def State.modRec (s : State) (f : RecState → RecState) : State := { s with rcd := f s.rcd }
/-- REC_STATUS.STATE: 0 INIT, 1 RUN, 2 FAULT, 3 CLEARING. -/
def State.recSt (s : State) : Nat := s.get F.REC_STATUS_STATE
/-- Number of slots (R502). -/
def recSlots : Nat := 131072
/-- A record copied from a ring entry (R521). -/
def BurstRec.copy (r : BurstRec) : Bool := bitOf r.flags 1
/-- Records in the burst buffer; copies of ring entries stand beside it. -/
def State.recBuf (s : State) : Nat := (s.rcd.burst.filter (fun r => !r.copy)).length
/-- REC_STATUS.BUF follows the buffer. -/
def State.recShow (s : State) : State := s.put F.REC_STATUS_BUF s.recBuf
/-- A slot is marked bad (R505). -/
def State.slotBad (s : State) (k : Nat) : Bool := bitOf (s.get (F.REC_BADMAP_WORD (k / 32))) (k % 32)
/-- PERM as the recorder takes it (R504). -/
def State.recPerm (s : State) : Nat := max 1024 (min 32768 (s.get F.REC_CTRL_PERM))
/-- First slot from `k` that is not marked bad; N follows the last slot (R503, R505). -/
def State.goodFrom (s : State) : Nat → Nat → Option Nat
  | 0, _ => none
  | f + 1, k =>
    let k1 := if recSlots ≤ k then s.get F.REC_PERMEFF_N else k
    if s.slotBad k1 then s.goodFrom f (k1 + 1) else some k1
/-- No record has been written since the start or the last CLEAR (R514, R524). -/
def State.recEmpty (s : State) : Bool := s.get F.REC_PERMUSED_SLOTS == 0 && !s.flag F.REC_STATUS_PERMFULL
/-- The slot of the next record. -/
def State.recNext (s : State) : Option Nat := s.goodFrom (2 * recSlots) (if s.recEmpty then 0 else s.get F.REC_HEAD_SLOT + 1)
/-- The index as it stands (R524). [DEDUCED: log 325] -/
def State.recIndex (s : State) : State :=
  s.modRec (fun x => { x with
    index := some { seq := s.get F.REC_SEQ_SEQ, head := s.get F.REC_HEAD_SLOT, n := s.get F.REC_PERMEFF_N, used := s.get F.REC_PERMUSED_SLOTS
                    full := s.flag F.REC_STATUS_PERMFULL, wrapped := s.flag F.REC_STATUS_WRAPPED } })
/-- PERMFULL once the permanent area is full (R503); event 213. -/
def State.permCheck (s : State) : State :=
  let n := s.get F.REC_PERMEFF_N
  match s.recNext with
  | some k => if n ≤ k then s.setRaise F.REC_STATUS_PERMFULL 213 else s
  | none => s.setRaise F.REC_STATUS_PERMFULL 213

/-! ### Records -/

/-- Bytes of a record as slot `k` takes it (R510). -/
def State.recBytes (s : State) (r : BurstRec) (k : Nat) : List Byte :=
  let fl := r.flags + 8 * b2n (decide (k < s.get F.REC_PERMEFF_N))
  let b := leBytes 4 0x52454331 ++ leBytes 4 (r.seq.getD 0) ++ leBytes 1 r.src ++ leBytes 1 r.prof ++ leBytes 1 fl ++ leBytes 1 r.role ++
    dtimeLe r.sec r.ns ++ leBytes 2 r.lost ++ leBytes 4 r.lag ++ leBytes 4 r.boot ++ padTo 192 (wordBytes r.snap) ++ List.replicate 28 0#8
  b ++ leBytes 4 (crc32c b)
/-- FLAGS bits of a record formed now: SINGLE_LANE and FRAMES_OFF (R510). -/
def State.recFlags (s : State) : Nat := 16 * b2n (!s.dualLane) + 32 * b2n (!s.flag F.FRM_STATUS_RUNNING)
/-- A record enters the burst buffer, or is dropped (R511, R512); event 211. -/
def State.recForm (s : State) (src prof flags sec ns lag : Nat) (snap : List Nat) : State :=
  if 64 ≤ s.recBuf then
    (((s.inc F.REC_LOST_COUNT).modRec (fun x => { x with lostSince := satInc 65535 x.lostSince })).put F.REC_ERR_OVF 1).raiseMajor 211
  else
    let early := s.recSt == 0
    let seq := s.get F.REC_SEQ_SEQ
    let r : BurstRec := { seq := if early then none else some seq, src := src, prof := prof, flags := flags, role := s.roleByte, sec := sec
                          ns := ns, lost := s.rcd.lostSince, lag := lag, boot := s.get F.SEC_BOOTCNT_COUNT, snap := snap }
    ((s.modRec (fun x => { x with burst := x.burst ++ [r], lostSince := 0 })).when (!early) (·.put F.REC_SEQ_SEQ (seq + 1))).recShow
/-- Records formed before READY take their SEQ, in the order formed (R511). [DEDUCED: log 320] -/
def State.recSeqDue (s : State) : State :=
  let r := s.rcd.burst.foldl (fun (acc : Nat × List BurstRec) b => match b.seq with
    | some _ => (acc.1, acc.2 ++ [b])
    | none => ((acc.1 + 1) % 2 ^ 32, acc.2 ++ [{ b with seq := some acc.1 }])) (s.get F.REC_SEQ_SEQ, [])
  (s.modRec (fun x => { x with burst := r.2 })).put F.REC_SEQ_SEQ r.1
/-- An entry of a peer's notice (R520): a record, or a ring entry in FAULT. -/
def State.peerEntry (s : State) (e : List Byte) : State :=
  if s.recSt = 2 then (s.ringWrite 2 214 0 0xFFFFFFFF).gaspEvent
  else s.recForm 214 255 (1 + s.recFlags) s.tim.ctr.sec s.tim.ctr.ns 0 (bytesWords 8 e)
/-- A peer's notice (R520); event 214. [DEDUCED: log 326] -/
def State.peerNotice (s : State) (payload : List Byte) : State :=
  (s.each ((List.range (payload.length / 32)).map (fun k => slice payload (32 * k) 32)) State.peerEntry).raiseMajor 214

/-! ### Faults -/

/-- Entry to FAULT (R515, R516): copies wait in the ring again; KIND 1 entry, events 209 and 210. A SEQ not yet read from the index
and a slot when none was attempted are free (log 2). [DEDUCED: log 322] -/
def State.recFault (s0 : State) (cause : Nat) : State :=
  let s := if s0.recSt = 0 then (s0.put F.REC_SEQ_SEQ s0.free).drawn else s0
  let k := s.rcd.lastSlot.getD (s.free % recSlots)
  let s1 := (((s.drawn.modRec (fun x => { x with burst := x.burst.filter (fun r => !r.copy) })).put F.REC_STATUS_STATE 2).put F.REC_STATUS_CAUSE cause).recSeqDue
  ((s1.ringWrite 1 209 cause k).gaspEvent).raise 209

/-- MRAM_CONTROLLER_FAULT (R515). -/
def execMramControllerFault (s : State) : Host.Outcome State Fault Refusal := .next (if s.recSt = 2 then s else s.recFault 2)

/-! ### Writing -/

/-- A copy of a ring entry has been verified: the copy index passes it (R521). -/
def State.copyDone (s : State) (seq : Nat) : State :=
  match s.rcd.ring.find? (fun p => leAt p.2 4 4 == seq) with
  | none => s
  | some p =>
    let c := (p.1 + 1) % 32
    (s.put F.REC_LG_COPIED c).put F.REC_LG_NEW ((s.get F.RTC_LGSTAT_WR + 32 - c) % 32)
/-- Contents of a slot; a slot of zeros is not listed. -/
def State.putSlot (s : State) (k : Nat) (b : List Byte) : State :=
  s.modRec (fun x => { x with slots := if b.all (fun y => y == 0#8) then eraseKey k x.slots else putKey k b x.slots })
/-- A verified write (R503, R513). -/
def State.recVerified (s : State) (k : Nat) (r : BurstRec) : State :=
  let wrap := !s.recEmpty && decide (k ≤ s.get F.REC_HEAD_SLOT)
  let s1 := (s.modRec (fun x => { x with burst := x.burst.tail, rate := x.rate + 1 })).put F.REC_BAD_CONSEC 0
  let s2 := (s1.put F.REC_HEAD_SLOT k).when (k < s.get F.REC_PERMEFF_N) (·.put F.REC_PERMUSED_SLOTS (k + 1))
  let s3 := ((s2.when wrap (·.put F.REC_STATUS_WRAPPED 1)).when r.copy (·.copyDone (r.seq.getD 0))).permCheck.recShow
  s3.when s3.rcd.burst.isEmpty State.recIndex
/-- A failed verification (R513); event 212, FAULT at the eighth in a row. -/
def State.recBad (s : State) (k : Nat) : State :=
  let s1 := ((s.putBit (F.REC_BADMAP_WORD (k / 32)) (k % 32) true).inc F.REC_BAD_COUNT).inc F.REC_BAD_CONSEC
  let s2 := ((s1.modRec (fun x => { x with badmap := putKey (k / 32) (s1.get (F.REC_BADMAP_WORD (k / 32))) x.badmap })).permCheck).raiseMajor 212
  if 8 ≤ s2.get F.REC_BAD_CONSEC then s2.recFault 1 else s2
/-- One write and its verification (R513): `stored` is what the slot holds after it, where that is not the record. [DESIGN CHOICE: log 328] -/
def State.recWrite (s : State) (stored : Option (List Byte)) : State :=
  match s.rcd.burst.head?, s.recNext with
  | some r, some k =>
    if s.recSt = 1 ∧ r.seq.isSome then
      let b := s.recBytes r k
      let got := (stored.map (padTo 256)).getD b
      let s1 := (s.modRec (fun x => { x with lastSlot := some k })).putSlot k got
      if got = b then s1.recVerified k r else s1.recBad k
    else s
  | _, _ => s
/-- RECORD_WRITE (R513). -/
def execRecordWrite (stored : Option (List Byte)) (s : State) : Host.Outcome State Fault Refusal := .next (s.recWrite stored)

/-! ### Commands -/

/-- A command of REC_CMD is refused. -/
def State.recRefuse (s : State) : State := s.put F.REC_ERR_REFUSED 1
/-- REC_MARK (R525). -/
def execRecMark (s : State) : Host.Outcome State Fault Refusal := .next (s.raise 215)
/-- The record a ring entry becomes (R521). -/
def entryRec (e : List Byte) : BurstRec :=
  { seq := some (leAt e 4 4), src := leAt e 3 1, prof := 255, flags := 2, role := leAt e 19 1, sec := leAt e 8 6, ns := leAt e 14 4, lost := 0
    lag := 0, boot := leAt e 24 4, snap := bytesWords 8 e }
/-- A ring entry whose CHK holds (R604). -/
def entryOk (e : List Byte) : Bool := leAt e 28 4 == crc32c (e.take 28)
/-- The newest `n` ring entries, oldest first. -/
def State.ringLast (s : State) (n : Nat) : List (List Byte) :=
  (List.range n).filterMap (fun i => find1 s.rcd.ring ((s.get F.RTC_LGSTAT_WR + 32 - n % 32 + i) % 32))
/-- Copies of ring entries wait behind the burst buffer, or before it. [DEDUCED: log 321] -/
def State.queueCopies (s : State) (l : List (List Byte)) (front : Bool) : State :=
  let c := (l.filter entryOk).map entryRec
  let s1 := s.modRec (fun x => { x with burst := if front then c ++ x.burst else x.burst ++ c })
  if c.isEmpty then (s1.put F.REC_LG_COPIED (s.get F.RTC_LGSTAT_WR)).put F.REC_LG_NEW 0 else s1
/-- REC_CMD.CLEAR (R514). [DEDUCED: log 324] -/
def State.recClear (s : State) (port : Nat) : State :=
  if s.recSt = 1 ∧ s.sealOwner port then s.put F.REC_STATUS_STATE 3 else s.recRefuse
/-- REC_CLEAR (R514). -/
def execRecClear (port : Fin 2) (s : State) : Host.Outcome State Fault Refusal := .next (s.recClear port)
/-- The recorder as an empty one (R514, R524). -/
def State.recBlank (s : State) : State :=
  ((((s.put F.REC_PERMEFF_N s.recPerm).put F.REC_STATUS_PERMFULL 0).put F.REC_STATUS_WRAPPED 0).put F.REC_PERMUSED_SLOTS 0).put F.REC_HEAD_SLOT 131071
/-- The end of CLEARING (R514); event 217. -/
def State.recCleared (s : State) : State :=
  if s.recSt = 3 then
    (((s.modRec (fun x => { x with slots := x.slots.filter (fun p => s.slotBad p.1) })).recBlank.put F.REC_STATUS_STATE 1).recIndex).raise 217
  else s
/-- RECORDER_CLEAR_COMPLETE (R514). -/
def execRecorderClearComplete (s : State) : Host.Outcome State Fault Refusal := .next s.recCleared
/-! ### Start-up -/

/-- A slot holds a valid record with a given SEQ. -/
def State.slotHas (s : State) (k seq : Nat) : Bool :=
  match find1 s.rcd.slots k with
  | some b => leAt b 0 4 == 0x52454331 && leAt b 252 4 == crc32c (b.take 252) && leAt b 4 4 == seq % 2 ^ 32
  | none => false
/-- SEQ of the record at REC_HEAD. -/
def State.headSeq (s : State) : Option Nat := if s.recEmpty then none else (find1 s.rcd.slots (s.get F.REC_HEAD_SLOT)).map (fun b => leAt b 4 4)
/-- The scan for the head (R524), at most `f` slots on. -/
def State.recScan (s : State) : Nat → State
  | 0 => s
  | f + 1 =>
    match s.recNext with
    | none => s
    | some k =>
      let want := match s.headSeq with
        | some q => q + 1
        | none => (find1 s.rcd.slots k).elim 0 (fun b => leAt b 4 4)
      if s.slotHas k want then
        let wrap := !s.recEmpty && decide (k ≤ s.get F.REC_HEAD_SLOT)
        let s1 := (s.put F.REC_HEAD_SLOT k).when (k < s.get F.REC_PERMEFF_N) (·.put F.REC_PERMUSED_SLOTS (k + 1))
        (s1.when wrap (·.put F.REC_STATUS_WRAPPED 1)).recScan f
      else s
/-- The index is read (R524). -/
def State.recLoad (s : State) : State :=
  match s.rcd.index with
  | none => (s.recBlank.each (s.rcd.badmap.map Prod.fst) (fun s w => s.put (F.REC_BADMAP_WORD w) 0)).modRec (fun x => { x with badmap := [] })
  | some i =>
    let s1 := ((((s.put F.REC_PERMEFF_N i.n).putB F.REC_STATUS_PERMFULL i.full).putB F.REC_STATUS_WRAPPED i.wrapped).put F.REC_PERMUSED_SLOTS i.used).put
      F.REC_HEAD_SLOT i.head
    let s2 := s1.each s.rcd.badmap (fun s p => s.put (F.REC_BADMAP_WORD p.1) p.2)
    (s2.put F.REC_BAD_COUNT (s.rcd.badmap.foldl (fun n p => n + popcount 32 p.2) 0)).recScan 64
/-- REC_CMD.RECOVER (R521); event 216. A recorder whose start-up failed reads its index now (R524). -/
def State.recRecover (s : State) (ok : Bool) : State :=
  if s.recSt = 2 ∧ ok then
    let s0 := if s.flag F.REC_STATUS_READY then s else s.recLoad
    (((s0.put F.REC_BAD_CONSEC 0).put F.REC_STATUS_STATE 1).queueCopies (s.ringLast (s.get F.REC_LG_NEW)) false).raise 216
  else s.recRefuse
/-- REC_RECOVER (R521): `ok` is the controller's self-check. -/
def execRecRecover (ok : Bool) (s : State) : Host.Outcome State Fault Refusal := .next (s.recRecover ok)
/-- A write of REC_CMD from a port; the self-check of a RECOVER written so is a free value (log 2). [DESIGN CHOICE: log 327] -/
def State.recCmd (s : State) (port v : Nat) : State :=
  let s1 := s.when (bitOf v 0) (·.raise 215)
  let s2 := if bitOf v 1 then (s1.recRecover (s1.free % 2 == 0)).drawn else s1
  s2.when (bitOf v 2) (·.recClear port)
/-- RECORDER_INIT (R515, R524): RUN and READY with events 208, or FAULT; `ok` says that index, scan and controller pass. [DESIGN CHOICE: log 323] -/
def State.recInit (s : State) (ok : Bool) : State :=
  if s.recSt ≠ 0 then s
  else if !ok then s.recFault 2
  else
    let s1 := s.recLoad
    let ents := s.ringLast (s.get F.RTC_LGSTAT_USED)
    let seqs := ents.map (fun e => leAt e 4 4)
    let known := (s.rcd.index.map (·.seq)).toList ++ seqs ++ s1.headSeq.toList
    let next := match known with
      | [] => 0
      | l => l.foldl max 0 + 1
    let todo := ents.filter (fun e => match s1.headSeq with
      | some q => laterSeq (leAt e 4 4) q
      | none => true)
    let s2 := (((s1.put F.REC_SEQ_SEQ next).put F.REC_STATUS_STATE 1).put F.REC_STATUS_READY 1).putBit F.PWR_READY_READY 2 true
    let s3 := (s2.put F.REC_LG_NEW todo.length).put F.REC_LG_COPIED (s.get F.RTC_LGSTAT_WR + 32 - todo.length % 32)
    (((s3.queueCopies todo true).recSeqDue).recShow.recIndex).raise 208
/-- RECORDER_INIT (R524). -/
def execRecorderInit (ok : Bool) (s : State) : Host.Outcome State Fault Refusal := .next (s.recInit ok)
/-- REC_RATE at a slow tick. -/
def State.recSlow (s : State) : State :=
  let n := min 65535 s.rcd.rate
  ((s.put F.REC_RATE_LAST n).putMax F.REC_RATE_MAX n).modRec (fun x => { x with rate := 0 })

end Sys2Proof.Machine
end

