-- ==== Sys2Proof/Machine/Sec.lean ====
section
/-! DEFINITION. Boot, measurement, attestation, firmware update, life cycle, secure store and tamper (chapter 19). -/

namespace Sys2Proof.Machine

open Sys2Proof

/-- Changes the security state. -/
def State.modSec (s : State) (f : SecState → SecState) : State := { s with sec := f s.sec }
/-- Boot record of a type: 0 lane, 1 island. -/
def State.bootRec (s : State) (k : Nat) : BootRec := nth s.sec.boot k { active := 0, trial := false, trialRun := false }
/-- Changes a boot record. -/
def State.modBoot (s : State) (k : Nat) (f : BootRec → BootRec) : State := s.modSec (fun x => { x with boot := modNth x.boot k f })
/-- Minimum security version of a type. -/
def State.svnMin (s : State) (k : Nat) : Nat := nth s.sec.svnMin k 0
/-- The event record of a tamper (1) or life-cycle command (2) extends MR5: KIND, bits or target, the DTime of now, BOOTCNT (R570).
[DESIGN CHOICE: log 381] -/
def State.mr5 (s : State) (kind val : Nat) : State :=
  s.mrExtend 5 (padTo 48 (leBytes Config.mr5Widths.1 kind ++ leBytes Config.mr5Widths.2 val ++ dtimeLe s.tim.ctr.sec s.tim.ctr.ns ++
    leBytes 4 (s.get F.SEC_BOOTCNT_COUNT)))
/-- Changes every bank of the lane SRAM, by lane and bank. [DEDUCED: log 409] -/
def State.sramMap (s : State) (f : Nat → Nat → SramBank → SramBank) : State :=
  s.modSec (fun x => { x with sram := (List.range 2).map (fun l => (List.range 16).map (fun b =>
    f l b (nth (nth x.sram l []) b { power := .on, held := .zeros }))) })
/-- Every bank is written with zeros (R585). -/
def State.sramClear (s : State) : State := s.sramMap (fun _ _ _ => { power := .on, held := .zeros })
/-- The banks at the entry to Sleep (3), or below it (R585, R608). -/
def State.sramSleep (s : State) (k : Nat) : State :=
  s.sramMap (fun _ b x => { x with power := if k = 3 ∧ (b < 4 ∨ s.bit F.SEC_SRAM_RET_BANK b) then .retained else .off })
/-- The exit from Sleep: a retained bank keeps its contents, another is zeroed (R585). -/
def State.sramWake (s : State) : State :=
  s.sramMap (fun _ _ x => { power := .on, held := if x.power = .off then .zeros else x.held })
/-- A lane's image runs: its body stands in banks 0 to 3, the firmware uses the others (R566, R585). -/
def State.sramBoot (s : State) (okA okB : Bool) : State :=
  s.sramMap (fun l b x => if (if l = 0 then okA else okB) then { power := .on, held := if b < 4 then .image else .data } else x)

/-! ### Boot -/

/-- Bytes of an image from a byte position; `base` gives the words not listed. -/
def imgBytes (base : Nat → Nat) (l : List (Nat × Nat)) (at0 n : Nat) : List Byte :=
  ((List.range ((n + 3) / 4 + 1)).flatMap (fun k => leBytes 4 ((find1 l (at0 / 4 + k)).getD (base (at0 / 4 + k))))).take n
/-- What the verification finds in the words of a slot: 0 or the failed check, DIGEST, SVN (R565, R566). -/
def verifyWords (kind min : Nat) (base : Nat → Nat) (l : List (Nat × Nat)) : Nat × List Byte × Nat :=
  let h := imgBytes base l 0 160
  let len := leAt h 4 4
  let svn := leAt h 8 2
  let dig := slice h 16 48
  let r :=
    if leAt h 0 4 ≠ (if kind = 0 then 0x5A46574C else 0x5A465749) then 1
    else if (if kind = 0 then 3145728 else 524288) < len then 2
    else if svn < min then 3
    else if sha384 (imgBytes base l 256 len) ≠ dig then 4
    else if Config.imageSigOk (h.take 64) (slice h 64 96) = false then 5 else 0
  (r, dig, svn)
/-- What the verification of a slot finds (R566, step 5): 0 or the failed check of SEC_FW_STAT.RESULT, DIGEST, SVN. -/
def verifyImage (kind min : Nat) (img : ImgSlot) : Nat × List Byte × Nat :=
  match img with
  | .factory => (if Config.imageSvn kind < min then 3 else 0, padTo 48 (Config.imageDigest kind), Config.imageSvn kind)
  | .words l => verifyWords kind min (fun _ => 0) l
  | .patched l => verifyWords kind min (fun k => Config.imageWord kind k % 2 ^ 32) l
/-- The image in a slot of a type. -/
def State.image (s : State) (kind slot : Nat) : ImgSlot := nth s.sec.images (2 * kind + slot) (.words [])
/-- Verification of a slot. -/
def State.verify (s : State) (kind slot : Nat) : Nat × List Byte × Nat := verifyImage kind (s.svnMin kind) (s.image kind slot)
/-- Slot tried first, whether its fallback is tried, and whether FALLBACK is set in any case (R567). [DEDUCED: log 385] -/
def State.bootTry (s : State) (k : Nat) : Nat × Option Nat × Bool :=
  let b := s.bootRec k
  if !b.trial then (b.active, some (1 - b.active), false)
  else if !b.trialRun then (1 - b.active, some b.active, false)
  else (b.active, none, true)
/-- The boot record as the choice leaves it (R567). -/
def State.bootMark (s : State) (k : Nat) : State :=
  s.modBoot k (fun b => if !b.trial then b else if !b.trialRun then { b with trialRun := true } else { b with trial := false, trialRun := false })
/-- The slot that runs, and FALLBACK; none where none passes (R567). -/
def State.bootSlot (s : State) (k : Nat) : Option Nat × Bool :=
  let t := s.bootTry k
  if (s.verify k t.1).1 = 0 then (some t.1, t.2.2)
  else match t.2.1 with
    | some o => if (s.verify k o).1 = 0 then (some o, true) else (none, true)
    | none => (none, true)
/-- MR0 is extended once for a module reset (R566, R569). [DEDUCED: log 380] -/
def State.mr0Extend (s : State) : State :=
  let x := s.sec
  if x.mr0 then s else (s.mrExtend 0 (sha384 (Config.mr0Bytes x.lc x.steps x.svnMin x.raises))).modSec (fun x => { x with mr0 := true })
/-- The lanes' Tadpole boot (R566 to R568, R500): `okA` and `okB` are what each lane's own checks give for the chosen slot.
[DESIGN CHOICE: log 383] -/
def State.laneBoot (s0 : State) (okA okB : Bool) : State :=
  let s := s0.mr0Extend
  if s.sec.lc = 5 then (s.put F.RED_STATUS_LANES 0).put F.RED_STATUS_ROLE 3
  else if (nth s.sec.running 0 none).isSome then s
  else
    let b := s.bootSlot 0
    let s1 := (s.bootMark 0).putB F.SEC_BOOT_LFALLBACK b.2
    match b.1 with
    | none => ((((s1.put F.SEC_BOOT_LANEA_FAIL 1).put F.SEC_BOOT_LANEB_FAIL 1).put F.RED_STATUS_LANES 0).put F.RED_STATUS_ROLE 3)
    | some k =>
      let v := s.verify 0 k
      let s2 := ((((s1.put F.SEC_BOOT_LSLOT k).put F.SEC_SVN_LCUR v.2.2).put F.SEC_SVN_LMIN (s.svnMin 0)).putB F.SEC_BOOT_LTRIAL (s1.bootRec 0).trialRun).modSec
        (fun x => { x with running := setNth x.running 0 (some k) })
      let s3 := (s2.when okA (·.mrExtend 1 v.2.1)).when okB (·.mrExtend 2 v.2.1)
      let s4 := ((s3.putB F.SEC_BOOT_LANEA_FAIL (!okA)).putB F.SEC_BOOT_LANEB_FAIL (!okB)).put F.RED_STATUS_LANES (b2n okA + 2 * b2n okB)
      let s5 := (s4.putB F.RED_STATUS_LSTAT (okA != okB)).sramBoot okA okB
      let s6 := s5.setWords (F.SEC_ATT_PUB_KEY 0).off ((List.range 24).map Config.attPub)
      if !okA && !okB then s6.put F.RED_STATUS_ROLE 3 else s6.putBit F.PWR_READY_READY 7 true
/-- TADPOLE_BOOT (R566). -/
def execTadpoleBoot (okA okB : Bool) (s : State) : Host.Outcome State Fault Refusal := .next (s.laneBoot okA okB).survive
/-- The island's Tadpole boot (R427, R451, R567, R569); events 176, 185, 229. -/
def State.islandBoot (s0 : State) : State :=
  let s := s0.mr0Extend
  if s.sec.lc = 5 ∨ s.get F.SAF_STATUS_STATE ≠ 0 then s
  else
    let b := s.bootSlot 1
    let s1 := (s.bootMark 1).putB F.SEC_BOOT_IFALLBACK b.2
    match b.1 with
    | none => s1.islandSafe 5
    | some k =>
      let v := s.verify 1 k
      let s2 := ((((s1.put F.SEC_BOOT_ISLOT k).put F.SEC_SVN_ICUR v.2.2).put F.SEC_SVN_IMIN (s.svnMin 1)).putB F.SEC_BOOT_ITRIAL (s1.bootRec 1).trialRun).modSec
        (fun x => { x with running := setNth x.running 1 (some k), islDigest := v.2.1 })
      let s3 := ((s2.setWords (F.SEC_MR_HASH 3 0).off (List.replicate 12 0)).mrExtend 3 v.2.1).putMeas
      match s3.sld.active with
      | none => s3.put F.SAF_STATUS_STATE 1
      | some a =>
        (if a.2.meas = v.2.1 then s3.put F.SEC_SEAL_STAT_IMGCHG 0 else (s3.put F.SEC_SEAL_STAT_IMGCHG 1).raise 229).islandRun
/-- ISLAND_BOOT (R427). -/
def execIslandBoot (s : State) : Host.Outcome State Fault Refusal := .next s.islandBoot

/-! ### Measurement registers and attestation -/

/-- SEC_MR_EXT.GO (R571). -/
def State.mrHost (s : State) (r : Nat) : State :=
  if r < 6 then s.put F.SEC_ERR_MR 1 else s.mrExtend r (wordBytes (s.words (F.SEC_MR_EXT_DATA_DATA 0).off 12))
/-- MR_EXTEND (R571). -/
def execMrExtend (r : Fin 8) (s : State) : Host.Outcome State Fault Refusal := .next (s.mrHost r)
/-- Bytes 0 to 479 of a report (R574). -/
def State.attReport (s : State) : List Byte :=
  let flags := b2n (!s.dualLane) + 2 * s.get F.SEC_SEAL_STAT_IMGCHG + 4 * s.get F.SEC_BOOT_LTRIAL + 8 * s.get F.SEC_BOOT_LFALLBACK +
    16 * s.get F.SEC_BOOT_IFALLBACK + 32 * b2n (s.word F.SEC_TAMPER_MESH.off % 32 != 0) + 64 * b2n (s.get F.SEC_LC_PENDING != 7)
  leBytes 4 0x5A415454 ++ leBytes 2 1 ++ leBytes 1 s.sec.lc ++ leBytes 1 flags ++ wordBytes (s.words (F.SEC_SERIAL_SERIAL 0).off 4) ++
    wordBytes (s.words (F.SEC_ATT_NONCE_NONCE 0).off 8) ++ dtimeLe s.tim.ctr.sec s.tim.ctr.ns ++ [0#8, 0#8] ++ leBytes 4 (s.get F.SEC_SEAL_CNT_COUNT) ++
    leBytes 4 (s.get F.SEC_SEAL_CSEQ_CSEQ) ++ leBytes 4 (s.get F.SEC_BOOTCNT_COUNT) ++ leBytes 2 (s.get F.SEC_SVN_LCUR) ++ leBytes 2 (s.get F.SEC_SVN_ICUR) ++
    wordBytes (s.words (F.SEC_MR_HASH 0 0).off 96) ++ leBytes 1 s.role ++ leBytes 1 (s.get F.RED_CFG_POS) ++ List.replicate 10 0#8
/-- SEC_ATT_CMD.GO (R573). -/
def State.attGo (s : State) : State :=
  if s.flag F.SEC_ATT_STAT_BUSY then s.put F.SEC_ERR_ATTBUSY 1
  else
    let s1 := (s.put F.SEC_ATT_STAT_DONE 0).put F.SEC_ATT_STAT_ERR 0
    if s.sec.lc = 0 ∨ s.sec.lc = 5 then (s1.put F.SEC_ATT_STAT_DONE 1).put F.SEC_ATT_STAT_ERR 1
    else (s1.put F.SEC_ATT_STAT_BUSY 1).modSec (fun x => { x with report := some s.attReport })
/-- ATTESTATION_GO (R573). -/
def execAttestationGo (s : State) : Host.Outcome State Fault Refusal := .next s.attGo
/-- ATTESTATION_COMPLETE (R574). -/
def execAttestationComplete (s : State) : Host.Outcome State Fault Refusal :=
  .next (match s.sec.report with
    | none => s
    | some b => (((s.setWords (F.SEC_ATT_REP_DATA 0).off (bytesWords 144 (b ++ padTo 96 (Config.attSign b)))).put F.SEC_ATT_STAT_BUSY 0).put F.SEC_ATT_STAT_DONE 1).modSec
        (fun x => { x with report := none }))

/-! ### Firmware update -/

/-- TYPE of the update. -/
def State.fwKind (s : State) : Nat := s.get F.SEC_FW_CTRL_TYPE
/-- The slot of a type that does not run (R575). -/
def State.fwSlot (s : State) (k : Nat) : Nat := 1 - (nth s.sec.running k none).getD (s.bootRec k).active
/-- The port owns the update (R577). -/
def State.fwMine (s : State) (port : Nat) : Bool := s.sec.fwOwned && s.get F.SEC_FW_STAT_OWNER == port
/-- A refusal for the state of the update. -/
def State.fwBad (s : State) : State := s.put F.SEC_ERR_FWSTATE 1
/-- A write of SEC_FW_CTRL (R575, R577). [DEDUCED: log 382] -/
def State.fwCtrl (s : State) (port type page : Nat) : State :=
  let st := s.get F.SEC_FW_STAT_STATE
  if s.sec.fwOwned && s.get F.SEC_FW_STAT_OWNER != port then s.put F.SEC_ERR_OWNER 1
  else if (type = 1 ∧ 15 < page) ∨ ((st = 2 ∨ st = 3 ∨ st = 5) ∧ type ≠ s.fwKind) then s.fwBad
  else
    let s1 := (((s.put F.SEC_FW_CTRL_TYPE type).put F.SEC_FW_CTRL_PAGE page).put F.SEC_FW_STAT_OWNER port).modSec (fun x => { x with fwOwned := true })
    if st = 0 ∨ st = 4 then (s1.put F.SEC_FW_STAT_STATE 1).put F.SEC_FW_STAT_RESULT 0 else s1
/-- FW_CTRL_WRITE (R575). -/
def execFwCtrlWrite (port : Fin 2) (island : Bool) (page : Fin 64) (s : State) : Host.Outcome State Fault Refusal := .next (s.fwCtrl port (b2n island) page)
/-- A write of a word of the window (R575, R577). In BAD the image is being mended: the update is WRITING again. [DEDUCED: log 382] -/
def State.fwWin (s : State) (port w v : Nat) : State :=
  if !s.fwMine port then s.put F.SEC_ERR_OWNER 1
  else if s.get F.SEC_FW_STAT_STATE ≠ 1 ∧ s.get F.SEC_FW_STAT_STATE ≠ 4 then s.fwBad
  else
    let k := 2 * s.fwKind + s.fwSlot s.fwKind
    let i := 16384 * s.get F.SEC_FW_CTRL_PAGE + w
    (s.when (s.get F.SEC_FW_STAT_STATE == 4) (fun s => (s.put F.SEC_FW_STAT_STATE 1).put F.SEC_FW_STAT_RESULT 0)).modSec (fun x => { x with images := modNth x.images k (fun img =>
      match img with
      | .factory => .patched [(i, v)]
      | .patched l => .patched (putKey i v l)
      | .words l => .words (if v = 0 then eraseKey i l else putKey i v l)) })
/-- FW_WINDOW_WRITE (R575). -/
def execFwWindowWrite (port : Fin 2) (w : Fin 16384) (val : Word) (s : State) : Host.Outcome State Fault Refusal := .next (s.fwWin port w val.toNat)
/-- CHECK (R575); in BAD it checks again. [DEDUCED: log 382] -/
def State.fwCheck (s : State) (port : Nat) : State :=
  if !s.fwMine port then s.put F.SEC_ERR_OWNER 1
  else if s.get F.SEC_FW_STAT_STATE ≠ 1 ∧ s.get F.SEC_FW_STAT_STATE ≠ 4 then s.fwBad
  else (s.put F.SEC_FW_STAT_STATE 2).when (s.get F.SEC_FW_STAT_STATE == 4) (·.put F.SEC_FW_STAT_RESULT 0)
/-- FW_CHECK (R575). -/
def execFwCheck (port : Fin 2) (s : State) : Host.Outcome State Fault Refusal := .next (s.fwCheck port)
/-- FW_CHECK_COMPLETE (R575). -/
def execFwCheckComplete (s : State) : Host.Outcome State Fault Refusal :=
  .next (if s.get F.SEC_FW_STAT_STATE = 2 then
    let r := (s.verify s.fwKind (s.fwSlot s.fwKind)).1
    (s.put F.SEC_FW_STAT_STATE (if r = 0 then 3 else 4)).put F.SEC_FW_STAT_RESULT r
  else s)
/-- The seal condition of an island image in APPROVED (R576). -/
def State.fwSeal (s : State) (port : Nat) : Bool := !(s.sec.lc == 3 && s.fwKind == 1) || s.sealOwner port
/-- ACTIVATE (R575, R576). -/
def State.fwActivate (s : State) (port : Nat) : State :=
  if !s.fwMine port then s.put F.SEC_ERR_OWNER 1
  else if s.get F.SEC_FW_STAT_STATE ≠ 3 ∨ s.fwSeal port = false then s.fwBad
  else (s.modBoot s.fwKind (fun b => { b with active := 1 - s.fwSlot s.fwKind, trial := true, trialRun := false })).put F.SEC_FW_STAT_STATE 5
/-- FW_ACTIVATE (R575). -/
def execFwActivate (port : Fin 2) (s : State) : Host.Outcome State Fault Refusal := .next (s.fwActivate port)
/-- CONFIRM (R575 to R577): the trial image runs; the slot becomes ACTIVE and the minimum security version rises. -/
def State.fwConfirm (s : State) (port : Nat) : State :=
  let k := s.fwKind
  let b := s.bootRec k
  if !s.fwMine port then s.put F.SEC_ERR_OWNER 1
  else if !(b.trial && b.trialRun && nth s.sec.running k none == some (1 - b.active)) || s.fwSeal port = false then s.fwBad
  else
    let svn := s.get (if k = 0 then F.SEC_SVN_LCUR else F.SEC_SVN_ICUR)
    let up := s.svnMin k < svn && 0 < nth s.sec.raises k 0
    let s1 := (s.modBoot k (fun b => { active := 1 - b.active, trial := false, trialRun := false })).put (if k = 0 then F.SEC_BOOT_LTRIAL else F.SEC_BOOT_ITRIAL) 0
    if up then (s1.put (if k = 0 then F.SEC_SVN_LMIN else F.SEC_SVN_IMIN) svn).modSec
      (fun x => { x with svnMin := setNth x.svnMin k svn, raises := modNth x.raises k (· - 1) })
    else s1
/-- FW_CONFIRM (R575). -/
def execFwConfirm (port : Fin 2) (s : State) : Host.Outcome State Fault Refusal := .next (s.fwConfirm port)
/-- The update returns to IDLE, without an owner (R577). -/
def State.fwIdle (s : State) : State := ((s.put F.SEC_FW_STAT_STATE 0).put F.SEC_FW_STAT_RESULT 0).modSec (fun x => { x with fwOwned := false })
/-- ABORT (R577). -/
def State.fwAbort (s : State) (port : Nat) : State := if s.fwMine port then s.fwIdle else s.put F.SEC_ERR_OWNER 1
/-- FW_ABORT (R577). -/
def execFwAbort (port : Fin 2) (s : State) : Host.Outcome State Fault Refusal := .next (s.fwAbort port)
/-- A write of SEC_FW_CMD (R577). -/
def State.fwCmd (s : State) (port v : Nat) : State :=
  if popcount 4 v = 0 then s
  else if 1 < popcount 4 v then s.fwBad
  else if bitOf v 0 then s.fwCheck port
  else if bitOf v 1 then s.fwActivate port
  else if bitOf v 2 then s.fwConfirm port
  else s.fwAbort port
/-- The owning port loses its link (R577). -/
def State.fwLinkLoss (s : State) (port : Nat) : State := s.when (s.fwMine port) State.fwIdle

/-! ### Life cycle -/

/-- A refusal of a life-cycle command (R579). -/
def State.lcRefuse (s : State) (reason : Nat) : State := (s.put F.SEC_LC_ERR_REFUSED 1).put F.SEC_LC_ERR_REASON reason
/-- The challenge of R581. -/
def State.challenge (s : State) : Nat := Config.random s.sec.chal
/-- A word of SEC_LC_CHAL. -/
def State.chalWord (s : State) (k : Nat) : Nat := s.challenge / 2 ^ (32 * k) % 2 ^ 32
/-- A transition SEC_LC_CMD may ask for (R579). -/
def lcAllowed (lc t : Nat) : Bool :=
  (lc == 1 && t == 2) || (lc == 2 && t == 3) || (lc == 3 && t == 2) || ((lc == 1 || lc == 2 || lc == 3) && t == 4) || (lc != 5 && t == 5)
/-- SEC_LC_CMD.GO (R578 to R581). -/
def State.lcCommand (s0 : State) (port t : Nat) : State :=
  let lc := s0.sec.lc
  let tokOk := Config.tokenOk (s0.words (F.SEC_SERIAL_SERIAL 0).off 4) s0.challenge s0.sec.token
  let s := if t = 4 then (s0.modSec (fun x => { x with chal := s0.freeCtr })).drawn else s0
  let valid := s.sld.active.isSome
  let trial := (s.bootRec 0).trial || (s.bootRec 1).trial
  if s.get F.SEC_LC_PENDING ≠ 7 ∨ s.sec.lcJob.isSome then s.lcRefuse 6
  else if lcAllowed lc t = false then s.lcRefuse 1
  else if s.sec.steps ≤ 2 ∧ t ≠ 4 ∧ t ≠ 5 then s.lcRefuse 5
  else if s.sec.steps = 0 then s.lcRefuse 5
  else if (lc = 2 ∧ t = 3 ∧ ¬(s.sealSt = 1 ∧ valid)) ∨ (lc = 3 ∧ t = 2 ∧ s.sealOwner port = false) ∨ (t = 5 ∧ valid ∧ s.sealOwner port = false) then s.lcRefuse 2
  else if lc = 2 ∧ t = 3 ∧ (s.flag F.SEC_SEAL_STAT_IMGCHG ∨ trial ∨ s.dualLane = false) then s.lcRefuse 3
  else if t = 4 ∧ tokOk = false then s.lcRefuse 4
  else s.modSec (fun x => { x with lcJob := some t })
/-- LIFECYCLE_COMMAND (R579). -/
def execLifecycleCommand (port : Fin 2) (target : Fin 8) (s : State) : Host.Outcome State Fault Refusal := .next (s.lcCommand port target)
/-- The command completes (R579, R580): OTP step, erasures, MR5, PENDING. -/
def State.lcDone (s : State) : State :=
  match s.sec.lcJob with
  | none => s
  | some t =>
    let s1 := s.modSec (fun x => { x with lcJob := none, lcNext := some t, steps := x.steps - 1, store := [] })
    let s2 := s1.put F.SEC_LC_STEPS s1.sec.steps
    let s3 := s2.when (t == 4 || t == 5) (fun s => ((((s.modSeal (fun x => { x with slots := [none, none], log := [] })).put F.SEC_SEAL_STAT_FAILS 0).put
      F.SEC_SEAL_STAT_BACKOFF 0).put F.SEC_SEAL_BOTIME_S 0).sealShow)
    let s4 := s3.when (t == 5) (fun s => ({ s with
      rcd := { s.rcd with slots := [], index := none, badmap := [] }
      gns := { s.gns with kept := Aiding.none_ } }).modSec
      (fun x => { x with images := List.replicate 4 (.words []), boot := List.replicate 2 { active := 0, trial := false, trialRun := false } }))
    (s4.mr5 2 t).put F.SEC_LC_PENDING t
/-- LIFECYCLE_COMMAND_COMPLETE (R580). -/
def execLifecycleCommandComplete (s : State) : Host.Outcome State Fault Refusal := .next s.lcDone

/-! ### Secure store and tamper -/

/-- The store is reachable (R582). -/
def State.ssOpen (s : State) : Bool := s.sec.lc == 2 || s.sec.lc == 3
/-- A refused access to the store. -/
def State.ssErr (s : State) : State := s.put F.SEC_ERR_SS 1
/-- Entry of the store that the window shows. -/
def State.ssEntry (s : State) : Option StoreEntry := find1 s.sec.store (s.get F.SEC_SS_IDX_ENTRY)
/-- A word of the window (R582). [DEDUCED: log 60] -/
def State.ssWord (s : State) (k : Nat) : Nat :=
  match s.ssEntry with
  | some e => if s.ssOpen && e.hostRead then nth e.words k 0 else 0
  | none => 0
/-- A window write goes to the staging copy (R582). -/
def State.ssStage (s : State) (k v : Nat) : State := if s.ssOpen then s.modSec (fun x => { x with stag := setNth x.stag k v }) else s.ssErr
/-- SEC_SS_CMD.WRITE (R582). -/
def State.ssWrite (s : State) : State :=
  if s.ssOpen then s.modSec (fun x => { x with store := putKey (s.get F.SEC_SS_IDX_ENTRY) { hostRead := s.flag F.SEC_SS_ATTR_HOSTREAD, words := x.stag } x.store }) else s.ssErr
/-- SEC_SS_CMD.ERASE (R582). -/
def State.ssErase (s : State) : State :=
  if s.ssOpen then s.modSec (fun x => { x with store := eraseKey (s.get F.SEC_SS_IDX_ENTRY) x.store }) else s.ssErr
/-- SECURE_STORE_WRITE (R582). -/
def execSecureStoreWrite (s : State) : Host.Outcome State Fault Refusal := .next s.ssWrite
/-- SECURE_STORE_ERASE (R582). -/
def execSecureStoreErase (s : State) : Host.Outcome State Fault Refusal := .next s.ssErase
/-- A tamper trip (R584): MESH, VOLT, TEMP or CLOCK; event 231. [DEDUCED: log 384] -/
def State.tamper (s : State) (k : Nat) : State :=
  if 5 ≤ s.get F.PWR_STATUS_STATE then s
  else
    let s1 := ((s.modSec (fun x => { x with store := [] })).setWord F.SEC_TAMPER_MESH.off (setBit (s.word F.SEC_TAMPER_MESH.off) k true)).inc F.SEC_TAMPER_WIPES
    (s1.mr5 1 (s1.word F.SEC_TAMPER_MESH.off % 32)).raise 231
/-- TAMPER_TRIP (R584). -/
def execTamperTrip (sensor : Fin 4) (s : State) : Host.Outcome State Fault Refusal := .next (s.tamper sensor)

end Sys2Proof.Machine
end

