-- ==== Sys2Proof/Machine/Hif.lean ====
section
/-! DEFINITION. Chapter 18: host ports, rings, receive streams, semaphores, MSI-X and the counter snapshot (R526 to R563). The
descriptors that reach registers are carried out in Rings. -/

namespace Sys2Proof.Machine

open Sys2Proof

/-! ### Ports and rings -/

/-- Changes what the host interface holds beside its registers. -/
def State.modHif (s : State) (f : HifState → HifState) : State := { s with hif := f s.hif }
/-- A port. -/
def State.hp (s : State) (p : Nat) : HostPort := nth s.hif.ports p HostPort.init
/-- Changes a port. -/
def State.modHp (s : State) (p : Nat) (f : HostPort → HostPort) : State := s.modHif (fun h => { h with ports := modNth h.ports p f })
/-- A ring pair. -/
def State.ring (s : State) (p q : Nat) : Ring := nth (s.hp p).rings q Ring.init
/-- Changes a ring pair. -/
def State.modRing (s : State) (p q : Nat) (f : Ring → Ring) : State := s.modHp p (fun h => { h with rings := modNth h.rings q f })
/-- Every ring pair of the module. -/
def allRings : List (Nat × Nat) := [0, 1].flatMap (fun p => (List.range 16).map (fun q => (p, q)))
/-- Entries of a ring (R529). -/
def State.ringSize (s : State) (p q : Nat) : Nat := 2 ^ s.get (F.HIF_Q_CFG_SIZE p q)
/-- Region base of a ring pair (R529). -/
def State.ringBase (s : State) (p q : Nat) : Nat := s.get (F.HIF_Q_BASE_LO_ADDR p q) + 2 ^ 32 * s.get (F.HIF_Q_BASE_HI_ADDR p q)
/-- A command ring (R530). -/
def State.cmdRing (s : State) (p q : Nat) : Bool := !s.flag (F.HIF_Q_CFG_TYPE p q)
/-- Command descriptors in flight across the module (R543). -/
def State.inFlight (s : State) : Nat :=
  (allRings.map (fun r => if s.cmdRing r.1 r.2 then (s.ring r.1 r.2).queue.length else 0)).sum
/-- The ring engine is in use: a command descriptor is in flight or waits to be fetched (R544). [DEDUCED: log 341] -/
def State.engineOn (s : State) : Bool :=
  allRings.any (fun r => s.cmdRing r.1 r.2 &&
    (!(s.ring r.1 r.2).queue.isEmpty ||
      (s.get (F.HIF_Q_STAT_STATE r.1 r.2) == 1 && (s.ring r.1 r.2).sqTail != s.get (F.HIF_Q_STAT_SQHEAD r.1 r.2))))
/-- INFLIGHT and the time the engine is in use follow the rings (R544). [DEDUCED: log 354] -/
def State.ringShow (s : State) : State :=
  let s1 := s.put F.HIF_STATUS_INFLIGHT s.inFlight
  match s1.hif.busyFrom, s1.engineOn with
  | none, true => s1.modHif (fun h => { h with busyFrom := some s.now })
  | some t, false => s1.modHif (fun h => { h with busyFrom := none, busyNs := h.busyNs + (s.now - t) })
  | _, _ => s1
/-- HIF_LOAD at a major tick (R544). -/
def State.hifLoad (s : State) : State :=
  let run := s.hif.busyFrom.elim 0 (fun t => s.now - t)
  let v := min 1000 (divRne ((s.hif.busyNs + run : Nat) * 1000) 10000000).toNat
  ((s.put F.HIF_LOAD_LAST v).putMax F.HIF_LOAD_MAX v).modHif (fun h => { h with busyNs := 0, busyFrom := h.busyFrom.map (fun _ => s.now) })
/-- A write to host memory; the newest 64 are kept. [DESIGN CHOICE: log 349] -/
def State.hostMem (s : State) (p addr : Nat) (b : List Byte) : State := s.modHp p (fun h => { h with out := ((addr, b) :: h.out).take 64 })
/-- The link of a port is up (R528). -/
def State.linkUp (s : State) (p : Nat) : Bool := s.flag (F.HIF_P_STATUS_LINK p)

/-! ### MSI-X -/

/-- Vector of an event (R554). -/
def State.evVec (s : State) (p e : Nat) : Nat := s.get ⟨0xF20100 + 0x400 * p + 4 * (e / 4), 8 * (e % 4) + 4, 8 * (e % 4)⟩
/-- The asserted vectors of a port (R555). -/
def State.vectors (s : State) (p : Nat) : Nat :=
  let ev := (List.range 256).foldl (fun a e =>
    if s.bit (F.HIF_EV_PEND_PEND p (e / 32)) (e % 32) && s.bit (F.HIF_EV_EN_EN p (e / 32)) (e % 32) then Nat.lor a (2 ^ s.evVec p e) else a) 0
  (List.range 16).foldl (fun a q => if (s.ring p q).irq then Nat.lor a (2 ^ s.get (F.HIF_Q_CFG_VEC p q)) else a) ev
/-- A vector is asserted. -/
def State.asserted (s : State) (p v : Nat) : Bool := bitOf (s.vectors p) v
/-- After a change that can de-assert vectors: only those still asserted count as told. -/
def State.msixSettle (s : State) (p : Nat) : State := s.modHp p (fun h => { h with told := Nat.land h.told (s.vectors p) })
/-- After a write of a PEND register, a CQHEAD doorbell or the link's coming up: each vector still asserted sends anew (R556). [DEDUCED: log 347] -/
def State.msixAgain (s : State) (p : Nat) : State := s.modHp p (fun h => { h with told := 0 })
/-- MOD of a port, µs (R30, R556). -/
def State.modUs (s : State) (p : Nat) : Nat := if s.expert 15 then s.get (F.HIF_P_MOD_MOD p) else 20
/-- A vector is masked, alone or with the function. -/
def State.masked (s : State) (p v : Nat) : Bool := (s.hp p).fmask || ((s.hp p).table[v]?).elim true (·.masked)
/-- The message of a vector leaves. -/
def State.msixSend (s : State) (p v : Nat) : State :=
  let e := nth (s.hp p).table v { addr := 0, data := 0, masked := true }
  (s.hostMem p e.addr (leBytes 4 e.data)).modHp p (fun h => { h with
    sentAt := setNth h.sentAt v (some s.now), sent := h.sent + 1, due := setBit h.due v false, pba := setBit h.pba v false })
/-- An asserted vector's message is due: it is noted while masked, deferred inside the MOD interval, else sent (R556). -/
def State.msixFire (s : State) (p v : Nat) : State :=
  if s.masked p v then s.modHp p (fun h => { h with pba := setBit h.pba v true, due := setBit h.due v false })
  else
    match nth (s.hp p).sentAt v none with
    | some t => if s.now < t + 1000 * s.modUs p then s.modHp p (fun h => { h with due := setBit h.due v true }) else s.msixSend p v
    | none => s.msixSend p v
/-- The table entry of a vector and the function mask, as the host has set them. -/
def State.msixTable (s : State) (p v addr data : Nat) (masked fmask : Bool) : State :=
  let was := s.masked p v
  let s1 := s.modHp p (fun h => { h with table := setNth h.table v { addr := addr, data := data, masked := masked }, fmask := fmask })
  s1.when (was && !s1.masked p v) (·.modHp p (fun h => { h with told := setBit h.told v false, pba := setBit h.pba v false }))
/-- MSIX_MESSAGE (R556): vector v of port p, with its table entry and the masks as they stand. -/
def execMsixMessage (p : Fin 2) (v : Fin 32) (addr : BitVec 64) (data : Word) (masked fmask : Bool) (s : State) : Host.Outcome State Fault Refusal :=
  let s1 := s.msixTable p v addr.toNat data.toNat masked fmask
  .next (s1.when (s1.linkUp p && s1.asserted p v && !bitOf (s1.hp p).told v)
    (fun s => (s.modHp p (fun h => { h with told := setBit h.told v true })).msixFire p v))
/-- MSIX_MODERATION_EXPIRY (R556): the counter runs to the end of the interval, not past the next tick. -/
def execMsixModerationExpiry (p : Fin 2) (v : Fin 32) (s : State) : Host.Outcome State Fault Refusal :=
  match bitOf (s.hp p).due v, nth (s.hp p).sentAt v none with
  | true, some t =>
    let e := t + 1000 * s.modUs p
    let s1 := s.runInside e
    .next (if s1.now < e then s1
      else (s1.modHp p (fun h => { h with due := setBit h.due v false })).when (s1.linkUp p && s1.asserted p v) (·.msixFire p v))
  | _, _ => .next s

/-! ### Enabling and disabling a ring -/

/-- A write that sets EN is to be refused (R531). -/
def State.ringBad (s : State) (p q v : Nat) : Bool :=
  s.ringBase p q % 64 != 0 || bitsOf v 7 4 < 4 || 12 < bitsOf v 7 4 ||
  (bitOf v 1 && (List.range 16).any (fun r => r != q && s.flag (F.HIF_Q_CFG_EN p r) && !s.cmdRing p r && s.get (F.HIF_Q_CFG_STREAM p r) == bitsOf v 17 16))
/-- The writable bits of CFG take a value. -/
def State.ringCfg (s : State) (p q v : Nat) : State := s.setWord (F.HIF_Q_CFG_EN p q).off (Nat.land v 0x31FFF)
/-- EN is set: the indices restart (R531). -/
def State.ringStart (s : State) (p q v : Nat) : State :=
  let s1 := (s.ringCfg p q v).modRing p q (fun _ => Ring.init)
  (((s1.put (F.HIF_Q_STAT_SQHEAD p q) 0).put (F.HIF_Q_STAT_CQTAIL p q) 0).put (F.HIF_Q_STAT_PHASE p q) 1).put (F.HIF_Q_STAT_STATE p q) 1
/-- EN is cleared (R532). -/
def State.ringStop (s : State) (p q v : Nat) : State :=
  if s.cmdRing p q then (s.put (F.HIF_Q_STAT_STATE p q) 2).ringCfg p q v
  else ((s.put (F.HIF_Q_STAT_STATE p q) 0).modRing p q (fun r => { r with queue := [] })).ringCfg p q v
/-- A write of CFG (R531, R532). While a ring is STOPPING with descriptors in flight, a write that sets EN is discarded. [DEDUCED: log 340] -/
def State.ringCfgWrite (s : State) (p q v : Nat) : State :=
  let s1 :=
    if s.flag (F.HIF_Q_CFG_EN p q) then (if bitOf v 0 then s else s.ringStop p q v)
    else if !bitOf v 0 then s.ringCfg p q v
    else if s.ringBad p q v then s.put F.HIF_ERR_CFG 1
    else if s.get (F.HIF_Q_STAT_STATE p q) = 2 ∧ !(s.ring p q).queue.isEmpty then s
    else s.ringStart p q v
  s1.ringShow.msixSettle p
/-- A write of BASE is discarded while EN = 1 (R531). -/
def State.ringBaseWrite (s : State) (p q hi v : Nat) : State :=
  if s.flag (F.HIF_Q_CFG_EN p q) then s else s.setWord (0xF01100 + 0x1000 * p + 0x10 * q + 4 * hi) v
/-- RING_ENABLE (R531): a write of CFG with EN = 1. -/
def execRingEnable (p : Fin 2) (q : Fin 16) (cfg : Word) (s : State) : Host.Outcome State Fault Refusal :=
  .next (s.ringCfgWrite p q (setBit cfg.toNat 0 true))
/-- RING_DISABLE (R532): a write of CFG with EN = 0. -/
def execRingDisable (p : Fin 2) (q : Fin 16) (cfg : Word) (s : State) : Host.Outcome State Fault Refusal :=
  .next (s.ringCfgWrite p q (setBit cfg.toNat 0 false))
/-- RING_STOPPED (R532). -/
def execRingStopped (p : Fin 2) (q : Fin 16) (s : State) : Host.Outcome State Fault Refusal :=
  .next (s.when (s.get (F.HIF_Q_STAT_STATE p q) == 2 && (s.ring p q).queue.isEmpty) (·.put (F.HIF_Q_STAT_STATE p q) 0))

/-! ### Doorbells -/

/-- A ring passes to ERROR (R540, R542). -/
def State.ringError (s : State) (p q : Nat) : State := s.when (s.flag (F.HIF_Q_CFG_EN p q)) (·.put (F.HIF_Q_STAT_STATE p q) 3)
/-- A doorbell error (R540). -/
def State.bellError (s : State) (p q : Nat) : State := (((s.put F.HIF_ERR_DBELL 1).raiseMajor 232).ringError p q).ringShow
/-- SQTAIL_DOORBELL (R536, R537). [DEDUCED: log 355] -/
def State.sqBell (s : State) (p q v : Nat) : State :=
  if !s.flag F.HIF_STATUS_READY then s
  else if !s.flag (F.HIF_Q_CFG_EN p q) || s.ringSize p q ≤ v then s.bellError p q
  else
    (s.modRing p q (fun r => { r with
      sqTail := v, bells := if v = r.sqTail then r.bells else r.bells ++ [(v, s.now)] })).ringShow
/-- SQTAIL_DOORBELL. -/
def execSqtailDoorbell (p : Fin 2) (q : Fin 16) (v : Word) (s : State) : Host.Outcome State Fault Refusal := .next (s.sqBell p q v.toNat)
/-- A CQHEAD doorbell (R537, R540, R557): an index equal to the completion tail says that everything has been read. [DEDUCED: log 342] -/
def State.cqBell (s : State) (p q v : Nat) : State :=
  let r := s.ring p q
  let n := s.ringSize p q
  let tail := s.get (F.HIF_Q_STAT_CQTAIL p q)
  let adv := (v + n - r.cqHead) % n
  if !s.flag F.HIF_STATUS_READY then s
  else if !s.flag (F.HIF_Q_CFG_EN p q) || n ≤ v || (v != tail && r.unread < adv) then s.bellError p q
  else
    (s.modRing p q (fun r => { r with
      cqHead := v, unread := if v = tail then 0 else r.unread - adv, irq := r.irq && v != tail })).msixAgain p
/-- CQHEAD_DOORBELL. -/
def execCqheadDoorbell (p : Fin 2) (q : Fin 16) (v : Word) (s : State) : Host.Outcome State Fault Refusal := .next (s.cqBell p q v.toNat)
/-- SNAP_DOORBELL (R561). -/
def execSnapDoorbell (_p : Fin 2) (s : State) : Host.Outcome State Fault Refusal :=
  .next (s.when (s.flag F.HIF_STATUS_READY) (·.modHif (fun h => { h with snapReq := some (h.snapReq.getD s.now) })))

/-- A read of the doorbell page (R536): the value a doorbell last accepted; SNAP and the rest read 0. [DESIGN CHOICE: log 158] -/
def State.bellRead (s : State) (p off : Nat) : State :=
  let r := s.ring p (off / 8)
  { s with hostData := if off < 0x80 then (if off % 8 = 0 then r.sqTail else if off % 8 = 4 then r.cqHead else 0) else 0 }

/-! ### Descriptors -/

/-- A ring has a descriptor the engine may fetch (R537, R540, R543). -/
def State.canFetch (s : State) (p q : Nat) : Bool :=
  let r := s.ring p q
  s.get (F.HIF_Q_STAT_STATE p q) == 1 && r.sqTail != s.get (F.HIF_Q_STAT_SQHEAD p q) && r.unread + r.queue.length < s.ringSize p q &&
  (!s.cmdRing p q || (r.queue.length < 8 && s.inFlight < 128))
/-- The next ring of a port and priority, after the one served last (R543). -/
def State.nextRing (s : State) (p prio : Nat) : Option Nat :=
  let last := nth s.hif.lastRing (2 * p + prio) 15
  ((List.range 16).map (fun k => (last + 1 + k) % 16)).find? (fun q => s.get (F.HIF_Q_CFG_PRIO p q) == prio && s.canFetch p q)
/-- The ring the engine serves next (R543): priority, port, ring. [DESIGN CHOICE: log 351] -/
def State.nextFetch (s : State) : Option (Nat × Nat × Nat) :=
  [0, 1].findSome? (fun prio =>
    let p0 := 1 - nth s.hif.lastPort prio 1
    [p0, 1 - p0].findSome? (fun p => (s.nextRing p prio).map (fun q => (prio, p, q))))
/-- The ring that may take an operation (R534): a receive ring takes RX_BUF only. -/
def opcFits (cmd : Bool) (opc : Nat) : Bool := if cmd then opc ≤ 6 else opc == 0x10
/-- RESULT0 and RESULT1 where no rule gives them: two free values. [DESIGN CHOICE: log 346] -/
def State.freeRes (s : State) : State × Nat × Nat := (s.drawn.drawn, s.free % 2 ^ 32, s.drawn.free % 2 ^ 32)
/-- A descriptor is fetched (R537, R538): one whose operation its ring does not take has BADOPC and no effect. [DEDUCED: log 343] -/
def State.fetched (s : State) (p q : Nat) (raw : List Byte) : State :=
  let head := (s.get (F.HIF_Q_STAT_SQHEAD p q) + 1) % s.ringSize p q
  let opc := leAt raw 0 1
  let bad := !opcFits (s.cmdRing p q) opc
  let fr := s.freeRes
  let r := s.ring p q
  let d : Desc := { opc := opc, flags := leAt raw 1 1, tag := leAt raw 2 2, raw := padTo 64 raw, head := head
                    bell := (r.bells.head?).elim s.now Prod.snd, started := bad, done := if bad then some (1, fr.2.1, fr.2.2) else none }
  let bells := match r.bells with
    | [] => []
    | b :: t => if b.1 = head then t else b :: t
  (((if bad then fr.1 else s).modRing p q (fun r => { r with queue := r.queue ++ [d], bells := bells })).put (F.HIF_Q_STAT_SQHEAD p q) head).ringShow
/-- DESCRIPTOR_FETCH (R537, R543): the engine fetches from the ring whose turn it is; a failed fetch puts the ring in ERROR (R542). -/
def execDescriptorFetch (ok : Bool) (bytes : List Byte) (s : State) : Host.Outcome State Fault Refusal :=
  match s.nextFetch with
  | none => .next s
  | some (prio, p, q) =>
    let s1 := s.modHif (fun h => { h with lastPort := setNth h.lastPort prio p, lastRing := setNth h.lastRing (2 * p + prio) q })
    .next (if ok then s1.fetched p q bytes else ((s1.ringError p q).raiseMajor 238).ringShow)

/-- The descriptor of a ring that may start next, and its place (R538): the oldest not started; behind a FENCE only at the head. -/
def State.startable (s : State) (p q : Nat) : Option (Nat × Desc) :=
  let l := (s.ring p q).queue
  match (List.range l.length).find? (fun i => (l[i]?).elim false (fun d => !d.started)) with
  | none => none
  | some i => match l[i]? with
    | some d => if bitOf d.flags 1 && i != 0 then none else some (i, d)
    | none => none
/-- Changes a descriptor of a ring. -/
def State.modDesc (s : State) (p q i : Nat) (f : Desc → Desc) : State := s.modRing p q (fun r => { r with queue := modNth r.queue i f })
/-- A descriptor is carried out: STATUS, RESULT0, RESULT1. -/
def State.descDone (s : State) (p q i st r0 r1 : Nat) : State := s.modDesc p q i (fun d => { d with started := true, done := some (st, r0, r1) })
/-- The next descriptor of a ring, of a given operation, starts; nothing happens where the next is another or none may start. -/
def State.startOp (s : State) (p q opc : Nat) (f : State → Nat → Desc → State) : State :=
  match s.startable p q with
  | some (i, d) => if d.opc = opc then f s i d else s
  | none => s
/-- ADDR of a descriptor. -/
def Desc.addr (d : Desc) : Nat := leAt d.raw 8 8
/-- BADPARAM (R534): nothing was done; a result that counts what was done is 0, another is free. -/
def State.badParam (s : State) (p q i opc : Nat) : State :=
  let fr := s.freeRes
  if opc = 3 then fr.1.descDone p q i 2 fr.2.1 fr.2.2
  else if opc = 6 ∨ opc = 0x10 then fr.1.descDone p q i 2 0 fr.2.2
  else s.descDone p q i 2 0 0

/-- NOP (R534). -/
def execNop (p : Fin 2) (q : Fin 16) (s : State) : Host.Outcome State Fault Refusal := .next (s.startOp p q 0 (fun s i _ => s.descDone p q i 0 0 0))

/-- The 3,384 bytes of a snapshot bank. -/
def State.bankBytes (s : State) (b : Nat) : List Byte := wordBytes (s.words (F.HIF_SNAP_WORD b 0).off 846)
/-- A bank is copied to host memory (R562). -/
def State.snapCopy (s : State) (p q i : Nat) (d : Desc) : State :=
  let b := s.bankBytes (s.get F.HIF_SNAP_BANK_BANK)
  (s.hostMem p d.addr b).descDone p q i 0 (leAt b 0 4) (leAt b 4 4)
/-- SNAP_COPY (R562): with WAIT = 1 it waits for the first bank completed after its start. -/
def execSnapCopy (p : Fin 2) (q : Fin 16) (s : State) : Host.Outcome State Fault Refusal :=
  .next (s.startOp p q 3 (fun s i d =>
    if 1 < leAt d.raw 16 4 then s.badParam p q i 3
    else if leAt d.raw 16 4 = 1 then s.modDesc p q i (fun d => { d with started := true })
    else s.snapCopy p q i d))

/-- The 256 bytes of a recorder slot; one never written reads erased (log 21). -/
def State.slotBytes (s : State) (k : Nat) : List Byte := (find1 s.rcd.slots k).getD (List.replicate 256 0#8)
/-- A slot's CHK holds. -/
def slotOk (b : List Byte) : Bool := leAt b 252 4 == crc32c (b.take 252)
/-- REC_READ (R522). -/
def execRecRead (p : Fin 2) (q : Fin 16) (s : State) : Host.Outcome State Fault Refusal :=
  .next (s.startOp p q 4 (fun s i d =>
    let start := leAt d.raw 16 4
    let n := leAt d.raw 20 4
    if recSlots ≤ start ∨ n = 0 ∨ 4096 < n then s.badParam p q i 4
    else
      let ks := (List.range n).map (fun k => (start + k) % recSlots)
      let bad := (ks.filter (fun k => !slotOk (s.slotBytes k))).length
      let marked := (ks.filter s.slotBad).length
      (s.hostMem p d.addr (ks.flatMap s.slotBytes)).descDone p q i 0 n (bad + 65536 * marked)))

/-- RTCM_SUBMIT (R535): the frames of a host buffer are checked and used; `bytes` is what host memory holds at ADDR. -/
def execRtcmSubmit (p : Fin 2) (q : Fin 16) (bytes : List Byte) (s : State) : Host.Outcome State Fault Refusal :=
  .next (s.startOp p q 5 (fun s i d =>
    let n := leAt d.raw 16 4
    if n < 6 ∨ 4096 < n then s.badParam p q i 5
    else
      let r := s.rtcmBuffer n (padTo n bytes)
      r.1.descDone p q i 0 r.2.1 r.2.2))

/-- ETH_TX (R535): a host frame is queued in class 3 on the active port of its network. -/
def execEthTx (p : Fin 2) (q : Fin 16) (bytes : List Byte) (s : State) : Host.Outcome State Fault Refusal :=
  .next (s.startOp p q 6 (fun s i d =>
    let n := leAt d.raw 16 4
    let net := leAt d.raw 20 1
    if n < 60 ∨ 1514 < n ∨ 1 < net then s.badParam p q i 6
    else
      match (s.ethActive net).filter (fun e => s.flag (F.ETH_STATUS_LINK e)) with
      | some e => (s.ethQueue e 3 (padTo n bytes)).descDone p q i 0 n e
      | none => let fr := s.freeRes
                fr.1.descDone p q i 5 0 fr.2.2))

/-! ### Receive streams -/

/-- Largest item of a stream with its header (R546). -/
def streamMax (k : Nat) : Nat := nth [1534, 1534, 6224, 48] k 1534
/-- RX_BUF (R547): a buffer is posted; one below the largest item has BADPARAM at once. -/
def execRxBuf (p : Fin 2) (q : Fin 16) (s : State) : Host.Outcome State Fault Refusal :=
  .next (s.startOp p q 0x10 (fun s i d =>
    if leAt d.raw 16 4 < streamMax (s.get (F.HIF_Q_CFG_STREAM p q)) then s.badParam p q i 0x10
    else s.modDesc p q i (fun d => { d with started := true })))
/-- The oldest posted buffer of a ring that is not filled. -/
def State.freeBuf (s : State) (p q : Nat) : Option (Nat × Desc) :=
  let l := (s.ring p q).queue
  (List.range l.length).findSome? (fun i => match l[i]? with
    | some d => if d.started && d.done.isNone then some (i, d) else none
    | none => none)
/-- An item reaches one ring: the oldest buffer takes header and item, or the item is dropped (R547). -/
def State.rxPut (s : State) (p q : Nat) (x : RxItem) : State :=
  match s.freeBuf p q with
  | none => (s.inc ⟨(F.HIF_P_RXDROP_S0 p).off, 8 * x.stream + 7, 8 * x.stream⟩).raiseMajor 236
  | some (i, d) =>
    let seq := ((s.ring p q).seq + 1) % 65536
    let head := leBytes 8 x.stamp ++ leBytes 4 x.bytes.length ++ leBytes 1 x.stream ++ leBytes 1 x.port ++ leBytes 2 seq
    ((s.hostMem p d.addr (head ++ x.bytes)).modRing p q (fun r => { r with seq := seq })).descDone p q i 0 (16 + x.bytes.length) seq
/-- An item reaches every port with an enabled receive ring of its stream (R546); event 32 for an epoch record written to a host. -/
def State.rxDeliver (s : State) (x : RxItem) : State :=
  let to1 := allRings.filter (fun r => s.flag (F.HIF_Q_CFG_EN r.1 r.2) && !s.cmdRing r.1 r.2 && s.get (F.HIF_Q_CFG_STREAM r.1 r.2) == x.stream)
  let hit := x.stream == 2 && to1.any (fun r => (s.freeBuf r.1 r.2).isSome)
  (s.each to1 (fun s r => s.rxPut r.1 r.2 x)).when hit (·.raise 32)
/-- RX_ITEM_DELIVERY (R546, R547): the oldest item. -/
def execRxItemDelivery (s : State) : Host.Outcome State Fault Refusal :=
  match s.hif.items with
  | [] => .next s
  | x :: t => .next ((s.modHif (fun h => { h with items := t })).rxDeliver x)

/-! ### Completions -/

/-- The descriptor whose completion is written next, and its place: the head of a command ring once carried out (R538); on a
receive ring the oldest that is complete (R547). -/
def State.nextDone (s : State) (p q : Nat) : Option (Nat × Desc) :=
  let l := (s.ring p q).queue
  (List.range (if s.cmdRing p q then min 1 l.length else l.length)).findSome? (fun i => match l[i]? with
    | some d => if d.done.isSome then some (i, d) else none
    | none => none)
/-- HIF_LAT after the completion of a NOP, REG_WRITE or REG_READ (R544). -/
def State.latency (s : State) (d : Desc) : State :=
  if 2 < d.opc then s
  else
    let v := min 65535 (divRne (s.now - d.bell : Nat) 100).toNat
    (s.put F.HIF_LAT_LAST v).putMax F.HIF_LAT_MAX v
/-- The 16 bytes of a completion (R541). -/
def compBytes (d : Desc) (p q phase : Nat) : List Byte :=
  let r := d.done.getD (0, 0, 0)
  leBytes 2 d.tag ++ leBytes 2 d.head ++ leBytes 1 r.1 ++ leBytes 1 d.opc ++ leBytes 1 phase ++ leBytes 1 (q + 16 * p) ++ leBytes 4 r.2.1 ++ leBytes 4 r.2.2
/-- A completion is written at the completion tail (R537, R541, R557). [DEDUCED: log 345] -/
def State.complete (s : State) (p q i : Nat) (d : Desc) : State :=
  let tail := s.get (F.HIF_Q_STAT_CQTAIL p q)
  let ph := s.get (F.HIF_Q_STAT_PHASE p q)
  let n := s.ringSize p q
  let irq := s.flag (F.HIF_Q_CFG_IRQEN p q) || (s.cmdRing p q && bitOf d.flags 0)
  let s1 := s.hostMem p (s.ringBase p q + 64 * n + 16 * tail) (compBytes d p q ph)
  let s2 := s1.modRing p q (fun r => { r with queue := r.queue.eraseIdx i, unread := r.unread + 1, irq := r.irq || irq })
  let s3 := (s2.put (F.HIF_Q_STAT_CQTAIL p q) ((tail + 1) % n)).put (F.HIF_Q_STAT_PHASE p q) (if tail + 1 = n then 1 - ph else ph)
  (s3.when (s.cmdRing p q) (·.latency d)).ringShow
/-- COMPLETION_WRITE (R537, R542): a failed write puts the ring in ERROR and the completion is lost. -/
def execCompletionWrite (p : Fin 2) (q : Fin 16) (ok : Bool) (s : State) : Host.Outcome State Fault Refusal :=
  match s.nextDone p q with
  | none => .next s
  | some (i, d) =>
    .next (if ok then s.complete p q i d
      else (((s.modRing p q (fun r => { r with queue := r.queue.eraseIdx i })).ringError p q).raiseMajor 238).ringShow)

/-! ### Semaphores -/

/-- A read of HIF_SEM_n by a port (R548): the state before; a free semaphore is taken. -/
def State.semRead (s : State) (p n : Nat) : State :=
  let s1 := { s with hostData := s.word (F.HIF_SEM_TAKEN n).off }
  if s.flag (F.HIF_SEM_TAKEN n) then s1 else (s1.put (F.HIF_SEM_TAKEN n) 1).put (F.HIF_SEM_OWNER n) p
/-- A semaphore is freed. -/
def State.semFree (s : State) (n : Nat) : State := (s.put (F.HIF_SEM_TAKEN n) 0).put (F.HIF_SEM_OWNER n) 0
/-- A write of HIF_SEM_n by a port (R549). -/
def State.semWrite (s : State) (p n v : Nat) : State :=
  if !s.flag (F.HIF_SEM_TAKEN n) then s
  else if s.get (F.HIF_SEM_OWNER n) ≠ p then s.put F.HIF_ERR_SEMOWN 1
  else if bitOf v 0 then s
  else s.semFree n
/-- HIF_SEM_READ (R548). -/
def execHifSemRead (p : Fin 2) (n : Fin 64) (s : State) : Host.Outcome State Fault Refusal := .next (s.semRead p n)
/-- HIF_SEM_WRITE (R549). -/
def execHifSemWrite (p : Fin 2) (n : Fin 64) (v : Word) (s : State) : Host.Outcome State Fault Refusal := .next (s.semWrite p n v.toNat)
/-- Semaphores held by a port. -/
def State.semHeld (s : State) (p : Nat) : List Nat :=
  (List.range 64).filter (fun n => s.flag (F.HIF_SEM_TAKEN n) && s.get (F.HIF_SEM_OWNER n) == p)
/-- Words of HIF that follow other state: SEMSTAT, SEMOWN (R551), ASSERT (R555) and the MOD of basic level (R30). -/
def State.hifDerived (s : State) (off : Nat) : Option Nat :=
  let sem (f : Nat → Fld) (k : Nat) : Nat := maskOf ((List.range 32).map (fun j => s.flag (f (32 * k + j))))
  if off = 0xF10100 then some (sem F.HIF_SEM_TAKEN 0)
  else if off = 0xF10104 then some (sem F.HIF_SEM_TAKEN 1)
  else if off = 0xF10108 then some (sem F.HIF_SEM_OWNER 0)
  else if off = 0xF1010C then some (sem F.HIF_SEM_OWNER 1)
  else if off = 0xF20040 then some (s.vectors 0)
  else if off = 0xF20440 then some (s.vectors 1)
  else if off = 0xF01004 then some (s.modUs 0)
  else if off = 0xF02004 then some (s.modUs 1)
  else none

/-! ### Links -/

/-- Bit `k` of PWR_READY is set (R616). -/
def State.readyBit (s : State) (k : Nat) (b : Bool) : State := s.putBit F.PWR_READY_READY k b
/-- LINK of a port, in both places (R528). -/
def State.putLink (s : State) (p : Nat) (b : Bool) : State :=
  let s1 := (s.putB (F.HIF_P_STATUS_LINK p) b).putB (if p = 0 then F.HIF_STATUS_LINK0 else F.HIF_STATUS_LINK1) b
  s1.readyBit 3 (s1.flag F.HIF_STATUS_LINK0 || s1.flag F.HIF_STATUS_LINK1)
/-- The link of a port comes up or trains anew (R526, R528, R552). -/
def State.hostUp (s : State) (p width speed : Nat) : State :=
  let s1 := (s.put (F.HIF_P_STATUS_WIDTH p) width).put (F.HIF_P_STATUS_SPEED p) speed
  if s.linkUp p then s1 else (((s1.putLink p true).put F.HIF_STATUS_READY 1).msixAgain p).raise 234
/-- HOST_LINK_UP (R528): `wide` says ×2; speed 0, 1, 2 stands for 2.5, 5, 8 GT/s. -/
def execHostLinkUp (p : Fin 2) (wide : Bool) (speed : Fin 3) (s : State) : Host.Outcome State Fault Refusal :=
  .next (s.hostUp p (1 + b2n wide) (1 + speed))
/-- Register words of a port that a hot reset or a function-level reset returns (R552). -/
def portWords (p : Nat) : List Nat :=
  (List.range 67).map (fun k => 0xF01000 + 0x1000 * p + 4 * k) ++ (List.range 64).map (fun k => 0xF01100 + 0x1000 * p + 4 * k) ++
  (List.range 128).map (fun k => 0xF20000 + 0x400 * p + 4 * k)
/-- The port's registers and its MSI-X table return to their after-reset values. -/
def State.portReset (s : State) (p : Nat) : State :=
  (s.each (portWords p) (fun s o => s.setWord o (resetNat o))).modHp p (fun h => { HostPort.init with out := h.out, sent := h.sent })
/-- The rings of a port are cleared: descriptors are discarded and buffers returned unused (R552). -/
def State.ringsClear (s : State) (p : Nat) : State :=
  s.each (List.range 16) (fun s q => ((s.put (F.HIF_Q_CFG_EN p q) 0).put (F.HIF_Q_STAT_STATE p q) 0).modRing p q (fun r => { r with queue := [], bells := [] }))
/-- A port loses its link (R552): 0 DL_Down, 1 hot reset, 2 function-level reset. [DEDUCED: log 352] -/
def State.hostDown (s : State) (p kind : Nat) : State :=
  let up := s.linkUp p
  let held := s.semHeld p
  let s1 := (((s.ringsClear p).each held State.semFree).when up (fun s => (s.putLink p false).inc (F.HIF_P_STATUS_DOWNS p))).ringShow
  let s2 := s1.when (kind != 0) (·.portReset p)
  let s3 := ((s2.canLinkLoss p).sealLinkLoss p).fwLinkLoss p
  if up then (s3.when (!held.isEmpty) (·.raise 235)).raise 234 else if kind = 0 then s else s3.when (!held.isEmpty) (·.raise 235)
/-- HOST_LINK_LOSS (R552). -/
def execHostLinkLoss (p : Fin 2) (kind : Fin 3) (s : State) : Host.Outcome State Fault Refusal := .next (s.hostDown p kind)

/-! ### Counter snapshot -/

/-- The 420 counter units in the order of R558. -/
def State.counters (s : State) : List Nat :=
  let wide (lo hi : Fld) : Nat := s.get lo + 2 ^ 32 * s.get hi
  (List.range 9).map (fun k => s.get (F.FRM_STAGE_TOTAL k)) ++
  [wide F.FRM_MAJCNT_LO_COUNT F.FRM_MAJCNT_HI_COUNT, s.get F.FRM_REANCHOR_COUNT] ++
  (List.range 16).map (fun j => s.get (F.ETH_CNT_COUNT (j / 4) (j % 4))) ++
  (List.range 4).map (fun p => s.get (F.ETH_STATUS_LINKDOWN p)) ++
  [s.get F.TIM_CAPSTAT_DROPPED, s.get F.ETH_450DROP_CKSUM, s.get F.ETH_450DROP_FORMAT, s.get F.GNS_EPSEQ_SEQ, s.get F.GNS_ACQSTAT_SEARCHES,
    s.get F.GNS_RTCMCNT_ACC, s.get F.GNS_RTCMCNT_REJ, s.get F.GNS_PPSSEQ_SEQ] ++
  (List.range 12).flatMap (fun u => [s.get (F.SIG_UART_CNT_OK u), s.get (F.SIG_UART_CNT_ERR u)]) ++
  (List.range 32).flatMap (fun n => [s.get (F.ALN_ST_CNT0_MISS n), s.get (F.ALN_ST_CNT0_ORPHAN n), s.get (F.ALN_ST_CNT1_REASSOC n), s.get (F.ALN_ST_CNT1_LATE n),
    s.get (F.ALN_ST_CNT2_INCOMPLETE n), s.get (F.ALN_ST_CNT2_NOATT n), s.get (F.ALN_ST_DELIV_COUNT n)]) ++
  (List.range 32).map (fun j => s.get (F.CAN_CNT_COUNT (j / 4) (j % 4))) ++
  (List.range 8).map (fun n => s.get (F.CAN_ACKERR_TOTAL n)) ++ (List.range 8).map (fun n => s.get (F.CAN_COLL_TOTAL n)) ++
  (List.range 16).flatMap (fun k => [s.get (F.CAN_TLG_CNT_DROP k), s.get (F.CAN_TLG_CNT_FBBAD k)]) ++
  (List.range 4).flatMap (fun b => [wide (F.ALC_EN_TOT_LO_WS b) (F.ALC_EN_TOT_HI_WS b), wide (F.ALC_EN_SK_LO_WS b) (F.ALC_EN_SK_HI_WS b), s.get (F.ALC_EN_SKT_FRAMES b)]) ++
  (List.range 8).flatMap (fun c => [s.get (F.SAF_CONN_CNT0_CHKERR c), s.get (F.SAF_CONN_CNT0_OLD c), s.get (F.SAF_CONN_CNT1_MISSA c), s.get (F.SAF_CONN_CNT1_MISSB c)]) ++
  [s.get F.REC_LOST_COUNT, s.get F.REC_BAD_COUNT, s.get F.RED_DOVE_MISMATCH, s.get F.RED_DOVE_TRANSIENT, s.get F.RED_JIG_ECC_CORR,
    s.get (F.RED_KL_CNT_FRAMES 0), s.get (F.RED_KL_ERR_CHK 0), s.get (F.RED_KL_CNT_FRAMES 1), s.get (F.RED_KL_ERR_CHK 1)]
/-- Newest complete epoch. -/
def State.snapEpoch (s : State) : Nat := s.get F.HIF_SNAP_EPOCH_LO_EPOCH + 2 ^ 32 * s.get F.HIF_SNAP_EPOCH_HI_EPOCH
/-- A SNAP_COPY waits in a ring (R562). -/
def State.snapWaits (s : State) (p q : Nat) : List (Nat × Desc) :=
  let l := (s.ring p q).queue
  (List.range l.length).filterMap (fun i => match l[i]? with
    | some d => if d.started && d.done.isNone && d.opc == 3 then some (i, d) else none
    | none => none)
/-- A bank becomes complete (R562): HIF_SNAP_EPOCH names it and the SNAP_COPY descriptors that wait copy it. -/
def State.bankDone (s : State) : State :=
  match s.hif.bank with
  | none => s
  | some ws =>
    let e := s.snapEpoch + 1
    let s1 := ((s.setWords (F.HIF_SNAP_WORD (e % 2) 0).off ws).modHif (fun h => { h with bank := none })).put F.HIF_SNAP_BANK_BANK (e % 2)
    let s2 := (s1.put F.HIF_SNAP_EPOCH_LO_EPOCH e).put F.HIF_SNAP_EPOCH_HI_EPOCH (e / 2 ^ 32)
    s2.each allRings (fun s r => s.each (s.snapWaits r.1 r.2) (fun s x => s.snapCopy r.1 r.2 x.1 x.2))
/-- All counter units are captured in the clock cycle of a tick (R559), on a request or not; the bank's leading EPOCH is written first (R562). [DEDUCED: log 350] -/
def State.snapTake (asked : Bool) (s0 : State) : State :=
  let s := s0.bankDone
  let e := s.snapEpoch + 1
  let w64 (n : Nat) : List Nat := [n % 2 ^ 32, n / 2 ^ 32 % 2 ^ 32]
  let ws := w64 e ++ w64 s.lin ++ s.counters.flatMap w64 ++ w64 e
  let s1 := (s.setWords (F.HIF_SNAP_WORD (e % 2) 0).off (w64 e)).modHif (fun h => { h with bank := some ws, snapReq := if asked then none else h.snapReq })
  s1.when asked (·.raise 237)
/-- A snapshot is due at this tick (R560, R561). -/
def State.snapDue (s : State) (asked major : Bool) : Bool := asked || (major && s.flag F.HIF_SNAP_CTRL_AUTO)
/-- A request of an earlier minor frame waits while the counter stands at the edge of a tick; one that arrives in the tick's own clock cycle
counts toward the next tick (R561). -/
def State.snapAsked (s : State) : Bool := s.hif.snapReq.any (fun t => decide (t / 250000 < s.now / 250000))
/-- COUNTER_SNAPSHOT (R559): a snapshot that is due is taken while the counter stands at the edge of the tick. -/
def execCounterSnapshot (s : State) : Host.Outcome State Fault Refusal :=
  .next (s.when (s.ready && s.now % 250000 < 8 && s.hif.bank.isNone && s.snapDue s.snapAsked (s.now % 10000000 < 8)) (State.snapTake s.snapAsked))
/-- SNAPSHOT_BANK_COMPLETE (R562): the counter runs to tick + 20 µs. -/
def execSnapshotBankComplete (s : State) : Host.Outcome State Fault Refusal :=
  .next (if s.hif.bank.isSome then (s.runInside (s.now / 250000 * 250000 + 20000)).bankDone else s)

end Sys2Proof.Machine
end

