-- ==== Sys2Proof/Machine/Net.lean ====
section
/-! DEFINITION. Reception on the Ethernet ports: checks and dispatch (R102, R105), IEC 61162-450 datagrams (R112 to R114). -/

namespace Sys2Proof.Machine

open Sys2Proof

/-- LinNs of a frame's arrival, referred to the ball (R107). -/
def State.ingress (s : State) (p frac : Nat) : Nat := ofInt 64 (divRne (s.ingressTime p frac) (2 ^ 16))

/-! ### IEC 61162-450 -/

/-- Lines of a datagram, each with its line feed; the rest without one is a line too. -/
def lines : List Byte → List Byte → List (List Byte)
  | [], acc => if acc.isEmpty then [] else [acc.reverse]
  | b :: t, acc => if b = 10#8 then (b :: acc).reverse :: lines t [] else lines t (b :: acc)
/-- Tag blocks at the head of a line, and the sentence behind them; on fuel. [PRESUMED: log 105] -/
def tagBlocks : Nat → List Byte → List (List Byte) × List Byte
  | 0, l => ([], l)
  | k + 1, l => match l with
    | 92#8 :: t =>
      let b := t.takeWhile (· != 92#8)
      let r := tagBlocks k (t.drop (b.length + 1))
      (b :: r.1, r.2)
    | _ => ([], l)
/-- The value of a parameter of some tag blocks. -/
def tagParam (key : Byte) (bs : List (List Byte)) : Option (List Byte) :=
  ((bs.flatMap (fun b => splitComma (b.takeWhile (· != 42#8)))).find? (fun f => f.take 2 == [key, 58#8])).map (·.drop 2)
/-- The sentence carries a checksum that is wrong (R112). -/
def badChecksum (l : List Byte) : Bool :=
  let body := ((l.drop 1).takeWhile (fun b => b != 13#8 && b != 10#8))
  let txt := body.takeWhile (· != 42#8)
  match body.drop txt.length with
  | [_, a, b] => (match hexDigit a, hexDigit b with
    | some x, some y => txt.foldl (fun acc c => Nat.xor acc c.toNat) 0 != 16 * x + y
    | _, _ => true)
  | [] => false
  | _ => true
/-- Counts a drop (R112); event 28 when the count moves (R115). -/
def State.drop450 (s : State) (f : Fld) : State := if s.get f = 65535 then s else (s.inc f).raiseMajor 28
/-- One line of a datagram of group `g` on a network (R112 to R114). [PRESUMED: log 105] -/
def State.line450 (s : State) (net g stamp : Nat) (l : List Byte) : State :=
  let tb := tagBlocks 8 l
  match parseSentence false tb.2 with
  | none => if badChecksum tb.2 then s.drop450 F.ETH_450DROP_CKSUM else s
  | some x =>
    match (tagParam 110#8 tb.1).bind (fun d => if d.isEmpty then none else digits d 0) with
    | none => s.feedSentence 3 g { x with tags := tb.1 } stamp
    | some n =>
      let src := (tagParam 115#8 tb.1).getD []
      let live := s.eth.seen.filter (fun q => s.now ≤ q.t + 100000000)
      let dup := s.grpOn g 0 && s.grpOn g 1 && live.any (fun q => q.src == src && q.line == n && q.net != net)
      let s1 := { s with eth := { s.eth with seen := live ++ [⟨src, n, net, s.now⟩] } }
      if dup then s1 else s1.feedSentence 3 g { x with tags := tb.1 } stamp
/-- A datagram of a group (R112): any header but UdPbC drops it. -/
def State.datagram450 (s : State) (p g frac : Nat) (b : List Byte) : State :=
  if b.take 5 = [85#8, 100#8, 80#8, 98#8, 67#8] then
    let body := if (b.drop 5).head? = some 0#8 then b.drop 6 else b.drop 5
    (lines body []).foldl (fun s l => s.line450 (p / 2) g (s.ingress p frac) l) s
  else s.drop450 F.ETH_450DROP_FORMAT
/-- The port takes traffic other than PTP (R103). -/
def State.ethTakes (s : State) (p : Nat) : Bool := s.ethUp p && s.flag (F.ETH_STATUS_ACTIVE p)
/-- IEC450_DATAGRAM (R112): for an enabled group of the port's network. -/
def execIec450Datagram (p : Fin 4) (g : Fin 16) (frac : Fin 5) (bytes : List Byte) (s : State) : Host.Outcome State Fault Refusal :=
  .next (s.lanes fun s => if s.ethTakes p && s.grpOn g (p / 2) then s.datagram450 p g frac bytes else s)

/-! ### Frames -/

/-- A frame without its tag: destination, EtherType, payload. [PRESUMED: log 104] -/
def etherParts (b : List Byte) : Nat × Nat × List Byte :=
  if beAt b 12 2 = 0x8100 then (beAt b 0 6, beAt b 16 2, b.drop 18) else (beAt b 0 6, beAt b 12 2, b.drop 14)
/-- A UDP datagram over IPv4: destination address, destination port, data. -/
def udpParts (ty : Nat) (b : List Byte) : Option (Nat × Nat × List Byte) :=
  let h := 4 * (beAt b 0 1 % 16)
  if ty = 0x0800 ∧ beAt b 0 1 / 16 = 4 ∧ 20 ≤ h ∧ beAt b 9 1 = 17 then
    some (beAt b 16 4, beAt b (h + 2) 2, (b.drop (h + 8)).take (beAt b (h + 4) 2 - 8))
  else none
/-- Dispatch of a received frame (R105). [DESIGN CHOICE: log 106] -/
def State.ethDispatch (s : State) (p frac : Nat) (b : List Byte) : State :=
  let e := etherParts b
  let udp := udpParts e.2.1 e.2.2
  let ip := s.get (F.ETH_IP_ADDR p)
  let ptp : Option (List Byte) := if e.2.1 = 0x88F7 then some e.2.2 else match udp with
    | some u => if ip ≠ 0 ∧ u.1 = ip ∧ (u.2.1 = 319 ∨ u.2.1 = 320) then some u.2.2 else none
    | none => none
  let grp : Option (Nat × List Byte) := udp.bind (fun u => ((List.range 16).find? (fun g =>
    s.grpOn g (p / 2) && s.get (F.ETH_450GRP_ADDR_ADDR g) == u.1 && s.get (F.ETH_450GRP_CFG_PORT g) == u.2.1)).map (fun g => (g, u.2.2)))
  match ptp with
  | some m => (s.setPort p (fun x => { x with ptpRx := (x.ptpRx ++ [b]).drop ((x.ptpRx.length + 1) - 16) })).ptpEngine p (s.ingressTime p frac) m
  | none =>
  if !s.ethTakes p then s.incWrap (F.ETH_CNT_COUNT p 3)
  else match grp with
    | some g => s.datagram450 p g.1 frac g.2
    | none =>
      if e.2.1 = 0x88B5 then
        { s with saf := { s.saf with rx := s.saf.rx ++ [{ net := p / 2, at10 := 100 * s.saf.ticks, bytes := padTo 16 e.2.2 }] } }
      else if (e.1 = s.ethMac p ∨ e.1 = 0xFFFFFFFFFFFF) ∧ s.flag (F.ETH_CFG_RAWRX p) then s.hostItem ⟨p / 2, s.ingress p frac, p, b⟩
      else s.incWrap (F.ETH_CNT_COUNT p 3)
/-- A frame arrives, its bytes without FCS (R102, R105); event 27. -/
def State.ethReceive (s : State) (p : Nat) (good : Bool) (frac : Nat) (b : List Byte) : State :=
  if !s.ethUp p then s
  else if good && decide (b.length ≤ 1518) then (s.incWrap (F.ETH_CNT_COUNT p 0)).ethDispatch p frac b
  else (s.incWrap (F.ETH_CNT_COUNT p 2)).raiseMajor 27
/-- ETH_FRAME_RECEIVED (R105). -/
def execEthFrameReceived (p : Fin 4) (good : Bool) (frac : Fin 5) (bytes : List Byte) (s : State) : Host.Outcome State Fault Refusal :=
  .next (s.lanes fun s => s.ethReceive p good frac bytes)

end Sys2Proof.Machine
end

