-- ==== Sys2Proof/Machine/Mirror.lean ====
section
/-! DEFINITION. The mirror set (R488) and the Axolotl snapshot (R497): their bytes, and what a module takes from them (R487, R490,
R496). -/

namespace Sys2Proof.Machine

open Sys2Proof

/-! ### Check code and number formats -/

/-- One bit of the CRC-64 of R469. -/
def crc64Bit (r : Nat) : Nat := if 2 ^ 63 ≤ r then Nat.xor (2 * r % 2 ^ 64) 0x42F0E1EBA9EA3693 else 2 * r
/-- One byte of it. -/
def crc64Byte (r : Nat) (b : Byte) : Nat :=
  let r0 := Nat.xor r (b.toNat * 2 ^ 56)
  crc64Bit (crc64Bit (crc64Bit (crc64Bit (crc64Bit (crc64Bit (crc64Bit (crc64Bit r0)))))))
/-- CRC-64: polynomial 0x42F0_E1EB_A9EA_3693, initial value 0, not reflected, no final XOR (R469). -/
def crc64 (l : List Byte) : Nat := l.foldl crc64Byte 0
/-- A number as binary32 on the link. -/
def beF32 (x : Fl) : List Byte := beBytes 4 x.r32.bits32
/-- A number as binary64 on the link. -/
def beF64 (x : Fl) : List Byte := beBytes 8 x.bits64
/-- An int32 on the link. -/
def beI32 (x : Int) : List Byte := beBytes 4 (ofInt 32 (clampS 32 x))
/-- A binary32 of a mirror set. -/
def f32At (b : List Byte) (i : Nat) : Fl := Fl.ofBits32 (beAt b i 4)
/-- A binary64 of a mirror set. -/
def f64At (b : List Byte) (i : Nat) : Fl := Fl.ofBits64 (beAt b i 8)
/-- An int32 of a mirror set. -/
def i32At (b : List Byte) (i : Nat) : Int := toInt 32 (beAt b i 4)
/-- `n` consecutive binary32 numbers. -/
def f32s (b : List Byte) (i n : Nat) : List Fl := (List.range n).map (fun k => f32At b (i + 4 * k))
/-- The upper triangle of an n × n matrix, row by row (R488). -/
def upperOf (n : Nat) (m : Mat) : List Fl := (List.range n).flatMap (fun i => (List.range (n - i)).map (fun j => Mat.at' m i (i + j)))
/-- The symmetric matrix with an upper triangle. -/
def ofUpper (n : Nat) (l : List Fl) : Mat :=
  (List.range n).map (fun i => (List.range n).map (fun j =>
    let a := min i j
    nth l (a * n - a * (a - 1) / 2 + (max i j - a)) Fl.zero))
/-- A matrix with other values on its diagonal. -/
def withDiag (m : Mat) (d : List Fl) : Mat :=
  (List.range d.length).map (fun i => (List.range d.length).map (fun j => if i = j then nth d i Fl.zero else Mat.at' m i j))

/-! ### The bytes of a mirror set -/

/-- A word as the results of this frame make it: the one that waits for the next major tick, else the one in effect. -/
def State.resNow (s : State) (off : Nat) : Nat := (s.alc.next.lookup off).getD (s.word off)
/-- A DP-axis slot in 176 bytes. -/
def LoopSlot.mirror (l : LoopSlot) : List Byte :=
  beF64 l.sp ++ beF64 l.v ++ beF64 l.a ++ beBytes 1 l.path ++ beBytes 1 l.abank ++ beBytes 2 0 ++ beI32 l.i ++ beI32 l.d ++ beI32 l.ep ++
    padTo 128 ((nth l.x l.abank []).flatMap (fun st => st.flatMap beI32)) ++ beI32 l.u ++
    beBytes 2 (match l.blend with | some b => b.n - b.k | none => 0) ++ beBytes 2 l.sat
/-- Contradiction or outvote timer of a reference, frames. -/
def State.arbTimer (s : State) (i : Nat) : Nat :=
  let c (x : Option (Nat × Nat × Nat)) (i : Nat) : Nat := match x with
    | some (a, b, k) => if a = i ∨ b = i then s.contraT k else 0
    | none => 0
  let out := (s.heldFor (s.ref i).outAt).toNat / 10000000
  min 65535 (max out (c (if i < 12 then s.est.contra else s.est.hcontra) i))
/-- Arbitration of a reference in 8 bytes. -/
def State.arbMirror (s : State) (i : Nat) : List Byte :=
  beBytes 1 (s.get (arbStateF i)) ++ beBytes 1 (b2n (s.suspect i)) ++ beBytes 2 (s.arbTimer i) ++ beBytes 2 (s.get (arbRms i)) ++ beBytes 2 0
/-- A GNSS-TC track in 308 bytes. -/
def State.tcMirror (s : State) (i : Option Nat) : List Byte :=
  match i with
  | none => List.replicate 308 0#8
  | some k => let t := (s.ref k).tc; ((List.range 11).flatMap (fun j => beF32 (nth t.x j Fl.zero))) ++ (upperOf 11 t.p).flatMap beF32
/-- Mode unit in 72 bytes; FLAGS: bit 0 BERTHED, 1 PRESSLOSS, 2 JLOST. -/
def State.modeMirror (s : State) : List Byte :=
  let d := s.cle.md
  beBytes 1 d.mode ++ beBytes 1 d.origin ++ beBytes 2 (b2n d.berthed + 2 * b2n d.pressLoss + 4 * b2n d.jlost) ++
    (List.range 3).flatMap (fun a => beI32 (nth d.tgt a 0)) ++ beBytes 4 (s.get F.CLE_MODE_SPN_MM) ++ beBytes 4 (s.get F.CLE_MODE_SPE_MM) ++
    beBytes 4 (s.get F.CLE_MODE_SPH_BAM) ++ beI32 d.cn.rne ++ beI32 d.ce.rne ++ beBytes 4 d.wpt ++
    (List.range 4).flatMap (fun k => beF32 (nth d.contact k Fl.zero)) ++ List.replicate 16 0#8
/-- Allocation result of a thruster in 32 bytes, in the layout of ALC_T_i_RES. -/
def State.resMirror (s : State) (i : Nat) : List Byte :=
  (List.range 8).flatMap (fun w => let v := s.resNow (F.ALC_T_RES_WORD i w).off; if w = 6 then leBytes 4 v else beBytes 4 v)
/-- Commitment of a thruster in 8 bytes. -/
def State.commitMirror (s : State) (i : Nat) : List Byte :=
  let t := s.thr i
  let ph := match t.trans with
    | none => 0
    | some x => 1 + b2n x.thru + 2 * b2n (decide (x.dir < 0))
  beBytes 1 t.st ++ beBytes 1 ((t.trans.map (·.sect)).getD 0 + 2 * b2n t.astern) ++ beBytes 1 (min 255 (max (nth t.cnt 0 0) (nth t.cnt 1 0))) ++
    beBytes 1 ph ++ beBytes 4 (s.resNow (F.ALC_T_RES_WORD i 1).off)
/-- A profile axis in 40 bytes; the plan's target is the end of the plan. -/
def State.axisMirror (s : State) (n : Nat) : List Byte :=
  let x := s.axis n
  let st := match x.plan with
    | some p => [p.s0, p.v0, p.a0]
    | none => [x.s, x.v, x.a]
  let tgt := match x.plan.bind (·.goal) with
    | some g => g.rne
    | none => x.tgt
  let k : Int := match x.plan with
    | some p => -(p.k : Int)
    | none => 0
  st.flatMap beF64 ++ beBytes 4 (ofInt 32 tgt) ++ beBytes 4 (ofInt 32 (x.pend.getD 0)) ++ beI32 k ++ beBytes 1 x.st ++ beBytes 1 (b2n x.pend.isSome) ++
    beBytes 1 (b2n (s.flag (F.PRF_P_STAT_HOMED n))) ++ beBytes 1 (s.get (F.PRF_P_STAT_PHASE n))
/-- Bytes 3,068 to 4,539: minor-stage values as they stand at a major tick. -/
def State.tickMirror (s : State) : List Byte :=
  (List.range 32).flatMap s.axisMirror ++ (List.range 48).flatMap (fun n => beI32 (s.loop n).u)
/-- The mirror set of the running frame (R487, R488). [DESIGN CHOICE: log 372] -/
def State.mirrorSet (s : State) (handover : Bool) : List Byte :=
  let e := s.est
  let refB (i : Nat) : List Byte := let t := s.ref i; if i < 12 then [nth t.b 0 Fl.zero, nth t.b 1 Fl.zero, Mat.at' t.pb 0 0, Mat.at' t.pb 1 1].flatMap beF32
    else [nth t.b 0 Fl.zero, Mat.at' t.pb 0 0].flatMap beF32
  let tgB (k : Nat) : List Byte := let t := s.tg k; ((List.range 4).map (fun j => nth t.x j Fl.zero) ++ (List.range 4).map (fun j => Mat.at' t.p j j)).flatMap beF32
  let head := beBytes 8 s.majTick ++ beBytes 4 (s.get F.FRM_MAJCNT_HI_COUNT) ++ beBytes 4 (s.get F.FRM_MAJCNT_LO_COUNT) ++
    beBytes 2 (s.get F.RED_EPOCH_EPOCH) ++ beBytes 1 (s.get F.RED_CFG_POS % 3) ++ beBytes 1 (b2n handover + 2 * b2n (!s.dualLane)) ++
    beBytes 4 (s.get F.RED_CFGDIG_HI_DIG) ++ beBytes 4 (s.get F.RED_CFGDIG_LO_DIG) ++ List.replicate 36 0#8
  let track := (List.range 15).flatMap (fun j => beF32 (nth e.x j Fl.zero)) ++ (upperOf 15 e.p).flatMap beF32
  let body := head ++ track ++ (List.range 12).flatMap refB ++ s.tcMirror (s.tcTracks[0]?) ++ s.tcMirror (s.tcTracks[1]?) ++
    [12, 13, 14, 15].flatMap refB ++ (List.range 8).flatMap tgB ++ (List.range 16).flatMap s.arbMirror ++
    s.dpSlots.flatMap (fun n => (s.loop n).mirror) ++ s.modeMirror ++ (List.range 16).flatMap s.resMirror ++ (List.range 16).flatMap s.commitMirror ++
    padTo 1472 s.red.ticked ++ List.replicate 64 0#8
  body ++ beBytes 4 (crc32c body)
/-- A mirror set whose length and CRC are right. -/
def mirrorOk (b : List Byte) : Bool := b.length == 4608 && beAt b 4604 4 == crc32c (b.take 4604)
/-- STATEDIG of a mirror set (R479). -/
def stateDig (b : List Byte) : Nat := if b.isEmpty then 0 else crc64 (slice b 64 4540)

/-! ### What a module takes from a mirror set -/

/-- The estimator's part: track, biases, targets, arbitration; the records of the frame follow it. -/
def State.mirrorEst (s : State) (b : List Byte) : State :=
  let s1 := s.modEst (fun e => { e with x := f32s b 64 15, p := ofUpper 15 (f32s b 124 120) })
  let pr (s : State) (i : Nat) : State := s.modRef i (fun t => { t with b := f32s b (604 + 16 * i) 2, pb := withDiag t.pb (f32s b (612 + 16 * i) 2) })
  let hr (s : State) (h : Nat) : State := s.modRef (12 + h) (fun t => { t with b := f32s b (1412 + 8 * h) 1, pb := withDiag t.pb (f32s b (1416 + 8 * h) 1) })
  let tg (s : State) (k : Nat) : State := s.modTg k (fun t => { t with x := f32s b (1444 + 32 * k) 4, p := withDiag t.p (f32s b (1460 + 32 * k) 4) })
  let tc (s : State) (p : Nat × Nat) : State :=
    let n := s.tcDim
    s.modRef p.2 (fun t => { t with tc := { x := f32s b (796 + 308 * p.1) n
                                            p := ((ofUpper 11 (f32s b (840 + 308 * p.1) 66)).take n).map (fun r => r.take n) } })
  let arb (s : State) (i : Nat) : State :=
    let o := 1700 + 8 * i
    let since := (beAt b 0 8 + 2 ^ 64 - beAt b (o + 2) 2 * 10000000) % 2 ^ 64
    ((s.put (arbStateF i) (beAt b o 1)).put (arbRms i) (beAt b (o + 4) 2)).modRef i (fun t => { t with outAt := if beAt b o 1 = 3 then some since else none })
  let s2 := ((s1.each (List.range 12) pr).each (List.range 4) hr).each (List.range 8) tg
  let s3 := s2.each ((List.range 2).zip s2.tcTracks) tc
  let timed (l : List Nat) : Option (Nat × Nat × Nat) :=
    let t (i : Nat) : Nat := beAt b (1702 + 8 * i) 2
    match l.filter (fun i => beAt b (1700 + 8 * i) 1 != 3 && t i != 0) with
    | [i, j] => some (i, j, (s.majCount + 2 ^ 64 - t i) % 2 ^ 64)
    | _ => none
  let s4 := ((s3.each (List.range 16) arb).setContra false (timed (List.range 12))).setContra true (timed [12, 13, 14, 15])
  let marks := maskOf ((List.range 16).map (fun i => beAt b (1701 + 8 * i) 1 % 2 == 1))
  (s4.put F.EST_ARB_SUSP_SUSP marks).formRecords (beAt b 0 8)

/-- A DP-axis slot, or a slot of the snapshot; a blend that does not run here begins where the counter says. -/
def State.mirrorLoop (s : State) (b : List Byte) (o n : Nat) : State :=
  s.modLoop n (fun l =>
    let bank := beAt b (o + 25) 1 % 2
    let path := beAt b (o + 24) 1
    let left := beAt b (o + 172) 2
    let old := l.blend.getD { kind := if path = 2 then 0 else if path = 4 then 1 else 2, k := 0, n := max left (s.blendLen n), old := l.u }
    { l with
      sp := f64At b o, v := f64At b (o + 8), a := f64At b (o + 16), path := path, abank := bank, i := i32At b (o + 28)
      d := i32At b (o + 32), ep := i32At b (o + 36)
      x := setNth l.x bank ((List.range 8).map (fun q => (List.range 4).map (fun j => i32At b (o + 40 + 16 * q + 4 * j))))
      u := i32At b (o + 168), sat := beAt b (o + 174) 2
      blend := if left = 0 then none else some { old with k := old.n - left } })
/-- The mode unit. -/
def State.mirrorMode (s : State) (b : List Byte) : State :=
  let o := 2356
  let fl := beAt b (o + 2) 2
  let s1 := s.modMd (fun d => { d with
    mode := beAt b o 1, origin := beAt b (o + 1) 1, berthed := bitOf fl 0, pressLoss := bitOf fl 1, jlost := bitOf fl 2
    tgt := [i32At b (o + 4), i32At b (o + 8), i32At b (o + 12)], cn := Fl.ofInt (i32At b (o + 28)), ce := Fl.ofInt (i32At b (o + 32))
    wpt := beAt b (o + 36) 4, contact := f32s b (o + 40) 4
    manual := manualAxes (if beAt b o 1 = 8 then beAt b (o + 1) 1 else beAt b o 1) })
  let s2 := ((s1.put F.CLE_MODE_SPN_MM (beAt b (o + 16) 4)).put F.CLE_MODE_SPE_MM (beAt b (o + 20) 4)).put F.CLE_MODE_SPH_BAM (beAt b (o + 24) 4)
  s2.each [0, 1, 2] (fun s a => s.putI (F.CLE_L_SP_TARGET (nth s.dpSlots a 0)) (nth s.cle.md.tgt a 0))
/-- The allocation result of the frame: the words of R333 take its place, and the body forces and powers that follow from them. -/
def State.mirrorAlc (s : State) (b : List Byte) : State :=
  let w (i k : Nat) : Nat := let o := 2428 + 32 * i + 4 * k; if k = 6 then leAt b o 4 else beAt b o 4
  let words := (List.range 16).flatMap (fun i => (List.range 8).map (fun k => ((F.ALC_T_RES_WORD i k).off, w i k)))
  let sum (f : Nat → Int) : Int := (List.range 16).foldl (fun acc i => acc + f i) 0
  let fx (i : Nat) : Int := toInt 32 (w i 2)
  let fy (i : Nat) : Int := toInt 32 (w i 3)
  let yaw := divRne (sum (fun i => s.getI (F.ALC_D_LX_MM i) * fy i - s.getI (F.ALC_D_LY_MM i) * fx i)) 1000
  let pw (bus : Nat) : Nat := (List.range 16).foldl (fun acc i => if s.get (F.ALC_T_CFG_BUS i) = bus then acc + w i 4 else acc) 0
  let i32 (x : Int) : Nat := ofInt 32 (clampS 32 x)
  let stat (i : Nat) : Nat × Nat :=
    let o := 2940 + 8 * i
    let c := beAt b (o + 1) 1
    ((F.ALC_T_STAT_STATE i).off,
     beAt b o 1 % 8 + 8 * (c % 2) + 16 * (c / 2 % 2) + 256 * beAt b (o + 2) 1 + 65536 * (s.thr i).crossings)
  let tot := [(F.ALC_TAU_X_VALUE.off, i32 (sum fx)), (F.ALC_TAU_Y_VALUE.off, i32 (sum fy)), (F.ALC_TAU_N_VALUE.off, i32 yaw),
    (F.ALC_PTOT_W.off, pw 0 + pw 1 + pw 2 + pw 3)] ++ (List.range 4).map (fun k => ((F.ALC_BUS_PWR_W k).off, pw k))
  let new := words ++ (List.range 16).map stat ++ tot
  let keep := s.alc.next.filter (fun p => !new.any (fun q => q.1 == p.1))
  let thr (s : State) (i : Nat) : State := s.modThr i (fun t =>
    let o := 2940 + 8 * i
    let c := beAt b (o + 1) 1
    let ph := beAt b (o + 3) 1
    let k := c % 2
    let dir : Int := if 3 ≤ ph then -1 else 1
    let q := s.sector i k
    { t with
      st := beAt b o 1 % 8, astern := c / 2 % 2 == 1, cnt := setNth t.cnt k (beAt b (o + 2) 1)
      trans := if ph = 0 then none else
        some { sect := k, dir := dir, near := turned q.1 (-(dir * q.2)), far := turned q.1 (dir * q.2), thru := ph % 2 == 0 } })
  (s.each (List.range 16) thr).modAlc (fun a => { a with next := keep ++ new, fresh := true })
/-- A profile axis: MOVE and HOMING plans are adopted in absolute plan time (R487); `age` is the number of samples since T. -/
def State.mirrorAxis (s : State) (b : List Byte) (age n : Nat) : State :=
  let o := 3068 + 40 * n
  let st := beAt b (o + 36) 1
  let ph := beAt b (o + 39) 1
  let x := s.axis n
  let w := beAt b (o + 24) 4
  let tgt := if s.flag (F.PRF_P_CFG_ANGLE n) then (w : Int) else toInt 32 w
  let s0 := f64At b o; let v0 := f64At b (o + 8); let a0 := f64At b (o + 16)
  let k := ((age : Int) - i32At b (o + 32)).toNat
  if x.st = 0 ∨ ¬(st = 2 ∨ st = 5) then s
  else
    let l := s.axisLim n false
    let d0 := (Fl.ofInt tgt).sub s0
    let d := if s.flag (F.PRF_P_CFG_ANGLE n) && (st == 2 || ph == 4) then wrapHalf d0 else d0
    let vmax := if st = 5 ∧ ph ≠ 4 then Fl.ofInt (s.get (F.PRF_P_HV_LIM n) : Nat) else s.axisVFl n
    let segs := (planSegs d v0 a0 vmax l.1 l.2).1
    let e := walkSegs segs (Fl.ratio k 4000) s0 v0 a0
    let pos := if s.flag (F.PRF_P_CFG_ANGLE n) then wrapTurn e.1 else e.1
    let pend := beAt b (o + 37) 1 == 1
    let s1 := s.modAxis n (fun x => { x with
      plan := some { segs := segs, s0 := s0, v0 := v0, a0 := a0, k := k, goal := some (Fl.ofInt tgt) }
      s := pos, v := e.2.1, a := e.2.2, tgt := if st = 2 then tgt else x.tgt, pend := if pend then some (i32At b (o + 28)) else none })
    ((((s1.axisTo n st).putB (F.PRF_P_STAT_PEND n) pend).putB (F.PRF_P_STAT_HOMED n) (beAt b (o + 38) 1 == 1)).put (F.PRF_P_STAT_PHASE n) ph).axisPub n
/-- A mirror set is applied at a major tick in place of the module's own results of the frame (R487). -/
def State.mirrorApply (s : State) (b : List Byte) : State :=
  let age := ((linDiff s.majTick (beAt b 0 8)).toNat) / 250000
  let s1 := ((((s.mirrorEst b).each ((List.range 3).zip s.dpSlots) (fun s p => s.mirrorLoop b (1828 + 176 * p.1) p.2)).mirrorMode b).mirrorAlc b).each
    (List.range 32) (fun s n => s.mirrorAxis b age n)
  { s1 with red := { s1.red with mirLast := b, mirMiss := 0, uLast := some ((List.range 48).map (fun n => i32At b (4348 + 4 * n))) } }

/-! ### The snapshot -/

/-- Bytes nothing is stated of (log 2). [DESIGN CHOICE: log 373] -/
def State.freeBytes (s : State) (k n : Nat) : List Byte := leBytes n (Config.freeNat (s.freeCtr + k))
/-- An entry of the estimator history. -/
def snapEntry (x : Option Snap) : List Byte :=
  match x with
  | none => List.replicate 552 0#8
  | some q => ((List.range 15).map (fun j => nth q.x j Fl.zero) ++ upperOf 15 q.p ++ (List.range 3).map (fun j => nth q.tau j Fl.zero)).flatMap beF32
/-- The snapshot captured in the running frame (R497); segments whose layout the spec does not give are free bytes. -/
def State.axoSnapshot (s : State) (mirror : List Byte) : State × List Byte :=
  let body := padTo 4608 mirror ++ (List.range 12).flatMap (fun k => snapEntry s.est.snaps[k]?) ++ s.freeBytes 0 12288 ++
    (List.range 48).flatMap (fun n => (s.loop n).mirror ++ List.replicate 16 0#8) ++ s.freeBytes 1 8192 ++ s.freeBytes 2 2048 ++ List.replicate 22556 0#8
  ({ s with freeCtr := s.freeCtr + 3 }, body ++ beBytes 4 (crc32c body))
/-- A snapshot whose length and CRC are right. -/
def axoOk (b : List Byte) : Bool := b.length == 65536 && beAt b 65532 4 == crc32c (b.take 65532)
/-- The estimator history of a snapshot; the transition to an entry is that of the entry before it over one major frame (R218).
[DESIGN CHOICE: log 373] -/
def State.axoHistory (s : State) (b : List Byte) : List Snap :=
  let t0 := beAt b 0 8
  let ent (k : Nat) : Snap :=
    let o := 4608 + 552 * k
    { t := (t0 + 2 ^ 64 - k * 10000000) % 2 ^ 64, x := f32s b o 15, p := ofUpper 15 (f32s b (o + 60) 120), tau := f32s b (o + 540) 3, phi := identM 15 }
  (List.range 12).map (fun k =>
    let q := ent (k + 1)
    if k = 11 then ent k else { ent k with phi := (s.vesselProp q.tau q.t 0 10000000 q.x q.p).phi })
/-- The allocation working set, the crossing counts, and results and counts of the failure groups, from their segment. -/
def State.axoAlloc (s : State) (seg : List Byte) : State :=
  let s1 := (s.modAlc (fun a => { a with wset := Config.snapNats 0 seg })).each (List.range 16) (fun s i =>
    let v := Config.snapNats (1 + i) seg
    s.modThr i (fun t => { t with cnt := [nth v 0 0, nth v 1 0], hold := nth v 2 0, crossings := nth v 3 0 }))
  s1.each (List.range 24) (fun s g =>
    let v := Config.snapNats (17 + g) seg
    let s2 := (s.putBit F.ALC_CQ_ALARM_GROUP g (bitOf (nth v 3 0) 4)).modGroup g (fun x =>
      { x with prev := Config.snapForces g seg, ran := nth v 0 0 == 1, wset := v.drop 6, inf := nth v 1 0, fea := nth v 2 0,
               alarm := bitOf (nth v 3 0) 4 })
    s2.setWords (F.ALC_FG_STAT_VERDICT g).off
      [Nat.land (nth v 3 0) 0xFFFF0F1F, Nat.land (nth v 4 0) 0xFFFFFF, nth v 5 0])
/-- Energy counters, bins and remainder of a bus, from its segment. -/
def State.axoEnergy (s : State) (seg : List Byte) (bus : Nat) : State :=
  let v := Config.snapNats (41 + bus) seg
  (s.modEnergy bus (fun e => { e with rem := nth v 0 0 % 100, bin := nth v 1 0, frames := nth v 2 0, bins := (v.drop 10).take 60 })).setWords
    (F.ALC_EN_SKT_FRAMES bus).off ((v.drop 3).take 6 ++ List.replicate (6 - (v.drop 3).length) 0)
/-- The joining module loads the snapshot (R496, R497): estimator history, slot states, and what it reads from the segments whose layout
the spec does not give. [DESIGN CHOICE: log 373] -/
def State.axoLoad (s : State) (b : List Byte) : State :=
  let s1 := (s.modEst (fun e => { e with snaps := s.axoHistory b })).each (List.range 16) (fun s i =>
    s.modRef i (fun t => { t with resid := Config.snapHist (slice b (11232 + 768 * i) 768) }))
  let s2 := (s1.each (List.range 48) (fun s n => s.mirrorLoop b (23520 + 192 * n) n)).axoAlloc (slice b 32736 8192)
  s2.each (List.range 4) (fun s bus => s.axoEnergy (slice b (40928 + 512 * bus) 512) bus)
/-- R490: at its first minor tick as In Command, slots that are not DP axes are preset from the outputs of the last mirror set. -/
def State.takePreset (s : State) : State :=
  let u := s.red.uLast.getD []
  let one (s : State) (n : Nat) : State :=
    if s.flag (F.CLE_L_CFG_EN n) && (s.dpAxis n).isNone then
      s.modLoop n (fun l => { (LoopSlot.endBlend (l, [])).1 with u := nth u n l.u, back := true })
    else s
  if s.red.preset then { (s.each (List.range 48) one) with red := { s.red with preset := false } } else s

end Sys2Proof.Machine
end

