-- ==== Sys2Proof/Machine/Red.lean ====
section
/-! DEFINITION. Lanes and redundancy groups (chapter 16): lane check (R470 to R475), Kalmer link (R476 to R479), roles and hand-over
(R480 to R491), comparison (R492 to R495), Axolotl (R496), self-test and health (R498, R499). -/

namespace Sys2Proof.Machine

open Sys2Proof

/-- Changes the redundancy unit. -/
def State.modRed (s : State) (f : RedState → RedState) : State := { s with red := f s.red }
/-- Position; 3 acts as 0. -/
def State.ownPos (s : State) : Nat := s.get F.RED_CFG_POS % 3
/-- GSIZE; 0 acts as 1. -/
def State.gsize (s : State) : Nat := max 1 (s.get F.RED_CFG_GSIZE)
/-- LINKTMO in major frames; 0 acts as 1. -/
def State.linkTmo (s : State) : Nat := max 1 (s.get F.RED_CFG_LINKTMO)
/-- What is held of a position. -/
def State.link (s : State) (p : Nat) : PeerLink := nth s.red.peers p PeerLink.init
/-- Changes it. -/
def State.modLink (s : State) (p : Nat) (f : PeerLink → PeerLink) : State := s.modRed (fun r => { r with peers := modNth r.peers p f })
/-- A peer is seen (R479). -/
def State.seen (s : State) (p : Nat) : Bool := s.flag (F.RED_PEER_STAT_SEEN p)
/-- Positions of the peers. -/
def State.peerPos (s : State) : List Nat := [0, 1, 2].filter (fun p => p != s.ownPos)
/-- A lane check or a module check runs on this module. -/
def State.inCheck (s : State) : Bool := s.flag F.RED_STATUS_CHECK || s.flag F.RED_STATUS_MCHECK
/-- A command is refused (R501); where the spec names no reason code the code is free (log 2). [DESIGN CHOICE: log 361] -/
def State.redRefuse (s : State) (reason : Option Nat) : State :=
  let s1 := (s.put F.RED_ERR_REFUSED 1).raise 207
  match reason with
  | some r => s1.put F.RED_ERR_REASON r
  | none => (s1.put F.RED_ERR_REASON s1.free).drawn
/-- Decides a change of role for the next major tick; nothing replaces a retirement. -/
def State.resolve (s : State) (m : RoleMove) : State :=
  if s.red.move = some .retire ∨ s.red.move = some .named then s else s.modRed (fun r => { r with move := some m })

/-! ### Status records -/

/-- Fields of a status record (R479). -/
def recRole (b : List Byte) : Nat := beAt b 0 1 % 4
/-- LANES. -/
def recLanes (b : List Byte) : Nat := beAt b 1 1
/-- REQ. -/
def recReq (b : List Byte) : Nat := beAt b 4 1
/-- The module is in a lane check or a module check. -/
def recCheck (b : List Byte) : Bool := bitOf (recLanes b) 2 || bitOf (recLanes b) 3
/-- A Hot Standby with SYNC set, not in a check; in DUAL_LANE if asked. -/
def recFit (dual : Bool) (b : List Byte) : Bool :=
  recRole b == 2 && bitOf (recReq b) 6 && !recCheck b && (!dual || recLanes b % 4 == 3)
/-- The fit Hot Standby in the lowest position. -/
def State.fitPeer (s : State) (dual : Bool) : Option Nat := s.peerPos.find? (fun p => s.seen p && recFit dual (s.link p).record)
/-- THR of the module's own result of this frame. -/
def State.thrBytes (s : State) : List Byte :=
  (List.range 16).flatMap (fun i => beBytes 4 (s.resNow (F.ALC_T_RES_WORD i 0).off) ++ beBytes 4 (s.resNow (F.ALC_T_RES_WORD i 1).off) ++
    beBytes 1 (s.resNow (F.ALC_T_STAT_STATE i).off % 8) ++ beBytes 3 0)
/-- The 216 bytes of the module's status record. -/
def State.statusRecord (s : State) (target : Option Nat) : List Byte :=
  let r := s.red
  let lanes := s.get F.RED_STATUS_LANES + 4 * s.get F.RED_STATUS_CHECK + 8 * s.get F.RED_STATUS_MCHECK + 16 * b2n r.first
  let req := b2n r.claim.isSome + 2 * b2n (r.claim == some true) + 4 * b2n (match r.axo with | some a => a.step == 0 | none => false) +
    8 * b2n target.isSome + 16 * target.getD 0 + 64 * s.get F.RED_STATUS_SYNC + 128 * s.get F.RED_STATUS_MIRLOST
  beBytes 1 s.role ++ beBytes 1 lanes ++ beBytes 2 (s.get F.RED_EPOCH_EPOCH) ++ beBytes 1 req ++ beBytes 1 (s.get F.CLE_MODE_STAT_MODE) ++
    beBytes 2 (if s.role = 0 ∧ r.axo.isSome then s.get F.RED_AXO_COUNT else 0) ++ beBytes 4 (s.get F.RED_CFGDIG_HI_DIG) ++
    beBytes 4 (s.get F.RED_CFGDIG_LO_DIG) ++ beBytes 8 (stateDig r.mirLast) ++ s.thrBytes
/-- ICPOS: the In Command known (R479). -/
def State.icShow (s : State) : State :=
  let p := if s.inCommand then s.ownPos else match s.red.ic with
    | some p => if s.seen p then p else 3
    | none => 3
  s.put F.RED_STATUS_ICPOS p
/-- CFGDIFF (R495); event 205. -/
def State.cfgDiff (s : State) : State :=
  let own := (s.get F.RED_CFGDIG_LO_DIG, s.get F.RED_CFGDIG_HI_DIG)
  let diff := s.peerPos.any (fun p => s.seen p && (s.get (F.RED_PEER_CFGDIG_LO_DIG p), s.get (F.RED_PEER_CFGDIG_HI_DIG p)) != own)
  let s1 := s.putB F.RED_STATUS_CFGDIFF diff
  if diff && !s.flag F.RED_STATUS_CFGDIFF then s1.raiseMajor 205 else s1
/-- A peer is lost (R479); event 199. -/
def State.peerLose (s : State) (p : Nat) : State :=
  if s.seen p then ((((s.put (F.RED_PEER_STAT_SEEN p) 0).putBit F.RED_STATUS_PEERS p false).raise 199).icShow).cfgDiff else s
/-- PEER_LOST (R479): the MIR window ends without a record, and LINKTMO is reached. -/
def execPeerLost (p : Fin 3) (s : State) : Host.Outcome State Fault Refusal :=
  .next (if s.seen p && !(s.link p).fresh && decide (s.linkTmo ≤ (s.link p).miss + 1) then
    (s.modLink p (fun x => { x with miss := x.miss + 1 })).peerLose p else s)

/-! ### Lane check -/

/-- The output words of a stage, in ascending address order (R42, R469); of EST and ALC, those that take effect at the next major tick.
[DEDUCED: log 157] -/
def State.stageWords (s : State) (k : Nat) : List Nat :=
  match k with
  | 0 => (List.range 96).flatMap (fun n => s.words (F.SIG_S_VAL_VALUE n).off 2)
  | 1 => s.words 0x520000 256
  | 2 => (List.range 48).flatMap (fun n => s.words (0x720280 + 0x400 * n) 8)
  | 3 => (List.range 32).flatMap (fun n => s.words (0x910040 + 0x80 * n) 8)
  | 4 => (List.range 48).map (fun n => s.word (F.CLE_L_STAT_CHKF n).off)
  | 5 => s.est.next.flatMap (·.2)
  | 6 => s.alc.next.map (·.2)
  | _ => []
/-- The digest a lane forms of a stage's output: a CRC-64 over the output words, the marks, and in ACT the telegrams formed, in MIR the
mirror set (R469). [DEDUCED: log 157] -/
def State.stageDigest (s : State) (k : Nat) : Nat :=
  let marks := leBytes 1 (b2n (bitOf s.frm.stale k) + 2 * b2n (bitOf s.frm.staleIn k))
  let more := if k = 3 then s.can.tlg.flatMap (fun x => x.formed.getD []) else if k = 7 then s.mirrorSet false else []
  crc64 (wordBytes (s.stageWords k) ++ more ++ marks)
/-- The two lanes' digests of a stage differ (R60, R470). -/
def State.digestsDiffer (s : State) (k : Nat) : Bool :=
  match s.twin with
  | none => false
  | some c => s.stageDigest k != (s.asLane c).stageDigest k
/-- A digest of a stage differs between the lanes (R470, R471, R474); event 193. It prevails over a naming of the frame (R491). -/
def State.laneMismatch (s : State) (stage : Nat) : State :=
  if !s.dualLane || s.flag F.RED_STATUS_CHECK then s
  else
    let s1 := (((s.put F.RED_STATUS_CHECK 1).put F.RED_DOVE_LAST_STAGE stage).put F.RED_DOVE_T_LO_LINNS (s.lin % 2 ^ 32)).put F.RED_DOVE_T_HI_LINNS (s.lin / 2 ^ 32)
    let s2 := ((s1.inc F.RED_DOVE_MISMATCH).raise 193).modRed (fun r => { r with move := if r.move = some .named then none else r.move })
    match s.role, s.fitPeer true with
    | 1, some p => (s2.modRed (fun r => { r with ousted := true, offer := some p })).resolve .monitor
    | 2, _ => (s2.modRed (fun r => { r with ousted := true })).resolve .monitor
    | _, _ => s2
/-- The digests of some stages are compared, in order; bit k of `mask`: an upset in one lane has changed its digest of the k-th. -/
def State.laneMismatches (s : State) (mask : Nat) (l : List Nat) : State :=
  s.each ((List.range l.length).filter (fun k => bitOf mask k || s.digestsDiffer (nth l k 15))) (fun s k => s.laneMismatch (nth l k 15))
/-- The role, its status bits and its ball (R480); event 192. -/
def State.setRole (s : State) (r : Nat) : State :=
  let s1 := if s.inCommand && r != 1 then
      ((s.tlgLeave).modRed (fun x => { x with superseded := false, axoOut := [] })).put F.RED_EPOCH_EPOCH s.red.newest
    else s
  ((((s1.put F.RED_STATUS_ROLE r).putB F.RED_STATUS_INCMD (r == 1)).put F.RED_STATUS_SYNC 0).raise 192).icShow
/-- Lanes retire (R472, R473, R475); event 194 for each, and the module becomes Retired without one. -/
def State.laneRetire (s : State) (mask : Nat) : State :=
  let go := [0, 1].filter (fun l => bitOf mask l && s.bit F.RED_STATUS_LANES l)
  if go.isEmpty then s
  else
    let s1 := s.each go (fun s l => (s.putBit F.RED_STATUS_LANES l false).raise 194)
    if s1.get F.RED_STATUS_LANES = 0 then
      if s1.role = 3 then s1 else (s1.modRed (fun r => { r with axo := none, move := none })).setRole 3
    else
      (s1.put F.RED_STATUS_LSTAT 1).modRed (fun r => { r with single := r.single || (s.inCommand && s.flag F.RED_CFG_SLHAND) })
/-- The decision of a lane check (R472, R474); event 195. -/
def State.laneDecision (s : State) (passA passB : Bool) : State :=
  if !s.flag F.RED_STATUS_CHECK then s
  else
    let failed := b2n (!passA) + 2 * b2n (!passB)
    let s1 := (s.put F.RED_STATUS_CHECK 0).put F.RED_DOVE_LAST_FAILED failed
    let s2 := if failed = 0 then ((s1.inc F.RED_DOVE_TRANSIENT).modRed (fun r => { r with copy := true })).raise 195 else s1.laneRetire failed
    s2.modRed (fun r => { r with ousted := false, join := r.join || (r.ousted && s.flag F.RED_CFG_AUTOJOIN && s2.role != 3) })
/-- LANE_CHECK_DECISION (R472). -/
def execLaneCheckDecision (passA passB : Bool) (s : State) : Host.Outcome State Fault Refusal := .next (s.laneDecision passA passB).survive
/-- LANE_STATE_COPY (R472): Lane A's state goes into Lane B, in place of the stages of the minor frame. [DESIGN CHOICE: log 159] -/
def execLaneStateCopy (s : State) : Host.Outcome State Fault Refusal :=
  .next (if s.red.copy then
    { s with red := { s.red with copy := false }, frm := { s.frm with done := Nat.lor s.frm.done 31, supOk := false }, twin := none } else s)
/-- LANE_RETIRE (R475). -/
def execLaneRetire (lane : Fin 2) (s : State) : Host.Outcome State Fault Refusal :=
  .next (if bitOf s.red.retire lane then ((s.modRed (fun r => { r with retire := setBit r.retire lane false })).laneRetire (2 ^ lane.val)).survive else s)
/-- MODULE_CHECK_DECISION (R494): a module whose check fails becomes Retired at the next major tick; an In Command names its successor. -/
def State.moduleDecision (s : State) (fail : Bool) : State :=
  if !s.flag F.RED_STATUS_MCHECK then s
  else
    let s1 := s.put F.RED_STATUS_MCHECK 0
    if fail then (s1.modRed (fun r => { r with offer := if s.inCommand then s.fitPeer false else r.offer })).resolve .retire else s1
/-- MODULE_CHECK_DECISION (R494). -/
def execModuleCheckDecision (fail : Bool) (s : State) : Host.Outcome State Fault Refusal := .next (s.moduleDecision fail)

/-! ### Kalmer frames -/

/-- A Kalmer frame of the module (R478). -/
def State.klFrame (s : State) (type dest : Nat) (payload : List Byte) : List Byte :=
  let b := beBytes 2 0x4B4C ++ beBytes 1 type ++ beBytes 1 (s.ownPos + 4 * dest) ++ beBytes 2 payload.length ++ beBytes 2 s.red.fseq ++
    beBytes 8 s.majTick ++ payload
  b ++ beBytes 4 (crc32c b)
/-- Sends a frame on both links (R477). -/
def State.klSend (s : State) (type dest : Nat) (payload : List Byte) : State :=
  let f := s.klFrame type dest payload
  s.modRed (fun r => { r with out := r.out ++ [(3, f)], fseq := (r.fseq + 1) % 65536 })
/-- A later FSEQ in 16-bit serial arithmetic. -/
def laterFseq (a b : Nat) : Bool := newerEpoch a b
/-- A status record is taken (R479, R483, R484); event 200. -/
def State.takeRecord (s : State) (l p : Nat) (b : List Byte) (t : Nat) : State :=
  let lanes := recLanes b
  let s1 := s.modLink p (fun x => { x with fresh := true, record := b, recT := t, miss := 0 })
  let w := 1 + 2 * recRole b + 8 * (lanes % 4) + 32 * 2 ^ l + 128 * b2n (recCheck b) + 65536 * beAt b 2 2
  let s2 := ((s1.setWord (F.RED_PEER_STAT_SEEN p).off w).put (F.RED_PEER_CFGDIG_HI_DIG p) (beAt b 8 4)).put (F.RED_PEER_CFGDIG_LO_DIG p) (beAt b 12 4)
  let s3 := (s2.putBit F.RED_STATUS_PEERS p true).when (!s.seen p) (·.raise 200)
  let was := s.red.ic == some p
  let s4 := s3.modRed (fun r => { r with
    ic := if recRole b = 1 then some p else if was then none else r.ic, icAge := if recRole b = 1 then 0 else r.icAge })
  let ask := bitOf (recReq b) 2
  let s5 := s4.modRed (fun r => { r with
    axoOut := if ask && s.inCommand then r.axoOut.filter (fun x => x.dest != p) ++ [{ dest := p, t := t, snap := none, next := 0 }] else r.axoOut })
  let offered := bitOf (recReq b) 3 && bitsOf (recReq b) 5 4 == s.ownPos && (was || recRole b == 1)
  let planned := recRole b == 1 && !bitOf lanes 3
  let s6 := if offered && s.role == 2 && !s.flag F.RED_STATUS_POSDUP then s5.resolve (.take planned) else s5
  ((s6.epochSeen (beAt b 2 2)).icShow).cfgDiff
/-- A mirror set is taken, from the In Command known (R483, R487). -/
def State.takeMirror (s : State) (p : Nat) (b : List Byte) : State :=
  if mirrorOk b && s.red.ic == some p then
    (s.epochSeen (beAt b 16 2)).modRed (fun r => { r with mir := if s.role == 2 || r.axo.isSome then some b else r.mir })
  else s
/-- A snapshot part is taken (R496). -/
def State.takePart (s : State) (p : Nat) (b : List Byte) : State :=
  match s.red.axo with
  | some a =>
    if a.ic = p ∧ beAt b 0 2 < 10 then s.modRed (fun r => { r with axo := some { a with parts := putKey (beAt b 0 2) (b.drop 4) a.parts } }) else s
  | none => s
/-- A record that reports this module's own position (R479). -/
def State.posDup (s : State) (b : List Byte) : State :=
  if s.red.out.any (fun x => x.2 == b) then s else (s.put F.RED_STATUS_POSDUP 1).modRed (fun r => { r with dupAge := 0 })
/-- A frame for another destination that has not been forwarded yet leaves on the other link (R477). -/
def State.klForward (s : State) (l src dest fseq t : Nat) (b : List Byte) : State :=
  let old := (s.link src).fwd
  let fresh : Bool := match old with
    | none => true
    | some (f, t') => laterFseq fseq f || decide (0 < linDiff t t')
  if src < 3 ∧ src ≠ s.ownPos ∧ dest ≠ s.ownPos ∧ fresh then
    s.modRed (fun r => { r with out := r.out ++ [(2 - l, b)], peers := modNth r.peers src (fun x => { x with fwd := some (fseq, t) }) })
  else s
/-- A Kalmer frame arrives on a link (R477, R478). [DEDUCED: log 363] -/
def State.klReceive (s : State) (l : Nat) (b : List Byte) : State :=
  let n := b.length
  let len := beAt b 4 2
  if n < 20 ∨ beAt b (n - 4) 4 ≠ crc32c (b.take (n - 4)) then s.incWrap (F.RED_KL_ERR_CHK l)
  else if beAt b 0 2 ≠ 0x4B4C ∨ len + 20 ≠ n ∨ 8192 < len then s
  else
    let type := beAt b 2 1
    let src := beAt b 3 1 % 4
    let dest := beAt b 3 1 / 4 % 4
    let fseq := beAt b 6 2
    let t := beAt b 8 8
    let pay := (b.drop 16).take len
    let s1 := (s.incWrap (F.RED_KL_CNT_FRAMES l)).klForward l src dest fseq t b
    let x := s.link src
    let first := type == 3 && bitOf (recLanes pay) 4
    if src = 3 ∨ type = 0 ∨ 5 < type then s1
    else if src = s.ownPos then (if type = 3 then s1.posDup b else s1)
    else if dest ≠ 3 ∧ dest ≠ s.ownPos then s1
    else if 1000000 < (linDiff t s.majTick).natAbs then s1.put F.RED_ERR_SKEW 1
    else if x.fseq = some fseq ∧ x.lastT = t then
      (if type = 3 then s1.putBit ⟨(F.RED_PEER_STAT_KL0 src).off, 6, 5⟩ l true else s1)
    else if first || !s.seen src || (match x.fseq with | some f => laterFseq fseq f | none => true) then
      let s2 := s1.modLink src (fun x => { x with fseq := some fseq, lastT := t })
      match type with
      | 1 => s2.takeMirror src pay
      | 2 => s2.takePart src pay
      | 3 => if len = 216 then s2.takeRecord l src pay t else s2
      | 4 => s2.peerNotice pay
      | _ => s2
    else s1
/-- KALMER_FRAME_RECEIVED (R477). -/
def execKalmerFrameReceived (l : Fin 2) (bytes : List Byte) (s : State) : Host.Outcome State Fault Refusal := .next (s.klReceive l bytes)
/-- A link goes up or down (R476, R500); event 201. -/
def State.klLink (s : State) (l : Nat) (up : Bool) : State :=
  if s.flag (F.RED_KL_STAT_UP l) = up then s
  else
    let s1 := ((s.putB (F.RED_KL_STAT_UP l) up).when (!up) (·.inc (F.RED_KL_STAT_DOWNS l))).raise 201
    s1.putBit F.PWR_READY_READY 0 (s1.flag (F.RED_KL_STAT_UP 0) || s1.flag (F.RED_KL_STAT_UP 1))
/-- KALMER_LINK_CHANGE (R476). -/
def execKalmerLinkChange (l : Fin 2) (up : Bool) (s : State) : Host.Outcome State Fault Refusal := .next (s.klLink l up)

/-! ### Comparison between modules -/

/-- Difference of one thruster in two THR fields: thrust, angle, whether it is compared, and whether it disagrees (R492). -/
def State.thrDiff (s : State) (a b : List Byte) (i : Nat) : Int × Int × Bool × Bool :=
  let o := 12 * i
  let st (x : List Byte) : Nat := beAt x (o + 8) 1
  let on (x : List Byte) : Bool := st x == 1 || st x == 2
  let dt := toInt 32 (beAt a o 4) - toInt 32 (beAt b o 4)
  let da := toInt 32 (ofInt 32 ((beAt a (o + 4) 4 : Int) - beAt b (o + 4) 4))
  let far := decide (max (s.get F.RED_TOL_TOLP * s.get (F.ALC_D_FMAX_N i)) (s.get F.RED_TOL_TOLA * 100000) < dt.natAbs * 1000)
  let turn := (s.thrType i == 1 || s.thrType i == 3) && decide (s.get F.RED_TOL_TOLANG * 2 ^ 32 < da.natAbs * 36000)
  (dt, da, on a && on b, far || turn)
/-- The pair of two positions, as an index. -/
def pairIx (a b : Nat) : Nat := if min a b = 1 then 2 else max a b - 1
/-- Excess of a thruster over its tolerances, as 1/1000 of the tolerance. -/
def State.thrExcess (s : State) (dt da : Int) (i : Nat) : Nat :=
  let tol := max 1 (max (s.get F.RED_TOL_TOLP * s.get (F.ALC_D_FMAX_N i)) (s.get F.RED_TOL_TOLA * 100000))
  let tola := max 1 (s.get F.RED_TOL_TOLANG * 2 ^ 32)
  max (dt.natAbs * 1000000 / tol) (if s.thrType i = 1 ∨ s.thrType i = 3 then da.natAbs * 36000000 / tola else 0)
/-- CMP, DT and DA of a peer (R493). -/
def State.cmpShow (s : State) (p : Nat) (d : List (Nat × Int × Int)) (dis : Bool) (c : PairCmp) : State :=
  let top (f : Nat × Int × Int → Nat) : Nat × Int × Int := d.foldl (fun acc x => if f acc < f x then x else acc) (0, 0, 0)
  let worst := (top (fun x => s.thrExcess x.2.1 x.2.2 x.1)).1
  let da := (top (fun x => x.2.2.natAbs)).2.2
  (((s.setWord (F.RED_PEER_CMP_SPLIT p).off (b2n c.split + 2 * b2n dis + 256 * min 255 c.dis + 65536 * worst)).put (F.RED_PEER_DT_N p)
    (top (fun x => x.2.1.natAbs)).2.1.natAbs).putI (F.RED_PEER_DA_BAM p) da)
/-- Status record of a position in this frame: the module's own, or one that has arrived for it. -/
def State.frameRec (s : State) (own : List Byte) (p : Nat) : Option (List Byte) :=
  if p = s.ownPos then some own
  else
    let x := s.link p
    if x.fresh && s.seen p && decide ((linDiff x.recT s.majTick).natAbs ≤ 1000000) then some x.record else none
/-- A position takes part in the comparison (R492). [DEDUCED: log 369] -/
def State.takesPart (s : State) (p : Nat) (b : List Byte) : Bool :=
  recRole b == 1 || recRole b == 2 || (recRole b == 0 && (if p = s.ownPos then s.get F.RED_AXO_PHASE == 2 else 0 < beAt b 6 2))
/-- One pair in the MIR window: whether it was compared, disagrees, and has just been split (R492, R493). [DEDUCED: log 368] -/
def State.comparePair (s : State) (own : List Byte) (a b : Nat) : State × Option Bool × Bool :=
  match s.frameRec own a, s.frameRec own b with
  | some x, some y =>
    if s.takesPart a x && s.takesPart b y && !recCheck x && !recCheck y then
      let d := (List.range 16).map (fun i => (i, s.thrDiff (x.drop 24) (y.drop 24) i))
      let cmp := d.filter (fun p => p.2.2.2.1)
      let dis := cmp.any (fun p => p.2.2.2.2)
      let k := pairIx a b
      let c := nth s.red.pairs k { dis := 0, agree := 0, split := false }
      let c1 : PairCmp := if dis then { c with dis := c.dis + 1, agree := 0 } else { c with dis := 0, agree := c.agree + 1 }
      let c2 : PairCmp := { c1 with split := if dis then c1.split || decide (max 1 (s.get F.RED_CFG_CMPN) ≤ c1.dis) else c1.split && decide (c1.agree < max 1 (s.get F.RED_CFG_CLRN)) }
      let s1 := s.modRed (fun r => { r with pairs := setNth r.pairs k c2 })
      let other := if a = s.ownPos then some b else if b = s.ownPos then some a else none
      let s2 := match other with
        | some p => s1.cmpShow p (cmp.map (fun q => (q.1, q.2.1, q.2.2.1))) dis c2
        | none => s1
      (s2, some dis, c2.split && !c.split)
    else (s, none, false)
  | _, _ => (s, none, false)
/-- A module is named faulty (R494); event 197. -/
def State.nameFaulty (s : State) (x : Nat) : State :=
  let s1 := s.raise 197
  if x = s.ownPos then s1.resolve .named
  else
    let lower := s.peerPos.any (fun p => decide (p < s.ownPos) && p != x && s.seen p && recFit false (s.link p).record)
    if recRole (s.link x).record = 1 ∧ s.role = 2 ∧ s.flag F.RED_STATUS_SYNC ∧ lower = false then s1.resolve (.take false) else s1
/-- The comparison of the frame (R492 to R494): the state, the module named, and whether the pair with a given position disagrees. -/
def State.crossCompare (s : State) (own : List Byte) : State × Option Nat × List (Nat × Bool) :=
  let step (acc : State × List Nat × List (Nat × Bool)) (p : Nat × Nat) : State × List Nat × List (Nat × Bool) :=
    let r := acc.1.comparePair own p.1 p.2
    let mate := if p.1 = s.ownPos then [p.2] else if p.2 = s.ownPos then [p.1] else []
    (r.1, if r.2.2 then pairIx p.1 p.2 :: acc.2.1 else acc.2.1, acc.2.2 ++ match r.2.1 with
      | some d => mate.map (fun m => (m, d))
      | none => [])
  let r := [(0, 1), (0, 2), (1, 2)].foldl step (s, [], [])
  let any := r.1.red.pairs.any (·.split)
  let s1 := (r.1.putB F.RED_STATUS_DISAGREE any).when (!r.2.1.isEmpty) (·.raiseMajor 196)
  let cmd := [0, 1, 2].filter (fun p => match s.frameRec own p with
    | some b => recRole b == 1 || recRole b == 2
    | none => false)
  let split (a b : Nat) : Bool := (nth s1.red.pairs (pairIx a b) { dis := 0, agree := 0, split := false }).split
  if s.inCheck then (s1, none, r.2.2)
  else match cmd with
    | [0, 1, 2] =>
      let x := match split 0 1, split 0 2, split 1 2 with
        | true, true, false => some 0
        | true, false, true => some 1
        | false, true, true => some 2
        | _, _, _ => none
      match x with
      | some p => (s1.nameFaulty p, some p, r.2.2)
      | none => (s1, none, r.2.2)
    | [a, b] => (s1.when (r.2.1.contains (pairIx a b) && (a == s.ownPos || b == s.ownPos)) (·.put F.RED_STATUS_MCHECK 1), none, r.2.2)
    | _ => (s1, none, r.2.2)

/-! ### Rules of the MIR window -/

/-- The windows that have passed are counted (R479, R482, R485); peers without a record are lost after LINKTMO. [DEDUCED: log 365 and 377] -/
def State.mirCount (s : State) : State :=
  let s1 := s.each s.peerPos (fun s p =>
    if (s.link p).fresh then s
    else
      let s1 := s.modLink p (fun x => { x with miss := x.miss + 1 })
      s1.when (decide (s.linkTmo ≤ (s1.link p).miss)) (·.peerLose p))
  let icHere := match s.red.ic with
    | some p => (s.link p).fresh
    | none => false
  let s2 := s1.modRed (fun r => { r with
    icAge := if icHere then 0 else min 15 (r.icAge + 1), fbAge := if r.fbSeen then 0 else min 15 (r.fbAge + 1), fbSeen := false, dupAge := min 15 (r.dupAge + 1) })
  s2.when (decide (s.linkTmo < s2.red.dupAge)) (·.put F.RED_STATUS_POSDUP 0)
/-- The number of peers seen. -/
def State.peersSeen (s : State) : Nat := (s.peerPos.filter s.seen).length
/-- First reason that holds; `none` inside stands for a reason without a code. -/
def firstReason (l : List (Bool × Option Nat)) : Option (Option Nat) := (l.find? (·.1)).map (·.2)
/-- A pending CLAIM (R482). -/
def State.claimRule (s : State) (own : List Byte) : State :=
  match s.red.claim with
  | none => s
  | some force =>
    let lowerClaim := s.peerPos.any (fun p => decide (p < s.ownPos) && match s.frameRec own p with
      | some b => bitOf (recReq b) 0
      | none => false)
    let s1 := s.modRed (fun r => { r with claim := none })
    match firstReason [(s.role != 0 && s.role != 2, some 1), (decide (s.red.icAge < s.linkTmo), some 2),
        (s.gsize != 1 && decide (s.peersSeen + 1 < s.gsize) && !force, some 3), (s.flag F.RED_STATUS_POSDUP, some 5), (s.inCheck, some 6),
        (s.red.axo.isSome, none), (lowerClaim, none)] with
    | some r => s1.redRefuse r
    | none => s1.resolve .claim
/-- A pending HANDOVER (R489, R491): the target carried, if it is accepted. -/
def State.handoverRule (s : State) (named : Option Nat) : State × Option Nat :=
  match s.red.handover with
  | none => (s, none)
  | some (t, at') =>
    if s.stageTick 7 + 4600000 ≤ at' then (s, none)
    else
      let s1 := s.modRed (fun r => { r with handover := none })
      let fit := t < 3 && t != s.ownPos && s.seen t && (s.link t).fresh && recFit false (s.link t).record && named != some t
      match firstReason [(s.role != 1, some 1), (!fit, some 4), (s.flag F.RED_STATUS_POSDUP, some 5), (s.inCheck, some 6)] with
      | some r => (s1.redRefuse r, none)
      | none => (s1.resolve .give, some t)
/-- Stage faults that bear on the role (R481): ACQ, ALN, ACT, SUP, EST, ALC. -/
def State.newFault (s : State) : Bool := Nat.land (s.get F.FRM_FAULT_STAGE) 123 - Nat.land (Nat.land (s.get F.FRM_FAULT_STAGE) 123) s.red.faultSeen != 0
/-- They have been acted on. -/
def State.faultTaken (s : State) : State := s.modRed (fun r => { r with faultSeen := s.get F.FRM_FAULT_STAGE })
/-- An In Command hands command of itself: in SINGLE_LANE (R473), or with a stage fault (R481). [DEDUCED: log 366] -/
def State.selfHandRule (s : State) (given : Option Nat) : State × Option Nat :=
  match given with
  | some t => (s, some t)
  | none =>
    if !s.inCommand || s.inCheck then (s.modRed (fun r => { r with single := false }), none)
    else
      let s1 := s.modRed (fun r => { r with single := false })
      match s.red.single, s.fitPeer true, s.newFault, s.fitPeer false with
      | true, some t, _, _ => (s1.resolve .give, some t)
      | _, _, true, some t => (s1.faultTaken.resolve .monitor, some t)
      | _, _, true, none => (s1.faultTaken, none)
      | _, _, _, _ => (s1, none)
/-- Automatic takeover (R485). [DEDUCED: log 367] -/
def State.takeoverRule (s : State) : State :=
  let lost : Bool := match s.red.ic with
    | some p => !s.seen p
    | none => false
  let slots := (List.range 16).any (fun t => s.flag (F.CAN_TLG_CFG_EN t))
  let lower := s.peerPos.any (fun p => decide (p < s.ownPos) && s.seen p && recRole (s.link p).record == 2)
  if s.role = 2 ∧ s.flag F.RED_CFG_AUTOTAKE ∧ lost ∧ (slots = false ∨ s.linkTmo ≤ s.red.fbAge) ∧ lower = false ∧ s.inCheck = false then
    s.resolve (.take false) else s
/-- PHASE changes (R496); event 203. -/
def State.axPhase (s : State) (ph : Nat) : State :=
  if s.get F.RED_AXO_PHASE = ph then s else ((s.put F.RED_AXO_PHASE ph).put F.RED_STATUS_AXPHASE ph).raise 203
/-- Axolotl starts over with the In Command known (R496); event 203. -/
def State.axoRestart (s : State) (ic : Nat) : State :=
  let s1 := (s.inc F.RED_AXO_RESTARTS).modRed (fun r => { r with axo := some { step := 0, ic := ic, parts := [] } })
  (((s1.put F.RED_AXO_PHASE 1).put F.RED_STATUS_AXPHASE 1).put F.RED_AXO_COUNT 0).raise 203
/-- One MIR window of Axolotl on the joining module (R496); `dis` holds the pairs compared in this frame. [DEDUCED: log 379] -/
def State.axoRule (s : State) (dis : List (Nat × Bool)) : State :=
  match s.red.axo with
  | none => s
  | some a =>
    let ic := s.red.ic.filter (fun p => s.seen p)
    if ic ≠ some a.ic then
      match ic with
      | some p => s.axoRestart p
      | none => if a.step = 0 ∧ a.parts.isEmpty ∧ s.get F.RED_AXO_PHASE = 1 then s else s.axoRestart a.ic
    else if s.get F.RED_AXO_PHASE = 2 then
      let b := (s.link a.ic).record
      let same := (s.link a.ic).fresh && beAt b 16 8 == stateDig s.red.mirLast && !s.red.mirLast.isEmpty && dis.lookup a.ic != some true
      let n := if same then min 100 (s.get F.RED_AXO_COUNT + 1) else 0
      let s1 := s.put F.RED_AXO_COUNT n
      if n = 100 then s1.resolve .joined else s1
    else
      let n := a.step + 1
      let s1 := s.axPhase 1
      if n ≤ 10 ∧ (a.parts.lookup (n - 1)).isNone then s1.axoRestart a.ic
      else s1.modRed (fun r => { r with axo := some { a with step := n } })
/-- A pending JOIN (R496). [DEDUCED: log 362 and 376] -/
def State.joinRule (s : State) : State :=
  if !s.red.join then s
  else
    let s1 := s.modRed (fun r => { r with join := false })
    let ic := s.red.ic.filter (fun p => s.seen p)
    match firstReason [(s.role != 0, some 1), (ic.isNone, some 3), (s.flag F.RED_STATUS_POSDUP, some 5), (s.inCheck, some 6)], ic with
    | none, some p => if s.red.axo.isSome then s1 else
        (s1.put F.RED_AXO_COUNT 0).modRed (fun r => { r with axo := some { step := 0, ic := p, parts := [] } })
    | some r, _ => s1.redRefuse r
    | none, none => s1

/-! ### Sending -/

/-- Snapshot parts of the frame (R496). -/
def State.sendParts (s : State) (mirror : List Byte) : State :=
  let one (s : State) (x : AxoSend) : State :=
    if linDiff s.majTick x.t ≤ 0 then s.modRed (fun r => { r with axoOut := r.axoOut ++ [x] })
    else
      let c := match x.snap with
        | some b => (s, b)
        | none => s.axoSnapshot mirror
      let part := beBytes 2 x.next ++ beBytes 2 0 ++ (c.2.drop (6560 * x.next)).take (if x.next = 9 then 6496 else 6560)
      let s1 := c.1.klSend 2 x.dest part
      if 9 ≤ x.next then s1 else s1.modRed (fun r => { r with axoOut := r.axoOut ++ [{ x with snap := some c.2, next := x.next + 1 }] })
  (s.modRed (fun r => { r with axoOut := [] })).each s.red.axoOut one
/-- The recorder notice (R519). -/
def State.sendNotice (s : State) : State :=
  let l := s.rcd.notice.drop (s.rcd.notice.length - 32)
  if l.isEmpty then s else (s.modRec (fun x => { x with notice := l.drop 8 })).klSend 4 3 ((l.take 8).flatMap id)
/-- The frames of the MIR window, the status record first (R477, R479, R487, R496, R499, R519); no mirror set while a stage fault of MIR
is latched (R58). -/
def State.sendAll (s : State) (target : Option Nat) : State :=
  let s1 := (s.klSend 3 3 (s.statusRecord target)).modRed (fun r => { r with first := false, offer := none })
  let s2 := if s.inCommand && !s.bit F.FRM_FAULT_STAGE 7 then
      let m := s.mirrorSet target.isSome
      (((s1.klSend 1 3 m)).sendParts m).modRed (fun r => { r with mirLast := m })
    else s1
  let s3 := s2.sendNotice
  if s3.red.healthKl then (s3.klSend 5 3 (wordBytes (s3.words (F.RED_HEALTH_DATA 0).off 16))).modRed (fun r => { r with healthKl := false }) else s3

/-- The records of the window are done with. -/
def State.recordsDone (s : State) : State := s.modRed (fun r => { r with peers := r.peers.map (fun (x : PeerLink) => { x with fresh := false }) })
/-- The MIR stage (R45, R487): digests of EST and ALC are compared, the role rules evaluated on the records that have arrived, and the
frames sent unless the digest of MIR differs. [DEDUCED: log 360] -/
def State.mirWork (mis : Nat) (peers : List PeerRec) (s0 : State) : State :=
  let s1 := (s0.laneMismatches mis [5, 6]).modEst (fun e => { e with peers := (List.range 3).map (fun p =>
    (peers.find? (fun x => x.p.val == p)).map (fun x => x.words.map (·.toNat))) })
  let s2 := (s1.modRed (fun r => { r with out := [] })).mirCount
  let own := s2.statusRecord none
  let c := s2.crossCompare own
  let h := c.1.handoverRule c.2.1
  let g := h.1.selfHandRule h.2
  let s3 := ((g.1.claimRule own).takeoverRule).axoRule c.2.2
  let s4 := s3.joinRule
  let target := match g.2 with
    | some t => some t
    | none => s4.red.offer
  let s5 := s4.recordsDone
  let claim := s2.red.claim
  if (bitOf mis 2 || s5.digestsDiffer 7) && s5.dualLane then s5.laneMismatch 7
  else
    let s6 := (s5.modRed (fun r => { r with claim := claim })).sendAll target
    s6.modRed (fun r => { r with claim := none })
/-- MIR overran: nothing is sent; the windows still pass (R58, R479). -/
def State.mirOver (s : State) : State :=
  ((s.modRed (fun r => { r with out := [] })).mirCount).recordsDone

/-! ### Commands -/

/-- A write of RED_CMD (R482, R489, R491, R496). -/
def State.redCmd (s : State) (v : Nat) : State :=
  let both := bitOf v 0 && bitOf v 2
  let s1 := if bitOf v 3 then
      let a := (s.modRed (fun r => { r with axo := none, join := false })).axPhase 0
      if s.red.axo.isSome then a.put F.RED_AXO_COUNT 0 else a
    else s
  let s2 := if bitOf v 7 then (if s1.role = 3 ∧ s1.get F.RED_STATUS_LANES ≠ 0 then s1.modRed (fun r => { r with move := some .rejoin }) else s1.redRefuse (some 1)) else s1
  let s3 := if bitOf v 4 then s2.modRed (fun r => { r with handover := some (bitsOf v 6 5, s.now) }) else s2
  if both then s3.redRefuse none
  else if bitOf v 0 then s3.modRed (fun r => { r with claim := some (bitOf v 1) })
  else if bitOf v 2 then s3.modRed (fun r => { r with join := true })
  else s3
/-- RED_CLAIM (R482). -/
def execRedClaim (force : Bool) (s : State) : Host.Outcome State Fault Refusal := .next (s.redCmd (1 + 2 * b2n force))
/-- RED_JOIN (R496). -/
def execRedJoin (s : State) : Host.Outcome State Fault Refusal := .next (s.redCmd 4)
/-- RED_ABANDON (R496). -/
def execRedAbandon (s : State) : Host.Outcome State Fault Refusal := .next (s.redCmd 8)
/-- RED_HANDOVER (R489). -/
def execRedHandover (target : Fin 4) (s : State) : Host.Outcome State Fault Refusal := .next (s.redCmd (16 + 32 * target))
/-- RED_REJOIN (R481). -/
def execRedRejoin (s : State) : Host.Outcome State Fault Refusal := .next (s.redCmd 128)
/-- A write of RED_CFG: POS and GSIZE only in Monitor and Retired; the entry of the own position reads zero. -/
def State.redCfgWrite (s : State) (v : Nat) : State :=
  let w := s.word 0xD00000
  let ok := s.role == 0 || s.role == 3
  let changed := v % 16 != w % 16
  let s1 := s.setWord 0xD00000 (if ok then v else v - v % 16 + w % 16)
  if changed && !ok then s1.redRefuse (some 1)
  else
    let p := s1.ownPos
    if p = s.ownPos then s1
    else
      let s2 := s1.setWords (0xD00100 + 0x20 * p) [0, 0, 0, 0, 0, 0]
      ((s2.putBit F.RED_STATUS_PEERS p false).modRed (fun r => { r with
        peers := setNth r.peers p PeerLink.init, ic := if r.ic = some p then none else r.ic })).icShow

/-! ### The configuration digest -/

/-- Bits of a per-lane word that enter the configuration digest (R495): its RW fields, but for the registers the rule leaves out.
[DEDUCED: log 375] -/
def cfgMask (off : Nat) : Nat :=
  if (0x700040 ≤ off ∧ off < 0x7000A0) ∨ (0x730000 ≤ off ∧ off < 0x730100) ∨ (0x700100 ≤ off ∧ off < 0x700700 ∧ off % 0x20 = 8) ∨
      (0x900100 ≤ off ∧ off < 0x900500 ∧ off % 0x20 = 8) then 0
  else match regAt off with
    | some d => d.fields.foldl (fun acc f => if f.acc = .rw then acc + (2 ^ (f.hi + 1) - 2 ^ f.lo) else acc) 0
    | none => 0
/-- Offsets of the instances of a register. -/
def regOffs (base : Nat) : List (Nat × Nat) → List Nat
  | [] => [base]
  | (st, n) :: r => (List.range n).flatMap (fun k => regOffs (base + st * k) r)
/-- The per-lane parameters, in ascending offset (R633, R495). -/
def cfgOffs : List Nat :=
  ([tabFrm, tabSig, tabAln, tabEst, tabCle, tabAlc, tabPrf].flatMap (fun t => ((t.filter (fun d => d.fields.any (fun f => f.acc == .rw))).flatMap
    (fun d => regOffs d.base d.dims)).mergeSort (fun a b => decide (a ≤ b)))).filter (fun o => cfgMask o != 0)
/-- The digest of parameters given by those that differ from their after-reset values. -/
def cfgDigest (l : List (Nat × Nat)) : Nat :=
  crc64 (cfgOffs.flatMap (fun o => leBytes 4 ((find1 l o).getD (Nat.land (resetNat o) (cfgMask o)))))
/-- The parameters that differ from their after-reset values. -/
def State.cfgNow (s : State) : List (Nat × Nat) :=
  (s.regs.words.filter (fun p => decide (0x100000 ≤ p.1 ∧ p.1 < 0xA00000) && !decide (0x200000 ≤ p.1 ∧ p.1 < 0x400000))).filterMap (fun p =>
    let m := cfgMask p.1
    let v := Nat.land p.2.toNat m
    if v = Nat.land (resetNat p.1) m then none else some (p.1, v))
/-- The configuration digest is formed at a major tick (R495). -/
def State.digestTick (s : State) : State :=
  let l := s.cfgNow
  if s.red.cfg = some l then s.cfgDiff
  else
    let d := cfgDigest l
    (((s.modRed (fun r => { r with cfg := some l })).put F.RED_CFGDIG_LO_DIG (d % 2 ^ 32)).put F.RED_CFGDIG_HI_DIG (d / 2 ^ 32)).cfgDiff

/-! ### The major tick -/

/-- The parts of a snapshot in one piece. -/
def Axo.whole (a : Axo) : List Byte := ((List.range 10).map (fun k => (a.parts.lookup k).getD [])).flatMap id
/-- The snapshot is complete (R496). [DEDUCED: log 374] -/
def Axo.full (a : Axo) : Bool := a.step == 10 && axoOk a.whole
/-- The mirror set for this tick: that of the frame that has ended. -/
def State.mirrorDue (s : State) : Option (List Byte) :=
  s.red.mir.filter (fun b => decide ((linDiff (beAt b 0 8 + 10000000) s.majTick).natAbs ≤ 1000000))
/-- AXOLOTL_SNAPSHOT_LOAD (R496): the snapshot, and the mirror set of frame j + 10; a bad snapshot counts as a missing part. -/
def State.axoLoadStep (s : State) : State :=
  match s.red.axo with
  | none => s
  | some a =>
    if a.step ≠ 10 ∨ s.get F.RED_AXO_PHASE = 2 then s
    else if !a.full then s.axoRestart a.ic
    else
      let s1 := s.axoLoad a.whole
      let s2 := match s.mirrorDue with
        | some b => s1.mirrorApply b
        | none => s1
      (s2.modRed (fun r => { r with axo := some { a with step := 11, parts := [] }, mir := none })).axPhase 2
/-- AXOLOTL_SNAPSHOT_LOAD (R496). -/
def execAxolotlSnapshotLoad (s : State) : Host.Outcome State Fault Refusal := .next (s.lanes fun s => s.axoLoadStep)
/-- The mirror set is missing (R487); event 202. -/
def State.mirrorMiss (s : State) : State :=
  let n := s.red.mirMiss + 1
  ((s.modRed (fun r => { r with mirMiss := n })).put F.RED_STATUS_SYNC 0).when (n == 3) (·.setRaise F.RED_STATUS_MIRLOST 202)
/-- The mirror set at a major tick, before the results of the frame take effect (R487, R490, R496); event 202. -/
def State.mirrorTick (s : State) : State :=
  let s1 := s.axoLoadStep
  let named := s1.red.move == some (.take false)
  let s2 := match s1.mirrorDue, s1.role == 2 && !named, s1.red.axo.isSome && s1.get F.RED_AXO_PHASE == 2 with
    | some b, true, _ => (((s1.mirrorApply b).put F.RED_STATUS_SYNC 1).put F.RED_STATUS_MIRLOST 0)
    | none, true, _ => s1.mirrorMiss
    | some b, _, true => (s1.mirrorApply b).put F.RED_STATUS_MIRLOST 0
    | none, _, true => s1.when (s.red.axo == s1.red.axo) State.mirrorMiss
    | _, _, _ => s1
  s2.modRed (fun r => { r with mir := none })
/-- A module takes command (R483). -/
def State.takeCommand (s : State) : State :=
  let e := (s.red.newest + 1) % 65536
  (((s.modRed (fun r => { r with newest := e, preset := s.role == 2 && r.uLast.isSome })).put F.RED_EPOCH_EPOCH e).setRole 1)
/-- A decided change of role takes effect (R481). [DEDUCED: log 370] -/
def State.roleMove (s : State) (m : RoleMove) : State :=
  match m with
  | .claim => if s.role = 0 ∨ s.role = 2 then s.takeCommand else s
  | .take _ => if s.role = 2 then s.takeCommand.raise 198 else s
  | .give => if s.role = 1 then (s.setRole 2).raise 198 else s
  | .joined =>
    if s.role = 0 then (((s.modRed (fun r => { r with axo := none })).setRole 2).axPhase 0).putB F.RED_STATUS_SYNC (s.red.mirMiss == 0) else s
  | .monitor => if s.role = 1 ∨ s.role = 2 then s.setRole 0 else s
  | .retire | .named => if s.role = 3 then s else ((s.modRed (fun r => { r with axo := none })).setRole 3).axPhase 0
  | .rejoin => if s.role = 3 ∧ s.get F.RED_STATUS_LANES ≠ 0 then s.setRole 0 else s
/-- The role at a major tick (R474, R475, R481, R484). -/
def State.roleTick (s : State) : State :=
  let s1 := (s.modRed (fun r => { r with retire := 0 })).laneRetire s.red.retire
  let s2 := match s1.red.move with
    | some m => (s1.modRed (fun r => { r with move := none })).roleMove m
    | none =>
      if s1.inCommand && s1.red.superseded then s1.setRole 0
      else if s1.role = 2 ∧ s1.newFault then s1.faultTaken.setRole 0
      else s1
  s2.modRed (fun r => { r with faultSeen := Nat.land r.faultSeen (s2.get F.FRM_FAULT_STAGE) })
/-- ROLE_CHANGE (R481). -/
def execRoleChange (s : State) : Host.Outcome State Fault Refusal := .next s.roleTick.survive
/-- AXOLOTL_COMPLETE (R496): 100 consecutive matches. -/
def execAxolotlComplete (s : State) : Host.Outcome State Fault Refusal :=
  .next (if s.red.axo.isSome && s.get F.RED_AXO_COUNT == 100 then (s.modRed (fun r => { r with move := none })).roleMove .joined else s)
/-- Minor-stage values of the mirror set are those of the major tick (R487). -/
def State.tickLatch (s : State) : State := if s.inCommand then s.modRed (fun r => { r with ticked := s.tickMirror }) else s

/-! ### Self-test and health -/

/-- Lane a Jig failure concerns: SRAM, known-answer and matrix tests (R475). -/
def jigLane (k : Nat) : Option Nat := if k < 6 then some (k % 2) else none
/-- The results of the Jig stage (R475, R498); event 204 for each new failure. A stage fault of JIG stops its tests (R58). -/
def State.jigWork (fail ecc : Nat) (cyc : Option Nat) (s : State) : State :=
  if s.bit F.FRM_FAULT_STAGE 8 then s else
  let live (k : Nat) : Bool := match jigLane k with
    | some l => s.bit F.RED_STATUS_LANES l
    | none => true
  let new := (List.range 16).filter (fun k => bitOf fail k && live k)
  let one (s : State) (k : Nat) : State :=
    let f : Fld := ⟨F.RED_JIG_FAIL_SRAM_A.off, k, k⟩
    let s1 := s.setRaise f 204
    match jigLane k with
    | some l => if s.flag F.RED_STATUS_CHECK then s1 else s1.modRed (fun r => { r with retire := setBit r.retire l true })
    | none => if k = 6 then s1.setRaise F.SIG_STATUS_AFE_FAULT 54 else s1
  let s1 := (s.each new one).put F.RED_JIG_ECC_CORR (min (2 ^ 32 - 1) (s.get F.RED_JIG_ECC_CORR + ecc))
  match cyc with
  | some ms => (s1.put F.RED_JIG_CYC_LAST (min 65535 ms)).putMax F.RED_JIG_CYC_MAX (min 65535 ms)
  | none => s1
/-- The health telegram of a slow tick (R499). [DEDUCED: log 378] -/
def State.healthForm (s : State) : State :=
  let flags := s.get F.RED_STATUS_MIRLOST + 2 * s.get F.RED_STATUS_CFGDIFF + 4 * s.get F.RED_STATUS_DISAGREE +
    8 * b2n ((List.range 3).any (fun p => s.flag (F.EST_PEER_STAT_PEERFAIL p))) + 16 * b2n s.red.axo.isSome + 32 * b2n (decide (1000 < s.get F.RED_JIG_CYC_LAST))
  let lanes := s.get F.RED_STATUS_LANES + 4 * s.get F.RED_STATUS_CHECK + 8 * s.get F.RED_STATUS_MCHECK
  let peers := s.get F.RED_STATUS_PEERS + 256 * (s.get (F.RED_KL_STAT_UP 0) + 2 * s.get (F.RED_KL_STAT_UP 1))
  let b := beBytes 1 0x21 ++ beBytes 1 1 ++ beBytes 1 s.ownPos ++ beBytes 1 s.role ++ beBytes 1 lanes ++ beBytes 1 flags ++
    beBytes 2 (s.get F.RED_EPOCH_EPOCH) ++ beBytes 8 s.majTick ++ beBytes 4 s.red.hseq ++ beBytes 4 (s.get F.RED_JIG_CYC_LAST) ++
    beBytes 4 (s.word F.RED_JIG_FAIL_SRAM_A.off) ++ beBytes 4 (s.get F.RED_DOVE_TRANSIENT) ++ beBytes 2 (s.get F.FRM_FAULT_STAGE) ++ beBytes 2 peers ++
    beBytes 4 (s.get F.SEC_SEAL_CNT_COUNT) ++ beBytes 4 (s.get F.RED_JIG_ECC_CORR) ++ beBytes 4 (s.get F.RED_CFGDIG_LO_DIG) ++ List.replicate 12 0#8
  let t := b ++ beBytes 4 (crc32c b)
  (s.setWords (F.RED_HEALTH_DATA 0).off (bytesWords 16 t)).modRed (fun r => { r with hseq := (r.hseq + 1) % 2 ^ 32, healthKl := true, healthEth := true })
/-- The health telegram on Ethernet (R499): minor tick 23 of major frame 0 + 230 µs. -/
def State.healthSend (s : State) : State :=
  if s.red.healthEth && s.flag F.RED_HCFG_EN && s.ready && s.now % 1000000000 / 250000 == 23 then
    let s1 := (s.runInside (s.now / 250000 * 250000 + 230000)).modRed (fun r => { r with healthEth := false })
    let pay := wordBytes (s.words (F.RED_HEALTH_DATA 0).off 16)
    let mac := s.get F.RED_HMAC_HI_MAC * 2 ^ 32 + s.get F.RED_HMAC_LO_MAC
    let net := if s.get F.RED_HCFG_NET = 0 then 3 else s.get F.RED_HCFG_NET
    s1.each ([0, 1].filter (bitOf net)) (fun s n => match s.ethActive n with
      | some p => s.ethQueue p 2 (beBytes 6 mac ++ beBytes 6 (s.get (F.ETH_MAC_HI_MAC p) * 2 ^ 32 + s.get (F.ETH_MAC_LO_MAC p)) ++ beBytes 2 0x88B6 ++ pay)
      | none => s)
  else s
/-- HEALTH_TELEGRAM_SEND (R499). -/
def execHealthTelegramSend (s : State) : Host.Outcome State Fault Refusal := .next s.healthSend

end Sys2Proof.Machine
end

