-- ==== Sys2Proof/Machine/Stages.lean ====
section
/-! DEFINITION. The stages whose work several chapters share, the release (R44, R471, R472, R640) and the overrun of any stage
(R54 to R56). CTL, EST, MIR and JIG stand with their own chapters. -/

namespace Sys2Proof.Machine

open Sys2Proof

/-- The ACQ stage, and the arrivals it gives ALN (R167, R190): its values change together at minor tick + 60 µs (R174). -/
def State.acqStage (cic : List (List Int)) (s : State) : State :=
  (((s.runInside (s.stageTick 0 + 60000)).acq cic).alnArrivals (fun _ => true)).envAcq
/-- ACQ stopped after `done` channels (R175): the arrivals are those of the channels it reached. -/
def State.acqStopped (done : Nat) (cic : List (List Int)) (s : State) : State :=
  let reached := s.acqUnits.take done
  (s.acqOver done cic).alnArrivals (fun c => reached.contains c || (c % 2 == 1 && !s.acqUnits.contains c && reached.contains (c - 1)))
/-- ACQ_STAGE (R42, R167). -/
def execAcqStage (util : Fin 1001) (cic : List (List Int)) (s : State) : Host.Outcome State Fault Refusal :=
  .next (s.lanes fun s => s.stage 0 util (State.acqStage cic) (State.acqStopped 0 cic))

/-- ALN_STAGE (R42, R191). -/
def execAlnStage (util : Fin 1001) (s : State) : Host.Outcome State Fault Refusal :=
  .next (s.lanes fun s => s.stage 1 util (State.alnWork 128) (State.alnWork 0))

/-- Thruster commands, then the first `n` axes (R334, R365). -/
def State.actAxes (n : Nat) (s : State) : State := (s.when (0 < n) State.thrCommands).prfAct n
/-- ACT_STAGE (R42, R334, R363, R414). -/
def execActStage (util : Fin 1001) (s : State) : Host.Outcome State Fault Refusal :=
  .next (s.lanes fun s => s.stage 3 util (fun s => (s.actAxes 32).tlgForm) (State.actAxes 0))

/-- The SUP stage: the continuous check, and the comparison of the digests of ACQ, ALN, CTL and ACT (R285, R470). [DESIGN CHOICE: log 15] -/
def State.supWork (mis : Nat) (s : State) : State :=
  let s1 := s.cleCheck
  ({ s1 with frm := { s1.frm with supOk := true } }).laneMismatches mis [0, 1, 2, 3]
/-- SUP_STAGE (R42). -/
def execSupStage (util : Fin 1001) (mis : BitVec 4) (s : State) : Host.Outcome State Fault Refusal :=
  .next (s.lanes fun s => s.stage 4 util (State.supWork mis.toNat) id)

/-- The digests of EST and ALC are compared at major tick + 4.6 ms (R470). [DESIGN CHOICE: log 76] -/
def State.alcCompare (mis : Nat) (s : State) : State :=
  let t := s.stageTick 6 + 4600000
  let s1 := s.runInside t
  s1.when (t ≤ s1.now) (·.laneMismatches mis [5, 6])

/-- The output units take the ACT outputs, or hold what they have (R44, R471, R472, R640). [DEDUCED: log 74 and 75] -/
def State.releaseWork (mis : Bool) (s : State) : State :=
  let s1 := { s with frm := { s.frm with done := setBit s.frm.done 9 true } }
  if s.red.copy || s.get F.RED_STATUS_LANES == 0 then s1
  else
    let s2 := s1.when ((mis && s.frm.supOk) || s.digestsDiffer 4) (·.laneMismatch 4)
    if s2.flag F.RED_STATUS_CHECK then
      s2.tlgRepeat.each (List.range 16) (fun s t => s.modTlg t (fun x => { x with formed := none }))
    else if s.frm.supOk then s2.prfRelease.tlgRelease
    else s2.tlgOmit
/-- RELEASE (R44): at minor tick + 230 µs, once in a minor frame. -/
def execRelease (mis : Bool) (s : State) : Host.Outcome State Fault Refusal :=
  .next (s.lanes fun s =>
    let t := s.now / 250000 * 250000 + 230000
    if s.framesOn && !bitOf s.frm.done 9 && decide (s.now ≤ t + 4) then
      let s1 := s.runInside t
      s1.when (t ≤ s1.now) (State.releaseWork mis)
    else s)

/-- What a major stage leaves when it is stopped (R55, R56). -/
def State.majorStopped (k : Nat) (s : State) : State :=
  match k with
  | 5 => s.estOver
  | 6 => s.alcOver
  | 7 => s.mirOver
  | _ => s
/-- What a stage leaves when it is stopped (R55, R56, R175, R191); `n` channels, queue entries, slots or axes were complete.
[DESIGN CHOICE: log 77, DEDUCED: log 264] -/
def State.stageStopped (k n : Nat) (cic : List (List Int)) (s : State) : State :=
  match k with
  | 0 => s.acqStopped n cic
  | 1 => s.alnWork n
  | 2 => s.ctlOver n
  | 3 => s.actAxes n
  | _ => s.majorStopped k
/-- Major stages that are forced to overrun and whose window ends by an instant in ns are stopped there (R54, R73). -/
def State.overSettle (t : Nat) (s : State) : State :=
  s.each [5, 6, 7, 8] (fun s k =>
    if bitOf s.frm.running k && decide (s.stageEnd k ≤ t) then ((s.runInside (s.stageEnd k)).majorStopped k).stageOver k else s)
/-- ALC_STAGE (R45). -/
def execAlcStage (util : Fin 1001) (mis : BitVec 2) (s : State) : Host.Outcome State Fault Refusal :=
  .next (
    let s1 := s.lanes fun s => (s.overSettle (s.stageTick 6 + 2600000)).stage 6 util State.alcWork State.alcOver
    s1.when (!bitOf s.frm.done 6 && bitOf s1.frm.done 6 && !bitOf s1.frm.running 6) (·.lanes (State.alcCompare mis.toNat)))
/-- MIR_STAGE (R45, R487). -/
def execMirStage (util : Fin 1001) (mis : BitVec 3) (peers : List PeerRec) (s : State) : Host.Outcome State Fault Refusal :=
  .next (s.lanes fun s => (s.overSettle (s.stageTick 7 + 4600000)).stage 7 util (State.mirWork mis.toNat peers) State.mirOver)
/-- JIG_STAGE (R45, R498). -/
def execJigStage (util : Fin 1001) (fail : BitVec 16) (ecc : Nat) (cyc : Option Nat) (s : State) : Host.Outcome State Fault Refusal :=
  .next (s.lanes fun s => (s.overSettle (s.stageTick 8 + 5100000)).stage 8 util (State.jigWork fail.toNat ecc cyc) id)
/-- What a stage does that completes in its window, with nothing from outside the module in SUP, MIR and JIG. -/
def State.stageWork (k : Nat) (cic : List (List Int)) (s : State) : State :=
  match k with
  | 0 => s.acqStage cic
  | 1 => s.alnWork 128
  | 2 => s.ctlWork
  | 3 => (s.actAxes 32).tlgForm
  | 4 => s.supWork 0
  | 5 => s.estWork
  | 6 => s.alcWork
  | 7 => s.mirWork 0 []
  | _ => s.jigWork 0 0 none
/-- The stage of a lane that completes, at utilisation `util`, while the other lane's overruns: the counter runs to the end of the window. -/
def State.stageBeside (k util : Nat) (cic : List (List Int)) (s : State) : State :=
  (s.stage k util (State.stageWork k cic) id).runInside (s.stageEnd k)
/-- STAGE_OVERRUN (R54): in both lanes, or in one lane, with the utilisation of the other, whose stage completes (R60). A forced overrun may
come as this row, and uses up its count (R73). [DESIGN CHOICE: log 15] -/
def execStageOverrun (stage : Fin 9) (done : Fin 129) (cic : List (List Int)) (one : Option (Fin 2 × Fin 1001)) (s : State) :
    Host.Outcome State Fault Refusal :=
  let stop := State.overrunAt (k := stage.val) (ovr := State.stageStopped stage.val done.val cic)
  .next (match one, s.dualLane && s.stageFree stage && decide (s.now ≤ s.stageEnd stage) with
    | some (l, util), true =>
      let beside := State.stageBeside stage util cic
      if l.val = 0 then s.lanesBy stop beside else s.lanesBy beside stop
    | _, _ => s.lanes stop)

end Sys2Proof.Machine
end

