-- ==== Sys2Proof/Machine/Apply.lean ====
section
/-! DEFINITION. The pending copy of the per-lane blocks (R62 to R64, R639): which tick applies a value, in which order, and what
starts with it; the same for GNS and the telegram slots. Changes of level (R31 to R34). -/

namespace Sys2Proof.Machine

open Sys2Proof

/-- Bits of a word that lie in fields of some kind. -/
def RegDesc.bits (d : RegDesc) (p : FieldDesc → Bool) : Nat :=
  d.fields.foldl (fun acc f => if p f then acc + (2 ^ (f.hi + 1) - 2 ^ f.lo) else acc) 0
/-- Bits of the mapped word at an offset that lie in fields of some kind. -/
def regBits (off : Nat) (p : FieldDesc → Bool) : Nat := match regAt off with
  | some d => d.bits p
  | none => 0
/-- A word with the bits of a mask replaced. -/
def mergeBits (old mask v : Nat) : Nat := old - Nat.land old mask + Nat.land v mask
/-- The word at an offset with its RW fields taken from a written value, expert fields only at expert level (R25, R642). -/
def State.merged (s : State) (off v : Nat) : Nat :=
  mergeBits (s.word off) (regBits off (fun f => f.acc == .rw && (!f.expert || s.expert (off / 0x100000)))) v

/-- The kind of a register that waits for a tick: none for the others, true for one that waits for a major tick (R62). FRM_CTRL acts at
once (R64, R65). [DEDUCED: log 62] -/
def tickKind (off : Nat) : Option Bool :=
  match off / 0x100000 with
  | 1 => if off == 0x100000 then none else some false
  | 3 | 6 | 8 => some true
  | 4 | 5 | 9 => some false
  | 7 => some (off == 0x700000 || (0x700040 ≤ off && off < 0x700100) || 0x730000 ≤ off)
  | 0xA => if 0xA01000 ≤ off && off < 0xA01200 then some false else none
  | _ => none
/-- The block of an offset is a per-lane block that HOLD holds (R5, R64). -/
def heldBlock (off : Nat) : Bool := off / 0x100000 == 1 || (4 ≤ off / 0x100000 && off / 0x100000 ≤ 9)
/-- HPA and HRA, which wait for a latch (R343). -/
def latchReg (off : Nat) : Bool := 0x800200 ≤ off && off < 0x800280 && (off % 0x20 == 0x10 || off % 0x20 == 0x14)

/-- The last write to each register: a write reaches every field of its register, WO fields included (R63). [DEDUCED: log 50] -/
def lastWrites : List PendWrite → List PendWrite
  | [] => []
  | p :: t => if t.any (fun q => q.off == p.off) then lastWrites t else p :: lastWrites t

/-- The W1C bits written as 1 clear (R25). -/
def State.clearW1c (s : State) (off v : Nat) : State :=
  let m := regBits off (fun f => f.acc == .wc)
  if m = 0 then s else s.setWord off (s.word off - Nat.land (s.word off) (Nat.land v m))

/-! ### Values -/

/-- A value of the frame sequencer takes effect (R59, R73). -/
def State.applyFrm (s : State) (off v : Nat) : State :=
  match off with
  | 0x100014 => s.faultClear v
  | 0x10001C => if bitOf v 8 then s.injectSet (v % 16) (v / 16 % 4)
      else { s.setWord off (s.merged off v) with frm := { s.frm with injectLeft := 0 } }
  | _ => s.setWord off (s.merged off v)

/-- A value of the signal chain takes effect. -/
def State.applySig (s : State) (off val : Nat) : State :=
  let v := if 0x401000 ≤ off && off < 0x420000 && off % 0x10 == 4 then val else s.merged off val
  if off = 0x400008 then s.excApply v
  else if 0x400040 ≤ off ∧ off < 0x4000A0 then s.uartApply ((off - 0x400040) / 8) v
  else if 0x401000 ≤ off ∧ off < 0x401600 then
    let n := (off - 0x401000) / 0x10
    match off % 0x10 with
    | 0 => s.sigCfgApply n v
    | 4 => s.sigSrcApply n v
    | _ => s
  else if 0x420000 ≤ off then s.coefApply off v
  else s.setWord off v
/-- A value of the control engine takes effect; SEL.BANK and PIDCHK act later (R639). -/
def State.applyCle (s : State) (off v : Nat) : State :=
  if off = 0x700000 then s.dpaxWrite v
  else if 0x700040 ≤ off ∧ off < 0x700100 then (if off = 0x700040 then s else s.modeRegApply off (s.merged off v))
  else if off < 0x720000 then
    let n := (off - 0x700100) / 0x20
    match (off - 0x700100) % 0x20 with
    | 0 => s.loopCfgApply n (s.merged off v)
    | 4 => s.setWord off (setBits (s.merged off v) 24 24 (bitsOf (s.word off) 24 24))
    | 8 => s.spApply n v
    | _ => s
  else if off < 0x730000 then
    (if (off - 0x720000) % 0x400 = 0x23C then s else s.loopMemApply ((off - 0x720000) / 0x400) ((off - 0x720000) % 0x400) (s.merged off v))
  else s.setWord off (s.merged off v)
/-- A value of the allocator takes effect; descriptions act later. -/
def State.applyAlc (s : State) (off v : Nat) : State :=
  if off = 0x800000 then s.alcCtrlApply (s.merged off v)
  else if 0x800200 ≤ off ∧ off < 0x800280 then
    (if off % 0x20 = 0 then s.envCfgApply ((off - 0x800200) / 0x20) (s.merged off v) else s.setWord off (s.merged off v))
  else if 0x800400 ≤ off ∧ off < 0x800580 then s.groupApply ((off - 0x800400) / 0x10) (s.merged off v)
  else s.setWord off (s.merged off v)
/-- A value of the GNSS block takes effect: EN acts later, a notch in AUTO keeps its FREQ. -/
def State.applyGns (s : State) (off v : Nat) : State :=
  let w := s.merged off v
  if off = 0x300000 then s.setWord off (setBits w 0 0 (bitsOf (s.word off) 0 0))
  else if 0x300108 ≤ off ∧ off < 0x300180 ∧ 8 ≤ off % 0x20 ∧ off % 0x20 < 0x18 ∧ v % 4 = 1 then
    s.setWord off (setBits w 31 8 (bitsOf (s.word off) 31 8))
  else s.setWord off w
/-- A value takes effect; an expert word at basic level does not (R30). The W1C bits of a per-lane block clear with it (R62). -/
def State.applyValue (s0 : State) (p : PendWrite) : State :=
  let blk := p.off / 0x100000
  if !s0.expert blk && regBits p.off (fun f => f.expert && f.acc == .rw) != 0 && regBits p.off (fun f => !f.expert) == 0 then s0
  else
    let s := if heldBlock p.off && p.off != 0x100014 then s0.clearW1c p.off p.val else s0
    match blk with
    | 1 => s.applyFrm p.off p.val
    | 3 => s.applyGns p.off p.val
    | 4 => s.applySig p.off p.val
    | 6 =>
      if 0x630000 ≤ p.off ∧ p.off < 0x640000 then s.estModelWrite p.off p.val
      else if p.off = 0x64001C then s.arbOvrApply p.val else s.setWord p.off (s.merged p.off p.val)
    | 7 => s.applyCle p.off p.val
    | 8 => if 0x810000 ≤ p.off then s else s.applyAlc p.off p.val
    | 9 => if 0x900100 ≤ p.off ∧ p.off < 0x900500 ∧ p.off % 0x20 = 0 then s else s.setWord p.off (s.merged p.off p.val)
    | 0xA => if p.off % 0x20 = 0 then s else s.setWord p.off (s.merged p.off p.val)
    | _ => s.setWord p.off (s.merged p.off p.val)

/-! ### Checked groups, and actions -/

/-- The words of a thruster's description among some writes. -/
def State.descWords (s : State) (l : List PendWrite) (i : Nat) : List (Nat × Nat) :=
  (l.filter (fun p => decide (0x810000 ≤ p.off) && p.off / 0x100000 == 8 && (p.off - 0x810000) / 0x100 == i &&
    (s.expert 8 || p.off % 0x100 != 0x2C))).map (fun p => (p.off, s.merged p.off p.val))
/-- Descriptions, axes and slots whose words are checked together (R339, R370, R380). -/
def State.applyGroups (s : State) (l : List PendWrite) : State :=
  let s1 := s.each (List.range 16) (fun s i =>
    let ws := s.descWords l i
    if ws.isEmpty then s else s.descApply i ws)
  s1.each l (fun s p =>
    if 0x900100 ≤ p.off ∧ p.off < 0x900500 ∧ p.off % 0x20 = 0 then s.prfCfgApply ((p.off - 0x900100) / 0x20) (s.merged p.off p.val)
    else if 0xA01000 ≤ p.off ∧ p.off < 0xA01200 ∧ p.off % 0x20 = 0 then s.tlgCfgApply ((p.off - 0xA01000) / 0x20) (s.merged p.off p.val)
    else s)
/-- What a value starts that stands in its register (R639). -/
def State.actValue (s : State) (p : PendWrite) : State :=
  let off := p.off
  if off = 0x300000 then (if bitOf p.val 0 then s.gnsEnable else if s.flag F.GNS_CTRL_EN then s.gnsDisable else s)
  else if 0x401000 ≤ off ∧ off < 0x401600 ∧ off % 0x10 = 0 then s.bankRequest ((off - 0x401000) / 0x10) (bitsOf p.val 6 6)
  else if 0x600100 ≤ off ∧ off < 0x600280 ∧ off % 0x20 = 0 then s.refRewritten ((off - 0x600100) / 0x20)
  else if 0x600280 ≤ off ∧ off < 0x6002C0 ∧ off % 0x10 = 0 then s.refRewritten (12 + (off - 0x600280) / 0x10)
  else if 0x6002C0 ≤ off ∧ off < 0x6003C0 ∧ off % 0x20 = 0 then s.tgRewritten ((off - 0x6002C0) / 0x20)
  else if 0x700100 ≤ off ∧ off < 0x700700 ∧ (off - 0x700100) % 0x20 = 4 then s.bankAsk ((off - 0x700100) / 0x20) (bitsOf p.val 24 24)
  else if 0x720000 ≤ off ∧ off < 0x72C000 ∧ (off - 0x720000) % 0x400 = 0x23C then
    (if s.expert 7 then s.pidCommit ((off - 0x720000) / 0x400) p.val else s)
  else s
/-- What a WO field starts (R25, R639). -/
def State.actCommand (s : State) (p : PendWrite) : State :=
  let off := p.off
  if off = 0x300000 then s.gnsRestart (bitsOf p.val 2 1)
  else if 0x400010 ≤ off ∧ off < 0x40001C then s.syncApply ((off - 0x400010) / 4) p.val
  else if off = 0x600000 then s.when (bitOf p.val 1) State.estReinit
  else if off = 0x640020 then s.arbClr p.val
  else if off = 0x700040 then s.modeRequest (p.val % 16)
  else if 0x700100 ≤ off ∧ off < 0x700700 ∧ (off - 0x700100) % 0x20 = 0xC then s.loopCmd ((off - 0x700100) / 0x20) p.val
  else if 0x800100 ≤ off ∧ off < 0x800200 ∧ off % 0x10 = 4 then s.thrCmd ((off - 0x800100) / 0x10) p.val
  else if off = 0x800680 then s.energyClear (p.val % 16)
  else if off = 0x90000C then s.prfAbortAll p.val
  else if 0x900100 ≤ off ∧ off < 0x900500 ∧ off % 0x20 = 4 then s.prfCmd ((off - 0x900100) / 0x20) p.val
  else s

/-- Streams of which a CFG or CH word is written (R196). [DEDUCED: log 147] -/
def alnStreams (l : List PendWrite) : List Nat :=
  (List.range 32).filter (fun n => l.any (fun p => p.off == 0x500100 + 0x10 * n || p.off == 0x500104 + 0x10 * n))
/-- Streams of which a quaternion word is written, and no CFG or CH word (R196, R208). -/
def quatStreams (l : List PendWrite) : List Nat :=
  (List.range 32).filter (fun n => !(alnStreams l).contains n &&
    l.any (fun p => decide (0x510014 + 0x40 * n ≤ p.off) && decide (p.off < 0x510024 + 0x40 * n)))
/-- Axes of which V, A, J, EA or EJ changes (R364). -/
def State.limitAxes (s : State) (l : List PendWrite) : List Nat :=
  (List.range 32).filter (fun n => l.any (fun p =>
    decide (0x910000 + 0x80 * n ≤ p.off) && decide (p.off < 0x910014 + 0x80 * n) && s.word p.off != p.val))
/-- The words of the vessel model that enter R288. -/
def State.tuneWords (s : State) : List Nat :=
  (List.range 3).flatMap (fun i => [s.estWord (F.EST_M_VALUE i i).off, s.estWord (F.EST_D_VALUE i i).off])
/-- At basic level the DP-axis slots are tuned afresh after a change of the vessel model (R289). -/
def State.tuneAfter (before : List Nat) (s : State) : State :=
  if s.tuneWords = before ∨ s.expert 7 then s else s.each s.dpSlots (fun s n => s.modLoop n (fun l => { l with retune := true }))

/-- The place of a value among those of one tick, so that the set is judged whole whatever order it came in (R639): a coefficient and a
setpoint are judged by the values of other registers. -/
def valueRank (off : Nat) : Nat :=
  if (0x420000 ≤ off ∧ off < 0x500000) ∨ (0x700100 ≤ off ∧ off < 0x700700 ∧ (off - 0x700100) % 0x20 = 8) then off + 2 ^ 26 else off
/-- A value in its place. -/
def putInOrder (p : PendWrite) : List PendWrite → List PendWrite
  | [] => [p]
  | q :: t => if valueRank p.off < valueRank q.off then p :: q :: t else q :: putInOrder p t
/-- All values of one tick take effect together, then what they start (R639). -/
def State.applyWrites (s0 : State) (ws : List PendWrite) : State :=
  if ws.isEmpty then s0
  else
    let last := lastWrites ws
    let axes := s0.limitAxes last
    let s1 := ((last.foldl (fun l p => putInOrder p l) []).foldl State.applyValue s0).tuneAfter s0.tuneWords
    let s2 := s1.applyGroups last
    let s3 := ((s2.each axes State.axisReplan).each (alnStreams last) State.streamRestart).each (quatStreams last) State.streamCheck
    s3.each last (fun s q => (s.actValue q).actCommand q)
/-- Takes the writes of a kind out of the pending copy and lets them take effect. -/
def State.applyPend (s : State) (p : PendWrite → Bool) : State :=
  { s with frm := { s.frm with pend := s.frm.pend.filter (fun q => !p q) } }.applyWrites (s.frm.pend.filter p)
/-- Minor-stage values at a minor tick (R62, R64). -/
def State.applyMinor (s : State) : State :=
  let held := s.flag F.FRM_CTRL_HOLD || s.frm.releaseAll
  s.applyPend (fun p => tickKind p.off == some false && !(held && heldBlock p.off))
/-- All values at a major tick (R62, R64). -/
def State.applyMajor (s : State) : State :=
  let held := s.flag F.FRM_CTRL_HOLD
  let s1 := s.when (s.frm.releaseAll && !held) State.envHostAll
  { s1 with frm := { s1.frm with releaseAll := s1.frm.releaseAll && held } }.applyPend
    (fun p => (tickKind p.off).isSome && !(held && heldBlock p.off) && !latchReg p.off)

/-! ### Levels -/

/-- Expert fields of a block take their derived values (R32). -/
def State.expertReset (s : State) (blk : Nat) : State :=
  s.each (s.regs.words.filter (fun p => p.1 / 0x100000 == blk)) (fun s p =>
    let m := regBits p.1 (fun f => f.expert && f.acc == .rw)
    if m = 0 then s else s.setWord p.1 (mergeBits (s.word p.1) m (resetNat p.1)))
/-- The block of a bit of GLB_LEVEL changes its level (R32 to R34). -/
def State.levelChange (s : State) (b : Nat) (expert : Bool) : State :=
  match b, expert with
  | 1, false => { s with frm := { s.frm with injectLeft := 0 } }.expertReset 1
  | 4, false => s.sigToBasic
  | 6, true => s.each (List.range 256) (fun s k =>
      let off := 0x630000 + 4 * k
      if (regAt off).isSome then s.setWord off (s.estDerived off) else s)
  | 6, false => s
  | 7, e => s.cleLevel e
  | 8, true => s.put F.ALC_WN_W s.alcWn
  | 15, false => s.expertReset 0xF
  | 2, false | 3, false | 5, false | 8, false => s.expertReset b
  | _, _ => s
/-- GLB_LEVEL takes effect (R31). -/
def State.levelMajor (s : State) : State :=
  let new := s.word 0x20
  let before := s.tuneWords
  let s1 := s.each (List.range 19) (fun s b =>
    let e := bitOf new b
    if bitOf s.frm.level b == e then s
    else
      -- expert words are copied while the block still reads its derived values
      let s1 := s.levelChange b e
      { s1 with frm := { s1.frm with level := setBit s1.frm.level b e } })
  s1.tuneAfter before

end Sys2Proof.Machine
end

