-- ==== Sys2Proof/Machine/Pwr.lean ====
section
/-! DEFINITION. Chapter 21: power states, supplies, resets and readiness (R607 to R617). -/

namespace Sys2Proof.Machine

open Sys2Proof

/-- Changes the power and reset unit. -/
def State.modPwr (s : State) (f : PwrState → PwrState) : State := { s with pwr := f s.pwr }
/-- Code of the power state (R607). -/
def State.powerState (s : State) : Nat := s.get F.PWR_STATUS_STATE
/-- PWR_READY (R616): the READY bits as their rules define them; bits 7 and 9 are kept. [DEDUCED: log 371] -/
def State.pwrReady (s : State) : Nat :=
  let kept := s.get F.PWR_READY_READY
  maskOf [s.flag (F.RED_KL_STAT_UP 0) || s.flag (F.RED_KL_STAT_UP 1), s.ready, s.flag F.REC_STATUS_READY, s.linkUp 0 || s.linkUp 1, s.flag F.SAF_STATUS_READY,
    s.flag F.CAN_STATUS_READY, s.flag F.SIG_STATUS_READY, bitOf kept 7, s.flag F.GNS_STATUS_READY, bitOf kept 9, s.flag F.RTC_STATUS_READY]
/-- PWR_RAIL with OK as the rails stand (R613). -/
def State.pwrRail (s : State) : Nat := setBits (s.word F.PWR_RAIL_OK.off) 7 0 (Nat.xor 0x7F (s.pwr.bad % 128))

/-! ### Resets -/

/-- Register words that a module reset keeps, and the bits kept: the backup domain (R587), SEC_TAMPER, BOOTCNT, RSTCAUSE, the held LOWSEEN
bits, and REC_LG.COPIED, which follows the ring (R614). -/
def heldWords : List (Nat × Nat) :=
  [(0xE0002C, 0x1F), (0x1000004, 0xFFFFFFFF), (0x1000018, 0xFFFFFFFF), (0x1100000, 0xFFFF), (0x1100004, 0xFFFFFFFF), (0x1100008, 0xFFFF), (0x110000C, 0xFF0F),
    (0x1100010, 0xED), (0x1100014, 0xFFFFFFFF), (0x1100018, 0xFFFF), (0x110001C, 0xFFFF), (0x1100020, 0xFFFF0000), (0x1100024, 0xFF), (0x1100028, 0x3FF)] ++
  [(0x110002C, 0xFFFFFFFF), (0x1100030, 0xFFFF), (0x110004C, 0xFFFFFFFF), (0x1100050, 0xFFFF), (0x1100054, 0xFFFFFF), (0x1100058, 0x7F), (0x110005C, 0x3F3F1F),
    (0x1200014, 0x3F), (0x1200020, 0x700)]
/-- The register file after a module reset. -/
def RegFile.afterReset (r : RegFile) : RegFile :=
  heldWords.foldl (fun acc p =>
    let w := resetNat p.1
    acc.setWord p.1 (BitVec.ofNat 32 (w - Nat.land w p.2 + Nat.land (r.word p.1).toNat p.2))) RegFile.empty
/-- A module reset (R614): everything but the backup domain, the secure store, SEC_TAMPER, MRAM, OTP and RSTCAUSE takes its
after-reset value; BOOTCNT counts; the sealed parameters come from the active slot (R448). `cause` is the bit of RSTCAUSE. [DEDUCED: log 406] -/
def State.modReset (s : State) (cause : Nat) : State :=
  let x := s.sec
  let lc := x.lcNext.getD x.lc
  let base : State := { State.reset with
    regs := s.regs.afterReset
    pending := s.pending
    freeCtr := s.freeCtr + 1
    rtc := { s.rtc with conv := [], trimAt := none, trimDue := none, ppsSec := 0 }
    rcd := { RecState.reset with slots := s.rcd.slots, index := s.rcd.index, badmap := s.rcd.badmap, ring := s.rcd.ring }
    gns := { GnsState.reset with aid := s.gns.kept, kept := s.gns.kept }
    sec := { SecState.reset with images := x.images, boot := x.boot, svnMin := x.svnMin, raises := x.raises, lc := lc, steps := x.steps, store := x.store, chal := s.freeCtr, sram := x.sram }
    pwr := { PwrState.reset with bad := s.pwr.bad } }
  let s1 := (((base.put F.SEC_BOOT_LC lc).put F.SEC_LC_STEPS x.steps).incWrap F.SEC_BOOTCNT_COUNT).putBit ⟨0x1200014, 5, 0⟩ cause true
  let s2 := s1.sealReset s.sld (s.get F.SEC_SEAL_STAT_FAILS)
  { s2 with frm := { s2.frm with level := s2.word 0x20 } }
/-- The secure store has been without power: it is zeroed and SSLOST is set (R583). [DEDUCED: log 410] -/
def State.storeLost (s : State) : State := (s.modSec (fun x => { x with store := [] })).putBit ⟨0x1000018, 4, 0⟩ 4 true
/-- The crystal has counted `p` pulses with the time base off (R589); an alarm that came due sets ALMF (R601). [DESIGN CHOICE: log 411] -/
def State.slept (s : State) (p : Nat) : State := (if s.rtc.stopped then s else { s with rtc := s.rtcPulses p }).rtcFollow
/-- POWER_ON_RESET (R613): the main supply was absent for `pulses` crystal pulses; `bad` names VDD_RF, VDD_AFE and VBAT where they are
outside their range. The store was without power (R583). -/
def execPowerOnReset (pulses : Nat) (bad : BitVec 3) (s : State) : Host.Outcome State Fault Refusal :=
  let s1 := (s.put F.RTC_STATUS_READY 0).slept pulses
  .next ((s1.modPwr (fun x => { x with bad := 16 * bad.toNat })).modReset 0).sramClear.storeLost
/-- BROWN_OUT (R613): the monitor of VDD_IO33, VDD_IO18 or VDD_CORE trips; the reset is released with the rail back. -/
def execBrownOut (rail : Fin 3) (s : State) : Host.Outcome State Fault Refusal :=
  .next (((s.railState rail true).railState rail false).modReset 1)
/-- RESET_PIN (R614): a low pulse of RESET_N, µs; below 10 µs it has no effect. -/
def execResetPin (us : Nat) (s : State) : Host.Outcome State Fault Refusal := .next (if us < 10 then s else s.modReset 2)
/-- The island is reset (R427, R614): its state and its registers, the sealed fields apart, take their after-reset values; every contactor
is de-energised. -/
def State.islandReset (s : State) : State :=
  let isl := s.regs.words.filter (fun p => decide (0xC00000 ≤ p.1) && decide (p.1 < 0xD00000))
  let s1 := s.each isl (fun s p => s.setWord p.1 (resetNat p.1 - rwsBits p.1 (resetNat p.1) + rwsBits p.1 p.2.toNat))
  ({ s1 with saf := SafState.reset, sec := { s1.sec with running := setNth s1.sec.running 1 none } }).readyBit 4 false
/-- A reset of the island alone, in RSTCAUSE.ISL (R614). -/
def State.islReset (s : State) : State := s.islandReset.put F.PWR_RSTCAUSE_ISL 1
/-- A refused request: REASON and event 249 (R609, R614). -/
def State.pwrRefuse (s : State) (reason : Nat) : State := ((s.put F.PWR_ERR_REFUSED 1).put F.PWR_ERR_REASON reason).raise 249
/-- A write of PWR_RST (R614). -/
def State.pwrRst (s : State) (port v : Nat) : State :=
  if bitsOf v 31 16 ≠ 0xD860 then s
  else if bitOf v 0 then (s.runInside (s.now + 10000)).modReset 3
  else if !bitOf v 1 then s
  else if s.get F.SAF_STATUS_STATE = 3 ∨ s.get F.SAF_STATUS_STATE = 1 ∨ s.sealOwner port then s.islReset
  else s.pwrRefuse 6
/-- HOST_MODULE_RESET (R614): PWR_RST with MODULE = 1. -/
def execHostModuleReset (port : Fin 2) (key : BitVec 16) (s : State) : Host.Outcome State Fault Refusal :=
  .next (s.pwrRst port (65536 * key.toNat + 1))
/-- HOST_ISLAND_RESET (R614): PWR_RST with ISLAND = 1. -/
def execHostIslandReset (port : Fin 2) (key : BitVec 16) (s : State) : Host.Outcome State Fault Refusal :=
  .next (s.pwrRst port (65536 * key.toNat + 2))
/-- The radio die and the front end lose their supply: READY clears, channels stop, the pulse output is inactive (R608, R613). -/
def State.gnsPowerOff (s : State) : State :=
  let s1 := (s.put F.GNS_STATUS_READY 0).gnsStop
  { s1 with gns := { s1.gns with ppsOut := false, ppsEnd := none } }
/-- The radio die has its supply again and is enabled: its PLL locks anew (R155). -/
def State.gnsPowerOn (s : State) : State := s.when (s.flag F.GNS_CTRL_EN) (fun s => { s with gns := { s.gns with starting := true } })
/-- RAIL_FAULT (R613): 0 VDD_SI, 1 VDD_RF, 2 VDD_AFE; 0 outside its range, 1 lost (VDD_SI below 0.60 V), 2 back within its range. Event 250
goes out when the rail leaves its range, not again while it stays outside.
[DEDUCED: log 407] -/
def State.railFault (s : State) (rail lvl : Nat) : State :=
  let s1 := s.railState (3 + rail) (lvl != 2)
  let ev (s2 : State) : State := s2.when (!bitOf s.pwr.bad (3 + rail)) (·.raiseMajor 250)
  match rail, lvl with
  | 0, 0 => ev (s1.islandSafe 3)
  | 0, 1 => s1.islReset
  | 1, 2 => s1.gnsPowerOn
  | 1, _ => ev s1.gnsPowerOff
  | 2, 0 => ev (s1.setRaise F.SIG_STATUS_AFE_FAULT 54)
  | 2, 1 => ev (s1.setRaise F.SIG_STATUS_AFE_FAULT 54)
  | _, _ => s1
/-- RAIL_FAULT. -/
def execRailFault (rail : Fin 3) (lvl : Fin 3) (s : State) : Host.Outcome State Fault Refusal := .next (s.lanes fun s => s.railFault rail lvl)
/-- HOST_PERST (R614): PERST low in Run or Idle, a hot reset or a function-level reset resets one port (R552). [DEDUCED: log 408] -/
def execHostPerst (p : Fin 2) (kind : Fin 3) (s : State) : Host.Outcome State Fault Refusal :=
  .next (if kind = 0 ∧ 2 ≤ s.powerState then s else s.hostDown p (if kind = 2 then 2 else 1))

/-! ### Lower power states -/

/-- Wake sources that a state offers, as bits of PWR_WAKESRC (R611). -/
def wakeAvail (k : Nat) : Nat := nth [0, 0xFF1C, 0xFF1F, 0xFF0F, 0xF, 0xF] k 0
/-- Sources enabled in PWR_WAKEEN and available in a state. -/
def State.wakeMask (s : State) (k : Nat) : Nat := Nat.land (s.word F.PWR_WAKEEN_PERST0.off) (wakeAvail k)
/-- Of the sources said to have fired, those that count in a state: WAKE and ALARM with their flags set, HOST in Idle only (R611).
[DEDUCED: log 404] -/
def State.wakeFired (s : State) (k src : Nat) : Nat :=
  let m := setBit (setBit (s.wakeMask k) 2 (bitOf (s.wakeMask k) 2 && s.flag F.RTC_PWR_WAKEF)) 3 (bitOf (s.wakeMask k) 3 && s.flag F.RTC_PWR_ALMF)
  Nat.land src (m + if k = 1 then 65536 else 0)
/-- The reason that refuses a request, the lowest that holds (R609). [DEDUCED: log 400] -/
def State.pwrReason (s : State) (k : Nat) : Option Nat :=
  if s.flag F.FRM_STATUS_RUNNING || s.flag F.FRM_STATUS_STARTING then some 1
  else if s.get F.SEC_SEAL_STAT_STATE = 3 ∨ s.get F.SEC_FW_STAT_STATE = 2 ∨ s.get F.SEC_LC_PENDING ≠ 7 then some 2
  else if s.get F.REC_STATUS_STATE = 3 then some 3
  else if 1 ≤ k ∧ k ≤ 5 ∧ s.wakeMask k = 0 then some 4
  else if k = 0 ∨ 6 ≤ k ∨ s.pwr.req.isSome then some 5
  else none
/-- An entry is given up: the module stays in Run; event 248 (R610). -/
def State.pwrCancel (s : State) (src : Nat) : State :=
  ((((s.modPwr (fun x => { x with req := none })).put F.PWR_STATUS_PENDING 0).put F.PWR_STATUS_CANCELLED 1).orBits ⟨0x1200010, 16, 0⟩ src).raise 248
/-- Controllers that were on the bus take part again after integration (R392, R608). -/
def State.canRejoin (s : State) : State :=
  s.each (List.range 8) (fun s n =>
    if s.flag (F.CAN_CTRL_INIT n) || s.get (F.CAN_STATUS_STATE n) == 3 then s
    else (((s.put (F.CAN_STATUS_TXING n) 0).put (F.CAN_STATUS_RXING n) 0).put (F.CAN_STATUS_INTEG n) 1).modCan n (fun c => { c with cur := none }))
/-- The island's contactors are de-energised (R428). -/
def State.contactorsOff (s : State) : State :=
  (s.each (List.range 16) (fun s m =>
    (s.modCon m (fun c => { c with cmd := false })).when (2 ≤ s.coSt m && s.coSt m != 8) (·.put (F.SAF_CO_AUX_STATE m) 1))).put F.SAF_CO_OUT_OUT 0
/-- The parts that a state does not keep are powered down (R608). [DEDUCED: log 409] -/
def State.powerDown (s : State) (k : Nat) : State :=
  let s1 := ((s.klLink 0 false).klLink 1 false).gnsPowerOff
  let s2 := s1.when (2 ≤ k) (fun s => ((List.range 4).foldl (fun s p => s.linkChange p false) s).canRejoin)
  s2.when (3 ≤ k) (fun s => { ((s.setWord F.TIM_STATUS_READY.off 0).sramSleep k) with tim := TimState.reset })
/-- The burst buffer drains, every write good (R512, R610). [DESIGN CHOICE: log 401] -/
def State.recDrain : Nat → State → State
  | 0, s => s
  | f + 1, s => State.recDrain f (s.recWrite none)
/-- Entry into the requested state (R610). `src` names wake sources that fired before step 3, `late` that they did so after step 2.
[DEDUCED: log 402] -/
def State.pwrEnter (s : State) (src : Nat) (late : Bool) : State :=
  match s.pwr.req with
  | none => s
  | some k =>
    let fired := s.wakeFired k src
    let s1 := s.recDrain s.rcd.burst.length
    let s2 := (s1.when (3 ≤ k) State.contactorsOff).when (2 ≤ k) (fun s => (s.hostDown 0 0).hostDown 1 0)
    if fired ≠ 0 then (if late then s2 else s).pwrCancel fired
    else
      let s3 := (s2.powerDown k).modPwr (fun x => { x with req := none })
      (s3.put F.PWR_STATUS_STATE k).put F.PWR_STATUS_PENDING 0
/-- POWER_STATE_ENTRY (R610). -/
def execPowerStateEntry (src : BitVec 17) (late : Bool) (s : State) : Host.Outcome State Fault Refusal := .next (s.pwrEnter src.toNat late)
/-- Exit time of a state, µs (R607). [DEDUCED: log 405] -/
def exitUs (k : Nat) : Nat := nth [0, 2, 20, 200, 2000, 20000] k 0
/-- The end of an exit: WAKESRC, LASTEXIT, event 248 (R612). -/
def State.exitEnd (s : State) (k fired : Nat) : State :=
  (((s.put F.PWR_STATUS_STATE 0).put F.PWR_STATUS_LASTEXIT (exitUs k)).orBits ⟨0x1200010, 16, 0⟩ fired).raise 248
/-- An exit (R612): the sources that fired in one crystal pulse make one exit. -/
def State.pwrWake (s : State) (src : Nat) : State :=
  let k := s.powerState
  let fired := s.wakeFired k src
  if k = 0 ∨ fired = 0 then s
  else if k ≤ 2 then (s.gnsPowerOn.when (k == 2) State.canRejoin).exitEnd k fired
  else if k = 3 then
    let s1 := ((s.gnsPowerOn.canRejoin.islandReset).modRec (fun x => { x with trigs := [], burst := [], lastSlot := none })).setWord F.REC_STATUS_STATE.off 0
    s1.sramWake.exitEnd 3 fired
  else ((s.modReset 4).sramClear.when (k == 5) State.storeLost).exitEnd k fired
/-- WAKE_EXIT (R611, R612): the sources that fired, and the crystal pulses counted in a state that stops the time base. -/
def execWakeExit (src : BitVec 17) (pulses : Nat) (s : State) : Host.Outcome State Fault Refusal :=
  .next ((s.when (3 ≤ s.powerState) (·.slept pulses)).pwrWake src.toNat)
/-- A write of PWR_CMD (R609, R611): with STATE 0 in Idle it wakes the module, and cancels an entry into Idle. [DEDUCED: log 403] -/
def State.pwrCmd (s : State) (v : Nat) : State :=
  let k := v % 8
  if k = 0 ∧ s.powerState = 1 then s.pwrWake 65536
  else if k = 0 ∧ s.pwr.req = some 1 then s.pwrCancel 65536
  else if !bitOf v 8 then s
  else
    match s.pwrReason k with
    | some r => s.pwrRefuse r
    | none => (s.modPwr (fun x => { x with req := some k })).put F.PWR_STATUS_PENDING 1
/-- POWER_STATE_REQUEST (R609): PWR_CMD with GO. -/
def execPowerStateRequest (k : Fin 8) (s : State) : Host.Outcome State Fault Refusal := .next (s.pwrCmd (256 + k))

end Sys2Proof.Machine
end

