-- ==== Sys2Proof/Machine/Tick.lean ====
section
/-! DEFINITION. The ticks of the grid (R37 to R39, R49), the load of the time counter (R99) and its steps (R68 to R71, R95). -/

namespace Sys2Proof.Machine

open Sys2Proof

/-- Changes the frame sequencer. -/
def State.modFrm (s : State) (f : FrmState → FrmState) : State := { s with frm := f s.frm }

/-! ### The work of a tick -/

/-- Results that a lane check or the loss of both lanes keeps from taking effect (R471, R472): those in effect are held (R470). -/
def State.resultsHeld (s0 : State) : State :=
  let hold := s0.flag F.RED_STATUS_CHECK || s0.get F.RED_STATUS_LANES == 0
  let mark := if s0.flag F.FRM_STATUS_MAJOR_WAIT then s0.frm.staleMaj else if hold then 96 else Nat.land s0.frm.stale 96
  let s := s0.modFrm (fun f => { f with staleMaj := mark })
  if hold then
    ((s.modEst (fun e => { e with
      next := [], pub := (s.get F.EST_STATUS_VSTATE, s.get F.EST_STATUS_NPR, s.get F.EST_STATUS_NHR, s.get F.EST_STATUS_NTG) })).modAlc (fun a => { a with next := [], fresh := false })).modMd (fun d => { d with pub := none })
  else s
/-- Slot utilisation of the major frame that ended (R52), and the count of major ticks since RUNNING was set. What lies between a
re-anchor and the next major tick is no complete major frame. [DESIGN CHOICE: log 84] -/
def State.frameCount (s : State) : State :=
  if s.flag F.FRM_STATUS_RUNNING then
    let u := s.frm.utilMax
    let n := s.get F.FRM_MAJCNT_HI_COUNT * 2 ^ 32 + s.get F.FRM_MAJCNT_LO_COUNT + 1
    let s1 := s.when (!s.flag F.FRM_STATUS_MAJOR_WAIT) (fun s => (s.put F.FRM_UTILSUM_LAST u).putMax F.FRM_UTILSUM_MAX u)
    (s1.put F.FRM_MAJCNT_LO_COUNT n).put F.FRM_MAJCNT_HI_COUNT (n / 2 ^ 32)
  else s
/-- The work of a major tick before its values (R31, R49, R487): the results of the frame that ended take effect. [DEDUCED: log 18] -/
def State.majorResults (s : State) : State :=
  let s1 := s.when (s.framesOn && !s.flag F.FRM_STATUS_MAJOR_WAIT) State.mirrorTick
  ((s1.sealMajor.levelMajor).resultsHeld).estMajor.alcMajor
/-- The work of a major tick after its values: roles, blocks of the module, the sequencer's start (R65, R481). -/
def State.majorRest (s : State) : State :=
  let s1 := (s.alnMajor.gnsMajor).hifLoad
  let s2 := (s1.frameCount.modFrm (fun f => { f with utilMax := 0, done := f.done % 32 })).put F.FRM_STATUS_MAJOR_WAIT 0
  let s3 := (s2.sequencerStart.roleTick).tickLatch.digestTick
  s3.when (s3.get F.EST_STATUS_VSTATE == 3) (·.putBit F.PWR_READY_READY 9 true)
/-- The work of a slow tick; `vb` is VBAT in mV where the tick compares it (R588). -/
def State.slowWork (vb : Option Nat) (s : State) : State :=
  let s1 := s.gnsSlow.healthForm.recSlow
  match vb with
  | some mv => s1.vbatCheck mv
  | none => s1
/-- Triggers of the frame that ends fall to the snapshot of this one (R507). -/
def State.trigsDue (s : State) : State :=
  s.modRec (fun r => { r with trigs := r.trigs.map (fun t => { t with late := t.late || !t.due, due := true }) })
/-- The indices of the grid (R39). -/
def State.gridIndex (s : State) : State :=
  (s.put F.FRM_STATUS_MINOR (s.tim.ctr.ns / 250000 % 40)).put F.FRM_STATUS_MAJOR (s.tim.ctr.ns / 10000000)
/-- The work of a tick at which the counter stands. -/
def State.tickHere (major slow : Bool) (vb : Option Nat) (s0 : State) : State :=
  let s1 := s0.edgeKept.bankDone.modFrm (fun f => { f with
    onceMinor := [], onceMajor := if major then [] else f.onceMajor, done := f.done / 32 % 16 * 32, supOk := false })
  let s2 := s1.gridIndex.applyFine.sigTick
  let s3 := if major then (s2.majorResults.put F.FRM_STATUS_GAP 0).applyMajor.majorRest.alcTau else (s2.put F.FRM_STATUS_GAP 0).applyMinor
  let s4 := s3.prfTick.canTick.sealTick.takePreset
  let s5 := { s4 with
    alc := { s4.alc with safTick := s4.word F.SAF_AVAIL_AVAIL.off }, twin := if s4.red.copy then none else s4.twin, red := { s4.red with copy := false } }
  let s6 := (((((s5.trigsDue.failover 0).failover 1).failback 0).failback 1).holdLimit).ptpTick.rtcFollow.calDone
  let s7 := s6.when slow (State.slowWork vb)
  s7.when (s7.snapDue s7.hif.snapReq.isSome major) (State.snapTake s7.hif.snapReq.isSome)

/-! ### Steps -/

/-- The edge at which the counter stands is a tick of a grid of `m` ns (R38). -/
def State.edgeIsTick (s : State) (m : Nat) : Bool := s.tim.ctr.fine % (m * 2 ^ 32) < s.edgeStep
/-- Instants of the counter that other units hold move with a step. [DEDUCED: log 73] -/
def State.timeShift (s : State) (d : Int) : State :=
  let mv (t : Nat) : Nat := (t + d).toNat
  let mvL (t : Nat) : Nat := ofInt 64 (t + d)
  { s with
    tim := { s.tim with
      pulseEnd := s.tim.pulseEnd.map (fun t => t.map mv), hist := s.tim.hist.map (fun h => { h with t := mv h.t }), holdStart := mv s.tim.holdStart
      ptpAt := mv s.tim.ptpAt, lockAt := mv s.tim.lockAt, fines := s.tim.fines.map (fun x => (mv x.1, x.2))
      capIn := s.tim.capIn.map (fun x => x.map (fun e => (e.1, (e.2 + d * 2 ^ 32 : Int).toNat))) }
    eth := { s.eth with
      ports := s.eth.ports.map (fun p => { p with
        upSince := mv p.upSince, annAt := mv p.annAt, lastTx := p.lastTx.map (fun t => t.map mv), sync := none, twoStep := none, asked := none, askedTwo := none
        reqs := p.reqs.map (fun r => { r with t := r.t + d * 2 ^ 16 }) })
      seen := s.eth.seen.map (fun x => { x with t := mv x.t }) }
    sig := { s.sig with
      uartAt := s.sig.uartAt.map mv, tachoIn := s.sig.tachoIn.map (fun e => e.map (fun e => { e with t := mv e.t, lin := mvL e.lin }))
      chans := s.sig.chans.map (fun c => { c with tachoAt := mv c.tachoAt, tachoPrev := c.tachoPrev.map mvL }) }
    prf := { s.prf with
      axes := s.prf.axes.map (fun x => { x with hist := x.hist.map (fun h => (mvL h.1, h.2)) }), steps := s.prf.steps.map (fun x => { x with rel := mv x.rel, edge := x.edge.map mv }) }
    cle := { s.cle with md := { s.cle.md with joyAt := s.cle.md.joyAt.map mv } }
    red := { s.red with handover := s.red.handover.map (fun h => (h.1, mv h.2)) }
    hif := { s.hif with
      busyFrom := s.hif.busyFrom.map mv, snapReq := s.hif.snapReq.map mv
      ports := s.hif.ports.map (fun h => { h with
        sentAt := h.sentAt.map (fun t => t.map mv)
        rings := h.rings.map (fun r => { r with bells := r.bells.map (fun b => (b.1, mv b.2)), queue := r.queue.map (fun x => { x with bell := mv x.bell }) }) }) } }
/-- The grid re-anchors (R68, R69, R71): the gap runs to the first tick on the corrected counter, counted in edges of 4 ns.
[DEDUCED: log 70] -/
def State.reanchor (s : State) : State :=
  let gap := if s.edgeIsTick 250000 then 0 else s.edgesTo (s.nextGrid 250000 * 2 ^ 32)
  let s1 := ((s.inc F.FRM_REANCHOR_COUNT).put F.FRM_REANCHOR_LAST_GAP (min 62499 gap)).putB F.FRM_STATUS_GAP (gap != 0)
  let s2 := s1.putB F.FRM_STATUS_MAJOR_WAIT (s.flag F.FRM_STATUS_RUNNING && !s.edgeIsTick 10000000)
  (s2.when (gap == 0) State.gridIndex).raise 10
/-- A step is applied at a slow tick (R68, R85, R95). [DESIGN CHOICE: log 72, DEDUCED: log 86] -/
def State.stepApply (d : Int) (s0 : State) : State :=
  let s := s0.when (s0.tim.ctr.sec != s0.rtc.ppsSec) (fun s => s.internalPps s.tim.ctr.sec)
  let old := s.tim.ctr
  let tot := ((old.total : Int) + d) % (2 ^ 48 * 1000000000)
  let armed := (List.range 16).filter (fun c => s.flag (F.TIM_CMP_CTRL_ARM c) && !s.cmpReached c)
  let s1 := { s with tim := { s.tim with ctr := ⟨tot.toNat / 1000000000, tot.toNat % 1000000000, old.sub⟩, phase := 0, step := none } }
  let s2 := ((s1.put F.TIM_STATUS_STEP_PENDING 0).put F.TIM_LASTSTEP_LO_VALUE (ofInt 64 d % 2 ^ 32)).put F.TIM_LASTSTEP_HI_VALUE (ofInt 64 d / 2 ^ 32)
  let s3 := (((((((s2.sigStep d).alnStep d).estStep d).gnsStep d old).canStep d).sealStep d).timeShift d).autotrimDrop
  let s4 := if s3.edgeIsTick 1000000000 then s3 else { s3 with rtc := { s3.rtc with ppsSec := s3.tim.ctr.sec } }
  ((s4.raise 16).reanchor).fireAll armed.contains

/-! ### Ticks -/

/-- A step that is due at a slow tick is applied (R95). -/
def State.stepIfDue (s : State) (slow : Bool) : State :=
  match s.tim.step with
  | some p => s.when (slow && decide (p.req + 250000 ≤ s.now)) (State.stepApply p.delta)
  | none => s
/-- The tick at the instant `t` of the counter, which may be a major and a slow one (R38). [DEDUCED: log 71] -/
def State.tickAt (s : State) (vb : Option Nat) (t : Nat) : State :=
  (((s.overSettle t).runTo t).tickHere (t % 10000000 == 0) (t % 1000000000 == 0) vb).stepIfDue (t % 1000000000 == 0)
/-- The counter runs to the next minor tick, in both lanes. -/
def State.tick (vb : Option Nat) (s : State) : State := (s.lanes fun s => s.tickAt vb (s.nextGrid 250000)).survive
/-- Every tick up to an instant in ns of the counter. -/
def State.ticksTo (vb : Option Nat) (t : Nat) (s : State) : State :=
  (List.range ((t - s.now / 250000 * 250000) / 250000)).foldl (fun s _ => s.tick vb) s
/-- MINOR_TICK (R38). -/
def execMinorTick (s : State) : Host.Outcome State Fault Refusal := .next (if s.ready then s.tick none else s)
/-- MAJOR_TICK (R38, R49): with the minor ticks before it. -/
def execMajorTick (s : State) : Host.Outcome State Fault Refusal :=
  .next (if s.ready then s.ticksTo none (s.nextGrid 10000000) else s)
/-- SLOW_TICK (R37): with the ticks before it; VBAT in mV. -/
def execSlowTick (vbatMv : Fin 4096) (s : State) : Host.Outcome State Fault Refusal :=
  .next (if s.ready then s.ticksTo (some vbatMv.val) (s.nextGrid 1000000000) else s)
/-- TIME_STEP (R95): the counter runs to the slow tick at which a pending step is due. -/
def execTimeStep (s : State) : Host.Outcome State Fault Refusal :=
  .next (match s.tim.step with
    | some p => if s.ready then s.ticksTo none ((max (p.req + 250000) (s.now + 1) + 999999999) / 1000000000 * 1000000000) else s
    | none => s)

/-- The load of the counter at reset (R99): from the RTC count, or zero where that is invalid; the edge may be a tick (R38).
[DESIGN CHOICE: log 10] -/
def State.counterLoad (s : State) : State :=
  let ok := s.flag F.RTC_STATUS_VALID
  let n := cond ok s.rtc.count 0
  let c : Counter := { sec := n / 65536, ns := (divRne (n % 65536 * 1000000000 : Nat) 65536).toNat, sub := 0 }
  let s1 := ({ s with tim := { s.tim with ctr := c } }.put F.TIM_STATUS_READY 1).putB F.TIM_STATUS_RTC_INVALID (!ok)
  let slow := s1.edgeIsTick 1000000000
  let s2 := { s1 with rtc := { s1.rtc with ppsSec := if slow then (c.sec + 2 ^ 48 - 1) % 2 ^ 48 else c.sec } }
  s2.when (s2.edgeIsTick 250000) (State.tickHere (s2.edgeIsTick 10000000) slow none)
/-- TIME_COUNTER_LOAD (R99): once, before READY. -/
def execTimeCounterLoad (s : State) : Host.Outcome State Fault Refusal := .next (if s.ready then s else s.counterLoad)

end Sys2Proof.Machine
end

