-- ==== Sys2Proof/Machine/HostAccess.lean ====
section
/-! DEFINITION. Host reads and writes of BAR0 words (R20 to R34, R62, R634 to R642): what a word reads, the shadows, what a write of
each register starts. -/

namespace Sys2Proof.Machine

open Sys2Proof

/-! ### Reading -/

/-- A word without the bits of fields of some kind. -/
def State.wordWithout (s : State) (off : Nat) (p : FieldDesc → Bool) : Nat := s.word off - Nat.land (s.word off) (regBits off p)
/-- Words of the time base that follow the counter (R78, R98). -/
def State.peekTim (s : State) (off : Nat) : Nat :=
  let c := s.tim.ctr
  match off with
  | 0x20000C => s.holdUnc
  | 0x200020 => c.ns
  | 0x200024 => c.sec % 2 ^ 32
  | 0x200028 => c.sec / 2 ^ 32
  | 0x20002C => c.sub
  | 0x200030 => c.lin % 2 ^ 32
  | 0x200034 => c.lin / 2 ^ 32
  | _ => s.wordWithout off (fun f => f.acc == .wo)
/-- Words of the recorder that are windows (R504, R518). -/
def State.peekRec (s : State) (off : Nat) : Nat :=
  if 0xE00040 ≤ off ∧ off < 0xE00060 then leAt ((find1 s.rcd.ring (s.get F.REC_LGIDX_ENTRY)).getD []) (off - 0xE00040) 4
  else if 0xE00100 ≤ off ∧ off < 0xE00200 then leAt (s.slotBytes (s.get F.REC_WINIDX_SLOT)) (off - 0xE00100) 4
  else s.word off
/-- Words of the security block that are windows or follow hidden state (R464, R581, R582). -/
def State.peekSec (s : State) (off : Nat) : Nat :=
  if off = 0x100002C then Nat.lor (s.word off) 15
  else if off = 0x1000034 then (if s.ssOpen then setBit (s.word off) 1 s.ssEntry.isSome else 0)
  else if 0x1000180 ≤ off ∧ off < 0x10001E0 then s.logWord ((off - 0x1000180) / 4)
  else if 0x1000880 ≤ off ∧ off < 0x10008B0 then s.chalWord ((off - 0x1000880) / 4)
  else if 0x1001000 ≤ off ∧ off < 0x1001100 then s.ssWord ((off - 0x1001000) / 4)
  else s.wordWithout off (fun f => f.acc == .wo)
/-- Words of the real-time clock; 0 while its interface is locked out (R600). -/
def State.peekRtc (s : State) (off : Nat) : Nat :=
  if !s.flag F.RTC_STATUS_READY then 0
  else match off with
    | 0x1100000 => s.rtcFrac
    | 0x1100004 => s.rtcSec % 2 ^ 32
    | 0x1100008 => s.rtcSec / 2 ^ 32
    | 0x110005C => setBits (s.word off) 21 16 (s.rcd.ring.filter (fun e => !entryOk e.2)).length
    | _ => s.wordWithout off (fun f => f.acc == .wo)
/-- What a mapped word holds for a reader, without any effect of reading it (R24, R25, R30, R508). [DEDUCED: log 9 and 19] -/
def State.peekMapped (s : State) (port off : Nat) : Nat :=
  match off / 0x100000 with
  | 2 => s.peekTim off
  | 6 => if 0x630000 ≤ off ∧ off < 0x640000 then s.estWord off else s.wordWithout off (fun f => f.acc == .wo)
  | 7 =>
    let n := (off - 0x720000) / 0x400
    let r := (off - 0x720000) % 0x400
    if 0x720000 ≤ off ∧ off < 0x72C000 ∧ r < 0x240 then (if s.expert 7 && (s.loop n).mat then s.word off else s.loopDerived n r)
    else s.wordWithout off (fun f => f.acc == .wo)
  | 8 => if off = 0x800018 then (if s.expert 8 then s.word off else s.alcWn) else s.wordWithout off (fun f => f.acc == .wo)
  | 0xA =>
    if 0xA40000 ≤ off ∧ off < 0xA60000 then s.canWord port ((off - 0xA40000) / 0x4000) ((off - 0xA40000) % 0x4000 / 4)
    else s.wordWithout off (fun f => f.acc == .wo)
  | 0xC => if 0xC00404 ≤ off ∧ off < 0xC00600 ∧ off % 0x40 = 4 then 0 else s.wordWithout off (fun f => f.acc == .wo)
  | 0xE => s.peekRec off
  | 0xF => if 0xF10000 ≤ off ∧ off < 0xF10100 then 0 else (s.hifDerived off).getD (s.word off)
  | 0x10 => s.peekSec off
  | 0x11 => s.peekRtc off
  | 0x12 => if off = 0x120001C then s.pwrReady else if off = 0x1200020 then s.pwrRail else s.wordWithout off (fun f => f.acc == .wo)
  | _ => s.wordWithout off (fun f => f.acc == .wo)
/-- What a word reads without side effect; 0 where nothing is mapped, and for the semaphores (R23, R508, R634). -/
def State.peek (s : State) (port off : Nat) : Nat := if (regAt off).isSome then s.peekMapped port off else 0

/-- The words whose read latches the words above them, as first offset, strides and counts, and words latched (R26, R637). -/
def latchTab : List (Nat × List (Nat × Nat) × Nat) :=
  [(0x100008, [], 1), (0x200050, [], 1), (0x200108, [(32, 16)], 1), (0x600418, [(32, 3)], 1), (0x800608, [(32, 4)], 1),
    (0x800610, [(32, 4)], 1), (0xB00008, [(64, 4)], 1), (0xC00408, [(64, 8)], 1), (0xD00018, [], 1),
    (0xD00028, [], 1), (0xD00044, [], 1), (0xD00110, [(32, 3)], 1), (0xF00014, [], 1), (0xF01100, [(0x1000, 2), (16, 16)], 1)] ++
  [(0x1100014, [], 1), (0x110002C, [], 1), (0x1100034, [], 1), (0x110004C, [], 1), (0x610000, [], 31),
    (0x610100, [(48, 12)], 11), (0x610400, [(48, 4)], 11), (0x610500, [(48, 8)], 11), (0x520000, [(32, 32)], 7), (0x620000, [], 224),
    (0x720280, [(0x400, 48)], 7), (0x820000, [(32, 16)], 7), (0x910040, [(0x80, 32)], 7)] ++
  [(0xA20000, [(0x80, 16)], 31), (0xD00080, [], 15), (0xE00040, [], 7), (0xE00100, [], 63), (0x1000050, [], 3), (0x10001E0, [], 11),
    (0x1000400, [], 143), (0x1000800, [], 23), (0x1000880, [], 11), (0x1000A00, [(48, 8)], 11)] ++
  [(0x700008, [], 1), (0x900014, [], 1), (0x90001C, [], 1), (0xF10100, [], 1), (0xF10108, [], 1), (0x1000060, [], 7), (0x1000080, [], 11),
    (0x1000150, [], 3)]
/-- How many words above it a read of a word latches. -/
def latchCount (off : Nat) : Nat :=
  match latchTab.find? (fun e => e.1 ≤ off && hitDims (off - e.1) e.2.1) with
  | some e => e.2.2
  | none => 0
/-- RC fields clear once read: the last-error codes return to 7, every other to 0 (R25). -/
def State.clearRc (s : State) (off : Nat) : State :=
  let m := regBits off (fun f => f.acc == .rc)
  if m = 0 then s else s.setWord off (s.wordWithout off (fun f => f.acc == .rc) + (if off / 0x100000 = 0xA ∧ off < 0xA01000 then Nat.land 0x7700 m else 0))
/-- A read of a register that has no rule of its own: the shadow, or the word, with RC fields cleared and higher words latched.
[DESIGN CHOICE: log 52] -/
def State.plainRead (s : State) (port off : Nat) : State :=
  let v := (find1 s.shadow off).getD (s.peekMapped port off)
  let n := latchCount off
  let s1 := s.when (n != 0) (·.latch ((List.range n).map (fun k => (off + 4 * k + 4, s.peekMapped port (off + 4 * k + 4)))))
  { s1.clearRc off with hostData := v }
/-- SIG_S_n_STAT: the status latched by the read of VAL is returned once (R174). -/
def State.statRead (s : State) (port off : Nat) : State :=
  let s1 := s.plainRead port off
  { s1 with shadow := eraseKey off s1.shadow }
/-- A 32-bit host read of a mapped word. -/
def State.readMapped (s : State) (port off : Nat) : State :=
  match off / 0x100000 with
  | 2 => if off = 0x200020 then s.nowRead else if off = 0x20006C then s.capRead else s.plainRead port off
  | 4 =>
    if 0x401000 ≤ off ∧ off < 0x401600 ∧ off % 16 = 8 then s.valRead ((off - 0x401000) / 16)
    else if 0x401000 ≤ off ∧ off < 0x401600 ∧ off % 16 = 12 then s.statRead port off
    else s.plainRead port off
  | 0xA =>
    if 0xA40000 ≤ off ∧ off < 0xA60000 then
      let n := (off - 0xA40000) / 0x4000
      let w := (off - 0xA40000) % 0x4000 / 4
      let window := w < (if s.flag (F.CAN_CTRL_MODE n) then 2560 else 20)
      if window && w % 20 == 0 then s.canLockRead port n (w / 20)
      else if window && w % 20 == 19 then s.canReleaseRead port n (w / 20)
      else s.plainRead port off
    else s.plainRead port off
  | 0xF => if 0xF10000 ≤ off ∧ off < 0xF10100 then s.semRead port ((off - 0xF10000) / 4) else s.plainRead port off
  | 0x10 =>
    if 0x1000180 ≤ off ∧ off < 0x10001E0 then s.logWinRead ((off - 0x1000180) / 4)
    else if (0x1001000 ≤ off ∧ off < 0x1001100) ∨ off = 0x1000034 then (s.when (!s.ssOpen) State.ssErr).plainRead port off
    else s.plainRead port off
  | 0x11 =>
    if !s.flag F.RTC_STATUS_READY then { s with hostData := 0 }
    else if off = 0x1100000 then s.fracRead else s.plainRead port off
  | _ => s.plainRead port off
/-- A 32-bit host read of an aligned offset (R23, R634). -/
def State.read32 (s : State) (port off : Nat) : State :=
  if (regAt off).isSome then s.readMapped port off else { s.accErr F.GLB_ACCERR_UNMAPPED port off with hostData := 0 }
/-- A host read of some bytes (R21, R22). -/
def State.hostRead (s : State) (port off size : Nat) : State :=
  if off % 4 ≠ 0 ∨ (size ≠ 4 ∧ size ≠ 8) then { s.accErr F.GLB_ACCERR_WIDTH port off with hostData := 0 }
  else if size = 4 then s.read32 port off
  else
    let s1 := s.read32 port off
    let s2 := s1.read32 port (off + 4)
    { s2 with hostData := s1.hostData + 2 ^ 32 * s2.hostData }

/-! ### Writing -/

/-- A field the host may write under some access type. -/
def FieldDesc.writable (f : FieldDesc) : Bool :=
  match f.acc with
  | .rw | .wc | .wo | .rws | .rwh => true
  | .ro | .rc => false
/-- The written word with the expert bits it may not change at basic level replaced by those the word reads (R642). [DEDUCED: log 57] -/
def State.levelled (s : State) (port off v : Nat) : Nat :=
  if s.expert (off / 0x100000) then v
  else
    let x := regBits off (fun f => f.expert && f.writable)
    if x = 0 then v else mergeBits v x (s.peek port off)
/-- What refuses a write, whole or in part, as its bit of GLB_ACCERR (R641, R30, R642, R453, R592). [DEDUCED: log 56] -/
def State.refusal (s : State) (port off v : Nat) : Option Fld :=
  match regAt off with
  | none => some F.GLB_ACCERR_UNMAPPED
  | some d =>
    let w := d.fields.filter FieldDesc.writable
    if w.isEmpty then some F.GLB_ACCERR_RO_WRITE
    else if s.levelled port off v ≠ v || (!s.expert (off / 0x100000) && w.all (·.expert)) then some F.GLB_ACCERR_LEVEL
    else if w.any (fun f => f.acc == .rws) && !s.sealOwner port then some F.GLB_ACCERR_SEALED
    else if w.any (fun f => f.acc == .rwh) && !s.flag F.RTC_CTRL_HALT then some F.GLB_ACCERR_HALTED
    else none
/-- The RW fields take a value and the W1C bits written as 1 clear, at once (R25). -/
def State.plain (s : State) (off v : Nat) : State := (s.setWord off (s.merged off v)).clearW1c off v
/-- FRM_CTRL, which acts at once (R64, R65). -/
def State.writeFrm (s : State) (off v : Nat) : State :=
  if off = 0x100000 then (s.frmHold (bitOf v 1)).when (bitOf v 0) State.frmStart else s
/-- TIM registers (R84, R86, R96, R100). -/
def State.writeTim (s : State) (off v : Nat) : State :=
  if off = 0x200004 then s.writeDisc v
  else if off = 0x200014 then s.writeManIncr v
  else if off = 0x200048 then s.when (bitOf v 0) State.stepGo
  else if 0x200100 ≤ off then
    let c := (off - 0x200100) / 32
    let armed := s.flag (F.TIM_CMP_CTRL_ARM c)
    match off % 32 with
    | 0 => (s.plain off v).when (bitOf v 0 && !armed) (·.arm c)
    | 8 | 12 => if armed then s else s.plain off v
    | _ => s.plain off v
  else s.plain off v
/-- ETH registers (R107, R110, R111). -/
def State.writeEth (s : State) (off v : Nat) : State :=
  if off < 0xB00100 then
    match off % 64 with
    | 0x10 | 0x14 => if 1000000 < (toInt 32 v).natAbs then s else s.plain off v
    | 0 | 0x18 | 0x34 => (s.plain off v).ptpEval
    | _ => s.plain off v
  else if off = 0xB00204 then (s.plain off v).ptpEval
  else if 0xB00300 ≤ off then (s.plain off v).grpWritten s ((off - 0xB00300) / 8)
  else s.plain off v
/-- CAN registers outside the telegram slots, and the message RAM (R390 to R409). -/
def State.writeCan (s : State) (port off v : Nat) : State :=
  if off < 0xA01000 then
    let n := (off - 0xA00000) / 0x100
    let r := off % 0x100
    if r = 0 then s.canCtrlWrite n v
    else if r = 4 ∨ r = 8 ∨ r = 12 then (if s.flag (F.CAN_CTRL_INIT n) then s.plain off v else s.canCfgErr n)
    else if r = 0x1C then s.canCmd n v
    else if 0x40 ≤ r ∧ r < 0x50 then s.canTxReq n ((r - 0x40) / 4) v
    else if 0x50 ≤ r ∧ r < 0x60 then s.canCancel n ((r - 0x50) / 4) v
    else s.plain off v
  else if 0xA40000 ≤ off then s.canMramWrite port ((off - 0xA40000) / 0x4000) ((off - 0xA40000) % 0x4000 / 4) v
  else s.plain off v
/-- HIF registers (R531, R549, R554, R556). -/
def State.writeHif (s : State) (port off v : Nat) : State :=
  if 0xF01100 ≤ off ∧ off < 0xF03000 then
    let p := (off - 0xF01000) / 0x1000
    let q := off % 0x1000 % 0x100 / 16
    match off % 16 with
    | 0 => s.ringBaseWrite p q 0 v
    | 4 => s.ringBaseWrite p q 1 v
    | 8 => s.ringCfgWrite p q v
    | _ => s.plain off v
  else if 0xF10000 ≤ off ∧ off < 0xF10100 then s.semWrite port ((off - 0xF10000) / 4) v
  else if 0xF20000 ≤ off ∧ off < 0xF20800 then
    let p := (off - 0xF20000) / 0x400
    ((s.plain off v).when (off % 0x400 < 0x20) (·.msixAgain p)).msixSettle p
  else s.plain off v
/-- SEC registers (R451 to R465, R571 to R582). -/
def State.writeSec (s : State) (port off v : Nat) : State :=
  match off with
  | 0x1000010 => s.when (bitOf v 8) (·.lcCommand port (v % 8))
  | 0x1000020 => s.fwCtrl port (v % 2) (v / 2 ^ 16 % 64)
  | 0x1000024 => s.fwCmd port v
  | 0x1000034 => if s.ssOpen then s.plain off v else s.ssErr
  | 0x1000038 => (s.when (bitOf v 0) State.ssWrite).when (bitOf v 1) State.ssErase
  | 0x100003C => s.when (bitOf v 0) State.attGo
  | 0x1000044 => s.when (bitOf v 8) (·.mrHost (v % 8))
  | 0x1000104 => s.sealCmd port v
  | 0x100010C => s.modSeal (fun x => { x with pwLen := v % 128 })
  | 0x1000174 => (s.plain off v).sealIdle
  | _ =>
    if 0x1000110 ≤ off ∧ off < 0x1000150 then s.modSeal (fun x => { x with pw := setNth x.pw ((off - 0x1000110) / 4) v })
    else if 0x10008C0 ≤ off ∧ off < 0x1000920 then s.modSec (fun x => { x with token := setNth x.token ((off - 0x10008C0) / 4) v })
    else if 0x1001000 ≤ off ∧ off < 0x1001100 then s.ssStage ((off - 0x1001000) / 4) v
    else if 0x1010000 ≤ off then s.fwWin port ((off - 0x1010000) / 4) v
    else s.plain off v
/-- RTC registers while the interface is ready, the count while it is halted (R592 to R603). -/
def State.writeRtc (s : State) (off v : Nat) : State :=
  match off with
  | 0x1100000 => s.countWrite 0 v
  | 0x1100004 => s.countWrite 1 v
  | 0x1100008 => s.countWrite 2 v
  | 0x110000C => (s.plain off (setBit v 0 (s.flag F.RTC_CTRL_HALT))).haltWrite (bitOf v 0)
  | 0x110001C => s.trimWrite v
  | 0x1100024 | 0x1100028 | 0x110002C | 0x1100030 => (s.plain off v).leapErr.rtcFollow
  | 0x1100044 => s.calCmd v
  | 0x1100058 => (s.plain off v).pwrEnUp
  | _ => s.plain off v
/-- A write of a register that acts at once. -/
def State.writeNow (s : State) (port off v : Nat) : State :=
  match off / 0x100000 with
  | 1 => s.writeFrm off v
  | 2 => s.writeTim off v
  | 0xA => s.writeCan port off v
  | 0xB => s.writeEth off v
  | 0xC =>
    if off = 0xC00018 then s.safReset v else if off = 0xC0001C then s.safConnRst v else s.plain off v
  | 0xD => if off = 0xD00000 then s.redCfgWrite v else if off = 0xD00008 then s.redCmd v else s.plain off v
  | 0xE => if off = 0xE00004 then s.recCmd port v else s.plain off v
  | 0xF => s.writeHif port off v
  | 0x10 => s.writeSec port off v
  | 0x11 => s.writeRtc off v
  | 0x12 => if off = 0x1200004 then s.pwrCmd v else if off = 0x1200018 then s.pwrRst port v else s.plain off v
  | _ => s.plain off v
/-- A value joins the pending copy (R62); some values never do: out of range, or not for now (R120, R148, R231, R486). -/
def State.writePend (s : State) (port off v : Nat) : State :=
  let pended : State := { s with frm := { s.frm with pend := s.frm.pend ++ [⟨off, v, port⟩] } }
  if off = 0x10001C ∧ bitOf v 8 then
    (if s.inCommand || s.sec.lc == 3 then s
    else if 9 ≤ v % 16 ∨ v / 16 % 4 = 0 then
      ({ s with frm := ({ s.frm with pend := s.frm.pend ++ [⟨off, v % 256, port⟩], injectLeft := 0 } : FrmState) } : State).put F.FRM_INJECT_ARM 0
    else pended)
  else if off = 0x600008 then (if 900000000 < (toInt 32 v).natAbs then s else s.originWrite (some (toInt 32 v)) none)
  else if off = 0x60000C then s.originWrite none (some (toInt 32 v))
  else if off = 0x700040 ∧ s.inCommand = false then s.put F.RED_ERR_NOTCMD 1
  else if off = 0x300054 ∧ 10000000 < (toInt 32 v).natAbs then s
  else if 0x301000 ≤ off ∧ off < 0x302000 ∧ off % 8 = 0 ∧ s.flag F.GNS_CTRL_ALLOC then s
  else if off = 0x300000 ∧ bitOf v 0 then pended.gnsEnable
  else pended
/-- The writable fields of a register take a value, each under its access type: at once, or when their block takes them; the W1C fields
of a per-lane block wait with the others (R62). [DESIGN CHOICE: log 51] -/
def State.writeFields (s : State) (port off v : Nat) : State :=
  match tickKind off with
  | none => s.writeNow port off v
  | some _ =>
    if heldBlock off then s.when (regBits off FieldDesc.writable != 0) (·.writePend port off v)
    else (s.clearW1c off v).when (regBits off (fun f => f.acc == .rw || f.acc == .wo) != 0) (·.writePend port off v)
/-- A value written to a latched word takes the place of its shadow (R26). -/
def State.dropShadow (s : State) (off : Nat) : State :=
  s.when (regBits off (fun f => f.acc == .rw || f.acc == .rws) != 0) (fun s => { s with shadow := eraseKey off s.shadow })
/-- A 32-bit host write of an aligned offset (R23, R25, R62, R641, R642): where only some fields are refused, the others take the value.
[DEDUCED: log 58] -/
def State.write32 (s : State) (port off v : Nat) : State :=
  if off / 0x100000 = 0x11 ∧ (regAt off).isSome ∧ s.flag F.RTC_STATUS_READY = false then s.put F.RTC_STATUS_LOCKWR 1
  else
    match s.refusal port off v with
    | none => ((s.dropShadow off).when (regBits off (fun f => f.acc == .rws) != 0) (·.rwsWrite port off v)).writeFields port off v
    | some e =>
      let s1 := s.accErr e port off
      if e = F.GLB_ACCERR_LEVEL then s1.when (regBits off (fun f => f.writable && !f.expert) != 0) (·.writeFields port off (s.levelled port off v))
      else if e = F.GLB_ACCERR_SEALED then s1.plain off v
      else s1
/-- A host write of some bytes (R21, R22). [DESIGN CHOICE: log 54, DEDUCED: log 55 and 59] -/
def State.hostWrite (s : State) (port off size v : Nat) : State :=
  if off % 4 ≠ 0 ∨ (size ≠ 4 ∧ size ≠ 8) then s.accErr F.GLB_ACCERR_WIDTH port off
  else if size = 4 then s.write32 port off (v % 2 ^ 32)
  else (s.write32 port off (v % 2 ^ 32)).write32 port (off + 4) (v / 2 ^ 32 % 2 ^ 32)

/-! ### Rows -/

/-- HOST_REGISTER_WRITE (R20 to R25): a 64-bit write is two 32-bit writes. -/
def execHostRegisterWrite (port : Fin 2) (off : BitVec 26) (size : Fin 9) (data : BitVec 64) (s : State) : Host.Outcome State Fault Refusal :=
  .next (if off.toNat % 4 = 0 ∧ size = 8 then
    (s.lanes fun s => s.hostWrite port off.toNat 4 data.toNat).lanes fun s => s.hostWrite port (off.toNat + 4) 4 (data.toNat / 2 ^ 32)
  else s.lanes fun s => s.hostWrite port off.toNat size data.toNat)
/-- A host read of some bytes, in both lanes: a 64-bit read is two 32-bit reads. -/
def State.laneRead (s : State) (port off size : Nat) : State :=
  if off % 4 = 0 ∧ size = 8 then
    let a := s.lanes fun s => s.hostRead port off 4
    let b := a.lanes fun s => s.hostRead port (off + 4) 4
    { b with hostData := a.hostData + 2 ^ 32 * b.hostData }
  else s.lanes fun s => s.hostRead port off size
/-- HOST_READ_UNMAPPED (R21, R23, R634): a host read of any offset and size, of BAR0 or of the doorbells (R536). -/
def execHostReadUnmapped (port : Fin 2) (bells : Bool) (off : BitVec 26) (size : Fin 9) (s : State) : Host.Outcome State Fault Refusal :=
  .next (if bells then s.bellRead port off.toNat else s.laneRead port off.toNat size)
/-- READ_CLEAR (R25): a 32-bit host read. -/
def execReadClear (port : Fin 2) (off : BitVec 26) (s : State) : Host.Outcome State Fault Refusal := .next (s.laneRead port off.toNat 4)
/-- SHADOW_LATCH_READ (R26): a 32-bit host read. -/
def execShadowLatchRead (port : Fin 2) (off : BitVec 26) (s : State) : Host.Outcome State Fault Refusal := .next (s.laneRead port off.toNat 4)

end Sys2Proof.Machine
end

