-- ==== Sys2Proof/Machine/Rings.lean ====
section
/-! DEFINITION. What reaches registers from elsewhere than a host access: the recorder's snapshots (R507 to R511), the register
descriptors (R535), and transfers that fail (R542). -/

namespace Sys2Proof.Machine

open Sys2Proof

/-! ### Recorder snapshots -/

/-- A snapshot word (R508). [DEDUCED: log 329] -/
def State.snapWord (s : State) (o : Nat) : Nat := if 0x03FFFFFC < o / 4 * 4 then 0 else s.peek 0 (o / 4 * 4)
/-- The 48 words of a profile. -/
def State.snapWords (s : State) (prof : Nat) : List Nat := (List.range 48).map (fun j => s.snapWord (s.get (F.REC_PROF_W_OFFSET prof j)))
/-- The instant a trigger was raised, ns. -/
def Trig.at (t : Trig) : Nat := t.sec * 1000000000 + t.ns
/-- SNAPLAG of a trigger whose snapshot is taken now (R510). -/
def State.snapLag (s : State) (t : Trig) : Nat := min 0xFFFFFFFF (linDiff s.lin (t.at % 2 ^ 64)).toNat
/-- One snapshot: the triggers it serves form their records in ascending event number (R507, R509). -/
def State.recSnap (s0 : State) (p : Trig → Bool) : State :=
  let ts := s0.rcd.trigs.filter p
  let s := s0.modRec (fun x => { x with trigs := x.trigs.filter (fun t => !p t) })
  s.each ((List.range 256).flatMap (fun e => ts.filter (fun t => t.ev == e))) (fun s t =>
    s.recForm t.ev t.prof (4 * b2n t.late + s0.recFlags) t.sec t.ns (s0.snapLag t) (s0.snapWords t.prof))
/-- RECORDER_SNAPSHOT (R507): the counter runs to tick + 240 µs, or to 10 µs after the oldest raising while the frames do not run;
none is taken in a re-anchor gap. -/
def State.recorderSnapshot (s : State) : State :=
  match s.rcd.trigs with
  | [] => s
  | t0 :: _ =>
    if s.flag F.FRM_STATUS_GAP then s
    else if s.framesOn then
      let e := s.now / 250000 * 250000 + 240000
      let s1 := s.runInside e
      if s1.now < e then s1 else s1.recSnap (·.due)
    else
      let s1 := s.runInside (t0.at + 10000)
      s1.recSnap (fun t => !s1.ready || decide (t.at + 10000 ≤ s1.now) || decide (s1.now < t.at))
/-- RECORDER_SNAPSHOT. -/
def execRecorderSnapshot (s : State) : Host.Outcome State Fault Refusal := .next s.recorderSnapshot

/-! ### Register descriptors -/

/-- A semaphore register, which no descriptor reaches (R535, R551). -/
def semWord (off : Nat) : Bool := 0xF10000 ≤ off && off < 0xF10100
/-- The COUNT pairs of a REG_WRITE. -/
def Desc.pairs (d : Desc) : List (Nat × Nat) := (List.range (leAt d.raw 8 4)).map (fun k => (leAt d.raw (16 + 8 * k) 4, leAt d.raw (20 + 8 * k) 4))
/-- Value of the last pair that names a register. -/
def lastPair (l : List (Nat × Nat)) (off : Nat) : Nat := ((l.filter (fun p => p.1 == off)).getLast?).elim 0 Prod.snd
/-- A TXREQ register. -/
def txreqWord (off : Nat) : Bool := 0xA00000 ≤ off && off < 0xA00800 && 0x40 ≤ off % 0x100 && off % 0x100 < 0x50 && off % 4 == 0
/-- Objects that one write both requests and cancels (R406). -/
def bothAsked (l : List (Nat × Nat)) (off : Nat) : Nat :=
  if txreqWord off then Nat.land (lastPair l off) (lastPair l (off + 0x10))
  else if 0x10 ≤ off && txreqWord (off - 0x10) then Nat.land (lastPair l off) (lastPair l (off - 0x10))
  else 0
/-- A pair is refused. -/
def State.pairRefused (s : State) (p : Nat) (x : Nat × Nat) : Bool := semWord x.1 || x.1 % 4 != 0 || (s.refusal p x.1 x.2).isSome
/-- One pair of a REG_WRITE, beside the pairs behind it: a later pair that names the register wins (R535). [DEDUCED: log 356] -/
def State.pairWrite (s : State) (p : Nat) (all rest : List (Nat × Nat)) (x : Nat × Nat) : State :=
  if semWord x.1 || (rest.any (fun y => y.1 == x.1) && !s.pairRefused p x) then s
  else
    let both := bothAsked all x.1
    (s.when (both != 0) (·.canCfgErr ((x.1 - 0xA00000) / 0x100))).hostWrite p x.1 4 (x.2 - Nat.land x.2 both)
/-- The pairs in order, with the number applied. -/
def State.pairsWrite (s : State) (p : Nat) (all : List (Nat × Nat)) : List (Nat × Nat) → Nat → State × Nat
  | [], n => (s, n)
  | x :: t, n => (s.pairWrite p all t x).pairsWrite p all t (n + b2n (!s.pairRefused p x))
/-- REG_WRITE (R535). -/
def State.regWrite (s : State) (p q : Nat) : State :=
  s.startOp p q 1 (fun s i d =>
    let n := leAt d.raw 8 4
    if n = 0 ∨ 6 < n then s.badParam p q i 1
    else
      let r := s.pairsWrite p d.pairs d.pairs 0
      r.1.descDone p q i (if r.2 = n then 0 else 3) r.2 0)
/-- REG_WRITE (R535). -/
def execRegWrite (p : Fin 2) (q : Fin 16) (s : State) : Host.Outcome State Fault Refusal := .next (s.lanes fun s => s.regWrite p q)
/-- The offsets of a REG_READ. -/
def Desc.reads (d : Desc) : List Nat := (List.range (leAt d.raw 16 4)).map (fun k => leAt d.raw (24 + 4 * k) 4)
/-- COUNT of a REG_READ is in range. -/
def Desc.readOk (d : Desc) : Bool := 1 ≤ leAt d.raw 16 4 && leAt d.raw 16 4 ≤ 10
/-- The reads in order, with the values and whether any was refused. -/
def State.wordsRead (s : State) (p : Nat) : List Nat → List Nat → Bool → State × List Nat × Bool
  | [], vs, bad => (s, vs, bad)
  | o :: t, vs, bad =>
    if semWord o then s.wordsRead p t (vs ++ [0]) true
    else
      let s1 := s.hostRead p o 4
      s1.wordsRead p t (vs ++ [s1.hostData]) (bad || o % 4 != 0 || (regAt o).isNone)
/-- The reads of a descriptor; no host read returns their values. -/
def State.descReads (s : State) (p : Nat) (d : Desc) : State × List Nat × Bool :=
  let r := s.wordsRead p d.reads [] false
  ({ r.1 with hostData := s.hostData }, r.2)
/-- REG_READ (R535). -/
def State.regRead (s : State) (p q : Nat) : State :=
  s.startOp p q 2 (fun s i d =>
    if !d.readOk then s.badParam p q i 2
    else
      let r := s.descReads p d
      (r.1.hostMem p d.addr (wordBytes r.2.1)).descDone p q i (if r.2.2 then 3 else 0) r.2.1.length 0)
/-- REG_READ (R535). -/
def execRegRead (p : Fin 2) (q : Fin 16) (s : State) : Host.Outcome State Fault Refusal := .next (s.lanes fun s => s.regRead p q)

/-! ### Failed transfers -/

/-- A descriptor whose start begins a transfer: its arguments are in range (R534). -/
def Desc.transfers (d : Desc) : Bool :=
  let n := leAt d.raw 16 4
  match d.opc with
  | 2 => d.readOk
  | 3 => n == 0
  | 4 => n < recSlots && 1 ≤ leAt d.raw 20 4 && leAt d.raw 20 4 ≤ 4096
  | 5 => 6 ≤ n && n ≤ 4096
  | 6 => 60 ≤ n && n ≤ 1514 && leAt d.raw 20 1 ≤ 1
  | _ => false
/-- The transfer of a descriptor stops (R542): DMAERR; the results are free. [DEDUCED: log 353] -/
def State.dmaFail (s : State) (p q i : Nat) : State :=
  let fr := s.freeRes
  ((fr.1.descDone p q i 4 fr.2.1 fr.2.2).put F.HIF_ERR_DMA 1).raiseMajor 233
/-- DMA_ERROR (R542): of the transfer that begins next in a ring, of a SNAP_COPY that waits, or of the item for a posted buffer. -/
def State.dmaError (s : State) (p q : Nat) : State :=
  if s.cmdRing p q then
    match (s.startable p q).filter (fun x => x.2.transfers) with
    | some (i, d) => (if d.opc = 2 then (s.descReads p d).1 else s).dmaFail p q i
    | none => match s.snapWaits p q with
      | x :: _ => s.dmaFail p q x.1
      | [] => s
  else
    match s.freeBuf p q, s.hif.items.any (fun x => x.stream == s.get (F.HIF_Q_CFG_STREAM p q)) with
    | some (i, _), true => s.dmaFail p q i
    | _, _ => s
/-- DMA_ERROR (R542). -/
def execDmaError (p : Fin 2) (q : Fin 16) (s : State) : Host.Outcome State Fault Refusal := .next (s.dmaError p q)

end Sys2Proof.Machine
end

