-- ==== Sys2Proof/Machine/Dispatch.lean ====
section
/-! DEFINITION. The command dispatch: one arm per constructor. -/

namespace Sys2Proof.Machine

/-- The effect of a command on everything but the queue. -/
def exec (i : Instr) (s : State) : Host.Outcome State Fault Refusal :=
  match i with
  | .hostRegisterWrite port off size data => Sys2Proof.Machine.execHostRegisterWrite port off size data s
  | .hostReadUnmapped port bells off size => Sys2Proof.Machine.execHostReadUnmapped port bells off size s
  | .readClear port off => Sys2Proof.Machine.execReadClear port off s
  | .shadowLatchRead port off => Sys2Proof.Machine.execShadowLatchRead port off s
  | .rwsWrite port off val => Sys2Proof.Machine.execRwsWrite port off val s
  | .minorTick => Sys2Proof.Machine.execMinorTick s
  | .majorTick => Sys2Proof.Machine.execMajorTick s
  | .slowTick vbatMv => Sys2Proof.Machine.execSlowTick vbatMv s
  | .acqStage util cic => Sys2Proof.Machine.execAcqStage util cic s
  | .alnStage util => Sys2Proof.Machine.execAlnStage util s
  | .ctlStage util => Sys2Proof.Machine.execCtlStage util s
  | .actStage util => Sys2Proof.Machine.execActStage util s
  | .supStage util mis => Sys2Proof.Machine.execSupStage util mis s
  | .release mis => Sys2Proof.Machine.execRelease mis s
  | .estStage util => Sys2Proof.Machine.execEstStage util s
  | .alcStage util mis => Sys2Proof.Machine.execAlcStage util mis s
  | .mirStage util mis peers => Sys2Proof.Machine.execMirStage util mis peers s
  | .jigStage util fail ecc cyc => Sys2Proof.Machine.execJigStage util fail ecc cyc s
  | .stageOverrun stage done cic one => Sys2Proof.Machine.execStageOverrun stage done cic one s
  | .frmStart => Sys2Proof.Machine.execFrmStart s
  | .sequencerStart => Sys2Proof.Machine.execSequencerStart s
  | .frmHold hold => Sys2Proof.Machine.execFrmHold hold s
  | .frmFaultClear mask => Sys2Proof.Machine.execFrmFaultClear mask s
  | .frmInjectArm stage count => Sys2Proof.Machine.execFrmInjectArm stage count s
  | .timeCounterLoad => Sys2Proof.Machine.execTimeCounterLoad s
  | .gnssOffsetMeasurement valid bds ofs => Sys2Proof.Machine.execGnssOffsetMeasurement valid bds ofs s
  | .ptpSyncReceived p sy => Sys2Proof.Machine.execPtpSyncReceived p sy s
  | .ptpSyncTimeout => Sys2Proof.Machine.execPtpSyncTimeout s
  | .holdoverLimit => Sys2Proof.Machine.execHoldoverLimit s
  | .timDiscWrite val => Sys2Proof.Machine.execTimDiscWrite val s
  | .timStepGo => Sys2Proof.Machine.execTimStepGo s
  | .timeStep => Sys2Proof.Machine.execTimeStep s
  | .compareArm c => Sys2Proof.Machine.execCompareArm c s
  | .compareFire c => Sys2Proof.Machine.execCompareFire c s
  | .trigPulseEnd c => Sys2Proof.Machine.execTrigPulseEnd c s
  | .captureEdge n rising => Sys2Proof.Machine.execCaptureEdge n rising s
  | .timCapfifoRead port => Sys2Proof.Machine.execTimCapfifoRead port s
  | .timNowRead port => Sys2Proof.Machine.execTimNowRead port s
  | .ethLinkChange p up => Sys2Proof.Machine.execEthLinkChange p up s
  | .ethFailover net => Sys2Proof.Machine.execEthFailover net s
  | .ethFailback net => Sys2Proof.Machine.execEthFailback net s
  | .ethFrameReceived p good frac bytes => Sys2Proof.Machine.execEthFrameReceived p good frac bytes s
  | .ethFrameSend p frac => Sys2Proof.Machine.execEthFrameSend p frac s
  | .ptpAnnounceReceived p domain ds => Sys2Proof.Machine.execPtpAnnounceReceived p domain ds s
  | .ptpAnnounceTimeout p => Sys2Proof.Machine.execPtpAnnounceTimeout p s
  | .ptpMessageTransmit p kind frac => Sys2Proof.Machine.execPtpMessageTransmit p kind frac s
  | .iec450Datagram p g frac bytes => Sys2Proof.Machine.execIec450Datagram p g frac bytes s
  | .igmpQuery p => Sys2Proof.Machine.execIgmpQuery p s
  | .gnssEnable => Sys2Proof.Machine.execGnssEnable s
  | .gnssRfPllLock pos10 pos100 => Sys2Proof.Machine.execGnssRfPllLock pos10 pos100 s
  | .gnssDisable => Sys2Proof.Machine.execGnssDisable s
  | .gnssRestart kind => Sys2Proof.Machine.execGnssRestart kind s
  | .acqDwellComplete n snap bins => Sys2Proof.Machine.execAcqDwellComplete n snap bins s
  | .gnssRequeue n => Sys2Proof.Machine.execGnssRequeue n s
  | .gnssTrackLock n ints => Sys2Proof.Machine.execGnssTrackLock n ints s
  | .gnssPullinTimeout n => Sys2Proof.Machine.execGnssPullinTimeout n s
  | .gnssTrackLoss n ints => Sys2Proof.Machine.execGnssTrackLoss n ints s
  | .gnssReacqTimeout n => Sys2Proof.Machine.execGnssReacqTimeout n s
  | .cycleSlipCheck n ints jump => Sys2Proof.Machine.execCycleSlipCheck n ints jump s
  | .measurementEpoch => Sys2Proof.Machine.execMeasurementEpoch s
  | .epochRecordComplete => Sys2Proof.Machine.execEpochRecordComplete s
  | .gnssSolution sol => Sys2Proof.Machine.execGnssSolution sol s
  | .spoofClear => Sys2Proof.Machine.execSpoofClear s
  | .notchSpectrum k agc power lines => Sys2Proof.Machine.execNotchSpectrum k agc power lines s
  | .jamDetect k => Sys2Proof.Machine.execJamDetect k s
  | .ppsTimeMessage => Sys2Proof.Machine.execPpsTimeMessage s
  | .ppsPulse => Sys2Proof.Machine.execPpsPulse s
  | .ppsPulseEnd => Sys2Proof.Machine.execPpsPulseEnd s
  | .uartSentence u framingError ago bytes => Sys2Proof.Machine.execUartSentence u framingError ago bytes s
  | .tachoEdge n rising => Sys2Proof.Machine.execTachoEdge n rising s
  | .tachoZeroTimeout n => Sys2Proof.Machine.execTachoZeroTimeout n s
  | .sigChannelTimeout n => Sys2Proof.Machine.execSigChannelTimeout n s
  | .sigSync w mask port => Sys2Proof.Machine.execSigSync w mask port s
  | .sigBankSwitch n bank => Sys2Proof.Machine.execSigBankSwitch n bank s
  | .sigValRead n port => Sys2Proof.Machine.execSigValRead n port s
  | .afeCalibrationComplete ok => Sys2Proof.Machine.execAfeCalibrationComplete ok s
  | .excOverload r => Sys2Proof.Machine.execExcOverload r s
  | .alnStreamReconfigure n => Sys2Proof.Machine.execAlnStreamReconfigure n s
  | .pendingInstantExpiry n => Sys2Proof.Machine.execPendingInstantExpiry n s
  | .trackTimeout track => Sys2Proof.Machine.execTrackTimeout track s
  | .estReinit => Sys2Proof.Machine.execEstReinit s
  | .estOriginChange => Sys2Proof.Machine.execEstOriginChange s
  | .originDeferExpiry => Sys2Proof.Machine.execOriginDeferExpiry s
  | .outvoteHoldExpiry ref => Sys2Proof.Machine.execOutvoteHoldExpiry ref s
  | .contradictionHoldExpiry heading => Sys2Proof.Machine.execContradictionHoldExpiry heading s
  | .rehabExpiry ref => Sys2Proof.Machine.execRehabExpiry ref s
  | .headingLoss => Sys2Proof.Machine.execHeadingLoss s
  | .geckoEntry => Sys2Proof.Machine.execGeckoEntry s
  | .geckoTlim => Sys2Proof.Machine.execGeckoTlim s
  | .estArbClr mask => Sys2Proof.Machine.execEstArbClr mask s
  | .cleDpaxWrite val => Sys2Proof.Machine.execCleDpaxWrite val s
  | .cmdPid n => Sys2Proof.Machine.execCmdPid n s
  | .cmdMain n => Sys2Proof.Machine.execCmdMain n s
  | .cmdRestart n => Sys2Proof.Machine.execCmdRestart n s
  | .cmdPreset n => Sys2Proof.Machine.execCmdPreset n s
  | .cleBankSwitch n bank => Sys2Proof.Machine.execCleBankSwitch n bank s
  | .clePidchkCommit port n val => Sys2Proof.Machine.execClePidchkCommit port n val s
  | .osatSaturationCount n => Sys2Proof.Machine.execOsatSaturationCount n s
  | .blendComplete n => Sys2Proof.Machine.execBlendComplete n s
  | .modeRequest m => Sys2Proof.Machine.execModeRequest m s
  | .joystickTimeout => Sys2Proof.Machine.execJoystickTimeout s
  | .berthedClear => Sys2Proof.Machine.execBerthedClear s
  | .pressLoss => Sys2Proof.Machine.execPressLoss s
  | .alcThrusterFault ix => Sys2Proof.Machine.execAlcThrusterFault ix s
  | .alcThrusterClrflt ix => Sys2Proof.Machine.execAlcThrusterClrflt ix s
  | .crossingBegin ix => Sys2Proof.Machine.execCrossingBegin ix s
  | .rudderCommitChange ix => Sys2Proof.Machine.execRudderCommitChange ix s
  | .envelopeLatch => Sys2Proof.Machine.execEnvelopeLatch s
  | .envelopeStale b => Sys2Proof.Machine.execEnvelopeStale b s
  | .consequenceAlarm g => Sys2Proof.Machine.execConsequenceAlarm g s
  | .consequenceAlarmClear g => Sys2Proof.Machine.execConsequenceAlarmClear g s
  | .energyBinComplete b => Sys2Proof.Machine.execEnergyBinComplete b s
  | .energyClear mask => Sys2Proof.Machine.execEnergyClear mask s
  | .prfMove n => Sys2Proof.Machine.execPrfMove n s
  | .prfStop n => Sys2Proof.Machine.execPrfStop n s
  | .prfAbort n => Sys2Proof.Machine.execPrfAbort n s
  | .prfAbortall mask => Sys2Proof.Machine.execPrfAbortall mask s
  | .prfHome n => Sys2Proof.Machine.execPrfHome n s
  | .prfResume n => Sys2Proof.Machine.execPrfResume n s
  | .prfClrflt n => Sys2Proof.Machine.execPrfClrflt n s
  | .moveComplete n => Sys2Proof.Machine.execMoveComplete n s
  | .axinDebouncedChange ix level samples => Sys2Proof.Machine.execAxinDebouncedChange ix level samples s
  | .inputChatter ix changes => Sys2Proof.Machine.execInputChatter ix changes s
  | .stepEdge o => Sys2Proof.Machine.execStepEdge o s
  | .microstepHoldAmplitude n => Sys2Proof.Machine.execMicrostepHoldAmplitude n s
  | .canInitClear n => Sys2Proof.Machine.execCanInitClear n s
  | .canInitSet n => Sys2Proof.Machine.execCanInitSet n s
  | .canIntegrationComplete n => Sys2Proof.Machine.execCanIntegrationComplete n s
  | .canFrameReceived n f ago => Sys2Proof.Machine.execCanFrameReceived n f ago s
  | .tlgFeedbackTimeout t => Sys2Proof.Machine.execTlgFeedbackTimeout t s
  | .canTxOpportunity n => Sys2Proof.Machine.execCanTxOpportunity n s
  | .canTxAttemptEnd n e ago => Sys2Proof.Machine.execCanTxAttemptEnd n e ago s
  | .canTxCommit port n sshot => Sys2Proof.Machine.execCanTxCommit port n sshot s
  | .canTxreq n w mask => Sys2Proof.Machine.execCanTxreq n w mask s
  | .canCancel n w mask => Sys2Proof.Machine.execCanCancel n w mask s
  | .canTxfflush n => Sys2Proof.Machine.execCanTxfflush n s
  | .canRecover n => Sys2Proof.Machine.execCanRecover n s
  | .canRecoveryComplete n => Sys2Proof.Machine.execCanRecoveryComplete n s
  | .canClrcnt n => Sys2Proof.Machine.execCanClrcnt n s
  | .canBufferLockRead port n buf => Sys2Proof.Machine.execCanBufferLockRead port n buf s
  | .canBufferReleaseRead port n buf => Sys2Proof.Machine.execCanBufferReleaseRead port n buf s
  | .canLockTimeout port n => Sys2Proof.Machine.execCanLockTimeout port n s
  | .canReady ok => Sys2Proof.Machine.execCanReady ok s
  | .islandTick a b fb rb srst => Sys2Proof.Machine.execIslandTick a b fb rb srst s
  | .discrepancyLock n => Sys2Proof.Machine.execDiscrepancyLock n s
  | .contactorFeedbackTimeout m => Sys2Proof.Machine.execContactorFeedbackTimeout m s
  | .cat1DelayExpiry m => Sys2Proof.Machine.execCat1DelayExpiry m s
  | .safePduSend c => Sys2Proof.Machine.execSafePduSend c s
  | .safePduReceived net pdu at10 => Sys2Proof.Machine.execSafePduReceived net pdu at10 s
  | .copyWindowExpiry c => Sys2Proof.Machine.execCopyWindowExpiry c s
  | .connectionWatchdogExpiry c => Sys2Proof.Machine.execConnectionWatchdogExpiry c s
  | .resetInputRelease r => Sys2Proof.Machine.execResetInputRelease r s
  | .resetInputStuck r => Sys2Proof.Machine.execResetInputStuck r s
  | .safHostReset mask => Sys2Proof.Machine.execSafHostReset mask s
  | .safConnrst mask => Sys2Proof.Machine.execSafConnrst mask s
  | .clockMonitorCheck tcxo rc xtal => Sys2Proof.Machine.execClockMonitorCheck tcxo rc xtal s
  | .islandBoot => Sys2Proof.Machine.execIslandBoot s
  | .islandSafeFault cause => Sys2Proof.Machine.execIslandSafeFault cause s
  | .islandConfigApply ok => Sys2Proof.Machine.execIslandConfigApply ok s
  | .sealOpen port => Sys2Proof.Machine.execSealOpen port s
  | .passwordCheckComplete => Sys2Proof.Machine.execPasswordCheckComplete s
  | .backoffExpiry => Sys2Proof.Machine.execBackoffExpiry s
  | .sealClose port => Sys2Proof.Machine.execSealClose port s
  | .sealCommit port => Sys2Proof.Machine.execSealCommit port s
  | .commitComplete ok => Sys2Proof.Machine.execCommitComplete ok s
  | .sealSetpw port => Sys2Proof.Machine.execSealSetpw port s
  | .sealRoll port => Sys2Proof.Machine.execSealRoll port s
  | .sealDiscard port => Sys2Proof.Machine.execSealDiscard port s
  | .sealIdleTimeout => Sys2Proof.Machine.execSealIdleTimeout s
  | .secSealLogwinRead port k => Sys2Proof.Machine.execSecSealLogwinRead port k s
  | .laneCheckDecision passA passB => Sys2Proof.Machine.execLaneCheckDecision passA passB s
  | .laneStateCopy => Sys2Proof.Machine.execLaneStateCopy s
  | .laneRetire lane => Sys2Proof.Machine.execLaneRetire lane s
  | .moduleCheckDecision fail => Sys2Proof.Machine.execModuleCheckDecision fail s
  | .kalmerFrameReceived l bytes => Sys2Proof.Machine.execKalmerFrameReceived l bytes s
  | .kalmerLinkChange l up => Sys2Proof.Machine.execKalmerLinkChange l up s
  | .peerLost p => Sys2Proof.Machine.execPeerLost p s
  | .roleChange => Sys2Proof.Machine.execRoleChange s
  | .redClaim force => Sys2Proof.Machine.execRedClaim force s
  | .redJoin => Sys2Proof.Machine.execRedJoin s
  | .redAbandon => Sys2Proof.Machine.execRedAbandon s
  | .redHandover target => Sys2Proof.Machine.execRedHandover target s
  | .redRejoin => Sys2Proof.Machine.execRedRejoin s
  | .axolotlSnapshotLoad => Sys2Proof.Machine.execAxolotlSnapshotLoad s
  | .axolotlComplete => Sys2Proof.Machine.execAxolotlComplete s
  | .healthTelegramSend => Sys2Proof.Machine.execHealthTelegramSend s
  | .recorderSnapshot => Sys2Proof.Machine.execRecorderSnapshot s
  | .recordWrite stored => Sys2Proof.Machine.execRecordWrite stored s
  | .mramControllerFault => Sys2Proof.Machine.execMramControllerFault s
  | .recMark => Sys2Proof.Machine.execRecMark s
  | .recRecover ok => Sys2Proof.Machine.execRecRecover ok s
  | .recClear port => Sys2Proof.Machine.execRecClear port s
  | .recorderClearComplete => Sys2Proof.Machine.execRecorderClearComplete s
  | .recorderInit ok => Sys2Proof.Machine.execRecorderInit ok s
  | .sqtailDoorbell p q v => Sys2Proof.Machine.execSqtailDoorbell p q v s
  | .cqheadDoorbell p q v => Sys2Proof.Machine.execCqheadDoorbell p q v s
  | .snapDoorbell p => Sys2Proof.Machine.execSnapDoorbell p s
  | .descriptorFetch ok bytes => Sys2Proof.Machine.execDescriptorFetch ok bytes s
  | .nop p q => Sys2Proof.Machine.execNop p q s
  | .regWrite p q => Sys2Proof.Machine.execRegWrite p q s
  | .regRead p q => Sys2Proof.Machine.execRegRead p q s
  | .snapCopy p q => Sys2Proof.Machine.execSnapCopy p q s
  | .recRead p q => Sys2Proof.Machine.execRecRead p q s
  | .rtcmSubmit p q bytes => Sys2Proof.Machine.execRtcmSubmit p q bytes s
  | .ethTx p q bytes => Sys2Proof.Machine.execEthTx p q bytes s
  | .rxBuf p q => Sys2Proof.Machine.execRxBuf p q s
  | .completionWrite p q ok => Sys2Proof.Machine.execCompletionWrite p q ok s
  | .dmaError p q => Sys2Proof.Machine.execDmaError p q s
  | .rxItemDelivery => Sys2Proof.Machine.execRxItemDelivery s
  | .ringEnable p q cfg => Sys2Proof.Machine.execRingEnable p q cfg s
  | .ringDisable p q cfg => Sys2Proof.Machine.execRingDisable p q cfg s
  | .ringStopped p q => Sys2Proof.Machine.execRingStopped p q s
  | .hifSemRead p n => Sys2Proof.Machine.execHifSemRead p n s
  | .hifSemWrite p n v => Sys2Proof.Machine.execHifSemWrite p n v s
  | .hostLinkUp p wide speed => Sys2Proof.Machine.execHostLinkUp p wide speed s
  | .hostLinkLoss p kind => Sys2Proof.Machine.execHostLinkLoss p kind s
  | .msixMessage p v addr data masked fmask => Sys2Proof.Machine.execMsixMessage p v addr data masked fmask s
  | .msixModerationExpiry p v => Sys2Proof.Machine.execMsixModerationExpiry p v s
  | .counterSnapshot => Sys2Proof.Machine.execCounterSnapshot s
  | .snapshotBankComplete => Sys2Proof.Machine.execSnapshotBankComplete s
  | .tadpoleBoot okA okB => Sys2Proof.Machine.execTadpoleBoot okA okB s
  | .mrExtend r => Sys2Proof.Machine.execMrExtend r s
  | .attestationGo => Sys2Proof.Machine.execAttestationGo s
  | .attestationComplete => Sys2Proof.Machine.execAttestationComplete s
  | .fwCtrlWrite port island page => Sys2Proof.Machine.execFwCtrlWrite port island page s
  | .fwWindowWrite port w val => Sys2Proof.Machine.execFwWindowWrite port w val s
  | .fwCheck port => Sys2Proof.Machine.execFwCheck port s
  | .fwCheckComplete => Sys2Proof.Machine.execFwCheckComplete s
  | .fwActivate port => Sys2Proof.Machine.execFwActivate port s
  | .fwConfirm port => Sys2Proof.Machine.execFwConfirm port s
  | .fwAbort port => Sys2Proof.Machine.execFwAbort port s
  | .lifecycleCommand port target => Sys2Proof.Machine.execLifecycleCommand port target s
  | .lifecycleCommandComplete => Sys2Proof.Machine.execLifecycleCommandComplete s
  | .secureStoreWrite => Sys2Proof.Machine.execSecureStoreWrite s
  | .secureStoreErase => Sys2Proof.Machine.execSecureStoreErase s
  | .tamperTrip sensor => Sys2Proof.Machine.execTamperTrip sensor s
  | .backupDomainPowerUp => Sys2Proof.Machine.execBackupDomainPowerUp s
  | .crystalStop => Sys2Proof.Machine.execCrystalStop s
  | .rtcFracRead port => Sys2Proof.Machine.execRtcFracRead port s
  | .rtcHalt halt => Sys2Proof.Machine.execRtcHalt halt s
  | .internalPps => Sys2Proof.Machine.execInternalPps s
  | .trimWindowStart => Sys2Proof.Machine.execTrimWindowStart s
  | .autotrimComplete => Sys2Proof.Machine.execAutotrimComplete s
  | .leapSecond => Sys2Proof.Machine.execLeapSecond s
  | .tocal => Sys2Proof.Machine.execTocal s
  | .fromcal => Sys2Proof.Machine.execFromcal s
  | .live => Sys2Proof.Machine.execLive s
  | .ioLockoutEnter => Sys2Proof.Machine.execIoLockoutEnter s
  | .ioLockoutEnd => Sys2Proof.Machine.execIoLockoutEnd s
  | .rtcAlarm => Sys2Proof.Machine.execRtcAlarm s
  | .wakeInput level => Sys2Proof.Machine.execWakeInput level s
  | .powerStateRequest k => Sys2Proof.Machine.execPowerStateRequest k s
  | .powerStateEntry src late => Sys2Proof.Machine.execPowerStateEntry src late s
  | .wakeExit src pulses => Sys2Proof.Machine.execWakeExit src pulses s
  | .powerOnReset pulses bad => Sys2Proof.Machine.execPowerOnReset pulses bad s
  | .brownOut rail => Sys2Proof.Machine.execBrownOut rail s
  | .resetPin us => Sys2Proof.Machine.execResetPin us s
  | .hostModuleReset port key => Sys2Proof.Machine.execHostModuleReset port key s
  | .hostIslandReset port key => Sys2Proof.Machine.execHostIslandReset port key s
  | .railFault rail lvl => Sys2Proof.Machine.execRailFault rail lvl s
  | .hostPerst p kind => Sys2Proof.Machine.execHostPerst p kind s
  | .gnssRfFault k ovl pll => Sys2Proof.Machine.execGnssRfFault k ovl pll s
  | .canReceiveError n code data first more => Sys2Proof.Machine.execCanReceiveError n code data first more s
  | .crystalRestart => Sys2Proof.Machine.execCrystalRestart s
  | .calendarConversionComplete => Sys2Proof.Machine.execCalendarConversionComplete s

end Sys2Proof.Machine
end

