-- ==== Sys2Proof/Safety.lean ====
section
/-! DEFINITION. What the statements say of a run: what a command does, what it leaves alone, and the canonical form every step keeps.
The model has no fault and refuses nothing, so a run is safe when its register file is canonical and each command changes only
the parts of the state that are its own. -/

namespace Sys2Proof.Machine

open Sys2Proof

/-- The command `i` is carried out on `s`, and the next state has `post`. -/
def Does (i : Instr) (s : State) (post : State → Prop) : Prop := ∃ t, exec i s = .next t ∧ post t

/-- The parts of the state other than the queue. -/
inductive Part where
  /-- The register file. -/
  | regs
  /-- The shadow words of host reads (R26). -/
  | shadow
  /-- The data of the last host read. -/
  | hostData
  /-- The model's counter of free values (log 3). -/
  | freeCtr
  /-- Frame sequencer. -/
  | frm
  /-- Time base. -/
  | tim
  /-- Ethernet. -/
  | eth
  /-- Signal interface. -/
  | sig
  /-- Alignment. -/
  | aln
  /-- Estimation. -/
  | est
  /-- Recorder. -/
  | rcd
  /-- Backup domain. -/
  | rtc
  /-- GNSS. -/
  | gns
  /-- Host interface. -/
  | hif
  /-- Control loops and modes. -/
  | cle
  /-- Allocation. -/
  | alc
  /-- Profile axes. -/
  | prf
  /-- CAN. -/
  | can
  /-- Redundancy. -/
  | red
  /-- Safety island. -/
  | saf
  /-- Sealed settings. -/
  | sld
  /-- Security. -/
  | sec
  /-- Power. -/
  | pwr
  /-- What Lane B holds where it differs from Lane A. -/
  | twin
deriving DecidableEq, Repr

/-- A part is the same in two states. -/
def Part.same (s t : State) : Part → Prop
  | .regs => t.regs = s.regs
  | .shadow => t.shadow = s.shadow
  | .hostData => t.hostData = s.hostData
  | .freeCtr => t.freeCtr = s.freeCtr
  | .frm => t.frm = s.frm
  | .tim => t.tim = s.tim
  | .eth => t.eth = s.eth
  | .sig => t.sig = s.sig
  | .aln => t.aln = s.aln
  | .est => t.est = s.est
  | .rcd => t.rcd = s.rcd
  | .rtc => t.rtc = s.rtc
  | .gns => t.gns = s.gns
  | .hif => t.hif = s.hif
  | .cle => t.cle = s.cle
  | .alc => t.alc = s.alc
  | .prf => t.prf = s.prf
  | .can => t.can = s.can
  | .red => t.red = s.red
  | .saf => t.saf = s.saf
  | .sld => t.sld = s.sld
  | .sec => t.sec = s.sec
  | .pwr => t.pwr = s.pwr
  | .twin => t.twin = s.twin

/-- The queue is the same, and so is every part outside a list. -/
def Frame (may : List Part) (s t : State) : Prop := t.pending = s.pending ∧ ∀ p, p ∉ may → p.same s t

/-- Every part. -/
def Part.all : List Part :=
  [.regs, .shadow, .hostData, .freeCtr, .frm, .tim, .eth, .sig, .aln, .est, .rcd, .rtc, .gns, .hif, .cle, .alc, .prf, .can, .red, .saf, .sld, .sec, .pwr, .twin]

/-- The parts a command may change. -/
def touches : Instr → List Part
  | .hostRegisterWrite _ _ _ _ => Part.all
  | .hostReadUnmapped _ _ _ _ => [.regs, .shadow, .hostData, .frm, .tim, .rcd, .can, .twin]
  | .readClear _ _ => [.regs, .shadow, .hostData, .frm, .tim, .rcd, .can, .twin]
  | .shadowLatchRead _ _ => [.regs, .shadow, .hostData, .frm, .tim, .rcd, .can, .twin]
  | .rwsWrite _ _ _ => [.regs, .frm, .rcd, .sld]
  | .minorTick => [.regs, .frm, .tim, .eth, .sig, .aln, .est, .rcd, .rtc, .gns, .hif, .cle, .alc, .prf, .can, .red, .sld, .pwr, .twin]
  | .majorTick => [.regs, .frm, .tim, .eth, .sig, .aln, .est, .rcd, .rtc, .gns, .hif, .cle, .alc, .prf, .can, .red, .sld, .pwr, .twin]
  | .slowTick _ => [.regs, .frm, .tim, .eth, .sig, .aln, .est, .rcd, .rtc, .gns, .hif, .cle, .alc, .prf, .can, .red, .sld, .pwr, .twin]
  | .acqStage _ _ => [.regs, .frm, .tim, .sig, .aln, .rcd, .rtc, .alc, .red, .twin]
  | .alnStage _ => [.regs, .frm, .tim, .aln, .rcd, .rtc, .red, .twin]
  | .ctlStage _ => [.regs, .frm, .tim, .rcd, .rtc, .cle, .red, .twin]
  | .actStage _ => [.regs, .frm, .tim, .rcd, .rtc, .prf, .can, .red, .twin]
  | .supStage _ _ => [.regs, .frm, .tim, .rcd, .rtc, .cle, .red, .twin]
  | .release _ => [.regs, .frm, .tim, .rcd, .rtc, .prf, .can, .red, .twin]
  | .estStage _ => [.regs, .frm, .tim, .aln, .est, .rcd, .rtc, .gns, .red, .twin]
  | .alcStage _ _ => [.regs, .frm, .tim, .est, .rcd, .rtc, .cle, .alc, .red, .twin]
  | .mirStage _ _ _ => [.regs, .freeCtr, .frm, .tim, .est, .rcd, .rtc, .cle, .alc, .red, .twin]
  | .jigStage _ _ _ _ => [.regs, .frm, .tim, .est, .rcd, .rtc, .cle, .alc, .red, .twin]
  | .stageOverrun _ _ _ _ => [.regs, .freeCtr, .frm, .tim, .sig, .aln, .est, .rcd, .rtc, .gns, .cle, .alc, .prf, .can, .red, .twin]
  | .frmStart => [.regs, .twin]
  | .sequencerStart => [.regs, .frm, .rcd, .twin]
  | .frmHold _ => [.regs, .frm, .twin]
  | .frmFaultClear _ => [.regs, .twin]
  | .frmInjectArm _ _ => [.regs, .frm, .twin]
  | .timeCounterLoad => [.regs, .frm, .tim, .eth, .sig, .aln, .est, .rcd, .rtc, .gns, .hif, .cle, .alc, .prf, .can, .red, .sld, .pwr, .twin]
  | .gnssOffsetMeasurement _ _ _ => [.regs, .frm, .tim, .rcd, .rtc]
  | .ptpSyncReceived _ _ => [.regs, .frm, .tim, .eth, .rcd, .rtc]
  | .ptpSyncTimeout => [.regs, .frm, .tim, .rcd, .rtc]
  | .holdoverLimit => [.regs, .frm, .rcd]
  | .timDiscWrite _ => [.regs, .frm, .tim, .rcd, .rtc]
  | .timStepGo => [.regs, .tim]
  | .timeStep => [.regs, .frm, .tim, .eth, .sig, .aln, .est, .rcd, .rtc, .gns, .hif, .cle, .alc, .prf, .can, .red, .sld, .pwr, .twin]
  | .compareArm _ => [.regs, .frm, .tim, .aln, .rcd, .rtc, .twin]
  | .compareFire _ => [.regs, .frm, .tim, .aln, .rcd, .rtc, .twin]
  | .trigPulseEnd _ => [.regs, .tim, .rtc]
  | .captureEdge _ _ => [.regs, .frm, .tim, .aln, .rcd, .twin]
  | .timCapfifoRead _ => [.regs, .hostData, .tim]
  | .timNowRead _ => [.shadow, .hostData]
  | .ethLinkChange _ _ => [.regs, .frm, .tim, .eth, .rcd, .rtc]
  | .ethFailover _ => [.regs, .frm, .eth, .rcd]
  | .ethFailback _ => [.regs, .frm, .eth, .rcd]
  | .ethFrameReceived _ _ _ _ => [.regs, .frm, .tim, .eth, .sig, .rcd, .rtc, .hif, .saf, .twin]
  | .ethFrameSend _ _ => [.regs, .eth]
  | .ptpAnnounceReceived _ _ _ => [.regs, .frm, .tim, .eth, .rcd, .rtc]
  | .ptpAnnounceTimeout _ => [.regs, .frm, .tim, .eth, .rcd, .rtc]
  | .ptpMessageTransmit _ _ _ => [.regs, .eth]
  | .iec450Datagram _ _ _ _ => [.regs, .frm, .eth, .sig, .rcd, .twin]
  | .igmpQuery _ => [.eth]
  | .gnssEnable => [.regs, .gns]
  | .gnssRfPllLock _ _ => [.regs, .gns]
  | .gnssDisable => [.regs, .frm, .rcd, .gns]
  | .gnssRestart _ => [.regs, .frm, .rcd, .gns]
  | .acqDwellComplete _ _ _ => [.regs, .frm, .tim, .rcd, .rtc, .gns]
  | .gnssRequeue _ => [.regs, .frm, .tim, .rcd, .rtc, .gns]
  | .gnssTrackLock _ _ => [.regs, .frm, .rcd, .gns]
  | .gnssPullinTimeout _ => [.regs, .frm, .tim, .rcd, .rtc, .gns]
  | .gnssTrackLoss _ _ => [.regs, .frm, .rcd, .gns]
  | .gnssReacqTimeout _ => [.regs, .frm, .tim, .rcd, .rtc, .gns]
  | .cycleSlipCheck _ _ _ => [.regs, .gns]
  | .measurementEpoch => [.regs, .frm, .tim, .rcd, .rtc, .gns]
  | .epochRecordComplete => [.regs, .frm, .tim, .rcd, .rtc, .gns, .hif]
  | .gnssSolution _ => [.regs, .frm, .tim, .aln, .rcd, .rtc, .gns, .twin]
  | .spoofClear => [.regs, .frm, .rcd]
  | .notchSpectrum _ _ _ _ => [.regs, .frm, .rcd, .gns]
  | .jamDetect _ => [.regs, .frm, .rcd, .gns]
  | .ppsTimeMessage => [.regs, .frm, .tim, .rcd, .rtc, .gns, .hif]
  | .ppsPulse => [.tim, .rtc, .gns]
  | .ppsPulseEnd => [.tim, .rtc, .gns]
  | .uartSentence _ _ _ _ => [.regs, .frm, .sig, .rcd, .twin]
  | .tachoEdge _ _ => [.sig, .twin]
  | .tachoZeroTimeout _ => [.tim, .sig, .rtc, .twin]
  | .sigChannelTimeout _ => [.regs, .frm, .sig, .rcd, .twin]
  | .sigSync _ _ _ => [.frm, .twin]
  | .sigBankSwitch _ _ => [.regs, .twin]
  | .sigValRead _ _ => [.shadow, .hostData]
  | .afeCalibrationComplete _ => [.regs, .frm, .rcd, .twin]
  | .excOverload _ => [.regs, .frm, .rcd, .twin]
  | .alnStreamReconfigure _ => [.regs, .frm, .aln, .rcd, .twin]
  | .pendingInstantExpiry _ => [.regs, .frm, .aln, .rcd, .twin]
  | .trackTimeout _ => [.est, .twin]
  | .estReinit => [.regs, .frm, .est, .rcd, .twin]
  | .estOriginChange => [.regs, .frm, .aln, .est, .rcd, .twin]
  | .originDeferExpiry => [.est, .twin]
  | .outvoteHoldExpiry _ => [.regs, .frm, .est, .rcd, .twin]
  | .contradictionHoldExpiry _ => [.regs, .frm, .est, .rcd, .twin]
  | .rehabExpiry _ => [.regs, .est, .twin]
  | .headingLoss => [.regs, .frm, .rcd, .twin]
  | .geckoEntry => [.regs, .frm, .est, .rcd, .twin]
  | .geckoTlim => [.regs, .frm, .est, .rcd, .twin]
  | .estArbClr _ => [.regs, .est, .twin]
  | .cleDpaxWrite _ => [.regs, .frm, .rcd, .cle, .twin]
  | .cmdPid _ => [.regs, .cle, .twin]
  | .cmdMain _ => [.regs, .cle, .twin]
  | .cmdRestart _ => [.regs, .cle, .twin]
  | .cmdPreset _ => [.regs, .cle, .twin]
  | .cleBankSwitch _ _ => [.regs, .cle, .twin]
  | .clePidchkCommit _ _ _ => [.regs, .frm, .rcd, .cle, .twin]
  | .osatSaturationCount _ => [.cle, .twin]
  | .blendComplete _ => [.regs, .frm, .rcd, .cle, .twin]
  | .modeRequest _ => [.cle, .twin]
  | .joystickTimeout => [.regs, .frm, .rcd, .cle, .twin]
  | .berthedClear => [.cle, .twin]
  | .pressLoss => [.regs, .frm, .rcd, .cle, .twin]
  | .alcThrusterFault _ => [.regs, .frm, .rcd, .alc, .twin]
  | .alcThrusterClrflt _ => [.regs, .frm, .rcd, .alc, .twin]
  | .crossingBegin _ => [.regs, .frm, .rcd, .alc, .twin]
  | .rudderCommitChange _ => [.regs, .frm, .rcd, .alc, .twin]
  | .envelopeLatch => [.regs, .frm, .tim, .rcd, .rtc, .alc, .twin]
  | .envelopeStale _ => [.regs, .frm, .rcd, .alc, .twin]
  | .consequenceAlarm _ => [.regs, .frm, .rcd, .alc, .twin]
  | .consequenceAlarmClear _ => [.regs, .frm, .rcd, .alc, .twin]
  | .energyBinComplete _ => [.regs, .alc, .twin]
  | .energyClear _ => [.regs, .alc, .twin]
  | .prfMove _ => [.regs, .frm, .rcd, .prf, .twin]
  | .prfStop _ => [.regs, .frm, .rcd, .prf, .twin]
  | .prfAbort _ => [.regs, .frm, .rcd, .prf, .twin]
  | .prfAbortall _ => [.regs, .frm, .rcd, .prf, .twin]
  | .prfHome _ => [.regs, .frm, .rcd, .prf, .twin]
  | .prfResume _ => [.regs, .frm, .rcd, .prf, .twin]
  | .prfClrflt _ => [.regs, .frm, .rcd, .prf, .twin]
  | .moveComplete _ => [.regs, .frm, .rcd, .prf, .twin]
  | .axinDebouncedChange _ _ _ => [.regs, .prf, .twin]
  | .inputChatter _ _ => [.regs, .frm, .rcd, .prf, .twin]
  | .stepEdge _ => [.tim, .rtc, .prf, .twin]
  | .microstepHoldAmplitude _ => [.prf, .twin]
  | .canInitClear _ => [.regs]
  | .canInitSet _ => [.regs, .can]
  | .canIntegrationComplete _ => [.regs, .frm, .rcd, .can]
  | .canFrameReceived _ _ _ => [.regs, .freeCtr, .frm, .sig, .rcd, .alc, .can, .red, .twin]
  | .tlgFeedbackTimeout _ => [.regs, .frm, .tim, .rcd, .rtc, .alc, .twin]
  | .canTxOpportunity _ => [.regs, .can]
  | .canTxAttemptEnd _ _ _ => [.regs, .freeCtr, .frm, .sig, .rcd, .alc, .can, .red, .twin]
  | .canTxCommit _ _ _ => [.regs, .can]
  | .canTxreq _ _ _ => [.regs, .can]
  | .canCancel _ _ _ => [.regs, .can]
  | .canTxfflush _ => [.regs, .can]
  | .canRecover _ => [.regs]
  | .canRecoveryComplete _ => [.regs, .frm, .rcd]
  | .canClrcnt _ => [.regs]
  | .canBufferLockRead _ _ _ => [.regs, .hostData, .frm, .rcd, .can]
  | .canBufferReleaseRead _ _ _ => [.regs, .hostData, .frm, .rcd, .can]
  | .canLockTimeout _ _ => [.regs, .frm, .tim, .rcd, .rtc, .can]
  | .canReady _ => [.regs, .frm, .rcd]
  | .islandTick _ _ _ _ _ => [.regs, .frm, .eth, .rcd, .saf]
  | .discrepancyLock _ => [.regs, .frm, .rcd, .saf]
  | .contactorFeedbackTimeout _ => [.regs, .frm, .rcd, .saf]
  | .cat1DelayExpiry _ => [.regs, .saf]
  | .safePduSend _ => [.regs, .eth, .saf]
  | .safePduReceived _ _ _ => [.regs, .frm, .rcd, .saf]
  | .copyWindowExpiry _ => [.regs, .frm, .rcd, .saf]
  | .connectionWatchdogExpiry _ => [.regs, .frm, .rcd, .saf]
  | .resetInputRelease _ => [.regs, .frm, .rcd, .saf]
  | .resetInputStuck _ => [.regs]
  | .safHostReset _ => [.regs, .frm, .rcd, .saf]
  | .safConnrst _ => [.regs, .saf]
  | .clockMonitorCheck _ _ _ => [.regs, .frm, .rcd, .saf]
  | .islandBoot => [.regs, .frm, .rcd, .saf, .sec]
  | .islandSafeFault _ => [.regs, .frm, .rcd, .saf]
  | .islandConfigApply _ => [.regs, .frm, .rcd, .saf]
  | .sealOpen _ => [.regs, .sld]
  | .passwordCheckComplete => [.regs, .frm, .rcd, .sld]
  | .backoffExpiry => [.regs, .tim, .rtc]
  | .sealClose _ => [.regs, .frm, .rcd, .sld]
  | .sealCommit _ => [.regs, .sld]
  | .commitComplete _ => [.regs, .frm, .rcd, .saf, .sld]
  | .sealSetpw _ => [.regs, .freeCtr, .frm, .rcd, .sld]
  | .sealRoll _ => [.regs, .frm, .rcd, .sld]
  | .sealDiscard _ => [.regs, .sld]
  | .sealIdleTimeout => [.regs, .frm, .tim, .rcd, .rtc, .sld]
  | .secSealLogwinRead _ _ => [.regs, .shadow, .hostData]
  | .laneCheckDecision _ _ => [.regs, .frm, .sig, .aln, .est, .rcd, .cle, .alc, .prf, .can, .red, .twin]
  | .laneStateCopy => [.frm, .red, .twin]
  | .laneRetire _ => [.regs, .frm, .sig, .aln, .est, .rcd, .cle, .alc, .prf, .can, .red, .twin]
  | .moduleCheckDecision _ => [.regs, .red]
  | .kalmerFrameReceived _ _ => [.regs, .frm, .rcd, .red]
  | .kalmerLinkChange _ _ => [.regs, .frm, .rcd]
  | .peerLost _ => [.regs, .frm, .rcd, .red]
  | .roleChange => [.regs, .frm, .sig, .aln, .est, .rcd, .cle, .alc, .prf, .can, .red, .twin]
  | .redClaim _ => [.regs, .freeCtr, .frm, .rcd, .red]
  | .redJoin => [.regs, .freeCtr, .frm, .rcd, .red]
  | .redAbandon => [.regs, .freeCtr, .frm, .rcd, .red]
  | .redHandover _ => [.regs, .freeCtr, .frm, .rcd, .red]
  | .redRejoin => [.regs, .freeCtr, .frm, .rcd, .red]
  | .axolotlSnapshotLoad => [.regs, .frm, .est, .rcd, .cle, .alc, .prf, .red, .twin]
  | .axolotlComplete => [.regs, .frm, .rcd, .can, .red]
  | .healthTelegramSend => [.tim, .eth, .rtc, .red]
  | .recorderSnapshot => [.regs, .frm, .tim, .rcd, .rtc]
  | .recordWrite _ => [.regs, .freeCtr, .frm, .rcd]
  | .mramControllerFault => [.regs, .freeCtr, .frm, .rcd]
  | .recMark => [.regs, .frm, .rcd]
  | .recRecover _ => [.regs, .frm, .rcd]
  | .recClear _ => [.regs]
  | .recorderClearComplete => [.regs, .frm, .rcd]
  | .recorderInit _ => [.regs, .freeCtr, .frm, .rcd]
  | .sqtailDoorbell _ _ _ => [.regs, .frm, .rcd, .hif]
  | .cqheadDoorbell _ _ _ => [.regs, .frm, .rcd, .hif]
  | .snapDoorbell _ => [.hif]
  | .descriptorFetch _ _ => [.regs, .freeCtr, .frm, .rcd, .hif]
  | .nop _ _ => [.hif]
  | .regWrite _ _ => Part.all
  | .regRead _ _ => [.regs, .shadow, .hostData, .freeCtr, .frm, .tim, .rcd, .hif, .can, .twin]
  | .snapCopy _ _ => [.freeCtr, .hif]
  | .recRead _ _ => [.freeCtr, .hif]
  | .rtcmSubmit _ _ _ => [.regs, .freeCtr, .frm, .rcd, .gns, .hif]
  | .ethTx _ _ _ => [.freeCtr, .eth, .hif]
  | .rxBuf _ _ => [.freeCtr, .hif]
  | .completionWrite _ _ _ => [.regs, .frm, .rcd, .hif]
  | .dmaError _ _ => [.regs, .shadow, .hostData, .freeCtr, .frm, .tim, .rcd, .hif, .can]
  | .rxItemDelivery => [.regs, .frm, .rcd, .hif]
  | .ringEnable _ _ _ => [.regs, .hif]
  | .ringDisable _ _ _ => [.regs, .hif]
  | .ringStopped _ _ => [.regs]
  | .hifSemRead _ _ => [.regs, .hostData]
  | .hifSemWrite _ _ _ => [.regs]
  | .hostLinkUp _ _ _ => [.regs, .frm, .rcd, .hif]
  | .hostLinkLoss _ _ => [.regs, .frm, .rcd, .hif, .can, .sld, .sec]
  | .msixMessage _ _ _ _ _ _ => [.hif]
  | .msixModerationExpiry _ _ => [.tim, .rtc, .hif]
  | .counterSnapshot => [.regs, .frm, .rcd, .hif]
  | .snapshotBankComplete => [.regs, .tim, .rtc, .hif]
  | .tadpoleBoot _ _ => [.regs, .frm, .sig, .aln, .est, .cle, .alc, .prf, .can, .sec, .twin]
  | .mrExtend _ => [.regs]
  | .attestationGo => [.regs, .sec]
  | .attestationComplete => [.regs, .sec]
  | .fwCtrlWrite _ _ _ => [.regs, .sec]
  | .fwWindowWrite _ _ _ => [.regs, .sec]
  | .fwCheck _ => [.regs]
  | .fwCheckComplete => [.regs]
  | .fwActivate _ => [.regs, .sec]
  | .fwConfirm _ => [.regs, .sec]
  | .fwAbort _ => [.regs, .sec]
  | .lifecycleCommand _ _ => [.regs, .freeCtr, .sec]
  | .lifecycleCommandComplete => [.regs, .rcd, .gns, .sld, .sec]
  | .secureStoreWrite => [.regs, .sec]
  | .secureStoreErase => [.regs, .sec]
  | .tamperTrip _ => [.regs, .frm, .rcd, .sec]
  | .backupDomainPowerUp => [.regs, .rcd, .rtc]
  | .crystalStop => [.regs, .frm, .rcd, .rtc]
  | .rtcFracRead _ => [.shadow, .hostData]
  | .rtcHalt _ => [.regs, .frm, .rcd, .rtc]
  | .internalPps => [.regs, .frm, .rcd, .rtc]
  | .trimWindowStart => [.rtc]
  | .autotrimComplete => [.regs, .frm, .rcd, .rtc]
  | .leapSecond => [.regs]
  | .tocal => [.regs, .frm, .rcd, .rtc]
  | .fromcal => [.regs, .frm, .rcd, .rtc]
  | .live => [.regs, .frm, .rcd, .rtc]
  | .ioLockoutEnter => [.regs, .pwr]
  | .ioLockoutEnd => [.regs, .frm, .rcd, .rtc, .pwr]
  | .rtcAlarm => [.regs, .frm, .rcd, .rtc]
  | .wakeInput _ => [.regs, .frm, .rcd, .rtc]
  | .powerStateRequest _ => Part.all
  | .powerStateEntry _ _ => [.regs, .freeCtr, .frm, .tim, .eth, .rcd, .rtc, .gns, .hif, .can, .saf, .sld, .sec, .pwr]
  | .wakeExit _ _ => Part.all
  | .powerOnReset _ _ => Part.all
  | .brownOut _ => Part.all
  | .resetPin _ => Part.all
  | .hostModuleReset _ _ => Part.all
  | .hostIslandReset _ _ => Part.all
  | .railFault _ _ => [.regs, .frm, .rcd, .gns, .saf, .sec, .pwr, .twin]
  | .hostPerst _ _ => [.regs, .frm, .rcd, .hif, .can, .sld, .sec]
  | .gnssRfFault _ _ _ => [.regs, .frm, .rcd]
  | .canReceiveError _ _ _ _ _ => [.regs, .frm, .rcd, .can]
  | .crystalRestart => [.rtc]
  | .calendarConversionComplete => [.regs, .rtc]

/-- The commands that may move the time counter: ticks, stages and the release, waits inside a minor frame, steps of time, and resets. -/
def movesTime : Instr → Bool
  | .hostRegisterWrite .. | .minorTick | .majorTick | .slowTick .. | .acqStage .. | .alnStage .. | .ctlStage .. | .actStage ..
  | .supStage .. | .release .. | .estStage .. | .alcStage .. | .mirStage .. | .jigStage .. | .stageOverrun .. | .timeCounterLoad
  | .timeStep | .compareArm .. | .compareFire .. | .trigPulseEnd .. | .acqDwellComplete .. | .gnssRequeue .. | .gnssPullinTimeout ..
  | .gnssReacqTimeout .. | .epochRecordComplete | .gnssSolution .. | .ppsTimeMessage | .ppsPulse | .ppsPulseEnd | .tachoZeroTimeout ..
  | .envelopeLatch | .stepEdge .. | .tlgFeedbackTimeout .. | .canLockTimeout .. | .backoffExpiry | .sealIdleTimeout | .healthTelegramSend
  | .recorderSnapshot | .regWrite .. | .msixModerationExpiry .. | .snapshotBankComplete | .powerStateRequest .. | .powerStateEntry ..
  | .wakeExit .. | .powerOnReset .. | .brownOut .. | .resetPin .. | .hostModuleReset .. | .hostIslandReset .. => true
  | .hostReadUnmapped .. | .readClear .. | .shadowLatchRead .. | .rwsWrite .. | .frmStart | .sequencerStart | .frmHold ..
  | .frmFaultClear .. | .frmInjectArm .. | .gnssOffsetMeasurement .. | .ptpSyncReceived .. | .ptpSyncTimeout | .holdoverLimit
  | .timDiscWrite .. | .timStepGo | .captureEdge .. | .timCapfifoRead .. | .timNowRead .. | .ethLinkChange .. | .ethFailover ..
  | .ethFailback .. | .ethFrameReceived .. | .ethFrameSend .. | .ptpAnnounceReceived .. | .ptpAnnounceTimeout .. | .ptpMessageTransmit ..
  | .iec450Datagram .. | .igmpQuery .. | .gnssEnable | .gnssRfPllLock .. | .gnssDisable | .gnssRestart .. | .gnssTrackLock ..
  | .gnssTrackLoss .. | .cycleSlipCheck .. | .measurementEpoch | .spoofClear | .notchSpectrum .. | .jamDetect .. | .uartSentence ..
  | .tachoEdge .. | .sigChannelTimeout .. | .sigSync .. | .sigBankSwitch .. | .sigValRead .. | .afeCalibrationComplete .. | .excOverload ..
  | .alnStreamReconfigure .. | .pendingInstantExpiry .. | .trackTimeout .. | .estReinit | .estOriginChange | .originDeferExpiry
  | .outvoteHoldExpiry .. | .contradictionHoldExpiry .. | .rehabExpiry .. | .headingLoss | .geckoEntry | .geckoTlim | .estArbClr ..
  | .cleDpaxWrite .. | .cmdPid .. | .cmdMain .. | .cmdRestart .. | .cmdPreset .. | .cleBankSwitch .. | .clePidchkCommit ..
  | .osatSaturationCount .. | .blendComplete .. | .modeRequest .. | .joystickTimeout | .berthedClear | .pressLoss | .alcThrusterFault ..
  | .alcThrusterClrflt .. | .crossingBegin .. | .rudderCommitChange .. | .envelopeStale .. | .consequenceAlarm ..
  | .consequenceAlarmClear .. | .energyBinComplete .. | .energyClear .. | .prfMove .. | .prfStop .. | .prfAbort .. | .prfAbortall ..
  | .prfHome .. | .prfResume .. | .prfClrflt .. | .moveComplete .. | .axinDebouncedChange .. | .inputChatter ..
  | .microstepHoldAmplitude .. | .canInitClear .. | .canInitSet .. | .canIntegrationComplete .. | .canFrameReceived ..
  | .canTxOpportunity .. | .canTxAttemptEnd .. | .canTxCommit .. | .canTxreq .. | .canCancel .. | .canTxfflush .. | .canRecover ..
  | .canRecoveryComplete .. | .canClrcnt .. | .canBufferLockRead .. | .canBufferReleaseRead .. | .canReady .. | .islandTick ..
  | .discrepancyLock .. | .contactorFeedbackTimeout .. | .cat1DelayExpiry .. | .safePduSend .. | .safePduReceived .. | .copyWindowExpiry ..
  | .connectionWatchdogExpiry .. | .resetInputRelease .. | .resetInputStuck .. | .safHostReset .. | .safConnrst .. | .clockMonitorCheck ..
  | .islandBoot | .islandSafeFault .. | .islandConfigApply .. | .sealOpen .. | .passwordCheckComplete | .sealClose .. | .sealCommit ..
  | .commitComplete .. | .sealSetpw .. | .sealRoll .. | .sealDiscard .. | .secSealLogwinRead .. | .laneCheckDecision .. | .laneStateCopy
  | .laneRetire .. | .moduleCheckDecision .. | .kalmerFrameReceived .. | .kalmerLinkChange .. | .peerLost .. | .roleChange | .redClaim ..
  | .redJoin | .redAbandon | .redHandover .. | .redRejoin | .axolotlSnapshotLoad | .axolotlComplete | .recordWrite ..
  | .mramControllerFault | .recMark | .recRecover .. | .recClear .. | .recorderClearComplete | .recorderInit .. | .sqtailDoorbell ..
  | .cqheadDoorbell .. | .snapDoorbell .. | .descriptorFetch .. | .nop .. | .regRead .. | .snapCopy .. | .recRead .. | .rtcmSubmit ..
  | .ethTx .. | .rxBuf .. | .completionWrite .. | .dmaError .. | .rxItemDelivery | .ringEnable .. | .ringDisable .. | .ringStopped ..
  | .hifSemRead .. | .hifSemWrite .. | .hostLinkUp .. | .hostLinkLoss .. | .msixMessage .. | .counterSnapshot | .tadpoleBoot ..
  | .mrExtend .. | .attestationGo | .attestationComplete | .fwCtrlWrite .. | .fwWindowWrite .. | .fwCheck .. | .fwCheckComplete
  | .fwActivate .. | .fwConfirm .. | .fwAbort .. | .lifecycleCommand .. | .lifecycleCommandComplete | .secureStoreWrite | .secureStoreErase
  | .tamperTrip .. | .backupDomainPowerUp | .crystalStop | .rtcFracRead .. | .rtcHalt .. | .internalPps | .trimWindowStart
  | .autotrimComplete | .leapSecond | .tocal | .fromcal | .live | .ioLockoutEnter | .ioLockoutEnd | .rtcAlarm | .wakeInput ..
  | .railFault .. | .hostPerst .. | .gnssRfFault .. | .canReceiveError .. | .crystalRestart | .calendarConversionComplete => false

/-- Every word of the register file outside a list is as before. -/
def OnlyWords (l : List Nat) (s t : State) : Prop := ∀ off, off ∉ l → t.regs.word off = s.regs.word off

/-- A word that raising an event may change: the pending words of both ports, the sequence number of the recorder and the two
counters of the last-gasp ring. -/
def eventWord (off : Nat) : Bool :=
  (decide (0xF20000 ≤ off) && decide (off < 0xF20800)) || off == 0xE00010 || off == 0xE0002C || off == 0x110005C

/-- Every word outside a list and outside the words of events is as before. -/
def OnlyWordsEv (l : List Nat) (s t : State) : Prop := ∀ off, eventWord off = false → off ∉ l → t.regs.word off = s.regs.word off

/-- The pending bit of an event stands in both ports (R554). -/
def State.pended (s : State) (e : Nat) : Prop := ∀ p < 2, s.bit (F.HIF_EV_PEND_PEND p (e / 32)) (e % 32) = true

/-- The instant lies in the window of stage `k`, which may run and which nothing forces to overrun (R42, R45, R73). -/
@[reducible] def State.stageOpen (s : State) (k : Nat) : Prop :=
  s.stageFree k = true ∧ s.forcedOver k = false ∧ s.stageTick k + (stageWindow k).1 ≤ s.now ∧ s.now ≤ s.stageTick k + (stageWindow k).2

/-- The time counter is inside its range, with room for what follows. -/
@[reducible] def State.counterOk (s : State) : Prop := s.tim.ctr.sec < 2 ^ 48 - 2 ∧ s.tim.ctr.ns < 1000000000 ∧ s.tim.ctr.sub < 2 ^ 32

/-- The window of stage `k` ends in the running minor frame, and not before now. -/
@[reducible] def State.endsHere (s : State) (k : Nat) : Prop :=
  s.ready = true ∧ s.counterOk ∧ s.now ≤ s.stageEnd k ∧ s.stageEnd k < s.nextGrid 250000

/-- The counter may run to the instant `t`, in ns, inside the running minor frame. -/
@[reducible] def State.reaches (s : State) (t : Nat) : Prop := s.ready = true ∧ s.counterOk ∧ t + 5 ≤ s.nextGrid 250000

/-- Nothing changes but what Lane B holds of its own. -/
@[reducible] def Unchanged (s t : State) : Prop := t = { s with twin := t.twin }

/-- A register whose write starts nothing: its RW fields take the value and the W1C bits written as 1 clear. -/
def writesPlainly (off : Nat) : Bool :=
  match off / 0x100000 with
  | 0 => true
  | 2 => off != 0x200004 && off != 0x200014 && off != 0x200048 && (decide (off < 0x200100) || (off % 32 != 0 && off % 32 != 8 && off % 32 != 12))
  | 0xA => decide (off < 0xA40000) && (decide (0xA01000 ≤ off) || (decide (0x10 ≤ off % 0x100) && off % 0x100 != 0x1C && decide (off % 0x100 < 0x40)) ||
      decide (0x60 ≤ off % 0x100))
  | 0xB => decide (off < 0xB00300) && off != 0xB00204 && (decide (0xB00100 ≤ off) ||
      (off % 64 != 0 && off % 64 != 0x10 && off % 64 != 0x14 && off % 64 != 0x18 && off % 64 != 0x34))
  | 0xC => off != 0xC00018 && off != 0xC0001C
  | 0xD => off != 0xD00000 && off != 0xD00008
  | 0xE => off != 0xE00004
  | 0xF => decide (off < 0xF01100) || (decide (0xF03000 ≤ off) && decide (off < 0xF10000)) ||
      (decide (0xF10100 ≤ off) && decide (off < 0xF20000)) || decide (0xF20800 ≤ off)
  | 0x10 => decide (off < 0x1000110) && !([0x1000010, 0x1000020, 0x1000024, 0x1000034, 0x1000038, 0x100003C, 0x1000044, 0x1000104, 0x100010C].contains off) ||
      (decide (0x1000150 ≤ off) && decide (off < 0x10008C0) && off != 0x1000174) || (decide (0x1000920 ≤ off) && decide (off < 0x1001000))
  | 0x12 => off != 0x1200004 && off != 0x1200018
  | _ => false

/-- A register read as it stands: no read of it is a command of its own, locks a buffer, or is refused. -/
def readsPlainly (off : Nat) : Bool :=
  match off / 0x100000 with
  | 2 => off != 0x200020 && off != 0x20006C
  | 4 => !(decide (0x401000 ≤ off) && decide (off < 0x401600) && (off % 16 == 8 || off % 16 == 12))
  | 0xA => !(decide (0xA40000 ≤ off) && decide (off < 0xA60000))
  | 0xF => !(decide (0xF10000 ≤ off) && decide (off < 0xF10100))
  | 0x10 => !(decide (0x1000180 ≤ off) && decide (off < 0x10001E0)) && !(decide (0x1001000 ≤ off) && decide (off < 0x1001100)) && off != 0x1000034
  | 0x11 => false
  | _ => true

/-- The register write that a command is, as offset and value, where it is one; of a port where it matters. -/
def cmdWrite (port : Fin 2) : Instr → Option (Nat × Nat)
  | .frmHold h => some (0x100000, 2 * b2n h)
  | .timDiscWrite v => some (0x200004, v.toNat)
  | .timStepGo => some (0x200048, 1)
  | .canRecover n => some (0xA0001C + 0x100 * n, 1)
  | .canTxfflush n => some (0xA0001C + 0x100 * n, 2)
  | .canClrcnt n => some (0xA0001C + 0x100 * n, 4)
  | .canTxreq n w m => some (0xA00040 + 0x100 * n + 4 * w, m.toNat)
  | .canCancel n w m => some (0xA00050 + 0x100 * n + 4 * w, m.toNat)
  | .redClaim f => some (0xD00008, 1 + 2 * b2n f)
  | .redJoin => some (0xD00008, 4)
  | .redAbandon => some (0xD00008, 8)
  | .redHandover g => some (0xD00008, 16 + 32 * g)
  | .redRejoin => some (0xD00008, 128)
  | .recMark => some (0xE00004, 1)
  | .recClear p => if p = port then some (0xE00004, 4) else none
  | .ringEnable p q c => some (0xF01108 + 0x1000 * p + 16 * q, setBit c.toNat 0 true)
  | .ringDisable p q c => some (0xF01108 + 0x1000 * p + 16 * q, setBit c.toNat 0 false)
  | .hifSemWrite p n v => if p = port then some (0xF10000 + 4 * n, v.toNat) else none
  | .lifecycleCommand p g => if p = port then some (0x1000010, 256 + g) else none
  | .fwCtrlWrite p isl k => if p = port then some (0x1000020, b2n isl + 65536 * k) else none
  | .fwCheck p => if p = port then some (0x1000024, 1) else none
  | .fwActivate p => if p = port then some (0x1000024, 2) else none
  | .fwConfirm p => if p = port then some (0x1000024, 4) else none
  | .fwAbort p => if p = port then some (0x1000024, 8) else none
  | .fwWindowWrite p w v => if p = port then some (0x1010000 + 4 * w, v.toNat) else none
  | .secureStoreWrite => some (0x1000038, 1)
  | .secureStoreErase => some (0x1000038, 2)
  | .attestationGo => some (0x100003C, 1)
  | .mrExtend r => some (0x1000044, 256 + r)
  | .sealOpen p => if p = port then some (0x1000104, 1) else none
  | .sealCommit p => if p = port then some (0x1000104, 4) else none
  | .sealSetpw p => if p = port then some (0x1000104, 8) else none
  | .sealRoll p => if p = port then some (0x1000104, 16) else none
  | .sealDiscard p => if p = port then some (0x1000104, 32) else none
  | .powerStateRequest k => some (0x1200004, 256 + k)
  | .hostModuleReset p key => if p = port then some (0x1200018, 65536 * key.toNat + 1) else none
  | .hostIslandReset p key => if p = port then some (0x1200018, 65536 * key.toNat + 2) else none
  | .hostRegisterWrite .. | .minorTick | .majorTick | .slowTick .. | .acqStage .. | .alnStage .. | .ctlStage .. | .actStage ..
  | .supStage .. | .release .. | .estStage .. | .alcStage .. | .mirStage .. | .jigStage .. | .stageOverrun .. | .timeCounterLoad
  | .timeStep | .compareArm .. | .compareFire .. | .trigPulseEnd .. | .acqDwellComplete .. | .gnssRequeue .. | .gnssPullinTimeout ..
  | .gnssReacqTimeout .. | .epochRecordComplete | .gnssSolution .. | .ppsTimeMessage | .ppsPulse | .ppsPulseEnd | .tachoZeroTimeout ..
  | .envelopeLatch | .stepEdge .. | .tlgFeedbackTimeout .. | .canLockTimeout .. | .backoffExpiry | .sealIdleTimeout | .healthTelegramSend
  | .recorderSnapshot | .regWrite .. | .msixModerationExpiry .. | .snapshotBankComplete | .powerStateEntry .. | .wakeExit ..
  | .powerOnReset .. | .brownOut .. | .resetPin .. | .hostReadUnmapped .. | .readClear .. | .shadowLatchRead .. | .rwsWrite .. | .frmStart
  | .sequencerStart | .frmFaultClear .. | .frmInjectArm .. | .gnssOffsetMeasurement .. | .ptpSyncReceived .. | .ptpSyncTimeout
  | .holdoverLimit | .captureEdge .. | .timCapfifoRead .. | .timNowRead .. | .ethLinkChange .. | .ethFailover .. | .ethFailback ..
  | .ethFrameReceived .. | .ethFrameSend .. | .ptpAnnounceReceived .. | .ptpAnnounceTimeout .. | .ptpMessageTransmit ..
  | .iec450Datagram .. | .igmpQuery .. | .gnssEnable | .gnssRfPllLock .. | .gnssDisable | .gnssRestart .. | .gnssTrackLock ..
  | .gnssTrackLoss .. | .cycleSlipCheck .. | .measurementEpoch | .spoofClear | .notchSpectrum .. | .jamDetect .. | .uartSentence ..
  | .tachoEdge .. | .sigChannelTimeout .. | .sigSync .. | .sigBankSwitch .. | .sigValRead .. | .afeCalibrationComplete .. | .excOverload ..
  | .alnStreamReconfigure .. | .pendingInstantExpiry .. | .trackTimeout .. | .estReinit | .estOriginChange | .originDeferExpiry
  | .outvoteHoldExpiry .. | .contradictionHoldExpiry .. | .rehabExpiry .. | .headingLoss | .geckoEntry | .geckoTlim | .estArbClr ..
  | .cleDpaxWrite .. | .cmdPid .. | .cmdMain .. | .cmdRestart .. | .cmdPreset .. | .cleBankSwitch .. | .clePidchkCommit ..
  | .osatSaturationCount .. | .blendComplete .. | .modeRequest .. | .joystickTimeout | .berthedClear | .pressLoss | .alcThrusterFault ..
  | .alcThrusterClrflt .. | .crossingBegin .. | .rudderCommitChange .. | .envelopeStale .. | .consequenceAlarm ..
  | .consequenceAlarmClear .. | .energyBinComplete .. | .energyClear .. | .prfMove .. | .prfStop .. | .prfAbort .. | .prfAbortall ..
  | .prfHome .. | .prfResume .. | .prfClrflt .. | .moveComplete .. | .axinDebouncedChange .. | .inputChatter ..
  | .microstepHoldAmplitude .. | .canInitClear .. | .canInitSet .. | .canIntegrationComplete .. | .canFrameReceived ..
  | .canTxOpportunity .. | .canTxAttemptEnd .. | .canTxCommit .. | .canRecoveryComplete .. | .canBufferLockRead ..
  | .canBufferReleaseRead .. | .canReady .. | .islandTick .. | .discrepancyLock .. | .contactorFeedbackTimeout .. | .cat1DelayExpiry ..
  | .safePduSend .. | .safePduReceived .. | .copyWindowExpiry .. | .connectionWatchdogExpiry .. | .resetInputRelease ..
  | .resetInputStuck .. | .safHostReset .. | .safConnrst .. | .clockMonitorCheck .. | .islandBoot | .islandSafeFault ..
  | .islandConfigApply .. | .passwordCheckComplete | .sealClose .. | .commitComplete .. | .secSealLogwinRead .. | .laneCheckDecision ..
  | .laneStateCopy | .laneRetire .. | .moduleCheckDecision .. | .kalmerFrameReceived .. | .kalmerLinkChange .. | .peerLost .. | .roleChange
  | .axolotlSnapshotLoad | .axolotlComplete | .recordWrite .. | .mramControllerFault | .recRecover .. | .recorderClearComplete
  | .recorderInit .. | .sqtailDoorbell .. | .cqheadDoorbell .. | .snapDoorbell .. | .descriptorFetch .. | .nop .. | .regRead ..
  | .snapCopy .. | .recRead .. | .rtcmSubmit .. | .ethTx .. | .rxBuf .. | .completionWrite .. | .dmaError .. | .rxItemDelivery
  | .ringStopped .. | .hifSemRead .. | .hostLinkUp .. | .hostLinkLoss .. | .msixMessage .. | .counterSnapshot | .tadpoleBoot ..
  | .attestationComplete | .fwCheckComplete | .lifecycleCommandComplete | .tamperTrip .. | .backupDomainPowerUp | .crystalStop
  | .rtcFracRead .. | .rtcHalt .. | .internalPps | .trimWindowStart | .autotrimComplete | .leapSecond | .tocal | .fromcal | .live
  | .ioLockoutEnter | .ioLockoutEnd | .rtcAlarm | .wakeInput .. | .railFault .. | .hostPerst .. | .gnssRfFault .. | .canReceiveError ..
  | .crystalRestart | .calendarConversionComplete => none

/-- The register read that a command is, as an offset, where it is one. -/
def cmdRead (port : Fin 2) : Instr → Option Nat
  | .timNowRead _ => some 0x200020
  | .timCapfifoRead _ => some 0x20006C
  | .sigValRead n _ => some (0x401008 + 16 * n)
  | .hifSemRead p n => if p = port then some (0xF10000 + 4 * n) else none
  | .secSealLogwinRead _ k => some (0x1000180 + 4 * k)
  | .rtcFracRead _ => some 0x1100000
  | .hostRegisterWrite .. | .minorTick | .majorTick | .slowTick .. | .acqStage .. | .alnStage .. | .ctlStage .. | .actStage ..
  | .supStage .. | .release .. | .estStage .. | .alcStage .. | .mirStage .. | .jigStage .. | .stageOverrun .. | .timeCounterLoad
  | .timeStep | .compareArm .. | .compareFire .. | .trigPulseEnd .. | .acqDwellComplete .. | .gnssRequeue .. | .gnssPullinTimeout ..
  | .gnssReacqTimeout .. | .epochRecordComplete | .gnssSolution .. | .ppsTimeMessage | .ppsPulse | .ppsPulseEnd | .tachoZeroTimeout ..
  | .envelopeLatch | .stepEdge .. | .tlgFeedbackTimeout .. | .canLockTimeout .. | .backoffExpiry | .sealIdleTimeout | .healthTelegramSend
  | .recorderSnapshot | .regWrite .. | .msixModerationExpiry .. | .snapshotBankComplete | .powerStateRequest .. | .powerStateEntry ..
  | .wakeExit .. | .powerOnReset .. | .brownOut .. | .resetPin .. | .hostModuleReset .. | .hostIslandReset .. | .hostReadUnmapped ..
  | .readClear .. | .shadowLatchRead .. | .rwsWrite .. | .frmStart | .sequencerStart | .frmHold .. | .frmFaultClear .. | .frmInjectArm ..
  | .gnssOffsetMeasurement .. | .ptpSyncReceived .. | .ptpSyncTimeout | .holdoverLimit | .timDiscWrite .. | .timStepGo | .captureEdge ..
  | .ethLinkChange .. | .ethFailover .. | .ethFailback .. | .ethFrameReceived .. | .ethFrameSend .. | .ptpAnnounceReceived ..
  | .ptpAnnounceTimeout .. | .ptpMessageTransmit .. | .iec450Datagram .. | .igmpQuery .. | .gnssEnable | .gnssRfPllLock .. | .gnssDisable
  | .gnssRestart .. | .gnssTrackLock .. | .gnssTrackLoss .. | .cycleSlipCheck .. | .measurementEpoch | .spoofClear | .notchSpectrum ..
  | .jamDetect .. | .uartSentence .. | .tachoEdge .. | .sigChannelTimeout .. | .sigSync .. | .sigBankSwitch .. | .afeCalibrationComplete ..
  | .excOverload .. | .alnStreamReconfigure .. | .pendingInstantExpiry .. | .trackTimeout .. | .estReinit | .estOriginChange
  | .originDeferExpiry | .outvoteHoldExpiry .. | .contradictionHoldExpiry .. | .rehabExpiry .. | .headingLoss | .geckoEntry | .geckoTlim
  | .estArbClr .. | .cleDpaxWrite .. | .cmdPid .. | .cmdMain .. | .cmdRestart .. | .cmdPreset .. | .cleBankSwitch .. | .clePidchkCommit ..
  | .osatSaturationCount .. | .blendComplete .. | .modeRequest .. | .joystickTimeout | .berthedClear | .pressLoss | .alcThrusterFault ..
  | .alcThrusterClrflt .. | .crossingBegin .. | .rudderCommitChange .. | .envelopeStale .. | .consequenceAlarm ..
  | .consequenceAlarmClear .. | .energyBinComplete .. | .energyClear .. | .prfMove .. | .prfStop .. | .prfAbort .. | .prfAbortall ..
  | .prfHome .. | .prfResume .. | .prfClrflt .. | .moveComplete .. | .axinDebouncedChange .. | .inputChatter ..
  | .microstepHoldAmplitude .. | .canInitClear .. | .canInitSet .. | .canIntegrationComplete .. | .canFrameReceived ..
  | .canTxOpportunity .. | .canTxAttemptEnd .. | .canTxCommit .. | .canTxreq .. | .canCancel .. | .canTxfflush .. | .canRecover ..
  | .canRecoveryComplete .. | .canClrcnt .. | .canBufferLockRead .. | .canBufferReleaseRead .. | .canReady .. | .islandTick ..
  | .discrepancyLock .. | .contactorFeedbackTimeout .. | .cat1DelayExpiry .. | .safePduSend .. | .safePduReceived .. | .copyWindowExpiry ..
  | .connectionWatchdogExpiry .. | .resetInputRelease .. | .resetInputStuck .. | .safHostReset .. | .safConnrst .. | .clockMonitorCheck ..
  | .islandBoot | .islandSafeFault .. | .islandConfigApply .. | .sealOpen .. | .passwordCheckComplete | .sealClose .. | .sealCommit ..
  | .commitComplete .. | .sealSetpw .. | .sealRoll .. | .sealDiscard .. | .laneCheckDecision .. | .laneStateCopy | .laneRetire ..
  | .moduleCheckDecision .. | .kalmerFrameReceived .. | .kalmerLinkChange .. | .peerLost .. | .roleChange | .redClaim .. | .redJoin
  | .redAbandon | .redHandover .. | .redRejoin | .axolotlSnapshotLoad | .axolotlComplete | .recordWrite .. | .mramControllerFault
  | .recMark | .recRecover .. | .recClear .. | .recorderClearComplete | .recorderInit .. | .sqtailDoorbell .. | .cqheadDoorbell ..
  | .snapDoorbell .. | .descriptorFetch .. | .nop .. | .regRead .. | .snapCopy .. | .recRead .. | .rtcmSubmit .. | .ethTx .. | .rxBuf ..
  | .completionWrite .. | .dmaError .. | .rxItemDelivery | .ringEnable .. | .ringDisable .. | .ringStopped .. | .hifSemWrite ..
  | .hostLinkUp .. | .hostLinkLoss .. | .msixMessage .. | .counterSnapshot | .tadpoleBoot .. | .mrExtend .. | .attestationGo
  | .attestationComplete | .fwCtrlWrite .. | .fwWindowWrite .. | .fwCheck .. | .fwCheckComplete | .fwActivate .. | .fwConfirm ..
  | .fwAbort .. | .lifecycleCommand .. | .lifecycleCommandComplete | .secureStoreWrite | .secureStoreErase | .tamperTrip ..
  | .backupDomainPowerUp | .crystalStop | .rtcHalt .. | .internalPps | .trimWindowStart | .autotrimComplete | .leapSecond | .tocal
  | .fromcal | .live | .ioLockoutEnter | .ioLockoutEnd | .rtcAlarm | .wakeInput .. | .railFault .. | .hostPerst .. | .gnssRfFault ..
  | .canReceiveError .. | .crystalRestart | .calendarConversionComplete => none

/-- The two ports of the host interface hold 16 rings, 32 vectors and the times of their messages. -/
@[reducible] def State.hifOk (s : State) : Prop :=
  s.hif.ports.length = 2 ∧ ∀ h ∈ s.hif.ports, h.rings.length = 16 ∧ h.table.length = 32 ∧ h.sentAt.length = 32

/-- The invariant of every step: the register file is canonical, so that two states with the same registers are the same data. -/
def State.Inv (s : State) : Prop := s.regs.wf = true

end Sys2Proof.Machine
end

