-- ==== Sys2Proof/Certificates/Slice0/Obligations.lean ====
section
/-! DEFINITION. The statements for the provers. -/

open Sys2Proof Sys2Proof.Machine

/-- A step carries out the command at the front of the queue on the state with the queue's rest. -/
def Obligations.StepIsExecOfFront : Prop :=
  ∀ (s : State) (c : Instr) (rest : List Instr), s.pending = c :: rest → step s = exec c { s with pending := rest }

/-- A step removes exactly the front of the queue; on an empty queue the block idles (log 1: the model's choice). -/
def Obligations.StepTakesTheFront : Prop :=
  (∀ s : State, s.pending = [] → step s = .next s) ∧ (∀ s t : State, step s = .next t → t.pending = s.pending.drop 1)

/-- Every command answers a next state in every state: the model has no fault and refuses nothing. -/
def Obligations.EveryCommandAnswers : Prop := ∀ (i : Instr) (s : State), ∃ t, exec i s = .next t

/-- The frame of every command: it leaves the queue alone and changes only the parts of the state that `touches` lists for it. -/
def Obligations.CommandFrame : Prop := ∀ (i : Instr) (s t : State), exec i s = .next t → Frame (touches i) s t

/-- The state after reset is canonical and has an empty queue. -/
def Obligations.ResetIsCanonical : Prop := State.reset.Inv ∧ State.reset.pending = []

/-- Every step keeps the register file canonical: offsets strictly rise and no word is listed at its after-reset value. -/
def Obligations.StepKeepsCanonical : Prop := ∀ s t : State, s.Inv → step s = .next t → t.Inv

/-- Every step keeps or raises the counter of free values, so that no free value is drawn twice (logs 2 and 3: the model's own field). -/
def Obligations.FreeValuesAreFresh : Prop := ∀ s t : State, step s = .next t → s.freeCtr ≤ t.freeCtr

/-- The time counter moves only with the commands of `movesTime`. -/
def Obligations.OnlyTimeCommandsMoveTime : Prop :=
  ∀ (i : Instr) (s t : State), movesTime i = false → exec i s = .next t → t.tim.ctr = s.tim.ctr

/-- Commands of the frame sequencer: start request, start at a major tick, hold, fault clear, forced overrun (R59, R64, R65, R73).
It rests on the model's own choices in logs 15 and 79. -/
def Obligations.SequencerCommands : Prop :=
  (∀ s, s.flag F.FRM_STATUS_RUNNING = false → Does .frmStart s fun t =>
    t.flag F.FRM_STATUS_STARTING = true ∧ OnlyWords [F.FRM_STATUS_STARTING.off] s t) ∧
  (∀ s, s.flag F.FRM_STATUS_RUNNING = true → Does .frmStart s fun t => Unchanged s t) ∧
  (∀ s, s.now % 10000000 * 2 ^ 32 + s.tim.ctr.sub < s.edgeStep → s.flag F.FRM_STATUS_STARTING = true → s.ready = true →
    Does .sequencerStart s fun t => t.flag F.FRM_STATUS_STARTING = false ∧ t.flag F.FRM_STATUS_RUNNING = true ∧ t.pended 11 ∧
      OnlyWordsEv [F.FRM_STATUS_STARTING.off] s t) ∧
  (∀ s hold, Does (.frmHold hold) s fun t => t.flag F.FRM_CTRL_HOLD = hold ∧
    (s.flag F.FRM_CTRL_HOLD = true → hold = false → t.frm.releaseAll = true) ∧ OnlyWords [F.FRM_CTRL_HOLD.off] s t) ∧
  (∀ s (mask : BitVec 9), Does (.frmFaultClear mask) s fun t => (∀ k < 9, bitOf mask.toNat k = true →
      t.bit F.FRM_FAULT_STAGE k = false ∧ (s.bit F.FRM_FAULT_STAGE k = true → t.get (F.FRM_STAGE_CONSEC k) = 0)) ∧
    (∀ k < 9, bitOf mask.toNat k = false → t.bit F.FRM_FAULT_STAGE k = s.bit F.FRM_FAULT_STAGE k)) ∧
  (∀ s (stage : BitVec 4) (count : BitVec 2), s.inCommand = false → s.sec.lc ≠ 3 →
    Does (.frmInjectArm stage count) s fun t => t.get F.FRM_INJECT_STAGE = stage.toNat ∧ t.get F.FRM_INJECT_COUNT = count.toNat ∧
      t.flag F.FRM_INJECT_ARM = (decide (stage.toNat < 9) && decide (count.toNat ≠ 0)) ∧
      t.frm.injectLeft = (if stage.toNat < 9 then count.toNat else 0) ∧ OnlyWords [F.FRM_INJECT_ARM.off] s t) ∧
  (∀ s (stage : BitVec 4) (count : BitVec 2), s.inCommand = true ∨ s.sec.lc = 3 → Does (.frmInjectArm stage count) s fun t => Unchanged s t)
/-- Each stage, in its window and not forced to overrun, is done: its bit of the frame's record is set (R42, R43, R45, R52, R57).
It rests on the model's own choices in logs 11 and 15. -/
def Obligations.StagesComplete : Prop :=
  (∀ s util cic, s.stageOpen 0 → Does (.acqStage util cic) s fun t => bitOf t.frm.done 0 = true ∧ bitOf t.frm.stale 0 = false ∧
    t.get (F.FRM_STAGE_CONSEC 0) = 0 ∧ t.get (F.FRM_UTIL_LAST 0) = util.val) ∧
  (∀ s util, s.stageOpen 1 → Does (.alnStage util) s fun t => bitOf t.frm.done 1 = true ∧ bitOf t.frm.stale 1 = false ∧
    t.get (F.FRM_STAGE_CONSEC 1) = 0 ∧ t.get (F.FRM_UTIL_LAST 1) = util.val) ∧
  (∀ s util, s.stageOpen 2 → Does (.ctlStage util) s fun t => bitOf t.frm.done 2 = true ∧ bitOf t.frm.stale 2 = false ∧
    t.get (F.FRM_STAGE_CONSEC 2) = 0 ∧ t.get (F.FRM_UTIL_LAST 2) = util.val) ∧
  (∀ s util, s.stageOpen 3 → Does (.actStage util) s fun t => bitOf t.frm.done 3 = true ∧ bitOf t.frm.stale 3 = false ∧
    t.get (F.FRM_STAGE_CONSEC 3) = 0 ∧ t.get (F.FRM_UTIL_LAST 3) = util.val) ∧
  (∀ s util mis, s.stageOpen 4 → Does (.supStage util mis) s fun t => bitOf t.frm.done 4 = true ∧ t.frm.supOk = true ∧
    t.get (F.FRM_STAGE_CONSEC 4) = 0 ∧ t.get (F.FRM_UTIL_LAST 4) = util.val) ∧
  (∀ s util, s.stageOpen 5 → Does (.estStage util) s fun t => bitOf t.frm.done 5 = true ∧ bitOf t.frm.stale 5 = false ∧
    t.get (F.FRM_STAGE_CONSEC 5) = 0 ∧ t.get (F.FRM_UTIL_LAST 5) = util.val) ∧
  (∀ s util mis, s.stageOpen 6 → Does (.alcStage util mis) s fun t => bitOf t.frm.done 6 = true ∧ bitOf t.frm.stale 6 = false ∧
    t.get (F.FRM_STAGE_CONSEC 6) = 0 ∧ t.get (F.FRM_UTIL_LAST 6) = util.val) ∧
  (∀ s util mis peers, s.stageOpen 7 → Does (.mirStage util mis peers) s fun t => bitOf t.frm.done 7 = true ∧ bitOf t.frm.stale 7 = false ∧
    t.get (F.FRM_STAGE_CONSEC 7) = 0 ∧ t.get (F.FRM_UTIL_LAST 7) = util.val) ∧
  (∀ s util fail ecc cyc, s.stageOpen 8 → Does (.jigStage util fail ecc cyc) s fun t => bitOf t.frm.done 8 = true ∧
    bitOf t.frm.stale 8 = false ∧ t.get (F.FRM_STAGE_CONSEC 8) = 0 ∧ t.get (F.FRM_UTIL_LAST 8) = util.val)

/-- A stage that has overrun in the minor frame in which its window ends: stopped at that end, marked done and stale, with its overrun bit,
its counts and 1023 as its utilisation; the third in a row is a stage fault with event 9 (R52, R54, R55, R57). In one lane only, the other
lane's stage completes and the lanes differ (R60).
It rests on the model's own choices in logs 15 and 77. -/
def Obligations.StageOverruns : Prop :=
  (∀ s (stage : Fin 9) done cic, s.stageFree stage = true → s.endsHere stage → Does (.stageOverrun stage done cic none) s fun t =>
    s.stageEnd stage ≤ t.now ∧ bitOf t.frm.done stage = true ∧ bitOf t.frm.stale stage = true ∧ bitOf t.frm.running stage = false ∧
    t.bit F.FRM_OVR_STAGE stage = true ∧ t.get (F.FRM_UTIL_LAST stage) = 1023 ∧
    t.get (F.FRM_STAGE_CONSEC stage) = min 3 (s.get (F.FRM_STAGE_CONSEC stage) + 1) ∧
    t.get (F.FRM_STAGE_TOTAL stage) = satInc 16777215 (s.get (F.FRM_STAGE_TOTAL stage))) ∧
  (∀ s (stage : Fin 9) done cic, s.stageFree stage = true → s.endsHere stage → s.get (F.FRM_STAGE_CONSEC stage) = 2 →
    Does (.stageOverrun stage done cic none) s fun t => t.bit F.FRM_FAULT_STAGE stage = true ∧ t.pended 9) ∧
  (∀ s (stage : Fin 9) done cic (l : Fin 2) (util : Fin 1001), s.twin = none → s.dualLane = true → s.stageFree stage = true →
    s.forcedOver stage = false → s.endsHere stage → Does (.stageOverrun stage done cic (some (l, util))) s fun t =>
      bitOf t.frm.done stage = true ∧ bitOf t.frm.stale stage = (l == 0) ∧ t.bit F.FRM_OVR_STAGE stage = (s.bit F.FRM_OVR_STAGE stage || l == 0) ∧
      t.get (F.FRM_UTIL_LAST stage) = (if l = 0 then 1023 else util.val) ∧ ∃ c, t.twin = some c ∧ bitOf c.frm.stale stage = (l == 1))

/-- The release happens once in a minor frame, at minor tick + 230 µs; without a lane, or in the frame that copies the lanes' state,
it changes no output (R44, R472).
It rests on the model's own choices in logs 75 and 76. -/
def Obligations.ReleaseOnce : Prop :=
  (∀ s mis, s.framesOn = true → s.ready = true → s.counterOk → bitOf s.frm.done 9 = false → s.now % 250000 ≤ 230004 →
    Does (.release mis) s fun t => bitOf t.frm.done 9 = true ∧ 230000 ≤ t.now % 250000 ∧
      (s.red.copy = true ∨ s.get F.RED_STATUS_LANES = 0 → t.regs = s.regs ∧ t.prf = s.prf ∧ t.can = s.can)) ∧
  (∀ s mis, bitOf s.frm.done 9 = true → Does (.release mis) s fun t => Unchanged s t)

/-- A tick runs the counter to the first edge at or after the next multiple of 250 µs, 10 ms or 1 s, tick by tick (R37 to R39); after it
every minor stage may run once more, and the values that wait for it have taken effect (R62).
It rests on the model's own choices in log 11. -/
def Obligations.TicksReachGrid : Prop :=
  (∀ s, s.ready = true → s.counterOk → s.tim.step = none →
    Does .minorTick s fun t => s.nextGrid 250000 ≤ t.now ∧ t.now < s.nextGrid 250000 + 5 ∧ t.frm.done % 32 = 0 ∧
      t.get F.FRM_STATUS_MINOR = t.now % 1000000000 / 250000 % 40 ∧ t.get F.FRM_STATUS_MAJOR = t.now % 1000000000 / 10000000) ∧
  (∀ s, s.ready = true → s.counterOk → s.tim.step = none → s.flag F.FRM_CTRL_HOLD = false → s.frm.releaseAll = false → s.twin = none →
    Does .minorTick s fun t => ∀ q ∈ t.frm.pend, tickKind q.off ≠ some false) ∧
  (∀ s, s.ready = true → s.counterOk → s.tim.step = none →
    Does .majorTick s fun t => s.nextGrid 10000000 ≤ t.now ∧ t.now < s.nextGrid 10000000 + 5) ∧
  (∀ s vbat, s.ready = true → s.counterOk → s.tim.step = none →
    Does (.slowTick vbat) s fun t => s.nextGrid 1000000000 ≤ t.now ∧ t.now < s.nextGrid 1000000000 + 5)

/-- Before READY the load takes the counter from the RTC count, in 2^-16 s with ties to even, or zero where that is invalid (R99).
A host step request in MODE 0 with at most 999,999,999 ns is pending from the instant of the request; another is refused; a pending
step is applied at its slow tick, with event 16 (R95, R100).
It rests on the model's own choices in logs 10 and 73. -/
def Obligations.CounterLoadAndSteps : Prop :=
  (∀ s, s.ready = false → s.flag F.RTC_STATUS_VALID = true → Does .timeCounterLoad s fun t => t.ready = true ∧
    t.tim.ctr = ⟨s.rtc.count / 65536, (divRne (s.rtc.count % 65536 * 1000000000 : Nat) 65536).toNat, 0⟩) ∧
  (∀ s, s.ready = false → s.flag F.RTC_STATUS_VALID = false → Does .timeCounterLoad s fun t => t.ready = true ∧
    t.flag F.TIM_STATUS_RTC_INVALID = true ∧ t.tim.ctr = ⟨0, 0, 0⟩) ∧
  (∀ s, s.ready = true → Does .timeCounterLoad s fun t => t = s) ∧
  (∀ s, s.get F.TIM_DISC_MODE = 0 → (s.getI F.TIM_STEP_NS_VALUE).natAbs ≤ 999999999 → Does .timStepGo s fun t =>
    t.tim.step = some ⟨s.getI F.TIM_STEP_SEC_VALUE * 1000000000 + s.getI F.TIM_STEP_NS_VALUE, s.now⟩ ∧
      t.flag F.TIM_STATUS_STEP_PENDING = true ∧ OnlyWords [F.TIM_STATUS_STEP_PENDING.off] s t) ∧
  (∀ s, s.get F.TIM_DISC_MODE ≠ 0 ∨ 999999999 < (s.getI F.TIM_STEP_NS_VALUE).natAbs → Does .timStepGo s fun t =>
    t.tim.step = s.tim.step ∧ t.flag F.TIM_STATUS_STEP_REFUSED = true ∧ OnlyWords [F.TIM_STATUS_STEP_REFUSED.off] s t) ∧
  (∀ s p, s.ready = true → s.counterOk → s.tim.step = some p → p.req ≤ s.now → Does .timeStep s fun t => t.tim.step = none ∧
    t.flag F.TIM_STATUS_STEP_PENDING = false ∧ t.get F.TIM_LASTSTEP_LO_VALUE = ofInt 64 p.delta % 2 ^ 32 ∧
    t.get F.TIM_LASTSTEP_HI_VALUE = ofInt 64 p.delta / 2 ^ 32 ∧ t.pended 16)

/-- Discipline of the time base: an offset of the source in use is against TAI, 19 s after the time of GPS, Galileo and QZSS and 33 s after
that of BeiDou (R92); a source that qualifies leads from FREE to LOCKING; loss of the last source to HOLDOVER; leaving modes 1 to 4 to
FREE with the FINE in force as the manual one; the limit of holdover (R91, R93, R96, R98). -/
def Obligations.DisciplineCommands : Prop :=
  (∀ s valid bds ofs, Does (.gnssOffsetMeasurement valid bds ofs) s fun t => t.tim.gnssCount = if valid then satInc 10 s.tim.gnssCount else 0) ∧
  (∀ s bds ofs, s.get F.TIM_DISC_MODE = 1 → s.get F.TIM_STATUS_STATE = 0 → s.tim.gnssCount = 9 →
    Does (.gnssOffsetMeasurement true bds ofs) s fun t => t.get F.TIM_STATUS_STATE = 1 ∧ t.get F.TIM_STATUS_SRC = 1 ∧ t.pended 17) ∧
  (∀ s (p : Fin 4) (sy : PtpSync), sy.domain = s.get (F.ETH_PTPCFG_DOMAIN 0) → s.get (F.ETH_STATUS_PTP_STATE p) = 9 →
    Does (.ptpSyncReceived p sy) s fun t => t.tim.ptpAt = s.now ∧ t.tim.ptpLog = sy.logInt ∧
      ((s.port p).delay = none → t.tim.ptpCount = 0) ∧
      t.getI (F.ETH_PTPOFS_NS p) = clampI (-2147483648) 2147483647
        (divRne (s.ingressTime p sy.frac - (ptpTime sy.sec sy.ns + sy.corr) - (s.port p).delay.getD 0) (2 ^ 16))) ∧
  (∀ s (p : Fin 4) (sy : PtpSync), s.get (F.ETH_STATUS_PTP_STATE p) ≠ 9 ∨ sy.domain ≠ s.get (F.ETH_PTPCFG_DOMAIN 0) →
    Does (.ptpSyncReceived p sy) s fun t => t = s) ∧
  (∀ s, s.get F.TIM_DISC_MODE = 2 → s.get F.TIM_STATUS_STATE = 2 → s.get F.TIM_STATUS_SRC = 2 → s.tim.ptpQual = true →
    s.tim.ptpAt + 3 * logNs s.tim.ptpLog ≤ s.now → Does .ptpSyncTimeout s fun t => t.tim.ptpCount = 0 ∧ t.get F.TIM_STATUS_STATE = 3 ∧
      t.tim.holdStart = s.now ∧ t.pended 18 ∧ OnlyWordsEv [F.TIM_STATUS_STATE.off] s t) ∧
  (∀ s, s.get F.TIM_STATUS_STATE = 3 → s.get F.TIM_HOLD_LIMIT * 100 < s.holdUnc → s.flag F.TIM_STATUS_HOLD_EXCEEDED = false →
    Does .holdoverLimit s fun t => t.flag F.TIM_STATUS_HOLD_EXCEEDED = true ∧ t.pended 23 ∧
      OnlyWordsEv [F.TIM_STATUS_HOLD_EXCEEDED.off] s t) ∧
  (∀ s (val : Word), 1 ≤ s.get F.TIM_DISC_MODE → s.get F.TIM_DISC_MODE ≤ 4 → s.get F.TIM_STATUS_STATE ≠ 0 → val.toNat % 8 = 0 →
    Does (.timDiscWrite val) s fun t => t.get F.TIM_STATUS_STATE = 0 ∧ t.get F.TIM_DISC_MODE = 0 ∧
      t.getI F.TIM_MANINCR_FINE = s.getI F.TIM_INCR_FINE) ∧
  (∀ s bds ofs, s.get F.TIM_DISC_MODE = 1 → s.get F.TIM_STATUS_STATE = 1 ∨ s.get F.TIM_STATUS_STATE = 2 → s.get F.TIM_STATUS_SRC = 1 →
    9 ≤ s.tim.gnssCount → Does (.gnssOffsetMeasurement true bds ofs) s fun t =>
      t.getI F.TIM_OFFSET_NS = clampI (-2147483647) 2147483647 (ofs - if bds then 33000000000 else 19000000000)) ∧
  (∀ s, s.tim.ptpQual = true ∨ s.tim.ptpCount ≠ 0 → s.tim.ptpAt + 3 * logNs s.tim.ptpLog ≤ s.now → Does .ptpSyncTimeout s fun t =>
    t.tim.ptpCount = 0 ∧ t.tim.ptpQual = false) ∧
  (∀ s (val : Word), Does (.timDiscWrite val) s fun t => t.get F.TIM_DISC_MODE = val.toNat % 8 ∧ t.get F.TIM_DISC_SLEW = val.toNat / 16 % 4096 ∧
    t.get F.TIM_DISC_STEP_THR = val.toNat / 65536)

/-- Compare units and their pulses (R81, R82, R84).
It rests on the model's own choices in logs 11, 83 and 85. -/
def Obligations.CompareCommands : Prop :=
  (∀ s (c : Fin 16), 0 > linDiff s.lin (s.cmpTarget c) → Does (.compareArm c) s fun t => t.flag (F.TIM_CMP_CTRL_ARM c) = true ∧
    t.tim = s.tim ∧ OnlyWords [(F.TIM_CMP_CTRL_ARM c).off] s t) ∧
  (∀ s (c : Fin 16), s.tim.pulseEnd.length = 16 → s.flag (F.TIM_CMP_CTRL_ARM c) = true → -(2 ^ 63) < linDiff (s.cmpTarget c) s.lin →
    s.reaches (s.now + (linDiff (s.cmpTarget c) s.lin).toNat) → Does (.compareFire c) s fun t =>
      s.now + (linDiff (s.cmpTarget c) s.lin).toNat ≤ t.now ∧ nth t.tim.pulseEnd c none = some (t.now + s.cmpWidth c) ∧
      t.flag (F.TIM_CMP_STATUS_OUT c) = true ∧ t.flag (F.TIM_CMP_STATUS_FIRED c) = true) ∧
  (∀ s (c : Fin 16) e, s.tim.pulseEnd.length = 16 → nth s.tim.pulseEnd c none = some e → s.reaches e → Does (.trigPulseEnd c) s fun t =>
    e ≤ t.now ∧ nth t.tim.pulseEnd c none = none ∧ t.flag (F.TIM_CMP_STATUS_OUT c) = false ∧ OnlyWords [(F.TIM_CMP_STATUS_OUT c).off] s t) ∧
  (∀ s (c : Fin 16), s.ready = true → s.counterOk → 0 ≤ linDiff s.lin (s.cmpTarget c) → linDiff s.lin (s.cmpTarget c) < 2 ^ 62 →
    Does (.compareArm c) s fun t => s.now < t.now ∧ t.flag (F.TIM_CMP_STATUS_OUT c) = true ∧ t.flag (F.TIM_CMP_STATUS_FIRED c) = true ∧
      t.flag (F.TIM_CMP_STATUS_LATE c) = true ∧ t.pended 20)

/-- Captures enter the host FIFO in order of their edges, on one edge in ascending input order, and leave it in order; a read of TIM_NOW_NS
gives NS and latches the other words (R78, R88 to R90).
It rests on the model's own choices in log 90. -/
def Obligations.CaptureCommands : Prop :=
  (∀ s (n : Fin 32) rising, s.ready = true → (if rising then s.capEdge n % 2 = 1 else s.capEdge n / 2 = 1) → s.capPasses n rising = true →
    s.bit F.TIM_CAPHOST_VALUE n = true → s.tim.capFifo.length < 64 → s.tim.capIn.length = 32 → Does (.captureEdge n rising) s fun t =>
      nth t.tim.capIn n none = some (rising, s.tim.ctr.fine) ∧ t.tim.capFifo = capInsert ⟨s.lin, n, rising⟩ s.tim.capFifo ∧
      ((∀ y ∈ s.tim.capFifo, y.lin = s.lin → y.input ≤ n) → t.tim.capFifo = s.tim.capFifo ++ [⟨s.lin, n, rising⟩]) ∧
      t.get F.TIM_CAPSTAT_HELD = s.tim.capFifo.length + 1) ∧
  (∀ s port e rest, s.tim.capFifo = e :: rest → rest.length < 64 → Does (.timCapfifoRead port) s fun t => t.tim.capFifo = rest ∧
    t.hostData = e.lin % 2 ^ 32 ∧ t.get F.TIM_CAPSTAT_HELD = rest.length ∧ t.get F.TIM_CAPFIFO_HI_VALUE = e.lin / 2 ^ 32 % 2 ^ 32) ∧
  (∀ s port, Does (.timNowRead port) s fun t => t.hostData = s.tim.ctr.ns ∧ t.regs = s.regs ∧
    t.shadow.lookup 0x200024 = some (s.tim.ctr.sec % 2 ^ 32) ∧ t.shadow.lookup 0x20002C = some s.tim.ctr.sub ∧
    t.shadow.lookup 0x200034 = some (s.tim.ctr.lin / 2 ^ 32)) ∧
  (∀ s port, s.tim.capFifo = [] → Does (.timCapfifoRead port) s fun t => t.hostData = 0 ∧ t.tim = s.tim ∧ t.get F.TIM_CAPFIFO_INFO_VALUE = 0 ∧
    OnlyWords [F.TIM_CAPFIFO_INFO_VALUE.off] s t)

/-- The alarm of the backup domain fires when SEC is equal to or later than RTC_ALARM: PWR_EN goes to 1 with ALMF; a one-shot alarm is
disabled; the count of a scheduled leap second takes effect (R599, R601, R603).
It rests on the model's own choices in log 414. -/
def Obligations.AlarmAndLeap : Prop :=
  (∀ s, s.flag F.RTC_PWR_ALARM_EN = true → 0 ≤ secDiff s.rtcSec (s.get48 F.RTC_ALARM_LO_SEC F.RTC_ALARM_HI_SEC) → s.get F.RTC_ALARM_PER_PER = 0 →
    s.flag F.RTC_STATUS_READY = true → Does .rtcAlarm s fun t => t.flag F.RTC_PWR_ALMF = true ∧ t.flag F.RTC_PWR_PWR_EN = true ∧
      t.flag F.RTC_PWR_ALARM_EN = false ∧ t.pended 240 ∧ OnlyWordsEv [F.RTC_PWR_ALMF.off] s t) ∧
  (∀ s, s.flag F.RTC_PWR_ALARM_EN = false ∨ secDiff s.rtcSec (s.get48 F.RTC_ALARM_LO_SEC F.RTC_ALARM_HI_SEC) < 0 →
    Does .rtcAlarm s fun t => t = s) ∧
  (∀ s nx at', s.offsets.next = some (nx, at') → 0 ≤ secDiff s.rtcSec at' → s.flag F.RTC_CTRL_HALT = false → Does .leapSecond s fun t =>
    t.get F.RTC_TAIUTC_OFS = nx % 256 ∧ t.flag F.RTC_LEAP_EN = false ∧ OnlyWords [F.RTC_TAIUTC_OFS.off, F.RTC_LEAP_EN.off] s t) ∧
  (∀ s, s.flag F.RTC_PWR_ALARM_EN = true → 0 ≤ secDiff s.rtcSec (s.get48 F.RTC_ALARM_LO_SEC F.RTC_ALARM_HI_SEC) → s.get F.RTC_ALARM_PER_PER ≠ 0 →
    Does .rtcAlarm s fun t => t.flag F.RTC_PWR_ALMF = true ∧ t.flag F.RTC_PWR_PWR_EN = true ∧ t.flag F.RTC_PWR_ALARM_EN = true ∧
      secDiff s.rtcSec (t.get48 F.RTC_ALARM_LO_SEC F.RTC_ALARM_HI_SEC) < 0 ∧
      OnlyWordsEv [F.RTC_PWR_ALMF.off, F.RTC_ALARM_LO_SEC.off, F.RTC_ALARM_HI_SEC.off] s t)

/-- Power and crystal of the backup domain (R588, R590): the count stops and starts again with the crystal; a power-up of the domain empties
the ring and gives every field of it its value after reset.
Lockout of the interface and the WAKE input (R600, R602, R603): READY is 0 while VDD_IO is out of range; a change of WAKE to its active
level sets WAKEF and PWR_EN.
It rests on the model's own choices in log 406. -/
def Obligations.BackupPowerAndLockout : Prop :=
  (∀ s, Does .backupDomainPowerUp s fun t => t.rtc = RtcState.reset ∧ t.rcd.ring = [] ∧
    (∀ off, 0x1100000 ≤ off → off < 0x1200000 → t.regs.word off = resetWord off) ∧ t.tim = s.tim) ∧
  (∀ s, s.flag F.RTC_STATUS_READY = true → Does .crystalStop s fun t => t.rtc.stopped = true ∧ t.rtc.count = s.rtc.count ∧
    t.flag F.RTC_STATUS_VALID = false ∧ t.flag F.RTC_STATUS_OSCSTOP = true ∧ t.pended 244 ∧ OnlyWordsEv [F.RTC_STATUS_VALID.off] s t) ∧
  (∀ s, Does .crystalRestart s fun t => t.rtc.stopped = false ∧ t.rtc.count = s.rtc.count ∧ t.regs = s.regs) ∧
  (∀ s, Does .ioLockoutEnter s fun t => t.flag F.RTC_STATUS_READY = false ∧ t.bit F.PWR_RAIL_LOWSEEN 0 = true ∧ t.rtc = s.rtc ∧
    OnlyWords [F.RTC_STATUS_READY.off, F.PWR_RAIL_LOWSEEN.off] s t) ∧
  (∀ s, s.flag F.RTC_STATUS_READY = false → (∀ e ∈ s.rtc.held, e < 256) → Does .ioLockoutEnd s fun t => t.flag F.RTC_STATUS_READY = true ∧ t.rtc.held = []) ∧
  (∀ s level, s.flag F.RTC_STATUS_READY = true → s.flag F.RTC_PWR_WAKE = !level → s.flag F.RTC_PWR_WAKEPOL = !level →
    s.flag F.RTC_PWR_WAKE_EN = true → Does (.wakeInput level) s fun t => t.flag F.RTC_PWR_WAKE = level ∧ t.flag F.RTC_PWR_WAKEF = true ∧
      t.flag F.RTC_PWR_PWR_EN = true ∧ t.pended 241 ∧ OnlyWordsEv [F.RTC_PWR_WAKE.off] s t) ∧
  (∀ s, Does .crystalStop s fun t => t.rtc.stopped = true ∧ t.flag F.RTC_STATUS_VALID = false ∧ t.flag F.RTC_STATUS_OSCSTOP = true) ∧
  (∀ s level, Does (.wakeInput level) s fun t => t.flag F.RTC_PWR_WAKE = level ∧
    (level = s.flag F.RTC_PWR_WAKE → t.rtc = s.rtc ∧ OnlyWords [F.RTC_PWR_WAKE.off] s t))

/-- The count of the clock (R592, R600): a halt stands until its release, and during the lockout a write only sets LOCKWR. -/
def Obligations.ClockCount : Prop :=
  (∀ s, s.flag F.RTC_STATUS_READY = true → s.flag F.RTC_CTRL_HALT = false → Does (.rtcHalt true) s fun t =>
    t.flag F.RTC_CTRL_HALT = true ∧ t.rtc.wroteSec = false ∧ OnlyWords [F.RTC_CTRL_HALT.off] s t) ∧
  (∀ s halt, s.flag F.RTC_STATUS_READY = false → Does (.rtcHalt halt) s fun t => t.flag F.RTC_STATUS_LOCKWR = true ∧
    t.get F.RTC_CTRL_HALT = s.get F.RTC_CTRL_HALT ∧ t.rtc = s.rtc) ∧
  (∀ s halt, s.flag F.RTC_STATUS_READY = true → Does (.rtcHalt halt) s fun t => t.flag F.RTC_CTRL_HALT = halt ∧
    (s.flag F.RTC_CTRL_HALT = true → halt = false → t.flag F.RTC_STATUS_VALID = (s.rtc.wroteSec || s.flag F.RTC_STATUS_VALID)))

/-- Trim and load of the clock (R593, R595, R596, R605): a measurement of N pulses gives VALUE 33,554,432 - N inside ±17,179, a window at its
start takes the register's VALUE, and a load that was asked for sets the count from RTC_LOAD at the internal PPS.
It rests on the model's own choices in log 412. -/
def Obligations.ClockTrimAndLoad : Prop :=
  (∀ s n, s.rtc.trimDue = some n → s.flag F.RTC_STATUS_READY = true → Does .autotrimComplete s fun t =>
    t.getI F.RTC_TRIM_VALUE = clampI (-17179) 17179 (33554432 - n) ∧ t.flag F.RTC_STATUS_TRIMVALID = true ∧ t.rtc.trimDue = none ∧ t.pended 243) ∧
  (∀ s, s.rtc.k = 0 → Does .trimWindowStart s fun t => t.rtc.trim = s.getI F.RTC_TRIM_VALUE ∧ t.regs = s.regs) ∧
  (∀ s, s.ready = true → s.tim.ctr.sec ≠ s.rtc.ppsSec → s.flag F.RTC_CTRL_LOADPPS = true → Does .internalPps s fun t =>
    t.rtc.ppsSec = s.tim.ctr.sec ∧ t.rtc.count = s.get48 F.RTC_LOAD_LO_SEC F.RTC_LOAD_HI_SEC % 2 ^ 48 * 65536) ∧
  (∀ s, s.ready = true → s.tim.ctr.sec ≠ s.rtc.ppsSec → s.flag F.RTC_CTRL_LOADPPS = false → Does .internalPps s fun t =>
    t.rtc.ppsSec = s.tim.ctr.sec ∧ (s.flag F.RTC_CTRL_AUTOSYNC = false → t.rtc.count = s.rtc.count)) ∧
  (∀ s, s.rtc.trimDue = none → s.ready = true → s.tim.ctr.sec ≠ s.rtc.ppsSec → s.flag F.RTC_CTRL_LOADPPS = false → s.flag F.RTC_CTRL_AUTOSYNC = true →
    s.get F.TIM_STATUS_STATE = 2 → max (s.get F.RTC_CTRL_SYNCTHR) 1 < (toInt 64 ((s.rtc.count + 2 ^ 64 - s.tim.ctr.sec % 2 ^ 48 * 65536) % 2 ^ 64)).natAbs →
    Does .internalPps s fun t => t.rtc.count = s.tim.ctr.sec % 2 ^ 48 * 65536 ∧ t.flag F.RTC_STATUS_VALID = true)

/-- The calendar port (R598): a command starts a conversion with BUSY, or is rejected with CAL_ERR and event 245 where there is no such
date; at its end the outputs stand in the registers and BUSY is 0. -/
def Obligations.CalendarCommands : Prop :=
  (∀ s c, s.flag F.RTC_CAL_STAT_BUSY = false → s.offsets.toCivil (s.get48 F.RTC_CAL_SEC_LO_SEC F.RTC_CAL_SEC_HI_SEC) = some c →
    Does .tocal s fun t => t.flag F.RTC_CAL_STAT_BUSY = true ∧ t.rtc.conv = calWords c c.dow ∧ OnlyWords [F.RTC_CAL_STAT_BUSY.off] s t) ∧
  (∀ s n, s.flag F.RTC_CAL_STAT_BUSY = false → s.offsets.fromCivil s.calInput = some n →
    Does .fromcal s fun t => t.flag F.RTC_CAL_STAT_BUSY = true ∧ t.rtc.conv = secWords n ++ (calWords s.calInput s.calInput.dow).drop 1 ∧
      OnlyWords [F.RTC_CAL_STAT_BUSY.off] s t) ∧
  (∀ s, s.flag F.RTC_CAL_STAT_BUSY = false → s.offsets.fromCivil s.calInput = none → s.flag F.RTC_STATUS_READY = true →
    Does .fromcal s fun t => t.flag F.RTC_CAL_STAT_CAL_ERR = true ∧ t.flag F.RTC_CAL_STAT_BUSY = false ∧ t.pended 245) ∧
  (∀ s c, s.flag F.RTC_CAL_STAT_BUSY = false → s.offsets.toCivil s.rtcSec = some c →
    Does .live s fun t => t.flag F.RTC_CAL_STAT_BUSY = true ∧ t.rtc.conv = secWords s.rtcSec ++ calWords c c.dow ∧
      OnlyWords [F.RTC_CAL_STAT_BUSY.off] s t) ∧
  (∀ s a b, s.flag F.RTC_CAL_STAT_BUSY = true → s.rtc.conv = [(0x110003C, a), (0x1100040, b)] → Does .calendarConversionComplete s fun t =>
    t.flag F.RTC_CAL_STAT_BUSY = false ∧ t.rtc.conv = [] ∧ t.word 0x110003C = a % 2 ^ 32 ∧ t.word 0x1100040 = b % 2 ^ 32 ∧
      OnlyWords [0x110003C, 0x1100040, F.RTC_CAL_STAT_BUSY.off] s t) ∧
  (∀ s, s.flag F.RTC_CAL_STAT_BUSY = true → (s.rtc.conv.map Prod.fst).Nodup → F.RTC_CAL_STAT_BUSY.off ∉ s.rtc.conv.map Prod.fst →
    Does .calendarConversionComplete s fun t => t.flag F.RTC_CAL_STAT_BUSY = false ∧ t.rtc.conv = [] ∧
      (∀ p ∈ s.rtc.conv, t.word p.1 = p.2 % 2 ^ 32) ∧ OnlyWords (F.RTC_CAL_STAT_BUSY.off :: s.rtc.conv.map Prod.fst) s t) ∧
  (∀ s, s.flag F.RTC_CAL_STAT_BUSY = true → Does .tocal s fun t => t.flag F.RTC_CAL_STAT_CAL_ERR = true ∧ t.rtc = s.rtc ∧
    OnlyWords [F.RTC_CAL_STAT_CAL_ERR.off] s t)

/-- Reading the count (R591): a read of FRAC latches SEC from the same pulse, and reads of SEC_LO and SEC_HI return the shadow of the last such
read; during the lockout FRAC reads 0 (R600). -/
def Obligations.ReadOfTheCount : Prop :=
  (∀ s port, s.flag F.RTC_STATUS_READY = true → Does (.rtcFracRead port) s fun t => t.hostData = s.rtcFrac ∧
    t.shadow.lookup 0x1100004 = some (s.rtcSec % 2 ^ 32) ∧ t.shadow.lookup 0x1100008 = some (s.rtcSec / 2 ^ 32) ∧ t.regs = s.regs) ∧
  (∀ s port, s.flag F.RTC_STATUS_READY = false → Does (.rtcFracRead port) s fun t => t.hostData = 0 ∧ t.shadow = s.shadow) ∧
  (∀ s (port : Fin 2) (v : Nat), s.flag F.RTC_STATUS_READY = true → find1 s.shadow 0x1100004 = some v → Does (.readClear port 0x1100004#26) s fun t =>
    t.hostData = v ∧ t.shadow = s.shadow ∧ t.regs = s.regs) ∧
  (∀ s (port : Fin 2) (v : Nat), s.flag F.RTC_STATUS_READY = true → find1 s.shadow 0x1100008 = some v → Does (.readClear port 0x1100008#26) s fun t =>
    t.hostData = v ∧ t.shadow = s.shadow ∧ t.regs = s.regs)

/-- Power and states of the GNSS receiver and its channels (R122, R124 to R131, R155, R156).
It rests on the model's own choices in logs 93, 124 and 131. -/
def Obligations.GnssChannels : Prop :=
  (∀ s, s.flag F.GNS_CTRL_EN = false → Does .gnssEnable s fun t => t.flag F.GNS_CTRL_EN = true ∧ t.gns.starting = true ∧
    OnlyWords [F.GNS_CTRL_EN.off] s t) ∧
  (∀ s (a b : Bool), s.flag F.GNS_CTRL_EN = true → s.gns.starting = true → Does (.gnssRfPllLock a b) s fun t =>
    t.flag F.GNS_STATUS_READY = true ∧ t.get F.GNS_STATUS_START_TYPE = ({ s with gns := { s.gns with near := (a, b) } } : State).startType ∧
      t.gns.starting = false ∧ OnlyWords [F.GNS_STATUS_READY.off] s t) ∧
  (∀ s, Does .gnssDisable s fun t => t.flag F.GNS_CTRL_EN = false ∧ t.flag F.GNS_STATUS_READY = false ∧ t.gns.searching = false ∧
    t.gns.ppsOut = false ∧ ∀ n < 192, t.gst n = 0) ∧
  (∀ s (kind : Fin 4), kind ≠ 0 → s.flag F.GNS_STATUS_READY = true → Does (.gnssRestart kind) s fun t =>
    (kind = 3 → t.gns.aid = Aiding.none_ ∧ t.get F.GNS_STATUS_START_TYPE = 3) ∧ (kind = 2 → t.gns.aid.eph = [] ∧ t.get F.GNS_STATUS_START_TYPE ≠ 1) ∧
    ∀ n < 192, (s.gst n = 0 → t.gst n = 0) ∧ (s.gst n ≠ 0 → t.gst n = 1 ∨ t.gst n = 2)) ∧
  (∀ s (n : Fin 192) snap bins ph, s.gns.chans.length = 192 → s.gst n = 2 ∨ s.gst n = 5 → (s.gch n).find.hit = none →
    (s.gch n).find.t + 10000 * max 1 (s.get F.GNS_ACQCFG_NCOH) ≤ s.now → s.dwellPeak (s.searchOf n).win (nth bins 0 []) = some ph →
    Does (.acqDwellComplete n snap bins) s fun t =>
      (s.get F.GNS_ACQCFG_VERIFY = 0 → t.gst n = 3 ∧ t.get F.GNS_ACQSTAT_SEARCHES = (s.get F.GNS_ACQSTAT_SEARCHES + 1) % 65536) ∧
      (s.get F.GNS_ACQCFG_VERIFY ≠ 0 → t.gst n = s.gst n ∧ (t.gch n).find.hit = some (snap, ph, 0))) ∧
  (∀ s (n : Fin 192) snap bins, s.gns.chans.length = 192 → s.gst n = 2 → (s.gch n).find.hit = none →
    (s.gch n).find.t + 10000 * max 1 (s.get F.GNS_ACQCFG_NCOH) ≤ s.now → s.dwellPeak (s.searchOf n).win (nth bins 0 []) = none →
    Does (.acqDwellComplete n snap bins) s fun t =>
      ((s.gch n).find.seg + 1 < (s.searchOf n).segs → t.gst n = 2 ∧ (t.gch n).find.seg = (s.gch n).find.seg + 1) ∧
      ((s.searchOf n).segs ≤ (s.gch n).find.seg + 1 → (s.gch n).find.bin < 2 * (s.searchOf n).half → t.gst n = 2 ∧
        (t.gch n).find.bin = (s.gch n).find.bin + 1) ∧
      ((s.searchOf n).segs ≤ (s.gch n).find.seg + 1 → 2 * (s.searchOf n).half ≤ (s.gch n).find.bin → t.gst n = 1 ∧ (t.gch n).requeue = some s.now)) ∧
  (∀ s (n : Fin 192) r, s.gns.chans.length = 192 → s.gst n = 1 → (s.gch n).requeue = some r → s.reaches (r + 1000000000) →
    Does (.gnssRequeue n) s fun t => (t.gch n).requeue = none ∧ (t.gst n = 1 ∨ t.gst n = 2)) ∧
  (∀ s (n : Fin 192) ints, s.gns.chans.length = 192 → s.gst n = 3 → 100 ≤ ((s.integrateAll n ints).gch n).trk.lockMs →
    ((s.integrateAll n ints).gch n).trk.settled = true → ((s.integrateAll n ints).gch n).trk.sync = true →
    Does (.gnssTrackLock n ints) s fun t => t.gst n = 4 ∧ (t.gch n).lockAt = s.now ∧ (t.gch n).slip = 0 ∧
      OnlyWords [(F.GNS_CH_STATUS_STATE n).off, F.GNS_STATUS_TRACKING.off, F.GNS_ACQSTAT_QUEUE.off] s t) ∧
  (∀ s (n : Fin 192), s.gst n = 3 → s.reaches ((s.gch n).since + max 1 (s.get F.GNS_LOSS_PULLIN_T) * 10000000) →
    Does (.gnssPullinTimeout n) s fun t => t.gst n = 2 ∧
      OnlyWords [(F.GNS_CH_STATUS_STATE n).off, F.GNS_STATUS_TRACKING.off, F.GNS_ACQSTAT_QUEUE.off] s t) ∧
  (∀ s (n : Fin 192) ints, s.gst n = 4 → 10 * max 1 (s.get F.GNS_LOSS_LOSS_T) ≤ ((s.integrateAll n ints).gch n).trk.lossMs →
    s.frm.onceMajor.contains 34 = false → Does (.gnssTrackLoss n ints) s fun t => t.gst n = 5 ∧ t.pended 34 ∧
    OnlyWordsEv [(F.GNS_CH_STATUS_STATE n).off, F.GNS_STATUS_TRACKING.off, F.GNS_ACQSTAT_QUEUE.off] s t) ∧
  (∀ s (n : Fin 192), s.gst n = 5 → s.reaches ((s.gch n).since + max 1 (s.get F.GNS_LOSS_REACQ_T) * 100000000) →
    Does (.gnssReacqTimeout n) s fun t => t.gst n = 2 ∧
      OnlyWords [(F.GNS_CH_STATUS_STATE n).off, F.GNS_STATUS_TRACKING.off, F.GNS_ACQSTAT_QUEUE.off] s t) ∧
  (∀ s (n : Fin 192) ints jump, s.gns.chans.length = 192 → s.gst n = 4 → 250 < jump → Does (.cycleSlipCheck n ints jump) s fun t =>
    (t.gch n).slip = ((s.gch n).slip + 1) % 256 ∧ (t.gch n).slipped = true ∧ (t.gch n).lockAt = s.now ∧
      OnlyWords [(F.GNS_CH_STATUS_SLIP n).off] s t) ∧
  (∀ s (n : Fin 192) (o : CorrObs) jump (el vl : Int), s.gns.chans.length = 192 → s.gst n = 3 ∨ s.gst n = 4 →
    el = max 4 (min 64 (s.get F.GNS_CORRCFG_EL)) → vl = max el (s.get F.GNS_CORRCFG_VEVL) → Does (.cycleSlipCheck n [o] jump) s fun t =>
      (t.gch n).trk.corr = [(o.at_.lookup (-vl)).getD (0, 0), (o.at_.lookup (-el)).getD (0, 0), (o.at_.lookup 0).getD (0, 0),
        (o.at_.lookup el).getD (0, 0), (o.at_.lookup vl).getD (0, 0), (o.at_.lookup ((128 * max 10 (s.get F.GNS_CORRCFG_NOISE) : Nat) : Int)).getD (0, 0), o.data] ∧
      t.gst n = s.gst n)

/-- Epochs and solutions of the GNSS receiver: an epoch is latched once at its multiple of the period, its record is complete 1 ms later and
goes to the lanes, the solutions follow at 8 ms; spoofing and RF faults (R132 to R136, R138, R139, R144, R157).
Interference and the PPS output (R141, R142, R148 to R153).
It rests on the model's own choices in logs 120, 129, 133 and 136. -/
def Obligations.GnssEpochsAndPps : Prop :=
  (∀ s, s.ready = true → s.gns.stepEp = none → s.flag F.GNS_CTRL_EN = true → s.flag F.GNS_STATUS_READY = true → s.gns.lastEpoch ≠ some s.epochLin →
    s.gns.edge = none → Does .measurementEpoch s fun t =>
      t.get F.GNS_EPSEQ_SEQ = (s.get F.GNS_EPSEQ_SEQ + 1) % 2 ^ 32 ∧ t.gns.latchAt = s.now ∧ t.gns.lastEpoch = some s.epochLin ∧
      ∃ e, t.gns.latched = some e ∧ e.lin = s.lin / (s.epochMs * 1000000) * (s.epochMs * 1000000) ∧ e.seq = t.get F.GNS_EPSEQ_SEQ ∧ e.ch.length = 192) ∧
  (∀ s, s.ready = true → s.gns.stepEp = none → s.gns.lastEpoch = some s.epochLin → Does .measurementEpoch s fun t => t = s) ∧
  (∀ s e, s.gns.latched = some e → s.reaches (s.gns.latchAt + 1000000) → Does .epochRecordComplete s fun t => t.gns.latched = none ∧
    t.gns.solving = some e ∧ t.gns.toEst = s.gns.toEst ++ [e] ∧ (bitOf e.hflags 0 = true → t.pended 42) ∧
    (s.flag F.GNS_EPCFG_HOSTOUT = true → t.hif.items.length = s.hif.items.length + 1) ∧ OnlyWordsEv [] s t) ∧
  (∀ s sol e, s.gns.solving = some e → s.reaches (s.gns.latchAt + 8000000) → Does (.gnssSolution sol) s fun t => t.gns.solving = none ∧
    t.flag F.GNS_STATUS_TIMEVALID = (decide (4 ≤ (s.usedSats e).1) && decide ((s.usedSats e).2 + 3 ≤ (s.usedSats e).1) &&
      decide (sol.pdop ≤ 600) && decide (sol.rms ≤ 15000) && !t.flag F.GNS_STATUS_SPOOF) ∧ t.flag F.GNS_STATUS_FIX = sol.fix) ∧
  (∀ s, s.flag F.GNS_STATUS_SPOOF = true → s.gns.failAt + 60000000000 ≤ s.now → Does .spoofClear s fun t =>
    t.flag F.GNS_STATUS_SPOOF = false ∧ t.pended 37 ∧ t.gns = s.gns ∧ OnlyWordsEv [F.GNS_STATUS_SPOOF.off] s t) ∧
  (∀ s (k : Fin 4) ovl pll, ovl || pll → Does (.gnssRfFault k ovl pll) s fun t => t.pended 38 ∧
    t.flag (F.GNS_RF_STATUS_OVL k) = (ovl || s.flag (F.GNS_RF_STATUS_OVL k)) ∧
    t.flag (F.GNS_RF_STATUS_PLL_UNLOCK k) = (pll || s.flag (F.GNS_RF_STATUS_PLL_UNLOCK k)) ∧ OnlyWordsEv [(F.GNS_RF_STATUS_OVL k).off] s t) ∧
  (∀ s (k : Fin 4) (agc : BitVec 8) power lines, Does (.notchSpectrum k agc power lines) s fun t =>
    t.get (F.GNS_RF_STATUS_JI k) = (clampI 0 255 (divRne (4 * power) 1000)).toNat ∧ t.get (F.GNS_RF_STATUS_AGC k) = agc.toNat) ∧
  (∀ s (k : Fin 4) r, s.gns.rf.length = 4 → (s.rfc k).jamSince = some r → (s.rfc k).jamRaised = false →
    r + s.get (F.GNS_RF_JAMCFG_HOLD k) * 100000000 ≤ s.now → Does (.jamDetect k) s fun t => (t.rfc k).jamRaised = true ∧ t.pended 35 ∧
      OnlyWordsEv [] s t) ∧
  (∀ s, s.tim.ctr.ns < 1000000000 → s.reaches (s.tim.ctr.sec * 1000000000 + 960000000) → s.gns.msgAt ≠ some (s.tim.ctr.sec + 1) →
    s.gns.ppsFrom ≤ (s.tim.ctr.sec + 1) * 1000000000 → Does .ppsTimeMessage s fun t => t.gns.msgAt = some (s.tim.ctr.sec + 1) ∧
      t.get F.GNS_PPSSEQ_SEQ = (s.get F.GNS_PPSSEQ_SEQ + 1) % 2 ^ 32 ∧
      (s.flag F.GNS_PPSCFG_MSG_HOST = true → t.pended 39 ∧ t.hif.items.length = s.hif.items.length + 1) ∧
      OnlyWordsEv [F.GNS_PPSSEQ_SEQ.off, F.GNS_PPSRES_PS.off] s t) ∧
  (∀ s b, b = (s.now + 500000000) / 1000000000 → s.ready = true → s.gns.ppsOld = none → (s.ppsPlace b).1 ≤ 0 → s.gns.ppsAt ≠ some b →
    s.gns.ppsFrom ≤ b * 1000000000 → s.ppsOn = true → Does .ppsPulse s fun t => t.gns.ppsAt = some b ∧ t.gns.ppsOut = true ∧
      t.gns.ppsN = (s.ppsPlace b).2.1 ∧ t.gns.ppsEnd = some (s.now + max 1 (min 999 (s.get F.GNS_PPSCFG_WIDTH)) * 1000000) ∧ t.regs = s.regs) ∧
  (∀ s e, s.gns.ppsEnd = some e → s.reaches e → Does .ppsPulseEnd s fun t => e ≤ t.now ∧ t.gns.ppsOut = false ∧ t.gns.ppsEnd = none ∧
    t.regs = s.regs) ∧
  (∀ s, s.ready = true → s.gns.stepEp = none → s.gnsOn = false → s.gns.lastEpoch ≠ some s.epochLin → s.gns.edge = none → Does .measurementEpoch s fun t =>
    t.tim.gnssCount = 0 ∧ t.gns.latched = s.gns.latched ∧ t.gns.lastEpoch = some s.epochLin)

/-- Sources of the signal channels (R163, R164, R167): a sentence in error counts and raises event 52; a good one is counted and gives one
sample to each channel that names it; a tacho edge gives the frequency since the edge before; no edge for the timeout is zero speed.
Timeout, synchronising reset, bank and reads of a signal channel, calibration of the front end and overload of the excitation (R174,
R177, R180, R183, R185, R629).
It rests on the model's own choices in logs 142 and 143. -/
def Obligations.SignalInputs : Prop :=
  (∀ s (u : Fin 12) (fe : Bool) ago bytes, s.flag (F.SIG_UART_CFG_EN u) = true → nth s.sig.uartAt u 0 ≤ s.now - ago →
    fe = true ∨ parseSentence (s.flag (F.SIG_UART_CFG_CKREQ u)) bytes = none → s.frm.onceMajor.contains 52 = false →
    Does (.uartSentence u fe ago bytes) s fun t => t.get (F.SIG_UART_CNT_ERR u) = satInc 65535 (s.get (F.SIG_UART_CNT_ERR u)) ∧
      (s.get (F.SIG_UART_CNT_ERR u) ≠ 65535 → t.pended 52) ∧ t.sig = s.sig ∧ OnlyWordsEv [(F.SIG_UART_CNT_ERR u).off] s t) ∧
  (∀ s (u : Fin 12) ago bytes, s.flag (F.SIG_UART_CFG_EN u) = true → nth s.sig.uartAt u 0 ≤ s.now - ago →
    (parseSentence (s.flag (F.SIG_UART_CFG_CKREQ u)) bytes).isSome = true → Does (.uartSentence u false ago bytes) s fun t =>
      t.get (F.SIG_UART_CNT_OK u) = satInc 65535 (s.get (F.SIG_UART_CNT_OK u)) ∧ OnlyWords [(F.SIG_UART_CNT_OK u).off] s t) ∧
  (∀ s (u : Fin 12) ago bytes x (n : Fin 96) v, s.flag (F.SIG_UART_CFG_EN u) = true → nth s.sig.uartAt u 0 ≤ s.now - ago →
    s.sig.chans.length = 96 → parseSentence (s.flag (F.SIG_UART_CFG_CKREQ u)) bytes = some x → 32 ≤ n.val → s.takes n 2 = true →
    s.srcBits n 7 4 = u.val → addrMatches (s.srcBits n 11 8) (s.srcBits n 31 16) x.addr = true →
    itemOf (s.srcBits n 11 8) (s.srcBits n 15 12) (fun i => if i = 0 then [] else nth x.fields (i - 1) []) = .value v →
    Does (.uartSentence u false ago bytes) s fun t =>
      (t.chan n).arriving = (s.chan n).arriving ++ [⟨v, (s.now - ago) % 2 ^ 64, false⟩] ∧ (t.chan n).srcv = false) ∧
  (∀ s (i : Fin 16) rising, s.sig.tachoIn.length = 16 → (∀ e ∈ nth s.sig.tachoIn i none, e.rising = rising ∨ e.t + 1000 ≤ s.now) →
    Does (.tachoEdge i rising) s fun t => nth t.sig.tachoIn i none = some ⟨s.now, s.lin, rising⟩ ∧ t.regs = s.regs) ∧
  (∀ s (i : Fin 16) rising e, s.sig.tachoIn.length = 16 → nth s.sig.tachoIn i none = some e → e.rising ≠ rising → s.now < e.t + 1000 →
    Does (.tachoEdge i rising) s fun t => nth t.sig.tachoIn i none = none ∧ t.sig.chans = s.sig.chans ∧ t.regs = s.regs) ∧
  (∀ s (i : Fin 16) rising (n : Fin 96) e p (per : Nat), s.sig.chans.length = 96 → nth s.sig.tachoIn i none = some e → e.t + 1000 ≤ s.now →
    32 ≤ n.val → s.takes n 5 = true → s.srcBits n 7 4 = i.val → s.tachoTakes n e.rising = true → (s.chan n).tachoPrev = some p →
    e.t < (s.chan n).tachoAt + s.zeroTime n → per = 4 * ((e.lin / 4 + 2 ^ 62 - p / 4) % 2 ^ 62) → per ≠ 0 →
    Does (.tachoEdge i rising) s fun t => (t.chan n).tachoPrev = some e.lin ∧ (t.chan n).tachoZero = false ∧
      (t.chan n).arriving = (s.chan n).arriving ++ [⟨divRne (10 ^ 12) (if s.srcBits n 9 8 = 3 then 2 * per else per), e.lin, false⟩]) ∧
  (∀ s (n : Fin 96), s.sig.chans.length = 96 → s.takes n 5 = true → (s.chan n).tachoZero = false → nth s.sig.tachoIn (s.srcBits n 7 4) none = none →
    s.reaches ((s.chan n).tachoAt + s.zeroTime n) → Does (.tachoZeroTimeout n) s fun t => (t.chan n).tachoZero = true ∧
      (t.chan n).tachoPrev = none ∧ (s.chan n).tachoAt + s.zeroTime n ≤ t.now ∧ t.regs = s.regs) ∧
  (∀ s (n : Fin 96), s.sig.chans.length = 96 → s.flag (F.SIG_S_CFG_EN n) = true → s.chanTimeout n ≠ 0 → s.chanTimeout n ≤ (s.chan n).age →
    (s.chan n).timedOut = false → s.flag (F.SIG_S_STAT_VALID n) = true → s.frm.onceMajor.contains 49 = false →
    Does (.sigChannelTimeout n) s fun t => t.flag (F.SIG_S_STAT_VALID n) = false ∧ (t.chan n).timedOut = true ∧ t.pended 49 ∧
      OnlyWordsEv [(F.SIG_S_STAT_VALID n).off] s t) ∧
  (∀ s (w : Fin 3) (mask : Word) (port : Fin 2), Does (.sigSync w mask port) s fun t =>
    t.frm.pend = s.frm.pend ++ [⟨0x400010 + 4 * w, mask.toNat, port⟩] ∧ t.regs = s.regs) ∧
  (∀ s (n : Fin 96) (bank : Fin 2), (s.chan n).bankK = 0 → Does (.sigBankSwitch n bank) s fun t => t.get (F.SIG_S_CFG_BANK n) = bank.val ∧
    t.get (F.SIG_S_STAT_ABANK n) = (if s.flag (F.SIG_S_STAT_FINE_VALID n) then s.get (F.SIG_S_STAT_ABANK n) else bank.val) ∧
    OnlyWords [(F.SIG_S_CFG_BANK n).off, (F.SIG_S_STAT_ABANK n).off] s t) ∧
  (∀ s (n : Fin 96) (bank : Fin 2), (s.chan n).bankK ≠ 0 → s.get (F.SIG_S_CFG_BANK n) ≠ bank.val → Does (.sigBankSwitch n bank) s fun t =>
    t.flag F.SIG_ERR_BUSY = true ∧ OnlyWords [F.SIG_ERR_BUSY.off] s t) ∧
  (∀ s (n : Fin 96) port, Does (.sigValRead n port) s fun t => t.hostData = s.word (0x401008 + 0x10 * n.val) ∧ t.regs = s.regs ∧
    t.shadow.lookup (0x40100C + 0x10 * n.val) = some (s.word (0x40100C + 0x10 * n.val))) ∧
  (∀ s, Does (.afeCalibrationComplete true) s fun t => t.flag F.SIG_STATUS_READY = true ∧ t.bit F.PWR_READY_READY 6 = true ∧ t.pended 48 ∧
    OnlyWordsEv [F.SIG_STATUS_READY.off, F.PWR_READY_READY.off] s t) ∧
  (∀ s, Does (.afeCalibrationComplete false) s fun t => t.flag F.SIG_STATUS_AFE_FAULT = true ∧ t.pended 54 ∧
    OnlyWordsEv [F.SIG_STATUS_AFE_FAULT.off] s t) ∧
  (∀ s (r : Fin 4), s.bit F.SIG_EXC_EN r = true → Does (.excOverload r) s fun t => t.bit F.SIG_STATUS_EXC_FAULT r = true ∧ t.pended 54 ∧
    OnlyWordsEv [F.SIG_STATUS_EXC_FAULT.off] s t)

/-- Alignment streams (R194, R196, R208): a rewritten stream goes to QUALIFYING from LAT0 and RATE 0, to OFF when it is not enabled, or to OFF
with CFG_ERR and event 62 when its configuration is not valid; a pending instant passed by more than its prediction and WIN is a miss.
It rests on the model's own choices in log 147. -/
def Obligations.AlignmentStreams : Prop :=
  (∀ s (n : Fin 32), s.aln.streams.length = 32 → s.flag (F.ALN_ST_CFG_EN n) = true → s.stKind n ≠ 0 → s.stValid n = true →
    Does (.alnStreamReconfigure n) s fun t => t.get (F.ALN_ST_STAT_STATE n) = 1 ∧ t.flag (F.ALN_ST_STAT_CFG_ERR n) = false ∧
      t.get (F.ALN_ST_OFS_NS n) = s.get (F.ALN_ST_LAT0_NS n) ∧ t.get (F.ALN_ST_RATE_RATE n) = 0 ∧ t.stream n = { Stream.init with seed := true } ∧
      OnlyWords [(F.ALN_ST_STAT_STATE n).off, F.ALN_STALE_ST.off, (F.ALN_ST_OFS_NS n).off, (F.ALN_ST_RATE_RATE n).off] s t) ∧
  (∀ s (n : Fin 32), s.aln.streams.length = 32 → s.flag (F.ALN_ST_CFG_EN n) = false ∨ s.stKind n = 0 → Does (.alnStreamReconfigure n) s fun t =>
    t.get (F.ALN_ST_STAT_STATE n) = 0 ∧ t.flag (F.ALN_ST_STAT_CFG_ERR n) = false ∧ t.stream n = Stream.init ∧
      OnlyWords [(F.ALN_ST_STAT_STATE n).off, F.ALN_STALE_ST.off] s t) ∧
  (∀ s (n : Fin 32), s.flag (F.ALN_ST_CFG_EN n) = true → s.stKind n ≠ 0 → s.stValid n = false → s.flag F.ALN_ERR_CFG = false →
    Does (.alnStreamReconfigure n) s fun t => t.get (F.ALN_ST_STAT_STATE n) = 0 ∧ t.flag (F.ALN_ST_STAT_CFG_ERR n) = true ∧
      t.flag F.ALN_ERR_CFG = true ∧ t.pended 62 ∧ OnlyWordsEv [(F.ALN_ST_STAT_STATE n).off, F.ALN_STALE_ST.off, F.ALN_ERR_CFG.off] s t) ∧
  (∀ s (n : Fin 32) old rest, s.aln.streams.length = 32 → s.flag F.FRM_STATUS_RUNNING = true →
    (s.stream n).pend = old ++ rest → old ≠ [] → rest.length < 16 →
    (∀ q ∈ old, s.predict n q.1 + s.alnWin * predUnit < linDiff s.lin q.1 * predUnit) →
    (∀ q ∈ rest.take 1, linDiff s.lin q.1 * predUnit ≤ s.predict n q.1 + s.alnWin * predUnit) →
    Does (.pendingInstantExpiry n) s fun t => (t.stream n).pend = rest ∧ t.get (F.ALN_ST_STAT_PENDING n) = rest.length ∧
      t.get (F.ALN_ST_CNT0_MISS n) = min 65535 (s.get (F.ALN_ST_CNT0_MISS n) + old.length) ∧
      (t.stream n).misses = (s.stream n).misses + old.length ∧ (s.frm.onceMajor.contains 59 = false → t.pended 59) ∧
      (s.get (F.ALN_ST_STAT_STATE n) = 2 → s.missLim n ≤ (s.stream n).misses + old.length →
        t.get (F.ALN_ST_STAT_STATE n) = 3 ∧ t.bit F.ALN_STALE_ST n = true ∧ t.pended 56) ∧
      OnlyWordsEv [(F.ALN_ST_STAT_STATE n).off, F.ALN_STALE_ST.off, (F.ALN_ST_CNT0_MISS n).off] s t)

/-- Tracks and origin of the estimator (R228, R229, R231; the origin's hold-back is the model's reading of R231).
It rests on the model's own choices in logs 40 and 169. -/
def Obligations.EstimatorTracks : Prop :=
  (∀ s (k : Fin 16), s.est.refs.length = 16 → (s.ref k).st = 2 → (s.refTmo k : Int) ≤ linDiff s.majTick (s.ref k).m → Does (.trackTimeout k) s fun t =>
    (t.ref k).st = 3 ∧ t.regs = s.regs ∧ t.est.st = s.est.st ∧ t.est.x = s.est.x) ∧
  (∀ s, s.est.st ≠ 0 → Does .estReinit s fun t => t.est.st = 1 ∧ t.est.since = s.majTick ∧ t.est.x = List.replicate 15 Fl.zero ∧
    t.flag F.EST_GK_STATUS_ACTIVE = false ∧ t.pended 64 ∧ OnlyWordsEv [F.EST_GK_STATUS_ACTIVE.off] s t) ∧
  (∀ s lat lon, s.est.orgPend = some (lat, lon) → -900000000 ≤ lat → lat ≤ 900000000 → -1800000000 ≤ lon → lon ≤ 1800000000 →
    s.frm.onceMajor.contains 66 = false → Does .estOriginChange s fun t => t.getI F.EST_ORIGIN_LAT_LAT = lat ∧ t.getI F.EST_ORIGIN_LON_LON = lon ∧
      t.est.orgPend = none ∧ t.est.orgAge = some 0 ∧
      t.est.orgDelta = some (originDelta (s.getI F.EST_ORIGIN_LAT_LAT) (s.getI F.EST_ORIGIN_LON_LON) lat lon) ∧ t.flag F.EST_STATUS_ORIGIN_PEND = s.est.orgHeld.isSome ∧ t.pended 66 ∧
      OnlyWordsEv [F.EST_ORIGIN_LAT_LAT.off, F.EST_ORIGIN_LON_LON.off, F.EST_STATUS_ORIGIN_PEND.off] s t) ∧
  (∀ s o a, s.est.orgHeld = some o → s.est.orgAge = some a → max 1 (min 10 (s.get F.ALN_CTRL_WIN)) + 1 ≤ a → Does .originDeferExpiry s fun t =>
    t.est.orgPend = some o ∧ t.est.orgHeld = none ∧ t.regs = s.regs)

/-- Arbitration of the references: an outvoted reference becomes SUSPECT at HOLD; at HOLD of a contradiction the reference that is not forced,
or the one with the larger RMS, becomes SUSPECT; the mark clears after rehabilitation or by the host (R250 to R254).
Loss of heading and Gecko hold: entry from QUALIFIED at DELAY without a position, and its end at TLIM in WAITING (R255, R256, R258, R259).
It rests on the model's own choices in logs 166 and 167. -/
def Obligations.ArbitrationAndGecko : Prop :=
  (∀ s (i : Fin 16), s.est.refs.length = 16 → s.get (arbStateF i) = 3 → ((s.arbHold * 10000000 : Nat) : Int) ≤ s.heldFor (s.ref i).outAt → Does (.outvoteHoldExpiry i) s fun t =>
    t.suspect i = true ∧ t.get (arbStateF i) = 4 ∧ (t.ref i).outAt = none ∧ t.pended 72 ∧ OnlyWordsEv [F.EST_ARB_SUSP_SUSP.off, (arbStateF i).off] s t) ∧
  (∀ s h (a b lose : Fin 16) k, s.contra h = some (a.val, b.val, k) → s.arbHold ≤ s.contraT k → ¬(s.forced a = true ∧ s.forced b = true) →
    lose = (if s.forced a then b else if s.forced b then a
      else if (s.rms2 s.majTick a).1 * (s.rms2 s.majTick b).2 ≤ (s.rms2 s.majTick b).1 * (s.rms2 s.majTick a).2 then b else a) →
    Does (.contradictionHoldExpiry h) s fun t => t.contra h = none ∧ t.pended 72 ∧ t.get (arbStateF lose) = 4 ∧
      (∀ i < 16, t.suspect i = (s.suspect i || i == lose.val)) ∧
      OnlyWordsEv [F.EST_ARB_SUSP_SUSP.off, (arbStateF lose).off, F.EST_ARB_STATUS_CONTRA.off] s t) ∧
  (∀ s h a b k, s.contra h = some (a, b, k) → s.forced a = true ∧ s.forced b = true → Does (.contradictionHoldExpiry h) s fun t => Unchanged s t) ∧
  (∀ s (i : Fin 16), s.suspect i = true → s.flag F.EST_ARB_REHAB_AUTO = true →
    ((max 1 (s.get F.EST_ARB_REHAB_TIME) * 10000000000 : Nat) : Int) ≤ s.heldFor (s.ref i).rehabAt →
    Does (.rehabExpiry i) s fun t => t.suspect i = false ∧ OnlyWords [F.EST_ARB_SUSP_SUSP.off] s t) ∧
  (∀ s (mask : BitVec 16), Does (.estArbClr mask) s fun t => (∀ i < 16, t.suspect i = (s.suspect i && !bitOf mask.toNat i)) ∧
    OnlyWords [F.EST_ARB_SUSP_SUSP.off] s t) ∧
  (∀ s, s.est.st = 3 ∨ s.est.st = 4 → s.get F.EST_ARB_STATUS_NH = 0 → s.lossT ≤ ageOf s.majTick s.est.hdgAt →
    Does .headingLoss s fun t => t.flag F.EST_ARB_STATUS_NOHDG = true ∧ (s.flag F.EST_ARB_STATUS_NOHDG = false → t.pended 75) ∧
      OnlyWordsEv [F.EST_ARB_STATUS_NOHDG.off] s t) ∧
  (∀ s, s.est.st = 3 → ((max 1 (s.get F.EST_GK_CFG_DELAY) * 100000000 : Nat) : Int) ≤ ageOf s.majTick s.est.posAt →
    Does .geckoEntry s fun t => t.est.st = 4 ∧ t.flag F.EST_GK_STATUS_ACTIVE = true ∧ t.get F.EST_GK_STATUS_ELAPSED = 0 ∧ t.pended 64 ∧
      t.est.x = s.est.x ∧ OnlyWordsEv [F.EST_GK_STATUS_ACTIVE.off, F.EST_GK_UNC_MM.off] s t) ∧
  (∀ s, s.est.st = 4 → ((max 1 (s.get F.EST_GK_CFG_TLIM) * 1000000000 : Nat) : Int) ≤ linDiff s.majTick s.est.gkAt →
    Does .geckoTlim s fun t => t.est.st = 1 ∧ t.flag F.EST_GK_STATUS_ACTIVE = false ∧ t.flag F.EST_GK_STATUS_EXPIRED = true ∧ t.pended 64 ∧ t.pended 74 ∧
      OnlyWordsEv [F.EST_GK_STATUS_ACTIVE.off] s t)

/-- Commands to a control slot (R273, R280, R284, R286).
Settings and counts of a control slot (R264, R280, R282, R285; at basic level a write of PIDCHK is discarded, R30).
It rests on the model's own choices in logs 182 and 183. -/
def Obligations.ControlLoops : Prop :=
  (∀ s (n : Fin 48), s.cle.slots.length = 48 → (s.loop n).path ≠ 0 → Does (.cmdPid n) s fun t =>
    (t.loop n).trig = some ((s.loop n).trig.getD 5) ∧ t.regs = s.regs) ∧
  (∀ s (n : Fin 48), (s.loop n).path = 0 → Does (.cmdPid n) s fun t => t.flag F.CLE_ERR_REFUSED = true ∧ t.cle = s.cle ∧
    OnlyWords [F.CLE_ERR_REFUSED.off] s t) ∧
  (∀ s (n : Fin 48), s.cle.slots.length = 48 → (s.loop n).path = 3 → s.bit F.FRM_FAULT_STAGE 2 = false → s.bankOk n (s.loop n).abank = true →
    Does (.cmdMain n) s fun t => (t.loop n).toMain = true ∧ t.regs = s.regs) ∧
  (∀ s (n : Fin 48), (s.loop n).path = 2 → Does (.cmdMain n) s fun t => t.flag F.CLE_ERR_BUSY = true ∧ t.cle = s.cle ∧
    OnlyWords [F.CLE_ERR_BUSY.off] s t) ∧
  (∀ s (n : Fin 48), s.cle.slots.length = 48 → (s.loop n).path = 5 → (s.loop n).pidf = false → Does (.cmdRestart n) s fun t =>
    (t.loop n).restart = some true ∧ t.regs = s.regs) ∧
  (∀ s (n : Fin 48), (s.loop n).path ≠ 5 → Does (.cmdRestart n) s fun t => t.flag F.CLE_ERR_REFUSED = true ∧ t.cle = s.cle ∧
    OnlyWords [F.CLE_ERR_REFUSED.off] s t) ∧
  (∀ s (n : Fin 48), s.cle.slots.length = 48 → (s.loop n).path ≠ 0 → Does (.cmdPreset n) s fun t => (t.loop n).preset = true ∧ t.regs = s.regs) ∧
  (∀ s (n : Fin 48) (bank : Fin 2), s.cle.slots.length = 48 → Does (.cleBankSwitch n bank) s fun t => t.get (F.CLE_L_SEL_BANK n) = bank.val ∧
    (t.loop n).breq = (if bank.val = (s.loop n).abank then none else some bank.val) ∧ OnlyWords [(F.CLE_L_SEL_BANK n).off] s t) ∧
  (∀ s (port : Fin 2) (n : Fin 48) (val : Word), s.cle.slots.length = 48 → s.expert 7 = true → (s.loop n).mat = true →
    crc32c (wordBytes (s.words (loopMem n + 0x200) 15)) = val.toNat → Does (.clePidchkCommit port n val) s fun t => t.get (F.CLE_L_PIDCHK_CRC n) = val.toNat ∧
      (t.loop n).adopt = some (s.words (loopMem n + 0x200) 15 ++ [val.toNat]) ∧ OnlyWords [(F.CLE_L_PIDCHK_CRC n).off] s t) ∧
  (∀ s (port : Fin 2) (n : Fin 48) (val : Word), s.expert 7 = true → (s.loop n).mat = true → crc32c (wordBytes (s.words (loopMem n + 0x200) 15)) ≠ val.toNat →
    Does (.clePidchkCommit port n val) s fun t => t.flag F.CLE_ERR_CHK = true ∧ t.cle = s.cle ∧ OnlyWords [F.CLE_ERR_CHK.off] s t) ∧
  (∀ s (port : Fin 2) (n : Fin 48) (val : Word), s.expert 7 = false → Does (.clePidchkCommit port n val) s fun t =>
    t.flag F.GLB_ACCERR_LEVEL = true ∧ (s.flag F.GLB_ACCERR_LEVEL = false → t.pended 0) ∧ t.cle = s.cle ∧
      OnlyWordsEv [F.GLB_ACCERR_LEVEL.off, F.GLB_ACCADDR_OFFSET.off] s t) ∧
  (∀ s (n : Fin 48), s.cle.slots.length = 48 → 0 < s.get (F.CLE_L_HOT_SATT n) → s.get (F.CLE_L_HOT_SATT n) ≤ (s.loop n).satMain → (s.loop n).path = 1 →
    (s.loop n).trig = none → Does (.osatSaturationCount n) s fun t => (t.loop n).trig = some 1 ∧ t.regs = s.regs) ∧
  (∀ s (n : Fin 48) b, s.cle.slots.length = 48 → (s.loop n).blend = some b → b.kind = 1 → b.n ≤ b.k → Does (.blendComplete n) s fun t =>
    (t.loop n).path = 1 ∧ (t.loop n).cause = 0 ∧ (t.loop n).blend = none ∧ t.pended 81 ∧ OnlyWordsEv [] s t) ∧
  (∀ s (n : Fin 48) b, s.cle.slots.length = 48 → (s.loop n).blend = some b → b.kind = 0 → b.n ≤ b.k → Does (.blendComplete n) s fun t =>
    (t.loop n).path = 3 ∧ (t.loop n).blend = none ∧ t.regs = s.regs) ∧
  (∀ s (val : Word) a b c, a = (if bitsOf val.toNat 5 0 ≤ 47 then bitsOf val.toNat 5 0 else nth s.dpSlots 0 0) →
    b = (if bitsOf val.toNat 13 8 ≤ 47 then bitsOf val.toNat 13 8 else nth s.dpSlots 1 0) →
    c = (if bitsOf val.toNat 21 16 ≤ 47 then bitsOf val.toNat 21 16 else nth s.dpSlots 2 0) → a ≠ b → a ≠ c → b ≠ c → Does (.cleDpaxWrite val) s fun t => t.dpSlots = [a, b, c] ∧ t.flag F.CLE_DPAX_EN = bitOf val.toNat 24 ∧
      t.flag F.CLE_DPAX_CFG_ERR = false ∧ t.cle.md.remarked = true ∧ OnlyWords [F.CLE_DPAX_SURGE.off] s t) ∧
  (∀ s (val : Word), bitsOf val.toNat 5 0 ≤ 47 → bitsOf val.toNat 13 8 = bitsOf val.toNat 5 0 → s.flag F.CLE_ERR_DPCFG = false →
    Does (.cleDpaxWrite val) s fun t => t.dpSlots = s.dpSlots ∧ t.flag F.CLE_DPAX_CFG_ERR = true ∧ t.flag F.CLE_ERR_DPCFG = true ∧ t.pended 86 ∧
      OnlyWordsEv [F.CLE_DPAX_SURGE.off, F.CLE_ERR_DPCFG.off] s t) ∧
  (∀ s (n : Fin 48), (s.loop n).path ≠ 2 → (s.loop n).path ≠ 3 ∨ s.bit F.FRM_FAULT_STAGE 2 = true ∨ s.bankOk n (s.loop n).abank = false →
    Does (.cmdMain n) s fun t => t.flag F.CLE_ERR_REFUSED = true ∧ t.cle = s.cle ∧ OnlyWords [F.CLE_ERR_REFUSED.off] s t) ∧
  (∀ s (n : Fin 48), s.cle.slots.length = 48 → (s.loop n).path = 5 → (s.loop n).pidf = true → s.bankOk n (s.loop n).abank = true →
    Does (.cmdRestart n) s fun t => (t.loop n).restart = some false ∧ t.regs = s.regs) ∧
  (∀ s (n : Fin 48), (s.loop n).path = 5 → (s.loop n).pidf = true → s.bankOk n (s.loop n).abank = false → Does (.cmdRestart n) s fun t =>
    t.flag F.CLE_ERR_REFUSED = true ∧ t.cle = s.cle ∧ OnlyWords [F.CLE_ERR_REFUSED.off] s t) ∧
  (∀ s (n : Fin 48), (s.loop n).path = 0 → Does (.cmdPreset n) s fun t => t.flag F.CLE_ERR_REFUSED = true ∧ t.cle = s.cle ∧
    OnlyWords [F.CLE_ERR_REFUSED.off] s t) ∧
  (∀ s (port : Fin 2) (n : Fin 48) (val : Word), s.cle.slots.length = 48 → s.expert 7 = true →
    crc32c (wordBytes ((s.matLoop n).words (loopMem n + 0x200) 15)) = val.toNat → Does (.clePidchkCommit port n val) s fun t =>
      t.get (F.CLE_L_PIDCHK_CRC n) = val.toNat ∧ (t.loop n).adopt = some ((s.matLoop n).words (loopMem n + 0x200) 15 ++ [val.toNat])) ∧
  (∀ s (n : Fin 48), ¬(0 < s.get (F.CLE_L_HOT_SATT n) ∧ s.get (F.CLE_L_HOT_SATT n) ≤ (s.loop n).satMain ∧ (s.loop n).path = 1 ∧ (s.loop n).trig = none) →
    Does (.osatSaturationCount n) s fun t => t.loop n = s.loop n ∧ t.regs = s.regs) ∧
  (∀ s (n : Fin 48) b, s.cle.slots.length = 48 → (s.loop n).blend = some b → b.kind = 2 → b.n ≤ b.k → Does (.blendComplete n) s fun t =>
    (t.loop n).abank = 1 - (s.loop n).abank ∧ (t.loop n).path = (s.loop n).path ∧ (t.loop n).blend = none ∧ t.regs = s.regs) ∧
  (∀ s (n : Fin 48) b, s.cle.slots.length = 48 → (s.loop n).blend = some b → 3 ≤ b.kind → b.n ≤ b.k → Does (.blendComplete n) s fun t =>
    t.loop n = { s.loop n with blend := none } ∧ t.regs = s.regs) ∧
  (∀ s (val : Word) a b c, a = (if bitsOf val.toNat 5 0 ≤ 47 then bitsOf val.toNat 5 0 else nth s.dpSlots 0 0) →
    b = (if bitsOf val.toNat 13 8 ≤ 47 then bitsOf val.toNat 13 8 else nth s.dpSlots 1 0) →
    c = (if bitsOf val.toNat 21 16 ≤ 47 then bitsOf val.toNat 21 16 else nth s.dpSlots 2 0) → a = b ∨ a = c ∨ b = c →
    Does (.cleDpaxWrite val) s fun t => t.dpSlots = s.dpSlots ∧ t.flag F.CLE_DPAX_CFG_ERR = true ∧ t.flag F.CLE_ERR_DPCFG = true)

/-- Modes (R297, R302, R304, R307, R310): the last request before a step waits for it; loss of the joystick, of a berth and of the press.
It rests on the model's own choices in log 14. -/
def Obligations.ModeCommands : Prop :=
  (∀ s (m : BitVec 4), m.toNat < 8 → Does (.modeRequest m) s fun t => t.cle.md.req = some m.toNat ∧ t.regs = s.regs ∧ t.cle.slots = s.cle.slots) ∧
  (∀ s (m : BitVec 4), 8 ≤ m.toNat → Does (.modeRequest m) s fun t => Unchanged s t) ∧
  (∀ s, s.joyValid = false → s.cle.md.joyOk = true → Does .joystickTimeout s fun t => t.cle.md.jlost = true ∧ t.cle.md.joyOk = false ∧ t.pended 94 ∧
    OnlyWordsEv [] s t) ∧
  (∀ s, s.cle.md.berthed = true → 100 ≤ s.cle.md.unberth → Does .berthedClear s fun t => t.cle.md.berthed = false ∧ t.regs = s.regs) ∧
  (∀ s, s.cle.md.pressLoss = false → 100 ≤ s.cle.md.gapLow → Does .pressLoss s fun t => t.cle.md.pressLoss = true ∧ t.pended 92 ∧ OnlyWordsEv [] s t) ∧
  (∀ s, Does .joystickTimeout s fun t => t.cle.md.joyOk = s.joyValid ∧
    t.cle.md.jlost = (if s.joyValid then false else s.cle.md.jlost || s.cle.md.joyOk) ∧ OnlyWordsEv [] s t)

/-- Thrusters (R324, R326, R335): a fault removes a thruster at once, with its thrust and power at 0 and its angle held; a cleared one enters
the problem again; a sector is crossed and a rudder changes its commitment when its count is complete.
It rests on the model's own choices in log 224. -/
def Obligations.Thrusters : Prop :=
  (∀ s (i : Fin 16), s.alc.thr.length = 16 → (s.thr i).st ≠ 0 → (s.thr i).st ≠ 5 → Does (.alcThrusterFault i) s fun t => (t.thr i).st = 5 ∧
    (t.thr i).trans = none ∧ t.get (F.ALC_T_STAT_STATE i) = 5 ∧ t.res i 0 = 0 ∧ t.res i 4 = 0 ∧ t.res i 1 = s.res i 1 ∧ t.pended 98) ∧
  (∀ s (i : Fin 16), s.alc.thr.length = 16 → (s.thr i).st = 5 → s.thrAvail i = true → Does (.alcThrusterClrflt i) s fun t =>
    ((t.thr i).st = 1 ∨ (t.thr i).st = 2) ∧ (t.thr i).enter = true ∧ OnlyWordsEv [] s t) ∧
  (∀ s (i : Fin 16), s.alc.thr.length = 16 → (s.thr i).st = 1 → s.thrType i = 1 → s.crossFrames ≤ nth (s.thr i).cnt 0 0 →
    nth (s.thr i).cnt 1 0 < s.crossFrames → (s.edgeWay i 0 (s.res i 1)).isSome = true → Does (.crossingBegin i) s fun t => (t.thr i).st = 2 ∧
      (t.thr i).trans.isSome = true ∧ (t.thr i).cnt = [0, 0] ∧ (t.thr i).crossings = satInc 65535 (s.thr i).crossings ∧ t.pended 99 ∧ OnlyWordsEv [] s t) ∧
  (∀ s (i : Fin 16), s.alc.thr.length = 16 → (s.thr i).st = 1 → s.thrType i = 3 → s.crossFrames ≤ nth (s.thr i).cnt 0 0 →
    Does (.rudderCommitChange i) s fun t => (t.thr i).astern = (!(s.thr i).astern) ∧ (t.thr i).hold = s.get F.ALC_XCFG_XHOLD * 100 ∧
      (t.thr i).cnt = [0, 0] ∧ t.pended 99 ∧ OnlyWordsEv [] s t) ∧
  (∀ s (i : Fin 16) (k : Nat), s.alc.thr.length = 16 → (s.thr i).st = 1 → s.thrType i = 1 →
    s.crossFrames ≤ nth (s.thr i).cnt 0 0 ∨ s.crossFrames ≤ nth (s.thr i).cnt 1 0 →
    k = (if s.crossFrames ≤ nth (s.thr i).cnt 0 0 ∧ (nth (s.thr i).cnt 1 0 < s.crossFrames ∨
      ((nth (s.thr i).lam 1 none).getD Fl.zero).le ((nth (s.thr i).lam 0 none).getD Fl.zero) = true) then 0 else 1) →
    (s.edgeWay i k (s.res i 1)).isSome = true → Does (.crossingBegin i) s fun t => (t.thr i).st = 2 ∧
      (t.thr i).trans.map (·.sect) = some k ∧ (t.thr i).cnt = [0, 0] ∧ t.pended 99 ∧ OnlyWordsEv [] s t)

/-- Power envelopes and the consequence analysis (R342, R344, R352).
Energy counts of the buses (R355): a bin of 6,000 frames joins the last hour; a clear empties the counts of its buses.
It rests on the model's own choices in logs 225 and 231. -/
def Obligations.EnvelopesAndEnergy : Prop :=
  (∀ s, s.framesOn = true → s.now % 10000000 < 250000 → s.reaches (s.now / 10000000 * 10000000 + 60000) → s.alc.latched = false →
    Does .envelopeLatch s fun t => t.alc.latched = true ∧ t.alc.saf = s.alc.safAcq ∧ s.now / 10000000 * 10000000 + 60000 ≤ t.now ∧
      ∀ b < 4, s.get (F.ALC_ENV_CFG_SRC b) = 0 →
      t.get (F.ALC_ENV_PA_W b) = s.get (F.ALC_ENV_FPA_W b) ∧ t.get (F.ALC_ENV_RA_W b) = s.get (F.ALC_ENV_FRA_W b)) ∧
  (∀ s (b : Fin 4), s.alc.env.length = 4 → (s.envOf b).st = 2 → s.envTmo b ≤ (s.envOf b).gap → Does (.envelopeStale b) s fun t =>
    (t.envOf b).st = 3 ∧ (t.envOf b).cnt = 0 ∧ t.get ⟨0x800280, 2 * b + 1, 2 * b⟩ = 3 ∧ t.pended 102 ∧ OnlyWordsEv [0x800280] s t) ∧
  (∀ s (g : Fin 24), s.alc.groups.length = 24 → (s.group g).alarm = false → s.alarmFrames F.ALC_CQ_CTRL_ALARM_T ≤ (s.group g).inf →
    Does (.consequenceAlarm g) s fun t => (t.group g).alarm = true ∧ t.flag (F.ALC_FG_STAT_ALARM g) = true ∧ t.bit F.ALC_CQ_ALARM_GROUP g = true ∧
      t.flag F.ALC_CQ_STAT_ALARM = true ∧ t.pended 104 ∧ OnlyWordsEv [(F.ALC_FG_STAT_ALARM g).off, F.ALC_CQ_ALARM_GROUP.off, F.ALC_CQ_STAT_ALARM.off] s t) ∧
  (∀ s (g : Fin 24), s.alc.groups.length = 24 → (s.group g).alarm = true → s.alarmFrames F.ALC_CQ_CTRL_CLR_T ≤ (s.group g).fea →
    Does (.consequenceAlarmClear g) s fun t => (t.group g).alarm = false ∧ t.flag (F.ALC_FG_STAT_ALARM g) = false ∧ t.bit F.ALC_CQ_ALARM_GROUP g = false ∧
      (t.get F.ALC_CQ_ALARM_GROUP = 0 → t.flag F.ALC_CQ_STAT_ALARM = false ∧ t.pended 105) ∧
      OnlyWordsEv [(F.ALC_FG_STAT_ALARM g).off, F.ALC_CQ_ALARM_GROUP.off, F.ALC_CQ_STAT_ALARM.off] s t) ∧
  (∀ s (b : Fin 4), s.alc.en.length = 4 → 6000 ≤ (s.energy b).frames → Does (.energyBinComplete b) s fun t => (t.energy b).frames = 0 ∧ (t.energy b).bin = 0 ∧
    (t.energy b).bins = ((s.energy b).bin :: (s.energy b).bins).take 60 ∧
    t.get (F.ALC_EN_HOUR_WH b) = (divRne ((t.energy b).bins.foldl (· + ·) 0 : Nat) 3600).toNat % 2 ^ 32 ∧
    t.flag (F.ALC_EN_CFG_HFULL b) = ((t.energy b).bins.length == 60) ∧ OnlyWords [(F.ALC_EN_HOUR_WH b).off, (F.ALC_EN_CFG_HFULL b).off] s t) ∧
  (∀ s (mask : BitVec 4), Does (.energyClear mask) s fun t => ∀ b < 4,
    (bitOf mask.toNat b = true → t.pair64 (F.ALC_EN_TOT_LO_WS b) (F.ALC_EN_TOT_HI_WS b) = 0 ∧ t.pair64 (F.ALC_EN_SK_LO_WS b) (F.ALC_EN_SK_HI_WS b) = 0 ∧
      t.get (F.ALC_EN_SKT_FRAMES b) = 0 ∧ t.get (F.ALC_EN_HOUR_WH b) = 0 ∧ t.get (F.ALC_EN_RATE_W b) = 0 ∧ t.flag (F.ALC_EN_CFG_HFULL b) = false) ∧
    (bitOf mask.toNat b = false → t.pair64 (F.ALC_EN_TOT_LO_WS b) (F.ALC_EN_TOT_HI_WS b) = s.pair64 (F.ALC_EN_TOT_LO_WS b) (F.ALC_EN_TOT_HI_WS b) ∧
      t.energy b = s.energy b))

/-- Commands to a profile axis (R366, R368 to R371, R377, R378).
It rests on the model's own choices in log 250. -/
def Obligations.AxisCommands : Prop :=
  (∀ s (n : Fin 32), s.prf.axes.length = 32 → (s.axis n).st = 1 → s.moveRefused n (s.getI (F.PRF_P_TGT_TARGET n)) = false → Does (.prfMove n) s fun t =>
    (t.axis n).st = 2 ∧ t.get (F.PRF_P_STAT_STATE n) = 2 ∧ (t.axis n).plan.isSome = true ∧ (t.axis n).tgt = s.getI (F.PRF_P_TGT_TARGET n) ∧
      t.get (F.PRF_P_STAT_CAUSE n) = 0 ∧ OnlyWords [(F.PRF_P_STAT_STATE n).off] s t) ∧
  (∀ s (n : Fin 32), s.prf.axes.length = 32 → (s.axis n).st = 2 → (s.axis n).pend = none → s.moveRefused n (s.getI (F.PRF_P_TGT_TARGET n)) = false →
    Does (.prfMove n) s fun t => (t.axis n).pend = some (s.getI (F.PRF_P_TGT_TARGET n)) ∧ (t.axis n).plan = (s.axis n).plan ∧
      t.flag (F.PRF_P_STAT_PEND n) = true ∧ t.getI (F.PRF_P_PTGT_VALUE n) = s.getI (F.PRF_P_TGT_TARGET n) ∧
      OnlyWords [(F.PRF_P_STAT_STATE n).off, (F.PRF_P_PTGT_VALUE n).off] s t) ∧
  (∀ s (n : Fin 32), s.moveRefused n (s.getI (F.PRF_P_TGT_TARGET n)) = true → Does (.prfMove n) s fun t => t.flag (F.PRF_P_STAT_REFUSED n) = true ∧
    t.prf = s.prf ∧ OnlyWords [(F.PRF_P_STAT_STATE n).off] s t) ∧
  (∀ s (n : Fin 32), s.prf.axes.length = 32 → (s.axis n).st = 2 → Does (.prfStop n) s fun t => (t.axis n).st = 3 ∧ t.get (F.PRF_P_STAT_STATE n) = 3 ∧
    (t.axis n).plan = some ⟨stopSegs (s.axis n).v (s.axis n).a (s.axisLim n false).1 (s.axisLim n false).2, (s.axis n).s, (s.axis n).v, (s.axis n).a, 0, none⟩ ∧
    OnlyWords [(F.PRF_P_STAT_STATE n).off] s t) ∧
  (∀ s (n : Fin 32), s.prf.axes.length = 32 → (s.axis n).st = 2 → Does (.prfAbort n) s fun t => (t.axis n).st = 4 ∧ t.get (F.PRF_P_STAT_STATE n) = 4 ∧
    (t.axis n).pend = none ∧ t.get (F.PRF_P_STAT_CAUSE n) = (if s.get (F.PRF_P_STAT_CAUSE n) = 0 then 1 else s.get (F.PRF_P_STAT_CAUSE n)) ∧ t.pended 113 ∧
    OnlyWordsEv [(F.PRF_P_STAT_STATE n).off] s t) ∧
  (∀ s (mask : Word), s.prf.axes.length = 32 → Does (.prfAbortall mask) s fun t => ∀ n < 32,
    (bitOf mask.toNat n = true → (s.axis n).st = 2 → (t.axis n).st = 4 ∧ t.get (F.PRF_P_STAT_STATE n) = 4) ∧ (bitOf mask.toNat n = false → t.axis n = s.axis n)) ∧
  (∀ s (n : Fin 32), s.prf.axes.length = 32 → (s.axis n).st = 1 → s.flag (F.PRF_P_CFG_MODE n) = false → s.get (F.PRF_P_CFG_OUT n) ≠ 1 →
    s.get (F.PRF_P_INSEL_HOME n) < 48 → s.get (F.PRF_P_HV_LIM n) ≠ 0 → Does (.prfHome n) s fun t => (t.axis n).st = 5 ∧ t.get (F.PRF_P_STAT_STATE n) = 5 ∧
      t.get (F.PRF_P_STAT_PHASE n) = (if s.axisActive n 2 then 1 else 2) ∧ t.get (F.PRF_P_STAT_HFCAUSE n) = 0 ∧ OnlyWords [(F.PRF_P_STAT_STATE n).off] s t) ∧
  (∀ s (n : Fin 32), (s.axis n).st ≠ 1 → Does (.prfHome n) s fun t => t.flag (F.PRF_P_STAT_REFUSED n) = true ∧ t.prf = s.prf ∧
    OnlyWords [(F.PRF_P_STAT_STATE n).off] s t) ∧
  (∀ s (n : Fin 32), s.prf.axes.length = 32 → (s.axis n).st = 7 → Does (.prfResume n) s fun t => (t.axis n).st = 6 ∧ t.get (F.PRF_P_STAT_STATE n) = 6 ∧
    OnlyWords [(F.PRF_P_STAT_STATE n).off] s t) ∧
  (∀ s (n : Fin 32), s.prf.axes.length = 32 → (s.axis n).st = 8 → Does (.prfClrflt n) s fun t => (t.axis n).st = (if s.flag (F.PRF_P_CFG_MODE n) then 7 else 1) ∧
    (t.axis n).fault = false ∧ t.get (F.PRF_P_STAT_CAUSE n) = 0 ∧ t.flag (F.PRF_P_STAT_HOMED n) = false ∧ OnlyWords [(F.PRF_P_STAT_STATE n).off] s t) ∧
  (∀ s (n : Fin 32), s.prf.axes.length = 32 → (s.axis n).st ≠ 1 → (s.axis n).pend.isSome = true → s.moveRefused n (s.getI (F.PRF_P_TGT_TARGET n)) = false →
    Does (.prfMove n) s fun t => (t.axis n).pend = some (s.getI (F.PRF_P_TGT_TARGET n)) ∧ t.flag (F.PRF_P_STAT_REPLACED n) = true ∧
      t.flag (F.PRF_P_STAT_PEND n) = true ∧ t.pended 118 ∧ OnlyWordsEv [(F.PRF_P_STAT_STATE n).off, (F.PRF_P_PTGT_VALUE n).off] s t) ∧
  (∀ s (n : Fin 32), s.prf.axes.length = 32 → (s.axis n).st = 5 ∨ (s.axis n).st = 6 → Does (.prfStop n) s fun t => (t.axis n).st = 3 ∧
    t.get (F.PRF_P_STAT_STATE n) = 3 ∧ (t.axis n).plan.isSome = true ∧ OnlyWords [(F.PRF_P_STAT_STATE n).off] s t) ∧
  (∀ s (n : Fin 32), s.prf.axes.length = 32 → (s.axis n).st = 3 ∨ (s.axis n).st = 5 ∨ (s.axis n).st = 6 → Does (.prfAbort n) s fun t =>
    (t.axis n).st = 4 ∧ t.get (F.PRF_P_STAT_STATE n) = 4 ∧ (t.axis n).pend = none ∧ (t.axis n).plan.isSome = true ∧ t.pended 113 ∧
    ((s.axis n).pend.isSome = true → t.flag (F.PRF_P_STAT_DISCARDED n) = true) ∧ OnlyWordsEv [(F.PRF_P_STAT_STATE n).off] s t)

/-- Inputs, ends of moves and outputs of the profile unit (R363, R371 to R375, R382, R383).
It rests on the model's own choices in logs 240 and 249. -/
def Obligations.AxisInputsAndOutputs : Prop :=
  (∀ s (i : Fin 48) level samples (n : Fin 32) (r : Fin 3), s.prf.axes.length = 32 → (s.axis n).deb.length = 3 → (s.axisInput n r).1 = i.val →
    (s.axisInput n r).2 ≤ samples → nth (s.axis n).deb r false = !level → Does (.axinDebouncedChange i level samples) s fun t =>
      nth (t.axis n).deb r false = level ∧
      (if i.val < 32 then t.bit F.PRF_INRAW_LO_LEVEL i else t.bit F.PRF_INRAW_HI_LEVEL (i.val - 32)) = level ∧
      (if i.val < 32 then t.bit F.PRF_INDEB_LO_LEVEL i else t.bit F.PRF_INDEB_HI_LEVEL (i.val - 32)) = level) ∧
  (∀ s (i : Fin 48) changes (n : Fin 32) (r : Fin 3), s.prf.axes.length = 32 → (s.axis n).chat.length = 3 → (s.axisInput n r).1 = i.val →
    nth (s.axis n).chat r false = false → s.get (F.PRF_P_DEB_CHLIM n) ≠ 0 → s.get (F.PRF_P_DEB_CHLIM n) ≤ min 255 (s.get (chatField n r) + changes) →
    Does (.inputChatter i changes) s fun t => t.get (chatField n r) = min 255 (s.get (chatField n r) + changes) ∧ nth (t.axis n).chat r false = true ∧
      t.flag (F.PRF_P_STAT_CHATTER n) = true) ∧
  (∀ s (n : Fin 32) p, s.prf.axes.length = 32 → (s.axis n).plan = some p → p.total.le (Fl.ratio p.k 4000) = true → (s.axis n).st = 2 → (s.axis n).pend = none →
    (s.axis n).off = false → (s.axis n).fault = false → s.frm.onceMajor.contains 112 = false → s.flag (F.PRF_P_CFG_ANGLE n) = false →
    Does (.moveComplete n) s fun t => (t.axis n).st = (if s.flag (F.PRF_P_CFG_MODE n) then 7 else 1) ∧ (t.axis n).plan = none ∧ (t.axis n).v = Fl.zero ∧
      (t.axis n).s = p.goal.getD (walkSegs p.segs p.total p.s0 p.v0 p.a0).1 ∧ t.get (F.PRF_P_POS_VALUE n) = (t.axis n).posWord false ∧ t.pended 112 ∧
      OnlyWordsEv [(F.PRF_P_STAT_STATE n).off, (F.PRF_P_POS_VALUE n).off, (F.PRF_P_VEL_VALUE n).off, (F.PRF_P_ACC_VALUE n).off] s t) ∧
  (∀ s (o : Fin 16) out e rest, s.prf.steps[o.val]? = some out → out.edges = e :: rest → out.rel + 4 * e ≤ s.now → Does (.stepEdge o) s fun t =>
    t.prf.steps[o.val]? = some { out with edges := rest, count := out.count + 1, edge := some (out.rel + 4 * e) } ∧ t.tim.ctr = s.tim.ctr ∧ t.regs = s.regs) ∧
  (∀ s (n : Fin 32), s.prf.axes.length = 32 → 4 * s.get (F.PRF_P_HOLDT_MS n) ≤ (s.axis n).rest → Does (.microstepHoldAmplitude n) s fun t =>
    (t.axis n).hold = true ∧ t.regs = s.regs) ∧
  (∀ s (i : Fin 48) level samples, Does (.axinDebouncedChange i level samples) s fun t =>
    (if i.val < 32 then t.bit F.PRF_INRAW_LO_LEVEL i else t.bit F.PRF_INRAW_HI_LEVEL (i.val - 32)) = level) ∧
  (∀ s (n : Fin 32) p, s.prf.axes.length = 32 → (s.axis n).plan = some p → p.total.le (Fl.ratio p.k 4000) = true → (s.axis n).st = 5 →
    4 ≤ s.get (F.PRF_P_STAT_PHASE n) → Does (.moveComplete n) s fun t => (t.axis n).st = 1 ∧ (t.axis n).plan = none ∧
      t.flag (F.PRF_P_STAT_HOMED n) = true ∧ t.get (F.PRF_P_STAT_PHASE n) = 0 ∧ t.pended 115) ∧
  (∀ s (o : Fin 16) out e rest, s.prf.steps[o.val]? = some out → out.edges = e :: rest → s.reaches (out.rel + 4 * e) → Does (.stepEdge o) s fun t =>
    t.prf.steps[o.val]? = some { out with edges := rest, count := out.count + 1, edge := some (out.rel + 4 * e) } ∧ out.rel + 4 * e ≤ t.now ∧ t.regs = s.regs) ∧
  (∀ s (n : Fin 32) p, s.prf.axes.length = 32 → (s.axis n).plan = some p → p.total.le (Fl.ratio p.k 4000) = true → (s.axis n).st = 3 ∨ (s.axis n).st = 4 →
    (s.axis n).pend = none → (s.axis n).off = false → Does (.moveComplete n) s fun t =>
      (t.axis n).st = (if (s.axis n).fault then 8 else if s.flag (F.PRF_P_CFG_MODE n) then 7 else 1) ∧ (t.axis n).plan = none ∧ (t.axis n).v = Fl.zero ∧
      OnlyWords [(F.PRF_P_STAT_STATE n).off, (F.PRF_P_POS_VALUE n).off, (F.PRF_P_VEL_VALUE n).off, (F.PRF_P_ACC_VALUE n).off] s t) ∧
  (∀ s (n : Fin 32) p, s.prf.axes.length = 32 → (s.axis n).plan = some p → p.total.le (Fl.ratio p.k 4000) = true → (s.axis n).st = 5 →
    s.get (F.PRF_P_STAT_PHASE n) = 1 ∨ s.get (F.PRF_P_STAT_PHASE n) = 2 → (s.axis n).ending = false → Does (.moveComplete n) s fun t =>
      (t.axis n).st = 4 ∧ (t.axis n).fault = true ∧ t.get (F.PRF_P_STAT_HFCAUSE n) = 3 ∧ t.pended 116 ∧ t.pended 113)

/-- Modes and error states of a CAN controller (R391, R392, R408, R409, R422, R423).
It rests on the model's own choices in log 268. -/
def Obligations.CanControllers : Prop :=
  (∀ s (n : Fin 8), s.flag (F.CAN_CTRL_INIT n) = true → s.canInitRefused n = false → Does (.canInitClear n) s fun t => t.flag (F.CAN_CTRL_INIT n) = false ∧
    (s.get (F.CAN_STATUS_STATE n) ≠ 3 → t.flag (F.CAN_STATUS_INTEG n) = true) ∧ OnlyWords [(F.CAN_CTRL_INIT n).off, (F.CAN_STATUS_STATE n).off] s t) ∧
  (∀ s (n : Fin 8), s.flag (F.CAN_CTRL_INIT n) = true → s.canInitRefused n = true → Does (.canInitClear n) s fun t => t.flag (F.CAN_ERR_CFG n) = true ∧
    OnlyWords [(F.CAN_ERR_CFG n).off] s t) ∧
  (∀ s (n : Fin 8), s.can.ctl.length = 8 → s.flag (F.CAN_CTRL_INIT n) = false → Does (.canInitSet n) s fun t => t.flag (F.CAN_CTRL_INIT n) = true ∧
    (t.canCtl n).cur = none ∧ t.flag (F.CAN_STATUS_TXING n) = false ∧ t.flag (F.CAN_STATUS_INTEG n) = false ∧
    t.get (F.CAN_STATUS_STATE n) = (if s.get (F.CAN_STATUS_STATE n) = 3 then 3 else 0) ∧ OnlyWords [(F.CAN_CTRL_INIT n).off, (F.CAN_STATUS_STATE n).off] s t) ∧
  (∀ s (n : Fin 8), s.flag (F.CAN_STATUS_INTEG n) = true → s.get F.PWR_STATUS_STATE < 2 → s.get (F.CAN_ERRCNT_TEC n) < 128 →
    s.flag (F.CAN_ERRCNT_RP n) = false → Does (.canIntegrationComplete n) s fun t => t.flag (F.CAN_STATUS_INTEG n) = false ∧
      t.get (F.CAN_STATUS_STATE n) = 1 ∧ OnlyWords [(F.CAN_STATUS_STATE n).off] s t) ∧
  (∀ s (n : Fin 8), s.get (F.CAN_STATUS_STATE n) = 3 → Does (.canRecover n) s fun t => t.flag (F.CAN_STATUS_RECOV n) = true ∧
    OnlyWords [(F.CAN_STATUS_RECOV n).off] s t) ∧
  (∀ s (n : Fin 8), s.get (F.CAN_STATUS_STATE n) ≠ 3 → Does (.canRecover n) s fun t => t = s) ∧
  (∀ s (n : Fin 8), s.flag (F.CAN_STATUS_RECOV n) = true → s.flag (F.CAN_CTRL_INIT n) = false → Does (.canRecoveryComplete n) s fun t =>
    t.flag (F.CAN_STATUS_RECOV n) = false ∧ t.get (F.CAN_ERRCNT_TEC n) = 0 ∧ t.get (F.CAN_ERRCNT_REC n) = 0 ∧ t.get (F.CAN_STATUS_STATE n) = 1 ∧ t.pended 166 ∧
      OnlyWordsEv [(F.CAN_STATUS_RECOV n).off, (F.CAN_ERRCNT_TEC n).off] s t) ∧
  (∀ s (n : Fin 8), Does (.canClrcnt n) s fun t => (∀ k < 4, t.get (F.CAN_CNT_COUNT n k) = 0) ∧
    OnlyWords [(F.CAN_CNT_COUNT n 0).off, (F.CAN_CNT_COUNT n 1).off, (F.CAN_CNT_COUNT n 2).off, (F.CAN_CNT_COUNT n 3).off] s t) ∧
  (∀ s ok, s.flag F.CAN_STATUS_READY = false → s.flag F.CAN_STATUS_RAMFAULT = false → Does (.canReady ok) s fun t => t.flag F.CAN_STATUS_READY = ok ∧
    t.flag F.CAN_STATUS_RAMFAULT = (!ok) ∧ (ok = true → t.bit F.PWR_READY_READY 5 = true ∧ t.pended 164) ∧
    OnlyWordsEv [F.CAN_STATUS_READY.off, F.PWR_READY_READY.off] s t) ∧
  (∀ s (n : Fin 8) (code : Fin 7) first (more : Fin 64), s.canOn n = true → (s.canCtl n).cur = none → code ≠ 0 → s.get (F.CAN_ERRCNT_TEC n) < 128 →
    s.flag (F.CAN_ERRCNT_RP n) = false → s.get (F.CAN_ERRCNT_REC n) + (1 + (if first then 8 else 0) + 8 * more.val) < 128 →
    Does (.canReceiveError n code false first more) s fun t =>
      t.get (F.CAN_ERRCNT_REC n) = s.get (F.CAN_ERRCNT_REC n) + (1 + (if first then 8 else 0) + 8 * more.val) ∧ t.get (F.CAN_STATUS_LEC n) = code.val ∧
      t.get (F.CAN_STATUS_STATE n) = 1 ∧ t.get (F.CAN_CNT_COUNT n 2) = (s.get (F.CAN_CNT_COUNT n 2) + 1) % 2 ^ 32 ∧
      OnlyWords [(F.CAN_STATUS_LEC n).off, (F.CAN_ERRCNT_REC n).off, (F.CAN_CNT_COUNT n 2).off] s t) ∧
  (∀ s (n : Fin 8) (code : Fin 7) data first (more : Fin 64), s.canOn n = true → (s.canCtl n).cur = none → code ≠ 0 →
    Does (.canReceiveError n code data first more) s fun t =>
      t.get (if data then F.CAN_STATUS_DLEC n else F.CAN_STATUS_LEC n) = code.val ∧
      t.get (F.CAN_CNT_COUNT n 2) = (s.get (F.CAN_CNT_COUNT n 2) + 1) % 2 ^ 32 ∧ t.get (F.CAN_CNT_COUNT n 1) = s.get (F.CAN_CNT_COUNT n 1)) ∧
  (∀ s (n : Fin 8) data first (more : Fin 64), s.canOn n = true → (s.canCtl n).cur = none → s.flag (F.CAN_CTRL_PXE n) = true →
    Does (.canReceiveError n 0 data first more) s fun t => t.flag (F.CAN_STATUS_INTEG n) = true ∧ OnlyWords [(F.CAN_STATUS_INTEG n).off] s t) ∧
  (∀ s (n : Fin 8) data first (more : Fin 64), s.canOn n = true → (s.canCtl n).cur = none → s.flag (F.CAN_CTRL_PXE n) = false →
    Does (.canReceiveError n 0 data first more) s fun t => t.get (if data then F.CAN_STATUS_DLEC n else F.CAN_STATUS_LEC n) = 2 ∧
      t.get (F.CAN_CNT_COUNT n 2) = (s.get (F.CAN_CNT_COUNT n 2) + 1) % 2 ^ 32) ∧
  (∀ s (n : Fin 8), s.flag (F.CAN_STATUS_INTEG n) = true → s.get F.PWR_STATUS_STATE < 2 → s.get (F.CAN_ERRCNT_TEC n) < 256 →
    128 ≤ s.get (F.CAN_ERRCNT_TEC n) ∨ s.flag (F.CAN_ERRCNT_RP n) = true → Does (.canIntegrationComplete n) s fun t =>
      t.flag (F.CAN_STATUS_INTEG n) = false ∧ t.get (F.CAN_STATUS_STATE n) = 2 ∧ (s.get (F.CAN_STATUS_STATE n) ≠ 2 → t.pended (136 + n)) ∧
      OnlyWordsEv [(F.CAN_STATUS_STATE n).off] s t)

/-- Buffers of a CAN controller: locks, requests, cancellation and the FIFOs (R395, R396, R399, R400, R404, R406).
It rests on the model's own choices in log 271. -/
def Obligations.CanBuffers : Prop :=
  (∀ s (port : Fin 2) (n : Fin 8) (buf : Fin 128), s.can.ctl.length = 8 → (s.canCtl n).locks.length = 2 → s.flag (F.CAN_CTRL_MODE n) = true →
    s.canLocked n buf = false → Does (.canBufferLockRead port n buf) s fun t => t.canLock n port = some ⟨buf, s.lin⟩ ∧
      t.hostData = s.get (F.CAN_MRAM_WORD n (20 * buf))) ∧
  (∀ s (port : Fin 2) (n : Fin 8) (buf : Fin 128) k, s.can.ctl.length = 8 → (s.canCtl n).locks.length = 2 → s.flag (F.CAN_CTRL_MODE n) = true →
    s.canLock n port = some k → k.buf = buf.val → find1 (s.canCtl n).hold buf.val = none → Does (.canBufferReleaseRead port n buf) s fun t =>
      t.canLock n port = none ∧ t.hostData = s.get (F.CAN_MRAM_WORD n (20 * buf + 19)) ∧ t.bit (F.CAN_NEWDAT_OBJ n (buf / 32)) (buf % 32) = false) ∧
  (∀ s (port : Fin 2) (n : Fin 8) k, s.can.ctl.length = 8 → (s.canCtl n).locks.length = 2 → (s.canCtl n).rx.length ≤ 64 →
    s.flag (F.CAN_CTRL_MODE n) = false → s.canLock n port = some k → k.buf = 0 → Does (.canBufferReleaseRead port n 0) s fun t =>
      t.canLock n port = none ∧ (t.canCtl n).rx = (s.canCtl n).rx.drop 1 ∧ t.get (F.CAN_FIFO_RXFILL n) = (s.canCtl n).rx.length - 1 ∧
      OnlyWords [(F.CAN_FIFO_RXFILL n).off] s t) ∧
  (∀ s (port : Fin 2) (n : Fin 8) k, s.can.ctl.length = 8 → (s.canCtl n).locks.length = 2 → s.canLock n port = some k → 1000000 ≤ linDiff s.lin k.since →
    Does (.canLockTimeout port n) s fun t => t.canLock n port = none ∧ t.flag (F.CAN_ERR_LOCKTO n) = true ∧ t.pended 165 ∧ t.tim.ctr = s.tim.ctr) ∧
  (∀ s (port : Fin 2) (n : Fin 8) sshot, s.can.ctl.length = 8 → s.flag (F.CAN_CTRL_MODE n) = false → (s.canCtl n).tx.length < 32 →
    Does (.canTxCommit port n sshot) s fun t => (t.canCtl n).tx = (s.canCtl n).tx ++ [⟨nth (s.canCtl n).stag port [], sshot⟩] ∧
      t.get (F.CAN_FIFO_TXFILL n) = (s.canCtl n).tx.length + 1 ∧ OnlyWords [(F.CAN_FIFO_TXFILL n).off] s t) ∧
  (∀ s (port : Fin 2) (n : Fin 8) sshot, s.flag (F.CAN_CTRL_MODE n) = false → 32 ≤ (s.canCtl n).tx.length → Does (.canTxCommit port n sshot) s fun t =>
    t.flag (F.CAN_ERR_TXFULL n) = true ∧ t.can = s.can ∧ OnlyWords [(F.CAN_ERR_TXFULL n).off] s t) ∧
  (∀ s (n : Fin 8) (w : Fin 4) (mask : Word), s.flag (F.CAN_CTRL_MODE n) = true →
    (∀ b < 32, bitOf mask.toNat b = true → bitOf (s.objId n (32 * w + b)) 31 = true ∧ bitOf (s.objId n (32 * w + b)) 30 = true) →
    Does (.canTxreq n w mask) s fun t => ∀ b < 32, t.bit (F.CAN_TXPEND_OBJ n w) b = (s.bit (F.CAN_TXPEND_OBJ n w) b || bitOf mask.toNat b)) ∧
  (∀ s (n : Fin 8) (w : Fin 4) (mask : Word), (s.canCtl n).cur = none → Does (.canCancel n w mask) s fun t =>
    ∀ b < 32, t.bit (F.CAN_TXPEND_OBJ n w) b = (s.bit (F.CAN_TXPEND_OBJ n w) b && !bitOf mask.toNat b)) ∧
  (∀ s (n : Fin 8), s.can.ctl.length = 8 → (s.canCtl n).cur = none → Does (.canTxfflush n) s fun t => (t.canCtl n).tx = [] ∧
    t.get (F.CAN_FIFO_TXFILL n) = 0 ∧ OnlyWords [(F.CAN_FIFO_TXFILL n).off] s t) ∧
  (∀ s (port : Fin 2) (n : Fin 8) (buf : Fin 128), Does (.canBufferLockRead port n buf) s fun t => t.hostData = s.canWord port n (20 * buf)) ∧
  (∀ s (port : Fin 2) (n : Fin 8), s.can.ctl.length = 8 → (s.canCtl n).locks.length = 2 → s.flag (F.CAN_CTRL_MODE n) = false →
    (s.canCtl n).rx ≠ [] → s.canLocked n 0 = false → Does (.canBufferLockRead port n 0) s fun t => t.canLock n port = some ⟨0, s.lin⟩ ∧
      t.hostData = nth (nth (s.canCtl n).rx 0 []) 0 0 ∧ t.regs = s.regs) ∧
  (∀ s (port : Fin 2) (n : Fin 8) (buf : Fin 128), Does (.canBufferReleaseRead port n buf) s fun t => t.hostData = s.canWord port n (20 * buf + 19)) ∧
  (∀ s (port : Fin 2) (n : Fin 8) k, s.can.ctl.length = 8 → (s.canCtl n).locks.length = 2 → s.canLock n port = some k → 0 ≤ linDiff s.lin k.since →
    s.reaches (s.now + (1000000 - linDiff s.lin k.since).toNat) → Does (.canLockTimeout port n) s fun t => t.canLock n port = none ∧
      t.flag (F.CAN_ERR_LOCKTO n) = true ∧ t.pended 165 ∧ s.now + (1000000 - linDiff s.lin k.since).toNat ≤ t.now) ∧
  (∀ s (n : Fin 8) (w : Fin 4) (mask : Word) (b : Fin 32) a, s.can.ctl.length = 8 → (s.canCtl n).cur = some a → a.who = .obj (32 * w + b) →
    s.txPend n (32 * w + b) = true → bitOf mask.toNat b = true → Does (.canCancel n w mask) s fun t =>
      (t.canCtl n).cur = some { a with cancel := true } ∧ t.txPend n (32 * w + b) = true) ∧
  (∀ s (n : Fin 8) a, s.can.ctl.length = 8 → (s.canCtl n).tx.length ≤ 32 → (s.canCtl n).cur = some a → a.who = .fifo → Does (.canTxfflush n) s fun t =>
    (t.canCtl n).tx = (s.canCtl n).tx.take 1 ∧ (t.canCtl n).cur = some { a with cancel := true } ∧
      t.get (F.CAN_FIFO_TXFILL n) = ((s.canCtl n).tx.take 1).length ∧ OnlyWords [(F.CAN_FIFO_TXFILL n).off] s t) ∧
  (∀ s (n : Fin 8) a, s.can.ctl.length = 8 → (s.canCtl n).cur = some a → a.who ≠ .fifo → Does (.canTxfflush n) s fun t => (t.canCtl n).tx = [] ∧
    (t.canCtl n).cur = some a ∧ t.get (F.CAN_FIFO_TXFILL n) = 0 ∧ OnlyWords [(F.CAN_FIFO_TXFILL n).off] s t)

/-- Frames on a CAN bus and the telegram timeout (R398, R399, R405, R410, R421): a frame received is counted and queued; the best candidate
starts at an opportunity; a telegram sent without error gives its slot's SEQ and record.
It rests on the model's own choices in logs 260, 263 and 274. -/
def Obligations.CanTraffic : Prop :=
  (∀ s (n : Fin 8) f ago, s.can.ctl.length = 8 → s.canOn n = true → (s.canCtl n).cur = none → s.flag (F.CAN_CTRL_MODE n) = false →
    (∀ k < 16, bitOf (s.objId n k) 31 = false) → (s.canCtl n).rx.length < 64 → Does (.canFrameReceived n f ago) s fun t =>
      t.get (F.CAN_CNT_COUNT n 1) = (s.get (F.CAN_CNT_COUNT n 1) + 1) % 2 ^ 32 ∧ t.get (F.CAN_ACKERR_CONSEC n) = 0 ∧
      t.flag (F.CAN_STATUS_LONE n) = false ∧ (t.canCtl n).rx.length = (s.canCtl n).rx.length + 1) ∧
  (∀ s (n : Fin 8) c, s.can.ctl.length = 8 → s.canOn n = true → (s.canCtl n).cur = none → s.flag (F.CAN_CTRL_MON n) = false →
    bestCand (s.txCands n) = some c → Does (.canTxOpportunity n) s fun t => (t.canCtl n).cur = some ⟨c.who, c.frame, false⟩ ∧
      t.flag (F.CAN_STATUS_TXING n) = true) ∧
  (∀ s (n : Fin 8) edges ago a (k : Fin 16), s.can.ctl.length = 8 → s.can.tlg.length = 16 → (s.canCtl n).cur = some a → a.who = .tlg k →
    (s.tlgSlot k).pend = some (frameBytes a.frame) → s.flag (F.CAN_CTRL_LBACK n) = false → s.get (F.CAN_ERRCNT_TEC n) < 128 →
    s.flag (F.CAN_ERRCNT_RP n) = false → Does (.canTxAttemptEnd n (.ok edges) ago) s fun t => (t.canCtl n).cur = none ∧ (t.tlgSlot k).pend = none ∧
      t.flag (F.CAN_STATUS_TXING n) = false ∧ t.get (F.CAN_TLG_STAT_SEQ k) = beAt (frameBytes a.frame) 4 2 ∧
      t.get (F.CAN_CNT_COUNT n 0) = (s.get (F.CAN_CNT_COUNT n 0) + 1) % 2 ^ 32 ∧ t.get (F.CAN_ERRCNT_TEC n) = s.get (F.CAN_ERRCNT_TEC n) - 1) ∧
  (∀ s (n : Fin 8) ago a, s.can.ctl.length = 8 → (s.canCtl n).cur = some a → a.cancel = false → Does (.canTxAttemptEnd n .lost ago) s fun t =>
    (t.canCtl n).cur = none ∧ t.flag (F.CAN_STATUS_TXING n) = false ∧ OnlyWords [(F.CAN_STATUS_TXING n).off] s t) ∧
  (∀ s (k : Fin 16), s.flag (F.CAN_TLG_CFG_EN k) = true → s.get (F.CAN_TLG_FBTMO_MS k) ≠ 0 →
    (s.get (F.CAN_TLG_FBTMO_MS k) * 1000000 : Int) ≤ linDiff s.lin (s.tlgSlot k).since → s.flag (F.CAN_TLG_STAT_FBLOST k) = false →
    Does (.tlgFeedbackTimeout k) s fun t => t.flag (F.CAN_TLG_STAT_FBLOST k) = true ∧ t.pended 162 ∧ t.tim.ctr = s.tim.ctr) ∧
  (∀ s (n : Fin 8) f ago, s.canOn n = true → (s.canCtl n).cur = none → Does (.canFrameReceived n f ago) s fun t =>
    t.get (F.CAN_CNT_COUNT n 1) = (s.get (F.CAN_CNT_COUNT n 1) + 1) % 2 ^ 32 ∧ t.get (F.CAN_ACKERR_CONSEC n) = 0 ∧ t.flag (F.CAN_STATUS_LONE n) = false) ∧
  (∀ s (n : Fin 8) f ago (o : Fin 128), s.canOn n = true → (s.canCtl n).cur = none → s.flag (F.CAN_CTRL_MODE n) = true →
    (List.range 128).find? (fun k => !bitOf (s.objId n k) 30 && frameMatches f (s.objId n k) (s.objMask n k)) = some o.val → s.canLocked n o = false →
    Does (.canFrameReceived n f ago) s fun t => t.bit (F.CAN_NEWDAT_OBJ n (o / 32)) (o % 32) = true ∧ t.objWord n o 0 = frameWord0 f ∧
      t.objWord n o 2 = s.canStampOf ago.toNat ∧ bitOf (t.objWord n o 19) 1 = bitOf (s.objWord n o 19) 0) ∧
  (∀ s (n : Fin 8) edges ago a, s.can.ctl.length = 8 → (s.canCtl n).tx.length ≤ 32 → (s.canCtl n).cur = some a → a.who = .fifo →
    s.flag (F.CAN_CTRL_LBACK n) = false → s.get (F.CAN_ERRCNT_TEC n) ≤ 256 → Does (.canTxAttemptEnd n (.ok edges) ago) s fun t =>
      (t.canCtl n).cur = none ∧ (t.canCtl n).tx = (s.canCtl n).tx.drop 1 ∧ t.get (F.CAN_FIFO_TXFILL n) = (s.canCtl n).tx.length - 1 ∧
      t.get (F.CAN_CNT_COUNT n 0) = (s.get (F.CAN_CNT_COUNT n 0) + 1) % 2 ^ 32 ∧ t.get (F.CAN_ERRCNT_TEC n) = s.get (F.CAN_ERRCNT_TEC n) - 1 ∧
      t.flag (F.CAN_STATUS_TXING n) = false) ∧
  (∀ s (n : Fin 8) edges ago a (o : Fin 128), s.can.ctl.length = 8 → (s.canCtl n).cur = some a → a.who = .obj o → s.flag (F.CAN_CTRL_LBACK n) = false →
    s.canLocked n o = false → Does (.canTxAttemptEnd n (.ok edges) ago) s fun t =>
      (t.canCtl n).cur = none ∧ t.txPend n o = false ∧ bitOf (t.objWord n o 19) 3 = true) ∧
  (∀ s (n : Fin 8) (code : Fin 7) (data body noCount : Bool) (more : Fin 64) edges ago a, s.can.ctl.length = 8 → (s.canCtl n).cur = some a →
    s.get (F.CAN_ERRCNT_TEC n) + 8 + 8 * more.val < 128 → s.flag (F.CAN_ERRCNT_RP n) = false → s.get (F.CAN_STATUS_STATE n) = 1 →
    Does (.canTxAttemptEnd n (.err code data body noCount more edges) ago) s fun t => (t.canCtl n).cur = none ∧ t.flag (F.CAN_STATUS_TXING n) = false ∧
      t.get (if data then F.CAN_STATUS_DLEC n else F.CAN_STATUS_LEC n) = code.val ∧ t.get (F.CAN_STATUS_STATE n) = 1 ∧
      t.get (F.CAN_CNT_COUNT n 2) = (s.get (F.CAN_CNT_COUNT n 2) + 1) % 2 ^ 32 ∧
      t.get (F.CAN_ERRCNT_TEC n) = s.get (F.CAN_ERRCNT_TEC n) + (if noCount && code == 1 && !body then 0 else 8) + 8 * more.val) ∧
  (∀ s (n : Fin 8) ago a, s.can.ctl.length = 8 → (s.canCtl n).tx.length ≤ 32 → (s.canCtl n).cur = some a → a.cancel = true → a.who = .fifo →
    Does (.canTxAttemptEnd n .lost ago) s fun t => (t.canCtl n).cur = none ∧ (t.canCtl n).tx = (s.canCtl n).tx.drop 1 ∧
      t.flag (F.CAN_STATUS_TXING n) = false) ∧
  (∀ s (k : Fin 16), s.flag (F.CAN_TLG_CFG_EN k) = true → s.get (F.CAN_TLG_FBTMO_MS k) ≠ 0 → 0 ≤ linDiff s.lin (s.tlgSlot k).since →
    s.reaches (s.now + ((s.get (F.CAN_TLG_FBTMO_MS k) * 1000000 : Int) - linDiff s.lin (s.tlgSlot k).since).toNat) →
    s.flag (F.CAN_TLG_STAT_FBLOST k) = false → Does (.tlgFeedbackTimeout k) s fun t => t.flag (F.CAN_TLG_STAT_FBLOST k) = true ∧ t.pended 162)

/-- Links, the active port of a network, transmission, PTP and membership reports (R103, R104, R106, R108, R110, R111).
It rests on the model's own choices in logs 101 and 103. -/
def Obligations.EthernetPorts : Prop :=
  (∀ s (p : Fin 4) up, s.flag (F.ETH_STATUS_LINK p) = !up → Does (.ethLinkChange p up) s fun t => t.flag (F.ETH_STATUS_LINK p) = up ∧ t.pended 24 ∧
    (up = false → t.get (F.ETH_STATUS_LINKDOWN p) = satInc 65535 (s.get (F.ETH_STATUS_LINKDOWN p)))) ∧
  (∀ s (net : Fin 2), s.eth.ports.length = 4 → s.ethUp (s.ethPrimary net) = true → s.ethActive net = none → Does (.ethFailover net) s fun t =>
    t.flag (F.ETH_STATUS_ACTIVE (s.ethPrimary net)) = true ∧ t.flag (F.ETH_STATUS_ACTIVE (ethMate (s.ethPrimary net))) = false ∧ t.pended 25 ∧
    OnlyWordsEv [(F.ETH_STATUS_ACTIVE (s.ethPrimary net)).off, (F.ETH_STATUS_ACTIVE (ethMate (s.ethPrimary net))).off] s t) ∧
  (∀ s (net : Fin 2) a, s.eth.ports.length = 4 → s.ethActive net = some a → s.ethUp a = false → s.ethUp (ethMate a) = true →
    Does (.ethFailover net) s fun t => t.flag (F.ETH_STATUS_ACTIVE (ethMate a)) = true ∧ t.flag (F.ETH_STATUS_ACTIVE a) = false ∧ t.pended 25 ∧
      (∀ c < 4, nth (t.port a).queues c [] = if c = 1 then nth (s.port a).queues c [] else []) ∧
      ∀ c < 4, nth (t.port (ethMate a)).queues c [] =
        if c = 1 then nth (s.port (ethMate a)).queues c [] else nth (s.port a).queues c [] ++ nth (s.port (ethMate a)).queues c []) ∧
  (∀ s (net : Fin 2), s.eth.ports.length = 4 → (if net = 0 then s.flag F.ETH_NETCFG_A_FAILBACK else s.flag F.ETH_NETCFG_B_FAILBACK) = true →
    s.ethUp (s.ethPrimary net) = true → s.flag (F.ETH_STATUS_ACTIVE (s.ethPrimary net)) = false → (s.port (s.ethPrimary net)).upSince + 10000000000 ≤ s.now →
    Does (.ethFailback net) s fun t => t.flag (F.ETH_STATUS_ACTIVE (s.ethPrimary net)) = true ∧
      t.flag (F.ETH_STATUS_ACTIVE (ethMate (s.ethPrimary net))) = false ∧ t.pended 25 ∧
      OnlyWordsEv [(F.ETH_STATUS_ACTIVE (s.ethPrimary net)).off, (F.ETH_STATUS_ACTIVE (ethMate (s.ethPrimary net))).off] s t) ∧
  (∀ s (p : Fin 4) frac c, s.eth.ports.length = 4 → s.ethUp p = true → s.nextClass p = some c → c ≠ 1 → Does (.ethFrameSend p frac) s fun t =>
    (t.port p).sent = (nth (s.port p).queues c []).head?.map (fun b => ⟨s.wireFrame p b, none⟩) ∧
    nth (t.port p).queues c [] = (nth (s.port p).queues c []).drop 1 ∧
    t.get (F.ETH_CNT_COUNT p 1) = (s.get (F.ETH_CNT_COUNT p 1) + 1) % 2 ^ 32 ∧ OnlyWords [(F.ETH_CNT_COUNT p 1).off] s t) ∧
  (∀ s (p : Fin 4) (domain : Fin 256) ds, s.eth.ports.length = 4 → s.ptpOn p = true → domain.val = s.ptpDomain →
    (∀ b : PtpSet, (s.port p).best = some b → b.sender = ds.sender ∨ ptpBetter ds b = true) → Does (.ptpAnnounceReceived p domain ds) s fun t =>
    (t.port p).best = some ds ∧ (t.port p).annMiss = 0 ∧ (t.port p).queues = (s.port p).queues) ∧
  (∀ s (p : Fin 4), s.eth.ports.length = 4 → (s.port p).best.isSome = true → 3 ≤ s.annMissed p → Does (.ptpAnnounceTimeout p) s fun t =>
    (t.port p).best = none ∧ (t.port p).annMiss = 0) ∧
  (∀ s (p : Fin 4) k frac m, s.eth.ports.length = 4 → s.ptpDue p k = true → (s.port p).ptpQ = [] → s.classWaits p 0 = false →
    m = s.ptpMessage p k (if ptpClock k = none then (s.port p).reqs.head? else none) (s.egressTime p frac) →
    Does (.ptpMessageTransmit p k frac) s fun t => (t.port p).sent = some ⟨s.wireFrame p (s.ptpFrame p m), some m⟩ ∧ (t.port p).ptpQ = [] ∧
      (t.port p).queues = (s.port p).queues ∧ t.get (F.ETH_CNT_COUNT p 1) = (s.get (F.ETH_CNT_COUNT p 1) + 1) % 2 ^ 32 ∧
      OnlyWords [(F.ETH_CNT_COUNT p 1).off] s t) ∧
  (∀ s (p : Fin 4) a, s.eth.ports.length = 4 → (s.port a).queues.length = 4 → s.ethActive (p / 2) = some a → s.get (F.ETH_IP_ADDR a) ≠ 0 →
    Does (.igmpQuery p) s fun t =>
      t.eth.igmp = s.eth.igmp ++ ((List.range 16).filter (fun g => s.grpOn g (p / 2))).map (fun g => (a, s.get (F.ETH_450GRP_ADDR_ADDR g))) ∧
      nth (t.port a).queues 3 [] = nth (s.port a).queues 3 [] ++
        ((List.range 16).filter (fun g => s.grpOn g (p / 2))).map (fun g => s.igmpFrame a (s.get (F.ETH_450GRP_ADDR_ADDR g))) ∧ t.regs = s.regs) ∧
  (∀ s (p : Fin 4) frac x rest m, s.eth.ports.length = 4 → s.ethUp p = true → s.nextClass p = some 1 → (s.port p).ptpQ = x :: rest →
    m = s.ptpMessage p x.1 x.2 (s.egressTime p frac) → Does (.ethFrameSend p frac) s fun t => (t.port p).ptpQ = rest ∧
      (t.port p).sent = some ⟨s.wireFrame p (s.ptpFrame p m), some m⟩ ∧ (t.port p).queues = (s.port p).queues ∧
      t.get (F.ETH_CNT_COUNT p 1) = (s.get (F.ETH_CNT_COUNT p 1) + 1) % 2 ^ 32 ∧ OnlyWords [(F.ETH_CNT_COUNT p 1).off] s t) ∧
  (∀ s (p : Fin 4) (domain : Fin 256) ds, domain.val ≠ s.ptpDomain → Does (.ptpAnnounceReceived p domain ds) s fun t => t = s) ∧
  (∀ s (p : Fin 4), s.eth.ports.length = 4 → (s.port p).best.isSome = true → s.annMissed p < 3 → Does (.ptpAnnounceTimeout p) s fun t =>
    (t.port p).best = (s.port p).best ∧ (t.port p).annMiss = s.annMissed p ∧ t.regs = s.regs) ∧
  (∀ s (p : Fin 4) k frac, s.eth.ports.length = 4 → s.ptpDue p k = true → s.classWaits p 0 = true → Does (.ptpMessageTransmit p k frac) s fun t =>
    (t.port p).ptpQ = (s.port p).ptpQ ++ [(k, if ptpClock k = none then (s.port p).reqs.head? else none)] ∧ (t.port p).sent = (s.port p).sent ∧
    t.regs = s.regs) ∧
  (∀ s (p : Fin 4) k frac, s.ptpDue p k = false → Does (.ptpMessageTransmit p k frac) s fun t => t = s) ∧
  (∀ s (p : Fin 4), s.ethActive (p / 2) = none → Does (.igmpQuery p) s fun t => t = s)

/-- Reception on an Ethernet port (R102, R105, R112): the checks and the counters, dispatch to PTP, the island and the drop counter,
and the datagrams of a group.
It rests on the model's own choices in logs 104 and 105. -/
def Obligations.EthernetReception : Prop :=
  (∀ s (p : Fin 4) frac bs, s.ethUp p = true → s.frm.onceMajor.contains 27 = false → Does (.ethFrameReceived p false frac bs) s fun t =>
    t.get (F.ETH_CNT_COUNT p 2) = (s.get (F.ETH_CNT_COUNT p 2) + 1) % 2 ^ 32 ∧ t.pended 27 ∧ t.eth = s.eth ∧
    OnlyWordsEv [(F.ETH_CNT_COUNT p 2).off] s t) ∧
  (∀ s (p : Fin 4) frac bs, s.ethUp p = true → bs.length ≤ 1518 → (etherParts bs).2.1 = 0x88F7 → s.eth.ports.length = 4 →
    (s.port p).ptpRx.length < 16 → Does (.ethFrameReceived p true frac bs) s fun t => (t.port p).ptpRx = (s.port p).ptpRx ++ [bs] ∧
      t.get (F.ETH_CNT_COUNT p 0) = (s.get (F.ETH_CNT_COUNT p 0) + 1) % 2 ^ 32 ∧
      ((etherParts bs).2.2.length < 44 → OnlyWords [(F.ETH_CNT_COUNT p 0).off] s t)) ∧
  (∀ s (p : Fin 4) frac bs, s.ethTakes p = true → bs.length ≤ 1518 → (etherParts bs).2.1 = 0x88B5 → Does (.ethFrameReceived p true frac bs) s fun t =>
    t.saf.rx = s.saf.rx ++ [{ net := p / 2, at10 := 100 * s.saf.ticks, bytes := padTo 16 (etherParts bs).2.2 }] ∧ t.eth = s.eth ∧
    t.get (F.ETH_CNT_COUNT p 0) = (s.get (F.ETH_CNT_COUNT p 0) + 1) % 2 ^ 32 ∧ OnlyWords [(F.ETH_CNT_COUNT p 0).off] s t) ∧
  (∀ s (p : Fin 4) frac bs, s.ethUp p = true → s.flag (F.ETH_STATUS_ACTIVE p) = false → bs.length ≤ 1518 → (etherParts bs).2.1 = 0x88B5 →
    Does (.ethFrameReceived p true frac bs) s fun t => t.saf = s.saf ∧ t.eth = s.eth ∧
      t.get (F.ETH_CNT_COUNT p 3) = (s.get (F.ETH_CNT_COUNT p 3) + 1) % 2 ^ 32 ∧ OnlyWords [(F.ETH_CNT_COUNT p 0).off, (F.ETH_CNT_COUNT p 3).off] s t) ∧
  (∀ s (p : Fin 4) (g : Fin 16) frac bs, s.ethTakes p = true → s.grpOn g (p / 2) = true → bs.take 5 ≠ [85#8, 100#8, 80#8, 98#8, 67#8] →
    Does (.iec450Datagram p g frac bs) s fun t => t.get F.ETH_450DROP_FORMAT = satInc 65535 (s.get F.ETH_450DROP_FORMAT) ∧ t.sig = s.sig ∧
      OnlyWordsEv [F.ETH_450DROP_FORMAT.off] s t) ∧
  (∀ s (p : Fin 4) (g : Fin 16) frac body l x, s.ethTakes p = true → s.grpOn g (p / 2) = true → lines body [] = [l] → tagBlocks 8 l = ([], l) →
    parseSentence false l = some x → Does (.iec450Datagram p g frac ([85#8, 100#8, 80#8, 98#8, 67#8, 0#8] ++ body)) s fun t =>
      t = { s.feedSentence 3 g { x with tags := [] } (s.ingress p frac) with twin := t.twin }) ∧
  (∀ s (p : Fin 4) frac bs, s.ethTakes p = true → bs.length ≤ 1518 → (etherParts bs).2.1 ≠ 0x88F7 → (etherParts bs).2.1 ≠ 0x88B5 →
    udpParts (etherParts bs).2.1 (etherParts bs).2.2 = none → (etherParts bs).1 = s.ethMac p ∨ (etherParts bs).1 = 0xFFFFFFFFFFFF →
    s.flag (F.ETH_CFG_RAWRX p) = true → Does (.ethFrameReceived p true frac bs) s fun t =>
      t.hif.items = s.hif.items ++ [⟨p / 2, s.ingress p frac, p, bs⟩] ∧
      t.get (F.ETH_CNT_COUNT p 0) = (s.get (F.ETH_CNT_COUNT p 0) + 1) % 2 ^ 32 ∧ OnlyWords [(F.ETH_CNT_COUNT p 0).off] s t)

/-- States, clocks, configuration and ticks of the safety island (R426 to R429, R431, R445): what a fault and an outlying clock do, a
committed word applied, and what a tick samples.
It rests on the model's own choices in log 280. -/
def Obligations.IslandStatesAndTicks : Prop :=
  (∀ s (cause : Fin 5), s.get F.SAF_STATUS_STATE ≠ 3 → Does (.islandSafeFault cause) s fun t => t.get F.SAF_STATUS_STATE = 3 ∧
    t.get F.SAF_STATUS_CAUSE = cause.val + 1 ∧ t.get F.SAF_CO_OUT_OUT = 0 ∧ t.pended 185 ∧
    (∀ i < 16, t.bit F.SAF_AVAIL_AVAIL i = (List.range 16).all (fun m => !(s.flag (F.SAF_CO_CFG_EN m) && s.get (F.SAF_CO_CFG_THR m) == i))) ∧
    ∀ m < 16, (t.con m).cmd = false ∧ t.flag (F.SAF_CO_AUX_OUT m) = false) ∧
  (∀ s (cause : Fin 5), s.get F.SAF_STATUS_STATE = 3 → Does (.islandSafeFault cause) s fun t => t = s) ∧
  (∀ s tcxo rc xtal, clockApart tcxo rc = true → clockApart tcxo xtal = true → clockApart rc xtal = false → s.flag F.SAF_STATUS_TCXO_FAULT = false →
    Does (.clockMonitorCheck tcxo rc xtal) s fun t => t.flag F.SAF_STATUS_TCXO_FAULT = true ∧ t.flag F.SAF_STATUS_CLK_RC = true ∧ t.pended 186 ∧
      t.get F.SAF_STATUS_STATE = s.get F.SAF_STATUS_STATE ∧ OnlyWordsEv [F.SAF_STATUS_STATE.off] s t) ∧
  (∀ s tcxo rc xtal, clockApart tcxo rc = true → clockApart tcxo xtal = true → clockApart rc xtal = true → s.get F.SAF_STATUS_STATE ≠ 3 →
    Does (.clockMonitorCheck tcxo rc xtal) s fun t => t.get F.SAF_STATUS_STATE = 3 ∧ t.get F.SAF_STATUS_CAUSE = 2) ∧
  (∀ s tcxo rc xtal, clockApart tcxo rc = false → clockApart tcxo xtal = false → Does (.clockMonitorCheck tcxo rc xtal) s fun t => t = s) ∧
  (∀ s (v : Nat), s.islRun = true → s.saf.cfg = some [(F.SAF_RSTCFG_EN.off, v)] → Does (.islandConfigApply true) s fun t => t.saf.cfg = none ∧ t.pended 187 ∧
    t.word F.SAF_RSTCFG_EN.off =
      (s.word F.SAF_RSTCFG_EN.off - Nat.land (s.word F.SAF_RSTCFG_EN.off) (safMask F.SAF_RSTCFG_EN.off) + v) % 2 ^ 32 ∧
    OnlyWordsEv [F.SAF_RSTCFG_EN.off] s t) ∧
  (∀ s l, s.islRun = true → s.saf.cfg = some l → Does (.islandConfigApply false) s fun t => t.saf.cfg = none ∧ t.get F.SAF_STATUS_STATE = 3 ∧
    t.get F.SAF_STATUS_CAUSE = 4) ∧
  (∀ s (a b : Word) (fb rb : BitVec 16) (srst : BitVec 4), s.islRun = true → s.get F.PWR_STATUS_STATE < 3 →
    Does (.islandTick a b fb rb srst) s fun t => t.saf.count = s.saf.count + 1 ∧ t.saf.ticks = s.saf.ticks + 1 ∧
      t.get F.SAF_RSTSTAT_LEVEL = srst.toNat ∧ ∀ n < 32, t.flag (F.SAF_SI_A n) = bitOf a.toNat n ∧ t.flag (F.SAF_SI_B n) = bitOf b.toNat n) ∧
  (∀ s (a b : Word) (fb rb : BitVec 16) (srst : BitVec 4), s.get F.SAF_STATUS_STATE = 1 → s.get F.PWR_STATUS_STATE < 3 →
    Does (.islandTick a b fb rb srst) s fun t => t.saf.ticks = s.saf.ticks + 1 ∧ t.get F.SAF_STATUS_STATE = 1 ∧
      t.get F.SAF_RSTSTAT_LEVEL = srst.toNat ∧ ∀ n < 32, t.flag (F.SAF_SI_A n) = bitOf a.toNat n ∧ t.flag (F.SAF_SI_B n) = bitOf b.toNat n) ∧
  (∀ s l, s.islRun = true → s.saf.cfg = some l → Does (.islandConfigApply true) s fun t => t.saf.cfg = none ∧ t.pended 187 ∧ t.islRun = true) ∧
  (∀ s tcxo rc xtal, clockApart tcxo rc = true → clockApart tcxo xtal = false → clockApart rc xtal = true → s.flag F.SAF_STATUS_RC_FAULT = false →
    Does (.clockMonitorCheck tcxo rc xtal) s fun t => t.flag F.SAF_STATUS_RC_FAULT = true ∧ t.pended 186 ∧
      t.get F.SAF_STATUS_STATE = s.get F.SAF_STATUS_STATE ∧ OnlyWordsEv [F.SAF_STATUS_STATE.off] s t) ∧
  (∀ s tcxo rc xtal, clockApart tcxo rc = false → clockApart tcxo xtal = true → clockApart rc xtal = true → s.flag F.SAF_STATUS_XTAL_FAULT = false →
    Does (.clockMonitorCheck tcxo rc xtal) s fun t => t.flag F.SAF_STATUS_XTAL_FAULT = true ∧ t.pended 186 ∧
      t.get F.SAF_STATUS_STATE = s.get F.SAF_STATUS_STATE ∧ OnlyWordsEv [F.SAF_STATUS_STATE.off] s t)

/-- Inputs, contactors and resets of the safety island (R432, R436, R438).
It rests on the model's own choices in log 282. -/
def Obligations.IslandInputsAndContactors : Prop :=
  (∀ s (n : Fin 32), s.islRun = true → s.get (F.SAF_SI_STATE n) = 3 → s.discT n ≤ nth s.saf.dcnt n 0 + 1 → Does (.discrepancyLock n) s fun t =>
    t.get (F.SAF_SI_STATE n) = 4 ∧ t.bit F.SAF_INLOCK_SI n = true ∧ t.bit F.SAF_DEMAND_SI n = true ∧ t.pended 178 ∧
    OnlyWordsEv [(F.SAF_SI_STATE n).off, F.SAF_INLOCK_SI.off, F.SAF_DEMAND_SI.off] s t) ∧
  (∀ s (m : Fin 16), s.islRun = true → s.coTfb m ≤ (s.con m).t + 1 → s.coSt m = 3 → (s.con m).closed = false → Does (.contactorFeedbackTimeout m) s fun t =>
    t.coSt m = 8 ∧ t.get (F.SAF_CO_AUX_LCAUSE m) = 2 ∧ t.bit F.SAF_CO_LOCK_LOCK m = true ∧ t.bit F.SAF_CO_OUT_OUT m = false ∧ t.pended 179 ∧
    OnlyWordsEv [(F.SAF_CO_AUX_STATE m).off, F.SAF_CO_LOCK_LOCK.off, F.SAF_CO_OUT_OUT.off, F.SAF_AVAIL_AVAIL.off] s t) ∧
  (∀ s (m : Fin 16), s.islRun = true → s.coTfb m ≤ (s.con m).t + 1 → (s.coSt m = 6 ∨ s.coSt m = 7) → (s.con m).open 3 = false →
    Does (.contactorFeedbackTimeout m) s fun t => t.coSt m = 8 ∧ t.get (F.SAF_CO_AUX_LCAUSE m) = 2 ∧ t.bit F.SAF_CO_LOCK_LOCK m = true ∧ t.pended 179) ∧
  (∀ s (m : Fin 16), s.islRun = true → s.coSt m = 5 → s.get (F.SAF_CO_AUX_DELAY m) ≤ (s.con m).t + 1 → Does (.cat1DelayExpiry m) s fun t =>
    t.coSt m = 6 ∧ (t.con m).cmd = false ∧ t.bit F.SAF_CO_OUT_OUT m = false ∧
    OnlyWords [(F.SAF_CO_AUX_STATE m).off, F.SAF_CO_OUT_OUT.off, F.SAF_AVAIL_AVAIL.off] s t) ∧
  (∀ s (r : Fin 4) (m : Fin 16), s.islRun = true → s.bit F.SAF_RSTCFG_EN r = true → s.pressOk (nth s.saf.press r 0) = true → bitOf (s.rstTargets r) m = true →
    (s.coSt m = 1 ∨ s.coSt m = 8) → s.stopDemand (s.get F.SAF_CO_LOCK_LOCK) m = false → (s.con m).open 3 = true → s.flag (F.SAF_CO_AUX_OUT m) = false →
    Does (.resetInputRelease r) s fun t => t.coSt m = 2 ∧ t.get (F.SAF_CO_AUX_LCAUSE m) = 0 ∧ t.bit F.SAF_CO_LOCK_LOCK m = false ∧ t.pended 181 ∧
      nth t.saf.press r 0 = 0) ∧
  (∀ s (r : Fin 4), s.islRun = true → s.bit F.SAF_RSTCFG_EN r = true → max 1 (s.get F.SAF_RSTCFG_MAXP) * 100 ≤ nth s.saf.press r 0 →
    Does (.resetInputStuck r) s fun t => t.bit F.SAF_RSTSTAT_STUCK r = true ∧ OnlyWords [F.SAF_RSTSTAT_STUCK.off] s t) ∧
  (∀ s (mask : BitVec 16) (m : Fin 16), s.islRun = true → bitOf mask.toNat m = true → s.flag (F.SAF_CO_CFG_HOSTRST m) = true →
    (s.coSt m = 1 ∨ s.coSt m = 8) → s.stopDemand (s.get F.SAF_CO_LOCK_LOCK) m = false → (s.con m).open 3 = true → s.flag (F.SAF_CO_AUX_OUT m) = false →
    Does (.safHostReset mask) s fun t => t.coSt m = 2 ∧ t.get (F.SAF_CO_AUX_LCAUSE m) = 0 ∧ t.bit F.SAF_CO_LOCK_LOCK m = false ∧ t.pended 181) ∧
  (∀ s (mask : BitVec 16) (m : Fin 16), s.islRun = false → s.saf.once.contains 188 = false → bitOf mask.toNat m = true →
    s.flag (F.SAF_CO_CFG_HOSTRST m) = true → Does (.safHostReset mask) s fun t =>
      t.flag F.SAF_ERR_RSTREF = true ∧ t.pended 188 ∧ OnlyWordsEv [F.SAF_ERR_RSTREF.off] s t) ∧
  (∀ s (r : Fin 4), s.islRun = true → s.bit F.SAF_RSTCFG_EN r = true → s.saf.press.length = 4 → Does (.resetInputRelease r) s fun t =>
    nth t.saf.press r 0 = 0 ∧ (s.pressOk (nth s.saf.press r 0) = false → t.regs = s.regs ∧ t.saf.co = s.saf.co)) ∧
  (∀ s (mask : BitVec 16) (m : Fin 16), s.islRun = true → s.saf.once.contains 188 = false → bitOf mask.toNat m = true →
    s.flag (F.SAF_CO_CFG_HOSTRST m) = true → s.coSt m ≠ 1 → s.coSt m ≠ 8 → Does (.safHostReset mask) s fun t =>
      t.flag F.SAF_ERR_RSTREF = true ∧ t.pended 188 ∧ t.coSt m = s.coSt m)

/-- Safe telegrams (R440 to R444): a PDU formed and sent, a PDU accepted or counted, a missing copy, the watchdog and the reset of a
mismatch.
It rests on the model's own choices in logs 284 and 286. -/
def Obligations.SafeTelegrams : Prop :=
  (∀ s (c : Fin 8), s.saf.conn.length = 8 → s.pduDue c (s.saf.count + 1) = true → Does (.safePduSend c) s fun t =>
    (t.conn c).next = ((s.conn c).next + 1) % 65536 ∧ (t.conn c).formed = some (s.saf.count + 1) ∧
    t.get (F.SAF_CONN_STAT_SEQ c) = (s.conn c).next % 65536 ∧
    (∀ n < 32, t.bit (F.SAF_CONN_PERMIT_PERMIT c) n = (s.get (F.SAF_SI_STATE n) == 1)) ∧
    OnlyWords [(F.SAF_CONN_STAT_SEQ c).off, (F.SAF_CONN_PERMIT_PERMIT c).off] s t) ∧
  (∀ s (c : Fin 8) (p : Fin 4), s.eth.ports.length = 4 → (s.port p).queues.length = 4 → s.pduDue c (s.saf.count + 1) = true → s.connNet c = 1 →
    s.ethActive 0 = some p.val → s.ethUp p = true → Does (.safePduSend c) s fun t => ∃ pdu : List Byte, pdu.length = 16 ∧
      beAt pdu 0 2 = s.get (F.SAF_CONN_CFG_CONNID c) ∧ beAt pdu 2 2 = (s.conn c).next % 65536 ∧ beAt pdu 10 2 = s.get (F.SAF_CONN_WDT_APP c) ∧
      beAt pdu 12 4 = s.pduChk c pdu ∧ nth (t.port p).queues 0 [] = nth (s.port p).queues 0 [] ++
        [beBytes 6 (s.get (F.SAF_CONN_MAC_HI_MAC c) * 2 ^ 32 + s.get (F.SAF_CONN_MAC_LO_MAC c)) ++
          beBytes 6 (s.get (F.ETH_MAC_HI_MAC p) * 2 ^ 32 + s.get (F.ETH_MAC_LO_MAC p)) ++ beBytes 2 0x88B5 ++ pdu ++ List.replicate 30 0#8]) ∧
  (∀ s (net : Fin 2) pdu at10 (c : Fin 8), s.saf.conn.length = 8 → s.islRun = true → s.flag (F.SAF_CONN_CFG_DIR c) = false →
    (s.get (F.SAF_CONN_STAT_STATE c) = 1 ∨ s.get (F.SAF_CONN_STAT_STATE c) = 3) → (s.conn c).fresh = true → (s.conn c).copy = none →
    beAt (padTo 16 pdu) 0 2 = s.get (F.SAF_CONN_CFG_CONNID c) → beAt (padTo 16 pdu) 12 4 = s.pduChk c (padTo 16 pdu) →
    bitOf (s.connNet c) net = true → Does (.safePduReceived net pdu at10) s fun t =>
      t.get (F.SAF_CONN_PERMIT_PERMIT c) = beAt (padTo 16 pdu) 4 4 ∧ t.get (F.SAF_CONN_RXAPP_APP c) = beAt (padTo 16 pdu) 10 2 ∧
      t.get (F.SAF_CONN_STAT_SEQ c) = beAt (padTo 16 pdu) 2 2 ∧ (t.conn c).age = 0 ∧ (t.conn c).fresh = false ∧
      t.get (F.SAF_CONN_STAT_STATE c) = (if 1 ≤ (s.conn c).news then 2 else s.get (F.SAF_CONN_STAT_STATE c))) ∧
  (∀ s (net : Fin 2) pdu at10 (c : Fin 8), s.islRun = true → s.flag (F.SAF_CONN_CFG_DIR c) = false → s.get (F.SAF_CONN_STAT_STATE c) ≠ 0 →
    beAt (padTo 16 pdu) 0 2 = s.get (F.SAF_CONN_CFG_CONNID c) → beAt (padTo 16 pdu) 12 4 ≠ s.pduChk c (padTo 16 pdu) →
    Does (.safePduReceived net pdu at10) s fun t => t.get (F.SAF_CONN_CNT0_CHKERR c) = satInc 65535 (s.get (F.SAF_CONN_CNT0_CHKERR c)) ∧
      t.get (F.SAF_CONN_PERMIT_PERMIT c) = s.get (F.SAF_CONN_PERMIT_PERMIT c) ∧ t.get (F.SAF_CONN_STAT_STATE c) = s.get (F.SAF_CONN_STAT_STATE c)) ∧
  (∀ s (c : Fin 8) k, s.saf.conn.length = 8 → (s.conn c).copy = some k → k.at10 + 500 < 100 * s.saf.ticks + 99 → k.net = 0 →
    Does (.copyWindowExpiry c) s fun t => (t.conn c).copy = none ∧ t.get (F.SAF_CONN_CNT1_MISSB c) = satInc 65535 (s.get (F.SAF_CONN_CNT1_MISSB c)) ∧
      OnlyWordsEv [(F.SAF_CONN_CNT1_MISSB c).off, (F.SAF_CONN_STAT_DEGB c).off] s t) ∧
  (∀ s (c : Fin 8), s.islRun = true → s.get (F.SAF_CONN_STAT_STATE c) = 2 → max 1 (s.get (F.SAF_CONN_WDT_WDT c)) ≤ (s.conn c).age + 1 →
    Does (.connectionWatchdogExpiry c) s fun t => t.get (F.SAF_CONN_STAT_STATE c) = 3 ∧ (t.conn c).news = 0 ∧ t.pended 183 ∧
      OnlyWordsEv [(F.SAF_CONN_STAT_STATE c).off] s t) ∧
  (∀ s (mask : BitVec 8), Does (.safConnrst mask) s fun t => ∀ c < 8, t.get (F.SAF_CONN_STAT_STATE c) =
    if s.get (F.SAF_CONN_STAT_STATE c) = 4 ∧ bitOf mask.toNat c = true then 1 else s.get (F.SAF_CONN_STAT_STATE c)) ∧
  (∀ s (net : Fin 2) pdu at10 (c : Fin 8) d, s.saf.conn.length = 8 → s.islRun = true → s.flag (F.SAF_CONN_CFG_DIR c) = false →
    1 ≤ s.get (F.SAF_CONN_STAT_STATE c) → s.get (F.SAF_CONN_STAT_STATE c) ≤ 3 → (s.conn c).fresh = false → (s.conn c).copy = none →
    beAt (padTo 16 pdu) 0 2 = s.get (F.SAF_CONN_CFG_CONNID c) → beAt (padTo 16 pdu) 12 4 = s.pduChk c (padTo 16 pdu) →
    bitOf (s.connNet c) net = true → d = (beAt (padTo 16 pdu) 2 2 + 65536 - s.get (F.SAF_CONN_STAT_SEQ c)) % 65536 → 0 < d → d < 32768 →
    Does (.safePduReceived net pdu at10) s fun t => t.get (F.SAF_CONN_PERMIT_PERMIT c) = beAt (padTo 16 pdu) 4 4 ∧
      t.get (F.SAF_CONN_RXAPP_APP c) = beAt (padTo 16 pdu) 10 2 ∧ t.get (F.SAF_CONN_STAT_SEQ c) = beAt (padTo 16 pdu) 2 2 ∧ (t.conn c).age = 0 ∧
      (t.conn c).news = (s.conn c).news + 1) ∧
  (∀ s (net : Fin 2) pdu at10 (c : Fin 8) d, s.islRun = true → s.flag (F.SAF_CONN_CFG_DIR c) = false →
    1 ≤ s.get (F.SAF_CONN_STAT_STATE c) → s.get (F.SAF_CONN_STAT_STATE c) ≤ 3 → (s.conn c).fresh = false →
    beAt (padTo 16 pdu) 0 2 = s.get (F.SAF_CONN_CFG_CONNID c) → beAt (padTo 16 pdu) 12 4 = s.pduChk c (padTo 16 pdu) →
    bitOf (s.connNet c) net = true → d = (beAt (padTo 16 pdu) 2 2 + 65536 - s.get (F.SAF_CONN_STAT_SEQ c)) % 65536 → 32768 ≤ d →
    Does (.safePduReceived net pdu at10) s fun t => t.get (F.SAF_CONN_CNT0_OLD c) = satInc 65535 (s.get (F.SAF_CONN_CNT0_OLD c)) ∧
      t.get (F.SAF_CONN_PERMIT_PERMIT c) = s.get (F.SAF_CONN_PERMIT_PERMIT c) ∧ t.conn c = s.conn c) ∧
  (∀ s (c : Fin 8) k, s.saf.conn.length = 8 → (s.conn c).copy = some k → k.at10 + 500 < 100 * s.saf.ticks + 99 → k.net = 1 →
    Does (.copyWindowExpiry c) s fun t => (t.conn c).copy = none ∧ t.get (F.SAF_CONN_CNT1_MISSA c) = satInc 65535 (s.get (F.SAF_CONN_CNT1_MISSA c)) ∧
      OnlyWordsEv [(F.SAF_CONN_CNT1_MISSA c).off, (F.SAF_CONN_STAT_DEGA c).off] s t)

/-- Opening and closing the seal (R452, R453, R455 to R457, R463): the password check and its back-off, close, idle time, pending
writes, and a new password in NOPASS.
It rests on the model's own choices in logs 303 and 305. -/
def Obligations.SealOpenAndClose : Prop :=
  (∀ s (port : Fin 2), s.sealSt = 1 → s.sld.check = none → s.flag F.SEC_SEAL_STAT_BACKOFF = false → s.sld.pwOk = true → Does (.sealOpen port) s fun t =>
    t.sld.check = some (port.val, s.sld.password) ∧ t.get F.SEC_SEAL_STAT_FAILS = satInc 255 (s.get F.SEC_SEAL_STAT_FAILS) ∧
    t.sld.pw = List.replicate 16 0 ∧ t.sld.pwLen = 0 ∧ t.sealSt = 1 ∧ OnlyWords [F.SEC_SEAL_STAT_FAILS.off] s t) ∧
  (∀ s (port : Fin 2), s.sealSt = 1 → s.sld.check = none → s.flag F.SEC_SEAL_STAT_BACKOFF = true → Does (.sealOpen port) s fun t =>
    t.sld.check = none ∧ t.flag F.SEC_SEAL_ERR_BACKOFF = true ∧ t.sld.pwLen = 0 ∧ OnlyWords [F.SEC_SEAL_ERR_BACKOFF.off] s t) ∧
  (∀ s (port : Fin 2) (pw : List Byte) (k : Nat) a, s.sld.check = some (port.val, pw) → s.sld.active = some (k, a) → pwHash pw a.salt = a.hash →
    Does .passwordCheckComplete s fun t => t.sealSt = 2 ∧ t.get F.SEC_SEAL_STAT_PORT = port.val ∧ t.get F.SEC_SEAL_STAT_FAILS = 0 ∧
      t.sld.check = none ∧ t.sld.idleSince = s.now ∧ t.pended 224 ∧ OnlyWordsEv [F.SEC_SEAL_STAT_STATE.off] s t) ∧
  (∀ s (port : Fin 2) (pw : List Byte), s.sld.check = some (port.val, pw) → s.sld.active.all (fun a => pwHash pw a.2.salt != a.2.hash) = true →
    Does .passwordCheckComplete s fun t =>
    t.sealSt = s.sealSt ∧ t.flag F.SEC_SEAL_ERR_BADPW = true ∧ t.sld.check = none ∧ t.pended 228 ∧
    t.flag F.SEC_SEAL_STAT_BACKOFF = (decide (3 ≤ s.get F.SEC_SEAL_STAT_FAILS) || s.flag F.SEC_SEAL_STAT_BACKOFF) ∧
    (3 ≤ s.get F.SEC_SEAL_STAT_FAILS → t.get F.SEC_SEAL_BOTIME_S = min (2 ^ (s.get F.SEC_SEAL_STAT_FAILS - 3)) 3600) ∧
    OnlyWordsEv [F.SEC_SEAL_STAT_STATE.off, F.SEC_SEAL_ERR_BADPW.off, F.SEC_SEAL_BOTIME_S.off] s t) ∧
  (∀ s, s.flag F.SEC_SEAL_STAT_BACKOFF = true → s.sld.boEnd ≤ s.now → Does .backoffExpiry s fun t => t.flag F.SEC_SEAL_STAT_BACKOFF = false ∧
    t.get F.SEC_SEAL_BOTIME_S = 0 ∧ t.tim = s.tim ∧ OnlyWords [F.SEC_SEAL_STAT_BACKOFF.off, F.SEC_SEAL_BOTIME_S.off] s t) ∧
  (∀ s (port : Fin 2), s.sealOwner port = true → Does (.sealClose port) s fun t => t.sealSt = (if s.sld.active.isSome then 1 else 0) ∧
    t.sld.pend = [] ∧ t.sld.pendPw = none ∧ t.get F.SEC_SEAL_STAT_PEND = 0 ∧ t.pended 225 ∧ OnlyWordsEv [F.SEC_SEAL_STAT_STATE.off] s t) ∧
  (∀ s (port : Fin 2), s.sealSt < 2 → Does (.sealClose port) s fun t => t.flag F.SEC_SEAL_ERR_STATE = true ∧ t.sld = s.sld ∧
    OnlyWords [F.SEC_SEAL_ERR_STATE.off] s t) ∧
  (∀ s, s.sealSt = 2 → s.sld.idleSince + s.sealIdleMax ≤ s.now → Does .sealIdleTimeout s fun t =>
    t.sealSt = (if s.sld.active.isSome then 1 else 0) ∧ t.sld.pend = [] ∧ t.pended 225 ∧ t.tim = s.tim ∧
    OnlyWordsEv [F.SEC_SEAL_STAT_STATE.off] s t) ∧
  (∀ s (port : Fin 2) (off : BitVec 26) (v : Word), s.sealOwner port = true → safMask off.toNat ≠ 0 → Does (.rwsWrite port off v) s fun t =>
    find1 t.sld.pend off.toNat = (if rwsBits off.toNat v.toNat = s.sld.eff off.toNat then none else some (rwsBits off.toNat v.toNat)) ∧
    t.get F.SEC_SEAL_STAT_PEND = t.sld.pend.length % 2048 ∧ t.sld.idleSince = s.now ∧ OnlyWords [F.SEC_SEAL_STAT_PEND.off] s t) ∧
  (∀ s (port : Fin 2) (off : BitVec 26) (v : Word), s.sealOwner port = false → safMask off.toNat ≠ 0 → s.flag F.GLB_ACCERR_SEALED = false →
    Does (.rwsWrite port off v) s fun t => t.flag F.GLB_ACCERR_SEALED = true ∧ t.sld = s.sld ∧ t.pended 0 ∧
      OnlyWordsEv [F.GLB_ACCERR_SEALED.off, F.GLB_ACCADDR_OFFSET.off] s t) ∧
  (∀ s (port : Fin 2), s.sealOwner port = true → s.sld.check = none → Does (.sealDiscard port) s fun t => t.sld.pend = [] ∧
    t.get F.SEC_SEAL_STAT_PEND = 0 ∧ t.sealSt = 2 ∧ OnlyWords [F.SEC_SEAL_STAT_PEND.off] s t) ∧
  (∀ s (port : Fin 2), s.sealSt = 0 → s.sld.check = none → s.sld.pwOk = true → Does (.sealSetpw port) s fun t =>
    t.sld.pendPw = some (s.newSalt, pwHash s.sld.password s.newSalt) ∧ t.flag F.SEC_SEAL_STAT_PENDPW = true ∧ t.sealSt = 2 ∧
    t.get F.SEC_SEAL_STAT_PORT = port.val ∧ t.sld.pwLen = 0 ∧ t.pended 224 ∧ OnlyWordsEv [F.SEC_SEAL_STAT_STATE.off] s t) ∧
  (∀ s, s.sld.check = none → Does .passwordCheckComplete s fun t => t = s) ∧
  (∀ s (port : Fin 2), s.sealSt = 1 → s.sld.check = none → s.flag F.SEC_SEAL_STAT_BACKOFF = false → s.sld.pwOk = false → Does (.sealOpen port) s fun t =>
    t.flag F.SEC_SEAL_ERR_PWLEN = true ∧ t.sld.check = none ∧ t.sld.pwLen = 0 ∧ OnlyWords [F.SEC_SEAL_ERR_PWLEN.off] s t) ∧
  (∀ s (port : Fin 2), s.sealSt = 0 ∨ s.sealSt = 2 → s.sld.check = none → Does (.sealOpen port) s fun t =>
    t.flag F.SEC_SEAL_ERR_STATE = true ∧ t.sld.check = none ∧ t.sld.pwLen = 0 ∧ t.sealSt = s.sealSt ∧ OnlyWords [F.SEC_SEAL_ERR_STATE.off] s t) ∧
  (∀ s (port : Fin 2), s.sealBusy = true → Does (.sealOpen port) s fun t => t.flag F.SEC_SEAL_ERR_BUSY = true ∧ t.sld.check = s.sld.check ∧
    t.sld.pw = s.sld.pw ∧ OnlyWords [F.SEC_SEAL_ERR_BUSY.off] s t) ∧
  (∀ s, s.flag F.SEC_SEAL_STAT_BACKOFF = true → s.reaches s.sld.boEnd → Does .backoffExpiry s fun t => t.flag F.SEC_SEAL_STAT_BACKOFF = false ∧
    t.get F.SEC_SEAL_BOTIME_S = 0 ∧ t.sld = s.sld ∧ s.sld.boEnd ≤ t.now ∧ OnlyWords [F.SEC_SEAL_STAT_BACKOFF.off, F.SEC_SEAL_BOTIME_S.off] s t) ∧
  (∀ s, s.sealSt = 2 → s.reaches (s.sld.idleSince + s.sealIdleMax) → Does .sealIdleTimeout s fun t =>
    t.sealSt = (if s.sld.active.isSome then 1 else 0) ∧ t.sld.pend = [] ∧ t.sld.pendPw = none ∧ t.get F.SEC_SEAL_STAT_PEND = 0 ∧ t.pended 225 ∧
    s.sld.idleSince + s.sealIdleMax ≤ t.now ∧ OnlyWordsEv [F.SEC_SEAL_STAT_STATE.off] s t) ∧
  (∀ s (port : Fin 2), s.sealSt = 3 → s.get F.SEC_SEAL_STAT_PORT = port.val → Does (.sealClose port) s fun t =>
    t.sld.job = s.sld.job.map (fun j => { j with close := true }) ∧ t.sealSt = 3 ∧ OnlyWords [] s t) ∧
  (∀ s (port : Fin 2) (off : BitVec 26) (v : Word), safMask off.toNat = 0 → Does (.rwsWrite port off v) s fun t => t = s) ∧
  (∀ s (port : Fin 2) (off : BitVec 26) (v : Word), s.sealOwner port = false → safMask off.toNat ≠ 0 →
    Does (.rwsWrite port off v) s fun t => t.flag F.GLB_ACCERR_SEALED = true ∧ t.sld = s.sld ∧
      OnlyWordsEv [F.GLB_ACCERR_SEALED.off, F.GLB_ACCADDR_OFFSET.off] s t) ∧
  (∀ s j, s.sealSt = 3 → s.sld.job = some j → s.reaches (s.sld.idleSince + s.sealIdleMax) → Does .sealIdleTimeout s fun t =>
    t.sealSt = 3 ∧ t.sld.job = some { j with close := true } ∧ OnlyWords [] s t) ∧
  (∀ s (port : Fin 2), s.sealOwner port = true → s.sld.check = none → s.sld.pwOk = true → Does (.sealSetpw port) s fun t =>
    t.sld.pendPw = some (s.newSalt, pwHash s.sld.password s.newSalt) ∧ t.flag F.SEC_SEAL_STAT_PENDPW = true ∧ t.sealSt = 2 ∧ t.sld.pwLen = 0 ∧
    t.sld.idleSince = s.now ∧ t.sld.pend = s.sld.pend ∧ OnlyWords [F.SEC_SEAL_STAT_PENDPW.off] s t)

/-- Commit, change log and the log window (R459 to R465).
It rests on the model's own choices in logs 301 and 304. -/
def Obligations.SealCommitAndLog : Prop :=
  (∀ s (port : Fin 2), s.sealOwner port = true → s.sld.check = none → s.commitEntries s.commitSlot ≠ [] →
    s.sld.log.length + (s.commitEntries s.commitSlot).length ≤ 2048 → s.commitSlot.counter < 2 ^ 32 → Does (.sealCommit port) s fun t =>
      t.sealSt = 3 ∧ t.sld.job = some ⟨s.commitSlot, s.sld.log.length, false⟩ ∧
      t.sld.log.length = s.sld.log.length + (s.commitEntries s.commitSlot).length ∧ t.get F.SEC_SEAL_LOG_COUNT = t.sld.log.length ∧
      t.sld.pend = s.sld.pend) ∧
  (∀ s (port : Fin 2), s.sealOwner port = true → s.sld.check = none → s.commitEntries s.commitSlot = [] → Does (.sealCommit port) s fun t =>
    t.flag F.SEC_SEAL_ERR_NOCHANGE = true ∧ t.sealSt = 2 ∧ t.sld.job = s.sld.job ∧ OnlyWords [F.SEC_SEAL_ERR_NOCHANGE.off] s t) ∧
  (∀ s j, s.sld.job = some j → s.sld.slots = [none, none] → j.close = false → Does (.commitComplete true) s fun t => t.sealSt = 2 ∧
    t.sld.job = none ∧ t.sld.slots = [some j.slot, none] ∧ t.sld.pend = [] ∧ t.sld.pendPw = none ∧ t.flag F.SEC_SEAL_STAT_PENDPW = false ∧
    t.get F.SEC_SEAL_STAT_PEND = 0 ∧ t.get F.SEC_SEAL_CSEQ_CSEQ = j.slot.cseq % 2 ^ 32 ∧ t.get F.SEC_SEAL_CNT_COUNT = j.slot.counter % 2 ^ 32 ∧
    t.pended 226) ∧
  (∀ s j, s.sld.job = some j → j.close = false → Does (.commitComplete false) s fun t => t.sealSt = 2 ∧ t.sld.job = none ∧ t.sld.slots = s.sld.slots ∧
    t.sld.log = s.sld.log.take j.before ∧ t.flag F.SEC_SEAL_ERR_VERIFY = true ∧ t.sld.pend = s.sld.pend ∧ t.pended 227) ∧
  (∀ s (port : Fin 2), s.sealOwner port = true → s.sld.check = none → s.get F.SEC_SEAL_LOG_EXPORTED = s.sld.log.length → Does (.sealRoll port) s fun t =>
    t.sld.log.length = 1 ∧ t.get F.SEC_SEAL_LOG_COUNT = 1 ∧ t.get F.SEC_SEAL_LOG_EXPORTED = 0 ∧ t.sealSt = 2 ∧ t.pended 230) ∧
  (∀ s (port : Fin 2), s.sealOwner port = true → s.sld.check = none → s.get F.SEC_SEAL_LOG_EXPORTED ≠ s.sld.log.length → Does (.sealRoll port) s fun t =>
    t.flag F.SEC_SEAL_ERR_NOTEXP = true ∧ t.sld.log = s.sld.log ∧ OnlyWords [F.SEC_SEAL_ERR_NOTEXP.off] s t) ∧
  (∀ s (port : Fin 2), Does (.secSealLogwinRead port 0) s fun t => t.hostData = s.logWord 0 ∧ t.regs = s.regs ∧
    ∀ k < 23, find1 t.shadow (0x1000184 + 4 * k) = some (s.logWord (k + 1))) ∧
  (∀ s (port : Fin 2) (v : Nat), find1 s.shadow 0x10001DC = some v → s.get F.SEC_SEAL_LOGIDX_IDX = s.get F.SEC_SEAL_LOG_EXPORTED →
    s.get F.SEC_SEAL_LOG_EXPORTED < s.sld.log.length → Does (.secSealLogwinRead port 23) s fun t => t.hostData = v ∧
      t.get F.SEC_SEAL_LOG_EXPORTED = s.get F.SEC_SEAL_LOG_EXPORTED + 1 ∧ OnlyWords [F.SEC_SEAL_LOG_EXPORTED.off] s t) ∧
  (∀ s j k a, s.sld.job = some j → s.sld.active = some (k, a) → s.sld.slots.length = 2 → laterSeq j.slot.cseq a.cseq = true → j.close = false →
    Does (.commitComplete true) s fun t => t.sealSt = 2 ∧ t.sld.job = none ∧ t.sld.slots = setNth s.sld.slots (1 - k) (some j.slot) ∧
      t.sld.active = some (1 - k, j.slot) ∧ t.sld.pend = [] ∧ t.sld.pendPw = none ∧ t.flag F.SEC_SEAL_STAT_PENDPW = false ∧
      t.get F.SEC_SEAL_STAT_PEND = 0 ∧ t.get F.SEC_SEAL_CSEQ_CSEQ = j.slot.cseq % 2 ^ 32 ∧ t.get F.SEC_SEAL_CNT_COUNT = j.slot.counter % 2 ^ 32 ∧
      t.get F.SEC_SEAL_STAT_ASLOT = 1 - k ∧ t.pended 226) ∧
  (∀ s j k a, s.sld.job = some j → s.sld.active = some (k, a) → s.sld.slots.length = 2 → laterSeq j.slot.cseq a.cseq = true → j.close = true →
    Does (.commitComplete true) s fun t => t.sealSt = 1 ∧ t.sld.job = none ∧ t.sld.active = some (1 - k, j.slot) ∧ t.sld.pend = [] ∧
      t.sld.pwLen = 0 ∧ t.pended 226 ∧ t.pended 225) ∧
  (∀ s (port : Fin 2), s.sealOwner port = true → s.sld.check = none → s.commitEntries s.commitSlot ≠ [] →
    2048 < s.sld.log.length + (s.commitEntries s.commitSlot).length → Does (.sealCommit port) s fun t => t.flag F.SEC_SEAL_ERR_LOGFULL = true ∧
      t.sealSt = 2 ∧ t.sld.job = s.sld.job ∧ t.sld.log = s.sld.log ∧ OnlyWords [F.SEC_SEAL_ERR_LOGFULL.off] s t) ∧
  (∀ s (port : Fin 2) (k : Fin 24), k.val ≠ 0 → Does (.secSealLogwinRead port k) s fun t =>
    t.hostData = (find1 s.shadow (0x1000180 + 4 * k)).getD (s.logWord k) ∧ t.shadow = s.shadow ∧ t.sld = s.sld ∧
    t.get F.SEC_SEAL_LOG_EXPORTED = (if k.val = 23 ∧ s.get F.SEC_SEAL_LOGIDX_IDX = s.get F.SEC_SEAL_LOG_EXPORTED ∧
      s.get F.SEC_SEAL_LOG_EXPORTED < s.sld.log.length then s.get F.SEC_SEAL_LOG_EXPORTED + 1 else s.get F.SEC_SEAL_LOG_EXPORTED) ∧
    OnlyWords [F.SEC_SEAL_LOG_EXPORTED.off] s t)

/-- The recorder (R503, R505, R507, R509, R511 to R515, R521, R524, R525): snapshots form records, a write is verified or its slot is marked bad,
and the commands and states.
It rests on the model's own choices in logs 321 and 324. -/
def Obligations.Recorder : Prop :=
  (∀ s g, s.rcd.trigs = [g] → g.ev < 256 → s.flag F.FRM_STATUS_GAP = false →
    ((s.framesOn = false ∧ s.ready = false) ∨ (s.framesOn = true ∧ 240000 ≤ s.now % 250000 ∧ g.due = true)) → s.recBuf < 64 → s.recSt ≠ 0 →
    Does .recorderSnapshot s fun t => t.rcd.trigs = [] ∧ t.rcd.burst = s.rcd.burst ++
      [⟨some (s.get F.REC_SEQ_SEQ), g.ev, g.prof, 4 * b2n g.late + s.recFlags, s.roleByte, g.sec, g.ns, s.rcd.lostSince, s.snapLag g,
        s.get F.SEC_BOOTCNT_COUNT, s.snapWords g.prof⟩] ∧ t.rcd.lostSince = 0 ∧ t.get F.REC_SEQ_SEQ = (s.get F.REC_SEQ_SEQ + 1) % 2 ^ 32 ∧
      OnlyWords [F.REC_SEQ_SEQ.off, F.REC_STATUS_BUF.off] s t) ∧
  (∀ s g, s.rcd.trigs = [g] → g.ev < 256 → s.flag F.FRM_STATUS_GAP = false → s.framesOn = false → s.ready = false → 64 ≤ s.recBuf →
    Does .recorderSnapshot s fun t => t.rcd.burst = s.rcd.burst ∧ t.flag F.REC_ERR_OVF = true ∧
      t.get F.REC_LOST_COUNT = satInc 4294967295 (s.get F.REC_LOST_COUNT) ∧ t.rcd.lostSince = satInc 65535 s.rcd.lostSince) ∧
  (∀ s r rest q k, s.recSt = 1 → s.rcd.burst = r :: rest → r.seq = some q → s.recNext = some k → Does (.recordWrite none) s fun t =>
    t.rcd.burst = rest ∧ find1 t.rcd.slots k = some (s.recBytes r k) ∧ t.rcd.lastSlot = some k ∧ t.rcd.rate = s.rcd.rate + 1 ∧
    t.get F.REC_HEAD_SLOT = k ∧ t.get F.REC_BAD_CONSEC = 0 ∧ t.recSt = 1 ∧
    OnlyWordsEv [F.REC_HEAD_SLOT.off, F.REC_BAD_CONSEC.off, F.REC_PERMUSED_SLOTS.off, F.REC_STATUS_STATE.off] s t) ∧
  (∀ s r rest q k x, s.recSt = 1 → s.rcd.burst = r :: rest → r.seq = some q → s.recNext = some k → padTo 256 x ≠ s.recBytes r k →
    s.get F.REC_BAD_CONSEC < 7 → s.frm.onceMajor.contains 212 = false → Does (.recordWrite (some x)) s fun t =>
      t.rcd.burst = r :: rest ∧ t.slotBad k = true ∧ t.get F.REC_BAD_CONSEC = s.get F.REC_BAD_CONSEC + 1 ∧
      t.get F.REC_BAD_COUNT = satInc 262143 (s.get F.REC_BAD_COUNT) ∧ t.recSt = 1 ∧ t.pended 212) ∧
  (∀ s, s.recSt ≠ 2 → Does .mramControllerFault s fun t => t.recSt = 2 ∧ t.get F.REC_STATUS_CAUSE = 2 ∧ t.pended 209) ∧
  (∀ s, s.recSt = 2 → Does .mramControllerFault s fun t => t = s) ∧
  (∀ s, Does .recMark s fun t => t.pended 215 ∧ OnlyWordsEv [] s t) ∧
  (∀ s, s.recSt = 2 → Does (.recRecover true) s fun t => t.recSt = 1 ∧ t.get F.REC_BAD_CONSEC = 0 ∧ t.pended 216) ∧
  (∀ s ok, (s.recSt ≠ 2 ∨ ok = false) → Does (.recRecover ok) s fun t => t.flag F.REC_ERR_REFUSED = true ∧ t.rcd = s.rcd ∧
    OnlyWords [F.REC_ERR_REFUSED.off] s t) ∧
  (∀ s (port : Fin 2), s.recSt = 1 → s.sealOwner port = true → Does (.recClear port) s fun t => t.recSt = 3 ∧ OnlyWords [F.REC_STATUS_STATE.off] s t) ∧
  (∀ s (port : Fin 2), s.sealOwner port = false → Does (.recClear port) s fun t => t.flag F.REC_ERR_REFUSED = true ∧ t.recSt = s.recSt ∧
    OnlyWords [F.REC_ERR_REFUSED.off] s t) ∧
  (∀ s, s.recSt = 3 → Does .recorderClearComplete s fun t => t.recSt = 1 ∧ t.flag F.REC_STATUS_PERMFULL = false ∧ t.flag F.REC_STATUS_WRAPPED = false ∧
    t.get F.REC_PERMUSED_SLOTS = 0 ∧ t.get F.REC_PERMEFF_N = s.recPerm ∧ t.rcd.slots = s.rcd.slots.filter (fun p => s.slotBad p.1) ∧ t.pended 217 ∧
    OnlyWordsEv [F.REC_STATUS_STATE.off, F.REC_PERMUSED_SLOTS.off, F.REC_PERMEFF_N.off, F.REC_HEAD_SLOT.off] s t) ∧
  (∀ s, s.recSt = 0 → Does (.recorderInit true) s fun t => t.recSt = 1 ∧ t.flag F.REC_STATUS_READY = true ∧ t.bit F.PWR_READY_READY 2 = true ∧ t.pended 208) ∧
  (∀ s, s.recSt = 0 → Does (.recorderInit false) s fun t => t.recSt = 2 ∧ t.flag F.REC_STATUS_READY = s.flag F.REC_STATUS_READY ∧ t.pended 209) ∧
  (∀ s g, s.rcd.trigs = [g] → g.ev < 256 → s.flag F.FRM_STATUS_GAP = false → s.framesOn = false → s.reaches (g.at + 10000) → s.recBuf < 64 →
    s.recSt ≠ 0 → Does .recorderSnapshot s fun t => t.rcd.trigs = [] ∧ g.at + 10000 ≤ t.now ∧
      (t.rcd.burst.drop s.rcd.burst.length).map (fun x => (x.seq, x.src, x.prof, x.sec, x.ns)) = [(some (s.get F.REC_SEQ_SEQ), g.ev, g.prof, g.sec, g.ns)] ∧
      t.get F.REC_SEQ_SEQ = (s.get F.REC_SEQ_SEQ + 1) % 2 ^ 32 ∧ OnlyWords [F.REC_SEQ_SEQ.off, F.REC_STATUS_BUF.off] s t) ∧
  (∀ s g, s.rcd.trigs = [g] → g.ev < 256 → s.flag F.FRM_STATUS_GAP = false → s.framesOn = false → s.ready = false → s.recBuf < 64 → s.recSt = 0 →
    Does .recorderSnapshot s fun t => t.rcd.trigs = [] ∧
      (t.rcd.burst.drop s.rcd.burst.length).map (fun x => (x.seq, x.src, x.prof, x.sec, x.ns)) = [(none, g.ev, g.prof, g.sec, g.ns)] ∧
      OnlyWords [F.REC_STATUS_BUF.off] s t) ∧
  (∀ s, s.rcd.trigs = [] → Does .recorderSnapshot s fun t => t = s) ∧
  (∀ s x, s.recSt ≠ 1 ∨ s.rcd.burst = [] → Does (.recordWrite x) s fun t => t = s) ∧
  (∀ s r rest q k x, s.recSt = 1 → s.rcd.burst = r :: rest → r.seq = some q → s.recNext = some k → padTo 256 x ≠ s.recBytes r k →
    s.get F.REC_BAD_CONSEC = 7 → Does (.recordWrite (some x)) s fun t => t.recSt = 2 ∧ t.get F.REC_STATUS_CAUSE = 1 ∧ t.slotBad k = true ∧
      t.get F.REC_BAD_COUNT = satInc 262143 (s.get F.REC_BAD_COUNT) ∧ t.rcd.burst.length ≤ s.rcd.burst.length ∧ t.pended 209) ∧
  (∀ s (port : Fin 2), s.recSt ≠ 1 → Does (.recClear port) s fun t => t.flag F.REC_ERR_REFUSED = true ∧ t.rcd = s.rcd ∧
    OnlyWords [F.REC_ERR_REFUSED.off] s t) ∧
  (∀ s, s.recSt ≠ 3 → Does .recorderClearComplete s fun t => t = s) ∧
  (∀ s ok, s.recSt ≠ 0 → Does (.recorderInit ok) s fun t => t = s)

/-- Triggers that share one snapshot instant form records in ascending event number, and raisings of one event in the order in which they were
raised (R509). -/
def Obligations.RecordsInOrder : Prop :=
  ∀ s, s.flag F.FRM_STATUS_GAP = false → s.framesOn = true → 240000 ≤ s.now % 250000 ∨ s.reaches (s.now / 250000 * 250000 + 240000) →
    (∀ g ∈ s.rcd.trigs, g.due = true ∧ g.ev < 256) → s.recBuf + s.rcd.trigs.length ≤ 64 → Does .recorderSnapshot s fun t =>
      t.rcd.trigs = [] ∧
      (t.rcd.burst.drop s.rcd.burst.length).map (fun r => (r.src, r.prof, r.sec, r.ns)) =
        ((List.range 256).flatMap (fun e => s.rcd.trigs.filter (fun g => g.ev == e))).map (fun g => (g.ev, g.prof, g.sec, g.ns))

/-- Boot, measurement, attestation, secure store and tamper (R566 to R574, R582, R584).
It rests on the model's own choices in logs 380 and 386. -/
def Obligations.BootAndMeasurement : Prop :=
  (∀ s okA okB k fb, s.sec.lc ≠ 5 → s.sec.running.length = 2 → nth s.sec.running 0 none = none → s.bootSlot 0 = (some k, fb) →
    Does (.tadpoleBoot okA okB) s fun t => nth t.sec.running 0 none = some k ∧ t.get F.RED_STATUS_LANES = b2n okA + 2 * b2n okB ∧
      t.flag F.SEC_BOOT_LANEA_FAIL = (!okA) ∧ t.flag F.SEC_BOOT_LANEB_FAIL = (!okB) ∧ t.flag F.SEC_BOOT_LFALLBACK = fb ∧
      (okA || okB → t.bit F.PWR_READY_READY 7 = true) ∧ ((okA || okB) = false → t.get F.RED_STATUS_ROLE = 3)) ∧
  (∀ s okA okB fb, s.sec.lc ≠ 5 → nth s.sec.running 0 none = none → s.bootSlot 0 = (none, fb) → Does (.tadpoleBoot okA okB) s fun t =>
    t.get F.RED_STATUS_LANES = 0 ∧ t.get F.RED_STATUS_ROLE = 3 ∧ t.flag F.SEC_BOOT_LANEA_FAIL = true ∧ t.flag F.SEC_BOOT_LANEB_FAIL = true ∧
    t.sec.running = s.sec.running) ∧
  (∀ s k fb, s.sec.lc ≠ 5 → s.get F.SAF_STATUS_STATE = 0 → s.bootSlot 1 = (some k, fb) → s.sld.active = none → Does .islandBoot s fun t =>
    t.get F.SAF_STATUS_STATE = 1 ∧ t.flag F.SEC_BOOT_IFALLBACK = fb ∧ t.sec.islDigest = (s.verify 1 k).2.1) ∧
  (∀ s k fb j a, s.sec.lc ≠ 5 → s.get F.SAF_STATUS_STATE = 0 → s.bootSlot 1 = (some k, fb) → s.sld.active = some (j, a) → Does .islandBoot s fun t =>
    t.get F.SAF_STATUS_STATE = 2 ∧ t.flag F.SAF_STATUS_READY = true ∧ t.flag F.SEC_SEAL_STAT_IMGCHG = (a.meas != (s.verify 1 k).2.1) ∧ t.pended 176) ∧
  (∀ s fb, s.sec.lc ≠ 5 → s.get F.SAF_STATUS_STATE = 0 → s.bootSlot 1 = (none, fb) → Does .islandBoot s fun t =>
    t.get F.SAF_STATUS_STATE = 3 ∧ t.get F.SAF_STATUS_CAUSE = 5 ∧ t.pended 185) ∧
  (∀ s (r : Fin 8), 6 ≤ r.val → Does (.mrExtend r) s fun t => (∀ k < 12, t.get (F.SEC_MR_HASH r k) = nth (bytesWords 12 (sha384
      (wordBytes (s.words (F.SEC_MR_HASH r 0).off 12) ++ wordBytes (s.words (F.SEC_MR_EXT_DATA_DATA 0).off 12)))) k 0) ∧
    OnlyWords ((List.range 12).map (fun k => (F.SEC_MR_HASH r k).off)) s t) ∧
  (∀ s (r : Fin 8), r.val < 6 → Does (.mrExtend r) s fun t => t.flag F.SEC_ERR_MR = true ∧ OnlyWords [F.SEC_ERR_MR.off] s t) ∧
  (∀ s, s.flag F.SEC_ATT_STAT_BUSY = false → s.sec.lc ≠ 0 → s.sec.lc ≠ 5 → Does .attestationGo s fun t => t.flag F.SEC_ATT_STAT_BUSY = true ∧
    t.flag F.SEC_ATT_STAT_DONE = false ∧ t.flag F.SEC_ATT_STAT_ERR = false ∧ t.sec.report = some s.attReport ∧ OnlyWords [F.SEC_ATT_STAT_BUSY.off] s t) ∧
  (∀ s, s.flag F.SEC_ATT_STAT_BUSY = true → Does .attestationGo s fun t => t.flag F.SEC_ERR_ATTBUSY = true ∧ t.sec = s.sec ∧
    OnlyWords [F.SEC_ERR_ATTBUSY.off] s t) ∧
  (∀ s b, s.sec.report = some b → Does .attestationComplete s fun t => t.flag F.SEC_ATT_STAT_BUSY = false ∧ t.flag F.SEC_ATT_STAT_DONE = true ∧
    t.sec.report = none ∧ ∀ k < 144, t.get (F.SEC_ATT_REP_DATA k) = nth (bytesWords 144 (b ++ padTo 96 (Config.attSign b))) k 0) ∧
  (∀ s, s.ssOpen = true → Does .secureStoreWrite s fun t =>
    find1 t.sec.store (s.get F.SEC_SS_IDX_ENTRY) = some ⟨s.flag F.SEC_SS_ATTR_HOSTREAD, s.sec.stag⟩ ∧ t.regs = s.regs) ∧
  (∀ s, s.ssOpen = true → Does .secureStoreErase s fun t => find1 t.sec.store (s.get F.SEC_SS_IDX_ENTRY) = none ∧ t.regs = s.regs) ∧
  (∀ s, s.ssOpen = false → Does .secureStoreErase s fun t => t.flag F.SEC_ERR_SS = true ∧ t.sec = s.sec ∧ OnlyWords [F.SEC_ERR_SS.off] s t) ∧
  (∀ s (k : Fin 4), s.get F.PWR_STATUS_STATE < 5 → Does (.tamperTrip k) s fun t => t.sec.store = [] ∧
    bitOf (t.word F.SEC_TAMPER_MESH.off) k = true ∧ t.get F.SEC_TAMPER_WIPES = satInc 65535 (s.get F.SEC_TAMPER_WIPES) ∧ t.pended 231) ∧
  (∀ s okA okB, s.sec.lc ≠ 5 → nth s.sec.running 0 none ≠ none → Does (.tadpoleBoot okA okB) s fun t => t.sec.running = s.sec.running ∧
    t.sec.boot = s.sec.boot ∧ t.get F.RED_STATUS_LANES = s.get F.RED_STATUS_LANES ∧ t.get F.SEC_BOOT_LSLOT = s.get F.SEC_BOOT_LSLOT) ∧
  (∀ s, s.get F.SAF_STATUS_STATE ≠ 0 → Does .islandBoot s fun t => t.get F.SAF_STATUS_STATE = s.get F.SAF_STATUS_STATE ∧ t.sec.boot = s.sec.boot ∧
    t.saf = s.saf) ∧
  (∀ s, s.flag F.SEC_ATT_STAT_BUSY = false → s.sec.lc = 0 ∨ s.sec.lc = 5 → Does .attestationGo s fun t => t.flag F.SEC_ATT_STAT_DONE = true ∧
    t.flag F.SEC_ATT_STAT_ERR = true ∧ t.flag F.SEC_ATT_STAT_BUSY = false ∧ t.sec = s.sec ∧ OnlyWords [F.SEC_ATT_STAT_BUSY.off] s t) ∧
  (∀ s, s.sec.report = none → Does .attestationComplete s fun t => t = s) ∧
  (∀ s, s.ssOpen = false → Does .secureStoreWrite s fun t => t.flag F.SEC_ERR_SS = true ∧ t.sec = s.sec ∧ OnlyWords [F.SEC_ERR_SS.off] s t) ∧
  (∀ s (k : Fin 4), 5 ≤ s.get F.PWR_STATUS_STATE → Does (.tamperTrip k) s fun t => t = s)

/-- Firmware update and life cycle (R575 to R580).
It rests on the model's own choices in logs 382 and 386. -/
def Obligations.FirmwareAndLifeCycle : Prop :=
  (∀ s (port : Fin 2) isl (page : Fin 64), s.sec.fwOwned = false → s.get F.SEC_FW_STAT_STATE = 0 → (isl = true → page.val ≤ 15) →
    Does (.fwCtrlWrite port isl page) s fun t => t.get F.SEC_FW_STAT_STATE = 1 ∧ t.get F.SEC_FW_STAT_OWNER = port.val ∧
      t.get F.SEC_FW_CTRL_TYPE = b2n isl ∧ t.get F.SEC_FW_CTRL_PAGE = page.val ∧ t.get F.SEC_FW_STAT_RESULT = 0 ∧ t.sec.fwOwned = true ∧
      OnlyWords [F.SEC_FW_STAT_STATE.off, F.SEC_FW_CTRL_TYPE.off] s t) ∧
  (∀ s (port : Fin 2) isl (page : Fin 64), s.sec.fwOwned = true → s.get F.SEC_FW_STAT_OWNER ≠ port.val → Does (.fwCtrlWrite port isl page) s fun t =>
    t.flag F.SEC_ERR_OWNER = true ∧ t.sec = s.sec ∧ OnlyWords [F.SEC_ERR_OWNER.off] s t) ∧
  (∀ s (port : Fin 2) (w : Fin 16384) (v : Word) l, s.fwMine port = true → s.get F.SEC_FW_STAT_STATE = 1 → s.sec.images.length = 4 →
    s.image s.fwKind (s.fwSlot s.fwKind) = .words l → v ≠ 0#32 → Does (.fwWindowWrite port w v) s fun t =>
      t.image s.fwKind (s.fwSlot s.fwKind) = .words (putKey (16384 * s.get F.SEC_FW_CTRL_PAGE + w) v.toNat l) ∧ t.regs = s.regs) ∧
  (∀ s (port : Fin 2), s.fwMine port = true → s.get F.SEC_FW_STAT_STATE = 1 → Does (.fwCheck port) s fun t => t.get F.SEC_FW_STAT_STATE = 2 ∧
    OnlyWords [F.SEC_FW_STAT_STATE.off] s t) ∧
  (∀ s, s.get F.SEC_FW_STAT_STATE = 2 → Does .fwCheckComplete s fun t =>
    t.get F.SEC_FW_STAT_STATE = (if (s.verify s.fwKind (s.fwSlot s.fwKind)).1 = 0 then 3 else 4) ∧
    t.get F.SEC_FW_STAT_RESULT = (s.verify s.fwKind (s.fwSlot s.fwKind)).1 ∧ OnlyWords [F.SEC_FW_STAT_STATE.off] s t) ∧
  (∀ s (port : Fin 2), s.fwMine port = true → s.get F.SEC_FW_STAT_STATE = 3 → s.fwSeal port = true → s.sec.boot.length = 2 →
    Does (.fwActivate port) s fun t => t.get F.SEC_FW_STAT_STATE = 5 ∧ t.bootRec s.fwKind = ⟨1 - s.fwSlot s.fwKind, true, false⟩ ∧
      OnlyWords [F.SEC_FW_STAT_STATE.off] s t) ∧
  (∀ s (port : Fin 2), s.fwMine port = true → s.sec.boot.length = 2 → s.sec.svnMin.length = 2 → s.bootRec s.fwKind = ⟨(s.bootRec s.fwKind).active, true, true⟩ →
    nth s.sec.running s.fwKind none = some (1 - (s.bootRec s.fwKind).active) → s.fwSeal port = true → 0 < nth s.sec.raises s.fwKind 0 →
    Does (.fwConfirm port) s fun t => t.bootRec s.fwKind = ⟨1 - (s.bootRec s.fwKind).active, false, false⟩ ∧
      t.flag (if s.fwKind = 0 then F.SEC_BOOT_LTRIAL else F.SEC_BOOT_ITRIAL) = false ∧
      t.svnMin s.fwKind = max (s.svnMin s.fwKind) (s.get (if s.fwKind = 0 then F.SEC_SVN_LCUR else F.SEC_SVN_ICUR)) ∧
      OnlyWords [F.SEC_BOOT_LTRIAL.off, F.SEC_SVN_LMIN.off] s t) ∧
  (∀ s (port : Fin 2), s.fwMine port = true → s.sec.boot.length = 2 → s.bootRec s.fwKind = ⟨(s.bootRec s.fwKind).active, true, true⟩ →
    nth s.sec.running s.fwKind none = some (1 - (s.bootRec s.fwKind).active) → s.fwSeal port = true → nth s.sec.raises s.fwKind 0 = 0 →
    Does (.fwConfirm port) s fun t => t.bootRec s.fwKind = ⟨1 - (s.bootRec s.fwKind).active, false, false⟩ ∧ t.sec.svnMin = s.sec.svnMin ∧
      t.flag (if s.fwKind = 0 then F.SEC_BOOT_LTRIAL else F.SEC_BOOT_ITRIAL) = false ∧ OnlyWords [F.SEC_BOOT_LTRIAL.off] s t) ∧
  (∀ s (port : Fin 2), s.fwMine port = true → Does (.fwAbort port) s fun t => t.get F.SEC_FW_STAT_STATE = 0 ∧ t.get F.SEC_FW_STAT_RESULT = 0 ∧
    t.sec.fwOwned = false ∧ OnlyWords [F.SEC_FW_STAT_STATE.off] s t) ∧
  (∀ s (port : Fin 2) (g : Fin 8), s.get F.SEC_LC_PENDING = 7 → s.sec.lcJob = none → lcAllowed s.sec.lc g = true → 2 < s.sec.steps → g ≠ 4 →
    (s.sec.lc = 2 → g = 3 → s.sealSt = 1 ∧ s.sld.active.isSome = true ∧ s.flag F.SEC_SEAL_STAT_IMGCHG = false ∧ (s.bootRec 0).trial = false ∧
      (s.bootRec 1).trial = false ∧ s.dualLane = true) →
    (s.sec.lc = 3 → g = 2 → s.sealOwner port = true) → (g = 5 → s.sld.active.isSome = true → s.sealOwner port = true) →
    Does (.lifecycleCommand port g) s fun t => t.sec.lcJob = some g.val ∧ t.regs = s.regs ∧ t.freeCtr = s.freeCtr) ∧
  (∀ s (port : Fin 2) (g : Fin 8), s.get F.SEC_LC_PENDING = 7 → s.sec.lcJob = none → lcAllowed s.sec.lc g = false → Does (.lifecycleCommand port g) s fun t =>
    t.flag F.SEC_LC_ERR_REFUSED = true ∧ t.get F.SEC_LC_ERR_REASON = 1 ∧ t.sec.lcJob = none ∧ OnlyWords [F.SEC_LC_ERR_REFUSED.off] s t) ∧
  (∀ s (j : Nat), s.sec.lcJob = some j → Does .lifecycleCommandComplete s fun t => t.sec.lcJob = none ∧ t.sec.lcNext = some j ∧
    t.sec.steps = s.sec.steps - 1 ∧ t.sec.store = [] ∧ t.get F.SEC_LC_PENDING = j % 8 ∧ (j = 4 ∨ j = 5 → t.sld.slots = [none, none] ∧ t.sld.log = [])) ∧
  (∀ s (port : Fin 2) (w : Fin 16384) (v : Word) l, s.fwMine port = true → s.get F.SEC_FW_STAT_STATE = 1 → s.sec.images.length = 4 →
    s.image s.fwKind (s.fwSlot s.fwKind) = .words l → v = 0#32 → Does (.fwWindowWrite port w v) s fun t =>
      t.image s.fwKind (s.fwSlot s.fwKind) = .words (eraseKey (16384 * s.get F.SEC_FW_CTRL_PAGE + w) l) ∧ t.regs = s.regs) ∧
  (∀ s (port : Fin 2) (w : Fin 16384) (v : Word), s.fwMine port = true → s.get F.SEC_FW_STAT_STATE = 1 → s.sec.images.length = 4 →
    s.image s.fwKind (s.fwSlot s.fwKind) = .factory → Does (.fwWindowWrite port w v) s fun t =>
      t.image s.fwKind (s.fwSlot s.fwKind) = .patched [(16384 * s.get F.SEC_FW_CTRL_PAGE + w, v.toNat)] ∧ t.regs = s.regs) ∧
  (∀ s (port : Fin 2) (w : Fin 16384) (v : Word) l, s.fwMine port = true → s.get F.SEC_FW_STAT_STATE = 1 → s.sec.images.length = 4 →
    s.image s.fwKind (s.fwSlot s.fwKind) = .patched l → Does (.fwWindowWrite port w v) s fun t =>
      t.image s.fwKind (s.fwSlot s.fwKind) = .patched (putKey (16384 * s.get F.SEC_FW_CTRL_PAGE + w) v.toNat l) ∧ t.regs = s.regs) ∧
  (∀ s (port : Fin 2) (w : Fin 16384) (v : Word), s.fwMine port = false → Does (.fwWindowWrite port w v) s fun t => t.flag F.SEC_ERR_OWNER = true ∧
    t.sec = s.sec ∧ OnlyWords [F.SEC_ERR_OWNER.off] s t) ∧
  (∀ s, s.get F.SEC_FW_STAT_STATE ≠ 2 → Does .fwCheckComplete s fun t => t = s) ∧
  (∀ s (port : Fin 2), s.fwMine port = true → s.get F.SEC_FW_STAT_STATE ≠ 3 ∨ s.fwSeal port = false → Does (.fwActivate port) s fun t =>
    t.flag F.SEC_ERR_FWSTATE = true ∧ t.sec = s.sec ∧ OnlyWords [F.SEC_ERR_FWSTATE.off] s t) ∧
  (∀ s (port : Fin 2), s.fwMine port = false → Does (.fwAbort port) s fun t => t.flag F.SEC_ERR_OWNER = true ∧ t.sec = s.sec ∧
    OnlyWords [F.SEC_ERR_OWNER.off] s t) ∧
  (∀ s (port : Fin 2) (g : Fin 8), s.get F.SEC_LC_PENDING = 7 → s.sec.lcJob = none → g = 4 → s.sec.lc = 1 ∨ s.sec.lc = 2 ∨ s.sec.lc = 3 → 0 < s.sec.steps →
    Does (.lifecycleCommand port g) s fun t => t.sec.chal = s.freeCtr ∧ t.freeCtr = s.freeCtr + 1 ∧
      t.sec.lcJob = (if Config.tokenOk (s.words (F.SEC_SERIAL_SERIAL 0).off 4) s.challenge s.sec.token then some 4 else none)) ∧
  (∀ s (port : Fin 2) (g : Fin 8), s.get F.SEC_LC_PENDING = 7 → s.sec.lcJob = none → g = 5 → s.sec.lc ≠ 5 → 0 < s.sec.steps →
    (s.sld.active.isSome = true → s.sealOwner port = true) → Does (.lifecycleCommand port g) s fun t => t.sec.lcJob = some 5 ∧ t.regs = s.regs) ∧
  (∀ s (port : Fin 2) (g : Fin 8), s.get F.SEC_LC_PENDING ≠ 7 → Does (.lifecycleCommand port g) s fun t => t.flag F.SEC_LC_ERR_REFUSED = true ∧
    t.get F.SEC_LC_ERR_REASON = 6 ∧ t.sec.lcJob = s.sec.lcJob ∧ OnlyWords [F.SEC_LC_ERR_REFUSED.off] s t) ∧
  (∀ s, s.sec.lcJob = none → Does .lifecycleCommandComplete s fun t => t = s) ∧
  (∀ s (port : Fin 2) (w : Fin 16384) (v : Word) l, s.fwMine port = true → s.get F.SEC_FW_STAT_STATE = 4 → s.sec.images.length = 4 →
    s.image s.fwKind (s.fwSlot s.fwKind) = .words l → v ≠ 0#32 → Does (.fwWindowWrite port w v) s fun t => t.get F.SEC_FW_STAT_STATE = 1 ∧
      t.get F.SEC_FW_STAT_RESULT = 0 ∧ OnlyWords [F.SEC_FW_STAT_STATE.off] s t ∧
      t.image s.fwKind (s.fwSlot s.fwKind) = .words (putKey (16384 * s.get F.SEC_FW_CTRL_PAGE + w) v.toNat l)) ∧
  (∀ s (port : Fin 2) (w : Fin 16384) (v : Word), s.fwMine port = true → s.get F.SEC_FW_STAT_STATE = 2 ∨ s.get F.SEC_FW_STAT_STATE = 3 ∨ s.get F.SEC_FW_STAT_STATE = 5 →
    Does (.fwWindowWrite port w v) s fun t => t.flag F.SEC_ERR_FWSTATE = true ∧ t.sec = s.sec ∧ OnlyWords [F.SEC_ERR_FWSTATE.off] s t) ∧
  (∀ s (port : Fin 2), s.fwMine port = true → s.get F.SEC_FW_STAT_STATE = 4 → Does (.fwCheck port) s fun t => t.get F.SEC_FW_STAT_STATE = 2 ∧
    t.get F.SEC_FW_STAT_RESULT = 0 ∧ OnlyWords [F.SEC_FW_STAT_STATE.off] s t)

/-- Ring pairs of the host ports (R529 to R532, R536, R537, R540 to R543, R557, R561): enabling and disabling, doorbells, fetching a
descriptor and writing a completion.
It rests on the model's own choices in log 342. -/
def Obligations.HostRings : Prop :=
  (∀ s (p : Fin 2) (q : Fin 16) (cfg : Word), s.hifOk → s.flag (F.HIF_Q_CFG_EN p q) = false → s.ringBad p q (setBit cfg.toNat 0 true) = false →
    (s.get (F.HIF_Q_STAT_STATE p q) ≠ 2 ∨ (s.ring p q).queue = []) → Does (.ringEnable p q cfg) s fun t => t.flag (F.HIF_Q_CFG_EN p q) = true ∧
      t.get (F.HIF_Q_STAT_STATE p q) = 1 ∧ t.get (F.HIF_Q_STAT_SQHEAD p q) = 0 ∧ t.get (F.HIF_Q_STAT_CQTAIL p q) = 0 ∧
      t.flag (F.HIF_Q_STAT_PHASE p q) = true ∧ t.ring p q = Ring.init ∧
      OnlyWords [(F.HIF_Q_CFG_EN p q).off, (F.HIF_Q_STAT_STATE p q).off, F.HIF_STATUS_READY.off] s t) ∧
  (∀ s (p : Fin 2) (q : Fin 16) (cfg : Word), s.flag (F.HIF_Q_CFG_EN p q) = false → s.ringBad p q (setBit cfg.toNat 0 true) = true →
    Does (.ringEnable p q cfg) s fun t => t.flag F.HIF_ERR_CFG = true ∧ t.flag (F.HIF_Q_CFG_EN p q) = false ∧ t.ring p q = s.ring p q ∧
      OnlyWords [F.HIF_ERR_CFG.off, F.HIF_STATUS_READY.off] s t) ∧
  (∀ s (p : Fin 2) (q : Fin 16) (cfg : Word), s.flag (F.HIF_Q_CFG_EN p q) = true → s.cmdRing p q = true → Does (.ringDisable p q cfg) s fun t =>
    t.flag (F.HIF_Q_CFG_EN p q) = false ∧ t.get (F.HIF_Q_STAT_STATE p q) = 2 ∧ (t.ring p q).queue = (s.ring p q).queue ∧
    OnlyWords [(F.HIF_Q_CFG_EN p q).off, (F.HIF_Q_STAT_STATE p q).off, F.HIF_STATUS_READY.off] s t) ∧
  (∀ s (p : Fin 2) (q : Fin 16) (cfg : Word), s.flag (F.HIF_Q_CFG_EN p q) = true → s.cmdRing p q = false → Does (.ringDisable p q cfg) s fun t =>
    t.flag (F.HIF_Q_CFG_EN p q) = false ∧ t.get (F.HIF_Q_STAT_STATE p q) = 0 ∧ (t.ring p q).queue = []) ∧
  (∀ s (p : Fin 2) (q : Fin 16), s.get (F.HIF_Q_STAT_STATE p q) = 2 → (s.ring p q).queue = [] → Does (.ringStopped p q) s fun t =>
    t.get (F.HIF_Q_STAT_STATE p q) = 0 ∧ OnlyWords [(F.HIF_Q_STAT_STATE p q).off] s t) ∧
  (∀ s (p : Fin 2) (q : Fin 16) (v : Word), s.hifOk → s.flag F.HIF_STATUS_READY = true → s.flag (F.HIF_Q_CFG_EN p q) = true → v.toNat < s.ringSize p q →
    Does (.sqtailDoorbell p q v) s fun t => (t.ring p q).sqTail = v.toNat ∧ (t.ring p q).queue = (s.ring p q).queue ∧
      OnlyWords [F.HIF_STATUS_READY.off] s t) ∧
  (∀ s (p : Fin 2) (q : Fin 16) (v : Word), s.flag F.HIF_STATUS_READY = true → s.flag (F.HIF_Q_CFG_EN p q) = true → s.ringSize p q ≤ v.toNat →
    s.frm.onceMajor.contains 232 = false → Does (.sqtailDoorbell p q v) s fun t => t.flag F.HIF_ERR_DBELL = true ∧
      t.get (F.HIF_Q_STAT_STATE p q) = 3 ∧ t.ring p q = s.ring p q ∧ t.pended 232) ∧
  (∀ s (p : Fin 2) (q : Fin 16) (v : Word), s.hifOk → s.flag F.HIF_STATUS_READY = true → s.flag (F.HIF_Q_CFG_EN p q) = true → v.toNat < s.ringSize p q →
    v.toNat = s.get (F.HIF_Q_STAT_CQTAIL p q) → Does (.cqheadDoorbell p q v) s fun t => (t.ring p q).cqHead = v.toNat ∧ (t.ring p q).unread = 0 ∧
      (t.ring p q).irq = false ∧ (t.hp p).told = 0 ∧ t.regs = s.regs) ∧
  (∀ s (p : Fin 2), s.flag F.HIF_STATUS_READY = true → Does (.snapDoorbell p) s fun t => t.hif.snapReq = some (s.hif.snapReq.getD s.now) ∧ t.regs = s.regs) ∧
  (∀ s prio (p : Nat) (q : Nat) bs, s.hifOk → s.nextFetch = some (prio, p, q) → s.ringSize p q ≤ 4096 → Does (.descriptorFetch true bs) s fun t =>
    t.get (F.HIF_Q_STAT_SQHEAD p q) = (s.get (F.HIF_Q_STAT_SQHEAD p q) + 1) % s.ringSize p q ∧
    (t.ring p q).queue.take (s.ring p q).queue.length = (s.ring p q).queue ∧
    ((t.ring p q).queue.drop (s.ring p q).queue.length).map (fun d => (d.opc, d.raw, d.started)) =
      [(leAt bs 0 1, padTo 64 bs, !opcFits (s.cmdRing p q) (leAt bs 0 1))] ∧
    OnlyWords [(F.HIF_Q_STAT_SQHEAD p q).off, F.HIF_STATUS_READY.off] s t) ∧
  (∀ s prio (p : Nat) (q : Nat) bs, s.nextFetch = some (prio, p, q) → s.flag (F.HIF_Q_CFG_EN p q) = true → s.frm.onceMajor.contains 238 = false →
    Does (.descriptorFetch false bs) s fun t => t.get (F.HIF_Q_STAT_STATE p q) = 3 ∧ t.ring p q = s.ring p q ∧ t.pended 238) ∧
  (∀ s (p : Fin 2) (q : Fin 16) (i : Nat) d, s.hifOk → s.nextDone p q = some (i, d) → s.ringSize p q ≤ 4096 → Does (.completionWrite p q true) s fun t =>
    (t.hp p).out.head? = some (s.ringBase p q + 64 * s.ringSize p q + 16 * s.get (F.HIF_Q_STAT_CQTAIL p q),
      compBytes d p q (s.get (F.HIF_Q_STAT_PHASE p q))) ∧ (t.ring p q).queue = (s.ring p q).queue.eraseIdx i ∧
    t.get (F.HIF_Q_STAT_CQTAIL p q) = (s.get (F.HIF_Q_STAT_CQTAIL p q) + 1) % s.ringSize p q ∧
    t.flag (F.HIF_Q_STAT_PHASE p q) =
      (s.flag (F.HIF_Q_STAT_PHASE p q) != decide (s.get (F.HIF_Q_STAT_CQTAIL p q) + 1 = s.ringSize p q)) ∧
    OnlyWords [(F.HIF_Q_STAT_CQTAIL p q).off, F.HIF_STATUS_READY.off, F.HIF_LAT_LAST.off] s t) ∧
  (∀ s (p : Fin 2) (q : Fin 16) (i : Nat) d, s.hifOk → s.nextDone p q = some (i, d) → s.flag (F.HIF_Q_CFG_EN p q) = true →
    s.frm.onceMajor.contains 238 = false → Does (.completionWrite p q false) s fun t => t.get (F.HIF_Q_STAT_STATE p q) = 3 ∧
      (t.ring p q).queue = (s.ring p q).queue.eraseIdx i ∧ (t.hp p).out = (s.hp p).out ∧ t.pended 238) ∧
  (∀ s (p : Fin 2) (q : Fin 16) (cfg : Word), s.flag (F.HIF_Q_CFG_EN p q) = true → Does (.ringEnable p q cfg) s fun t =>
    t.flag (F.HIF_Q_CFG_EN p q) = true ∧ t.get (F.HIF_Q_STAT_STATE p q) = s.get (F.HIF_Q_STAT_STATE p q) ∧ t.ring p q = s.ring p q ∧
    OnlyWords [F.HIF_STATUS_READY.off] s t) ∧
  (∀ s (p : Fin 2) (q : Fin 16) (cfg : Word), s.flag (F.HIF_Q_CFG_EN p q) = false → Does (.ringDisable p q cfg) s fun t =>
    t.word (F.HIF_Q_CFG_EN p q).off = Nat.land cfg.toNat 0x31FFE ∧ t.get (F.HIF_Q_STAT_STATE p q) = s.get (F.HIF_Q_STAT_STATE p q) ∧
    t.ring p q = s.ring p q ∧ OnlyWords [(F.HIF_Q_CFG_EN p q).off, F.HIF_STATUS_READY.off] s t) ∧
  (∀ s (p : Fin 2) (q : Fin 16), s.get (F.HIF_Q_STAT_STATE p q) ≠ 2 ∨ (s.ring p q).queue ≠ [] → Does (.ringStopped p q) s fun t => t = s) ∧
  (∀ s (p : Fin 2) (q : Fin 16) (v : Word), s.hifOk → s.flag F.HIF_STATUS_READY = true → s.flag (F.HIF_Q_CFG_EN p q) = true → v.toNat < s.ringSize p q →
    v.toNat ≠ s.get (F.HIF_Q_STAT_CQTAIL p q) → (v.toNat + s.ringSize p q - (s.ring p q).cqHead) % s.ringSize p q ≤ (s.ring p q).unread →
    Does (.cqheadDoorbell p q v) s fun t => (t.ring p q).cqHead = v.toNat ∧ (t.ring p q).irq = (s.ring p q).irq ∧
      (t.ring p q).unread + (v.toNat + s.ringSize p q - (s.ring p q).cqHead) % s.ringSize p q = (s.ring p q).unread ∧ (t.hp p).told = 0 ∧ t.regs = s.regs) ∧
  (∀ s (p : Fin 2) (q : Fin 16) (v : Word), s.flag F.HIF_STATUS_READY = true → s.flag (F.HIF_Q_CFG_EN p q) = true → s.ringSize p q ≤ v.toNat →
    Does (.cqheadDoorbell p q v) s fun t => t.flag F.HIF_ERR_DBELL = true ∧ t.get (F.HIF_Q_STAT_STATE p q) = 3 ∧ t.ring p q = s.ring p q) ∧
  (∀ s ok bs, s.nextFetch = none → Does (.descriptorFetch ok bs) s fun t => t = s) ∧
  (∀ s (p : Fin 2) (q : Fin 16) ok, s.nextDone p q = none → Does (.completionWrite p q ok) s fun t => t = s)

/-- Descriptors and receive streams (R522, R534, R535, R542, R546, R547, R562): what each operation does when its descriptor is the next
to start.
It rests on the model's own choices in logs 346 and 350. -/
def Obligations.HostDescriptors : Prop :=
  (∀ s (p : Fin 2) (q : Fin 16) (i : Nat) d, s.hifOk → s.startable p q = some (i, d) → d.opc = 0 → Does (.nop p q) s fun t =>
    (t.ring p q).queue[i]? = some { d with started := true, done := some (0, 0, 0) } ∧ t.regs = s.regs) ∧
  (∀ s (p : Fin 2) (q : Fin 16) (i : Nat) d, s.startable p q = some (i, d) → d.opc = 1 → leAt d.raw 8 4 = 1 →
    s.pairRefused p (leAt d.raw 16 4, leAt d.raw 20 4) = false → bothAsked d.pairs (leAt d.raw 16 4) = 0 → Does (.regWrite p q) s fun t =>
      t = { (s.hostWrite p (leAt d.raw 16 4) 4 (leAt d.raw 20 4)).descDone p q i 0 1 0 with twin := t.twin }) ∧
  (∀ s (p : Fin 2) (q : Fin 16) (i : Nat) d, s.startable p q = some (i, d) → d.opc = 1 → 1 ≤ leAt d.raw 8 4 → leAt d.raw 8 4 ≤ 6 →
    (d.pairs.map Prod.fst).Nodup → d.pairs.all (fun x => !semWord x.1 && bothAsked d.pairs x.1 == 0) = true → Does (.regWrite p q) s fun t =>
      ∃ n, t = { (d.pairs.foldl (fun s x => s.hostWrite p x.1 4 x.2) s).descDone p q i (if n = leAt d.raw 8 4 then 0 else 3) n 0 with twin := t.twin }) ∧
  (∀ s (p : Fin 2) (q : Fin 16) (i : Nat) d, s.hifOk → s.startable p q = some (i, d) → d.opc = 2 → d.readOk = true →
    d.reads.all (fun o => !semWord o && o % 4 == 0 && (regAt o).isSome) = true → Does (.regRead p q) s fun t =>
      (t.hp p).out.head? = some (d.addr, wordBytes
        (d.reads.foldl (fun a o => (a.1.hostRead p o 4, a.2 ++ [(a.1.hostRead p o 4).hostData])) (s, [])).2) ∧
      (t.ring p q).queue[i]? = some { d with started := true, done := some (0, leAt d.raw 16 4, 0) } ∧ t.hostData = s.hostData) ∧
  (∀ s (p : Fin 2) (q : Fin 16) (i : Nat) d, s.hifOk → s.startable p q = some (i, d) → d.opc = 2 → d.readOk = true →
    d.reads.any (fun o => semWord o || o % 4 != 0 || (regAt o).isNone) = true → Does (.regRead p q) s fun t =>
      (t.ring p q).queue[i]? = some { d with started := true, done := some (3, leAt d.raw 16 4, 0) } ∧ t.hostData = s.hostData) ∧
  (∀ s (p : Fin 2) (q : Fin 16) (i : Nat) d, s.startable p q = some (i, d) → d.opc = 1 → (leAt d.raw 8 4 = 0 ∨ 6 < leAt d.raw 8 4) →
    Does (.regWrite p q) s fun t => t = { s.descDone p q i 2 0 0 with twin := t.twin }) ∧
  (∀ s (p : Fin 2) (q : Fin 16) (i : Nat) d, s.hifOk → s.startable p q = some (i, d) → d.opc = 2 → leAt d.raw 16 4 = 1 →
    semWord (leAt d.raw 24 4) = false → leAt d.raw 24 4 % 4 = 0 → (regAt (leAt d.raw 24 4)).isSome = true → Does (.regRead p q) s fun t =>
      (t.hp p).out.head? = some (d.addr, wordBytes [(s.hostRead p (leAt d.raw 24 4) 4).hostData]) ∧
      (t.ring p q).queue[i]? = some { d with started := true, done := some (0, 1, 0) } ∧ t.hostData = s.hostData) ∧
  (∀ s (p : Fin 2) (q : Fin 16) (i : Nat) d, s.hifOk → s.startable p q = some (i, d) → d.opc = 3 → leAt d.raw 16 4 = 0 → Does (.snapCopy p q) s fun t =>
    (t.hp p).out.head? = some (d.addr, s.bankBytes (s.get F.HIF_SNAP_BANK_BANK)) ∧
    ((t.ring p q).queue[i]?).map (fun x => x.done.map Prod.fst) = some (some 0) ∧ t.regs = s.regs) ∧
  (∀ s (p : Fin 2) (q : Fin 16) (i : Nat) d, s.hifOk → s.startable p q = some (i, d) → d.opc = 3 → leAt d.raw 16 4 = 1 → Does (.snapCopy p q) s fun t =>
    (t.ring p q).queue[i]? = some { d with started := true } ∧ (t.hp p).out = (s.hp p).out ∧ t.regs = s.regs) ∧
  (∀ s (p : Fin 2) (q : Fin 16) (i : Nat) d, s.hifOk → s.startable p q = some (i, d) → d.opc = 4 → leAt d.raw 16 4 < recSlots → 1 ≤ leAt d.raw 20 4 →
    leAt d.raw 20 4 ≤ 4096 → Does (.recRead p q) s fun t =>
      (t.hp p).out.head? = some (d.addr, (List.range (leAt d.raw 20 4)).flatMap (fun k => s.slotBytes ((leAt d.raw 16 4 + k) % recSlots))) ∧
      ((t.ring p q).queue[i]?).map (fun x => x.done.map (fun r => (r.1, r.2.1))) = some (some (0, leAt d.raw 20 4)) ∧ t.regs = s.regs) ∧
  (∀ s (p : Fin 2) (q : Fin 16) (i : Nat) d bs, s.startable p q = some (i, d) → d.opc = 5 → 6 ≤ leAt d.raw 16 4 → leAt d.raw 16 4 ≤ 4096 →
    Does (.rtcmSubmit p q bs) s fun t => t = (s.rtcmBuffer (leAt d.raw 16 4) (padTo (leAt d.raw 16 4) bs)).1.descDone p q i 0
      (s.rtcmBuffer (leAt d.raw 16 4) (padTo (leAt d.raw 16 4) bs)).2.1 (s.rtcmBuffer (leAt d.raw 16 4) (padTo (leAt d.raw 16 4) bs)).2.2) ∧
  (∀ s (p : Fin 2) (q : Fin 16) (i : Nat) d bs (e : Fin 4), s.hifOk → s.eth.ports.length = 4 → (s.port e).queues.length = 4 → s.startable p q = some (i, d) →
    d.opc = 6 → 60 ≤ leAt d.raw 16 4 → leAt d.raw 16 4 ≤ 1514 → leAt d.raw 20 1 ≤ 1 → s.ethActive (leAt d.raw 20 1) = some e.val →
    s.flag (F.ETH_STATUS_LINK e) = true → Does (.ethTx p q bs) s fun t =>
      nth (t.port e).queues 3 [] = nth (s.port e).queues 3 [] ++ [padTo (leAt d.raw 16 4) bs] ∧
      (t.ring p q).queue[i]? = some { d with started := true, done := some (0, leAt d.raw 16 4, e.val) } ∧ t.regs = s.regs) ∧
  (∀ s (p : Fin 2) (q : Fin 16) (i : Nat) d, s.hifOk → s.startable p q = some (i, d) → d.opc = 16 →
    streamMax (s.get (F.HIF_Q_CFG_STREAM p q)) ≤ leAt d.raw 16 4 → Does (.rxBuf p q) s fun t =>
      (t.ring p q).queue[i]? = some { d with started := true } ∧ t.regs = s.regs) ∧
  (∀ s (p : Fin 2) (q : Fin 16) (i : Nat) d, s.hifOk → s.startable p q = some (i, d) → d.opc = 16 →
    leAt d.raw 16 4 < streamMax (s.get (F.HIF_Q_CFG_STREAM p q)) → Does (.rxBuf p q) s fun t =>
      ((t.ring p q).queue[i]?).map (fun x => x.done.map (fun r => (r.1, r.2.1))) = some (some (2, 0)) ∧ t.regs = s.regs) ∧
  (∀ s (p : Fin 2) (q : Fin 16) (i : Nat) d, s.hifOk → s.cmdRing p q = true → s.startable p q = some (i, d) → d.transfers = true →
    s.frm.onceMajor.contains 233 = false → Does (.dmaError p q) s fun t => t.flag F.HIF_ERR_DMA = true ∧ t.pended 233 ∧
      ((t.ring p q).queue[i]?).map (fun x => x.done.map Prod.fst) = some (some 4)) ∧
  (∀ s x rest (p : Fin 2) (q : Fin 16) (i : Nat) d, s.hifOk → s.hif.items = x :: rest → s.flag (F.HIF_Q_CFG_EN p q) = true → s.cmdRing p q = false →
    s.get (F.HIF_Q_CFG_STREAM p q) = x.stream → s.freeBuf p q = some (i, d) → Does .rxItemDelivery s fun t => t.hif.items = rest ∧
      (t.ring p q).seq = ((s.ring p q).seq + 1) % 65536 ∧ (t.ring p q).queue[i]? = some { d with
        started := true, done := some (0, 16 + x.bytes.length, ((s.ring p q).seq + 1) % 65536) }) ∧
  (∀ s (p : Fin 2) (q : Fin 16) (i : Nat) d, s.hifOk → s.startable p q = some (i, d) → d.opc = 3 → 1 < leAt d.raw 16 4 → Does (.snapCopy p q) s fun t =>
    ((t.ring p q).queue[i]?).map (fun x => x.done.map Prod.fst) = some (some 2) ∧ (t.hp p).out = (s.hp p).out ∧ t.regs = s.regs) ∧
  (∀ s (p : Fin 2) (q : Fin 16) (i : Nat) d, s.hifOk → s.startable p q = some (i, d) → d.opc = 4 →
    recSlots ≤ leAt d.raw 16 4 ∨ leAt d.raw 20 4 = 0 ∨ 4096 < leAt d.raw 20 4 → Does (.recRead p q) s fun t =>
      (t.ring p q).queue[i]? = some { d with started := true, done := some (2, 0, 0) } ∧ (t.hp p).out = (s.hp p).out ∧ t.regs = s.regs) ∧
  (∀ s (p : Fin 2) (q : Fin 16) (i : Nat) d bs, s.hifOk → s.startable p q = some (i, d) → d.opc = 5 → leAt d.raw 16 4 < 6 ∨ 4096 < leAt d.raw 16 4 →
    Does (.rtcmSubmit p q bs) s fun t => (t.ring p q).queue[i]? = some { d with started := true, done := some (2, 0, 0) } ∧ t.gns = s.gns ∧ t.regs = s.regs) ∧
  (∀ s (p : Fin 2) (q : Fin 16) (i : Nat) d bs, s.hifOk → s.startable p q = some (i, d) → d.opc = 6 → 60 ≤ leAt d.raw 16 4 → leAt d.raw 16 4 ≤ 1514 →
    leAt d.raw 20 1 ≤ 1 → (s.ethActive (leAt d.raw 20 1)).all (fun e => !s.flag (F.ETH_STATUS_LINK e)) = true → Does (.ethTx p q bs) s fun t =>
      ((t.ring p q).queue[i]?).map (fun x => x.done.map (fun r => (r.1, r.2.1))) = some (some (5, 0)) ∧ t.eth = s.eth ∧ t.regs = s.regs) ∧
  (∀ s (p : Fin 2) (q : Fin 16) (i : Nat) d, s.hifOk → s.cmdRing p q = false → s.freeBuf p q = some (i, d) →
    s.hif.items.any (fun x => x.stream == s.get (F.HIF_Q_CFG_STREAM p q)) = true → Does (.dmaError p q) s fun t => t.flag F.HIF_ERR_DMA = true ∧
      ((t.ring p q).queue[i]?).map (fun x => x.done.map Prod.fst) = some (some 4)) ∧
  (∀ s x rest, s.hif.items = x :: rest → (∀ p < 2, ∀ q < 16, s.flag (F.HIF_Q_CFG_EN p q) = false) → Does .rxItemDelivery s fun t =>
    t.hif.items = rest ∧ t.hif.ports = s.hif.ports ∧ t.regs = s.regs) ∧
  (∀ s x rest (p : Fin 2) (q : Fin 16), s.hif.items = x :: rest → s.flag (F.HIF_Q_CFG_EN p q) = true → s.cmdRing p q = false →
    s.get (F.HIF_Q_CFG_STREAM p q) = x.stream → s.freeBuf p q = none → s.frm.onceMajor.contains 236 = false → Does .rxItemDelivery s fun t =>
      t.hif.items = rest ∧ t.pended 236 ∧ (t.ring p q).queue = (s.ring p q).queue)

/-- Links, messages and the counter snapshot of the host ports (R526, R528, R552, R555, R556, R558 to R562).
It rests on the model's own choices in log 348. -/
def Obligations.HostPorts : Prop :=
  (∀ s (p : Fin 2) wide (speed : Fin 3), s.linkUp p = false → Does (.hostLinkUp p wide speed) s fun t => t.linkUp p = true ∧
    t.flag F.HIF_STATUS_READY = true ∧ t.get (F.HIF_P_STATUS_WIDTH p) = 1 + b2n wide ∧ t.get (F.HIF_P_STATUS_SPEED p) = 1 + speed.val ∧
    t.bit F.PWR_READY_READY 3 = true ∧ t.pended 234 ∧
    OnlyWordsEv [(F.HIF_P_STATUS_LINK p).off, F.HIF_STATUS_READY.off, F.PWR_READY_READY.off] s t) ∧
  (∀ s (p : Fin 2) (kind : Fin 3), s.hifOk → s.linkUp p = true → Does (.hostLinkLoss p kind) s fun t => t.linkUp p = false ∧ t.pended 234 ∧
    (kind = 0 → t.get (F.HIF_P_STATUS_DOWNS p) = satInc 65535 (s.get (F.HIF_P_STATUS_DOWNS p))) ∧
    (∀ q < 16, t.flag (F.HIF_Q_CFG_EN p q) = false ∧ t.get (F.HIF_Q_STAT_STATE p q) = 0 ∧ (t.ring p q).queue = []) ∧
    ∀ n < 64, t.flag (F.HIF_SEM_TAKEN n) = (s.flag (F.HIF_SEM_TAKEN n) && s.get (F.HIF_SEM_OWNER n) != p.val)) ∧
  (∀ s (p : Fin 2) (v : Fin 32) (addr : BitVec 64) (dat : Word), s.hifOk → s.linkUp p = true → s.asserted p v = true → bitOf (s.hp p).told v = false →
    nth (s.hp p).sentAt v none = none → Does (.msixMessage p v addr dat false false) s fun t =>
      (t.hp p).out.head? = some (addr.toNat, leBytes 4 dat.toNat) ∧ (t.hp p).sent = (s.hp p).sent + 1 ∧ bitOf (t.hp p).told v = true ∧
      nth (t.hp p).sentAt v none = some s.now ∧ t.regs = s.regs) ∧
  (∀ s (p : Fin 2) (v : Fin 32) (addr : BitVec 64) (dat : Word), s.hifOk → s.linkUp p = true → s.asserted p v = true → bitOf (s.hp p).told v = false →
    Does (.msixMessage p v addr dat true false) s fun t => bitOf (t.hp p).pba v = true ∧ (t.hp p).sent = (s.hp p).sent ∧
      (t.hp p).out = (s.hp p).out ∧ t.regs = s.regs) ∧
  (∀ s (p : Fin 2) (v : Fin 32) (w : Nat), s.hifOk → bitOf (s.hp p).due v = true → nth (s.hp p).sentAt v none = some w → w + 1000 * s.modUs p ≤ s.now →
    s.linkUp p = true → s.asserted p v = true → s.masked p v = false → Does (.msixModerationExpiry p v) s fun t =>
      (t.hp p).sent = (s.hp p).sent + 1 ∧ nth (t.hp p).sentAt v none = some s.now ∧ bitOf (t.hp p).due v = false ∧ t.regs = s.regs ∧ t.tim = s.tim) ∧
  (∀ s, s.ready = true → s.now % 250000 < 8 → s.hif.bank = none → s.snapAsked = true → Does .counterSnapshot s fun t => t.hif.snapReq = none ∧
    t.pended 237 ∧ t.hif.bank = some ([s.snapEpoch + 1, s.lin].flatMap (fun n => [n % 2 ^ 32, n / 2 ^ 32 % 2 ^ 32]) ++
      s.counters.flatMap (fun n => [n % 2 ^ 32, n / 2 ^ 32 % 2 ^ 32]) ++ [(s.snapEpoch + 1) % 2 ^ 32, (s.snapEpoch + 1) / 2 ^ 32 % 2 ^ 32])) ∧
  (∀ s ws, s.hif.bank = some ws → ws.length = 846 → 20000 ≤ s.now % 250000 → Does .snapshotBankComplete s fun t => t.hif.bank = none ∧
    t.get F.HIF_SNAP_BANK_BANK = (s.snapEpoch + 1) % 2 ∧ t.get F.HIF_SNAP_EPOCH_LO_EPOCH = (s.snapEpoch + 1) % 2 ^ 32 ∧
    ∀ k < 846, t.get (F.HIF_SNAP_WORD ((s.snapEpoch + 1) % 2) k) = nth ws k 0 % 2 ^ 32) ∧
  (∀ s (p : Fin 2) wide (speed : Fin 3), s.linkUp p = true → Does (.hostLinkUp p wide speed) s fun t => t.linkUp p = true ∧
    t.get (F.HIF_P_STATUS_WIDTH p) = 1 + b2n wide ∧ t.get (F.HIF_P_STATUS_SPEED p) = 1 + speed.val ∧ OnlyWords [(F.HIF_P_STATUS_LINK p).off] s t) ∧
  (∀ s (p : Fin 2), s.linkUp p = false → Does (.hostLinkLoss p 0) s fun t => t = s) ∧
  (∀ s (p : Fin 2) (v : Fin 32) (addr : BitVec 64) (dat : Word) (w : Nat), s.hifOk → s.linkUp p = true → s.asserted p v = true →
    bitOf (s.hp p).told v = false → nth (s.hp p).sentAt v none = some w → w + 1000 * s.modUs p ≤ s.now →
    Does (.msixMessage p v addr dat false false) s fun t => (t.hp p).out.head? = some (addr.toNat, leBytes 4 dat.toNat) ∧
      (t.hp p).sent = (s.hp p).sent + 1 ∧ bitOf (t.hp p).told v = true ∧ nth (t.hp p).sentAt v none = some s.now ∧ t.regs = s.regs) ∧
  (∀ s (p : Fin 2) (v : Fin 32) (addr : BitVec 64) (dat : Word) (w : Nat), s.hifOk → s.linkUp p = true → s.asserted p v = true →
    bitOf (s.hp p).told v = false → nth (s.hp p).sentAt v none = some w → s.now < w + 1000 * s.modUs p →
    Does (.msixMessage p v addr dat false false) s fun t => bitOf (t.hp p).due v = true ∧ (t.hp p).sent = (s.hp p).sent ∧
      (t.hp p).out = (s.hp p).out ∧ t.regs = s.regs) ∧
  (∀ s (p : Fin 2) (v : Fin 32) (addr : BitVec 64) (dat : Word) m fm, s.hifOk → s.linkUp p = false ∨ s.asserted p v = false →
    Does (.msixMessage p v addr dat m fm) s fun t => (t.hp p).table[v.val]? = some ⟨addr.toNat, dat.toNat, m⟩ ∧ (t.hp p).fmask = fm ∧
      (t.hp p).sent = (s.hp p).sent ∧ (t.hp p).out = (s.hp p).out ∧ t.regs = s.regs) ∧
  (∀ s (p : Fin 2) (v : Fin 32) (w : Nat), s.hifOk → bitOf (s.hp p).due v = true → nth (s.hp p).sentAt v none = some w → s.reaches (w + 1000 * s.modUs p) →
    s.linkUp p = true → s.asserted p v = true → s.masked p v = false → Does (.msixModerationExpiry p v) s fun t =>
      (t.hp p).sent = (s.hp p).sent + 1 ∧ w + 1000 * s.modUs p ≤ t.now ∧ bitOf (t.hp p).due v = false ∧ t.regs = s.regs) ∧
  (∀ s, s.ready = true → s.now % 10000000 < 8 → s.hif.bank = none → s.flag F.HIF_SNAP_CTRL_AUTO = true → s.snapAsked = false →
    Does .counterSnapshot s fun t => t.hif.snapReq = s.hif.snapReq ∧ OnlyWords [(F.HIF_SNAP_WORD ((s.snapEpoch + 1) % 2) 0).off, (F.HIF_SNAP_WORD ((s.snapEpoch + 1) % 2) 1).off] s t ∧
      t.hif.bank = some ([s.snapEpoch + 1, s.lin].flatMap (fun n => [n % 2 ^ 32, n / 2 ^ 32 % 2 ^ 32]) ++
        s.counters.flatMap (fun n => [n % 2 ^ 32, n / 2 ^ 32 % 2 ^ 32]) ++ [(s.snapEpoch + 1) % 2 ^ 32, (s.snapEpoch + 1) / 2 ^ 32 % 2 ^ 32])) ∧
  (∀ s ws, s.hif.bank = some ws → ws.length = 846 → s.reaches (s.now / 250000 * 250000 + 20000) → Does .snapshotBankComplete s fun t => t.hif.bank = none ∧
    t.get F.HIF_SNAP_BANK_BANK = (s.snapEpoch + 1) % 2 ∧ t.get F.HIF_SNAP_EPOCH_LO_EPOCH = (s.snapEpoch + 1) % 2 ^ 32 ∧
    ∀ k < 846, t.get (F.HIF_SNAP_WORD ((s.snapEpoch + 1) % 2) k) = nth ws k 0 % 2 ^ 32)

/-- Semaphores (R548, R549): a read returns the state before it and takes a free semaphore for the reading port; the owner's write of 0 frees
it and its write of 1 does nothing; another port's write is discarded; a write to a free one has no effect. -/
def Obligations.HostSemaphores : Prop :=
  (∀ s (p : Fin 2) (n : Fin 64), s.flag (F.HIF_SEM_TAKEN n) = false → Does (.hifSemRead p n) s fun t => t.hostData = s.word (F.HIF_SEM_TAKEN n).off ∧
    t.flag (F.HIF_SEM_TAKEN n) = true ∧ t.get (F.HIF_SEM_OWNER n) = p.val ∧ OnlyWords [(F.HIF_SEM_TAKEN n).off] s t) ∧
  (∀ s (p : Fin 2) (n : Fin 64), s.flag (F.HIF_SEM_TAKEN n) = true → Does (.hifSemRead p n) s fun t => t.hostData = s.word (F.HIF_SEM_TAKEN n).off ∧
    t.regs = s.regs) ∧
  (∀ s (p : Fin 2) (n : Fin 64) (v : Word), s.flag (F.HIF_SEM_TAKEN n) = true → s.get (F.HIF_SEM_OWNER n) = p.val → bitOf v.toNat 0 = false →
    Does (.hifSemWrite p n v) s fun t => t.flag (F.HIF_SEM_TAKEN n) = false ∧ OnlyWords [(F.HIF_SEM_TAKEN n).off] s t) ∧
  (∀ s (p : Fin 2) (n : Fin 64) (v : Word), s.flag (F.HIF_SEM_TAKEN n) = true → s.get (F.HIF_SEM_OWNER n) ≠ p.val → Does (.hifSemWrite p n v) s fun t =>
    t.flag F.HIF_ERR_SEMOWN = true ∧ OnlyWords [F.HIF_ERR_SEMOWN.off] s t) ∧
  (∀ s (p : Fin 2) (n : Fin 64) (v : Word), s.flag (F.HIF_SEM_TAKEN n) = true → s.get (F.HIF_SEM_OWNER n) = p.val → bitOf v.toNat 0 = true →
    Does (.hifSemWrite p n v) s fun t => t = s) ∧
  (∀ s (p : Fin 2) (n : Fin 64) (v : Word), s.flag (F.HIF_SEM_TAKEN n) = false → Does (.hifSemWrite p n v) s fun t => t = s)

/-- A vector is asserted while a pending and enabled event is mapped to it, or a completion ring with that vector has an interrupt pending
(R555). -/
def Obligations.VectorAsserted : Prop :=
  ∀ (s : State) (p : Fin 2) (v : Fin 32), s.asserted p v = true ↔
    (∃ e < 256, s.bit (F.HIF_EV_PEND_PEND p (e / 32)) (e % 32) = true ∧ s.bit (F.HIF_EV_EN_EN p (e / 32)) (e % 32) = true ∧ s.evVec p e = v.val) ∨
    (∃ q < 16, (s.ring p q).irq = true ∧ s.get (F.HIF_Q_CFG_VEC p q) = v.val)

/-- Lanes, the Kalmer links and the peers (R5, R60, R470 to R479, R494): a lane check and its decision, the copy of the lanes' state, retirement,
what the stages compare while the lanes differ, and the frames of the links.
It rests on the model's own choices in log 363. -/
def Obligations.LanesAndLinks : Prop :=
  (∀ s, s.flag F.RED_STATUS_CHECK = true → Does (.laneCheckDecision true true) s fun t => t.flag F.RED_STATUS_CHECK = false ∧
    t.get F.RED_DOVE_LAST_FAILED = 0 ∧ t.get F.RED_DOVE_TRANSIENT = satInc 65535 (s.get F.RED_DOVE_TRANSIENT) ∧ t.red.copy = true ∧
    t.get F.RED_STATUS_LANES = s.get F.RED_STATUS_LANES ∧ t.pended 195) ∧
  (∀ s passA passB, s.flag F.RED_STATUS_CHECK = true → s.get F.RED_STATUS_LANES = 3 → passA = !passB → Does (.laneCheckDecision passA passB) s fun t =>
    t.flag F.RED_STATUS_CHECK = false ∧ t.get F.RED_DOVE_LAST_FAILED = (if passA then 2 else 1) ∧ t.get F.RED_STATUS_LANES = (if passA then 1 else 2) ∧
    t.flag F.RED_STATUS_LSTAT = true ∧ t.role = s.role ∧ t.pended 194) ∧
  (∀ s, s.flag F.RED_STATUS_CHECK = true → s.get F.RED_STATUS_LANES = 3 → Does (.laneCheckDecision false false) s fun t =>
    t.get F.RED_STATUS_LANES = 0 ∧ t.role = 3 ∧ t.flag F.RED_STATUS_INCMD = (s.flag F.RED_STATUS_INCMD && s.role == 3) ∧ t.pended 194) ∧
  (∀ s, s.red.copy = true → Does .laneStateCopy s fun t => t.red.copy = false ∧ t.frm.done = Nat.lor s.frm.done 31 ∧ t.frm.supOk = false ∧ t.regs = s.regs ∧
    t.twin = none) ∧
  (∀ s (l : Fin 2), bitOf s.red.retire l = true → s.get F.RED_STATUS_LANES = 3 → Does (.laneRetire l) s fun t =>
    t.get F.RED_STATUS_LANES = 2 - l.val ∧ bitOf t.red.retire l = false ∧ t.flag F.RED_STATUS_LSTAT = true ∧ t.pended 194 ∧ t.twin = none ∧
    (l = 1 ∨ s.twin = none → OnlyWordsEv [F.RED_STATUS_LANES.off] s t)) ∧
  (∀ s c, bitOf s.red.retire 0 = true → s.get F.RED_STATUS_LANES = 3 → s.twin = some c → Does (.laneRetire 0) s fun t =>
    t.get F.RED_STATUS_LANES = 2 ∧ t.twin = none ∧ t.frm = c.frm ∧ t.sig = c.sig ∧ t.aln = c.aln ∧ t.est = c.est ∧ t.cle = c.cle ∧ t.alc = c.alc ∧
    t.prf = c.prf ∧ t.pended 194) ∧
  (∀ s util c, s.stageOpen 4 → s.twin = some c → s.dualLane = true → s.flag F.RED_STATUS_CHECK = false → s.digestsDiffer 0 = true →
    Does (.supStage util 0) s fun t => t.flag F.RED_STATUS_CHECK = true ∧ t.get F.RED_DOVE_LAST_STAGE = 0 ∧ t.pended 193) ∧
  (∀ s util cic, s.twin = none → Does (.acqStage util cic) s fun t => t.twin = none) ∧
  (∀ s util, s.twin = none → Does (.alnStage util) s fun t => t.twin = none) ∧
  (∀ s util, s.twin = none → Does (.ctlStage util) s fun t => t.twin = none) ∧
  (∀ s util, s.twin = none → Does (.actStage util) s fun t => t.twin = none) ∧
  (∀ s, s.flag F.RED_STATUS_MCHECK = true → Does (.moduleCheckDecision true) s fun t => t.flag F.RED_STATUS_MCHECK = false ∧
    t.red.move = some (if s.red.move = some .named then .named else .retire) ∧ OnlyWords [F.RED_STATUS_MCHECK.off] s t) ∧
  (∀ s, s.flag F.RED_STATUS_MCHECK = true → Does (.moduleCheckDecision false) s fun t => t.flag F.RED_STATUS_MCHECK = false ∧ t.red = s.red ∧
    OnlyWords [F.RED_STATUS_MCHECK.off] s t) ∧
  (∀ s (l : Fin 2) b, (b.length < 20 ∨ beAt b (b.length - 4) 4 ≠ crc32c (b.take (b.length - 4))) → Does (.kalmerFrameReceived l b) s fun t =>
    t.get (F.RED_KL_ERR_CHK l) = (s.get (F.RED_KL_ERR_CHK l) + 1) % 2 ^ 32 ∧ t.red = s.red ∧ OnlyWords [(F.RED_KL_ERR_CHK l).off] s t) ∧
  (∀ s (l : Fin 2) b (p : Fin 3), s.red.peers.length = 3 → b.length = 236 → beAt b 232 4 = crc32c (b.take 232) → beAt b 0 2 = 0x4B4C → beAt b 2 1 = 3 →
    beAt b 3 1 = p.val + 12 → beAt b 4 2 = 216 → p.val ≠ s.ownPos → s.seen p = false → (linDiff (beAt b 8 8) s.majTick).natAbs ≤ 1000000 →
    ((s.link p).fseq ≠ some (beAt b 6 2) ∨ (s.link p).lastT ≠ beAt b 8 8) → Does (.kalmerFrameReceived l b) s fun t =>
      t.seen p = true ∧ (t.link p).record = (b.drop 16).take 216 ∧ (t.link p).fresh = true ∧ (t.link p).miss = 0 ∧
      t.get (F.RED_PEER_STAT_ROLE p) = recRole ((b.drop 16).take 216) ∧ t.bit F.RED_STATUS_PEERS p = true ∧
      t.get (F.RED_KL_CNT_FRAMES l) = (s.get (F.RED_KL_CNT_FRAMES l) + 1) % 2 ^ 32 ∧ t.pended 200) ∧
  (∀ s (l : Fin 2) up, s.flag (F.RED_KL_STAT_UP l) = !up → Does (.kalmerLinkChange l up) s fun t => t.flag (F.RED_KL_STAT_UP l) = up ∧ t.pended 201 ∧
    t.get (F.RED_KL_STAT_DOWNS l) = (if up then s.get (F.RED_KL_STAT_DOWNS l) else satInc 65535 (s.get (F.RED_KL_STAT_DOWNS l))) ∧
    OnlyWordsEv [(F.RED_KL_STAT_UP l).off, F.PWR_READY_READY.off] s t) ∧
  (∀ s (p : Fin 3), s.seen p = true → (s.link p).fresh = false → s.linkTmo ≤ (s.link p).miss + 1 → Does (.peerLost p) s fun t =>
    t.seen p = false ∧ t.bit F.RED_STATUS_PEERS p = false ∧ t.pended 199) ∧
  (∀ s (l : Fin 2) b (p : Fin 3) (ty : Fin 6), s.red.peers.length = 3 → 20 ≤ b.length → b.length ≤ 8212 →
    beAt b (b.length - 4) 4 = crc32c (b.take (b.length - 4)) → beAt b 0 2 = 0x4B4C → beAt b 2 1 = ty.val → ty ≠ 0 → beAt b 3 1 = p.val + 12 →
    beAt b 4 2 + 20 = b.length → p.val ≠ s.ownPos → (linDiff (beAt b 8 8) s.majTick).natAbs ≤ 1000000 →
    s.seen p = false ∨ (s.link p).fseq.all (laterFseq (beAt b 6 2)) = true → ((s.link p).fseq ≠ some (beAt b 6 2) ∨ (s.link p).lastT ≠ beAt b 8 8) →
    Does (.kalmerFrameReceived l b) s fun t => (t.link p).fseq = some (beAt b 6 2) ∧ (t.link p).lastT = beAt b 8 8 ∧
      t.get (F.RED_KL_CNT_FRAMES l) = (s.get (F.RED_KL_CNT_FRAMES l) + 1) % 2 ^ 32) ∧
  (∀ s (l : Fin 2) up, s.flag (F.RED_KL_STAT_UP l) = up → Does (.kalmerLinkChange l up) s fun t => t = s) ∧
  (∀ s passA passB, s.flag F.RED_STATUS_CHECK = false → s.twin = none → Does (.laneCheckDecision passA passB) s fun t => t = s) ∧
  (∀ s (l : Fin 2), bitOf s.red.retire l = false → Does (.laneRetire l) s fun t => t = s) ∧
  (∀ s, s.red.copy = false → Does .laneStateCopy s fun t => t = s) ∧
  (∀ s fail, s.flag F.RED_STATUS_MCHECK = false → Does (.moduleCheckDecision fail) s fun t => t = s)

/-- Roles, Axolotl and the health telegram (R480 to R491, R496, R499).
It rests on the model's own choices in logs 366 and 374. -/
def Obligations.RolesAndAxolotl : Prop :=
  (∀ s, s.red.retire = 0 → s.red.move = some .claim → (s.role = 0 ∨ s.role = 2) → Does .roleChange s fun t => t.role = 1 ∧
    t.flag F.RED_STATUS_INCMD = true ∧ t.flag F.RED_STATUS_SYNC = false ∧ t.get F.RED_EPOCH_EPOCH = (s.red.newest + 1) % 65536 ∧
    t.get F.RED_STATUS_ICPOS = s.ownPos ∧ t.red.move = none ∧ t.pended 192) ∧
  (∀ s, s.red.retire = 0 → s.red.move = some .monitor → (s.role = 1 ∨ s.role = 2) → Does .roleChange s fun t => t.role = 0 ∧
    t.flag F.RED_STATUS_INCMD = false ∧ t.red.move = none ∧ t.pended 192) ∧
  (∀ s planned, s.red.retire = 0 → s.red.move = some (.take planned) → s.role = 2 → Does .roleChange s fun t => t.role = 1 ∧
    t.get F.RED_EPOCH_EPOCH = (s.red.newest + 1) % 65536 ∧ t.pended 192 ∧ t.pended 198) ∧
  (∀ s force, Does (.redClaim force) s fun t => t.red.claim = some force ∧ t.regs = s.regs) ∧
  (∀ s, Does .redJoin s fun t => t.red.join = true ∧ t.regs = s.regs) ∧
  (∀ s, s.red.axo.isSome = true → Does .redAbandon s fun t => t.red.axo = none ∧ t.red.join = false ∧ t.get F.RED_AXO_PHASE = 0 ∧
    t.get F.RED_AXO_COUNT = 0 ∧ (s.get F.RED_AXO_PHASE ≠ 0 → t.pended 203) ∧ OnlyWordsEv [F.RED_AXO_PHASE.off, F.RED_STATUS_AXPHASE.off] s t) ∧
  (∀ s (g : Fin 4), Does (.redHandover g) s fun t => t.red.handover = some (g.val, s.now) ∧ t.regs = s.regs) ∧
  (∀ s, s.role = 3 → s.get F.RED_STATUS_LANES ≠ 0 → Does .redRejoin s fun t => t.red.move = some .rejoin ∧ t.regs = s.regs) ∧
  (∀ s, s.role ≠ 3 → Does .redRejoin s fun t => t.red = s.red ∧ t.flag F.RED_ERR_REFUSED = true ∧ t.get F.RED_ERR_REASON = 1 ∧ t.pended 207 ∧
    OnlyWordsEv [F.RED_ERR_REFUSED.off] s t) ∧
  (∀ s a, s.red.axo = some a → a.full = true → s.get F.RED_AXO_PHASE ≠ 2 → Does .axolotlSnapshotLoad s fun t =>
    t.red.axo = some { a with step := 11, parts := [] } ∧ t.get F.RED_AXO_PHASE = 2 ∧ t.red.mir = none ∧ t.est.snaps.length = 12 ∧ t.pended 203) ∧
  (∀ s a, s.red.axo = some a → a.step = 10 → a.full = false → s.get F.RED_AXO_PHASE ≠ 2 → Does .axolotlSnapshotLoad s fun t =>
    t.red.axo = some { a with step := 0, parts := [] } ∧ t.get F.RED_AXO_PHASE = 1 ∧ t.get F.RED_AXO_COUNT = 0 ∧
    t.get F.RED_AXO_RESTARTS = satInc 255 (s.get F.RED_AXO_RESTARTS) ∧ t.pended 203) ∧
  (∀ s, s.red.axo.isSome = true → s.get F.RED_AXO_COUNT = 100 → s.role = 0 → Does .axolotlComplete s fun t => t.role = 2 ∧ t.red.axo = none ∧
    t.get F.RED_AXO_PHASE = 0 ∧ t.flag F.RED_STATUS_SYNC = (s.red.mirMiss == 0) ∧ t.pended 192) ∧
  (∀ s (p : Fin 4), s.eth.ports.length = 4 → (s.port p).queues.length = 4 → s.red.healthEth = true → s.flag F.RED_HCFG_EN = true → s.ready = true →
    s.now % 1000000000 / 250000 = 23 → 230000 ≤ s.now % 250000 → s.get F.RED_HCFG_NET = 1 → s.ethActive 0 = some p.val → Does .healthTelegramSend s fun t =>
      t.red.healthEth = false ∧ t.regs = s.regs ∧ t.tim = s.tim ∧ nth (t.port p).queues 2 [] = nth (s.port p).queues 2 [] ++
        [beBytes 6 (s.get F.RED_HMAC_HI_MAC * 2 ^ 32 + s.get F.RED_HMAC_LO_MAC) ++
          beBytes 6 (s.get (F.ETH_MAC_HI_MAC p) * 2 ^ 32 + s.get (F.ETH_MAC_LO_MAC p)) ++ beBytes 2 0x88B6 ++
          wordBytes (s.words (F.RED_HEALTH_DATA 0).off 16)]) ∧
  (∀ s, s.red.retire = 0 → s.red.move = some .give → s.role = 1 → Does .roleChange s fun t => t.role = 2 ∧ t.flag F.RED_STATUS_INCMD = false ∧
    t.red.move = none ∧ t.pended 192 ∧ t.pended 198) ∧
  (∀ s, s.red.retire = 0 → (s.red.move = some .retire ∨ s.red.move = some .named) → s.role ≠ 3 → Does .roleChange s fun t => t.role = 3 ∧
    t.red.axo = none ∧ t.get F.RED_AXO_PHASE = 0 ∧ t.red.move = none ∧ t.pended 192) ∧
  (∀ s, s.red.retire = 0 → s.red.move = some .rejoin → s.role = 3 → s.get F.RED_STATUS_LANES ≠ 0 → Does .roleChange s fun t => t.role = 0 ∧
    t.red.move = none ∧ t.pended 192) ∧
  (∀ s, s.red.retire = 0 → s.red.move = none → s.red.superseded = false → s.newFault = false → s.twin = none → Does .roleChange s fun t =>
    t.role = s.role ∧ t.red.move = none ∧ OnlyWords [] s t) ∧
  (∀ s, s.red.axo = none → Does .redAbandon s fun t => t.red.axo = none ∧ t.red.join = false ∧ t.get F.RED_AXO_PHASE = 0) ∧
  (∀ s, s.red.axo = none ∨ s.get F.RED_AXO_COUNT ≠ 100 → Does .axolotlComplete s fun t => t = s) ∧
  (∀ s (n : Fin 2) (p : Fin 4), s.eth.ports.length = 4 → (s.port p).queues.length = 4 → s.red.healthEth = true → s.flag F.RED_HCFG_EN = true →
    s.ready = true → s.now % 1000000000 / 250000 = 23 → 230000 ≤ s.now % 250000 ∨ s.reaches (s.now / 250000 * 250000 + 230000) →
    bitOf (if s.get F.RED_HCFG_NET = 0 then 3 else s.get F.RED_HCFG_NET) n = true → s.ethActive n = some p.val → Does .healthTelegramSend s fun t =>
      t.red.healthEth = false ∧ t.regs = s.regs ∧ nth (t.port p).queues 2 [] = nth (s.port p).queues 2 [] ++
        [beBytes 6 (s.get F.RED_HMAC_HI_MAC * 2 ^ 32 + s.get F.RED_HMAC_LO_MAC) ++
          beBytes 6 (s.get (F.ETH_MAC_HI_MAC p) * 2 ^ 32 + s.get (F.ETH_MAC_LO_MAC p)) ++ beBytes 2 0x88B6 ++
          wordBytes (s.words (F.RED_HEALTH_DATA 0).off 16)]) ∧
  (∀ s, s.red.healthEth = false ∨ s.flag F.RED_HCFG_EN = false → Does .healthTelegramSend s fun t => t = s)

/-- Power states, supplies and resets (R607 to R617).
It rests on the model's own choices in logs 34, 406 and 410. -/
def Obligations.PowerAndReset : Prop :=
  (∀ s (k : Fin 8), k ≠ 0 → s.pwrReason k = none → Does (.powerStateRequest k) s fun t => t.pwr.req = some k.val ∧ t.flag F.PWR_STATUS_PENDING = true ∧
    t.powerState = s.powerState ∧ OnlyWords [F.PWR_STATUS_PENDING.off] s t) ∧
  (∀ s (k : Fin 8) (r : Nat), k ≠ 0 → s.pwrReason k = some r → Does (.powerStateRequest k) s fun t => t.pwr.req = s.pwr.req ∧
    t.flag F.PWR_ERR_REFUSED = true ∧ t.get F.PWR_ERR_REASON = r ∧ t.pended 249 ∧ OnlyWordsEv [F.PWR_ERR_REFUSED.off] s t) ∧
  (∀ s (k : Nat) (src : BitVec 17) late, s.pwr.req = some k → k < 8 → s.wakeFired k src.toNat = 0 → Does (.powerStateEntry src late) s fun t =>
    t.powerState = k ∧ t.flag F.PWR_STATUS_PENDING = false ∧ t.pwr.req = none) ∧
  (∀ s (k : Nat) (src : BitVec 17), s.pwr.req = some k → s.wakeFired k src.toNat ≠ 0 → Does (.powerStateEntry src false) s fun t =>
    t.powerState = s.powerState ∧ t.flag F.PWR_STATUS_CANCELLED = true ∧ t.flag F.PWR_STATUS_PENDING = false ∧ t.pwr.req = none ∧ t.pended 248) ∧
  (∀ s (src : BitVec 17) (pulses : Nat), (s.powerState = 1 ∨ s.powerState = 2) → s.wakeFired s.powerState src.toNat ≠ 0 →
    Does (.wakeExit src pulses) s fun t => t.powerState = 0 ∧ t.get F.PWR_STATUS_LASTEXIT = exitUs s.powerState ∧ t.pended 248 ∧ t.tim = s.tim) ∧
  (∀ s (src : BitVec 17) (pulses : Nat), 3 ≤ s.powerState → (∀ x ∈ s.sld.body, x.1 ∈ rwsOffs) → (s.slept pulses).wakeFired s.powerState src.toNat ≠ 0 →
    Does (.wakeExit src pulses) s fun t => t.powerState = 0 ∧ t.pended 248) ∧
  (∀ s (pulses : Nat) (bad : BitVec 3), (∀ x ∈ s.sld.body, x.1 ∈ rwsOffs) → Does (.powerOnReset pulses bad) s fun t => t.flag F.PWR_RSTCAUSE_POR = true ∧ t.powerState = 0 ∧
    t.get F.SEC_BOOTCNT_COUNT = (s.get F.SEC_BOOTCNT_COUNT + 1) % 2 ^ 32 ∧ t.sec.store = [] ∧ t.flag F.SEC_TAMPER_SSLOST = true ∧
    t.tim = TimState.reset ∧ t.can = CanState.reset ∧ t.role = 0) ∧
  (∀ s (rail : Fin 3), (∀ x ∈ s.sld.body, x.1 ∈ rwsOffs) → Does (.brownOut rail) s fun t => t.flag F.PWR_RSTCAUSE_BOR = true ∧ t.powerState = 0 ∧ t.bit F.PWR_RAIL_LOWSEEN rail = true ∧
    t.get F.SEC_BOOTCNT_COUNT = (s.get F.SEC_BOOTCNT_COUNT + 1) % 2 ^ 32 ∧ t.sec.store = s.sec.store ∧ t.tim = TimState.reset) ∧
  (∀ s (us : Nat), 10 ≤ us → (∀ x ∈ s.sld.body, x.1 ∈ rwsOffs) → 
    Does (.resetPin us) s fun t => t.flag F.PWR_RSTCAUSE_PIN = true ∧ t.powerState = 0 ∧
    t.get F.SEC_BOOTCNT_COUNT = (s.get F.SEC_BOOTCNT_COUNT + 1) % 2 ^ 32 ∧ t.sec.store = s.sec.store ∧ t.tim = TimState.reset ∧ t.role = 0) ∧
  (∀ s (us : Nat), us < 10 → Does (.resetPin us) s fun t => t = s) ∧
  (∀ s (port : Fin 2), (∀ x ∈ s.sld.body, x.1 ∈ rwsOffs) → Does (.hostModuleReset port 0xD860#16) s fun t => t.flag F.PWR_RSTCAUSE_HOST = true ∧ t.powerState = 0 ∧
    t.get F.SEC_BOOTCNT_COUNT = (s.get F.SEC_BOOTCNT_COUNT + 1) % 2 ^ 32 ∧ t.tim = TimState.reset) ∧
  (∀ s (port : Fin 2) (key : BitVec 16), key ≠ 0xD860#16 → Does (.hostModuleReset port key) s fun t => t = s) ∧
  (∀ s (port : Fin 2), (s.get F.SAF_STATUS_STATE = 3 ∨ s.get F.SAF_STATUS_STATE = 1 ∨ s.sealOwner port = true) →
    Does (.hostIslandReset port 0xD860#16) s fun t => t.flag F.PWR_RSTCAUSE_ISL = true ∧ t.get F.SAF_STATUS_STATE = 0 ∧ t.saf = SafState.reset ∧
      t.bit F.PWR_READY_READY 4 = false ∧ t.tim = s.tim ∧ t.get F.SEC_BOOTCNT_COUNT = s.get F.SEC_BOOTCNT_COUNT) ∧
  (∀ s (port : Fin 2), (s.get F.SAF_STATUS_STATE = 0 ∨ s.get F.SAF_STATUS_STATE = 2) → s.sealOwner port = false →
    Does (.hostIslandReset port 0xD860#16) s fun t => t.flag F.PWR_ERR_REFUSED = true ∧ t.get F.PWR_ERR_REASON = 6 ∧ t.saf = s.saf ∧ t.pended 249 ∧
      OnlyWordsEv [F.PWR_ERR_REFUSED.off] s t) ∧
  (∀ s, s.get F.SAF_STATUS_STATE ≠ 3 → s.frm.onceMajor.contains 250 = false → bitOf s.pwr.bad 3 = false → Does (.railFault 0 0) s fun t => t.get F.SAF_STATUS_STATE = 3 ∧
    t.get F.SAF_STATUS_CAUSE = 3 ∧ t.bit F.PWR_RAIL_LOWSEEN 3 = true ∧ t.pended 250) ∧
  (∀ s (lvl : Fin 3), lvl ≠ 2 → s.frm.onceMajor.contains 250 = false → bitOf s.pwr.bad 4 = false → Does (.railFault 1 lvl) s fun t => t.flag F.GNS_STATUS_READY = false ∧
    t.bit F.PWR_RAIL_LOWSEEN 4 = true ∧ t.pended 250) ∧
  (∀ s (lvl : Fin 3), lvl ≠ 2 → s.frm.onceMajor.contains 250 = false → bitOf s.pwr.bad 5 = false → Does (.railFault 2 lvl) s fun t => t.flag F.SIG_STATUS_AFE_FAULT = true ∧
    t.bit F.PWR_RAIL_LOWSEEN 5 = true ∧ t.pended 250) ∧
  (∀ s (p : Fin 2) (kind : Fin 3), s.hifOk → s.linkUp p = true → s.powerState < 2 → Does (.hostPerst p kind) s fun t => t.linkUp p = false ∧ t.pended 234 ∧
    ∀ q < 16, t.flag (F.HIF_Q_CFG_EN p q) = false ∧ t.get (F.HIF_Q_STAT_STATE p q) = 0 ∧ (t.ring p q).queue = []) ∧
  (∀ s, s.powerState = 1 → Does (.powerStateRequest 0) s fun t => t.powerState = 0 ∧ t.get F.PWR_STATUS_LASTEXIT = exitUs 1 ∧ t.pended 248) ∧
  (∀ s, s.powerState ≠ 1 → s.pwr.req = some 1 → Does (.powerStateRequest 0) s fun t => t.pwr.req = none ∧ t.flag F.PWR_STATUS_CANCELLED = true ∧
    t.flag F.PWR_STATUS_PENDING = false ∧ t.powerState = s.powerState ∧ t.pended 248) ∧
  (∀ s, s.powerState ≠ 1 → s.pwr.req ≠ some 1 → Does (.powerStateRequest 0) s fun t => t.flag F.PWR_ERR_REFUSED = true ∧ t.pwr = s.pwr ∧ t.pended 249 ∧
    OnlyWordsEv [F.PWR_ERR_REFUSED.off] s t) ∧
  (∀ s (k : Nat) (src : BitVec 17), s.pwr.req = some k → s.wakeFired k src.toNat ≠ 0 → Does (.powerStateEntry src true) s fun t =>
    t.powerState = s.powerState ∧ t.flag F.PWR_STATUS_CANCELLED = true ∧ t.flag F.PWR_STATUS_PENDING = false ∧ t.pwr.req = none ∧ t.pended 248) ∧
  (∀ s (src : BitVec 17) late, s.pwr.req = none → Does (.powerStateEntry src late) s fun t => t = s) ∧
  (∀ s (src : BitVec 17) late, s.pwr.req = some 3 → s.wakeFired 3 src.toNat = 0 → Does (.powerStateEntry src late) s fun t =>
    t.powerState = 3 ∧ t.tim = TimState.reset ∧ ∀ l < 2, ∀ b < 16, (nth (nth t.sec.sram l []) b ⟨.on, .data⟩).power =
      (if b < 4 ∨ s.bit F.SEC_SRAM_RET_BANK b = true then .retained else .off)) ∧
  (∀ s (src : BitVec 17) (pulses : Nat), s.powerState = 3 → (s.slept pulses).wakeFired 3 src.toNat ≠ 0 →
    Does (.wakeExit src pulses) s fun t => t.powerState = 0 ∧ t.pended 248 ∧ t.get F.PWR_STATUS_LASTEXIT = exitUs 3 ∧
      ∀ l < 2, ∀ b < 16, nth (nth t.sec.sram l []) b ⟨.off, .data⟩ = ⟨.on, if (nth (nth s.sec.sram l []) b ⟨.on, .zeros⟩).power = .off then .zeros else
        (nth (nth s.sec.sram l []) b ⟨.on, .zeros⟩).held⟩) ∧
  (∀ s (src : BitVec 17) (pulses : Nat), s.powerState = 0 → Does (.wakeExit src pulses) s fun t => t = s) ∧
  (∀ s (pulses : Nat) (bad : BitVec 3), Does (.powerOnReset pulses bad) s fun t => ∀ l < 2, ∀ b < 16,
    nth (nth t.sec.sram l []) b ⟨.off, .data⟩ = ⟨.on, .zeros⟩) ∧
  (∀ s, s.get F.SAF_STATUS_STATE = 3 → s.frm.onceMajor.contains 250 = false → bitOf s.pwr.bad 3 = false → Does (.railFault 0 0) s fun t => t.get F.SAF_STATUS_STATE = 3 ∧
    t.get F.SAF_STATUS_CAUSE = s.get F.SAF_STATUS_CAUSE ∧ t.bit F.PWR_RAIL_LOWSEEN 3 = true ∧ t.pended 250) ∧
  (∀ s, bitOf s.pwr.bad 3 = true → Does (.railFault 0 0) s fun t => t.get F.SAF_STATUS_STATE = 3 ∧ t.bit F.PWR_RAIL_LOWSEEN 3 = true ∧
    t.frm.onceMajor = s.frm.onceMajor) ∧
  (∀ s (lvl : Fin 3), lvl ≠ 2 → bitOf s.pwr.bad 4 = true → Does (.railFault 1 lvl) s fun t => t.flag F.GNS_STATUS_READY = false ∧
    t.bit F.PWR_RAIL_LOWSEEN 4 = true) ∧
  (∀ s (lvl : Fin 3), lvl ≠ 2 → bitOf s.pwr.bad 5 = true → Does (.railFault 2 lvl) s fun t => t.flag F.SIG_STATUS_AFE_FAULT = true ∧
    t.bit F.PWR_RAIL_LOWSEEN 5 = true ∧ t.frm.onceMajor = s.frm.onceMajor) ∧
  (∀ s, Does (.railFault 0 1) s fun t => t.flag F.PWR_RSTCAUSE_ISL = true ∧ t.get F.SAF_STATUS_STATE = 0 ∧ t.saf = SafState.reset ∧
    t.bit F.PWR_RAIL_LOWSEEN 3 = true ∧ t.bit F.PWR_READY_READY 4 = false) ∧
  (∀ s (rail : Fin 3), Does (.railFault rail 2) s fun t => bitOf t.pwr.bad (3 + rail) = false ∧ t.saf = s.saf ∧
    (rail = 1 → s.flag F.GNS_CTRL_EN = true → t.gns.starting = true) ∧ OnlyWords [] s t) ∧
  (∀ s (p : Fin 2) (kind : Fin 3), s.hifOk → kind ≠ 0 ∨ s.powerState < 2 → Does (.hostPerst p kind) s fun t => t.linkUp p = false ∧
    (∀ q < 16, t.flag (F.HIF_Q_CFG_EN p q) = false ∧ t.get (F.HIF_Q_STAT_STATE p q) = 0 ∧ (t.ring p q).queue = []) ∧
    ∀ n < 64, t.flag (F.HIF_SEM_TAKEN n) = (s.flag (F.HIF_SEM_TAKEN n) && s.get (F.HIF_SEM_OWNER n) != p.val)) ∧
  (∀ s (p : Fin 2), 2 ≤ s.powerState → Does (.hostPerst p 0) s fun t => t = s)

/-- Host reads and writes of registers (R24 to R26, R62, R634, R641): a write that acts at once, one that waits
for its tick, one to sealed settings, one that is a command of its own, a refused write, a read that leaves its word, one that clears and one that latches.
It rests on the model's own choices in logs 51 and 62. -/
def Obligations.HostAccess : Prop :=
  (∀ s (port : Fin 2) (v : BitVec 64), Does (.hostRegisterWrite port 0xC0000C#26 4 v) s fun t => t.get F.SAF_CO_REQ_REQ = v.toNat % 2 ^ 16 ∧
    t.frm = s.frm ∧ t.saf = s.saf ∧ OnlyWords [F.SAF_CO_REQ_REQ.off] s t) ∧
  (∀ s (port : Fin 2) (off : BitVec 26) (v : BitVec 64), off.toNat / 0x100000 = 4 → off.toNat % 4 = 0 →
    s.refusal port off.toNat (v.toNat % 2 ^ 32) = none → regBits off.toNat (fun f => f.acc == .wc) = 0 →
    regBits off.toNat (fun f => f.acc == .rw || f.acc == .wo) ≠ 0 → Does (.hostRegisterWrite port off 4 v) s fun t =>
      t.frm.pend = s.frm.pend ++ [⟨off.toNat, v.toNat % 2 ^ 32, port⟩] ∧ t.regs = s.regs) ∧
  (∀ s (port : Fin 2) (off : BitVec 26) (v : BitVec 64), heldBlock off.toNat = true → off.toNat % 4 = 0 →
    off.toNat ∉ [0x100000, 0x10001C, 0x600008, 0x60000C, 0x700040] → s.refusal port off.toNat (v.toNat % 2 ^ 32) = none →
    Does (.hostRegisterWrite port off 4 v) s fun t =>
      t.frm.pend = s.frm.pend ++ [⟨off.toNat, v.toNat % 2 ^ 32, port⟩] ∧ t.regs = s.regs ∧ Frame [.frm, .shadow, .twin] s t) ∧
  (∀ s (port : Fin 2) (off : BitVec 26) (v : BitVec 64), (tickKind off.toNat).isSome = true → heldBlock off.toNat = false → off.toNat % 4 = 0 →
    off.toNat ∉ [0x300000, 0x300054] → ¬(0x301000 ≤ off.toNat ∧ off.toNat < 0x302000 ∧ s.flag F.GNS_CTRL_ALLOC = true) →
    regBits off.toNat (fun f => f.acc == .rw || f.acc == .wo) ≠ 0 → s.refusal port off.toNat (v.toNat % 2 ^ 32) = none →
    Does (.hostRegisterWrite port off 4 v) s fun t => t.frm.pend = s.frm.pend ++ [⟨off.toNat, v.toNat % 2 ^ 32, port⟩] ∧ OnlyWords [off.toNat] s t) ∧
  (∀ s (port : Fin 2) (off : BitVec 26) (v : BitVec 64), writesPlainly off.toNat = true → tickKind off.toNat = none → off.toNat % 4 = 0 →
    s.refusal port off.toNat (v.toNat % 2 ^ 32) = none → regBits off.toNat (fun f => f.acc == .rws) = 0 → Does (.hostRegisterWrite port off 4 v) s fun t =>
      Frame [.regs, .shadow, .twin] s t ∧ OnlyWords [off.toNat] s t ∧ ∀ b < 32, bitOf (t.word off.toNat) b =
        (if bitOf (regBits off.toNat (fun f => f.acc == .rw && (!f.expert || s.expert (off.toNat / 0x100000)))) b = true then bitOf v.toNat b
        else (bitOf (s.word off.toNat) b && !(bitOf (regBits off.toNat (fun f => f.acc == .wc)) b && bitOf v.toNat b)))) ∧
  (∀ s (port : Fin 2) (off : BitVec 26) (v : BitVec 64), writesPlainly off.toNat = true → tickKind off.toNat = none → off.toNat % 4 = 0 →
    s.refusal port off.toNat (v.toNat % 2 ^ 32) = none → safMask off.toNat ≠ 0 → Does (.hostRegisterWrite port off 4 v) s fun t =>
      find1 t.sld.pend off.toNat = (if rwsBits off.toNat (v.toNat % 2 ^ 32) = s.sld.eff off.toNat then none
        else some (rwsBits off.toNat (v.toNat % 2 ^ 32))) ∧
      OnlyWords [off.toNat, F.SEC_SEAL_STAT_PEND.off] s t) ∧
  (∀ s (port : Fin 2) (i : Instr) (off : Nat) (v : Nat), cmdWrite port i = some (off, v) → s.refusal port off v = none →
    Does (.hostRegisterWrite port (BitVec.ofNat 26 off) 4 (BitVec.ofNat 64 v)) s fun t =>
      ∃ u, exec i s = .next u ∧ t = { u with shadow := t.shadow, twin := t.twin }) ∧
  (∀ s (port : Fin 2) (off : BitVec 26) (v : BitVec 64), off.toNat % 4 = 0 → off.toNat / 0x100000 ≠ 0x11 →
    s.refusal port off.toNat (v.toNat % 2 ^ 32) = some F.GLB_ACCERR_RO_WRITE → Does (.hostRegisterWrite port off 4 v) s fun t =>
      t.flag F.GLB_ACCERR_RO_WRITE = true ∧ Frame [.regs, .frm, .rcd, .twin] s t ∧ OnlyWordsEv [F.GLB_ACCERR_WIDTH.off, F.GLB_ACCADDR_OFFSET.off] s t) ∧
  (∀ s (port : Fin 2) (off : BitVec 26) (v : BitVec 64), off.toNat % 4 = 0 → off.toNat / 0x100000 ≠ 0x11 →
    s.refusal port off.toNat (v.toNat % 2 ^ 32) = some F.GLB_ACCERR_LEVEL → regBits off.toNat (fun f => f.writable && !f.expert) = 0 →
    Does (.hostRegisterWrite port off 4 v) s fun t =>
      t.flag F.GLB_ACCERR_LEVEL = true ∧ Frame [.regs, .frm, .rcd, .twin] s t ∧ OnlyWordsEv [F.GLB_ACCERR_WIDTH.off, F.GLB_ACCADDR_OFFSET.off] s t) ∧
  (∀ s (port : Fin 2) (off : BitVec 26) (v : BitVec 64), off.toNat % 4 = 0 → off.toNat / 0x100000 = 0x11 → (regAt off.toNat).isSome = true →
    s.flag F.RTC_STATUS_READY = false → Does (.hostRegisterWrite port off 4 v) s fun t =>
      t.flag F.RTC_STATUS_LOCKWR = true ∧ Frame [.regs, .twin] s t ∧ OnlyWords [F.RTC_STATUS_LOCKWR.off] s t) ∧
  (∀ s (port : Fin 2) (off : BitVec 26) (v : BitVec 64), off.toNat % 4 = 0 → off.toNat / 0x100000 ≠ 0x11 →
    s.refusal port off.toNat (v.toNat % 2 ^ 32) = some F.GLB_ACCERR_RO_WRITE → s.word 0x24 % 64 = 0 → Does (.hostRegisterWrite port off 4 v) s fun t =>
      t.flag F.GLB_ACCERR_RO_WRITE = true ∧ t.get F.GLB_ACCERR_PORT = port.val ∧ t.get F.GLB_ACCADDR_OFFSET = off.toNat ∧ t.pended 0 ∧
      OnlyWordsEv [F.GLB_ACCERR_WIDTH.off, F.GLB_ACCADDR_OFFSET.off] s t) ∧
  (∀ s (port : Fin 2) (n : Fin 8), find1 s.shadow (F.CAN_STATUS_LEC n).off = none →
    Does (.readClear port (BitVec.ofNat 26 (F.CAN_STATUS_LEC n).off)) s fun t => t.hostData = s.word (F.CAN_STATUS_LEC n).off ∧
      t.get (F.CAN_STATUS_LEC n) = 7 ∧ t.get (F.CAN_STATUS_DLEC n) = 7 ∧ t.get (F.CAN_STATUS_STATE n) = s.get (F.CAN_STATUS_STATE n) ∧
      OnlyWords [(F.CAN_STATUS_LEC n).off] s t) ∧
  (∀ s (port : Fin 2), find1 s.shadow 0x100008 = none → Does (.shadowLatchRead port 0x100008#26) s fun t => t.hostData = s.word 0x100008 ∧
    find1 t.shadow 0x10000C = some (s.word 0x10000C) ∧ t.regs = s.regs) ∧
  (∀ s (port : Fin 2) (off : BitVec 26), off.toNat % 4 = 0 → (regAt off.toNat).isSome = true → readsPlainly off.toNat = true →
    regBits off.toNat (fun f => f.acc == .rc) = 0 → latchCount off.toNat = 0 → Does (.hostReadUnmapped port false off 4) s fun t =>
      t.hostData = (find1 s.shadow off.toNat).getD (s.peek port off.toNat) ∧ Frame [.hostData, .twin] s t) ∧
  (∀ s (port : Fin 2) (i : Instr) (off : Nat), cmdRead port i = some off → (off = 0x1100000 → s.flag F.RTC_STATUS_READY = true) →
    Does (.hostReadUnmapped port false (BitVec.ofNat 26 off) 4) s fun t => ∃ u, exec i s = .next u ∧ t = { u with twin := t.twin }) ∧
  (∀ s (port : Fin 2) (off : BitVec 26), off.toNat % 4 = 0 → off.toNat / 0x100000 = 0x11 → (regAt off.toNat).isSome = true →
    s.flag F.RTC_STATUS_READY = false → Does (.hostReadUnmapped port false off 4) s fun t => t.hostData = 0 ∧ Frame [.hostData, .twin] s t) ∧
  (∀ s (port : Fin 2) (off : BitVec 26) size, Does (.hostReadUnmapped port true off size) s fun t => Frame [.hostData] s t ∧
    t.hostData = (if off.toNat < 0x80 ∧ off.toNat % 8 = 0 then (s.ring port (off.toNat / 8)).sqTail
      else if off.toNat < 0x80 ∧ off.toNat % 8 = 4 then (s.ring port (off.toNat / 8)).cqHead else 0)) ∧
  (∀ s (port : Fin 2) (off : BitVec 26), off.toNat % 4 = 0 → readsPlainly off.toNat = true → regBits off.toNat (fun f => f.acc == .rc) ≠ 0 →
    Does (.readClear port off) s fun t => t.hostData = (find1 s.shadow off.toNat).getD (s.peek port off.toNat) ∧
      OnlyWords [off.toNat] s t ∧ ∀ b < 32, bitOf (t.word off.toNat) b =
        (if bitOf (regBits off.toNat (fun f => f.acc == .rc)) b = true then decide (0xA00000 ≤ off.toNat ∧ off.toNat < 0xA01000) && bitOf 0x7700 b
        else bitOf (s.word off.toNat) b)) ∧
  (∀ s (port : Fin 2) (off : BitVec 26), off.toNat % 4 = 0 → latchCount off.toNat ≠ 0 → readsPlainly off.toNat = true →
    Does (.shadowLatchRead port off) s fun t =>
    t.hostData = (find1 s.shadow off.toNat).getD (s.peek port off.toNat) ∧ t.regs = s.regs ∧
    ∀ k < latchCount off.toNat, find1 t.shadow (off.toNat + 4 * k + 4) = some (s.peekMapped port (off.toNat + 4 * k + 4))) ∧
  (∀ s (port : Fin 2) (off : BitVec 26), off.toNat / 0x100000 = 0x11 → off.toNat ≠ 0x1100000 → latchCount off.toNat ≠ 0 → off.toNat % 4 = 0 →
    s.flag F.RTC_STATUS_READY = true → Does (.shadowLatchRead port off) s fun t =>
      t.hostData = (find1 s.shadow off.toNat).getD (s.peek port off.toNat) ∧ t.regs = s.regs ∧
      ∀ k < latchCount off.toNat, find1 t.shadow (off.toNat + 4 * k + 4) = some (s.peekMapped port (off.toNat + 4 * k + 4))) ∧
  (∀ s (port : Fin 2) (i : Instr) (off : Nat), cmdRead port i = some off → (off = 0x1100000 → s.flag F.RTC_STATUS_READY = true) →
    Does (.shadowLatchRead port (BitVec.ofNat 26 off)) s fun t => ∃ u, exec i s = .next u ∧ t = { u with twin := t.twin })

/-- Width of a host access (R21, R22): one that is neither of 32 nor of 64 bits, or not aligned, is not performed: a write is discarded and a
read returns 0; one of 64 bits is performed as two of 32 bits in ascending address order. -/
def Obligations.WidthOfAccess : Prop :=
  (∀ s (port : Fin 2) (off : BitVec 26) (size : Fin 9) (v : BitVec 64), (off.toNat % 4 ≠ 0 ∨ (size ≠ 4 ∧ size ≠ 8)) →
    Does (.hostRegisterWrite port off size v) s fun t => t.flag F.GLB_ACCERR_WIDTH = true ∧ Frame [.regs, .frm, .rcd, .twin] s t ∧
      OnlyWordsEv [F.GLB_ACCERR_WIDTH.off, F.GLB_ACCADDR_OFFSET.off] s t) ∧
  (∀ s (port : Fin 2) (off : BitVec 26) (size : Fin 9), (off.toNat % 4 ≠ 0 ∨ (size ≠ 4 ∧ size ≠ 8)) →
    Does (.hostReadUnmapped port false off size) s fun t => t.hostData = 0 ∧ t.flag F.GLB_ACCERR_WIDTH = true ∧ Frame [.regs, .hostData, .frm, .rcd, .twin] s t ∧
      OnlyWordsEv [F.GLB_ACCERR_WIDTH.off, F.GLB_ACCADDR_OFFSET.off] s t) ∧
  (∀ s (port : Fin 2) (off : BitVec 26) (v : BitVec 64), off.toNat % 4 = 0 → off.toNat + 4 < 2 ^ 26 → ∃ t, exec (.hostRegisterWrite port off 4 v) s = .next t ∧
    exec (.hostRegisterWrite port off 8 v) s = exec (.hostRegisterWrite port (off + 4#26) 4 (v >>> 32)) t) ∧
  (∀ s (port : Fin 2) (off : BitVec 26), off.toNat % 4 = 0 → off.toNat + 4 < 2 ^ 26 → ∃ t u, exec (.hostReadUnmapped port false off 4) s = .next t ∧
    exec (.hostReadUnmapped port false (off + 4#26) 4) t = .next u ∧
    exec (.hostReadUnmapped port false off 8) s = .next { u with hostData := t.hostData + 2 ^ 32 * u.hostData })

/-- Unmapped offsets (R23): a read returns 0 and a write is discarded, with no other effect than the record of the access (R28). -/
def Obligations.UnmappedOffsets : Prop :=
  (∀ s (port : Fin 2) (off : BitVec 26), off.toNat % 4 = 0 → regAt off.toNat = none → Does (.hostReadUnmapped port false off 4) s fun t =>
    t.hostData = 0 ∧ t.flag F.GLB_ACCERR_UNMAPPED = true ∧ Frame [.regs, .hostData, .frm, .rcd, .twin] s t ∧
    OnlyWordsEv [F.GLB_ACCERR_WIDTH.off, F.GLB_ACCADDR_OFFSET.off] s t) ∧
  (∀ s (port : Fin 2) (off : BitVec 26) (v : BitVec 64), off.toNat % 4 = 0 → regAt off.toNat = none → Does (.hostRegisterWrite port off 4 v) s fun t =>
    t.flag F.GLB_ACCERR_UNMAPPED = true ∧ Frame [.regs, .frm, .rcd, .twin] s t ∧ OnlyWordsEv [F.GLB_ACCERR_WIDTH.off, F.GLB_ACCADDR_OFFSET.off] s t) ∧
  (∀ s (port : Fin 2) (off : BitVec 26), off.toNat % 4 = 0 → regAt off.toNat = none → s.word 0x24 % 64 = 0 → Does (.hostReadUnmapped port false off 4) s fun t =>
    t.get F.GLB_ACCERR_PORT = port.val ∧ t.get F.GLB_ACCADDR_OFFSET = off.toNat ∧ t.pended 0)
end

