-- ==== Sys2Proof/Laws/Crc.lean ====
section
/-! SUPPORT. Bounds of the CRC, a snapshot whose CRC is right, and the digest of a stage computed step by step. -/

namespace Sys2Proof.Machine

/-- A bit step of the CRC-32C keeps 32 bits. -/
theorem crcBit_lt (r : Nat) (h : r < 2 ^ 32) : crcBit 0x82F63B78 r < 2 ^ 32 := by
  unfold crcBit
  split
  · exact Nat.xor_lt_two_pow (by omega) (by decide)
  · omega
/-- A byte step of the CRC-32C keeps 32 bits. -/
theorem crcByte_lt (r : Nat) (b : Byte) (h : r < 2 ^ 32) : crcByte 0x82F63B78 r b < 2 ^ 32 := by
  have := b.isLt
  have h0 : Nat.xor r b.toNat < 2 ^ 32 := Nat.xor_lt_two_pow h (by omega)
  exact crcBit_lt _ (crcBit_lt _ (crcBit_lt _ (crcBit_lt _ (crcBit_lt _ (crcBit_lt _ (crcBit_lt _ (crcBit_lt _ h0)))))))
/-- A CRC-32C has 32 bits. -/
theorem crc32c_lt (l : List Byte) : crc32c l < 2 ^ 32 := by
  have key : ∀ (l : List Byte) (r : Nat), r < 2 ^ 32 → l.foldl (crcByte 0x82F63B78) r < 2 ^ 32 := by
    intro l
    induction l with
    | nil => exact fun r h => h
    | cons b l ih => exact fun r h => ih _ (crcByte_lt r b h)
  exact Nat.xor_lt_two_pow (key l _ (by decide)) (by decide)
/-- A CRC-32C as a word. -/
theorem crc32c_toNat (l : List Byte) : crc32c l = (BitVec.ofNat 32 (crc32c l)).toNat := (Nat.mod_eq_of_lt (crc32c_lt l)).symm
/-- Four bytes written most significant first read back. -/
theorem ofBe_beBytes (n : Nat) (h : n < 2 ^ 32) : ofBe (beBytes 4 n) = n := by
  simp [ofBe, beBytes, leBytes, BitVec.toNat_ofNat]
  omega
/-- A body of 65,532 bytes with its CRC is a good snapshot (R496). -/
theorem axoOk_append (b : List Byte) (h : b.length = 65532) : axoOk (b ++ beBytes 4 (crc32c b)) = true := by
  have hl : ∀ n, (beBytes 4 n).length = 4 := fun n => rfl
  have hs : slice (b ++ beBytes 4 (crc32c b)) 65532 4 = beBytes 4 (crc32c b) := by
    simp [slice, ← h, hl, List.take_of_length_le]
  have ht : (b ++ beBytes 4 (crc32c b)).take 65532 = b := by rw [← h]; exact List.take_left
  have hn : (b ++ beBytes 4 (crc32c b)).length = 65536 := by rw [List.length_append, h, hl]
  rw [axoOk, beAt, hs, ofBe_beBytes _ (crc32c_lt b), ht, hn]
  rw [beq_self_eq_true, beq_self_eq_true]; rfl
/-- A joining module whose parts make a good snapshot has all of it. -/
theorem Axo.full_of_ok (b : List Byte) (h : axoOk b = true) (ic : Nat) : (⟨10, ic, [(0, b)]⟩ : Axo).full = true := by
  have hw : (⟨10, ic, [(0, b)]⟩ : Axo).whole = b := by
    have : (List.range 10) = [0, 1, 2, 3, 4, 5, 6, 7, 8, 9] := by decide
    simp [Axo.whole, this]
    exact ⟨rfl, rfl, rfl, rfl, rfl, rfl, rfl, rfl, rfl⟩
  rw [Axo.full, hw, h]; rfl
/-- A CRC fold that has each intermediate value before it goes on. -/
def crcRun (f : Nat → Byte → Nat) : List Byte → Nat → Nat
  | [], r => r
  | b :: t, r => match f r b with
    | 0 => crcRun f t 0
    | n + 1 => crcRun f t (n + 1)
/-- It is the fold. -/
theorem crcRun_eq (f : Nat → Byte → Nat) (l : List Byte) (r : Nat) : l.foldl f r = crcRun f l r := by
  induction l generalizing r with
  | nil => rfl
  | cons b t ih => rw [List.foldl_cons, ih, crcRun]; split <;> simp_all
/-- The digest of ACQ from its words and marks, computed with `crcRun`. -/
theorem stageDigest_run (s : State) (l : List Byte) (m : Nat) (h : wordBytes (s.stageWords 0) = l)
    (hm : b2n (bitOf s.frm.stale 0) + 2 * b2n (bitOf s.frm.staleIn 0) = m) : s.stageDigest 0 = crcRun crc64Byte (l ++ [] ++ leBytes 1 m) 0 := by
  rw [← crcRun_eq, ← h, ← hm]; rfl
/-- The lanes' digests of ACQ differ where the runs over their words and marks do. -/
theorem digestsDiffer_run (s : State) (c : LaneCopy) (l l' : List Byte) (m m' : Nat) (ht : s.twin = some c) (h : wordBytes (s.stageWords 0) = l)
    (hm : b2n (bitOf s.frm.stale 0) + 2 * b2n (bitOf s.frm.staleIn 0) = m) (h' : wordBytes ((s.asLane c).stageWords 0) = l')
    (hm' : b2n (bitOf c.frm.stale 0) + 2 * b2n (bitOf c.frm.staleIn 0) = m')
    (hd : (crcRun crc64Byte (l ++ [] ++ leBytes 1 m) 0 != crcRun crc64Byte (l' ++ [] ++ leBytes 1 m') 0) = true) : s.digestsDiffer 0 = true := by
  rw [State.digestsDiffer, ht]
  show (s.stageDigest 0 != (s.asLane c).stageDigest 0) = true
  rw [stageDigest_run s l m h hm, stageDigest_run (s.asLane c) l' m' h' hm', hd]
end Sys2Proof.Machine
end

