-- ==== Sys2Proof/Laws/RegFile.lean ====
section
/-! SUPPORT. The laws of the register file: canonical form, read after write, fields that do not meet. -/

namespace Sys2Proof.Machine

/-! ### Bits -/

/-- A number falls into the part above a field, the field, and the part below it. -/
theorem bits_parts (n hi lo : Nat) :
    n = n / 2 ^ lo / 2 ^ (hi + 1 - lo) * 2 ^ (hi + 1 - lo) * 2 ^ lo + bitsOf n hi lo * 2 ^ lo + n % 2 ^ lo := by
  have h1 := Nat.div_add_mod n (2 ^ lo)
  have h2 := Nat.div_add_mod (n / 2 ^ lo) (2 ^ (hi + 1 - lo))
  unfold bitsOf
  rw [← Nat.add_mul, Nat.mul_comm (n / 2 ^ lo / 2 ^ (hi + 1 - lo)), h2, Nat.mul_comm, h1]

theorem bitsOf_lt (n hi lo : Nat) : bitsOf n hi lo < 2 ^ (hi + 1 - lo) := Nat.mod_lt _ (Nat.two_pow_pos _)

theorem setBits_parts (n hi lo v : Nat) :
    setBits n hi lo v = n / 2 ^ lo / 2 ^ (hi + 1 - lo) * 2 ^ (hi + 1 - lo) * 2 ^ lo + (v % 2 ^ (hi + 1 - lo)) * 2 ^ lo + n % 2 ^ lo := by
  have h := bits_parts n hi lo
  unfold setBits
  generalize bitsOf n hi lo * 2 ^ lo = b at *
  generalize n / 2 ^ lo / 2 ^ (hi + 1 - lo) * 2 ^ (hi + 1 - lo) * 2 ^ lo = a at *
  generalize n % 2 ^ lo = c at *
  omega

/-- The bits of a number with a field replaced. -/
theorem setBits_testBit (n hi lo v i : Nat) (h : lo ≤ hi) :
    (setBits n hi lo v).testBit i = if lo ≤ i ∧ i ≤ hi then v.testBit (i - lo) else n.testBit i := by
  have hw : 0 < 2 ^ (hi + 1 - lo) := Nat.two_pow_pos _
  have e : setBits n hi lo v = 2 ^ lo * (2 ^ (hi + 1 - lo) * (n / 2 ^ lo / 2 ^ (hi + 1 - lo)) + v % 2 ^ (hi + 1 - lo)) + n % 2 ^ lo := by
    rw [setBits_parts]; ring
  rw [e, Nat.testBit_two_pow_mul_add _ (Nat.mod_lt _ (Nat.two_pow_pos _))]
  split
  · rename_i h1
    rw [Nat.testBit_mod_two_pow]
    rw [if_neg (by omega)]
    simp [h1]
  · rename_i h1
    rw [Nat.testBit_two_pow_mul_add _ (Nat.mod_lt _ hw)]
    split
    · rw [Nat.testBit_mod_two_pow, if_pos (by omega)]
      simp; omega
    · rw [if_neg (by omega), Nat.testBit_div_two_pow, Nat.testBit_div_two_pow]
      congr 1; omega

theorem bitsOf_testBit (n hi lo i : Nat) : (bitsOf n hi lo).testBit i = (decide (i < hi + 1 - lo) && n.testBit (i + lo)) := by
  unfold bitsOf
  rw [Nat.testBit_mod_two_pow, Nat.testBit_div_two_pow, Nat.add_comm]

theorem bitsOf_setBits_self (n hi lo v : Nat) (h : lo ≤ hi) : bitsOf (setBits n hi lo v) hi lo = v % 2 ^ (hi + 1 - lo) := by
  apply Nat.eq_of_testBit_eq
  intro i
  rw [bitsOf_testBit, setBits_testBit _ _ _ _ _ h, Nat.testBit_mod_two_pow]
  by_cases hi' : i < hi + 1 - lo
  · rw [if_pos (by omega)]; simp
  · simp [hi']

theorem bitsOf_setBits_ne (n hi lo hi' lo' v : Nat) (h : lo ≤ hi) (hd : hi' < lo ∨ hi < lo') :
    bitsOf (setBits n hi lo v) hi' lo' = bitsOf n hi' lo' := by
  apply Nat.eq_of_testBit_eq
  intro i
  rw [bitsOf_testBit, bitsOf_testBit, setBits_testBit _ _ _ _ _ h]
  by_cases hi'' : i < hi' + 1 - lo'
  · rw [if_neg (by omega)]
  · simp [hi'']

theorem setBits_lt (n hi lo v w : Nat) (h : lo ≤ hi) (hw : hi < w) (hn : n < 2 ^ w) : setBits n hi lo v < 2 ^ w := by
  apply Nat.lt_pow_two_of_testBit
  intro i hi'
  rw [setBits_testBit _ _ _ _ _ h, if_neg (by omega)]
  exact Nat.testBit_lt_two_pow (lt_of_lt_of_le hn (Nat.pow_le_pow_right (by norm_num) hi'))

/-! ### Lists of pairs -/

theorem lookup_insertAsc_self {α : Type} (k : Nat) (v : α) (l : List (Nat × α)) : (insertAsc k v l).lookup k = some v := by
  induction l with
  | nil => simp [insertAsc]
  | cons p t ih =>
    obtain ⟨o, w⟩ := p
    unfold insertAsc
    split
    · simp
    · split
      · simp
      · have e : (k == o) = false := beq_false_of_ne (by omega)
        rw [List.lookup_cons, e]
        exact ih

theorem lookup_insertAsc_ne {α : Type} (k j : Nat) (v : α) (l : List (Nat × α)) (h : j ≠ k) : (insertAsc k v l).lookup j = l.lookup j := by
  induction l with
  | nil => simp [insertAsc, List.lookup_cons, beq_false_of_ne h]
  | cons p t ih =>
    obtain ⟨o, w⟩ := p
    unfold insertAsc
    split
    · rw [List.lookup_cons, beq_false_of_ne h]
    · split
      · rename_i h2; subst h2
        rw [List.lookup_cons, List.lookup_cons, beq_false_of_ne h]
      · rw [List.lookup_cons, List.lookup_cons, ih]

theorem lookup_eraseKey_self {α : Type} (k : Nat) (l : List (Nat × α)) : (eraseKey k l).lookup k = none := by
  rw [List.lookup_eq_none_iff]
  intro p hp
  unfold eraseKey at hp
  have h2 := (List.mem_filter.mp hp).2
  simp only [bne_iff_ne, ne_eq] at h2
  simpa using fun e => h2 e.symm

theorem lookup_eraseKey_ne {α : Type} (k j : Nat) (l : List (Nat × α)) (h : j ≠ k) : (eraseKey k l).lookup j = l.lookup j := by
  induction l with
  | nil => rfl
  | cons p t ih =>
    obtain ⟨o, w⟩ := p
    unfold eraseKey at *
    by_cases ho : o = k
    · subst ho
      simp only [List.filter_cons, bne_self_eq_false, Bool.false_eq_true, if_false]
      rw [ih, List.lookup_cons, beq_false_of_ne h]
    · simp only [List.filter_cons, bne_iff_ne, ne_eq, ho, not_false_eq_true, if_true]
      rw [List.lookup_cons, List.lookup_cons, ih]

/-! ### Canonical form -/

/-- The canonical form in two parts: no listed word holds its after-reset value, and the offsets rise. -/
theorem wordsOk_iff (l : List (Nat × Word)) :
    wordsOk l = true ↔ (∀ p ∈ l, p.2 ≠ resetWord p.1) ∧ l.Pairwise (fun a b => a.1 < b.1) := by
  induction l with
  | nil => simp [wordsOk]
  | cons p t ih =>
    obtain ⟨o, v⟩ := p
    cases t with
    | nil => simp [wordsOk]
    | cons q t' =>
      obtain ⟨o', v'⟩ := q
      simp only [wordsOk, Bool.and_eq_true, bne_iff_ne, decide_eq_true_eq, ih, List.mem_cons, forall_eq_or_imp, List.pairwise_cons]
      constructor
      · rintro ⟨⟨h1, h2⟩, ⟨h3, h4⟩, h5, h6⟩
        exact ⟨⟨h1, h3, h4⟩, ⟨h2, fun a ha => lt_trans h2 (h5 a ha)⟩, h5, h6⟩
      · rintro ⟨⟨h1, h3, h4⟩, ⟨h2, -⟩, h5, h6⟩
        exact ⟨⟨h1, h2⟩, ⟨h3, h4⟩, h5, h6⟩

theorem mem_insertAsc {α : Type} (k : Nat) (v : α) (l : List (Nat × α)) (p : Nat × α) (h : p ∈ insertAsc k v l) : p = (k, v) ∨ p ∈ l := by
  induction l with
  | nil => simpa [insertAsc] using h
  | cons q t ih =>
    obtain ⟨o, w⟩ := q
    unfold insertAsc at h
    split at h
    · simpa using h
    · split at h
      · simp only [List.mem_cons] at h ⊢
        tauto
      · simp only [List.mem_cons] at h ⊢
        rcases h with h | h
        · exact .inr (.inl h)
        · rcases ih h with h' | h' <;> tauto

theorem pairwise_insertAsc {α : Type} (k : Nat) (v : α) (l : List (Nat × α)) (h : l.Pairwise (fun a b => a.1 < b.1)) :
    (insertAsc k v l).Pairwise (fun a b => a.1 < b.1) := by
  induction l with
  | nil => simp [insertAsc]
  | cons q t ih =>
    obtain ⟨o, w⟩ := q
    rw [List.pairwise_cons] at h
    unfold insertAsc
    split
    · rename_i hk
      simp only [List.pairwise_cons, List.mem_cons, forall_eq_or_imp]
      exact ⟨⟨hk, fun a ha => lt_trans hk (h.1 a ha)⟩, h⟩
    · split
      · rename_i _ he
        subst he
        exact List.pairwise_cons.mpr h
      · rename_i h1 h2
        refine List.pairwise_cons.mpr ⟨fun a ha => ?_, ih h.2⟩
        rcases mem_insertAsc _ _ _ _ ha with rfl | ha'
        · show o < k
          omega
        · exact h.1 a ha'

/-- A register file with some words back at their after-reset values stays canonical. -/
theorem wordsOk_filter (l : List (Nat × Word)) (p : Nat × Word → Bool) (h : wordsOk l = true) : wordsOk (l.filter p) = true := by
  rw [wordsOk_iff] at *
  exact ⟨fun q hq => h.1 q (List.mem_filter.mp hq).1, h.2.filter p⟩

theorem RegFile.setWord_wf (r : RegFile) (off : Nat) (v : Word) (h : r.wf = true) : (r.setWord off v).wf = true := by
  unfold RegFile.setWord RegFile.wf at *
  split
  · exact wordsOk_filter _ _ h
  · rename_i hv
    have h' := (wordsOk_iff _).mp (wordsOk_filter r.words (fun p => p.1 != off) h)
    refine (wordsOk_iff _).mpr ⟨fun p hp => ?_, pairwise_insertAsc _ _ _ h'.2⟩
    rcases mem_insertAsc _ _ _ _ hp with rfl | hp'
    · exact hv
    · exact h'.1 p hp'

theorem RegFile.put_wf (r : RegFile) (f : Fld) (v : Nat) (h : r.wf = true) : (r.put f v).wf = true := RegFile.setWord_wf _ _ _ h

/-! ### Read after write -/

theorem RegFile.lookup_setWord_self (r : RegFile) (off : Nat) (v : Word) :
    (r.setWord off v).words.lookup off = if v = resetWord off then none else some v := by
  unfold RegFile.setWord
  dsimp only
  split
  · exact lookup_eraseKey_self _ _
  · exact lookup_insertAsc_self _ _ _

theorem RegFile.lookup_setWord_ne (r : RegFile) (off off' : Nat) (v : Word) (h : off' ≠ off) :
    (r.setWord off v).words.lookup off' = r.words.lookup off' := by
  unfold RegFile.setWord
  dsimp only
  split
  · exact lookup_eraseKey_ne _ _ _ h
  · rw [lookup_insertAsc_ne _ _ _ _ h, lookup_eraseKey_ne _ _ _ h]

theorem RegFile.word_setWord_self (r : RegFile) (off : Nat) (v : Word) : (r.setWord off v).word off = v := by
  unfold RegFile.word
  rw [RegFile.lookup_setWord_self]
  by_cases h : v = resetWord off
  · simp [h]
  · simp [h]

theorem RegFile.word_setWord_ne (r : RegFile) (off off' : Nat) (v : Word) (h : off' ≠ off) : (r.setWord off v).word off' = r.word off' := by
  unfold RegFile.word
  rw [RegFile.lookup_setWord_ne _ _ _ _ h]

theorem RegFile.word_put_ne (r : RegFile) (f : Fld) (v off : Nat) (h : off ≠ f.off) : (r.put f v).word off = r.word off :=
  RegFile.word_setWord_ne _ _ _ _ h

theorem RegFile.word_put_self (r : RegFile) (f : Fld) (v : Nat) (h : f.lo ≤ f.hi) (h' : f.hi < 32) :
    ((r.put f v).word f.off).toNat = setBits (r.word f.off).toNat f.hi f.lo v := by
  unfold RegFile.put
  rw [RegFile.word_setWord_self, BitVec.toNat_ofNat]
  exact Nat.mod_eq_of_lt (setBits_lt _ _ _ _ _ h h' (r.word f.off).isLt)

/-- A field reads the value put into it, cut to its width. -/
theorem RegFile.get_put_self (r : RegFile) (f : Fld) (v : Nat) (h : f.lo ≤ f.hi) (h' : f.hi < 32) :
    (r.put f v).get f = v % 2 ^ (f.hi + 1 - f.lo) := by
  unfold RegFile.get
  rw [RegFile.word_put_self _ _ _ h h', bitsOf_setBits_self _ _ _ _ h]

/-- A field of another register reads as before. -/
theorem RegFile.get_put_off (r : RegFile) (f g : Fld) (v : Nat) (h : g.off ≠ f.off) : (r.put f v).get g = r.get g := by
  unfold RegFile.get
  rw [RegFile.word_put_ne _ _ _ _ h]

/-- A field of the same register that does not meet the one put reads as before. -/
theorem RegFile.get_put_apart (r : RegFile) (f g : Fld) (v : Nat) (h : f.lo ≤ f.hi) (h' : f.hi < 32) (hd : g.hi < f.lo ∨ f.hi < g.lo) :
    (r.put f v).get g = r.get g := by
  by_cases ho : g.off = f.off
  · unfold RegFile.get
    rw [ho, RegFile.word_put_self _ _ _ h h', bitsOf_setBits_ne _ _ _ _ _ _ h hd]
  · exact RegFile.get_put_off _ _ _ _ ho

end Sys2Proof.Machine
end

