-- ==== Sys2Proof/Laws/Keeps.lean ====
section
/-! SUPPORT. What an operation leaves alone, said once for every operation: the queue, the canonical form of the register file, and
every part of the state outside a mask of parts (bit k for part k in the order of `State`). -/

namespace Sys2Proof.Machine

/-- From `s` to `t` the queue is the same, the register file stays canonical, no free value is drawn again, and only the parts of the
mask `m` may differ. -/
structure Keeps (m : Nat) (s t : State) : Prop where
  pending : t.pending = s.pending
  wf : s.regs.wf = true → t.regs.wf = true
  free : s.freeCtr ≤ t.freeCtr
  regsSame : m.testBit 0 = false → t.regs = s.regs
  shadowSame : m.testBit 1 = false → t.shadow = s.shadow
  hostDataSame : m.testBit 2 = false → t.hostData = s.hostData
  freeCtrSame : m.testBit 3 = false → t.freeCtr = s.freeCtr
  frmSame : m.testBit 5 = false → t.frm = s.frm
  timSame : m.testBit 6 = false → t.tim = s.tim
  ethSame : m.testBit 7 = false → t.eth = s.eth
  sigSame : m.testBit 8 = false → t.sig = s.sig
  alnSame : m.testBit 9 = false → t.aln = s.aln
  estSame : m.testBit 10 = false → t.est = s.est
  rcdSame : m.testBit 11 = false → t.rcd = s.rcd
  rtcSame : m.testBit 12 = false → t.rtc = s.rtc
  gnsSame : m.testBit 13 = false → t.gns = s.gns
  hifSame : m.testBit 14 = false → t.hif = s.hif
  cleSame : m.testBit 15 = false → t.cle = s.cle
  alcSame : m.testBit 16 = false → t.alc = s.alc
  prfSame : m.testBit 17 = false → t.prf = s.prf
  canSame : m.testBit 18 = false → t.can = s.can
  redSame : m.testBit 19 = false → t.red = s.red
  safSame : m.testBit 20 = false → t.saf = s.saf
  sldSame : m.testBit 21 = false → t.sld = s.sld
  secSame : m.testBit 22 = false → t.sec = s.sec
  pwrSame : m.testBit 23 = false → t.pwr = s.pwr
  twinSame : m.testBit 24 = false → t.twin = s.twin
  ctrSame : m.testBit 25 = false → t.tim.ctr = s.tim.ctr
  doneSame : m.testBit 26 = false → t.frm.done = s.frm.done
  stepSame : m.testBit 27 = false → t.tim.step = s.tim.step
  supOkSame : m.testBit 28 = false → t.frm.supOk = s.frm.supOk
  pendSame : m.testBit 29 = false → t.frm.pend = s.frm.pend

theorem Keeps.refl {m : Nat} {s : State} : Keeps m s s where
  pending := rfl
  wf := id
  free := Nat.le_refl _
  regsSame := fun _ => rfl
  shadowSame := fun _ => rfl
  hostDataSame := fun _ => rfl
  freeCtrSame := fun _ => rfl
  frmSame := fun _ => rfl
  timSame := fun _ => rfl
  ethSame := fun _ => rfl
  sigSame := fun _ => rfl
  alnSame := fun _ => rfl
  estSame := fun _ => rfl
  rcdSame := fun _ => rfl
  rtcSame := fun _ => rfl
  gnsSame := fun _ => rfl
  hifSame := fun _ => rfl
  cleSame := fun _ => rfl
  alcSame := fun _ => rfl
  prfSame := fun _ => rfl
  canSame := fun _ => rfl
  redSame := fun _ => rfl
  safSame := fun _ => rfl
  sldSame := fun _ => rfl
  secSame := fun _ => rfl
  pwrSame := fun _ => rfl
  twinSame := fun _ => rfl
  ctrSame := fun _ => rfl
  doneSame := fun _ => rfl
  stepSame := fun _ => rfl
  supOkSame := fun _ => rfl
  pendSame := fun _ => rfl

/-- A bit outside a larger mask is outside a smaller one. -/
theorem testBit_sub {n m i : Nat} (hm : n ||| m = m) (hi : m.testBit i = false) : n.testBit i = false := by
  rw [← hm, Nat.testBit_or] at hi
  simpa using (Bool.or_eq_false_iff.mp hi).1

theorem Keeps.step {m n : Nat} {s x y : State} (h : Keeps m s x) (k : Keeps n x y) (hm : n ||| m = m) : Keeps m s y where
  pending := k.pending.trans h.pending
  wf := fun w => k.wf (h.wf w)
  free := Nat.le_trans h.free k.free
  regsSame := fun hi => (k.regsSame (testBit_sub hm hi)).trans (h.regsSame hi)
  shadowSame := fun hi => (k.shadowSame (testBit_sub hm hi)).trans (h.shadowSame hi)
  hostDataSame := fun hi => (k.hostDataSame (testBit_sub hm hi)).trans (h.hostDataSame hi)
  freeCtrSame := fun hi => (k.freeCtrSame (testBit_sub hm hi)).trans (h.freeCtrSame hi)
  frmSame := fun hi => (k.frmSame (testBit_sub hm hi)).trans (h.frmSame hi)
  timSame := fun hi => (k.timSame (testBit_sub hm hi)).trans (h.timSame hi)
  ethSame := fun hi => (k.ethSame (testBit_sub hm hi)).trans (h.ethSame hi)
  sigSame := fun hi => (k.sigSame (testBit_sub hm hi)).trans (h.sigSame hi)
  alnSame := fun hi => (k.alnSame (testBit_sub hm hi)).trans (h.alnSame hi)
  estSame := fun hi => (k.estSame (testBit_sub hm hi)).trans (h.estSame hi)
  rcdSame := fun hi => (k.rcdSame (testBit_sub hm hi)).trans (h.rcdSame hi)
  rtcSame := fun hi => (k.rtcSame (testBit_sub hm hi)).trans (h.rtcSame hi)
  gnsSame := fun hi => (k.gnsSame (testBit_sub hm hi)).trans (h.gnsSame hi)
  hifSame := fun hi => (k.hifSame (testBit_sub hm hi)).trans (h.hifSame hi)
  cleSame := fun hi => (k.cleSame (testBit_sub hm hi)).trans (h.cleSame hi)
  alcSame := fun hi => (k.alcSame (testBit_sub hm hi)).trans (h.alcSame hi)
  prfSame := fun hi => (k.prfSame (testBit_sub hm hi)).trans (h.prfSame hi)
  canSame := fun hi => (k.canSame (testBit_sub hm hi)).trans (h.canSame hi)
  redSame := fun hi => (k.redSame (testBit_sub hm hi)).trans (h.redSame hi)
  safSame := fun hi => (k.safSame (testBit_sub hm hi)).trans (h.safSame hi)
  sldSame := fun hi => (k.sldSame (testBit_sub hm hi)).trans (h.sldSame hi)
  secSame := fun hi => (k.secSame (testBit_sub hm hi)).trans (h.secSame hi)
  pwrSame := fun hi => (k.pwrSame (testBit_sub hm hi)).trans (h.pwrSame hi)
  twinSame := fun hi => (k.twinSame (testBit_sub hm hi)).trans (h.twinSame hi)
  ctrSame := fun hi => (k.ctrSame (testBit_sub hm hi)).trans (h.ctrSame hi)
  doneSame := fun hi => (k.doneSame (testBit_sub hm hi)).trans (h.doneSame hi)
  stepSame := fun hi => (k.stepSame (testBit_sub hm hi)).trans (h.stepSame hi)
  supOkSame := fun hi => (k.supOkSame (testBit_sub hm hi)).trans (h.supOkSame hi)
  pendSame := fun hi => (k.pendSame (testBit_sub hm hi)).trans (h.pendSame hi)

theorem Keeps.ite_keep {m : Nat} {s a b : State} {c : Prop} [Decidable c] (ha : Keeps m s a) (hb : Keeps m s b) :
    Keeps m s (if c then a else b) := by
  split <;> assumption

theorem Keeps.alc_keep {m : Nat} {s x : State} {v0 : AlcState} (h : Keeps m s x) (hm : 65536 ||| m = m) :
    Keeps m s { x with alc := v0 } := by
  refine h.step (n := 65536) ?_ hm
  constructor <;> first | rfl | exact id | exact Nat.le_refl _ | (intro hi; first | rfl | (exact absurd hi (by decide)))

theorem Keeps.alc_red_twin_keep {m : Nat} {s x : State} {v0 : AlcState} {v1 : RedState} {v2 : Option LaneCopy} (h : Keeps m s x) (hm : 17367040 ||| m = m) :
    Keeps m s { x with alc := v0, red := v1, twin := v2 } := by
  refine h.step (n := 17367040) ?_ hm
  constructor <;> first | rfl | exact id | exact Nat.le_refl _ | (intro hi; first | rfl | (exact absurd hi (by decide)))

theorem Keeps.aln_keep {m : Nat} {s x : State} {v0 : AlnState} (h : Keeps m s x) (hm : 512 ||| m = m) :
    Keeps m s { x with aln := v0 } := by
  refine h.step (n := 512) ?_ hm
  constructor <;> first | rfl | exact id | exact Nat.le_refl _ | (intro hi; first | rfl | (exact absurd hi (by decide)))

theorem Keeps.aln_est_keep {m : Nat} {s x : State} {v0 : AlnState} {v1 : EstState} (h : Keeps m s x) (hm : 1536 ||| m = m) :
    Keeps m s { x with aln := v0, est := v1 } := by
  refine h.step (n := 1536) ?_ hm
  constructor <;> first | rfl | exact id | exact Nat.le_refl _ | (intro hi; first | rfl | (exact absurd hi (by decide)))

theorem Keeps.can_keep {m : Nat} {s x : State} {v0 : CanState} (h : Keeps m s x) (hm : 262144 ||| m = m) :
    Keeps m s { x with can := v0 } := by
  refine h.step (n := 262144) ?_ hm
  constructor <;> first | rfl | exact id | exact Nat.le_refl _ | (intro hi; first | rfl | (exact absurd hi (by decide)))

theorem Keeps.cle_keep {m : Nat} {s x : State} {v0 : CleState} (h : Keeps m s x) (hm : 32768 ||| m = m) :
    Keeps m s { x with cle := v0 } := by
  refine h.step (n := 32768) ?_ hm
  constructor <;> first | rfl | exact id | exact Nat.le_refl _ | (intro hi; first | rfl | (exact absurd hi (by decide)))

theorem Keeps.est_keep {m : Nat} {s x : State} {v0 : EstState} (h : Keeps m s x) (hm : 1024 ||| m = m) :
    Keeps m s { x with est := v0 } := by
  refine h.step (n := 1024) ?_ hm
  constructor <;> first | rfl | exact id | exact Nat.le_refl _ | (intro hi; first | rfl | (exact absurd hi (by decide)))

theorem Keeps.eth_keep {m : Nat} {s x : State} {v0 : EthState} (h : Keeps m s x) (hm : 128 ||| m = m) :
    Keeps m s { x with eth := v0 } := by
  refine h.step (n := 128) ?_ hm
  constructor <;> first | rfl | exact id | exact Nat.le_refl _ | (intro hi; first | rfl | (exact absurd hi (by decide)))

theorem Keeps.frm_keep {m : Nat} {s x : State} {v0 : FrmState} (h : Keeps m s x) (hm : 32 ||| m = m) (hdone : v0.done = x.frm.done) (hsupOk : v0.supOk = x.frm.supOk) (hpend : v0.pend = x.frm.pend) :
    Keeps m s { x with frm := v0 } := by
  refine h.step (n := 32) ?_ hm
  constructor <;> first | rfl | exact id | exact Nat.le_refl _ | (intro hi; first | rfl | (exact absurd hi (by decide)) | assumption)

theorem Keeps.frm_done_keep {m : Nat} {s x : State} {v0 : FrmState} (h : Keeps m s x) (hm : 67108896 ||| m = m) (hsupOk : v0.supOk = x.frm.supOk) (hpend : v0.pend = x.frm.pend) :
    Keeps m s { x with frm := v0 } := by
  refine h.step (n := 67108896) ?_ hm
  constructor <;> first | rfl | exact id | exact Nat.le_refl _ | (intro hi; first | rfl | (exact absurd hi (by decide)) | assumption)

theorem Keeps.frm_done_supOk_pend_keep {m : Nat} {s x : State} {v0 : FrmState} (h : Keeps m s x) (hm : 872415264 ||| m = m) :
    Keeps m s { x with frm := v0 } := by
  refine h.step (n := 872415264) ?_ hm
  constructor <;> first | rfl | exact id | exact Nat.le_refl _ | (intro hi; first | rfl | (exact absurd hi (by decide)))

theorem Keeps.frm_pend_keep {m : Nat} {s x : State} {v0 : FrmState} (h : Keeps m s x) (hm : 536870944 ||| m = m) (hdone : v0.done = x.frm.done) (hsupOk : v0.supOk = x.frm.supOk) :
    Keeps m s { x with frm := v0 } := by
  refine h.step (n := 536870944) ?_ hm
  constructor <;> first | rfl | exact id | exact Nat.le_refl _ | (intro hi; first | rfl | (exact absurd hi (by decide)) | assumption)

theorem Keeps.frm_red_twin_done_supOk_keep {m : Nat} {s x : State} {v0 : FrmState} {v1 : RedState} {v2 : Option LaneCopy} (h : Keeps m s x) (hm : 352845856 ||| m = m) (hpend : v0.pend = x.frm.pend) :
    Keeps m s { x with frm := v0, red := v1, twin := v2 } := by
  refine h.step (n := 352845856) ?_ hm
  constructor <;> first | rfl | exact id | exact Nat.le_refl _ | (intro hi; first | rfl | (exact absurd hi (by decide)) | assumption)

theorem Keeps.frm_supOk_keep {m : Nat} {s x : State} {v0 : FrmState} (h : Keeps m s x) (hm : 268435488 ||| m = m) (hdone : v0.done = x.frm.done) (hpend : v0.pend = x.frm.pend) :
    Keeps m s { x with frm := v0 } := by
  refine h.step (n := 268435488) ?_ hm
  constructor <;> first | rfl | exact id | exact Nat.le_refl _ | (intro hi; first | rfl | (exact absurd hi (by decide)) | assumption)

theorem Keeps.gns_keep {m : Nat} {s x : State} {v0 : GnsState} (h : Keeps m s x) (hm : 8192 ||| m = m) :
    Keeps m s { x with gns := v0 } := by
  refine h.step (n := 8192) ?_ hm
  constructor <;> first | rfl | exact id | exact Nat.le_refl _ | (intro hi; first | rfl | (exact absurd hi (by decide)))

theorem Keeps.hif_keep {m : Nat} {s x : State} {v0 : HifState} (h : Keeps m s x) (hm : 16384 ||| m = m) :
    Keeps m s { x with hif := v0 } := by
  refine h.step (n := 16384) ?_ hm
  constructor <;> first | rfl | exact id | exact Nat.le_refl _ | (intro hi; first | rfl | (exact absurd hi (by decide)))

theorem Keeps.hostData_keep {m : Nat} {s x : State} {v0 : Nat} (h : Keeps m s x) (hm : 4 ||| m = m) :
    Keeps m s { x with hostData := v0 } := by
  refine h.step (n := 4) ?_ hm
  constructor <;> first | rfl | exact id | exact Nat.le_refl _ | (intro hi; first | rfl | (exact absurd hi (by decide)))

theorem Keeps.hostData_tim_keep {m : Nat} {s x : State} {v0 : Nat} {v1 : TimState} (h : Keeps m s x) (hm : 68 ||| m = m) (hctr : v1.ctr = x.tim.ctr) (hstep : v1.step = x.tim.step) :
    Keeps m s { x with hostData := v0, tim := v1 } := by
  refine h.step (n := 68) ?_ hm
  constructor <;> first | rfl | exact id | exact Nat.le_refl _ | (intro hi; first | rfl | (exact absurd hi (by decide)) | assumption)

theorem Keeps.prf_keep {m : Nat} {s x : State} {v0 : PrfState} (h : Keeps m s x) (hm : 131072 ||| m = m) :
    Keeps m s { x with prf := v0 } := by
  refine h.step (n := 131072) ?_ hm
  constructor <;> first | rfl | exact id | exact Nat.le_refl _ | (intro hi; first | rfl | (exact absurd hi (by decide)))

theorem Keeps.pwr_keep {m : Nat} {s x : State} {v0 : PwrState} (h : Keeps m s x) (hm : 8388608 ||| m = m) :
    Keeps m s { x with pwr := v0 } := by
  refine h.step (n := 8388608) ?_ hm
  constructor <;> first | rfl | exact id | exact Nat.le_refl _ | (intro hi; first | rfl | (exact absurd hi (by decide)))

theorem Keeps.rcd_keep {m : Nat} {s x : State} {v0 : RecState} (h : Keeps m s x) (hm : 2048 ||| m = m) :
    Keeps m s { x with rcd := v0 } := by
  refine h.step (n := 2048) ?_ hm
  constructor <;> first | rfl | exact id | exact Nat.le_refl _ | (intro hi; first | rfl | (exact absurd hi (by decide)))

theorem Keeps.rcd_gns_keep {m : Nat} {s x : State} {v0 : RecState} {v1 : GnsState} (h : Keeps m s x) (hm : 10240 ||| m = m) :
    Keeps m s { x with rcd := v0, gns := v1 } := by
  refine h.step (n := 10240) ?_ hm
  constructor <;> first | rfl | exact id | exact Nat.le_refl _ | (intro hi; first | rfl | (exact absurd hi (by decide)))

theorem Keeps.red_keep {m : Nat} {s x : State} {v0 : RedState} (h : Keeps m s x) (hm : 524288 ||| m = m) :
    Keeps m s { x with red := v0 } := by
  refine h.step (n := 524288) ?_ hm
  constructor <;> first | rfl | exact id | exact Nat.le_refl _ | (intro hi; first | rfl | (exact absurd hi (by decide)))

theorem Keeps.rtc_keep {m : Nat} {s x : State} {v0 : RtcState} (h : Keeps m s x) (hm : 4096 ||| m = m) :
    Keeps m s { x with rtc := v0 } := by
  refine h.step (n := 4096) ?_ hm
  constructor <;> first | rfl | exact id | exact Nat.le_refl _ | (intro hi; first | rfl | (exact absurd hi (by decide)))

theorem Keeps.saf_keep {m : Nat} {s x : State} {v0 : SafState} (h : Keeps m s x) (hm : 1048576 ||| m = m) :
    Keeps m s { x with saf := v0 } := by
  refine h.step (n := 1048576) ?_ hm
  constructor <;> first | rfl | exact id | exact Nat.le_refl _ | (intro hi; first | rfl | (exact absurd hi (by decide)))

theorem Keeps.saf_sec_keep {m : Nat} {s x : State} {v0 : SafState} {v1 : SecState} (h : Keeps m s x) (hm : 5242880 ||| m = m) :
    Keeps m s { x with saf := v0, sec := v1 } := by
  refine h.step (n := 5242880) ?_ hm
  constructor <;> first | rfl | exact id | exact Nat.le_refl _ | (intro hi; first | rfl | (exact absurd hi (by decide)))

theorem Keeps.sec_keep {m : Nat} {s x : State} {v0 : SecState} (h : Keeps m s x) (hm : 4194304 ||| m = m) :
    Keeps m s { x with sec := v0 } := by
  refine h.step (n := 4194304) ?_ hm
  constructor <;> first | rfl | exact id | exact Nat.le_refl _ | (intro hi; first | rfl | (exact absurd hi (by decide)))

theorem Keeps.shadow_keep {m : Nat} {s x : State} {v0 : List (Nat × Nat)} (h : Keeps m s x) (hm : 2 ||| m = m) :
    Keeps m s { x with shadow := v0 } := by
  refine h.step (n := 2) ?_ hm
  constructor <;> first | rfl | exact id | exact Nat.le_refl _ | (intro hi; first | rfl | (exact absurd hi (by decide)))

theorem Keeps.sig_keep {m : Nat} {s x : State} {v0 : SigState} (h : Keeps m s x) (hm : 256 ||| m = m) :
    Keeps m s { x with sig := v0 } := by
  refine h.step (n := 256) ?_ hm
  constructor <;> first | rfl | exact id | exact Nat.le_refl _ | (intro hi; first | rfl | (exact absurd hi (by decide)))

theorem Keeps.sld_keep {m : Nat} {s x : State} {v0 : SealState} (h : Keeps m s x) (hm : 2097152 ||| m = m) :
    Keeps m s { x with sld := v0 } := by
  refine h.step (n := 2097152) ?_ hm
  constructor <;> first | rfl | exact id | exact Nat.le_refl _ | (intro hi; first | rfl | (exact absurd hi (by decide)))

theorem Keeps.tim_keep {m : Nat} {s x : State} {v0 : TimState} (h : Keeps m s x) (hm : 64 ||| m = m) (hctr : v0.ctr = x.tim.ctr) (hstep : v0.step = x.tim.step) :
    Keeps m s { x with tim := v0 } := by
  refine h.step (n := 64) ?_ hm
  constructor <;> first | rfl | exact id | exact Nat.le_refl _ | (intro hi; first | rfl | (exact absurd hi (by decide)) | assumption)

theorem Keeps.tim_ctr_keep {m : Nat} {s x : State} {v0 : TimState} (h : Keeps m s x) (hm : 33554496 ||| m = m) (hstep : v0.step = x.tim.step) :
    Keeps m s { x with tim := v0 } := by
  refine h.step (n := 33554496) ?_ hm
  constructor <;> first | rfl | exact id | exact Nat.le_refl _ | (intro hi; first | rfl | (exact absurd hi (by decide)) | assumption)

theorem Keeps.tim_ctr_step_keep {m : Nat} {s x : State} {v0 : TimState} (h : Keeps m s x) (hm : 167772224 ||| m = m) :
    Keeps m s { x with tim := v0 } := by
  refine h.step (n := 167772224) ?_ hm
  constructor <;> first | rfl | exact id | exact Nat.le_refl _ | (intro hi; first | rfl | (exact absurd hi (by decide)))

theorem Keeps.tim_eth_sig_hif_cle_prf_red_keep {m : Nat} {s x : State} {v0 : TimState} {v1 : EthState} {v2 : SigState} {v3 : HifState} {v4 : CleState} {v5 : PrfState} {v6 : RedState} (h : Keeps m s x) (hm : 704960 ||| m = m) (hctr : v0.ctr = x.tim.ctr) (hstep : v0.step = x.tim.step) :
    Keeps m s { x with tim := v0, eth := v1, sig := v2, hif := v3, cle := v4, prf := v5, red := v6 } := by
  refine h.step (n := 704960) ?_ hm
  constructor <;> first | rfl | exact id | exact Nat.le_refl _ | (intro hi; first | rfl | (exact absurd hi (by decide)) | assumption)

theorem Keeps.tim_rtc_ctr_keep {m : Nat} {s x : State} {v0 : TimState} {v1 : RtcState} (h : Keeps m s x) (hm : 33558592 ||| m = m) (hstep : v0.step = x.tim.step) :
    Keeps m s { x with tim := v0, rtc := v1 } := by
  refine h.step (n := 33558592) ?_ hm
  constructor <;> first | rfl | exact id | exact Nat.le_refl _ | (intro hi; first | rfl | (exact absurd hi (by decide)) | assumption)

theorem Keeps.tim_step_keep {m : Nat} {s x : State} {v0 : TimState} (h : Keeps m s x) (hm : 134217792 ||| m = m) (hctr : v0.ctr = x.tim.ctr) :
    Keeps m s { x with tim := v0 } := by
  refine h.step (n := 134217792) ?_ hm
  constructor <;> first | rfl | exact id | exact Nat.le_refl _ | (intro hi; first | rfl | (exact absurd hi (by decide)) | assumption)

theorem Keeps.twin_keep {m : Nat} {s x : State} {v0 : Option LaneCopy} (h : Keeps m s x) (hm : 16777216 ||| m = m) :
    Keeps m s { x with twin := v0 } := by
  refine h.step (n := 16777216) ?_ hm
  constructor <;> first | rfl | exact id | exact Nat.le_refl _ | (intro hi; first | rfl | (exact absurd hi (by decide)))

theorem Keeps.regs_rcd_rtc_keep {m : Nat} {s x : State} {r : RegFile} {a b} (h : Keeps m s x) (hm : 6145 ||| m = m)
    (hr : x.regs.wf = true → r.wf = true) : Keeps m s { x with regs := r, rcd := a, rtc := b } := by
  refine h.step (n := 6145) ?_ hm
  constructor <;> first | rfl | exact hr | exact Nat.le_refl _ | (intro hi; first | rfl | (exact absurd hi (by decide)))

theorem Keeps.regs_keep {m : Nat} {s x : State} {r : RegFile} (h : Keeps m s x) (hm : 1 ||| m = m) (hr : x.regs.wf = true → r.wf = true) :
    Keeps m s { x with regs := r } := by
  refine h.step (n := 1) ?_ hm
  constructor <;> first | rfl | exact hr | exact Nat.le_refl _ | (intro hi; first | rfl | (exact absurd hi (by decide)))

theorem Keeps.freeCtr_keep {m : Nat} {s x : State} {v : Nat} (h : Keeps m s x) (hm : 8 ||| m = m) (hv : x.freeCtr ≤ v) :
    Keeps m s { x with freeCtr := v } := by
  refine h.step (n := 8) ?_ hm
  constructor <;> first | rfl | exact id | exact hv | (intro hi; first | rfl | (exact absurd hi (by decide)))

theorem Keeps.cut {m : Nat} {s x y : State} (hx : Keeps m s x) (hy : Keeps m s x → Keeps m s y) : Keeps m s y :=
  hy hx

theorem Keeps.foldl_keep {α : Type} {m : Nat} {s x : State} {f : State → α → State} {l : List α} (h : Keeps m s x)
    (hf : ∀ y a, Keeps m s y → Keeps m s (f y a)) : Keeps m s (l.foldl f x) := by
  induction l generalizing x with
  | nil => exact h
  | cons a t ih => exact ih (hf x a h)

theorem Keeps.foldl_fst_keep {α β : Type} {m : Nat} {s : State} {x : State × β} {f : State × β → α → State × β} {l : List α}
    (h : Keeps m s x.1) (hf : ∀ y a, Keeps m s y.1 → Keeps m s (f y a).1) : Keeps m s (l.foldl f x).1 := by
  induction l generalizing x with
  | nil => exact h
  | cons a t ih => exact ih (hf x a h)

theorem Keeps.ite_fst {α : Type} {m : Nat} {s : State} {a b : State × α} {c : Prop} [Decidable c] (ha : Keeps m s a.1) (hb : Keeps m s b.1) :
    Keeps m s (if c then a else b).1 := by
  split <;> assumption

theorem Keeps.mk_fst {α : Type} {m : Nat} {s a : State} {b : α} (h : Keeps m s a) : Keeps m s (a, b).1 := h

theorem Keeps.proj {α : Type} {m : Nat} {s : State} {p q : State × α} (h : Keeps m s q.1) (e : p = q) : Keeps m s p.1 := e ▸ h

theorem Keeps.sub {a b c : Nat} (hb : b ||| c = c) (ha : a ||| b = b) : a ||| c = c := by
  rw [← hb, ← Nat.or_assoc, ha]

/-- An outcome whose next state, if any, is kept. -/
def KeepsOut (m : Nat) (s : State) (o : Host.Outcome State Fault Refusal) : Prop := ∀ t, o = .next t → Keeps m s t

theorem KeepsOut.next {m : Nat} {s t : State} (h : Keeps m s t) : KeepsOut m s (.next t) := by
  intro u e
  injection e with e
  exact e ▸ h

theorem KeepsOut.ite {m : Nat} {s : State} {a b : Host.Outcome State Fault Refusal} {c : Prop} [Decidable c] (ha : KeepsOut m s a)
    (hb : KeepsOut m s b) : KeepsOut m s (if c then a else b) := by
  split <;> assumption

theorem Keeps.fst {α : Type} {m : Nat} {s a : State} {b : α} {p : State × α} (e : p = (a, b)) (h : Keeps m s p.1) : Keeps m s a := by
  rw [e] at h
  exact h

end Sys2Proof.Machine
end

