-- ==== Sys2Proof/Laws/KeepOps.lean ====
section
/-! SUPPORT. What the functions of Machine/Ops.lean leave alone (see Laws/Keeps.lean). -/

namespace Sys2Proof.Machine

open Sys2Proof

theorem State.put_keep {m : Nat} {s0 s : State} (h : Keeps m s0 s) (hm : 1 ||| m = m) {f : Fld} {v : Nat} : Keeps m s0 (s.put f v) :=
  Keeps.regs_keep h hm (RegFile.put_wf _ _ _)

theorem State.putB_keep {mk : Nat} {sb s : State} (hk : Keeps mk sb s) (hmk : 1 ||| mk = mk) {f : Fld} {b : Bool} :
    Keeps mk sb (State.putB s f b) := by
  refine Keeps.step hk ?_ hmk
  have h_self : Keeps 1 s s := Keeps.refl
  unfold State.putB
  exact (State.put_keep h_self rfl)

theorem State.putI_keep {mk : Nat} {sb s : State} (hk : Keeps mk sb s) (hmk : 1 ||| mk = mk) {f : Fld} {x : Int} :
    Keeps mk sb (State.putI s f x) := by
  refine Keeps.step hk ?_ hmk
  have h_self : Keeps 1 s s := Keeps.refl
  unfold State.putI
  exact (State.put_keep h_self rfl)

theorem State.putSat_keep {mk : Nat} {sb s : State} (hk : Keeps mk sb s) (hmk : 1 ||| mk = mk) {f : Fld} {x : Int} :
    Keeps mk sb (State.putSat s f x) := by
  refine Keeps.step hk ?_ hmk
  have h_self : Keeps 1 s s := Keeps.refl
  unfold State.putSat
  exact (State.putI_keep h_self rfl)

theorem State.inc_keep {mk : Nat} {sb s : State} (hk : Keeps mk sb s) (hmk : 1 ||| mk = mk) {f : Fld} :
    Keeps mk sb (State.inc s f) := by
  refine Keeps.step hk ?_ hmk
  have h_self : Keeps 1 s s := Keeps.refl
  unfold State.inc
  exact (State.put_keep h_self rfl)

theorem State.incWrap_keep {mk : Nat} {sb s : State} (hk : Keeps mk sb s) (hmk : 1 ||| mk = mk) {f : Fld} :
    Keeps mk sb (State.incWrap s f) := by
  refine Keeps.step hk ?_ hmk
  have h_self : Keeps 1 s s := Keeps.refl
  unfold State.incWrap
  exact (State.put_keep h_self rfl)

theorem State.putMax_keep {mk : Nat} {sb s : State} (hk : Keeps mk sb s) (hmk : 1 ||| mk = mk) {f : Fld} {v : Nat} :
    Keeps mk sb (State.putMax s f v) := by
  refine Keeps.step hk ?_ hmk
  have h_self : Keeps 1 s s := Keeps.refl
  unfold State.putMax
  exact (State.put_keep h_self rfl)

theorem State.orBits_keep {mk : Nat} {sb s : State} (hk : Keeps mk sb s) (hmk : 1 ||| mk = mk) {f : Fld} {m : Nat} :
    Keeps mk sb (State.orBits s f m) := by
  refine Keeps.step hk ?_ hmk
  have h_self : Keeps 1 s s := Keeps.refl
  unfold State.orBits
  exact (State.put_keep h_self rfl)

theorem State.putBit_keep {mk : Nat} {sb s : State} (hk : Keeps mk sb s) (hmk : 1 ||| mk = mk) {f : Fld} {k : Nat} {b : Bool} :
    Keeps mk sb (State.putBit s f k b) := by
  refine Keeps.step hk ?_ hmk
  have h_self : Keeps 1 s s := Keeps.refl
  unfold State.putBit
  exact (State.put_keep h_self rfl)

theorem State.setWord_keep {m : Nat} {s0 s : State} (h : Keeps m s0 s) (hm : 1 ||| m = m) {off v : Nat} : Keeps m s0 (s.setWord off v) :=
  Keeps.regs_keep h hm (RegFile.setWord_wf _ _ _)

theorem State.setWords_keep {m : Nat} {s0 s : State} (h : Keeps m s0 s) (hm : 1 ||| m = m) {off : Nat} {l : List Nat} :
    Keeps m s0 (s.setWords off l) := by
  induction l generalizing s off with
  | nil => exact h
  | cons w t ih => exact ih (State.setWord_keep h hm)

theorem State.when_keep {m : Nat} {s0 s : State} {b : Bool} {f : State → State} (h : Keeps m s0 s)
    (hf : ∀ x, Keeps m s0 x → Keeps m s0 (f x)) : Keeps m s0 (s.when b f) := by
  unfold State.when
  cases b
  · exact h
  · exact hf s h

theorem State.each_keep {α : Type} {m : Nat} {s0 s : State} {l : List α} {f : State → α → State} (h : Keeps m s0 s)
    (hf : ∀ x a, Keeps m s0 x → Keeps m s0 (f x a)) : Keeps m s0 (s.each l f) := by
  unfold State.each
  induction l generalizing s with
  | nil => exact h
  | cons a t ih => exact ih (hf s a h)

theorem State.drawn_keep {m : Nat} {s0 s : State} (h : Keeps m s0 s) (hm : 8 ||| m = m) : Keeps m s0 s.drawn :=
  Keeps.freeCtr_keep h hm (Nat.le_succ _)

theorem State.edges_keep {mk : Nat} {sb s : State} (hk : Keeps mk sb s) (hmk : 33558592 ||| mk = mk) {n : Nat} :
    Keeps mk sb (State.edges s n) := by
  refine Keeps.step hk ?_ hmk
  have h_self : Keeps 33558592 s s := Keeps.refl
  unfold State.edges
  extract_lets -merge -useContext -underBinder +onlyGivenNames q1
  exact (Keeps.tim_rtc_ctr_keep h_self rfl (by rfl))

theorem State.runTo_keep {mk : Nat} {sb s : State} (hk : Keeps mk sb s) (hmk : 33558592 ||| mk = mk) {t : Nat} :
    Keeps mk sb (State.runTo s t) := by
  refine Keeps.step hk ?_ hmk
  have h_self : Keeps 33558592 s s := Keeps.refl
  unfold State.runTo
  exact (Keeps.ite_keep (State.edges_keep h_self rfl) h_self)

theorem State.runInside_keep {mk : Nat} {sb s : State} (hk : Keeps mk sb s) (hmk : 33558592 ||| mk = mk) {t : Nat} :
    Keeps mk sb (State.runInside s t) := by
  refine Keeps.step hk ?_ hmk
  have h_self : Keeps 33558592 s s := Keeps.refl
  unfold State.runInside
  extract_lets -merge -useContext -underBinder +onlyGivenNames lim1
  exact (Keeps.ite_keep (Keeps.ite_keep (State.edges_keep h_self rfl) h_self) h_self)

theorem State.ringWrite_keep {mk : Nat} {sb s : State} (hk : Keeps mk sb s) (hmk : 2049 ||| mk = mk) {kind src cause slot : Nat} :
    Keeps mk sb (State.ringWrite s kind src cause slot) := by
  refine Keeps.step hk ?_ hmk
  have h_self : Keeps 2049 s s := Keeps.refl
  unfold State.ringWrite
  extract_lets -merge -useContext -underBinder +onlyGivenNames seq1 wr2 e3 full4 q5 s16 s27
  have h_s16 : Keeps 2049 s s16 := (Keeps.rcd_keep h_self rfl)
  have h_s27 : Keeps 2049 s s27 := (State.put_keep (State.put_keep (State.put_keep h_s16 rfl) rfl) rfl)
  exact (Keeps.ite_keep (State.put_keep (State.inc_keep h_s27 rfl) rfl) (State.put_keep h_s27 rfl))

theorem State.pendEvent_keep {mk : Nat} {sb s : State} (hk : Keeps mk sb s) (hmk : 1 ||| mk = mk) {e : Nat} :
    Keeps mk sb (State.pendEvent s e) := by
  refine Keeps.step hk ?_ hmk
  have h_self : Keeps 1 s s := Keeps.refl
  unfold State.pendEvent
  exact (State.orBits_keep (State.orBits_keep h_self rfl) rfl)

theorem State.gaspEvent_keep {mk : Nat} {sb s : State} (hk : Keeps mk sb s) (hmk : 2081 ||| mk = mk) :
    Keeps mk sb (State.gaspEvent s) := by
  refine Keeps.step hk ?_ hmk
  have h_self : Keeps 2081 s s := Keeps.refl
  unfold State.gaspEvent
  extract_lets -merge -useContext -underBinder +onlyGivenNames s11 q2
  have h_s11 : Keeps 2081 s s11 := (State.when_keep h_self (fun x3_0 h_x3_0 => (State.ringWrite_keep h_x3_0 rfl)))
  exact (Keeps.ite_keep h_self (State.pendEvent_keep (Keeps.frm_keep h_s11 rfl (by rfl) (by rfl) (by rfl)) rfl))

theorem State.trigger_keep {mk : Nat} {sb s : State} (hk : Keeps mk sb s) (hmk : 2081 ||| mk = mk) {e : Nat} :
    Keeps mk sb (State.trigger s e) := by
  refine Keeps.step hk ?_ hmk
  have h_self : Keeps 2081 s s := Keeps.refl
  unfold State.trigger
  extract_lets -merge -useContext -underBinder +onlyGivenNames late1 q2
  exact (Keeps.ite_keep (Keeps.ite_keep (State.gaspEvent_keep (State.ringWrite_keep h_self rfl) rfl) (Keeps.rcd_keep h_self rfl)) h_self)

theorem State.raise_keep {mk : Nat} {sb s : State} (hk : Keeps mk sb s) (hmk : 2081 ||| mk = mk) {e : Nat} :
    Keeps mk sb (State.raise s e) := by
  refine Keeps.step hk ?_ hmk
  have h_self : Keeps 2081 s s := Keeps.refl
  unfold State.raise
  exact (State.pendEvent_keep (State.trigger_keep h_self rfl) rfl)

theorem State.raiseMajor_keep {mk : Nat} {sb s : State} (hk : Keeps mk sb s) (hmk : 2081 ||| mk = mk) {e : Nat} :
    Keeps mk sb (State.raiseMajor s e) := by
  refine Keeps.step hk ?_ hmk
  have h_self : Keeps 2081 s s := Keeps.refl
  unfold State.raiseMajor
  extract_lets -merge -useContext -underBinder +onlyGivenNames q1
  exact (Keeps.ite_keep h_self (State.raise_keep (Keeps.frm_keep h_self rfl (by rfl) (by rfl) (by rfl)) rfl))

theorem State.raiseMinor_keep {mk : Nat} {sb s : State} (hk : Keeps mk sb s) (hmk : 2081 ||| mk = mk) {e : Nat} :
    Keeps mk sb (State.raiseMinor s e) := by
  refine Keeps.step hk ?_ hmk
  have h_self : Keeps 2081 s s := Keeps.refl
  unfold State.raiseMinor
  extract_lets -merge -useContext -underBinder +onlyGivenNames q1
  exact (Keeps.ite_keep h_self (State.raise_keep (Keeps.frm_keep h_self rfl (by rfl) (by rfl) (by rfl)) rfl))

theorem State.setRaise_keep {mk : Nat} {sb s : State} (hk : Keeps mk sb s) (hmk : 2081 ||| mk = mk) {f : Fld} {e : Nat} :
    Keeps mk sb (State.setRaise s f e) := by
  refine Keeps.step hk ?_ hmk
  have h_self : Keeps 2081 s s := Keeps.refl
  unfold State.setRaise
  exact (Keeps.ite_keep h_self (State.raise_keep (State.put_keep h_self rfl) rfl))

theorem State.accErr_keep {mk : Nat} {sb s : State} (hk : Keeps mk sb s) (hmk : 2081 ||| mk = mk) {f : Fld} {port off : Nat} :
    Keeps mk sb (State.accErr s f port off) := by
  refine Keeps.step hk ?_ hmk
  have h_self : Keeps 2081 s s := Keeps.refl
  unfold State.accErr
  extract_lets -merge -useContext -underBinder +onlyGivenNames first1 s12
  have h_s12 : Keeps 2081 s s12 := (State.when_keep h_self (fun x3_0 h_x3_0 => (State.put_keep (State.put_keep h_x3_0 rfl) rfl)))
  exact (State.setRaise_keep h_s12 rfl)

theorem State.hostItem_keep {mk : Nat} {sb s : State} (hk : Keeps mk sb s) (hmk : 16384 ||| mk = mk) {x : RxItem} :
    Keeps mk sb (State.hostItem s x) := by
  refine Keeps.step hk ?_ hmk
  have h_self : Keeps 16384 s s := Keeps.refl
  unfold State.hostItem
  extract_lets -merge -useContext -underBinder +onlyGivenNames q1
  exact (Keeps.hif_keep h_self rfl)

theorem State.latch_keep {mk : Nat} {sb s : State} (hk : Keeps mk sb s) (hmk : 2 ||| mk = mk) {l : List (Nat × Nat)} :
    Keeps mk sb (State.latch s l) := by
  refine Keeps.step hk ?_ hmk
  have h_self : Keeps 2 s s := Keeps.refl
  unfold State.latch
  exact (Keeps.shadow_keep h_self rfl)

theorem RegFile.withLane_wf (r : RegFile) (ws : List (Nat × Word)) (h : r.wf = true) : (r.withLane ws).wf = true := by
  unfold RegFile.withLane
  suffices ∀ (l : List (Nat × Word)) (x : RegFile), x.wf = true → (l.foldl (fun r p => r.setWord p.1 p.2) x).wf = true from
    this _ _ (wordsOk_filter _ _ h)
  intro l
  induction l with
  | nil => exact fun x hx => hx
  | cons p t ih => exact fun x hx => ih _ (RegFile.setWord_wf _ _ _ hx)

theorem State.asLane_keep {mk : Nat} {sb s : State} (h : Keeps mk sb s) (hm : 889685793 ||| mk = mk) {c : LaneCopy} : Keeps mk sb (State.asLane s c) := by
  refine Keeps.step h ?_ hm
  unfold State.asLane
  constructor <;> first
    | rfl
    | exact fun hw => RegFile.withLane_wf _ _ hw
    | exact Nat.le_refl _
    | (intro hi; first | rfl | exact absurd hi (by decide))

theorem State.setTwin_keep {mk : Nat} {sb s : State} (hk : Keeps mk sb s) (hmk : 16777216 ||| mk = mk) {c : LaneCopy} :
    Keeps mk sb (State.setTwin s c) := by
  refine Keeps.step hk ?_ hmk
  have h_self : Keeps 16777216 s s := Keeps.refl
  unfold State.setTwin
  exact (Keeps.twin_keep h_self rfl)

theorem State.lanesBy_keep {mk : Nat} {sb s : State} (h : Keeps mk sb s) (hm : 16777216 ||| mk = mk) {f g : State → State}
    (hf : ∀ x, Keeps mk sb x → Keeps mk sb (f x)) (_hg : ∀ x, Keeps mk sb x → Keeps mk sb (g x)) : Keeps mk sb (State.lanesBy f g s) := by
  unfold State.lanesBy
  have h1 := hf s h
  split
  · exact State.setTwin_keep h1 hm
  · exact Keeps.ite_keep h1 (State.setTwin_keep h1 hm)

theorem State.lanes_keep {mk : Nat} {sb s : State} (h : Keeps mk sb s) (hm : 16777216 ||| mk = mk) {f : State → State}
    (hf : ∀ x, Keeps mk sb x → Keeps mk sb (f x)) : Keeps mk sb (State.lanes f s) := by
  unfold State.lanes
  split
  · exact hf s h
  · exact State.lanesBy_keep h hm hf hf

theorem State.survive_keep {mk : Nat} {sb s : State} (hk : Keeps mk sb s) (hmk : 889685793 ||| mk = mk) :
    Keeps mk sb (State.survive s) := by
  refine Keeps.step hk ?_ hmk
  have h_self : Keeps 889685793 s s := Keeps.refl
  unfold State.survive
  exact (by
  split
  · exact h_self
  · exact (Keeps.ite_keep h_self (Keeps.ite_keep (Keeps.twin_keep h_self rfl) (State.asLane_keep h_self rfl))))

end Sys2Proof.Machine
end

