-- ==== Sys2Proof/Laws/KeepSig.lean ====
section
/-! SUPPORT. What the functions of Machine/Sig.lean leave alone (see Laws/Keeps.lean). -/

namespace Sys2Proof.Machine

open Sys2Proof

theorem State.modChan_keep {mk : Nat} {sb s : State} (hk : Keeps mk sb s) (hmk : 256 ||| mk = mk) {n : Nat} {f : Chan → Chan} :
    Keeps mk sb (State.modChan s n f) := by
  refine Keeps.step hk ?_ hmk
  have h_self : Keeps 256 s s := Keeps.refl
  unfold State.modChan
  extract_lets -merge -useContext -underBinder +onlyGivenNames q1
  exact (Keeps.sig_keep h_self rfl)

theorem State.sample_keep {mk : Nat} {sb s : State} (hk : Keeps mk sb s) (hmk : 256 ||| mk = mk) {n : Nat} {v : Int} {stamp : Nat} :
    Keeps mk sb (State.sample s n v stamp) := by
  refine Keeps.step hk ?_ hmk
  have h_self : Keeps 256 s s := Keeps.refl
  unfold State.sample
  exact (State.modChan_keep h_self rfl)

theorem State.sentenceTo_keep {mk : Nat} {sb s : State} (hk : Keeps mk sb s) (hmk : 256 ||| mk = mk) {n : Nat} {x : Sentence} {stamp : Nat} :
    Keeps mk sb (State.sentenceTo s n x stamp) := by
  refine Keeps.step hk ?_ hmk
  have h_self : Keeps 256 s s := Keeps.refl
  unfold State.sentenceTo
  extract_lets -merge -useContext -underBinder +onlyGivenNames fmt1
  exact (Keeps.ite_keep (by
  split
  · exact (State.modChan_keep (State.sample_keep h_self rfl) rfl)
  · exact (State.modChan_keep h_self rfl)
  · exact h_self) h_self)

theorem State.feedSentence_keep {mk : Nat} {sb s : State} (hk : Keeps mk sb s) (hmk : 256 ||| mk = mk) {type port : Nat} {x : Sentence} {stamp : Nat} :
    Keeps mk sb (State.feedSentence s type port x stamp) := by
  refine Keeps.step hk ?_ hmk
  have h_self : Keeps 256 s s := Keeps.refl
  unfold State.feedSentence
  exact (State.each_keep h_self (fun x1_0 _ h_x1_0 => (Keeps.ite_keep (State.sentenceTo_keep h_x1_0 rfl) h_x1_0)))

theorem State.uartSentence_keep {mk : Nat} {sb s : State} (hk : Keeps mk sb s) (hmk : 2337 ||| mk = mk) {u : Nat} {framingError : Bool} {ago : Nat} {l : List Byte} :
    Keeps mk sb (State.uartSentence s u framingError ago l) := by
  refine Keeps.step hk ?_ hmk
  have h_self : Keeps 2337 s s := Keeps.refl
  unfold State.uartSentence
  exact (Keeps.ite_keep h_self (Keeps.ite_keep h_self (by
  split
  · exact (State.feedSentence_keep (State.inc_keep h_self rfl) rfl)
  · exact (State.when_keep (State.inc_keep h_self rfl) (fun x3_0 h_x3_0 => (State.raiseMajor_keep h_x3_0 rfl))))))

theorem execUartSentence_keep (u : Fin 12) (framingError : Bool) (ago : Nat) (bytes : List Byte) (s : State) : KeepsOut 16779553 s (execUartSentence u framingError ago bytes s) := by
  have h_self : Keeps 16779553 s s := Keeps.refl
  unfold execUartSentence
  exact (KeepsOut.next (State.lanes_keep h_self rfl (fun x1_0 h_x1_0 => (State.uartSentence_keep h_x1_0 rfl))))

theorem State.tachoTimeout_keep {mk : Nat} {sb s : State} (hk : Keeps mk sb s) (hmk : 256 ||| mk = mk) {t n : Nat} :
    Keeps mk sb (State.tachoTimeout s t n) := by
  refine Keeps.step hk ?_ hmk
  have h_self : Keeps 256 s s := Keeps.refl
  unfold State.tachoTimeout
  extract_lets -merge -useContext -underBinder +onlyGivenNames c1
  exact (Keeps.ite_keep (State.modChan_keep h_self rfl) h_self)

theorem State.tachoTo_keep {mk : Nat} {sb s0 : State} (hk : Keeps mk sb s0) (hmk : 256 ||| mk = mk) {n : Nat} {e : TachoIn} :
    Keeps mk sb (State.tachoTo s0 n e) := by
  refine Keeps.step hk ?_ hmk
  have h_self : Keeps 256 s0 s0 := Keeps.refl
  unfold State.tachoTo
  extract_lets -merge -useContext -underBinder +onlyGivenNames s1 s12
  have h_s1 : Keeps 256 s0 s1 := (State.tachoTimeout_keep h_self rfl)
  have h_s12 : Keeps 256 s0 s12 := (State.modChan_keep h_s1 rfl)
  exact (by
  split
  · exact (State.sample_keep h_s12 rfl)
  · exact h_s12)

theorem State.tachoFlush_keep {mk : Nat} {sb s : State} (hk : Keeps mk sb s) (hmk : 256 ||| mk = mk) {input : Nat} :
    Keeps mk sb (State.tachoFlush s input) := by
  refine Keeps.step hk ?_ hmk
  have h_self : Keeps 256 s s := Keeps.refl
  unfold State.tachoFlush
  exact (by
  split
  · extract_lets -merge -useContext -underBinder +onlyGivenNames q2
    exact (Keeps.ite_keep (State.each_keep (Keeps.sig_keep h_self rfl) (fun x3_0 _ h_x3_0 => (Keeps.ite_keep (State.tachoTo_keep h_x3_0 rfl) h_x3_0))) h_self)
  · exact h_self)

theorem State.tachoEdge_keep {mk : Nat} {sb s0 : State} (hk : Keeps mk sb s0) (hmk : 256 ||| mk = mk) {input : Nat} {rising : Bool} :
    Keeps mk sb (State.tachoEdge s0 input rising) := by
  refine Keeps.step hk ?_ hmk
  have h_self : Keeps 256 s0 s0 := Keeps.refl
  unfold State.tachoEdge
  extract_lets -merge -useContext -underBinder +onlyGivenNames s1 short2 e3 q4
  have h_s1 : Keeps 256 s0 s1 := (State.tachoFlush_keep h_self rfl)
  exact (Keeps.sig_keep h_s1 rfl)

theorem execTachoEdge_keep (n : Fin 16) (rising : Bool) (s : State) : KeepsOut 16777472 s (execTachoEdge n rising s) := by
  have h_self : Keeps 16777472 s s := Keeps.refl
  unfold execTachoEdge
  exact (KeepsOut.next (State.lanes_keep h_self rfl (fun x1_0 h_x1_0 => (State.tachoEdge_keep h_x1_0 rfl))))

theorem execTachoZeroTimeout_keep (n : Fin 96) (s : State) : KeepsOut 50336064 s (execTachoZeroTimeout n s) := by
  have h_self : Keeps 50336064 s s := Keeps.refl
  unfold execTachoZeroTimeout
  exact (KeepsOut.next (State.lanes_keep h_self rfl (fun x1_0 h_x1_0 => by
    extract_lets -merge -useContext -underBinder +onlyGivenNames s12
    have h_s12 : Keeps 50336064 s s12 := (State.tachoFlush_keep (State.runInside_keep h_x1_0 rfl) rfl)
    exact (State.tachoTimeout_keep h_s12 rfl))))

theorem State.feedCan_keep {mk : Nat} {sb s : State} (hk : Keeps mk sb s) (hmk : 257 ||| mk = mk) {ctrl id : Nat} {ide : Bool} {data : List Byte} {stamp : Nat} :
    Keeps mk sb (State.feedCan s ctrl id ide data stamp) := by
  refine Keeps.step hk ?_ hmk
  have h_self : Keeps 257 s s := Keeps.refl
  unfold State.feedCan
  exact (State.each_keep h_self (fun x1_0 _ h_x1_0 => by
    extract_lets -merge -useContext -underBinder +onlyGivenNames m2 mid3 idOk4 off5 w6 raw7 v8
    exact (Keeps.ite_keep (Keeps.ite_keep (State.put_keep h_x1_0 rfl) (State.sample_keep h_x1_0 rfl)) h_x1_0)))

theorem State.chanExpire_keep {mk : Nat} {sb s : State} (hk : Keeps mk sb s) (hmk : 2337 ||| mk = mk) {n : Nat} :
    Keeps mk sb (State.chanExpire s n) := by
  refine Keeps.step hk ?_ hmk
  have h_self : Keeps 2337 s s := Keeps.refl
  unfold State.chanExpire
  extract_lets -merge -useContext -underBinder +onlyGivenNames lim1 c2 s13
  have h_s13 : Keeps 2337 s s13 := (State.modChan_keep h_self rfl)
  exact (Keeps.ite_keep (Keeps.ite_keep (State.raiseMajor_keep (State.put_keep h_s13 rfl) rfl) h_s13) h_self)

theorem execSigChannelTimeout_keep (n : Fin 96) (s : State) : KeepsOut 16779553 s (execSigChannelTimeout n s) := by
  have h_self : Keeps 16779553 s s := Keeps.refl
  unfold execSigChannelTimeout
  exact (KeepsOut.next (State.lanes_keep h_self rfl (fun x1_0 h_x1_0 => (State.chanExpire_keep h_x1_0 rfl))))

theorem State.chanFlags_keep {mk : Nat} {sb s : State} (hk : Keeps mk sb s) (hmk : 2337 ||| mk = mk) {n : Nat} {o : ChanOut} {xs : List Sample} {ovf satX : Bool} {valid : Bool} :
    Keeps mk sb (State.chanFlags s n o xs ovf satX valid) := by
  refine Keeps.step hk ?_ hmk
  have h_self : Keeps 2337 s s := Keeps.refl
  unfold State.chanFlags
  extract_lets -merge -useContext -underBinder +onlyGivenNames age1 stamp2 s13 s24 s35 s46 s57 s68 s79
  have h_s13 : Keeps 2337 s s13 := (State.modChan_keep h_self rfl)
  have h_s24 : Keeps 2337 s s24 := (State.put_keep (State.put_keep (State.putB_keep h_s13 rfl) rfl) rfl)
  have h_s35 : Keeps 2337 s s35 := (State.putB_keep (State.putB_keep h_s24 rfl) rfl)
  have h_s46 : Keeps 2337 s s46 := (State.when_keep h_s35 (fun x10_0 h_x10_0 => (State.raiseMajor_keep (State.put_keep h_x10_0 rfl) rfl)))
  have h_s57 : Keeps 2337 s s57 := (State.when_keep h_s46 (fun x11_0 h_x11_0 => (State.raiseMajor_keep (State.put_keep h_x11_0 rfl) rfl)))
  have h_s68 : Keeps 2337 s s68 := (State.when_keep h_s57 (fun x12_0 h_x12_0 => (State.put_keep h_x12_0 rfl)))
  have h_s79 : Keeps 2337 s s79 := (State.putB_keep (State.putB_keep h_s68 rfl) rfl)
  exact (Keeps.ite_keep (State.put_keep (State.putB_keep h_s79 rfl) rfl) h_s79)

theorem State.noSample_keep {mk : Nat} {sb s : State} (hk : Keeps mk sb s) (hmk : 257 ||| mk = mk) {n : Nat} :
    Keeps mk sb (State.noSample s n) := by
  refine Keeps.step hk ?_ hmk
  have h_self : Keeps 257 s s := Keeps.refl
  unfold State.noSample
  extract_lets -merge -useContext -underBinder +onlyGivenNames age1
  exact (State.put_keep (State.put_keep (State.modChan_keep h_self rfl) rfl) rfl)

theorem State.acqRun_keep {mk : Nat} {sb s : State} (hk : Keeps mk sb s) (hmk : 2337 ||| mk = mk) {n : Nat} {xs : List Sample} {ovf : Bool} :
    Keeps mk sb (State.acqRun s n xs ovf) := by
  refine Keeps.step hk ?_ hmk
  have h_self : Keeps 2337 s s := Keeps.refl
  unfold State.acqRun
  extract_lets -merge -useContext -underBinder +onlyGivenNames c01 resync2 k3 c14 fv5 rho6 c27 vs8 satX9 o10 analog11 loop12 rangeBad13 s114 s215
  have h_s114 : Keeps 2337 s s114 := (State.chanFlags_keep h_self rfl)
  have h_s215 : Keeps 2337 s s215 := (State.when_keep h_s114 (fun x16_0 h_x16_0 => (State.put_keep h_x16_0 rfl)))
  exact (State.when_keep h_s215 (fun x17_0 h_x17_0 => (State.when_keep (State.putB_keep h_x17_0 rfl) (fun x18_0 h_x18_0 => (State.raiseMajor_keep h_x18_0 rfl)))))

theorem State.acqChan_keep {mk : Nat} {sb s : State} (hk : Keeps mk sb s) (hmk : 2337 ||| mk = mk) {n : Nat} {cic : List Int} :
    Keeps mk sb (State.acqChan s n cic) := by
  refine Keeps.step hk ?_ hmk
  have h_self : Keeps 2337 s s := Keeps.refl
  unfold State.acqChan
  extract_lets -merge -useContext -underBinder +onlyGivenNames c1 fs2 lim3
  exact (Keeps.ite_keep (State.chanExpire_keep (State.noSample_keep h_self rfl) rfl) (State.acqRun_keep h_self rfl))

theorem State.acqResolver_keep {mk : Nat} {sb s : State} (hk : Keeps mk sb s) (hmk : 2337 ||| mk = mk) {r : Nat} {cicS cicC : List Int} :
    Keeps mk sb (State.acqResolver s r cicS cicC) := by
  refine Keeps.step hk ?_ hmk
  have h_self : Keeps 2337 s s := Keeps.refl
  unfold State.acqResolver
  extract_lets -merge -useContext -underBinder +onlyGivenNames a1 b2 after3 resync4 ph5 dem6 chan7 fv8 q9 k010 k11 ra12 rb13 stepped14 la15 lb16 p17 os18 oc19 m020 short21 m22 q23 q24 mag25 magY26 low27 valid28 tick29 xs30 ang31 q32 ob33 s134 s235
  have h_s134 : Keeps 2337 s s134 := (State.chanFlags_keep (State.chanFlags_keep h_self rfl) rfl)
  have h_s235 : Keeps 2337 s s235 := (State.when_keep h_s134 (fun x36_0 h_x36_0 => (State.put_keep (State.put_keep h_x36_0 rfl) rfl)))
  exact (State.when_keep (State.putB_keep (State.putB_keep h_s235 rfl) rfl) (fun x37_0 h_x37_0 => (State.raiseMajor_keep h_x37_0 rfl)))

theorem State.holdChan_keep {mk : Nat} {sb s : State} (hk : Keeps mk sb s) (hmk : 257 ||| mk = mk) {n : Nat} :
    Keeps mk sb (State.holdChan s n) := by
  refine Keeps.step hk ?_ hmk
  have h_self : Keeps 257 s s := Keeps.refl
  unfold State.holdChan
  exact (State.put_keep (State.put_keep (State.modChan_keep (State.noSample_keep h_self rfl) rfl) rfl) rfl)

theorem State.acqOne_keep {mk : Nat} {sb s0 : State} (hk : Keeps mk sb s0) (hmk : 2337 ||| mk = mk) {n : Nat} {cic : List (List Int)} :
    Keeps mk sb (State.acqOne s0 n cic) := by
  refine Keeps.step hk ?_ hmk
  have h_self : Keeps 2337 s0 s0 := Keeps.refl
  unfold State.acqOne
  extract_lets -merge -useContext -underBinder +onlyGivenNames s1
  have h_s1 : Keeps 2337 s0 s1 := (State.tachoTimeout_keep h_self rfl)
  exact (Keeps.ite_keep h_self (Keeps.ite_keep (Keeps.ite_keep h_s1 (Keeps.ite_keep (State.holdChan_keep (State.holdChan_keep h_s1 rfl) rfl) (State.acqResolver_keep h_s1 rfl))) (Keeps.ite_keep (State.holdChan_keep h_s1 rfl) (State.acqChan_keep h_s1 rfl))))

theorem State.acq_keep {mk : Nat} {sb s : State} (hk : Keeps mk sb s) (hmk : 2337 ||| mk = mk) {cic : List (List Int)} :
    Keeps mk sb (State.acq s cic) := by
  refine Keeps.step hk ?_ hmk
  have h_self : Keeps 2337 s s := Keeps.refl
  unfold State.acq
  exact (State.each_keep h_self (fun x1_0 _ h_x1_0 => (State.acqOne_keep h_x1_0 rfl)))

theorem State.acqMissed_keep {mk : Nat} {sb s : State} (hk : Keeps mk sb s) (hmk : 257 ||| mk = mk) {n : Nat} :
    Keeps mk sb (State.acqMissed s n) := by
  refine Keeps.step hk ?_ hmk
  have h_self : Keeps 257 s s := Keeps.refl
  unfold State.acqMissed
  extract_lets -merge -useContext -underBinder +onlyGivenNames age1
  exact (Keeps.ite_keep (State.put_keep (State.modChan_keep h_self rfl) rfl) h_self)

theorem State.acqOver_keep {mk : Nat} {sb s : State} (hk : Keeps mk sb s) (hmk : 2337 ||| mk = mk) {done : Nat} {cic : List (List Int)} :
    Keeps mk sb (State.acqOver done cic s) := by
  refine Keeps.step hk ?_ hmk
  have h_self : Keeps 2337 s s := Keeps.refl
  unfold State.acqOver
  extract_lets -merge -useContext -underBinder +onlyGivenNames s11
  have h_s11 : Keeps 2337 s s11 := (State.each_keep h_self (fun x2_0 _ h_x2_0 => (State.acqOne_keep h_x2_0 rfl)))
  exact (State.each_keep h_s11 (fun x3_0 _ h_x3_0 => by
    extract_lets -merge -useContext -underBinder +onlyGivenNames s24
    have h_s24 : Keeps 2337 s s24 := (State.acqMissed_keep h_x3_0 rfl)
    exact (Keeps.ite_keep (State.acqMissed_keep h_s24 rfl) h_s24)))

theorem State.sigTick_keep {mk : Nat} {sb s0 : State} (hk : Keeps mk sb s0) (hmk : 256 ||| mk = mk) :
    Keeps mk sb (State.sigTick s0) := by
  refine Keeps.step hk ?_ hmk
  have h_self : Keeps 256 s0 s0 := Keeps.refl
  unfold State.sigTick
  extract_lets -merge -useContext -underBinder +onlyGivenNames s1 q2
  have h_s1 : Keeps 256 s0 s1 := (State.each_keep h_self (fun x3_0 _ h_x3_0 => (State.tachoFlush_keep h_x3_0 rfl)))
  exact (Keeps.sig_keep h_s1 rfl)

theorem State.sigStep_keep {mk : Nat} {sb s : State} (hk : Keeps mk sb s) (hmk : 256 ||| mk = mk) {delta : Int} :
    Keeps mk sb (State.sigStep s delta) := by
  refine Keeps.step hk ?_ hmk
  have h_self : Keeps 256 s s := Keeps.refl
  unfold State.sigStep
  extract_lets -merge -useContext -underBinder +onlyGivenNames mv1 mvS2 q3
  exact (Keeps.sig_keep h_self rfl)

theorem State.askReset_keep {mk : Nat} {sb s : State} (hk : Keeps mk sb s) (hmk : 256 ||| mk = mk) {n : Nat} :
    Keeps mk sb (State.askReset s n) := by
  refine Keeps.step hk ?_ hmk
  have h_self : Keeps 256 s s := Keeps.refl
  unfold State.askReset
  exact (State.modChan_keep h_self rfl)

theorem State.reconfigChan_keep {mk : Nat} {sb s : State} (hk : Keeps mk sb s) (hmk : 257 ||| mk = mk) {n : Nat} :
    Keeps mk sb (State.reconfigChan s n) := by
  refine Keeps.step hk ?_ hmk
  have h_self : Keeps 257 s s := Keeps.refl
  unfold State.reconfigChan
  exact (State.put_keep (State.put_keep (State.put_keep (State.put_keep (State.put_keep (State.modChan_keep h_self rfl) rfl) rfl) rfl) rfl) rfl)

theorem State.stopChan_keep {mk : Nat} {sb s : State} (hk : Keeps mk sb s) (hmk : 257 ||| mk = mk) {n : Nat} :
    Keeps mk sb (State.stopChan s n) := by
  refine Keeps.step hk ?_ hmk
  have h_self : Keeps 257 s s := Keeps.refl
  unfold State.stopChan
  exact (State.modChan_keep (State.put_keep (State.put_keep (State.put_keep (State.put_keep h_self rfl) rfl) rfl) rfl) rfl)

theorem State.bankRequest_keep {mk : Nat} {sb s : State} (hk : Keeps mk sb s) (hmk : 1 ||| mk = mk) {n b : Nat} :
    Keeps mk sb (State.bankRequest s n b) := by
  refine Keeps.step hk ?_ hmk
  have h_self : Keeps 1 s s := Keeps.refl
  unfold State.bankRequest
  extract_lets -merge -useContext -underBinder +onlyGivenNames s11
  have h_s11 : Keeps 1 s s11 := (State.put_keep h_self rfl)
  exact (Keeps.ite_keep (State.put_keep h_self rfl) (Keeps.ite_keep h_s11 (State.put_keep h_s11 rfl)))

theorem execSigBankSwitch_keep (n : Fin 96) (bank : Fin 2) (s : State) : KeepsOut 16777217 s (execSigBankSwitch n bank s) := by
  have h_self : Keeps 16777217 s s := Keeps.refl
  unfold execSigBankSwitch
  exact (KeepsOut.next (State.lanes_keep h_self rfl (fun x1_0 h_x1_0 => (State.bankRequest_keep h_x1_0 rfl))))

theorem State.sigCfgApply_keep {mk : Nat} {sb s : State} (hk : Keeps mk sb s) (hmk : 257 ||| mk = mk) {n v : Nat} :
    Keeps mk sb (State.sigCfgApply s n v) := by
  refine Keeps.step hk ?_ hmk
  have h_self : Keeps 257 s s := Keeps.refl
  unfold State.sigCfgApply
  extract_lets -merge -useContext -underBinder +onlyGivenNames off1 old2 s13 was4 is5
  have h_s13 : Keeps 257 s s13 := (State.setWord_keep h_self rfl)
  exact (Keeps.ite_keep (State.stopChan_keep h_s13 rfl) (Keeps.ite_keep (State.modChan_keep (State.reconfigChan_keep h_s13 rfl) rfl) (Keeps.ite_keep (State.reconfigChan_keep h_s13 rfl) h_s13)))

theorem State.sigSrcApply_keep {mk : Nat} {sb s : State} (hk : Keeps mk sb s) (hmk : 257 ||| mk = mk) {n v : Nat} :
    Keeps mk sb (State.sigSrcApply s n v) := by
  refine Keeps.step hk ?_ hmk
  have h_self : Keeps 257 s s := Keeps.refl
  unfold State.sigSrcApply
  extract_lets -merge -useContext -underBinder +onlyGivenNames off1 v'2 bad3 s14 s25 s36 key7
  have h_s14 : Keeps 257 s s14 := (State.putB_keep (State.setWord_keep h_self rfl) rfl)
  have h_s25 : Keeps 257 s s25 := (State.when_keep h_s14 (fun x8_0 h_x8_0 => (State.put_keep h_x8_0 rfl)))
  have h_s36 : Keeps 257 s s36 := (State.when_keep h_s25 (fun x9_0 h_x9_0 => (State.modChan_keep h_x9_0 rfl)))
  exact (Keeps.ite_keep (State.reconfigChan_keep h_s36 rfl) h_s36)

theorem State.coefApply_keep {mk : Nat} {sb s : State} (hk : Keeps mk sb s) (hmk : 1 ||| mk = mk) {off v : Nat} :
    Keeps mk sb (State.coefApply s off v) := by
  refine Keeps.step hk ?_ hmk
  have h_self : Keeps 1 s s := Keeps.refl
  unfold State.coefApply
  extract_lets -merge -useContext -underBinder +onlyGivenNames n1 b2
  exact (Keeps.ite_keep (State.put_keep h_self rfl) (State.setWord_keep h_self rfl))

theorem State.syncApply_keep {mk : Nat} {sb s : State} (hk : Keeps mk sb s) (hmk : 256 ||| mk = mk) {w mask : Nat} :
    Keeps mk sb (State.syncApply s w mask) := by
  refine Keeps.step hk ?_ hmk
  have h_self : Keeps 256 s s := Keeps.refl
  unfold State.syncApply
  exact (State.each_keep h_self (fun x1_0 _ h_x1_0 => (Keeps.ite_keep (State.askReset_keep h_x1_0 rfl) h_x1_0)))

theorem State.uartApply_keep {mk : Nat} {sb s : State} (hk : Keeps mk sb s) (hmk : 257 ||| mk = mk) {u v : Nat} :
    Keeps mk sb (State.uartApply s u v) := by
  refine Keeps.step hk ?_ hmk
  have h_self : Keeps 257 s s := Keeps.refl
  unfold State.uartApply
  extract_lets -merge -useContext -underBinder +onlyGivenNames q1
  exact (Keeps.ite_keep h_self (State.setWord_keep (Keeps.sig_keep h_self rfl) rfl))

theorem State.excApply_keep {mk : Nat} {sb s : State} (hk : Keeps mk sb s) (hmk : 1 ||| mk = mk) {v : Nat} :
    Keeps mk sb (State.excApply s v) := by
  refine Keeps.step hk ?_ hmk
  have h_self : Keeps 1 s s := Keeps.refl
  unfold State.excApply
  exact (State.put_keep (State.put_keep (State.put_keep (State.put_keep h_self rfl) rfl) rfl) rfl)

theorem execSigSync_keep (w : Fin 3) (mask : Word) (port : Fin 2) (s : State) : KeepsOut 553648160 s (execSigSync w mask port s) := by
  have h_self : Keeps 553648160 s s := Keeps.refl
  unfold execSigSync
  exact (KeepsOut.next (State.lanes_keep h_self rfl (fun x1_0 h_x1_0 => by
    extract_lets -merge -useContext -underBinder +onlyGivenNames q2
    exact (Keeps.frm_pend_keep h_x1_0 rfl (by rfl) (by rfl)))))

theorem State.valRead_keep {mk : Nat} {sb s : State} (hk : Keeps mk sb s) (hmk : 6 ||| mk = mk) {n : Nat} :
    Keeps mk sb (State.valRead s n) := by
  refine Keeps.step hk ?_ hmk
  have h_self : Keeps 6 s s := Keeps.refl
  unfold State.valRead
  extract_lets -merge -useContext -underBinder +onlyGivenNames q1
  have h_q1 : Keeps 6 s q1 := (State.latch_keep h_self rfl)
  exact (Keeps.hostData_keep h_q1 rfl)

theorem execSigValRead_keep (n : Fin 96) (_port : Fin 2) (s : State) : KeepsOut 6 s (execSigValRead n _port s) := by
  have h_self : Keeps 6 s s := Keeps.refl
  unfold execSigValRead
  exact (KeepsOut.next (State.valRead_keep h_self rfl))

theorem execAfeCalibrationComplete_keep (ok : Bool) (s : State) : KeepsOut 16779297 s (execAfeCalibrationComplete ok s) := by
  have h_self : Keeps 16779297 s s := Keeps.refl
  unfold execAfeCalibrationComplete
  exact (KeepsOut.next (State.lanes_keep h_self rfl (fun x1_0 h_x1_0 => (Keeps.ite_keep (State.raise_keep (State.putBit_keep (State.put_keep h_x1_0 rfl) rfl) rfl) (State.raise_keep (State.put_keep h_x1_0 rfl) rfl)))))

theorem execExcOverload_keep (r : Fin 4) (s : State) : KeepsOut 16779297 s (execExcOverload r s) := by
  have h_self : Keeps 16779297 s s := Keeps.refl
  unfold execExcOverload
  exact (KeepsOut.next (State.lanes_keep h_self rfl (fun x1_0 h_x1_0 => (Keeps.ite_keep (State.raise_keep (State.putBit_keep h_x1_0 rfl) rfl) h_x1_0))))

theorem State.sigToBasic_keep {mk : Nat} {sb s : State} (hk : Keeps mk sb s) (hmk : 257 ||| mk = mk) :
    Keeps mk sb (State.sigToBasic s) := by
  refine Keeps.step hk ?_ hmk
  have h_self : Keeps 257 s s := Keeps.refl
  unfold State.sigToBasic
  extract_lets -merge -useContext -underBinder +onlyGivenNames keep1 q2 s13 expert4
  have h_s13 : Keeps 257 s s13 := (Keeps.sig_keep h_self rfl)
  exact (State.each_keep (Keeps.regs_keep h_s13 rfl (wordsOk_filter _ _)) (fun x5_0 _ h_x5_0 => (State.put_keep h_x5_0 rfl)))

end Sys2Proof.Machine
end

