-- ==== Sys2Proof/Laws/KeepAln.lean ====
section
/-! SUPPORT. What the functions of Machine/Aln.lean leave alone (see Laws/Keeps.lean). -/

namespace Sys2Proof.Machine

open Sys2Proof

theorem Keeps.proj_s {m : Nat} {s : State} {p q : Paired} (h : Keeps m s q.s) (e : p = q) : Keeps m s p.s := e ▸ h

theorem Keeps.mk_s {m : Nat} {s a : State} {b c d} (h : Keeps m s a) : Keeps m s (Paired.mk a b c d).s := h

theorem Keeps.ite_paired {m : Nat} {s : State} {a b : Paired} {c : Prop} [Decidable c] (ha : Keeps m s a.s) (hb : Keeps m s b.s) :
    Keeps m s (if c then a else b).s := by
  split <;> assumption

theorem State.modStream_keep {mk : Nat} {sb s : State} (hk : Keeps mk sb s) (hmk : 512 ||| mk = mk) {n : Nat} {f : Stream → Stream} :
    Keeps mk sb (State.modStream s n f) := by
  refine Keeps.step hk ?_ hmk
  have h_self : Keeps 512 s s := Keeps.refl
  unfold State.modStream
  extract_lets -merge -useContext -underBinder +onlyGivenNames q1
  exact (Keeps.aln_keep h_self rfl)

theorem State.setStream_keep {mk : Nat} {sb s : State} (hk : Keeps mk sb s) (hmk : 1 ||| mk = mk) {n st : Nat} :
    Keeps mk sb (State.setStream s n st) := by
  refine Keeps.step hk ?_ hmk
  have h_self : Keeps 1 s s := Keeps.refl
  unfold State.setStream
  exact (State.putBit_keep (State.put_keep h_self rfl) rfl)

theorem State.streamOff_keep {mk : Nat} {sb s : State} (hk : Keeps mk sb s) (hmk : 513 ||| mk = mk) {n : Nat} :
    Keeps mk sb (State.streamOff s n) := by
  refine Keeps.step hk ?_ hmk
  have h_self : Keeps 513 s s := Keeps.refl
  unfold State.streamOff
  exact (State.modStream_keep (State.put_keep (State.setStream_keep h_self rfl) rfl) rfl)

theorem State.qualify_keep {mk : Nat} {sb s : State} (hk : Keeps mk sb s) (hmk : 513 ||| mk = mk) {n : Nat} :
    Keeps mk sb (State.qualify s n) := by
  refine Keeps.step hk ?_ hmk
  have h_self : Keeps 513 s s := Keeps.refl
  unfold State.qualify
  extract_lets -merge -useContext -underBinder +onlyGivenNames s11
  have h_s11 : Keeps 513 s s11 := (State.putI_keep (State.put_keep (State.setStream_keep h_self rfl) rfl) rfl)
  exact (State.modStream_keep (State.put_keep h_s11 rfl) rfl)

theorem State.attKept_keep {mk : Nat} {sb s : State} (hk : Keeps mk sb s) (hmk : 512 ||| mk = mk) {n : Nat} :
    Keeps mk sb (State.attKept s n) := by
  refine Keeps.step hk ?_ hmk
  have h_self : Keeps 512 s s := Keeps.refl
  unfold State.attKept
  extract_lets -merge -useContext -underBinder +onlyGivenNames k1 q2
  exact (Keeps.aln_keep h_self rfl)

theorem State.streamRestart_keep {mk : Nat} {sb s0 : State} (hk : Keeps mk sb s0) (hmk : 2593 ||| mk = mk) {n : Nat} :
    Keeps mk sb (State.streamRestart s0 n) := by
  refine Keeps.step hk ?_ hmk
  have h_self : Keeps 2593 s0 s0 := Keeps.refl
  unfold State.streamRestart
  extract_lets -merge -useContext -underBinder +onlyGivenNames s1
  have h_s1 : Keeps 2593 s0 s1 := (State.attKept_keep h_self rfl)
  exact (Keeps.ite_keep (State.streamOff_keep (State.put_keep h_s1 rfl) rfl) (Keeps.ite_keep (State.setRaise_keep (State.put_keep (State.streamOff_keep h_s1 rfl) rfl) rfl) (State.qualify_keep (State.put_keep (State.streamOff_keep h_s1 rfl) rfl) rfl)))

theorem State.streamCheck_keep {mk : Nat} {sb s : State} (hk : Keeps mk sb s) (hmk : 2593 ||| mk = mk) {n : Nat} :
    Keeps mk sb (State.streamCheck s n) := by
  refine Keeps.step hk ?_ hmk
  have h_self : Keeps 2593 s s := Keeps.refl
  unfold State.streamCheck
  exact (Keeps.ite_keep (State.streamRestart_keep h_self rfl) h_self)

theorem execAlnStreamReconfigure_keep (n : Fin 32) (s : State) : KeepsOut 16779809 s (execAlnStreamReconfigure n s) := by
  have h_self : Keeps 16779809 s s := Keeps.refl
  unfold execAlnStreamReconfigure
  exact (KeepsOut.next (State.lanes_keep h_self rfl (fun x1_0 h_x1_0 => (State.streamRestart_keep h_x1_0 rfl))))

theorem State.fresh_keep {mk : Nat} {sb s : State} (hk : Keeps mk sb s) (hmk : 2081 ||| mk = mk) {n : Nat} :
    Keeps mk sb (State.fresh s n) := by
  refine Keeps.step hk ?_ hmk
  have h_self : Keeps 2081 s s := Keeps.refl
  unfold State.fresh
  exact (State.raise_keep (State.setStream_keep h_self rfl) rfl)

theorem State.goStale_keep {mk : Nat} {sb s : State} (hk : Keeps mk sb s) (hmk : 2081 ||| mk = mk) {n : Nat} :
    Keeps mk sb (State.goStale s n) := by
  refine Keeps.step hk ?_ hmk
  have h_self : Keeps 2081 s s := Keeps.refl
  unfold State.goStale
  exact (Keeps.ite_keep (State.raise_keep (State.setStream_keep h_self rfl) rfl) h_self)

theorem State.miss_keep {mk : Nat} {sb s : State} (hk : Keeps mk sb s) (hmk : 2593 ||| mk = mk) {n : Nat} :
    Keeps mk sb (State.miss s n) := by
  refine Keeps.step hk ?_ hmk
  have h_self : Keeps 2593 s s := Keeps.refl
  unfold State.miss
  extract_lets -merge -useContext -underBinder +onlyGivenNames k1 s12
  have h_s12 : Keeps 2593 s s12 := (State.modStream_keep (State.raiseMajor_keep (State.inc_keep h_self rfl) rfl) rfl)
  exact (Keeps.ite_keep (State.goStale_keep h_s12 rfl) h_s12)

theorem State.missN_keep {mk : Nat} {sb s : State} (h : Keeps mk sb s) (hm : 2593 ||| mk = mk) {n k : Nat} : Keeps mk sb (State.missN s n k) := by
  induction k generalizing s with
  | zero => exact h
  | succ k ih => exact ih (State.miss_keep h (Keeps.sub hm rfl))

theorem State.orphan_keep {mk : Nat} {sb s : State} (hk : Keeps mk sb s) (hmk : 2593 ||| mk = mk) {n : Nat} :
    Keeps mk sb (State.orphan s n) := by
  refine Keeps.step hk ?_ hmk
  have h_self : Keeps 2593 s s := Keeps.refl
  unfold State.orphan
  extract_lets -merge -useContext -underBinder +onlyGivenNames k1 s12
  have h_s12 : Keeps 2593 s s12 := (State.modStream_keep (State.inc_keep h_self rfl) rfl)
  exact (Keeps.ite_keep (State.goStale_keep h_s12 rfl) h_s12)

theorem State.setPending_keep {mk : Nat} {sb s : State} (hk : Keeps mk sb s) (hmk : 513 ||| mk = mk) {n : Nat} {l : List (Nat × Bool)} :
    Keeps mk sb (State.setPending s n l) := by
  refine Keeps.step hk ?_ hmk
  have h_self : Keeps 513 s s := Keeps.refl
  unfold State.setPending
  exact (State.put_keep (State.modStream_keep h_self rfl) rfl)

theorem State.streamInstant_keep {mk : Nat} {sb s : State} (hk : Keeps mk sb s) (hmk : 2593 ||| mk = mk) {trig : Bool} {unit lin : Nat} :
    Keeps mk sb (State.streamInstant s trig unit lin) := by
  refine Keeps.step hk ?_ hmk
  have h_self : Keeps 2593 s s := Keeps.refl
  unfold State.streamInstant
  exact (State.each_keep h_self (fun x1_0 _ h_x1_0 => by
    extract_lets -merge -useContext -underBinder +onlyGivenNames l2
    exact (Keeps.ite_keep (Keeps.ite_keep (State.setPending_keep h_x1_0 rfl) (State.miss_keep (State.setPending_keep h_x1_0 rfl) rfl)) h_x1_0)))

theorem State.expirePending_keep {mk : Nat} {sb s : State} (hk : Keeps mk sb s) (hmk : 2593 ||| mk = mk) {n : Nat} :
    Keeps mk sb (State.expirePending s n) := by
  refine Keeps.step hk ?_ hmk
  have h_self : Keeps 2593 s s := Keeps.refl
  unfold State.expirePending
  extract_lets -merge -useContext -underBinder +onlyGivenNames l1 old2
  exact (Keeps.ite_keep h_self (State.missN_keep (State.setPending_keep h_self rfl) rfl))

theorem execPendingInstantExpiry_keep (n : Fin 32) (s : State) : KeepsOut 16779809 s (execPendingInstantExpiry n s) := by
  have h_self : Keeps 16779809 s s := Keeps.refl
  unfold execPendingInstantExpiry
  exact (KeepsOut.next (State.lanes_keep h_self rfl (fun x1_0 h_x1_0 => (State.expirePending_keep h_x1_0 rfl))))

theorem State.enqueueArrival_keep {mk : Nat} {sb s : State} (hk : Keeps mk sb s) (hmk : 2593 ||| mk = mk) {a : Arrival} :
    Keeps mk sb (State.enqueueArrival s a) := by
  refine Keeps.step hk ?_ hmk
  have h_self : Keeps 2593 s s := Keeps.refl
  unfold State.enqueueArrival
  extract_lets -merge -useContext -underBinder +onlyGivenNames q1
  exact (Keeps.ite_keep (Keeps.aln_keep h_self rfl) (State.setRaise_keep h_self rfl))

theorem State.arrive_keep {mk : Nat} {sb s : State} (hk : Keeps mk sb s) (hmk : 2593 ||| mk = mk) {n : Nat} :
    Keeps mk sb (State.arrive s n) := by
  refine Keeps.step hk ?_ hmk
  have h_self : Keeps 2593 s s := Keeps.refl
  unfold State.arrive
  extract_lets -merge -useContext -underBinder +onlyGivenNames chs1
  exact (by
  clear_value chs1
  split
  · exact h_self
  · extract_lets -merge -useContext -underBinder +onlyGivenNames st4 ok5
    exact (Keeps.ite_keep h_self (Keeps.ite_keep h_self (Keeps.ite_keep (State.enqueueArrival_keep h_self rfl) (State.inc_keep h_self rfl)))))

theorem State.internalArrive_keep {mk : Nat} {sb s : State} (hk : Keeps mk sb s) (hmk : 512 ||| mk = mk) {src epoch : Nat} {adj : Bool} {v : List Int} :
    Keeps mk sb (State.internalArrive s src epoch adj v) := by
  refine Keeps.step hk ?_ hmk
  have h_self : Keeps 512 s s := Keeps.refl
  unfold State.internalArrive
  exact (State.each_keep h_self (fun x1_0 _ h_x1_0 => by
    extract_lets -merge -useContext -underBinder +onlyGivenNames a2 q3
    exact (Keeps.ite_keep (Keeps.aln_keep h_x1_0 rfl) h_x1_0)))

theorem State.innerArrive_keep {mk : Nat} {sb s : State} (hk : Keeps mk sb s) (hmk : 2593 ||| mk = mk) {n : Nat} :
    Keeps mk sb (State.innerArrive s n) := by
  refine Keeps.step hk ?_ hmk
  have h_self : Keeps 2593 s s := Keeps.refl
  unfold State.innerArrive
  extract_lets -merge -useContext -underBinder +onlyGivenNames l1 q2 s13
  have h_s13 : Keeps 2593 s s13 := (Keeps.aln_keep h_self rfl)
  exact (Keeps.ite_keep h_s13 (Keeps.foldl_keep h_s13 (fun x4_0 _ h_x4_0 => (State.enqueueArrival_keep h_x4_0 rfl))))

theorem State.pairCount_keep {mk : Nat} {sb s : State} (hk : Keeps mk sb s) (hmk : 2593 ||| mk = mk) {n : Nat} :
    Keeps mk sb (State.pairCount s n) := by
  refine Keeps.step hk ?_ hmk
  have h_self : Keeps 2593 s s := Keeps.refl
  unfold State.pairCount
  extract_lets -merge -useContext -underBinder +onlyGivenNames s11 q2 s23
  have h_s11 : Keeps 2593 s s11 := (State.modStream_keep h_self rfl)
  have h_s23 : Keeps 2593 s s23 := (State.put_keep h_s11 rfl)
  exact (Keeps.ite_keep (Keeps.ite_keep (State.fresh_keep h_s23 rfl) h_s23) h_s11)

theorem State.pairSeed_keep {mk : Nat} {sb s : State} (hk : Keeps mk sb s) (hmk : 2593 ||| mk = mk) {n a : Nat} :
    Keeps mk sb (State.pairSeed s n a).s := by
  refine Keeps.step hk ?_ hmk
  have h_self : Keeps 2593 s s := Keeps.refl
  unfold State.pairSeed
  extract_lets -merge -useContext -underBinder +onlyGivenNames l1 cands2
  exact (by
  split
  · exact (Keeps.mk_s (State.orphan_keep h_self rfl))
  · extract_lets -merge -useContext -underBinder +onlyGivenNames s15 s26 s37
    have h_s15 : Keeps 2593 s s15 := (State.put_keep (State.putI_keep h_self rfl) rfl)
    have h_s26 : Keeps 2593 s s26 := (State.modStream_keep (State.setPending_keep h_s15 rfl) rfl)
    have h_s37 : Keeps 2593 s s37 := (State.pairCount_keep h_s26 rfl)
    exact (Keeps.mk_s h_s37))

theorem State.pair_keep {mk : Nat} {sb s : State} (hk : Keeps mk sb s) (hmk : 2593 ||| mk = mk) {n a : Nat} :
    Keeps mk sb (State.pair s n a).s := by
  refine Keeps.step hk ?_ hmk
  have h_self : Keeps 2593 s s := Keeps.refl
  unfold State.pair
  extract_lets -merge -useContext -underBinder +onlyGivenNames l1 cands2
  exact (by
  clear_value cands2
  split
  · exact (Keeps.mk_s (State.orphan_keep h_self rfl))
  · extract_lets -merge -useContext -underBinder +onlyGivenNames err5 far6 p7 e8 older9 s110 qual11 dt12 ko13 kr14 rate15 rate'16 ofs17 res18 s219 s320 s421
    have h_s110 : Keeps 2593 s s110 := (State.missN_keep (State.setPending_keep h_self rfl) rfl)
    have h_s219 : Keeps 2593 s s219 := (State.putSat_keep (State.putI_keep (State.putI_keep h_s110 rfl) rfl) rfl)
    have h_s320 : Keeps 2593 s s320 := (State.modStream_keep (State.setPending_keep h_s219 rfl) rfl)
    have h_s421 : Keeps 2593 s s421 := (State.pairCount_keep h_s320 rfl)
    exact (Keeps.ite_paired (Keeps.mk_s (Keeps.ite_keep (State.qualify_keep h_s110 rfl) (State.goStale_keep h_s110 rfl))) (Keeps.ite_paired (Keeps.mk_s (State.qualify_keep h_s320 rfl)) (Keeps.mk_s h_s421))))

theorem State.deliver_keep {mk : Nat} {sb s : State} (hk : Keeps mk sb s) (hmk : 513 ||| mk = mk) {x : Meas} :
    Keeps mk sb (State.deliver s x) := by
  refine Keeps.step hk ?_ hmk
  have h_self : Keeps 513 s s := Keeps.refl
  unfold State.deliver
  extract_lets -merge -useContext -underBinder +onlyGivenNames n1 q2 s13 smp4 q5 q6
  have h_s13 : Keeps 513 s s13 := (State.incWrap_keep (State.setWords_keep (Keeps.aln_keep h_self rfl) rfl) rfl)
  exact (Keeps.ite_keep (Keeps.aln_keep h_s13 rfl) (Keeps.ite_keep (Keeps.aln_keep h_s13 rfl) h_s13))

theorem State.measure_keep {mk : Nat} {sb s : State} (hk : Keeps mk sb s) (hmk : 2593 ||| mk = mk) {q : Arrival} {m : Nat} {e : Int} {reassoc adj : Bool} :
    Keeps mk sb (State.measure s q m e reassoc adj) := by
  refine Keeps.step hk ?_ hmk
  have h_self : Keeps 2593 s s := Keeps.refl
  unfold State.measure
  extract_lets -merge -useContext -underBinder +onlyGivenNames n1 k2 tick3 need4
  exact (Keeps.ite_keep (State.inc_keep h_self rfl) (by
  split
  · exact (State.raiseMajor_keep (State.inc_keep h_self rfl) rfl)
  · extract_lets -merge -useContext -underBinder +onlyGivenNames v7 s08 fl9 s110
    have h_s08 : Keeps 2593 s s08 := (State.when_keep h_self (fun x11_0 h_x11_0 => by
      extract_lets -merge -useContext -underBinder +onlyGivenNames q12
      exact (Keeps.aln_keep h_x11_0 rfl)))
    have h_s110 : Keeps 2593 s s110 := (State.when_keep h_s08 (fun x13_0 h_x13_0 => (State.raiseMajor_keep (State.inc_keep h_x13_0 rfl) rfl)))
    exact (Keeps.ite_keep (State.inc_keep h_s08 rfl) (State.deliver_keep h_s110 rfl))))

theorem State.processArrival_keep {mk : Nat} {sb s : State} (hk : Keeps mk sb s) (hmk : 2593 ||| mk = mk) {q : Arrival} :
    Keeps mk sb (State.processArrival s q) := by
  refine Keeps.step hk ?_ hmk
  have h_self : Keeps 2593 s s := Keeps.refl
  unfold State.processArrival
  extract_lets -merge -useContext -underBinder +onlyGivenNames n1 mode2 sdly3 s04 p5 s16
  have h_s04 : Keeps 2593 s s04 := (Keeps.ite_keep (State.qualify_keep h_self rfl) h_self)
  have h_p5 : Keeps 2593 s p5.s := Keeps.proj_s (Keeps.ite_paired (State.pairSeed_keep h_s04 rfl) (State.pair_keep h_s04 rfl)) rfl
  have h_s16 : Keeps 2593 s s16 := (Keeps.ite_keep h_self (State.fresh_keep h_self rfl))
  exact (Keeps.ite_keep h_self (Keeps.ite_keep (by
  split
  · exact h_p5
  · exact (State.measure_keep h_p5 rfl)) (State.measure_keep h_s16 rfl)))

theorem State.drainQueue_keep {mk : Nat} {sb s : State} (h : Keeps mk sb s) (hm : 2593 ||| mk = mk) {l : List Arrival} :
    Keeps mk sb (State.drainQueue s l) := by
  induction l generalizing s with
  | nil => exact h
  | cons q t ih =>
    unfold State.drainQueue
    exact Keeps.ite_keep (ih (State.processArrival_keep h hm))
      (ih (Keeps.aln_keep (State.setRaise_keep h (Keeps.sub hm rfl)) (Keeps.sub hm rfl)))

theorem State.alnArrivals_keep {mk : Nat} {sb s : State} (hk : Keeps mk sb s) (hmk : 2593 ||| mk = mk) {reached : Nat → Bool} :
    Keeps mk sb (State.alnArrivals s reached) := by
  refine Keeps.step hk ?_ hmk
  have h_self : Keeps 2593 s s := Keeps.refl
  unfold State.alnArrivals
  exact (State.each_keep h_self (fun x1_0 _ h_x1_0 => (by
    split
    · exact (Keeps.ite_keep (State.innerArrive_keep (State.arrive_keep h_x1_0 rfl) rfl) (State.innerArrive_keep h_x1_0 rfl))
    · exact (State.innerArrive_keep h_x1_0 rfl))))

theorem State.alnWork_keep {mk : Nat} {sb s : State} (hk : Keeps mk sb s) (hmk : 2593 ||| mk = mk) {done : Nat} :
    Keeps mk sb (State.alnWork done s) := by
  refine Keeps.step hk ?_ hmk
  have h_self : Keeps 2593 s s := Keeps.refl
  unfold State.alnWork
  extract_lets -merge -useContext -underBinder +onlyGivenNames s11 q2 q3 s24 q5
  have h_s11 : Keeps 2593 s s11 := (State.each_keep h_self (fun x6_0 _ h_x6_0 => (State.expirePending_keep h_x6_0 rfl)))
  have h_s24 : Keeps 2593 s s24 := (State.drainQueue_keep (Keeps.aln_keep h_s11 rfl) rfl)
  exact (Keeps.aln_keep h_s24 rfl)

theorem State.alnStep_keep {mk : Nat} {sb s : State} (hk : Keeps mk sb s) (hmk : 512 ||| mk = mk) {delta : Int} :
    Keeps mk sb (State.alnStep s delta) := by
  refine Keeps.step hk ?_ hmk
  have h_self : Keeps 512 s s := Keeps.refl
  unfold State.alnStep
  extract_lets -merge -useContext -underBinder +onlyGivenNames mv1 q2
  exact (Keeps.aln_keep h_self rfl)

theorem State.alnMajor_keep {mk : Nat} {sb s : State} (hk : Keeps mk sb s) (hmk : 513 ||| mk = mk) :
    Keeps mk sb (State.alnMajor s) := by
  refine Keeps.step hk ?_ hmk
  have h_self : Keeps 513 s s := Keeps.refl
  unfold State.alnMajor
  extract_lets -merge -useContext -underBinder +onlyGivenNames k1 q2
  exact (State.putMax_keep (State.put_keep (Keeps.aln_keep h_self rfl) rfl) rfl)

end Sys2Proof.Machine
end

