-- ==== Sys2Proof/Laws/KeepRtc.lean ====
section
/-! SUPPORT. What the functions of Machine/Rtc.lean leave alone (see Laws/Keeps.lean). -/

namespace Sys2Proof.Machine

open Sys2Proof

theorem State.setCount_keep {mk : Nat} {sb s : State} (hk : Keeps mk sb s) (hmk : 4096 ||| mk = mk) {sec frac : Nat} :
    Keeps mk sb (State.setCount s sec frac) := by
  refine Keeps.step hk ?_ hmk
  have h_self : Keeps 4096 s s := Keeps.refl
  unfold State.setCount
  extract_lets -merge -useContext -underBinder +onlyGivenNames q1
  exact (Keeps.rtc_keep h_self rfl)

theorem State.put48_keep {mk : Nat} {sb s : State} (hk : Keeps mk sb s) (hmk : 1 ||| mk = mk) {lo hi : Fld} {v : Nat} :
    Keeps mk sb (State.put48 s lo hi v) := by
  refine Keeps.step hk ?_ hmk
  have h_self : Keeps 1 s s := Keeps.refl
  unfold State.put48
  exact (State.put_keep (State.put_keep h_self rfl) rfl)

theorem State.rtcRaise_keep {mk : Nat} {sb s : State} (hk : Keeps mk sb s) (hmk : 6177 ||| mk = mk) {e : Nat} :
    Keeps mk sb (State.rtcRaise s e) := by
  refine Keeps.step hk ?_ hmk
  have h_self : Keeps 6177 s s := Keeps.refl
  unfold State.rtcRaise
  extract_lets -merge -useContext -underBinder +onlyGivenNames q1
  exact (Keeps.ite_keep (State.raise_keep h_self rfl) (Keeps.rtc_keep h_self rfl))

theorem State.pwrEn_keep {mk : Nat} {sb s : State} (hk : Keeps mk sb s) (hmk : 1 ||| mk = mk) :
    Keeps mk sb (State.pwrEn s) := by
  refine Keeps.step hk ?_ hmk
  have h_self : Keeps 1 s s := Keeps.refl
  unfold State.pwrEn
  exact (State.putB_keep h_self rfl)

theorem State.pwrEnUp_keep {mk : Nat} {sb s : State} (hk : Keeps mk sb s) (hmk : 1 ||| mk = mk) :
    Keeps mk sb (State.pwrEnUp s) := by
  refine Keeps.step hk ?_ hmk
  have h_self : Keeps 1 s s := Keeps.refl
  unfold State.pwrEnUp
  exact (State.when_keep h_self (fun x1_0 h_x1_0 => (State.pwrEn_keep h_x1_0 rfl)))

theorem State.alarmCheck_keep {mk : Nat} {sb s : State} (hk : Keeps mk sb s) (hmk : 6177 ||| mk = mk) :
    Keeps mk sb (State.alarmCheck s) := by
  refine Keeps.step hk ?_ hmk
  have h_self : Keeps 6177 s s := Keeps.refl
  unfold State.alarmCheck
  extract_lets -merge -useContext -underBinder +onlyGivenNames at'1 d2 per3 s14
  have h_s14 : Keeps 6177 s s14 := (Keeps.ite_keep (State.put_keep h_self rfl) (State.put48_keep h_self rfl))
  exact (Keeps.ite_keep (State.rtcRaise_keep (State.pwrEn_keep (State.put_keep h_s14 rfl) rfl) rfl) h_self)

theorem execRtcAlarm_keep (s : State) : KeepsOut 6177 s (execRtcAlarm s) := by
  have h_self : Keeps 6177 s s := Keeps.refl
  unfold execRtcAlarm
  exact (KeepsOut.next (State.alarmCheck_keep h_self rfl))

theorem State.leapErr_keep {mk : Nat} {sb s : State} (hk : Keeps mk sb s) (hmk : 1 ||| mk = mk) :
    Keeps mk sb (State.leapErr s) := by
  refine Keeps.step hk ?_ hmk
  have h_self : Keeps 1 s s := Keeps.refl
  unfold State.leapErr
  exact (State.when_keep h_self (fun x1_0 h_x1_0 => (State.put_keep h_x1_0 rfl)))

theorem State.leapCheck_keep {mk : Nat} {sb s : State} (hk : Keeps mk sb s) (hmk : 1 ||| mk = mk) :
    Keeps mk sb (State.leapCheck s) := by
  refine Keeps.step hk ?_ hmk
  have h_self : Keeps 1 s s := Keeps.refl
  unfold State.leapCheck
  exact (by
  split
  · exact (Keeps.ite_keep (State.put_keep (State.put_keep h_self rfl) rfl) h_self)
  · exact h_self)

theorem execLeapSecond_keep (s : State) : KeepsOut 1 s (execLeapSecond s) := by
  have h_self : Keeps 1 s s := Keeps.refl
  unfold execLeapSecond
  exact (KeepsOut.next (State.leapCheck_keep h_self rfl))

theorem State.rtcFollow_keep {mk : Nat} {sb s : State} (hk : Keeps mk sb s) (hmk : 6177 ||| mk = mk) :
    Keeps mk sb (State.rtcFollow s) := by
  refine Keeps.step hk ?_ hmk
  have h_self : Keeps 6177 s s := Keeps.refl
  unfold State.rtcFollow
  exact (State.pwrEn_keep (State.alarmCheck_keep (State.leapCheck_keep h_self rfl) rfl) rfl)

theorem State.domainPowerUp_keep {mk : Nat} {sb s : State} (hk : Keeps mk sb s) (hmk : 6145 ||| mk = mk) :
    Keeps mk sb (State.domainPowerUp s) := by
  refine Keeps.step hk ?_ hmk
  have h_self : Keeps 6145 s s := Keeps.refl
  unfold State.domainPowerUp
  extract_lets -merge -useContext -underBinder +onlyGivenNames rg1 q2 s13
  have h_s13 : Keeps 6145 s s13 := (Keeps.regs_rcd_rtc_keep h_self rfl (wordsOk_filter _ _))
  exact (State.put_keep (State.put_keep h_s13 rfl) rfl)

theorem execBackupDomainPowerUp_keep (s : State) : KeepsOut 6145 s (execBackupDomainPowerUp s) := by
  have h_self : Keeps 6145 s s := Keeps.refl
  unfold execBackupDomainPowerUp
  exact (KeepsOut.next (State.domainPowerUp_keep h_self rfl))

theorem State.crystalStop_keep {mk : Nat} {sb s : State} (hk : Keeps mk sb s) (hmk : 6177 ||| mk = mk) :
    Keeps mk sb (State.crystalStop s) := by
  refine Keeps.step hk ?_ hmk
  have h_self : Keeps 6177 s s := Keeps.refl
  unfold State.crystalStop
  extract_lets -merge -useContext -underBinder +onlyGivenNames q1
  exact (State.rtcRaise_keep (State.put_keep (State.put_keep (Keeps.rtc_keep h_self rfl) rfl) rfl) rfl)

theorem execCrystalStop_keep (s : State) : KeepsOut 6177 s (execCrystalStop s) := by
  have h_self : Keeps 6177 s s := Keeps.refl
  unfold execCrystalStop
  exact (KeepsOut.next (State.crystalStop_keep h_self rfl))

theorem State.crystalRestart_keep {mk : Nat} {sb s : State} (hk : Keeps mk sb s) (hmk : 4096 ||| mk = mk) :
    Keeps mk sb (State.crystalRestart s) := by
  refine Keeps.step hk ?_ hmk
  have h_self : Keeps 4096 s s := Keeps.refl
  unfold State.crystalRestart
  extract_lets -merge -useContext -underBinder +onlyGivenNames q1
  exact (Keeps.rtc_keep h_self rfl)

theorem execCrystalRestart_keep (s : State) : KeepsOut 4096 s (execCrystalRestart s) := by
  have h_self : Keeps 4096 s s := Keeps.refl
  unfold execCrystalRestart
  exact (KeepsOut.next (State.crystalRestart_keep h_self rfl))

theorem State.fracRead_keep {mk : Nat} {sb s : State} (hk : Keeps mk sb s) (hmk : 6 ||| mk = mk) :
    Keeps mk sb (State.fracRead s) := by
  refine Keeps.step hk ?_ hmk
  have h_self : Keeps 6 s s := Keeps.refl
  unfold State.fracRead
  extract_lets -merge -useContext -underBinder +onlyGivenNames q1
  have h_q1 : Keeps 6 s q1 := (State.latch_keep h_self rfl)
  exact (Keeps.ite_keep (Keeps.hostData_keep h_q1 rfl) (Keeps.hostData_keep h_self rfl))

theorem execRtcFracRead_keep (_port : Fin 2) (s : State) : KeepsOut 6 s (execRtcFracRead _port s) := by
  have h_self : Keeps 6 s s := Keeps.refl
  unfold execRtcFracRead
  exact (KeepsOut.next (State.fracRead_keep h_self rfl))

theorem State.haltWrite_keep {mk : Nat} {sb s : State} (hk : Keeps mk sb s) (hmk : 6177 ||| mk = mk) {halt : Bool} :
    Keeps mk sb (State.haltWrite s halt) := by
  refine Keeps.step hk ?_ hmk
  have h_self : Keeps 6177 s s := Keeps.refl
  unfold State.haltWrite
  extract_lets -merge -useContext -underBinder +onlyGivenNames q1 s12 q3
  have h_s12 : Keeps 6177 s s12 := (State.when_keep (State.put_keep h_self rfl) (fun x4_0 h_x4_0 => (State.put_keep h_x4_0 rfl)))
  exact (Keeps.ite_keep (State.put_keep h_self rfl) (Keeps.ite_keep (Keeps.ite_keep h_self (State.put_keep (Keeps.rtc_keep h_self rfl) rfl)) (Keeps.ite_keep (State.rtcFollow_keep (Keeps.rtc_keep h_s12 rfl) rfl) h_self)))

theorem execRtcHalt_keep (halt : Bool) (s : State) : KeepsOut 6177 s (execRtcHalt halt s) := by
  have h_self : Keeps 6177 s s := Keeps.refl
  unfold execRtcHalt
  exact (KeepsOut.next (State.haltWrite_keep h_self rfl))

theorem State.countWrite_keep {mk : Nat} {sb s : State} (hk : Keeps mk sb s) (hmk : 6177 ||| mk = mk) {w v : Nat} :
    Keeps mk sb (State.countWrite s w v) := by
  refine Keeps.step hk ?_ hmk
  have h_self : Keeps 6177 s s := Keeps.refl
  unfold State.countWrite
  extract_lets -merge -useContext -underBinder +onlyGivenNames sec1
  exact (by
  split
  · exact (State.setCount_keep h_self rfl)
  · extract_lets -merge -useContext -underBinder +onlyGivenNames q4
    exact (State.rtcFollow_keep (State.setCount_keep (Keeps.rtc_keep h_self rfl) rfl) rfl)
  · extract_lets -merge -useContext -underBinder +onlyGivenNames q6
    exact (State.rtcFollow_keep (State.setCount_keep (Keeps.rtc_keep h_self rfl) rfl) rfl))

theorem State.autotrimDone_keep {mk : Nat} {sb s : State} (hk : Keeps mk sb s) (hmk : 6177 ||| mk = mk) :
    Keeps mk sb (State.autotrimDone s) := by
  refine Keeps.step hk ?_ hmk
  have h_self : Keeps 6177 s s := Keeps.refl
  unfold State.autotrimDone
  exact (by
  split
  · exact h_self
  · extract_lets -merge -useContext -underBinder +onlyGivenNames v3 c4 s15 q6
    have h_s15 : Keeps 6177 s s15 := (State.put_keep (State.putSat_keep (State.putI_keep h_self rfl) rfl) rfl)
    exact (State.rtcRaise_keep (State.when_keep (Keeps.rtc_keep h_s15 rfl) (fun x7_0 h_x7_0 => (State.put_keep h_x7_0 rfl))) rfl))

theorem execAutotrimComplete_keep (s : State) : KeepsOut 6177 s (execAutotrimComplete s) := by
  have h_self : Keeps 6177 s s := Keeps.refl
  unfold execAutotrimComplete
  exact (KeepsOut.next (State.autotrimDone_keep h_self rfl))

theorem State.autotrimDrop_keep {mk : Nat} {sb s : State} (hk : Keeps mk sb s) (hmk : 4097 ||| mk = mk) :
    Keeps mk sb (State.autotrimDrop s) := by
  refine Keeps.step hk ?_ hmk
  have h_self : Keeps 4097 s s := Keeps.refl
  unfold State.autotrimDrop
  extract_lets -merge -useContext -underBinder +onlyGivenNames q1
  exact (State.put_keep (Keeps.rtc_keep h_self rfl) rfl)

theorem State.autotrimPps_keep {mk : Nat} {sb s0 : State} (hk : Keeps mk sb s0) (hmk : 6177 ||| mk = mk) :
    Keeps mk sb (State.autotrimPps s0) := by
  refine Keeps.step hk ?_ hmk
  have h_self : Keeps 6177 s0 s0 := Keeps.refl
  unfold State.autotrimPps
  extract_lets -merge -useContext -underBinder +onlyGivenNames s1
  have h_s1 : Keeps 6177 s0 s1 := (State.autotrimDone_keep h_self rfl)
  exact (Keeps.ite_keep (State.autotrimDrop_keep h_s1 rfl) (by
  split
  · extract_lets -merge -useContext -underBinder +onlyGivenNames q3
    exact (State.put_keep (Keeps.rtc_keep h_s1 rfl) rfl)
  · extract_lets -merge -useContext -underBinder +onlyGivenNames k5 q6
    exact (Keeps.ite_keep (State.put_keep (Keeps.rtc_keep h_s1 rfl) rfl) (State.put_keep h_s1 rfl))))

theorem State.internalPps_keep {mk : Nat} {sb s : State} (hk : Keeps mk sb s) (hmk : 6177 ||| mk = mk) {sec : Nat} :
    Keeps mk sb (State.internalPps s sec) := by
  refine Keeps.step hk ?_ hmk
  have h_self : Keeps 6177 s s := Keeps.refl
  unfold State.internalPps
  extract_lets -merge -useContext -underBinder +onlyGivenNames q1 s02 thr3 off4
  have h_s02 : Keeps 6177 s s02 := (State.autotrimPps_keep (Keeps.rtc_keep h_self rfl) rfl)
  exact (Keeps.ite_keep (State.rtcFollow_keep (State.put_keep (State.put_keep (State.setCount_keep h_s02 rfl) rfl) rfl) rfl) (Keeps.ite_keep (State.rtcFollow_keep (State.rtcRaise_keep (State.put_keep (State.setCount_keep h_s02 rfl) rfl) rfl) rfl) h_s02))

theorem execInternalPps_keep (s : State) : KeepsOut 6177 s (execInternalPps s) := by
  have h_self : Keeps 6177 s s := Keeps.refl
  unfold execInternalPps
  exact (KeepsOut.next (Keeps.ite_keep (State.internalPps_keep h_self rfl) h_self))

theorem State.trimStart_keep {mk : Nat} {sb s : State} (hk : Keeps mk sb s) (hmk : 4096 ||| mk = mk) :
    Keeps mk sb (State.trimStart s) := by
  refine Keeps.step hk ?_ hmk
  have h_self : Keeps 4096 s s := Keeps.refl
  unfold State.trimStart
  extract_lets -merge -useContext -underBinder +onlyGivenNames q1
  exact (Keeps.ite_keep (Keeps.rtc_keep h_self rfl) h_self)

theorem execTrimWindowStart_keep (s : State) : KeepsOut 4096 s (execTrimWindowStart s) := by
  have h_self : Keeps 4096 s s := Keeps.refl
  unfold execTrimWindowStart
  exact (KeepsOut.next (State.trimStart_keep h_self rfl))

theorem State.trimWrite_keep {mk : Nat} {sb s : State} (hk : Keeps mk sb s) (hmk : 1 ||| mk = mk) {v : Nat} :
    Keeps mk sb (State.trimWrite s v) := by
  refine Keeps.step hk ?_ hmk
  have h_self : Keeps 1 s s := Keeps.refl
  unfold State.trimWrite
  exact (Keeps.ite_keep h_self (State.putI_keep h_self rfl))

theorem State.calReject_keep {mk : Nat} {sb s : State} (hk : Keeps mk sb s) (hmk : 6177 ||| mk = mk) :
    Keeps mk sb (State.calReject s) := by
  refine Keeps.step hk ?_ hmk
  have h_self : Keeps 6177 s s := Keeps.refl
  unfold State.calReject
  exact (State.rtcRaise_keep (State.put_keep h_self rfl) rfl)

theorem State.calStart_keep {mk : Nat} {sb s : State} (hk : Keeps mk sb s) (hmk : 6177 ||| mk = mk) {r : Option (List (Nat × Nat))} :
    Keeps mk sb (State.calStart s r) := by
  refine Keeps.step hk ?_ hmk
  have h_self : Keeps 6177 s s := Keeps.refl
  unfold State.calStart
  exact (Keeps.ite_keep (State.put_keep h_self rfl) (by
  split
  · extract_lets -merge -useContext -underBinder +onlyGivenNames q2
    exact (State.put_keep (Keeps.rtc_keep h_self rfl) rfl)
  · exact (State.calReject_keep h_self rfl)))

theorem State.tocal_keep {mk : Nat} {sb s : State} (hk : Keeps mk sb s) (hmk : 6177 ||| mk = mk) :
    Keeps mk sb (State.tocal s) := by
  refine Keeps.step hk ?_ hmk
  have h_self : Keeps 6177 s s := Keeps.refl
  unfold State.tocal
  exact (State.calStart_keep h_self rfl)

theorem State.calLive_keep {mk : Nat} {sb s : State} (hk : Keeps mk sb s) (hmk : 6177 ||| mk = mk) :
    Keeps mk sb (State.calLive s) := by
  refine Keeps.step hk ?_ hmk
  have h_self : Keeps 6177 s s := Keeps.refl
  unfold State.calLive
  exact (State.calStart_keep h_self rfl)

theorem State.fromcal_keep {mk : Nat} {sb s : State} (hk : Keeps mk sb s) (hmk : 6177 ||| mk = mk) :
    Keeps mk sb (State.fromcal s) := by
  refine Keeps.step hk ?_ hmk
  have h_self : Keeps 6177 s s := Keeps.refl
  unfold State.fromcal
  extract_lets -merge -useContext -underBinder +onlyGivenNames c1
  exact (State.calStart_keep h_self rfl)

theorem execTocal_keep (s : State) : KeepsOut 6177 s (execTocal s) := by
  have h_self : Keeps 6177 s s := Keeps.refl
  unfold execTocal
  exact (KeepsOut.next (State.tocal_keep h_self rfl))

theorem execFromcal_keep (s : State) : KeepsOut 6177 s (execFromcal s) := by
  have h_self : Keeps 6177 s s := Keeps.refl
  unfold execFromcal
  exact (KeepsOut.next (State.fromcal_keep h_self rfl))

theorem execLive_keep (s : State) : KeepsOut 6177 s (execLive s) := by
  have h_self : Keeps 6177 s s := Keeps.refl
  unfold execLive
  exact (KeepsOut.next (State.calLive_keep h_self rfl))

theorem State.calCmd_keep {mk : Nat} {sb s : State} (hk : Keeps mk sb s) (hmk : 6177 ||| mk = mk) {v : Nat} :
    Keeps mk sb (State.calCmd s v) := by
  refine Keeps.step hk ?_ hmk
  have h_self : Keeps 6177 s s := Keeps.refl
  unfold State.calCmd
  exact (by
  split
  · exact h_self
  · exact (State.tocal_keep h_self rfl)
  · exact (State.fromcal_keep h_self rfl)
  · exact (State.calLive_keep h_self rfl)
  · exact (State.put_keep h_self rfl))

theorem State.calDone_keep {mk : Nat} {sb s : State} (hk : Keeps mk sb s) (hmk : 4097 ||| mk = mk) :
    Keeps mk sb (State.calDone s) := by
  refine Keeps.step hk ?_ hmk
  have h_self : Keeps 4097 s s := Keeps.refl
  unfold State.calDone
  extract_lets -merge -useContext -underBinder +onlyGivenNames q1 q2
  have h_q1 : Keeps 4097 s q1 := (State.each_keep h_self (fun x3_0 _ h_x3_0 => (State.setWord_keep h_x3_0 rfl)))
  exact (Keeps.ite_keep (State.put_keep (Keeps.rtc_keep h_q1 rfl) rfl) h_self)

theorem execCalendarConversionComplete_keep (s : State) : KeepsOut 4097 s (execCalendarConversionComplete s) := by
  have h_self : Keeps 4097 s s := Keeps.refl
  unfold execCalendarConversionComplete
  exact (KeepsOut.next (State.calDone_keep h_self rfl))

theorem State.railState_keep {mk : Nat} {sb s : State} (hk : Keeps mk sb s) (hmk : 8388609 ||| mk = mk) {k : Nat} {out : Bool} :
    Keeps mk sb (State.railState s k out) := by
  refine Keeps.step hk ?_ hmk
  have h_self : Keeps 8388609 s s := Keeps.refl
  unfold State.railState
  extract_lets -merge -useContext -underBinder +onlyGivenNames q1
  exact (State.when_keep (Keeps.pwr_keep h_self rfl) (fun x2_0 h_x2_0 => (State.putBit_keep h_x2_0 rfl)))

theorem execIoLockoutEnter_keep (s : State) : KeepsOut 8388609 s (execIoLockoutEnter s) := by
  have h_self : Keeps 8388609 s s := Keeps.refl
  unfold execIoLockoutEnter
  exact (KeepsOut.next (State.railState_keep (State.put_keep h_self rfl) rfl))

theorem State.rtcReady_keep {mk : Nat} {sb s : State} (hk : Keeps mk sb s) (hmk : 6177 ||| mk = mk) :
    Keeps mk sb (State.rtcReady s) := by
  refine Keeps.step hk ?_ hmk
  have h_self : Keeps 6177 s s := Keeps.refl
  unfold State.rtcReady
  extract_lets -merge -useContext -underBinder +onlyGivenNames q1
  exact (State.each_keep (State.put_keep (Keeps.rtc_keep h_self rfl) rfl) (fun x2_0 _ h_x2_0 => (State.raise_keep h_x2_0 rfl)))

theorem State.lockoutEnd_keep {mk : Nat} {sb s : State} (hk : Keeps mk sb s) (hmk : 8394785 ||| mk = mk) :
    Keeps mk sb (State.lockoutEnd s) := by
  refine Keeps.step hk ?_ hmk
  have h_self : Keeps 8394785 s s := Keeps.refl
  unfold State.lockoutEnd
  exact (Keeps.ite_keep h_self (State.railState_keep (State.when_keep (State.rtcReady_keep h_self rfl) (fun x1_0 h_x1_0 => (State.raise_keep h_x1_0 rfl))) rfl))

theorem execIoLockoutEnd_keep (s : State) : KeepsOut 8394785 s (execIoLockoutEnd s) := by
  have h_self : Keeps 8394785 s s := Keeps.refl
  unfold execIoLockoutEnd
  exact (KeepsOut.next (State.lockoutEnd_keep h_self rfl))

theorem State.wakeInput_keep {mk : Nat} {sb s : State} (hk : Keeps mk sb s) (hmk : 6177 ||| mk = mk) {level : Bool} :
    Keeps mk sb (State.wakeInput s level) := by
  refine Keeps.step hk ?_ hmk
  have h_self : Keeps 6177 s s := Keeps.refl
  unfold State.wakeInput
  extract_lets -merge -useContext -underBinder +onlyGivenNames was1 active2 s13
  have h_s13 : Keeps 6177 s s13 := (State.putB_keep h_self rfl)
  exact (Keeps.ite_keep (State.rtcRaise_keep (State.pwrEn_keep (State.put_keep h_s13 rfl) rfl) rfl) h_s13)

theorem execWakeInput_keep (level : Bool) (s : State) : KeepsOut 6177 s (execWakeInput level s) := by
  have h_self : Keeps 6177 s s := Keeps.refl
  unfold execWakeInput
  exact (KeepsOut.next (State.wakeInput_keep h_self rfl))

theorem State.vbatCheck_keep {mk : Nat} {sb s : State} (hk : Keeps mk sb s) (hmk : 8394785 ||| mk = mk) {mv : Nat} :
    Keeps mk sb (State.vbatCheck s mv) := by
  refine Keeps.step hk ?_ hmk
  have h_self : Keeps 8394785 s s := Keeps.refl
  unfold State.vbatCheck
  extract_lets -merge -useContext -underBinder +onlyGivenNames low1 s12
  have h_s12 : Keeps 8394785 s s12 := (State.when_keep (State.putB_keep h_self rfl) (fun x3_0 h_x3_0 => (State.railState_keep h_x3_0 rfl)))
  exact (State.when_keep h_s12 (fun x4_0 h_x4_0 => (State.rtcRaise_keep h_x4_0 rfl)))

end Sys2Proof.Machine
end

