-- ==== Sys2Proof/Laws/KeepTim.lean ====
section
/-! SUPPORT. What the functions of Machine/Tim.lean leave alone (see Laws/Keeps.lean). -/

namespace Sys2Proof.Machine

open Sys2Proof

theorem State.setFine_keep {mk : Nat} {sb s : State} (hk : Keeps mk sb s) (hmk : 65 ||| mk = mk) {x : Int} :
    Keeps mk sb (State.setFine s x) := by
  refine Keeps.step hk ?_ hmk
  have h_self : Keeps 65 s s := Keeps.refl
  unfold State.setFine
  extract_lets -merge -useContext -underBinder +onlyGivenNames q1 s12
  have h_s12 : Keeps 65 s s12 := (Keeps.tim_keep h_self rfl (by rfl) (by rfl))
  exact (State.putI_keep (State.when_keep h_s12 (fun x3_0 h_x3_0 => (State.put_keep h_x3_0 rfl))) rfl)

theorem State.applyFine_keep {mk : Nat} {sb s : State} (hk : Keeps mk sb s) (hmk : 65 ||| mk = mk) :
    Keeps mk sb (State.applyFine s) := by
  refine Keeps.step hk ?_ hmk
  have h_self : Keeps 65 s s := Keeps.refl
  unfold State.applyFine
  extract_lets -merge -useContext -underBinder +onlyGivenNames want1 s12 q3
  have h_s12 : Keeps 65 s s12 := (State.when_keep h_self (fun x4_0 h_x4_0 => (State.setFine_keep h_x4_0 rfl)))
  exact (Keeps.tim_keep h_s12 rfl (by rfl) (by rfl))

theorem State.writeManIncr_keep {mk : Nat} {sb s : State} (hk : Keeps mk sb s) (hmk : 65 ||| mk = mk) {v : Nat} :
    Keeps mk sb (State.writeManIncr s v) := by
  refine Keeps.step hk ?_ hmk
  have h_self : Keeps 65 s s := Keeps.refl
  unfold State.writeManIncr
  extract_lets -merge -useContext -underBinder +onlyGivenNames s11 q2
  have h_s11 : Keeps 65 s s11 := (State.putI_keep h_self rfl)
  exact (Keeps.ite_keep (Keeps.tim_keep h_s11 rfl (by rfl) (by rfl)) h_s11)

theorem State.servo_keep {mk : Nat} {sb s : State} (hk : Keeps mk sb s) (hmk : 64 ||| mk = mk) {ofs : Int} :
    Keeps mk sb (State.servo s ofs) := by
  refine Keeps.step hk ?_ hmk
  have h_self : Keeps 64 s s := Keeps.refl
  unfold State.servo
  extract_lets -merge -useContext -underBinder +onlyGivenNames kp1 ki2 lim3 fr4 ph5 q6
  exact (Keeps.tim_keep h_self rfl (by rfl) (by rfl))

theorem State.unlocked_keep {mk : Nat} {sb s : State} (hk : Keeps mk sb s) (hmk : 4097 ||| mk = mk) :
    Keeps mk sb (State.unlocked s) := by
  refine Keeps.step hk ?_ hmk
  have h_self : Keeps 4097 s s := Keeps.refl
  unfold State.unlocked
  exact (State.when_keep h_self (fun x1_0 h_x1_0 => (State.autotrimDrop_keep h_x1_0 rfl)))

theorem State.toLocking_keep {mk : Nat} {sb s0 : State} (hk : Keeps mk sb s0) (hmk : 6241 ||| mk = mk) {src : Nat} :
    Keeps mk sb (State.toLocking s0 src) := by
  refine Keeps.step hk ?_ hmk
  have h_self : Keeps 6241 s0 s0 := Keeps.refl
  unfold State.toLocking
  extract_lets -merge -useContext -underBinder +onlyGivenNames s1 s12 q3
  have h_s1 : Keeps 6241 s0 s1 := (State.unlocked_keep h_self rfl)
  have h_s12 : Keeps 6241 s0 s12 := (State.put_keep (State.put_keep (State.put_keep h_s1 rfl) rfl) rfl)
  exact (State.raise_keep (Keeps.tim_keep h_s12 rfl (by rfl) (by rfl)) rfl)

theorem State.toHoldover_keep {mk : Nat} {sb s : State} (hk : Keeps mk sb s) (hmk : 6241 ||| mk = mk) :
    Keeps mk sb (State.toHoldover s) := by
  refine Keeps.step hk ?_ hmk
  have h_self : Keeps 6241 s s := Keeps.refl
  unfold State.toHoldover
  extract_lets -merge -useContext -underBinder +onlyGivenNames h1 a2 long3 rate4 u05 s16 q7
  have h_s16 : Keeps 6241 s s16 := (State.put_keep (State.unlocked_keep h_self rfl) rfl)
  exact (State.raise_keep (Keeps.tim_keep h_s16 rfl (by rfl) (by rfl)) rfl)

theorem State.toFree_keep {mk : Nat} {sb s : State} (hk : Keeps mk sb s) (hmk : 4161 ||| mk = mk) :
    Keeps mk sb (State.toFree s) := by
  refine Keeps.step hk ?_ hmk
  have h_self : Keeps 4161 s s := Keeps.refl
  unfold State.toFree
  extract_lets -merge -useContext -underBinder +onlyGivenNames s11 q2
  have h_s11 : Keeps 4161 s s11 := (State.put_keep (State.put_keep (State.putI_keep (State.unlocked_keep h_self rfl) rfl) rfl) rfl)
  exact (Keeps.tim_keep h_s11 rfl (by rfl) (by rfl))

theorem State.discipline_keep {mk : Nat} {sb s : State} (hk : Keeps mk sb s) (hmk : 6241 ||| mk = mk) :
    Keeps mk sb (State.discipline s) := by
  refine Keeps.step hk ?_ hmk
  have h_self : Keeps 6241 s s := Keeps.refl
  unfold State.discipline
  extract_lets -merge -useContext -underBinder +onlyGivenNames m1 best2 src3
  exact (by
  split
  · exact (Keeps.ite_keep h_self (State.toLocking_keep h_self rfl))
  · exact (Keeps.ite_keep h_self (State.toLocking_keep h_self rfl))
  · extract_lets -merge -useContext -underBinder +onlyGivenNames allowed7
    exact (Keeps.ite_keep (Keeps.ite_keep (State.toHoldover_keep h_self rfl) (State.toLocking_keep h_self rfl)) (Keeps.ite_keep (State.toLocking_keep h_self rfl) h_self)))

theorem State.lockCount_keep {mk : Nat} {sb s : State} (hk : Keeps mk sb s) (hmk : 6241 ||| mk = mk) {ofs : Int} :
    Keeps mk sb (State.lockCount s ofs) := by
  refine Keeps.step hk ?_ hmk
  have h_self : Keeps 6241 s s := Keeps.refl
  unfold State.lockCount
  extract_lets -merge -useContext -underBinder +onlyGivenNames small1 big2
  exact (by
  split
  · extract_lets -merge -useContext -underBinder +onlyGivenNames n4 q5 q6
    exact (Keeps.ite_keep (State.raise_keep (State.put_keep (Keeps.tim_keep h_self rfl (by rfl) (by rfl)) rfl) rfl) (Keeps.tim_keep h_self rfl (by rfl) (by rfl)))
  · extract_lets -merge -useContext -underBinder +onlyGivenNames n8 h9 q10 q11
    exact (Keeps.ite_keep (State.put_keep (State.unlocked_keep (Keeps.tim_keep h_self rfl (by rfl) (by rfl)) rfl) rfl) (Keeps.tim_keep h_self rfl (by rfl) (by rfl)))
  · exact h_self)

theorem State.useOffset_keep {mk : Nat} {sb s : State} (hk : Keeps mk sb s) (hmk : 134223969 ||| mk = mk) {ofs : Int} :
    Keeps mk sb (State.useOffset s ofs) := by
  refine Keeps.step hk ?_ hmk
  have h_self : Keeps 134223969 s s := Keeps.refl
  unfold State.useOffset
  extract_lets -merge -useContext -underBinder +onlyGivenNames s11 s22
  have h_s11 : Keeps 134223969 s s11 := (State.putI_keep h_self rfl)
  have h_s22 : Keeps 134223969 s s22 := (Keeps.ite_keep (by
  split
  · exact h_s11
  · extract_lets -merge -useContext -underBinder +onlyGivenNames q5
    exact (State.put_keep (Keeps.tim_step_keep h_s11 rfl (by rfl)) rfl)) (State.servo_keep h_s11 rfl))
  exact (State.lockCount_keep h_s22 rfl)

theorem State.measured_keep {mk : Nat} {sb s : State} (hk : Keeps mk sb s) (hmk : 134223969 ||| mk = mk) {src : Nat} {valid : Bool} {ofs : Int} :
    Keeps mk sb (State.measured s src valid ofs) := by
  refine Keeps.step hk ?_ hmk
  have h_self : Keeps 134223969 s s := Keeps.refl
  unfold State.measured
  extract_lets -merge -useContext -underBinder +onlyGivenNames s11 st2
  have h_s11 : Keeps 134223969 s s11 := (State.discipline_keep h_self rfl)
  exact (State.when_keep h_s11 (fun x3_0 h_x3_0 => (State.useOffset_keep h_x3_0 rfl)))

theorem State.gnssOffset_keep {mk : Nat} {sb s : State} (hk : Keeps mk sb s) (hmk : 134223969 ||| mk = mk) {valid : Bool} {ofs : Int} :
    Keeps mk sb (State.gnssOffset s valid ofs) := by
  refine Keeps.step hk ?_ hmk
  have h_self : Keeps 134223969 s s := Keeps.refl
  unfold State.gnssOffset
  extract_lets -merge -useContext -underBinder +onlyGivenNames q1
  exact (State.measured_keep (Keeps.tim_keep h_self rfl (by rfl) (by rfl)) rfl)

theorem execGnssOffsetMeasurement_keep (valid bds : Bool) (ofs : Int) (s : State) : KeepsOut 134223969 s (execGnssOffsetMeasurement valid bds ofs s) := by
  have h_self : Keeps 134223969 s s := Keeps.refl
  unfold execGnssOffsetMeasurement
  exact (KeepsOut.next (State.gnssOffset_keep h_self rfl))

theorem State.ptpOffset_keep {mk : Nat} {sb s : State} (hk : Keeps mk sb s) (hmk : 134223969 ||| mk = mk) {p : Nat} {ofs : Int} {log : Int} {valid : Bool} :
    Keeps mk sb (State.ptpOffset s p ofs log valid) := by
  refine Keeps.step hk ?_ hmk
  have h_self : Keeps 134223969 s s := Keeps.refl
  unfold State.ptpOffset
  extract_lets -merge -useContext -underBinder +onlyGivenNames int1 gap2 onTime3 n4 s15 q6
  have h_s15 : Keeps 134223969 s s15 := (State.putSat_keep h_self rfl)
  exact (State.measured_keep (Keeps.tim_keep h_s15 rfl (by rfl) (by rfl)) rfl)

theorem State.ptpSync_keep {mk : Nat} {sb s : State} (hk : Keeps mk sb s) (hmk : 134224097 ||| mk = mk) {p : Nat} {t1 t2 log : Int} :
    Keeps mk sb (State.ptpSync s p t1 t2 log) := by
  refine Keeps.step hk ?_ hmk
  have h_self : Keeps 134224097 s s := Keeps.refl
  unfold State.ptpSync
  extract_lets -merge -useContext -underBinder +onlyGivenNames port1 q2 s13
  have h_s13 : Keeps 134224097 s s13 := (Keeps.eth_keep h_self rfl)
  exact (Keeps.ite_keep (State.ptpOffset_keep h_s13 rfl) h_self)

theorem execPtpSyncReceived_keep (p : Fin 4) (sy : PtpSync) (s : State) : KeepsOut 134224097 s (execPtpSyncReceived p sy s) := by
  have h_self : Keeps 134224097 s s := Keeps.refl
  unfold execPtpSyncReceived
  exact (KeepsOut.next (Keeps.ite_keep (State.ptpSync_keep h_self rfl) h_self))

theorem State.ptpLost_keep {mk : Nat} {sb s : State} (hk : Keeps mk sb s) (hmk : 6241 ||| mk = mk) :
    Keeps mk sb (State.ptpLost s) := by
  refine Keeps.step hk ?_ hmk
  have h_self : Keeps 6241 s s := Keeps.refl
  unfold State.ptpLost
  extract_lets -merge -useContext -underBinder +onlyGivenNames q1
  exact (State.discipline_keep (Keeps.tim_keep h_self rfl (by rfl) (by rfl)) rfl)

theorem State.ptpTimeout_keep {mk : Nat} {sb s : State} (hk : Keeps mk sb s) (hmk : 6241 ||| mk = mk) :
    Keeps mk sb (State.ptpTimeout s) := by
  refine Keeps.step hk ?_ hmk
  have h_self : Keeps 6241 s s := Keeps.refl
  unfold State.ptpTimeout
  exact (State.when_keep h_self (fun x1_0 h_x1_0 => (State.ptpLost_keep h_x1_0 rfl)))

theorem execPtpSyncTimeout_keep (s : State) : KeepsOut 6241 s (execPtpSyncTimeout s) := by
  have h_self : Keeps 6241 s s := Keeps.refl
  unfold execPtpSyncTimeout
  exact (KeepsOut.next (State.ptpTimeout_keep h_self rfl))

theorem State.holdLimit_keep {mk : Nat} {sb s : State} (hk : Keeps mk sb s) (hmk : 2081 ||| mk = mk) :
    Keeps mk sb (State.holdLimit s) := by
  refine Keeps.step hk ?_ hmk
  have h_self : Keeps 2081 s s := Keeps.refl
  unfold State.holdLimit
  exact (State.when_keep h_self (fun x1_0 h_x1_0 => (State.setRaise_keep h_x1_0 rfl)))

theorem execHoldoverLimit_keep (s : State) : KeepsOut 2081 s (execHoldoverLimit s) := by
  have h_self : Keeps 2081 s s := Keeps.refl
  unfold execHoldoverLimit
  exact (KeepsOut.next (State.holdLimit_keep h_self rfl))

theorem State.writeDisc_keep {mk : Nat} {sb s : State} (hk : Keeps mk sb s) (hmk : 6241 ||| mk = mk) {v : Nat} :
    Keeps mk sb (State.writeDisc s v) := by
  refine Keeps.step hk ?_ hmk
  have h_self : Keeps 6241 s s := Keeps.refl
  unfold State.writeDisc
  extract_lets -merge -useContext -underBinder +onlyGivenNames old1 s12 new3
  have h_s12 : Keeps 6241 s s12 := (State.put_keep (State.put_keep (State.put_keep h_self rfl) rfl) rfl)
  exact (Keeps.ite_keep (Keeps.ite_keep h_s12 (State.toFree_keep h_s12 rfl)) (State.discipline_keep h_s12 rfl))

theorem execTimDiscWrite_keep (val : Word) (s : State) : KeepsOut 6241 s (execTimDiscWrite val s) := by
  have h_self : Keeps 6241 s s := Keeps.refl
  unfold execTimDiscWrite
  exact (KeepsOut.next (State.writeDisc_keep h_self rfl))

theorem State.stepGo_keep {mk : Nat} {sb s : State} (hk : Keeps mk sb s) (hmk : 134217793 ||| mk = mk) :
    Keeps mk sb (State.stepGo s) := by
  refine Keeps.step hk ?_ hmk
  have h_self : Keeps 134217793 s s := Keeps.refl
  unfold State.stepGo
  extract_lets -merge -useContext -underBinder +onlyGivenNames ns1 q2
  exact (Keeps.ite_keep (State.put_keep h_self rfl) (State.put_keep (Keeps.tim_step_keep h_self rfl (by rfl)) rfl))

theorem execTimStepGo_keep (s : State) : KeepsOut 134217793 s (execTimStepGo s) := by
  have h_self : Keeps 134217793 s s := Keeps.refl
  unfold execTimStepGo
  exact (KeepsOut.next (State.stepGo_keep h_self rfl))

theorem State.setTarget_keep {mk : Nat} {sb s : State} (hk : Keeps mk sb s) (hmk : 1 ||| mk = mk) {c t : Nat} :
    Keeps mk sb (State.setTarget s c t) := by
  refine Keeps.step hk ?_ hmk
  have h_self : Keeps 1 s s := Keeps.refl
  unfold State.setTarget
  exact (State.put_keep (State.put_keep h_self rfl) rfl)

theorem State.fire_keep {mk : Nat} {sb s : State} (hk : Keeps mk sb s) (hmk : 2657 ||| mk = mk) {c : Nat} {late0 : Bool} :
    Keeps mk sb (State.fire s c late0) := by
  refine Keeps.step hk ?_ hmk
  have h_self : Keeps 2657 s s := Keeps.refl
  unfold State.fire
  extract_lets -merge -useContext -underBinder +onlyGivenNames per1 tgt2 s13 q4 s25 behind6 skip7 late8 s39 s410
  have h_s13 : Keeps 2657 s s13 := (State.incWrap_keep (State.put_keep (State.put_keep h_self rfl) rfl) rfl)
  have h_s25 : Keeps 2657 s s25 := (Keeps.tim_keep h_s13 rfl (by rfl) (by rfl))
  have h_s39 : Keeps 2657 s s39 := (Keeps.ite_keep (State.put_keep h_s25 rfl) (State.setTarget_keep h_s25 rfl))
  have h_s410 : Keeps 2657 s s410 := (State.when_keep h_s39 (fun x11_0 h_x11_0 => (State.put_keep h_x11_0 rfl)))
  exact (State.streamInstant_keep h_s410 rfl)

theorem State.fireAll_keep {mk : Nat} {sb s : State} (hk : Keeps mk sb s) (hmk : 2657 ||| mk = mk) {late0 : Nat → Bool} :
    Keeps mk sb (State.fireAll s late0) := by
  refine Keeps.step hk ?_ hmk
  have h_self : Keeps 2657 s s := Keeps.refl
  unfold State.fireAll
  extract_lets -merge -useContext -underBinder +onlyGivenNames cs1 s12 irq3 late4
  have h_s12 : Keeps 2657 s s12 := (State.each_keep h_self (fun x5_0 _ h_x5_0 => (State.fire_keep h_x5_0 rfl)))
  exact (State.when_keep (State.when_keep h_s12 (fun x7_0 h_x7_0 => (State.raise_keep h_x7_0 rfl))) (fun x6_0 h_x6_0 => (State.raise_keep h_x6_0 rfl)))

theorem State.arm_keep {mk : Nat} {sb s : State} (hk : Keeps mk sb s) (hmk : 33561185 ||| mk = mk) {c : Nat} :
    Keeps mk sb (State.arm s c) := by
  refine Keeps.step hk ?_ hmk
  have h_self : Keeps 33561185 s s := Keeps.refl
  unfold State.arm
  extract_lets -merge -useContext -underBinder +onlyGivenNames s11
  have h_s11 : Keeps 33561185 s s11 := (State.put_keep h_self rfl)
  exact (Keeps.ite_keep (State.fireAll_keep (State.edges_keep h_s11 rfl) rfl) h_s11)

theorem execCompareArm_keep (c : Fin 16) (s : State) : KeepsOut 50338401 s (execCompareArm c s) := by
  have h_self : Keeps 50338401 s s := Keeps.refl
  unfold execCompareArm
  exact (KeepsOut.next (State.lanes_keep h_self rfl (fun x1_0 h_x1_0 => (State.arm_keep h_x1_0 rfl))))

theorem State.compareFire_keep {mk : Nat} {sb s : State} (hk : Keeps mk sb s) (hmk : 33561185 ||| mk = mk) {c : Nat} :
    Keeps mk sb (State.compareFire s c) := by
  refine Keeps.step hk ?_ hmk
  have h_self : Keeps 33561185 s s := Keeps.refl
  unfold State.compareFire
  extract_lets -merge -useContext -underBinder +onlyGivenNames d1 s12
  have h_s12 : Keeps 33561185 s s12 := (State.runInside_keep h_self rfl)
  exact (Keeps.ite_keep (Keeps.ite_keep (State.fireAll_keep h_s12 rfl) h_s12) h_self)

theorem execCompareFire_keep (c : Fin 16) (s : State) : KeepsOut 50338401 s (execCompareFire c s) := by
  have h_self : Keeps 50338401 s s := Keeps.refl
  unfold execCompareFire
  exact (KeepsOut.next (State.lanes_keep h_self rfl (fun x1_0 h_x1_0 => (State.compareFire_keep h_x1_0 rfl))))

theorem State.pulseDone_keep {mk : Nat} {sb s : State} (hk : Keeps mk sb s) (hmk : 33558593 ||| mk = mk) {c : Nat} :
    Keeps mk sb (State.pulseDone s c) := by
  refine Keeps.step hk ?_ hmk
  have h_self : Keeps 33558593 s s := Keeps.refl
  unfold State.pulseDone
  exact (by
  split
  · exact h_self
  · extract_lets -merge -useContext -underBinder +onlyGivenNames s13 q4
    have h_s13 : Keeps 33558593 s s13 := (State.runInside_keep h_self rfl)
    exact (Keeps.ite_keep (State.put_keep (Keeps.tim_keep h_s13 rfl (by rfl) (by rfl)) rfl) h_s13))

theorem execTrigPulseEnd_keep (c : Fin 16) (s : State) : KeepsOut 33558593 s (execTrigPulseEnd c s) := by
  have h_self : Keeps 33558593 s s := Keeps.refl
  unfold execTrigPulseEnd
  exact (KeepsOut.next (State.pulseDone_keep h_self rfl))

theorem State.capHost_keep {mk : Nat} {sb s : State} (hk : Keeps mk sb s) (hmk : 2145 ||| mk = mk) {x : Capture} :
    Keeps mk sb (State.capHost s x) := by
  refine Keeps.step hk ?_ hmk
  have h_self : Keeps 2145 s s := Keeps.refl
  unfold State.capHost
  extract_lets -merge -useContext -underBinder +onlyGivenNames l1 q2 s13
  have h_s13 : Keeps 2145 s s13 := (State.put_keep (Keeps.tim_keep h_self rfl (by rfl) (by rfl)) rfl)
  exact (Keeps.ite_keep h_s13 (State.raiseMajor_keep (State.inc_keep h_s13 rfl) rfl))

theorem State.capture_keep {mk : Nat} {sb s : State} (hk : Keeps mk sb s) (hmk : 2657 ||| mk = mk) {n : Nat} {rising : Bool} :
    Keeps mk sb (State.capture s n rising) := by
  refine Keeps.step hk ?_ hmk
  have h_self : Keeps 2657 s s := Keeps.refl
  unfold State.capture
  extract_lets -merge -useContext -underBinder +onlyGivenNames sel1 q2 s13
  have h_s13 : Keeps 2657 s s13 := (Keeps.tim_keep h_self rfl (by rfl) (by rfl))
  exact (Keeps.ite_keep (Keeps.ite_keep (State.when_keep (State.streamInstant_keep h_s13 rfl) (fun x4_0 h_x4_0 => (State.capHost_keep h_x4_0 rfl))) h_s13) h_self)

theorem execCaptureEdge_keep (n : Fin 32) (rising : Bool) (s : State) : KeepsOut 16779873 s (execCaptureEdge n rising s) := by
  have h_self : Keeps 16779873 s s := Keeps.refl
  unfold execCaptureEdge
  exact (KeepsOut.next (State.lanes_keep h_self rfl (fun x1_0 h_x1_0 => (State.capture_keep h_x1_0 rfl))))

theorem State.capRead_keep {mk : Nat} {sb s : State} (hk : Keeps mk sb s) (hmk : 69 ||| mk = mk) :
    Keeps mk sb (State.capRead s) := by
  refine Keeps.step hk ?_ hmk
  have h_self : Keeps 69 s s := Keeps.refl
  unfold State.capRead
  exact (by
  split
  · extract_lets -merge -useContext -underBinder +onlyGivenNames q2
    have h_q2 : Keeps 69 s q2 := (State.put_keep h_self rfl)
    exact (Keeps.hostData_keep h_q2 rfl)
  · extract_lets -merge -useContext -underBinder +onlyGivenNames q4 s15
    have h_s15 : Keeps 69 s s15 := (Keeps.hostData_tim_keep h_self rfl (by rfl) (by rfl))
    exact (State.put_keep (State.put_keep (State.put_keep h_s15 rfl) rfl) rfl))

theorem execTimCapfifoRead_keep (_port : Fin 2) (s : State) : KeepsOut 69 s (execTimCapfifoRead _port s) := by
  have h_self : Keeps 69 s s := Keeps.refl
  unfold execTimCapfifoRead
  exact (KeepsOut.next (State.capRead_keep h_self rfl))

theorem State.nowRead_keep {mk : Nat} {sb s : State} (hk : Keeps mk sb s) (hmk : 6 ||| mk = mk) :
    Keeps mk sb (State.nowRead s) := by
  refine Keeps.step hk ?_ hmk
  have h_self : Keeps 6 s s := Keeps.refl
  unfold State.nowRead
  extract_lets -merge -useContext -underBinder +onlyGivenNames c1 s12
  have h_s12 : Keeps 6 s s12 := (State.latch_keep h_self rfl)
  exact (Keeps.hostData_keep h_s12 rfl)

theorem execTimNowRead_keep (_port : Fin 2) (s : State) : KeepsOut 6 s (execTimNowRead _port s) := by
  have h_self : Keeps 6 s s := Keeps.refl
  unfold execTimNowRead
  exact (KeepsOut.next (State.nowRead_keep h_self rfl))

end Sys2Proof.Machine
end

