-- ==== Sys2Proof/Laws/KeepGns.lean ====
section
/-! SUPPORT. What the functions of Machine/Gns.lean leave alone (see Laws/Keeps.lean). -/

namespace Sys2Proof.Machine

open Sys2Proof

theorem State.modGch_keep {mk : Nat} {sb s : State} (hk : Keeps mk sb s) (hmk : 8192 ||| mk = mk) {n : Nat} {f : GnsChan → GnsChan} :
    Keeps mk sb (State.modGch s n f) := by
  refine Keeps.step hk ?_ hmk
  have h_self : Keeps 8192 s s := Keeps.refl
  unfold State.modGch
  extract_lets -merge -useContext -underBinder +onlyGivenNames q1
  exact (Keeps.gns_keep h_self rfl)

theorem State.gnsCounts_keep {mk : Nat} {sb s : State} (hk : Keeps mk sb s) (hmk : 1 ||| mk = mk) :
    Keeps mk sb (State.gnsCounts s) := by
  refine Keeps.step hk ?_ hmk
  have h_self : Keeps 1 s s := Keeps.refl
  unfold State.gnsCounts
  exact (State.put_keep (State.put_keep h_self rfl) rfl)

theorem State.gnsEnter_keep {mk : Nat} {sb s : State} (hk : Keeps mk sb s) (hmk : 10273 ||| mk = mk) {n st : Nat} :
    Keeps mk sb (State.gnsEnter s n st) := by
  refine Keeps.step hk ?_ hmk
  have h_self : Keeps 10273 s s := Keeps.refl
  unfold State.gnsEnter
  extract_lets -merge -useContext -underBinder +onlyGivenNames s11 s22
  have h_s11 : Keeps 10273 s s11 := (State.modGch_keep (State.put_keep h_self rfl) rfl)
  have h_s22 : Keeps 10273 s s22 := (State.when_keep h_s11 (fun x3_0 h_x3_0 => (State.raiseMajor_keep h_x3_0 rfl)))
  exact (State.gnsCounts_keep (Keeps.ite_keep (State.put_keep (State.modGch_keep h_s22 rfl) rfl) h_s22) rfl)

theorem State.integrate_keep {mk : Nat} {sb s : State} (hk : Keeps mk sb s) (hmk : 8192 ||| mk = mk) {n : Nat} {o : CorrObs} :
    Keeps mk sb (State.integrate s n o) := by
  refine Keeps.step hk ?_ hmk
  have h_self : Keeps 8192 s s := Keeps.refl
  unfold State.integrate
  extract_lets -merge -useContext -underBinder +onlyGivenNames c1 g2 st3 ms4 el5 vl6 nz7 pick8 ve9 e10 p11 l12 v13 z14 prev15 cross16 dot17 pErr18 fErr19 k020 bw21 r22 pe23 pl24 disc25 mag26 mp27 carr28 last29 k130 low31 k232 key33 aid34 aid135 q36 q37
  have h_q36 : Keeps 8192 s q36 := (State.modGch_keep h_self rfl)
  exact (Keeps.ite_keep (Keeps.gns_keep h_q36 rfl) h_self)

theorem State.integrateAll_keep {mk : Nat} {sb s : State} (hk : Keeps mk sb s) (hmk : 8192 ||| mk = mk) {n : Nat} {l : List CorrObs} :
    Keeps mk sb (State.integrateAll s n l) := by
  refine Keeps.step hk ?_ hmk
  have h_self : Keeps 8192 s s := Keeps.refl
  unfold State.integrateAll
  exact (State.each_keep h_self (fun x1_0 _ h_x1_0 => (State.integrate_keep h_x1_0 rfl)))

theorem State.takeNext_keep {mk : Nat} {sb s : State} (hk : Keeps mk sb s) (hmk : 10273 ||| mk = mk) :
    Keeps mk sb (State.takeNext s) := by
  refine Keeps.step hk ?_ hmk
  have h_self : Keeps 10273 s s := Keeps.refl
  unfold State.takeNext
  exact (Keeps.ite_keep h_self (by
  split
  · exact (State.gnsEnter_keep h_self rfl)
  · exact h_self))

theorem State.gnsAssign_keep {mk : Nat} {sb s : State} (hk : Keeps mk sb s) (hmk : 10273 ||| mk = mk) {n : Nat} :
    Keeps mk sb (State.gnsAssign s n) := by
  refine Keeps.step hk ?_ hmk
  have h_self : Keeps 10273 s s := Keeps.refl
  unfold State.gnsAssign
  extract_lets -merge -useContext -underBinder +onlyGivenNames g1 sv2 want3 ok4 s15 c6
  have h_s15 : Keeps 10273 s s15 := (State.putB_keep h_self rfl)
  exact (Keeps.ite_keep (Keeps.ite_keep h_s15 (State.gnsEnter_keep (State.modGch_keep h_s15 rfl) rfl)) (Keeps.ite_keep h_s15 (State.modGch_keep (State.gnsEnter_keep h_s15 rfl) rfl)))

theorem State.gnsAssignAll_keep {mk : Nat} {sb s : State} (hk : Keeps mk sb s) (hmk : 10273 ||| mk = mk) :
    Keeps mk sb (State.gnsAssignAll s) := by
  refine Keeps.step hk ?_ hmk
  have h_self : Keeps 10273 s s := Keeps.refl
  unfold State.gnsAssignAll
  exact (State.takeNext_keep (State.each_keep h_self (fun x1_0 _ h_x1_0 => (State.gnsAssign_keep h_x1_0 rfl))) rfl)

theorem State.autoAssign_keep {mk : Nat} {sb s : State} (hk : Keeps mk sb s) (hmk : 10273 ||| mk = mk) :
    Keeps mk sb (State.autoAssign s) := by
  refine Keeps.step hk ?_ hmk
  have h_self : Keeps 10273 s s := Keeps.refl
  unfold State.autoAssign
  exact (Keeps.ite_keep (State.gnsAssignAll_keep (State.each_keep h_self (fun x1_0 _ h_x1_0 => by
    extract_lets -merge -useContext -underBinder +onlyGivenNames a2 g3 put4
    have h_put4 : ∀ z0 z1, Keeps 10273 s z0 → Keeps 10273 s (put4 z0 z1) := (fun x5_0 _ h_x5_0 => by
      unfold put4
      extract_lets -merge -useContext -underBinder +onlyGivenNames ok6
      exact (State.putB_keep (State.put_keep (State.put_keep h_x5_0 rfl) rfl) rfl))
    exact (h_put4 _ _ (h_put4 _ _ h_x1_0)))) rfl) h_self)

theorem State.acquired_keep {mk : Nat} {sb s : State} (hk : Keeps mk sb s) (hmk : 10273 ||| mk = mk) {n ph : Nat} {z : Search} :
    Keeps mk sb (State.acquired s n ph z) := by
  refine Keeps.step hk ?_ hmk
  have h_self : Keeps 10273 s s := Keeps.refl
  unfold State.acquired
  extract_lets -merge -useContext -underBinder +onlyGivenNames c1 g2 q3 k4
  exact (State.takeNext_keep (State.gnsEnter_keep (State.incWrap_keep (State.modGch_keep h_self rfl) rfl) rfl) rfl)

theorem State.nextCell_keep {mk : Nat} {sb s : State} (hk : Keeps mk sb s) (hmk : 10273 ||| mk = mk) {n : Nat} {z : Search} :
    Keeps mk sb (State.nextCell s n z) := by
  refine Keeps.step hk ?_ hmk
  have h_self : Keeps 10273 s s := Keeps.refl
  unfold State.nextCell
  extract_lets -merge -useContext -underBinder +onlyGivenNames f1 at'2
  have h_at'2 : ∀ z0 z1, Keeps 10273 s (at'2 z0 z1) := (fun _ _  => (State.modGch_keep h_self rfl))
  exact (Keeps.ite_keep (h_at'2 _ _) (Keeps.ite_keep (h_at'2 _ _) (Keeps.ite_keep (h_at'2 _ _) (State.takeNext_keep (State.modGch_keep (State.gnsEnter_keep (State.incWrap_keep h_self rfl) rfl) rfl) rfl))))

theorem State.dwell_keep {mk : Nat} {sb s0 : State} (hk : Keeps mk sb s0) (hmk : 33568865 ||| mk = mk) {n snap : Nat} {bins : List (List AcqPass)} :
    Keeps mk sb (State.dwell s0 n snap bins) := by
  refine Keeps.step hk ?_ hmk
  have h_self : Keeps 33568865 s0 s0 := Keeps.refl
  unfold State.dwell
  extract_lets -merge -useContext -underBinder +onlyGivenNames f1 t2 s3 z4
  have h_s3 : Keeps 33568865 s0 s3 := (State.runInside_keep h_self rfl)
  exact (Keeps.ite_keep (Keeps.ite_keep h_s3 (by
  split
  · exact (by
    split
    · exact (Keeps.ite_keep (State.acquired_keep h_s3 rfl) (State.modGch_keep h_s3 rfl))
    · exact (State.nextCell_keep h_s3 rfl))
  · exact (Keeps.ite_keep h_s3 (Keeps.ite_keep (Keeps.ite_keep (State.acquired_keep h_s3 rfl) (State.modGch_keep h_s3 rfl)) (State.nextCell_keep h_s3 rfl))))) h_self)

theorem execAcqDwellComplete_keep (n : Fin 192) (snap : Nat) (bins : List (List AcqPass)) (s : State) : KeepsOut 33568865 s (execAcqDwellComplete n snap bins s) := by
  have h_self : Keeps 33568865 s s := Keeps.refl
  unfold execAcqDwellComplete
  exact (KeepsOut.next (State.dwell_keep h_self rfl))

theorem State.gnsRequeue_keep {mk : Nat} {sb s0 : State} (hk : Keeps mk sb s0) (hmk : 33568865 ||| mk = mk) {n : Nat} :
    Keeps mk sb (State.gnsRequeue s0 n) := by
  refine Keeps.step hk ?_ hmk
  have h_self : Keeps 33568865 s0 s0 := Keeps.refl
  unfold State.gnsRequeue
  exact (by
  split
  · extract_lets -merge -useContext -underBinder +onlyGivenNames s2
    have h_s2 : Keeps 33568865 s0 s2 := (State.runInside_keep h_self rfl)
    exact (Keeps.ite_keep (State.takeNext_keep (State.modGch_keep h_s2 rfl) rfl) h_s2)
  · exact h_self)

theorem execGnssRequeue_keep (n : Fin 192) (s : State) : KeepsOut 33568865 s (execGnssRequeue n s) := by
  have h_self : Keeps 33568865 s s := Keeps.refl
  unfold execGnssRequeue
  exact (KeepsOut.next (State.gnsRequeue_keep h_self rfl))

theorem State.trackLock_keep {mk : Nat} {sb s0 : State} (hk : Keeps mk sb s0) (hmk : 10273 ||| mk = mk) {n : Nat} {l : List CorrObs} :
    Keeps mk sb (State.trackLock s0 n l) := by
  refine Keeps.step hk ?_ hmk
  have h_self : Keeps 10273 s0 s0 := Keeps.refl
  unfold State.trackLock
  extract_lets -merge -useContext -underBinder +onlyGivenNames s1 k2
  have h_s1 : Keeps 10273 s0 s1 := (State.integrateAll_keep h_self rfl)
  exact (Keeps.ite_keep (State.gnsEnter_keep h_s1 rfl) h_s1)

theorem execGnssTrackLock_keep (n : Fin 192) (ints : List CorrObs) (s : State) : KeepsOut 10273 s (execGnssTrackLock n ints s) := by
  have h_self : Keeps 10273 s s := Keeps.refl
  unfold execGnssTrackLock
  exact (KeepsOut.next (State.trackLock_keep h_self rfl))

theorem State.gnsTimeout_keep {mk : Nat} {sb s0 : State} (hk : Keeps mk sb s0) (hmk : 33568865 ||| mk = mk) {n st t dst : Nat} :
    Keeps mk sb (State.gnsTimeout s0 n st t dst) := by
  refine Keeps.step hk ?_ hmk
  have h_self : Keeps 33568865 s0 s0 := Keeps.refl
  unfold State.gnsTimeout
  extract_lets -merge -useContext -underBinder +onlyGivenNames e1 s2
  have h_s2 : Keeps 33568865 s0 s2 := (State.runInside_keep h_self rfl)
  exact (Keeps.ite_keep (Keeps.ite_keep (State.gnsEnter_keep h_s2 rfl) h_s2) h_self)

theorem execGnssPullinTimeout_keep (n : Fin 192) (s : State) : KeepsOut 33568865 s (execGnssPullinTimeout n s) := by
  have h_self : Keeps 33568865 s s := Keeps.refl
  unfold execGnssPullinTimeout
  exact (KeepsOut.next (State.gnsTimeout_keep h_self rfl))

theorem State.trackLoss_keep {mk : Nat} {sb s0 : State} (hk : Keeps mk sb s0) (hmk : 10273 ||| mk = mk) {n : Nat} {l : List CorrObs} :
    Keeps mk sb (State.trackLoss s0 n l) := by
  refine Keeps.step hk ?_ hmk
  have h_self : Keeps 10273 s0 s0 := Keeps.refl
  unfold State.trackLoss
  extract_lets -merge -useContext -underBinder +onlyGivenNames s1
  have h_s1 : Keeps 10273 s0 s1 := (State.integrateAll_keep h_self rfl)
  exact (Keeps.ite_keep (State.gnsEnter_keep h_s1 rfl) h_s1)

theorem execGnssTrackLoss_keep (n : Fin 192) (ints : List CorrObs) (s : State) : KeepsOut 10273 s (execGnssTrackLoss n ints s) := by
  have h_self : Keeps 10273 s s := Keeps.refl
  unfold execGnssTrackLoss
  exact (KeepsOut.next (State.trackLoss_keep h_self rfl))

theorem execGnssReacqTimeout_keep (n : Fin 192) (s : State) : KeepsOut 33568865 s (execGnssReacqTimeout n s) := by
  have h_self : Keeps 33568865 s s := Keeps.refl
  unfold execGnssReacqTimeout
  exact (KeepsOut.next (State.gnsTimeout_keep h_self rfl))

theorem State.slipCheck_keep {mk : Nat} {sb s0 : State} (hk : Keeps mk sb s0) (hmk : 8193 ||| mk = mk) {n : Nat} {l : List CorrObs} {jump : Nat} :
    Keeps mk sb (State.slipCheck s0 n l jump) := by
  refine Keeps.step hk ?_ hmk
  have h_self : Keeps 8193 s0 s0 := Keeps.refl
  unfold State.slipCheck
  extract_lets -merge -useContext -underBinder +onlyGivenNames s1
  have h_s1 : Keeps 8193 s0 s1 := (State.integrateAll_keep h_self rfl)
  exact (Keeps.ite_keep (State.put_keep (State.modGch_keep h_s1 rfl) rfl) h_s1)

theorem execCycleSlipCheck_keep (n : Fin 192) (ints : List CorrObs) (jump : Nat) (s : State) : KeepsOut 8193 s (execCycleSlipCheck n ints jump s) := by
  have h_self : Keeps 8193 s s := Keeps.refl
  unfold execCycleSlipCheck
  exact (KeepsOut.next (State.slipCheck_keep h_self rfl))

theorem State.gnsEnable_keep {mk : Nat} {sb s : State} (hk : Keeps mk sb s) (hmk : 8193 ||| mk = mk) :
    Keeps mk sb (State.gnsEnable s) := by
  refine Keeps.step hk ?_ hmk
  have h_self : Keeps 8193 s s := Keeps.refl
  unfold State.gnsEnable
  extract_lets -merge -useContext -underBinder +onlyGivenNames q1
  exact (Keeps.ite_keep h_self (State.put_keep (Keeps.gns_keep h_self rfl) rfl))

theorem execGnssEnable_keep (s : State) : KeepsOut 8193 s (execGnssEnable s) := by
  have h_self : Keeps 8193 s s := Keeps.refl
  unfold execGnssEnable
  exact (KeepsOut.next (State.gnsEnable_keep h_self rfl))

theorem State.rfLock_keep {mk : Nat} {sb s : State} (hk : Keeps mk sb s) (hmk : 8193 ||| mk = mk) {k : Nat} :
    Keeps mk sb (State.rfLock s k) := by
  refine Keeps.step hk ?_ hmk
  have h_self : Keeps 8193 s s := Keeps.refl
  unfold State.rfLock
  extract_lets -merge -useContext -underBinder +onlyGivenNames q1
  exact (Keeps.ite_keep (State.put_keep (State.put_keep (Keeps.gns_keep h_self rfl) rfl) rfl) h_self)

theorem execGnssRfPllLock_keep (pos10 pos100 : Bool) (s : State) : KeepsOut 8193 s (execGnssRfPllLock pos10 pos100 s) := by
  have h_self : Keeps 8193 s s := Keeps.refl
  unfold execGnssRfPllLock
  extract_lets -merge -useContext -underBinder +onlyGivenNames q1 s12
  have h_s12 : Keeps 8193 s s12 := (Keeps.gns_keep h_self rfl)
  exact (KeepsOut.next (Keeps.ite_keep (State.rfLock_keep h_s12 rfl) h_self))

theorem State.gnsStop_keep {mk : Nat} {sb s : State} (hk : Keeps mk sb s) (hmk : 10273 ||| mk = mk) :
    Keeps mk sb (State.gnsStop s) := by
  refine Keeps.step hk ?_ hmk
  have h_self : Keeps 10273 s s := Keeps.refl
  unfold State.gnsStop
  extract_lets -merge -useContext -underBinder +onlyGivenNames s11 q2
  have h_s11 : Keeps 10273 s s11 := (State.each_keep h_self (fun x3_0 _ h_x3_0 => (Keeps.ite_keep h_x3_0 (State.modGch_keep (State.gnsEnter_keep h_x3_0 rfl) rfl))))
  exact (Keeps.gns_keep h_s11 rfl)

theorem State.gnsDisable_keep {mk : Nat} {sb s : State} (hk : Keeps mk sb s) (hmk : 10273 ||| mk = mk) :
    Keeps mk sb (State.gnsDisable s) := by
  refine Keeps.step hk ?_ hmk
  have h_self : Keeps 10273 s s := Keeps.refl
  unfold State.gnsDisable
  extract_lets -merge -useContext -underBinder +onlyGivenNames s11 q2
  have h_s11 : Keeps 10273 s s11 := (State.gnsStop_keep (State.put_keep (State.put_keep h_self rfl) rfl) rfl)
  exact (Keeps.gns_keep h_s11 rfl)

theorem execGnssDisable_keep (s : State) : KeepsOut 10273 s (execGnssDisable s) := by
  have h_self : Keeps 10273 s s := Keeps.refl
  unfold execGnssDisable
  exact (KeepsOut.next (State.gnsDisable_keep h_self rfl))

theorem State.gnsRestart_keep {mk : Nat} {sb s : State} (hk : Keeps mk sb s) (hmk : 10273 ||| mk = mk) {kind : Nat} :
    Keeps mk sb (State.gnsRestart s kind) := by
  refine Keeps.step hk ?_ hmk
  have h_self : Keeps 10273 s s := Keeps.refl
  unfold State.gnsRestart
  extract_lets -merge -useContext -underBinder +onlyGivenNames a1 a12 q3 s14
  have h_s14 : Keeps 10273 s s14 := (Keeps.gns_keep h_self rfl)
  exact (Keeps.ite_keep h_self (Keeps.ite_keep (State.takeNext_keep (State.each_keep (State.put_keep h_s14 rfl) (fun x5_0 _ h_x5_0 => (Keeps.ite_keep h_x5_0 (State.gnsEnter_keep h_x5_0 rfl)))) rfl) h_s14))

theorem execGnssRestart_keep (kind : Fin 4) (s : State) : KeepsOut 10273 s (execGnssRestart kind s) := by
  have h_self : Keeps 10273 s s := Keeps.refl
  unfold execGnssRestart
  exact (KeepsOut.next (State.gnsRestart_keep h_self rfl))

theorem execGnssRfFault_keep (k : Fin 4) (ovl pll : Bool) (s : State) : KeepsOut 2081 s (execGnssRfFault k ovl pll s) := by
  have h_self : Keeps 2081 s s := Keeps.refl
  unfold execGnssRfFault
  exact (KeepsOut.next (State.when_keep (State.when_keep (State.when_keep h_self (fun x3_0 h_x3_0 => (State.put_keep h_x3_0 rfl))) (fun x2_0 h_x2_0 => (State.put_keep h_x2_0 rfl))) (fun x1_0 h_x1_0 => (State.raise_keep h_x1_0 rfl))))

theorem State.latchEpoch_keep {mk : Nat} {sb s : State} (hk : Keeps mk sb s) (hmk : 8193 ||| mk = mk) {lin sec ns : Nat} {edge : Option GnsEdge} :
    Keeps mk sb (State.latchEpoch s lin sec ns edge) := by
  refine Keeps.step hk ?_ hmk
  have h_self : Keeps 8193 s s := Keeps.refl
  unfold State.latchEpoch
  extract_lets -merge -useContext -underBinder +onlyGivenNames seq1 t2 hf3 chan4 ep5 chans6 rf7 q8 s19
  have h_s19 : Keeps 8193 s s19 := (Keeps.gns_keep h_self rfl)
  exact (State.each_keep (State.put_keep h_s19 rfl) (fun x10_0 _ h_x10_0 => by
    extract_lets -merge -useContext -underBinder +onlyGivenNames r11
    exact (State.put_keep (State.put_keep h_x10_0 rfl) rfl)))

theorem State.edgeKept_keep {mk : Nat} {sb s : State} (hk : Keeps mk sb s) (hmk : 8192 ||| mk = mk) :
    Keeps mk sb (State.edgeKept s) := by
  refine Keeps.step hk ?_ hmk
  have h_self : Keeps 8192 s s := Keeps.refl
  unfold State.edgeKept
  extract_lets -merge -useContext -underBinder +onlyGivenNames e1 q2
  exact (Keeps.ite_keep h_self (Keeps.gns_keep h_self rfl))

theorem State.measureEpoch_keep {mk : Nat} {sb s : State} (hk : Keeps mk sb s) (hmk : 134232161 ||| mk = mk) :
    Keeps mk sb (State.measureEpoch s) := by
  refine Keeps.step hk ?_ hmk
  have h_self : Keeps 134232161 s s := Keeps.refl
  unfold State.measureEpoch
  extract_lets -merge -useContext -underBinder +onlyGivenNames e1 cleared2
  have h_cleared2 : ∀ z0, Keeps 134232161 s z0 → Keeps 134232161 s (cleared2 z0) := (fun x3_0 h_x3_0 => by
    unfold cleared2
    extract_lets -merge -useContext -underBinder +onlyGivenNames q4
    exact (Keeps.gns_keep h_x3_0 rfl))
  exact (Keeps.ite_keep h_self (by
  split
  · extract_lets -merge -useContext -underBinder +onlyGivenNames edge6 on7 q8 s19 s210 q11
    have h_s19 : Keeps 134232161 s s19 := (h_cleared2 _ (Keeps.gns_keep h_self rfl))
    have h_s210 : Keeps 134232161 s s210 := (State.latchEpoch_keep h_s19 rfl)
    exact (Keeps.ite_keep (Keeps.gns_keep h_s210 rfl) (State.gnssOffset_keep h_s19 rfl))
  · extract_lets -merge -useContext -underBinder +onlyGivenNames edge13 on14 q15 s116 t17
    have h_s116 : Keeps 134232161 s s116 := (h_cleared2 _ (Keeps.gns_keep h_self rfl))
    exact (Keeps.ite_keep h_self (Keeps.ite_keep (State.latchEpoch_keep h_s116 rfl) (State.gnssOffset_keep h_s116 rfl)))))

theorem execMeasurementEpoch_keep (s : State) : KeepsOut 134232161 s (execMeasurementEpoch s) := by
  have h_self : Keeps 134232161 s s := Keeps.refl
  unfold execMeasurementEpoch
  exact (KeepsOut.next (State.measureEpoch_keep h_self rfl))

theorem State.epochComplete_keep {mk : Nat} {sb s0 : State} (hk : Keeps mk sb s0) (hmk : 33585249 ||| mk = mk) :
    Keeps mk sb (State.epochComplete s0) := by
  refine Keeps.step hk ?_ hmk
  have h_self : Keeps 33585249 s0 s0 := Keeps.refl
  unfold State.epochComplete
  exact (by
  split
  · exact h_self
  · extract_lets -merge -useContext -underBinder +onlyGivenNames s3 q4 s15
    have h_s3 : Keeps 33585249 s0 s3 := (State.runInside_keep h_self rfl)
    have h_s15 : Keeps 33585249 s0 s15 := (Keeps.gns_keep h_s3 rfl)
    exact (Keeps.ite_keep h_s3 (State.when_keep (State.when_keep h_s15 (fun x7_0 h_x7_0 => (State.hostItem_keep h_x7_0 rfl))) (fun x6_0 h_x6_0 => (State.raise_keep h_x6_0 rfl)))))

theorem execEpochRecordComplete_keep (s : State) : KeepsOut 33585249 s (execEpochRecordComplete s) := by
  have h_self : Keeps 33585249 s s := Keeps.refl
  unfold execEpochRecordComplete
  exact (KeepsOut.next (State.epochComplete_keep h_self rfl))

theorem State.spoofClear_keep {mk : Nat} {sb s : State} (hk : Keeps mk sb s) (hmk : 2081 ||| mk = mk) :
    Keeps mk sb (State.spoofClear s) := by
  refine Keeps.step hk ?_ hmk
  have h_self : Keeps 2081 s s := Keeps.refl
  unfold State.spoofClear
  exact (Keeps.ite_keep (State.raise_keep (State.put_keep h_self rfl) rfl) h_self)

theorem execSpoofClear_keep (s : State) : KeepsOut 2081 s (execSpoofClear s) := by
  have h_self : Keeps 2081 s s := Keeps.refl
  unfold execSpoofClear
  exact (KeepsOut.next (State.spoofClear_keep h_self rfl))

theorem State.spoofMarks_keep {mk : Nat} {sb s : State} (hk : Keeps mk sb s) (hmk : 8192 ||| mk = mk) {e : Epoch} {fails : Nat} :
    Keeps mk sb (State.spoofMarks s e fails) := by
  refine Keeps.step hk ?_ hmk
  have h_self : Keeps 8192 s s := Keeps.refl
  unfold State.spoofMarks
  extract_lets -merge -useContext -underBinder +onlyGivenNames ps1 sol2
  exact (State.each_keep h_self (fun x3_0 _ h_x3_0 => (State.modGch_keep h_x3_0 rfl)))

theorem State.spoofVerdict_keep {mk : Nat} {sb s : State} (hk : Keeps mk sb s) (hmk : 10273 ||| mk = mk) {t : Nat × Nat} :
    Keeps mk sb (State.spoofVerdict s t) := by
  refine Keeps.step hk ?_ hmk
  have h_self : Keeps 10273 s s := Keeps.refl
  unfold State.spoofVerdict
  extract_lets -merge -useContext -underBinder +onlyGivenNames fail1 s12 q3 s24
  have h_s12 : Keeps 10273 s s12 := (State.put_keep (State.put_keep h_self rfl) rfl)
  have h_s24 : Keeps 10273 s s24 := (Keeps.gns_keep h_s12 rfl)
  exact (State.spoofClear_keep (State.when_keep h_s24 (fun x5_0 h_x5_0 => (State.setRaise_keep h_x5_0 rfl))) rfl)

theorem State.putRaise_keep {mk : Nat} {sb s : State} (hk : Keeps mk sb s) (hmk : 2081 ||| mk = mk) {f : Fld} {b : Bool} {e : Nat} :
    Keeps mk sb (State.putRaise s f b e) := by
  refine Keeps.step hk ?_ hmk
  have h_self : Keeps 2081 s s := Keeps.refl
  unfold State.putRaise
  exact (Keeps.ite_keep h_self (State.raise_keep (State.putB_keep h_self rfl) rfl))

theorem State.solutionSeen_keep {mk : Nat} {sb s : State} (hk : Keeps mk sb s) (hmk : 8192 ||| mk = mk) {e : Epoch} {x : GnssSol} :
    Keeps mk sb (State.solutionSeen s e x) := by
  refine Keeps.step hk ?_ hmk
  have h_self : Keeps 8192 s s := Keeps.refl
  unfold State.solutionSeen
  extract_lets -merge -useContext -underBinder +onlyGivenNames v1 s12 old3 now4 q5 q6
  have h_s12 : Keeps 8192 s s12 := (State.each_keep h_self (fun x7_0 _ h_x7_0 => (State.modGch_keep h_x7_0 rfl)))
  exact (Keeps.gns_keep h_s12 rfl)

theorem State.gnssSolution_keep {mk : Nat} {sb s0 : State} (hk : Keeps mk sb s0) (hmk : 167787105 ||| mk = mk) {x : GnssSol} :
    Keeps mk sb (State.gnssSolution s0 x) := by
  refine Keeps.step hk ?_ hmk
  have h_self : Keeps 167787105 s0 s0 := Keeps.refl
  unfold State.gnssSolution
  exact (by
  split
  · exact h_self
  · extract_lets -merge -useContext -underBinder +onlyGivenNames s3 sa4 tests5 s16 rtk7 time8 hdg9 s210 q11 s312 at'13 adj14 s415 s516
    have h_s3 : Keeps 167787105 s0 s3 := (State.runInside_keep h_self rfl)
    have h_sa4 : Keeps 167787105 s0 sa4 := (State.solutionSeen_keep h_s3 rfl)
    have h_s16 : Keeps 167787105 s0 s16 := (State.spoofMarks_keep (State.spoofVerdict_keep h_sa4 rfl) rfl)
    have h_s210 : Keeps 167787105 s0 s210 := (State.putRaise_keep (State.putRaise_keep (State.put_keep (State.putB_keep h_s16 rfl) rfl) rfl) rfl)
    have h_s312 : Keeps 167787105 s0 s312 := (Keeps.gns_keep h_s210 rfl)
    have h_s415 : Keeps 167787105 s0 s415 := (State.when_keep h_s312 (fun x17_0 h_x17_0 => (State.internalArrive_keep (State.internalArrive_keep h_x17_0 rfl) rfl)))
    have h_s516 : Keeps 167787105 s0 s516 := (State.when_keep h_s415 (fun x18_0 h_x18_0 => (State.internalArrive_keep h_x18_0 rfl)))
    exact (Keeps.ite_keep h_s3 (State.gnssOffset_keep h_s516 rfl)))

theorem execGnssSolution_keep (sol : GnssSol) (s : State) : KeepsOut 184564321 s (execGnssSolution sol s) := by
  have h_self : Keeps 184564321 s s := Keeps.refl
  unfold execGnssSolution
  exact (KeepsOut.next (State.lanes_keep h_self rfl (fun x1_0 h_x1_0 => (State.gnssSolution_keep h_x1_0 rfl))))

theorem State.modRf_keep {mk : Nat} {sb s : State} (hk : Keeps mk sb s) (hmk : 8192 ||| mk = mk) {k : Nat} {f : RfChain → RfChain} :
    Keeps mk sb (State.modRf s k f) := by
  refine Keeps.step hk ?_ hmk
  have h_self : Keeps 8192 s s := Keeps.refl
  unfold State.modRf
  extract_lets -merge -useContext -underBinder +onlyGivenNames q1
  exact (Keeps.gns_keep h_self rfl)

theorem State.jamDetect_keep {mk : Nat} {sb s : State} (hk : Keeps mk sb s) (hmk : 10273 ||| mk = mk) {k : Nat} :
    Keeps mk sb (State.jamDetect s k) := by
  refine Keeps.step hk ?_ hmk
  have h_self : Keeps 10273 s s := Keeps.refl
  unfold State.jamDetect
  extract_lets -merge -useContext -underBinder +onlyGivenNames c1
  exact (by
  split
  · exact (Keeps.ite_keep (State.raise_keep (State.modRf_keep h_self rfl) rfl) h_self)
  · exact h_self)

theorem execJamDetect_keep (k : Fin 4) (s : State) : KeepsOut 10273 s (execJamDetect k s) := by
  have h_self : Keeps 10273 s s := Keeps.refl
  unfold execJamDetect
  exact (KeepsOut.next (State.jamDetect_keep h_self rfl))

theorem State.notchSet_keep {mk : Nat} {sb s : State} (hk : Keeps mk sb s) (hmk : 10273 ||| mk = mk) {k j : Nat} {on : Bool} :
    Keeps mk sb (State.notchSet s k j on) := by
  refine Keeps.step hk ?_ hmk
  have h_self : Keeps 10273 s s := Keeps.refl
  unfold State.notchSet
  exact (Keeps.ite_keep h_self (State.raiseMajor_keep (State.modRf_keep (State.putB_keep h_self rfl) rfl) rfl))

theorem State.notchFixed_keep {mk : Nat} {sb s : State} (hk : Keeps mk sb s) (hmk : 10273 ||| mk = mk) {k j : Nat} :
    Keeps mk sb (State.notchFixed s k j) := by
  refine Keeps.step hk ?_ hmk
  have h_self : Keeps 10273 s s := Keeps.refl
  unfold State.notchFixed
  exact (by
  split
  · exact h_self
  · exact (State.notchSet_keep h_self rfl)
  · exact (State.notchSet_keep h_self rfl))

theorem State.notchFollow_keep {mk : Nat} {sb s : State} (hk : Keeps mk sb s) (hmk : 10273 ||| mk = mk) {k : Nat} {ls : List SpecLine} {j : Nat} :
    Keeps mk sb (State.notchFollow s k ls j).1 := by
  refine Keeps.step hk ?_ hmk
  have h_self : Keeps 10273 s s := Keeps.refl
  unfold State.notchFollow
  exact (Keeps.ite_fst (by
  split
  · extract_lets -merge -useContext -underBinder +onlyGivenNames s12
    have h_s12 : Keeps 10273 s s12 := (State.modRf_keep (State.putI_keep h_self rfl) rfl)
    exact (Keeps.mk_fst h_s12)
  · exact (by
    split
    · exact (Keeps.mk_fst (State.modRf_keep h_self rfl))
    · exact (Keeps.ite_fst (Keeps.mk_fst (State.notchSet_keep h_self rfl)) (Keeps.mk_fst h_self)))) (Keeps.mk_fst h_self))

theorem State.notchEngage_keep {mk : Nat} {sb s : State} (hk : Keeps mk sb s) (hmk : 10273 ||| mk = mk) {k : Nat} {ls : List SpecLine} {j : Nat} :
    Keeps mk sb (State.notchEngage s k ls j).1 := by
  refine Keeps.step hk ?_ hmk
  have h_self : Keeps 10273 s s := Keeps.refl
  unfold State.notchEngage
  exact (by
  split
  · exact (Keeps.ite_fst (Keeps.mk_fst (State.notchSet_keep (State.putI_keep h_self rfl) rfl)) (Keeps.mk_fst h_self))
  · exact (Keeps.mk_fst h_self))

theorem State.spectrum_keep {mk : Nat} {sb s : State} (hk : Keeps mk sb s) (hmk : 10273 ||| mk = mk) {k agc : Nat} {power : Int} {lines : List SpecLine} :
    Keeps mk sb (State.spectrum s k agc power lines) := by
  refine Keeps.step hk ?_ hmk
  have h_self : Keeps 10273 s s := Keeps.refl
  unfold State.spectrum
  extract_lets -merge -useContext -underBinder +onlyGivenNames js1 s02 fixedAt3 strong4 p5 q6 ji7 thr8 above9 s110 s211
  have h_s02 : Keeps 10273 s s02 := (State.each_keep h_self (fun x12_0 _ h_x12_0 => (State.notchFixed_keep h_x12_0 rfl)))
  have h_p5 : Keeps 10273 s p5.1 := Keeps.proj (Keeps.foldl_fst_keep (Keeps.mk_fst h_s02) (fun x13_0 _ h_x13_0 => (State.notchFollow_keep h_x13_0 rfl))) rfl
  have h_q6 : Keeps 10273 s q6.1 := Keeps.proj (Keeps.foldl_fst_keep h_p5 (fun x14_0 _ h_x14_0 => (State.notchEngage_keep h_x14_0 rfl))) rfl
  have h_s110 : Keeps 10273 s s110 := (State.put_keep (State.putMax_keep (State.put_keep (State.put_keep h_q6 rfl) rfl) rfl) rfl)
  have h_s211 : Keeps 10273 s s211 := (State.modRf_keep h_s110 rfl)
  exact (State.jamDetect_keep h_s211 rfl)

theorem execNotchSpectrum_keep (k : Fin 4) (agc : BitVec 8) (power : Int) (lines : List SpecLine) (s : State) : KeepsOut 10273 s (execNotchSpectrum k agc power lines s) := by
  have h_self : Keeps 10273 s s := Keeps.refl
  unfold execNotchSpectrum
  exact (KeepsOut.next (State.spectrum_keep h_self rfl))

theorem State.rtcmKeep_keep {mk : Nat} {sb s : State} (hk : Keeps mk sb s) (hmk : 8192 ||| mk = mk) {typ : Nat} {b : List Byte} :
    Keeps mk sb (State.rtcmKeep s typ b) := by
  refine Keeps.step hk ?_ hmk
  have h_self : Keeps 8192 s s := Keeps.refl
  unfold State.rtcmKeep
  extract_lets -merge -useContext -underBinder +onlyGivenNames x1 pos2 q3
  exact (Keeps.gns_keep h_self rfl)

theorem State.rtcmFrame_keep {mk : Nat} {sb s : State} (hk : Keeps mk sb s) (hmk : 10273 ||| mk = mk) {ok : Bool} {b : List Byte} :
    Keeps mk sb (State.rtcmFrame s ok b) := by
  refine Keeps.step hk ?_ hmk
  have h_self : Keeps 10273 s s := Keeps.refl
  unfold State.rtcmFrame
  extract_lets -merge -useContext -underBinder +onlyGivenNames typ1 station2 s13 new4 obs5 at'6 q7 s18 q9
  have h_s13 : Keeps 10273 s s13 := (State.rtcmKeep_keep (State.inc_keep h_self rfl) rfl)
  have h_s18 : Keeps 10273 s s18 := (State.inc_keep h_self rfl)
  exact (Keeps.ite_keep (State.when_keep (Keeps.gns_keep h_s13 rfl) (fun x10_0 h_x10_0 => (State.put_keep h_x10_0 rfl))) (Keeps.ite_keep h_s18 (State.raise_keep (Keeps.gns_keep h_s18 rfl) rfl)))

theorem State.rtcmBuffer_keep {mk : Nat} {sb s : State} (h : Keeps mk sb s) (hm : 10273 ||| mk = mk) {k : Nat} {l : List Byte} :
    Keeps mk sb (State.rtcmBuffer s k l).1 := by
  induction k generalizing s l with
  | zero => cases l <;> exact h
  | succ k ih =>
    cases l with
    | nil => exact h
    | cons b t =>
      unfold State.rtcmBuffer
      exact Keeps.ite_fst (Keeps.mk_fst h) (Keeps.ite_fst (Keeps.mk_fst (State.rtcmFrame_keep h (Keeps.sub hm rfl))) (ih (State.rtcmFrame_keep h (Keeps.sub hm rfl))))

theorem State.timeMessage_keep {mk : Nat} {sb s0 : State} (hk : Keeps mk sb s0) (hmk : 33585249 ||| mk = mk) :
    Keeps mk sb (State.timeMessage s0) := by
  refine Keeps.step hk ?_ hmk
  have h_self : Keeps 33585249 s0 s0 := Keeps.refl
  unfold State.timeMessage
  extract_lets -merge -useContext -underBinder +onlyGivenNames b1 t2 q3 s14 pl5 st6 seq7 unc8 flags9 msg10 q11 s212 s313 q14
  have h_s14 : Keeps 33585249 s0 s14 := (State.runInside_keep (Keeps.gns_keep h_self rfl) rfl)
  have h_s212 : Keeps 33585249 s0 s212 := (State.putI_keep (State.put_keep (Keeps.gns_keep h_s14 rfl) rfl) rfl)
  have h_s313 : Keeps 33585249 s0 s313 := (Keeps.ite_keep (State.raise_keep (State.hostItem_keep h_s212 rfl) rfl) h_s212)
  exact (Keeps.ite_keep h_self (Keeps.ite_keep (Keeps.gns_keep h_s313 rfl) h_s313))

theorem execPpsTimeMessage_keep (s : State) : KeepsOut 33585249 s (execPpsTimeMessage s) := by
  have h_self : Keeps 33585249 s s := Keeps.refl
  unfold execPpsTimeMessage
  exact (KeepsOut.next (State.timeMessage_keep h_self rfl))

theorem State.ppsDrive_keep {mk : Nat} {sb s : State} (hk : Keeps mk sb s) (hmk : 8192 ||| mk = mk) {x : Int × Nat × Int} :
    Keeps mk sb (State.ppsDrive s x) := by
  refine Keeps.step hk ?_ hmk
  have h_self : Keeps 8192 s s := Keeps.refl
  unfold State.ppsDrive
  extract_lets -merge -useContext -underBinder +onlyGivenNames w1 q2
  exact (Keeps.ite_keep (Keeps.gns_keep h_self rfl) h_self)

theorem State.ppsPulse_keep {mk : Nat} {sb s : State} (hk : Keeps mk sb s) (hmk : 33566784 ||| mk = mk) :
    Keeps mk sb (State.ppsPulse s) := by
  refine Keeps.step hk ?_ hmk
  have h_self : Keeps 33566784 s s := Keeps.refl
  unfold State.ppsPulse
  exact (by
  split
  · extract_lets -merge -useContext -underBinder +onlyGivenNames s12 x3 q4
    have h_s12 : Keeps 33566784 s s12 := (State.runInside_keep h_self rfl)
    exact (Keeps.ite_keep h_s12 (State.ppsDrive_keep (Keeps.gns_keep h_s12 rfl) rfl))
  · extract_lets -merge -useContext -underBinder +onlyGivenNames b6 s17 x8 q9
    have h_s17 : Keeps 33566784 s s17 := (State.runInside_keep h_self rfl)
    exact (Keeps.ite_keep h_s17 (State.ppsDrive_keep (Keeps.gns_keep h_s17 rfl) rfl)))

theorem execPpsPulse_keep (s : State) : KeepsOut 33566784 s (execPpsPulse s) := by
  have h_self : Keeps 33566784 s s := Keeps.refl
  unfold execPpsPulse
  exact (KeepsOut.next (State.ppsPulse_keep h_self rfl))

theorem State.ppsEnd_keep {mk : Nat} {sb s : State} (hk : Keeps mk sb s) (hmk : 33566784 ||| mk = mk) :
    Keeps mk sb (State.ppsEnd s) := by
  refine Keeps.step hk ?_ hmk
  have h_self : Keeps 33566784 s s := Keeps.refl
  unfold State.ppsEnd
  exact (by
  split
  · exact h_self
  · extract_lets -merge -useContext -underBinder +onlyGivenNames s13 q4
    have h_s13 : Keeps 33566784 s s13 := (State.runInside_keep h_self rfl)
    exact (Keeps.ite_keep (Keeps.gns_keep h_s13 rfl) h_s13))

theorem execPpsPulseEnd_keep (s : State) : KeepsOut 33566784 s (execPpsPulseEnd s) := by
  have h_self : Keeps 33566784 s s := Keeps.refl
  unfold execPpsPulseEnd
  exact (KeepsOut.next (State.ppsEnd_keep h_self rfl))

theorem State.gnsMajor_keep {mk : Nat} {sb s : State} (hk : Keeps mk sb s) (hmk : 10273 ||| mk = mk) :
    Keeps mk sb (State.gnsMajor s) := by
  refine Keeps.step hk ?_ hmk
  have h_self : Keeps 10273 s s := Keeps.refl
  unfold State.gnsMajor
  extract_lets -merge -useContext -underBinder +onlyGivenNames q1 s12 q3
  have h_s12 : Keeps 10273 s s12 := (Keeps.gns_keep h_self rfl)
  exact (Keeps.ite_keep (State.gnsAssignAll_keep (Keeps.gns_keep h_s12 rfl) rfl) h_s12)

theorem State.gnsSlow_keep {mk : Nat} {sb s : State} (hk : Keeps mk sb s) (hmk : 10273 ||| mk = mk) :
    Keeps mk sb (State.gnsSlow s) := by
  refine Keeps.step hk ?_ hmk
  have h_self : Keeps 10273 s s := Keeps.refl
  unfold State.gnsSlow
  extract_lets -merge -useContext -underBinder +onlyGivenNames q1 s12
  have h_s12 : Keeps 10273 s s12 := (Keeps.gns_keep h_self rfl)
  exact (State.autoAssign_keep h_s12 rfl)

theorem State.gnsStep_keep {mk : Nat} {sb s : State} (hk : Keeps mk sb s) (hmk : 8192 ||| mk = mk) {delta : Int} {old : Counter} :
    Keeps mk sb (State.gnsStep s delta old) := by
  refine Keeps.step hk ?_ hmk
  have h_self : Keeps 8192 s s := Keeps.refl
  unfold State.gnsStep
  extract_lets -merge -useContext -underBinder +onlyGivenNames p1 mv2 oldE3 at'4 due5 chans6 b7 waits8 rf9 q10
  exact (Keeps.gns_keep h_self rfl)

end Sys2Proof.Machine
end

