-- ==== Sys2Proof/Laws/KeepEst.lean ====
section
/-! SUPPORT. What the functions of Machine/Est.lean leave alone (see Laws/Keeps.lean). -/

namespace Sys2Proof.Machine

open Sys2Proof

theorem State.estModelWrite_keep {mk : Nat} {sb s : State} (hk : Keeps mk sb s) (hmk : 1 ||| mk = mk) {off v : Nat} :
    Keeps mk sb (State.estModelWrite s off v) := by
  refine Keeps.step hk ?_ hmk
  have h_self : Keeps 1 s s := Keeps.refl
  unfold State.estModelWrite
  exact (Keeps.ite_keep (State.setWord_keep h_self rfl) (State.put_keep h_self rfl))

theorem State.modRef_keep {mk : Nat} {sb s : State} (hk : Keeps mk sb s) (hmk : 1024 ||| mk = mk) {i : Nat} {f : RefTrack → RefTrack} :
    Keeps mk sb (State.modRef s i f) := by
  refine Keeps.step hk ?_ hmk
  have h_self : Keeps 1024 s s := Keeps.refl
  unfold State.modRef
  extract_lets -merge -useContext -underBinder +onlyGivenNames q1
  exact (Keeps.est_keep h_self rfl)

theorem State.modTg_keep {mk : Nat} {sb s : State} (hk : Keeps mk sb s) (hmk : 1024 ||| mk = mk) {t : Nat} {f : TgTrack → TgTrack} :
    Keeps mk sb (State.modTg s t f) := by
  refine Keeps.step hk ?_ hmk
  have h_self : Keeps 1024 s s := Keeps.refl
  unfold State.modTg
  extract_lets -merge -useContext -underBinder +onlyGivenNames q1
  exact (Keeps.est_keep h_self rfl)

theorem State.modEst_keep {mk : Nat} {sb s : State} (hk : Keeps mk sb s) (hmk : 1024 ||| mk = mk) {f : EstState → EstState} :
    Keeps mk sb (State.modEst s f) := by
  refine Keeps.step hk ?_ hmk
  have h_self : Keeps 1024 s s := Keeps.refl
  unfold State.modEst
  exact (Keeps.est_keep h_self rfl)

theorem State.refTo_keep {mk : Nat} {sb s : State} (hk : Keeps mk sb s) (hmk : 1025 ||| mk = mk) {i st : Nat} :
    Keeps mk sb (State.refTo s i st) := by
  refine Keeps.step hk ?_ hmk
  have h_self : Keeps 1025 s s := Keeps.refl
  unfold State.refTo
  exact (State.putBit_keep (State.modRef_keep h_self rfl) rfl)

theorem State.refConfig_keep {mk : Nat} {sb s : State} (hk : Keeps mk sb s) (hmk : 1025 ||| mk = mk) {i : Nat} :
    Keeps mk sb (State.refConfig s i) := by
  refine Keeps.step hk ?_ hmk
  have h_self : Keeps 1025 s s := Keeps.refl
  unfold State.refConfig
  extract_lets -merge -useContext -underBinder +onlyGivenNames t1
  exact (Keeps.ite_keep (Keeps.ite_keep h_self (State.refTo_keep h_self rfl)) (Keeps.ite_keep (Keeps.ite_keep h_self (State.put_keep (State.modRef_keep (State.refTo_keep h_self rfl) rfl) rfl)) (Keeps.ite_keep (State.refTo_keep h_self rfl) h_self)))

theorem State.tgConfig_keep {mk : Nat} {sb s : State} (hk : Keeps mk sb s) (hmk : 1025 ||| mk = mk) {k : Nat} :
    Keeps mk sb (State.tgConfig s k) := by
  refine Keeps.step hk ?_ hmk
  have h_self : Keeps 1025 s s := Keeps.refl
  unfold State.tgConfig
  extract_lets -merge -useContext -underBinder +onlyGivenNames t1
  exact (Keeps.ite_keep (Keeps.ite_keep h_self (State.modTg_keep h_self rfl)) (Keeps.ite_keep (Keeps.ite_keep h_self (State.put_keep (State.modTg_keep h_self rfl) rfl)) (Keeps.ite_keep (State.modTg_keep h_self rfl) h_self)))

theorem State.refRewritten_keep {mk : Nat} {sb s : State} (hk : Keeps mk sb s) (hmk : 1025 ||| mk = mk) {i : Nat} :
    Keeps mk sb (State.refRewritten s i) := by
  refine Keeps.step hk ?_ hmk
  have h_self : Keeps 1025 s s := Keeps.refl
  unfold State.refRewritten
  exact (Keeps.ite_keep h_self (State.refTo_keep h_self rfl))

theorem State.tgRewritten_keep {mk : Nat} {sb s : State} (hk : Keeps mk sb s) (hmk : 1024 ||| mk = mk) {k : Nat} :
    Keeps mk sb (State.tgRewritten s k) := by
  refine Keeps.step hk ?_ hmk
  have h_self : Keeps 1024 s s := Keeps.refl
  unfold State.tgRewritten
  exact (Keeps.ite_keep h_self (State.modTg_keep h_self rfl))

theorem State.trackTimeout_keep {mk : Nat} {sb s : State} (hk : Keeps mk sb s) (hmk : 1024 ||| mk = mk) {i : Nat} :
    Keeps mk sb (State.trackTimeout s i) := by
  refine Keeps.step hk ?_ hmk
  have h_self : Keeps 1024 s s := Keeps.refl
  unfold State.trackTimeout
  extract_lets -merge -useContext -underBinder +onlyGivenNames t1
  exact (Keeps.ite_keep (State.modRef_keep h_self rfl) h_self)

theorem execTrackTimeout_keep (track : Fin 16) (s : State) : KeepsOut 16778240 s (execTrackTimeout track s) := by
  have h_self : Keeps 16778240 s s := Keeps.refl
  unfold execTrackTimeout
  exact (KeepsOut.next (State.lanes_keep h_self rfl (fun x1_0 h_x1_0 => (State.trackTimeout_keep h_x1_0 rfl))))

theorem State.vesselTo_keep {mk : Nat} {sb s : State} (hk : Keeps mk sb s) (hmk : 3105 ||| mk = mk) {st : Nat} {ev : Bool} :
    Keeps mk sb (State.vesselTo s st ev) := by
  refine Keeps.step hk ?_ hmk
  have h_self : Keeps 3105 s s := Keeps.refl
  unfold State.vesselTo
  extract_lets -merge -useContext -underBinder +onlyGivenNames z1 s12 s23
  have h_s12 : Keeps 3105 s s12 := (State.modEst_keep h_self rfl)
  have h_s23 : Keeps 3105 s s23 := (State.putB_keep h_s12 rfl)
  exact (Keeps.ite_keep (State.raise_keep h_s23 rfl) h_s23)

theorem State.vesselFault_keep {mk : Nat} {sb s : State} (hk : Keeps mk sb s) (hmk : 3105 ||| mk = mk) :
    Keeps mk sb (State.vesselFault s) := by
  refine Keeps.step hk ?_ hmk
  have h_self : Keeps 3105 s s := Keeps.refl
  unfold State.vesselFault
  exact (State.raise_keep (State.vesselTo_keep (State.put_keep h_self rfl) rfl) rfl)

theorem State.refFault_keep {mk : Nat} {sb s : State} (hk : Keeps mk sb s) (hmk : 3105 ||| mk = mk) {i : Nat} :
    Keeps mk sb (State.refFault s i) := by
  refine Keeps.step hk ?_ hmk
  have h_self : Keeps 3105 s s := Keeps.refl
  unfold State.refFault
  exact (State.raise_keep (State.modRef_keep (State.put_keep h_self rfl) rfl) rfl)

theorem State.tgFault_keep {mk : Nat} {sb s : State} (hk : Keeps mk sb s) (hmk : 3105 ||| mk = mk) {k : Nat} :
    Keeps mk sb (State.tgFault s k) := by
  refine Keeps.step hk ?_ hmk
  have h_self : Keeps 3105 s s := Keeps.refl
  unfold State.tgFault
  exact (State.raise_keep (State.modTg_keep (State.put_keep h_self rfl) rfl) rfl)

theorem State.estReinit_keep {mk : Nat} {sb s : State} (hk : Keeps mk sb s) (hmk : 3105 ||| mk = mk) :
    Keeps mk sb (State.estReinit s) := by
  refine Keeps.step hk ?_ hmk
  have h_self : Keeps 3105 s s := Keeps.refl
  unfold State.estReinit
  exact (Keeps.ite_keep h_self (State.vesselTo_keep h_self rfl))

theorem execEstReinit_keep (s : State) : KeepsOut 16780321 s (execEstReinit s) := by
  have h_self : Keeps 16780321 s s := Keeps.refl
  unfold execEstReinit
  exact (KeepsOut.next (State.lanes_keep h_self rfl (fun x1_0 h_x1_0 => (State.estReinit_keep h_x1_0 rfl))))

theorem State.propRef_keep {mk : Nat} {sb s : State} (hk : Keeps mk sb s) (hmk : 3105 ||| mk = mk) {base a ns i : Nat} :
    Keeps mk sb (State.propRef s base a ns i) := by
  refine Keeps.step hk ?_ hmk
  have h_self : Keeps 3105 s s := Keeps.refl
  unfold State.propRef
  extract_lets -merge -useContext -underBinder +onlyGivenNames t1 r2 mdl3 q4
  exact (Keeps.ite_keep (Keeps.ite_keep (State.modRef_keep h_self rfl) (State.refFault_keep h_self rfl)) h_self)

theorem State.propTg_keep {mk : Nat} {sb s : State} (hk : Keeps mk sb s) (hmk : 3105 ||| mk = mk) {a ns k : Nat} :
    Keeps mk sb (State.propTg s a ns k) := by
  refine Keeps.step hk ?_ hmk
  have h_self : Keeps 3105 s s := Keeps.refl
  unfold State.propTg
  extract_lets -merge -useContext -underBinder +onlyGivenNames t1 r2
  exact (Keeps.ite_keep (Keeps.ite_keep (State.modTg_keep h_self rfl) (State.tgFault_keep h_self rfl)) h_self)

theorem State.estLeg_keep {mk : Nat} {sb s : State} (hk : Keeps mk sb s) (hmk : 3105 ||| mk = mk) {t : Nat} {phi : Mat} :
    Keeps mk sb (State.estLeg s t phi).1 := by
  refine Keeps.step hk ?_ hmk
  have h_self : Keeps 3105 s s := Keeps.refl
  unfold State.estLeg
  exact (by
  split
  · exact (Keeps.mk_fst (State.modEst_keep h_self rfl))
  · extract_lets -merge -useContext -underBinder +onlyGivenNames b3 a4 ns5 s16 s27 s38 r9
    have h_s16 : Keeps 3105 s s16 := (State.each_keep h_self (fun x10_0 _ h_x10_0 => (State.propRef_keep h_x10_0 rfl)))
    have h_s27 : Keeps 3105 s s27 := (State.each_keep h_s16 (fun x11_0 _ h_x11_0 => (State.propTg_keep h_x11_0 rfl)))
    have h_s38 : Keeps 3105 s s38 := (State.modEst_keep h_s27 rfl)
    exact (Keeps.ite_fst (Keeps.ite_fst (Keeps.mk_fst (State.modEst_keep h_s38 rfl)) (Keeps.mk_fst (State.vesselFault_keep h_s38 rfl))) (Keeps.mk_fst h_s38)))

theorem State.snapshot_keep {mk : Nat} {sb s : State} (hk : Keeps mk sb s) (hmk : 1024 ||| mk = mk) {tick : Nat × List Fl} {phi : Mat} :
    Keeps mk sb (State.snapshot s tick phi) := by
  refine Keeps.step hk ?_ hmk
  have h_self : Keeps 1024 s s := Keeps.refl
  unfold State.snapshot
  exact (State.modEst_keep h_self rfl)

theorem State.estProp_keep {mk : Nat} {sb s : State} (hk : Keeps mk sb s) (hmk : 3105 ||| mk = mk) {t : Nat} {phi : Mat} :
    Keeps mk sb (State.estProp s t phi).1 := by
  refine Keeps.step hk ?_ hmk
  have h_self : Keeps 3105 s s := Keeps.refl
  unfold State.estProp
  extract_lets -merge -useContext -underBinder +onlyGivenNames t01 way2 r3
  have h_r3 : Keeps 3105 s r3.1 := Keeps.proj (Keeps.foldl_fst_keep (Keeps.mk_fst h_self) (fun x4_0 _ h_x4_0 => by
    extract_lets -merge -useContext -underBinder +onlyGivenNames q5
    have h_q5 : Keeps 3105 s q5.1 := Keeps.proj (State.estLeg_keep h_x4_0 rfl) rfl
    exact (Keeps.mk_fst (State.snapshot_keep h_q5 rfl)))) rfl
  exact (State.estLeg_keep h_r3 rfl)

theorem State.originWrite_keep {mk : Nat} {sb s : State} (hk : Keeps mk sb s) (hmk : 1025 ||| mk = mk) {lat lon : Option Int} :
    Keeps mk sb (State.originWrite s lat lon) := by
  refine Keeps.step hk ?_ hmk
  have h_self : Keeps 1025 s s := Keeps.refl
  unfold State.originWrite
  extract_lets -merge -useContext -underBinder +onlyGivenNames cur1 new2 win3 near4
  exact (Keeps.ite_keep (State.put_keep (State.put_keep (State.modEst_keep h_self rfl) rfl) rfl) (State.put_keep (State.modEst_keep h_self rfl) rfl))

theorem State.originChange_keep {mk : Nat} {sb s : State} (hk : Keeps mk sb s) (hmk : 3617 ||| mk = mk) :
    Keeps mk sb (State.originChange s) := by
  refine Keeps.step hk ?_ hmk
  have h_self : Keeps 3617 s s := Keeps.refl
  unfold State.originChange
  exact (by
  split
  · exact h_self
  · extract_lets -merge -useContext -underBinder +onlyGivenNames d3 s14 mark5 q6 q7 s28
    have h_s14 : Keeps 3617 s s14 := (State.putI_keep (State.putI_keep h_self rfl) rfl)
    have h_s28 : Keeps 3617 s s28 := (Keeps.aln_est_keep h_s14 rfl)
    exact (State.raiseMajor_keep (State.putB_keep h_s28 rfl) rfl))

theorem execEstOriginChange_keep (s : State) : KeepsOut 16780833 s (execEstOriginChange s) := by
  have h_self : Keeps 16780833 s s := Keeps.refl
  unfold execEstOriginChange
  exact (KeepsOut.next (State.lanes_keep h_self rfl (fun x1_0 h_x1_0 => (State.originChange_keep h_x1_0 rfl))))

theorem State.originDefer_keep {mk : Nat} {sb s : State} (hk : Keeps mk sb s) (hmk : 1024 ||| mk = mk) :
    Keeps mk sb (State.originDefer s) := by
  refine Keeps.step hk ?_ hmk
  have h_self : Keeps 1024 s s := Keeps.refl
  unfold State.originDefer
  extract_lets -merge -useContext -underBinder +onlyGivenNames win1
  exact (by
  split
  · exact (Keeps.ite_keep (State.modEst_keep h_self rfl) h_self)
  · exact h_self)

theorem execOriginDeferExpiry_keep (s : State) : KeepsOut 16778240 s (execOriginDeferExpiry s) := by
  have h_self : Keeps 16778240 s s := Keeps.refl
  unfold execOriginDeferExpiry
  exact (KeepsOut.next (State.lanes_keep h_self rfl (fun x1_0 h_x1_0 => (State.originDefer_keep h_x1_0 rfl))))

theorem State.originShift_keep {mk : Nat} {sb s : State} (hk : Keeps mk sb s) (hmk : 1024 ||| mk = mk) :
    Keeps mk sb (State.originShift s) := by
  refine Keeps.step hk ?_ hmk
  have h_self : Keeps 1024 s s := Keeps.refl
  unfold State.originShift
  exact (by
  split
  · exact h_self
  · extract_lets -merge -useContext -underBinder +onlyGivenNames sh3 sh34 mm5
    exact (State.modEst_keep h_self rfl))

end Sys2Proof.Machine
end

