-- ==== Sys2Proof/Laws/KeepFrm.lean ====
section
/-! SUPPORT. What the functions of Machine/Frm.lean leave alone (see Laws/Keeps.lean). -/

namespace Sys2Proof.Machine

open Sys2Proof

theorem State.stageDone_keep {mk : Nat} {sb s : State} (hk : Keeps mk sb s) (hmk : 872415265 ||| mk = mk) {k util : Nat} :
    Keeps mk sb (State.stageDone s k util) := by
  refine Keeps.step hk ?_ hmk
  have h_self : Keeps 872415265 s s := Keeps.refl
  unfold State.stageDone
  extract_lets -merge -useContext -underBinder +onlyGivenNames f1 s12
  have h_s12 : Keeps 872415265 s s12 := (Keeps.frm_done_keep h_self rfl (by rfl) (by rfl))
  exact (State.putMax_keep (State.put_keep (State.put_keep h_s12 rfl) rfl) rfl)

theorem State.stageOver_keep {mk : Nat} {sb s : State} (hk : Keeps mk sb s) (hmk : 872941601 ||| mk = mk) {k : Nat} :
    Keeps mk sb (State.stageOver s k) := by
  refine Keeps.step hk ?_ hmk
  have h_self : Keeps 872941601 s s := Keeps.refl
  unfold State.stageOver
  extract_lets -merge -useContext -underBinder +onlyGivenNames f1 c2 s13 s24 s35 q6 q7
  have h_s13 : Keeps 872941601 s s13 := (Keeps.frm_done_keep h_self rfl (by rfl) (by rfl))
  have h_s24 : Keeps 872941601 s s24 := (State.putMax_keep (State.put_keep (State.putBit_keep (State.inc_keep (State.put_keep h_s13 rfl) rfl) rfl) rfl) rfl)
  have h_s35 : Keeps 872941601 s s35 := (State.raiseMinor_keep h_s24 rfl)
  have h_q6 : Keeps 872941601 s q6 := (State.raise_keep (State.putBit_keep h_s35 rfl) rfl)
  exact (Keeps.ite_keep (Keeps.red_keep h_q6 rfl) h_s35)

theorem State.injectUse_keep {mk : Nat} {sb s : State} (hk : Keeps mk sb s) (hmk : 33 ||| mk = mk) :
    Keeps mk sb (State.injectUse s) := by
  refine Keeps.step hk ?_ hmk
  have h_self : Keeps 33 s s := Keeps.refl
  unfold State.injectUse
  extract_lets -merge -useContext -underBinder +onlyGivenNames n1 q2
  exact (State.when_keep (Keeps.frm_keep h_self rfl (by rfl) (by rfl) (by rfl)) (fun x3_0 h_x3_0 => (State.put_keep h_x3_0 rfl)))

theorem State.overrunAt_keep {mk : Nat} {sb s : State} (h : Keeps mk sb s) (hm : 906500193 ||| mk = mk) {k : Nat} {ov : State → State}
    (ho : ∀ x, Keeps mk sb x → Keeps mk sb (ov x)) : Keeps mk sb (State.overrunAt s k ov) := by
  unfold State.overrunAt
  extract_lets -merge -useContext -underBinder +onlyGivenNames live1 s12
  have h1 : Keeps mk sb s12 := State.runInside_keep h (Keeps.sub hm rfl)
  have h2 := State.when_keep (b := !live1 && s12.forcedOver k) (f := State.injectUse) h1 (fun x hx => State.injectUse_keep hx (Keeps.sub hm rfl))
  exact Keeps.ite_keep (Keeps.ite_keep (State.stageOver_keep (ho _ h2) (Keeps.sub hm rfl)) h) h

theorem State.overBegin_keep {mk : Nat} {sb s : State} (hk : Keeps mk sb s) (hmk : 67108897 ||| mk = mk) {k : Nat} :
    Keeps mk sb (State.overBegin s k) := by
  refine Keeps.step hk ?_ hmk
  have h_self : Keeps 67108897 s s := Keeps.refl
  unfold State.overBegin
  extract_lets -merge -useContext -underBinder +onlyGivenNames s11 q2
  have h_s11 : Keeps 67108897 s s11 := (State.injectUse_keep h_self rfl)
  exact (Keeps.frm_done_keep h_s11 rfl (by rfl) (by rfl))

theorem State.stage_keep {mk : Nat} {sb s : State} (h : Keeps mk sb s) (hm : 906500193 ||| mk = mk) {k util : Nat} {work ov : State → State}
    (hw : ∀ x, Keeps mk sb x → Keeps mk sb (work x)) (ho : ∀ x, Keeps mk sb x → Keeps mk sb (ov x)) :
    Keeps mk sb (State.stage s k util work ov) := by
  unfold State.stage
  extract_lets -merge -useContext -underBinder +onlyGivenNames t1 w2 s13
  have h3 : Keeps mk sb s13 := State.runInside_keep h (Keeps.sub hm rfl)
  exact Keeps.ite_keep (Keeps.ite_keep (Keeps.ite_keep (Keeps.ite_keep (State.overrunAt_keep h3 hm ho) (State.overBegin_keep h3 (Keeps.sub hm rfl)))
    (State.stageDone_keep (hw _ h3) (Keeps.sub hm rfl))) h) h

theorem State.frmStart_keep {mk : Nat} {sb s : State} (hk : Keeps mk sb s) (hmk : 1 ||| mk = mk) :
    Keeps mk sb (State.frmStart s) := by
  refine Keeps.step hk ?_ hmk
  have h_self : Keeps 1 s s := Keeps.refl
  unfold State.frmStart
  exact (Keeps.ite_keep h_self (State.put_keep h_self rfl))

theorem execFrmStart_keep (s : State) : KeepsOut 16777217 s (execFrmStart s) := by
  have h_self : Keeps 16777217 s s := Keeps.refl
  unfold execFrmStart
  exact (KeepsOut.next (State.lanes_keep h_self rfl (fun x1_0 h_x1_0 => (State.frmStart_keep h_x1_0 rfl))))

theorem State.sequencerStart_keep {mk : Nat} {sb s : State} (hk : Keeps mk sb s) (hmk : 2081 ||| mk = mk) :
    Keeps mk sb (State.sequencerStart s) := by
  refine Keeps.step hk ?_ hmk
  have h_self : Keeps 2081 s s := Keeps.refl
  unfold State.sequencerStart
  exact (Keeps.ite_keep (State.raise_keep (State.put_keep (State.put_keep h_self rfl) rfl) rfl) h_self)

theorem execSequencerStart_keep (s : State) : KeepsOut 16779297 s (execSequencerStart s) := by
  have h_self : Keeps 16779297 s s := Keeps.refl
  unfold execSequencerStart
  exact (KeepsOut.next (State.lanes_keep h_self rfl (fun x1_0 h_x1_0 => (Keeps.ite_keep (State.sequencerStart_keep h_x1_0 rfl) h_x1_0))))

theorem State.frmHold_keep {mk : Nat} {sb s : State} (hk : Keeps mk sb s) (hmk : 33 ||| mk = mk) {hold : Bool} :
    Keeps mk sb (State.frmHold s hold) := by
  refine Keeps.step hk ?_ hmk
  have h_self : Keeps 33 s s := Keeps.refl
  unfold State.frmHold
  extract_lets -merge -useContext -underBinder +onlyGivenNames rel1 q2
  exact (State.putB_keep (Keeps.frm_keep h_self rfl (by rfl) (by rfl) (by rfl)) rfl)

theorem execFrmHold_keep (hold : Bool) (s : State) : KeepsOut 16777249 s (execFrmHold hold s) := by
  have h_self : Keeps 16777249 s s := Keeps.refl
  unfold execFrmHold
  exact (KeepsOut.next (State.lanes_keep h_self rfl (fun x1_0 h_x1_0 => (State.frmHold_keep h_x1_0 rfl))))

theorem State.faultClear_keep {mk : Nat} {sb s : State} (hk : Keeps mk sb s) (hmk : 1 ||| mk = mk) {mask : Nat} :
    Keeps mk sb (State.faultClear s mask) := by
  refine Keeps.step hk ?_ hmk
  have h_self : Keeps 1 s s := Keeps.refl
  unfold State.faultClear
  exact (State.each_keep h_self (fun x1_0 _ h_x1_0 => (Keeps.ite_keep (State.put_keep (State.putBit_keep h_x1_0 rfl) rfl) h_x1_0)))

theorem execFrmFaultClear_keep (mask : BitVec 9) (s : State) : KeepsOut 16777217 s (execFrmFaultClear mask s) := by
  have h_self : Keeps 16777217 s s := Keeps.refl
  unfold execFrmFaultClear
  exact (KeepsOut.next (State.lanes_keep h_self rfl (fun x1_0 h_x1_0 => (State.faultClear_keep h_x1_0 rfl))))

theorem State.injectSet_keep {mk : Nat} {sb s : State} (hk : Keeps mk sb s) (hmk : 33 ||| mk = mk) {stage count : Nat} :
    Keeps mk sb (State.injectSet s stage count) := by
  refine Keeps.step hk ?_ hmk
  have h_self : Keeps 33 s s := Keeps.refl
  unfold State.injectSet
  extract_lets -merge -useContext -underBinder +onlyGivenNames s11 q2 q3
  have h_s11 : Keeps 33 s s11 := (State.put_keep (State.put_keep h_self rfl) rfl)
  exact (Keeps.ite_keep (State.put_keep (Keeps.frm_keep h_s11 rfl (by rfl) (by rfl) (by rfl)) rfl) (State.put_keep (Keeps.frm_keep h_s11 rfl (by rfl) (by rfl) (by rfl)) rfl))

theorem State.injectArm_keep {mk : Nat} {sb s : State} (hk : Keeps mk sb s) (hmk : 33 ||| mk = mk) {stage count : Nat} :
    Keeps mk sb (State.injectArm s stage count) := by
  refine Keeps.step hk ?_ hmk
  have h_self : Keeps 33 s s := Keeps.refl
  unfold State.injectArm
  exact (Keeps.ite_keep h_self (State.injectSet_keep h_self rfl))

theorem execFrmInjectArm_keep (stage : BitVec 4) (count : BitVec 2) (s : State) : KeepsOut 16777249 s (execFrmInjectArm stage count s) := by
  have h_self : Keeps 16777249 s s := Keeps.refl
  unfold execFrmInjectArm
  exact (KeepsOut.next (State.lanes_keep h_self rfl (fun x1_0 h_x1_0 => (State.injectArm_keep h_x1_0 rfl))))

end Sys2Proof.Machine
end

