-- ==== Sys2Proof/Laws/KeepCle.lean ====
section
/-! SUPPORT. What the functions of Machine/Cle.lean leave alone (see Laws/Keeps.lean). -/

namespace Sys2Proof.Machine

open Sys2Proof

theorem State.modLoop_keep {mk : Nat} {sb s : State} (hk : Keeps mk sb s) (hmk : 32768 ||| mk = mk) {n : Nat} {f : LoopSlot → LoopSlot} :
    Keeps mk sb (State.modLoop s n f) := by
  refine Keeps.step hk ?_ hmk
  have h_self : Keeps 32768 s s := Keeps.refl
  unfold State.modLoop
  extract_lets -merge -useContext -underBinder +onlyGivenNames q1
  exact (Keeps.cle_keep h_self rfl)

theorem State.modMd_keep {mk : Nat} {sb s : State} (hk : Keeps mk sb s) (hmk : 32768 ||| mk = mk) {f : ModeState → ModeState} :
    Keeps mk sb (State.modMd s f) := by
  refine Keeps.step hk ?_ hmk
  have h_self : Keeps 32768 s s := Keeps.refl
  unfold State.modMd
  extract_lets -merge -useContext -underBinder +onlyGivenNames q1
  exact (Keeps.cle_keep h_self rfl)

theorem State.matLoop_keep {mk : Nat} {sb s : State} (hk : Keeps mk sb s) (hmk : 34849 ||| mk = mk) {n : Nat} :
    Keeps mk sb (State.matLoop s n) := by
  refine Keeps.step hk ?_ hmk
  have h_self : Keeps 34849 s s := Keeps.refl
  unfold State.matLoop
  extract_lets -merge -useContext -underBinder +onlyGivenNames b1 p2
  exact (Keeps.ite_keep h_self (State.modLoop_keep (State.setWords_keep (State.setWords_keep (State.setWords_keep (State.when_keep h_self (fun x3_0 h_x3_0 => (State.raiseMajor_keep (State.put_keep h_x3_0 rfl) rfl))) rfl) rfl) rfl) rfl))

theorem State.retuneLoop_keep {mk : Nat} {sb s0 : State} (hk : Keeps mk sb s0) (hmk : 34849 ||| mk = mk) {n : Nat} :
    Keeps mk sb (State.retuneLoop s0 n) := by
  refine Keeps.step hk ?_ hmk
  have h_self : Keeps 34849 s0 s0 := Keeps.refl
  unfold State.retuneLoop
  extract_lets -merge -useContext -underBinder +onlyGivenNames s1 l2 dp3 p4 ib5 s16 s27
  have h_s1 : Keeps 34849 s0 s1 := (State.matLoop_keep h_self rfl)
  have h_s16 : Keeps 34849 s0 s16 := (State.setWords_keep (State.setWords_keep h_s1 rfl) rfl)
  have h_s27 : Keeps 34849 s0 s27 := (Keeps.ite_keep (State.raiseMajor_keep (State.put_keep h_s16 rfl) rfl) h_s16)
  exact (Keeps.ite_keep (State.modLoop_keep h_s27 rfl) h_s1)

theorem State.loopEvents_keep {mk : Nat} {sb s : State} (hk : Keeps mk sb s) (hmk : 2081 ||| mk = mk) {n : Nat} {ev : List Nat} :
    Keeps mk sb (State.loopEvents s n ev) := by
  refine Keeps.step hk ?_ hmk
  have h_self : Keeps 2081 s s := Keeps.refl
  unfold State.loopEvents
  exact (State.each_keep h_self (fun x1_0 _ h_x1_0 => (Keeps.ite_keep (State.put_keep h_x1_0 rfl) (Keeps.ite_keep (State.put_keep h_x1_0 rfl) (Keeps.ite_keep (State.raiseMajor_keep (State.put_keep h_x1_0 rfl) rfl) (Keeps.ite_keep (State.raiseMajor_keep h_x1_0 rfl) (State.raise_keep h_x1_0 rfl)))))))

theorem State.publishLoop_keep {mk : Nat} {sb s : State} (hk : Keeps mk sb s) (hmk : 1 ||| mk = mk) {n : Nat} :
    Keeps mk sb (State.publishLoop s n) := by
  refine Keeps.step hk ?_ hmk
  have h_self : Keeps 1 s s := Keeps.refl
  unfold State.publishLoop
  extract_lets -merge -useContext -underBinder +onlyGivenNames l1 left2 fade3 ovf4 st5 w6 sp7
  exact (State.setWords_keep (State.putI_keep (State.setWord_keep h_self rfl) rfl) rfl)

theorem State.cleSummary_keep {mk : Nat} {sb s : State} (hk : Keeps mk sb s) (hmk : 1 ||| mk = mk) :
    Keeps mk sb (State.cleSummary s) := by
  refine Keeps.step hk ?_ hmk
  have h_self : Keeps 1 s s := Keeps.refl
  unfold State.cleSummary
  extract_lets -merge -useContext -underBinder +onlyGivenNames pid1 cnt2 s13
  have h_s13 : Keeps 1 s s13 := (State.put_keep (State.put_keep (State.put_keep h_self rfl) rfl) rfl)
  exact (State.put_keep (State.put_keep h_s13 rfl) rfl)

theorem State.evenBanks_keep {mk : Nat} {sb s : State} (hk : Keeps mk sb s) (hmk : 32769 ||| mk = mk) {n : Nat} :
    Keeps mk sb (State.evenBanks s n) := by
  refine Keeps.step hk ?_ hmk
  have h_self : Keeps 32769 s s := Keeps.refl
  unfold State.evenBanks
  extract_lets -merge -useContext -underBinder +onlyGivenNames l1
  exact (Keeps.ite_keep (State.modLoop_keep (State.setWords_keep h_self rfl) rfl) h_self)

theorem State.runLoop_keep {mk : Nat} {sb s0 : State} (hk : Keeps mk sb s0) (hmk : 34849 ||| mk = mk) {n : Nat} {f : State → LoopIn → LoopIn} :
    Keeps mk sb (State.runLoop s0 n f) := by
  refine Keeps.step hk ?_ hmk
  have h_self : Keeps 34849 s0 s0 := Keeps.refl
  unfold State.runLoop
  extract_lets -merge -useContext -underBinder +onlyGivenNames s1 r2
  have h_s1 : Keeps 34849 s0 s1 := (State.retuneLoop_keep h_self rfl)
  exact (State.evenBanks_keep (State.loopEvents_keep (State.modLoop_keep h_s1 rfl) rfl) rfl)

theorem State.ctlSlot_keep {mk : Nat} {sb s : State} (hk : Keeps mk sb s) (hmk : 34849 ||| mk = mk) {n : Nat} :
    Keeps mk sb (State.ctlSlot s n) := by
  refine Keeps.step hk ?_ hmk
  have h_self : Keeps 34849 s s := Keeps.refl
  unfold State.ctlSlot
  extract_lets -merge -useContext -underBinder +onlyGivenNames pv1
  exact (State.publishLoop_keep (State.runLoop_keep h_self rfl) rfl)

theorem State.ctlWork_keep {mk : Nat} {sb s : State} (hk : Keeps mk sb s) (hmk : 33593441 ||| mk = mk) :
    Keeps mk sb (State.ctlWork s) := by
  refine Keeps.step hk ?_ hmk
  have h_self : Keeps 33593441 s s := Keeps.refl
  unfold State.ctlWork
  exact (State.cleSummary_keep (State.each_keep (State.runInside_keep h_self rfl) (fun x1_0 _ h_x1_0 => (State.ctlSlot_keep h_x1_0 rfl))) rfl)

theorem State.trigLoop_keep {mk : Nat} {sb s : State} (hk : Keeps mk sb s) (hmk : 32768 ||| mk = mk) {n c : Nat} :
    Keeps mk sb (State.trigLoop s n c) := by
  refine Keeps.step hk ?_ hmk
  have h_self : Keeps 32768 s s := Keeps.refl
  unfold State.trigLoop
  exact (State.modLoop_keep h_self rfl)

theorem State.ctlOver_keep {mk : Nat} {sb s : State} (hk : Keeps mk sb s) (hmk : 34849 ||| mk = mk) {done : Nat} :
    Keeps mk sb (State.ctlOver done s) := by
  refine Keeps.step hk ?_ hmk
  have h_self : Keeps 34849 s s := Keeps.refl
  unfold State.ctlOver
  extract_lets -merge -useContext -underBinder +onlyGivenNames due1 s12 s23
  have h_s12 : Keeps 34849 s s12 := (State.each_keep (State.each_keep h_self (fun x5_0 _ h_x5_0 => (State.ctlSlot_keep h_x5_0 rfl))) (fun x4_0 _ h_x4_0 => (State.trigLoop_keep h_x4_0 rfl)))
  have h_s23 : Keeps 34849 s s23 := (Keeps.ite_keep (State.each_keep h_s12 (fun x6_0 _ h_x6_0 => (Keeps.ite_keep h_x6_0 (State.modLoop_keep (State.trigLoop_keep h_x6_0 rfl) rfl)))) h_s12)
  exact (State.cleSummary_keep h_s23 rfl)

theorem execCtlStage_keep (util : Fin 1001) (s : State) : KeepsOut 923310177 s (execCtlStage util s) := by
  have h_self : Keeps 923310177 s s := Keeps.refl
  unfold execCtlStage
  exact (KeepsOut.next (State.lanes_keep h_self rfl (fun x1_0 h_x1_0 => (State.stage_keep h_x1_0 rfl (fun x2_0 h_x2_0 => (State.ctlWork_keep h_x2_0 rfl)) (fun x3_0 h_x3_0 => (State.ctlOver_keep h_x3_0 rfl))))))

theorem State.cleCheck_keep {mk : Nat} {sb s : State} (hk : Keeps mk sb s) (hmk : 34849 ||| mk = mk) :
    Keeps mk sb (State.cleCheck s) := by
  refine Keeps.step hk ?_ hmk
  have h_self : Keeps 34849 s s := Keeps.refl
  unfold State.cleCheck
  extract_lets -merge -useContext -underBinder +onlyGivenNames n1 l2 bad3 pbad4 s15 s26 s37
  have h_s15 : Keeps 34849 s s15 := (Keeps.ite_keep (State.raise_keep h_self rfl) h_self)
  have h_s26 : Keeps 34849 s s26 := (State.modLoop_keep h_s15 rfl)
  have h_s37 : Keeps 34849 s s37 := (Keeps.ite_keep (State.trigLoop_keep h_s26 rfl) h_s26)
  exact (Keeps.ite_keep h_self (State.putB_keep (State.putB_keep h_s37 rfl) rfl))

theorem State.cmdPid_keep {mk : Nat} {sb s : State} (hk : Keeps mk sb s) (hmk : 32769 ||| mk = mk) {n : Nat} :
    Keeps mk sb (State.cmdPid s n) := by
  refine Keeps.step hk ?_ hmk
  have h_self : Keeps 32769 s s := Keeps.refl
  unfold State.cmdPid
  exact (Keeps.ite_keep (State.put_keep h_self rfl) (State.trigLoop_keep h_self rfl))

theorem State.cmdMain_keep {mk : Nat} {sb s : State} (hk : Keeps mk sb s) (hmk : 32769 ||| mk = mk) {n : Nat} :
    Keeps mk sb (State.cmdMain s n) := by
  refine Keeps.step hk ?_ hmk
  have h_self : Keeps 32769 s s := Keeps.refl
  unfold State.cmdMain
  extract_lets -merge -useContext -underBinder +onlyGivenNames l1
  exact (Keeps.ite_keep (State.put_keep h_self rfl) (Keeps.ite_keep (State.put_keep h_self rfl) (State.modLoop_keep h_self rfl)))

theorem State.cmdRestart_keep {mk : Nat} {sb s : State} (hk : Keeps mk sb s) (hmk : 32769 ||| mk = mk) {n : Nat} :
    Keeps mk sb (State.cmdRestart s n) := by
  refine Keeps.step hk ?_ hmk
  have h_self : Keeps 32769 s s := Keeps.refl
  unfold State.cmdRestart
  extract_lets -merge -useContext -underBinder +onlyGivenNames l1
  exact (Keeps.ite_keep (State.put_keep h_self rfl) (Keeps.ite_keep (State.modLoop_keep h_self rfl) (Keeps.ite_keep (State.modLoop_keep h_self rfl) (State.put_keep h_self rfl))))

theorem State.cmdPreset_keep {mk : Nat} {sb s : State} (hk : Keeps mk sb s) (hmk : 32769 ||| mk = mk) {n : Nat} :
    Keeps mk sb (State.cmdPreset s n) := by
  refine Keeps.step hk ?_ hmk
  have h_self : Keeps 32769 s s := Keeps.refl
  unfold State.cmdPreset
  exact (Keeps.ite_keep (State.put_keep h_self rfl) (State.modLoop_keep h_self rfl))

theorem State.loopCmd_keep {mk : Nat} {sb s : State} (hk : Keeps mk sb s) (hmk : 32769 ||| mk = mk) {n v : Nat} :
    Keeps mk sb (State.loopCmd s n v) := by
  refine Keeps.step hk ?_ hmk
  have h_self : Keeps 32769 s s := Keeps.refl
  unfold State.loopCmd
  extract_lets -merge -useContext -underBinder +onlyGivenNames s11
  have h_s11 : Keeps 32769 s s11 := (Keeps.ite_keep (State.put_keep h_self rfl) (State.when_keep (State.when_keep h_self (fun x3_0 h_x3_0 => (State.cmdPid_keep h_x3_0 rfl))) (fun x2_0 h_x2_0 => (State.cmdMain_keep h_x2_0 rfl))))
  exact (State.when_keep (State.when_keep h_s11 (fun x5_0 h_x5_0 => (State.cmdRestart_keep h_x5_0 rfl))) (fun x4_0 h_x4_0 => (State.cmdPreset_keep h_x4_0 rfl)))

theorem execCmdPid_keep (n : Fin 48) (s : State) : KeepsOut 16809985 s (execCmdPid n s) := by
  have h_self : Keeps 16809985 s s := Keeps.refl
  unfold execCmdPid
  exact (KeepsOut.next (State.lanes_keep h_self rfl (fun x1_0 h_x1_0 => (State.loopCmd_keep h_x1_0 rfl))))

theorem execCmdMain_keep (n : Fin 48) (s : State) : KeepsOut 16809985 s (execCmdMain n s) := by
  have h_self : Keeps 16809985 s s := Keeps.refl
  unfold execCmdMain
  exact (KeepsOut.next (State.lanes_keep h_self rfl (fun x1_0 h_x1_0 => (State.loopCmd_keep h_x1_0 rfl))))

theorem execCmdRestart_keep (n : Fin 48) (s : State) : KeepsOut 16809985 s (execCmdRestart n s) := by
  have h_self : Keeps 16809985 s s := Keeps.refl
  unfold execCmdRestart
  exact (KeepsOut.next (State.lanes_keep h_self rfl (fun x1_0 h_x1_0 => (State.loopCmd_keep h_x1_0 rfl))))

theorem execCmdPreset_keep (n : Fin 48) (s : State) : KeepsOut 16809985 s (execCmdPreset n s) := by
  have h_self : Keeps 16809985 s s := Keeps.refl
  unfold execCmdPreset
  exact (KeepsOut.next (State.lanes_keep h_self rfl (fun x1_0 h_x1_0 => (State.loopCmd_keep h_x1_0 rfl))))

theorem State.bankAsk_keep {mk : Nat} {sb s : State} (hk : Keeps mk sb s) (hmk : 32769 ||| mk = mk) {n b : Nat} :
    Keeps mk sb (State.bankAsk s n b) := by
  refine Keeps.step hk ?_ hmk
  have h_self : Keeps 32769 s s := Keeps.refl
  unfold State.bankAsk
  exact (State.modLoop_keep (State.put_keep h_self rfl) rfl)

theorem execCleBankSwitch_keep (n : Fin 48) (bank : Fin 2) (s : State) : KeepsOut 16809985 s (execCleBankSwitch n bank s) := by
  have h_self : Keeps 16809985 s s := Keeps.refl
  unfold execCleBankSwitch
  exact (KeepsOut.next (State.lanes_keep h_self rfl (fun x1_0 h_x1_0 => (State.bankAsk_keep h_x1_0 rfl))))

theorem State.pidCommit_keep {mk : Nat} {sb s0 : State} (hk : Keeps mk sb s0) (hmk : 34849 ||| mk = mk) {n v : Nat} :
    Keeps mk sb (State.pidCommit s0 n v) := by
  refine Keeps.step hk ?_ hmk
  have h_self : Keeps 34849 s0 s0 := Keeps.refl
  unfold State.pidCommit
  extract_lets -merge -useContext -underBinder +onlyGivenNames s1 w2
  have h_s1 : Keeps 34849 s0 s1 := (State.matLoop_keep h_self rfl)
  exact (Keeps.ite_keep (State.modLoop_keep (State.put_keep h_s1 rfl) rfl) (State.put_keep h_s1 rfl))

theorem execClePidchkCommit_keep (port : Fin 2) (n : Fin 48) (val : Word) (s : State) : KeepsOut 16812065 s (execClePidchkCommit port n val s) := by
  have h_self : Keeps 16812065 s s := Keeps.refl
  unfold execClePidchkCommit
  exact (KeepsOut.next (State.lanes_keep h_self rfl (fun x1_0 h_x1_0 => (Keeps.ite_keep (State.pidCommit_keep h_x1_0 rfl) (State.accErr_keep h_x1_0 rfl)))))

theorem execOsatSaturationCount_keep (n : Fin 48) (s : State) : KeepsOut 16809984 s (execOsatSaturationCount n s) := by
  have h_self : Keeps 16809984 s s := Keeps.refl
  unfold execOsatSaturationCount
  exact (KeepsOut.next (State.lanes_keep h_self rfl (fun x1_0 h_x1_0 => (State.modLoop_keep h_x1_0 rfl))))

theorem execBlendComplete_keep (n : Fin 48) (s : State) : KeepsOut 16812065 s (execBlendComplete n s) := by
  have h_self : Keeps 16812065 s s := Keeps.refl
  unfold execBlendComplete
  exact (KeepsOut.next (State.lanes_keep h_self rfl (fun x1_0 h_x1_0 => by
    extract_lets -merge -useContext -underBinder +onlyGivenNames r2
    exact (State.loopEvents_keep (State.modLoop_keep h_x1_0 rfl) rfl))))

theorem State.loopCfgApply_keep {mk : Nat} {sb s : State} (hk : Keeps mk sb s) (hmk : 32769 ||| mk = mk) {n v : Nat} :
    Keeps mk sb (State.loopCfgApply s n v) := by
  refine Keeps.step hk ?_ hmk
  have h_self : Keeps 32769 s s := Keeps.refl
  unfold State.loopCfgApply
  extract_lets -merge -useContext -underBinder +onlyGivenNames was1 div2 s13 now4 s25 clear6
  have h_s13 : Keeps 32769 s s13 := (State.setWord_keep h_self rfl)
  have h_s25 : Keeps 32769 s s25 := (Keeps.ite_keep (State.modLoop_keep h_s13 rfl) h_s13)
  exact (Keeps.ite_keep (State.cleSummary_keep (State.publishLoop_keep (State.modLoop_keep h_s25 rfl) rfl) rfl) (Keeps.ite_keep (State.modLoop_keep h_s25 rfl) h_s25))

theorem State.loopMemApply_keep {mk : Nat} {sb s0 : State} (hk : Keeps mk sb s0) (hmk : 34849 ||| mk = mk) {n r v : Nat} :
    Keeps mk sb (State.loopMemApply s0 n r v) := by
  refine Keeps.step hk ?_ hmk
  have h_self : Keeps 34849 s0 s0 := Keeps.refl
  unfold State.loopMemApply
  extract_lets -merge -useContext -underBinder +onlyGivenNames off1 s2 s13
  have h_s2 : Keeps 34849 s0 s2 := (State.matLoop_keep h_self rfl)
  have h_s13 : Keeps 34849 s0 s13 := (State.setWord_keep h_self rfl)
  exact (Keeps.ite_keep (Keeps.ite_keep h_self (Keeps.ite_keep (Keeps.ite_keep (State.put_keep h_s2 rfl) (State.modLoop_keep (State.setWord_keep h_s2 rfl) rfl)) (Keeps.ite_keep (State.pidCommit_keep h_s2 rfl) (State.setWord_keep h_s2 rfl)))) (Keeps.ite_keep (State.modLoop_keep h_s13 rfl) h_s13))

theorem State.dpaxWrite_keep {mk : Nat} {sb s : State} (hk : Keeps mk sb s) (hmk : 34849 ||| mk = mk) {v : Nat} :
    Keeps mk sb (State.dpaxWrite s v) := by
  refine Keeps.step hk ?_ hmk
  have h_self : Keeps 34849 s s := Keeps.refl
  unfold State.dpaxWrite
  extract_lets -merge -useContext -underBinder +onlyGivenNames old1 pick2 a3 b4 c5 s16 fresh7 gone8 s29 s310
  have h_s16 : Keeps 34849 s s16 := (State.put_keep (State.putB_keep (State.put_keep (State.put_keep (State.put_keep h_self rfl) rfl) rfl) rfl) rfl)
  have h_s29 : Keeps 34849 s s29 := (State.each_keep h_s16 (fun x11_0 _ h_x11_0 => (Keeps.ite_keep (State.modLoop_keep h_x11_0 rfl) h_x11_0)))
  have h_s310 : Keeps 34849 s s310 := (State.each_keep h_s29 (fun x12_0 _ h_x12_0 => (State.modLoop_keep h_x12_0 rfl)))
  exact (Keeps.ite_keep (State.setRaise_keep (State.put_keep h_self rfl) rfl) (State.modMd_keep h_s310 rfl))

theorem execCleDpaxWrite_keep (val : Word) (s : State) : KeepsOut 16812065 s (execCleDpaxWrite val s) := by
  have h_self : Keeps 16812065 s s := Keeps.refl
  unfold execCleDpaxWrite
  exact (KeepsOut.next (State.lanes_keep h_self rfl (fun x1_0 h_x1_0 => (State.dpaxWrite_keep h_x1_0 rfl))))

theorem State.cleLevel_keep {mk : Nat} {sb s : State} (hk : Keeps mk sb s) (hmk : 34849 ||| mk = mk) {expert : Bool} :
    Keeps mk sb (State.cleLevel s expert) := by
  refine Keeps.step hk ?_ hmk
  have h_self : Keeps 34849 s s := Keeps.refl
  unfold State.cleLevel
  exact (State.each_keep h_self (fun x1_0 _ h_x1_0 => by
    extract_lets -merge -useContext -underBinder +onlyGivenNames s12 l3 s24
    have h_s12 : Keeps 34849 s s12 := (State.retuneLoop_keep h_x1_0 rfl)
    have h_s24 : Keeps 34849 s s24 := (State.setWords_keep (Keeps.ite_keep h_s12 (State.publishLoop_keep h_s12 rfl)) rfl)
    exact (Keeps.ite_keep (State.modLoop_keep h_x1_0 rfl) (Keeps.ite_keep (State.modLoop_keep h_s24 rfl) (State.setWords_keep h_s24 rfl)))))

end Sys2Proof.Machine
end

