-- ==== Sys2Proof/Laws/KeepMode.lean ====
section
/-! SUPPORT. What the functions of Machine/Mode.lean leave alone (see Laws/Keeps.lean). -/

namespace Sys2Proof.Machine

open Sys2Proof

theorem State.joyLook_keep {mk : Nat} {sb s : State} (hk : Keeps mk sb s) (hmk : 34849 ||| mk = mk) :
    Keeps mk sb (State.joyLook s) := by
  refine Keeps.step hk ?_ hmk
  have h_self : Keeps 34849 s s := Keeps.refl
  unfold State.joyLook
  extract_lets -merge -useContext -underBinder +onlyGivenNames ok1 m2 s13
  have h_s13 : Keeps 34849 s s13 := (State.modMd_keep h_self rfl)
  exact (Keeps.ite_keep (State.raise_keep h_s13 rfl) h_s13)

theorem execJoystickTimeout_keep (s : State) : KeepsOut 16812065 s (execJoystickTimeout s) := by
  have h_self : Keeps 16812065 s s := Keeps.refl
  unfold execJoystickTimeout
  exact (KeepsOut.next (State.lanes_keep h_self rfl (fun x1_0 h_x1_0 => (State.joyLook_keep h_x1_0 rfl))))

theorem State.loadSp_keep {mk : Nat} {sb s : State} (hk : Keeps mk sb s) (hmk : 1 ||| mk = mk) {a : Nat} {v : Int} :
    Keeps mk sb (State.loadSp s a v) := by
  refine Keeps.step hk ?_ hmk
  have h_self : Keeps 1 s s := Keeps.refl
  unfold State.loadSp
  exact (Keeps.ite_keep h_self (by
  split
  · exact (State.putI_keep h_self rfl)
  · exact (State.putI_keep h_self rfl)
  · exact (State.putI_keep h_self rfl)))

theorem State.enterMode_keep {mk : Nat} {sb s0 : State} (hk : Keeps mk sb s0) (hmk : 34849 ||| mk = mk) {m : Nat} {t0 : List Int} :
    Keeps mk sb (State.enterMode s0 m t0) := by
  refine Keeps.step hk ?_ hmk
  have h_self : Keeps 34849 s0 s0 := Keeps.refl
  unfold State.enterMode
  extract_lets -merge -useContext -underBinder +onlyGivenNames t1 changed2 s3 f4 s15 s26
  have h_s3 : Keeps 34849 s0 s3 := (Keeps.ite_keep (State.raise_keep h_self rfl) h_self)
  have h_s15 : Keeps 34849 s0 s15 := (State.modMd_keep h_s3 rfl)
  have h_s26 : Keeps 34849 s0 s26 := (Keeps.ite_keep (State.loadSp_keep (State.loadSp_keep (State.loadSp_keep h_s15 rfl) rfl) rfl) h_s15)
  exact (State.modMd_keep h_s26 rfl)

theorem State.autoMode_keep {mk : Nat} {sb s : State} (hk : Keeps mk sb s) (hmk : 34849 ||| mk = mk) {m : Nat} {t : List Int} :
    Keeps mk sb (State.autoMode s m t) := by
  refine Keeps.step hk ?_ hmk
  have h_self : Keeps 34849 s s := Keeps.refl
  unfold State.autoMode
  exact (State.modMd_keep (State.raise_keep (State.enterMode_keep (State.modMd_keep h_self rfl) rfl) rfl) rfl)

theorem State.modeAuto_keep {mk : Nat} {sb s : State} (hk : Keeps mk sb s) (hmk : 34849 ||| mk = mk) :
    Keeps mk sb (State.modeAuto s) := by
  refine Keeps.step hk ?_ hmk
  have h_self : Keeps 34849 s s := Keeps.refl
  unfold State.modeAuto
  extract_lets -merge -useContext -underBinder +onlyGivenNames d1 m2 s03 held4 w5
  have h_s03 : Keeps 34849 s s03 := (State.modMd_keep h_self rfl)
  exact (Keeps.ite_keep (State.autoMode_keep h_s03 rfl) (Keeps.ite_keep (State.autoMode_keep h_s03 rfl) (Keeps.ite_keep (State.raise_keep (State.raise_keep (State.modMd_keep h_s03 rfl) rfl) rfl) (Keeps.ite_keep (State.autoMode_keep h_s03 rfl) (Keeps.ite_keep (State.autoMode_keep h_s03 rfl) (Keeps.ite_keep (State.autoMode_keep h_s03 rfl) (Keeps.ite_keep (State.autoMode_keep (State.raise_keep h_s03 rfl) rfl) h_s03)))))))

theorem State.modeServe_keep {mk : Nat} {sb s : State} (hk : Keeps mk sb s) (hmk : 34849 ||| mk = mk) :
    Keeps mk sb (State.modeServe s) := by
  refine Keeps.step hk ?_ hmk
  have h_self : Keeps 34849 s s := Keeps.refl
  unfold State.modeServe
  exact (by
  split
  · exact (State.modMd_keep h_self rfl)
  · extract_lets -merge -useContext -underBinder +onlyGivenNames s13
    have h_s13 : Keeps 34849 s s13 := (State.modMd_keep h_self rfl)
    exact (by
    split
    · exact (Keeps.ite_keep (State.modMd_keep h_s13 rfl) (State.enterMode_keep h_s13 rfl))
    · exact (State.raise_keep (State.put_keep (State.modMd_keep h_s13 rfl) rfl) rfl)))

theorem State.modeRequest_keep {mk : Nat} {sb s : State} (hk : Keeps mk sb s) (hmk : 32768 ||| mk = mk) {m : Nat} :
    Keeps mk sb (State.modeRequest s m) := by
  refine Keeps.step hk ?_ hmk
  have h_self : Keeps 32768 s s := Keeps.refl
  unfold State.modeRequest
  exact (Keeps.ite_keep h_self (State.modMd_keep h_self rfl))

theorem execModeRequest_keep (m : BitVec 4) (s : State) : KeepsOut 16809984 s (execModeRequest m s) := by
  have h_self : Keeps 16809984 s s := Keeps.refl
  unfold execModeRequest
  exact (KeepsOut.next (State.lanes_keep h_self rfl (fun x1_0 h_x1_0 => (State.modeRequest_keep h_x1_0 rfl))))

theorem State.legNext_keep {mk : Nat} {sb s : State} (hk : Keeps mk sb s) (hmk : 34849 ||| mk = mk) :
    Keeps mk sb (State.legNext s) := by
  refine Keeps.step hk ?_ hmk
  have h_self : Keeps 34849 s s := Keeps.refl
  unfold State.legNext
  extract_lets -merge -useContext -underBinder +onlyGivenNames w1
  exact (Keeps.ite_keep (State.raise_keep (State.modMd_keep h_self rfl) rfl) h_self)

theorem State.carrotTrack_keep {mk : Nat} {sb s : State} (hk : Keeps mk sb s) (hmk : 32768 ||| mk = mk) :
    Keeps mk sb (State.carrotTrack s) := by
  refine Keeps.step hk ?_ hmk
  have h_self : Keeps 32768 s s := Keeps.refl
  unfold State.carrotTrack
  extract_lets -merge -useContext -underBinder +onlyGivenNames d1 wn2 we3 len4 lead5 ahead6 p7
  exact (Keeps.ite_keep h_self (State.modMd_keep h_self rfl))

theorem State.carrotBerth_keep {mk : Nat} {sb s : State} (hk : Keeps mk sb s) (hmk : 32768 ||| mk = mk) :
    Keeps mk sb (State.carrotBerth s) := by
  refine Keeps.step hk ?_ hmk
  have h_self : Keeps 32768 s s := Keeps.refl
  unfold State.carrotBerth
  extract_lets -merge -useContext -underBinder +onlyGivenNames d1 b2 bn3 be4 va5 vm6 slow7 f8 vc9 p10
  exact (State.modMd_keep h_self rfl)

theorem State.berthedClear_keep {mk : Nat} {sb s : State} (hk : Keeps mk sb s) (hmk : 32768 ||| mk = mk) :
    Keeps mk sb (State.berthedClear s) := by
  refine Keeps.step hk ?_ hmk
  have h_self : Keeps 32768 s s := Keeps.refl
  unfold State.berthedClear
  exact (Keeps.ite_keep (State.modMd_keep h_self rfl) h_self)

theorem execBerthedClear_keep (s : State) : KeepsOut 16809984 s (execBerthedClear s) := by
  have h_self : Keeps 16809984 s s := Keeps.refl
  unfold execBerthedClear
  exact (KeepsOut.next (State.lanes_keep h_self rfl (fun x1_0 h_x1_0 => (State.berthedClear_keep h_x1_0 rfl))))

theorem State.berthTest_keep {mk : Nat} {sb s : State} (hk : Keeps mk sb s) (hmk : 34849 ||| mk = mk) :
    Keeps mk sb (State.berthTest s) := by
  refine Keeps.step hk ?_ hmk
  have h_self : Keeps 34849 s s := Keeps.refl
  unfold State.berthTest
  extract_lets -merge -useContext -underBinder +onlyGivenNames b1 ok2 d3 s14
  have h_s14 : Keeps 34849 s s14 := (State.modMd_keep h_self rfl)
  exact (Keeps.ite_keep (Keeps.ite_keep h_s14 (State.raise_keep h_s14 rfl)) (State.berthedClear_keep (State.modMd_keep h_self rfl) rfl))

theorem State.pressLossSet_keep {mk : Nat} {sb s : State} (hk : Keeps mk sb s) (hmk : 34849 ||| mk = mk) :
    Keeps mk sb (State.pressLossSet s) := by
  refine Keeps.step hk ?_ hmk
  have h_self : Keeps 34849 s s := Keeps.refl
  unfold State.pressLossSet
  exact (Keeps.ite_keep (State.raise_keep (State.modMd_keep h_self rfl) rfl) h_self)

theorem execPressLoss_keep (s : State) : KeepsOut 16812065 s (execPressLoss s) := by
  have h_self : Keeps 16812065 s s := Keeps.refl
  unfold execPressLoss
  exact (KeepsOut.next (State.lanes_keep h_self rfl (fun x1_0 h_x1_0 => (State.pressLossSet_keep h_x1_0 rfl))))

theorem State.pressGap_keep {mk : Nat} {sb s : State} (hk : Keeps mk sb s) (hmk : 34849 ||| mk = mk) :
    Keeps mk sb (State.pressGap s) := by
  refine Keeps.step hk ?_ hmk
  have h_self : Keeps 34849 s s := Keeps.refl
  unfold State.pressGap
  extract_lets -merge -useContext -underBinder +onlyGivenNames c1 g02 g3 gap4 low5 back6
  exact (State.pressLossSet_keep (State.modMd_keep h_self rfl) rfl)

theorem State.modeTargets_keep {mk : Nat} {sb s0 : State} (hk : Keeps mk sb s0) (hmk : 34849 ||| mk = mk) :
    Keeps mk sb (State.modeTargets s0) := by
  refine Keeps.step hk ?_ hmk
  have h_self : Keeps 34849 s0 s0 := Keeps.refl
  unfold State.modeTargets
  extract_lets -merge -useContext -underBinder +onlyGivenNames m1 s2 d3 keep4 car5 t6
  have h_s2 : Keeps 34849 s0 s2 := (by
  unfold s2
  clear_value m1
  split
  · exact (State.carrotTrack_keep (State.legNext_keep h_self rfl) rfl)
  · exact (State.berthTest_keep (State.carrotBerth_keep h_self rfl) rfl)
  · exact (State.pressGap_keep h_self rfl)
  · exact (Keeps.ite_keep (State.pressGap_keep h_self rfl) h_self)
  · exact h_self)
  exact (State.modMd_keep h_s2 rfl)

theorem State.dpPreset_keep {mk : Nat} {sb s : State} (hk : Keeps mk sb s) (hmk : 32769 ||| mk = mk) {a : Nat} :
    Keeps mk sb (State.dpPreset s a) := by
  refine Keeps.step hk ?_ hmk
  have h_self : Keeps 32769 s s := Keeps.refl
  unfold State.dpPreset
  extract_lets -merge -useContext -underBinder +onlyGivenNames n1 pv2 v3 s14
  have h_s14 : Keeps 32769 s s14 := (State.modMd_keep h_self rfl)
  exact (Keeps.ite_keep (Keeps.ite_keep (State.loadSp_keep h_s14 rfl) h_s14) h_self)

theorem State.dpAxisRun_keep {mk : Nat} {sb s : State} (hk : Keeps mk sb s) (hmk : 34849 ||| mk = mk) {a : Nat} {sN sE : Fl} :
    Keeps mk sb (State.dpAxisRun s a sN sE) := by
  refine Keeps.step hk ?_ hmk
  have h_self : Keeps 34849 s s := Keeps.refl
  unfold State.dpAxisRun
  extract_lets -merge -useContext -underBinder +onlyGivenNames n1 man2 pv3 pvO4
  exact (State.runLoop_keep h_self rfl)

theorem State.dpStep_keep {mk : Nat} {sb s0 : State} (hk : Keeps mk sb s0) (hmk : 34849 ||| mk = mk) :
    Keeps mk sb (State.dpStep s0) := by
  refine Keeps.step hk ?_ hmk
  have h_self : Keeps 34849 s0 s0 := Keeps.refl
  unfold State.dpStep
  extract_lets -merge -useContext -underBinder +onlyGivenNames s11 s22 s3 on4 sh5 sN6 sE7 s38 dem9
  have h_s11 : Keeps 34849 s0 s11 := (State.dpPreset_keep (State.dpPreset_keep (State.modeTargets_keep (State.modeServe_keep (State.modeAuto_keep (State.joyLook_keep h_self rfl) rfl) rfl) rfl) rfl) rfl)
  have h_s22 : Keeps 34849 s0 s22 := (State.dpPreset_keep h_s11 rfl)
  have h_s3 : Keeps 34849 s0 s3 := (State.each_keep h_s22 (fun x10_0 _ h_x10_0 => (State.putI_keep h_x10_0 rfl)))
  have h_s38 : Keeps 34849 s0 s38 := (State.each_keep h_s3 (fun x11_0 _ h_x11_0 => (State.dpAxisRun_keep h_x11_0 rfl)))
  exact (Keeps.ite_keep (State.modMd_keep h_s3 rfl) (State.modMd_keep h_s38 rfl))

theorem State.modeMajor_keep {mk : Nat} {sb s : State} (hk : Keeps mk sb s) (hmk : 32769 ||| mk = mk) :
    Keeps mk sb (State.modeMajor s) := by
  refine Keeps.step hk ?_ hmk
  have h_self : Keeps 32769 s s := Keeps.refl
  unfold State.modeMajor
  exact (by
  split
  · exact h_self
  · extract_lets -merge -useContext -underBinder +onlyGivenNames d3 s14 s25 st6
    have h_s14 : Keeps 32769 s s14 := (State.cleSummary_keep (State.each_keep h_self (fun x7_0 _ h_x7_0 => (State.publishLoop_keep h_x7_0 rfl))) rfl)
    have h_s25 : Keeps 32769 s s25 := (State.putI_keep (State.putI_keep (State.putI_keep h_s14 rfl) rfl) rfl)
    exact (State.modMd_keep (State.setWord_keep h_s25 rfl) rfl))

theorem State.modeRegApply_keep {mk : Nat} {sb s : State} (hk : Keeps mk sb s) (hmk : 32769 ||| mk = mk) {off v : Nat} :
    Keeps mk sb (State.modeRegApply s off v) := by
  refine Keeps.step hk ?_ hmk
  have h_self : Keeps 32769 s s := Keeps.refl
  unfold State.modeRegApply
  extract_lets -merge -useContext -underBinder +onlyGivenNames s11
  have h_s11 : Keeps 32769 s s11 := (State.setWord_keep h_self rfl)
  exact (Keeps.ite_keep (State.modMd_keep h_s11 rfl) (Keeps.ite_keep (State.modMd_keep h_s11 rfl) h_s11))

theorem State.spApply_keep {mk : Nat} {sb s : State} (hk : Keeps mk sb s) (hmk : 1 ||| mk = mk) {n v : Nat} :
    Keeps mk sb (State.spApply s n v) := by
  refine Keeps.step hk ?_ hmk
  have h_self : Keeps 1 s s := Keeps.refl
  unfold State.spApply
  exact (Keeps.ite_keep (State.put_keep h_self rfl) (State.setWord_keep h_self rfl))

end Sys2Proof.Machine
end

