-- ==== Sys2Proof/Laws/KeepAlc.lean ====
section
/-! SUPPORT. What the functions of Machine/Alc.lean leave alone (see Laws/Keeps.lean). -/

namespace Sys2Proof.Machine

open Sys2Proof

theorem State.modThr_keep {mk : Nat} {sb s : State} (hk : Keeps mk sb s) (hmk : 65536 ||| mk = mk) {i : Nat} {f : Thruster → Thruster} :
    Keeps mk sb (State.modThr s i f) := by
  refine Keeps.step hk ?_ hmk
  have h_self : Keeps 65536 s s := Keeps.refl
  unfold State.modThr
  extract_lets -merge -useContext -underBinder +onlyGivenNames q1
  exact (Keeps.alc_keep h_self rfl)

theorem State.modAlc_keep {mk : Nat} {sb s : State} (hk : Keeps mk sb s) (hmk : 65536 ||| mk = mk) {f : AlcState → AlcState} :
    Keeps mk sb (State.modAlc s f) := by
  refine Keeps.step hk ?_ hmk
  have h_self : Keeps 65536 s s := Keeps.refl
  unfold State.modAlc
  exact (Keeps.alc_keep h_self rfl)

theorem State.descApply_keep {mk : Nat} {sb s : State} (hk : Keeps mk sb s) (hmk : 67617 ||| mk = mk) {i : Nat} {ws : List (Nat × Nat)} :
    Keeps mk sb (State.descApply s i ws) := by
  refine Keeps.step hk ?_ hmk
  have h_self : Keeps 67617 s s := Keeps.refl
  unfold State.descApply
  extract_lets -merge -useContext -underBinder +onlyGivenNames isFs1 t2 wait3 now4 s15 s26
  have h_s15 : Keeps 67617 s s15 := (State.modThr_keep h_self rfl)
  have h_s26 : Keeps 67617 s s26 := (State.each_keep h_s15 (fun x7_0 _ h_x7_0 => (State.setWord_keep h_x7_0 rfl)))
  exact (Keeps.ite_keep h_s26 (State.raise_keep (State.put_keep h_s15 rfl) rfl))

theorem State.fsServe_keep {mk : Nat} {sb s : State} (hk : Keeps mk sb s) (hmk : 67617 ||| mk = mk) {i : Nat} :
    Keeps mk sb (State.fsServe s i) := by
  refine Keeps.step hk ?_ hmk
  have h_self : Keeps 67617 s s := Keeps.refl
  unfold State.fsServe
  extract_lets -merge -useContext -underBinder +onlyGivenNames t1
  exact (Keeps.ite_keep (State.descApply_keep (State.modThr_keep h_self rfl) rfl) h_self)

theorem State.zeroResult_keep {mk : Nat} {sb s : State} (hk : Keeps mk sb s) (hmk : 1 ||| mk = mk) {i : Nat} :
    Keeps mk sb (State.zeroResult s i) := by
  refine Keeps.step hk ?_ hmk
  have h_self : Keeps 1 s s := Keeps.refl
  unfold State.zeroResult
  extract_lets -merge -useContext -underBinder +onlyGivenNames fx1 fy2 p3 b4 n5 s16 s27
  have h_s16 : Keeps 1 s s16 := (State.put_keep (State.put_keep (State.put_keep (State.put_keep h_self rfl) rfl) rfl) rfl)
  have h_s27 : Keeps 1 s s27 := (State.putSat_keep (State.putSat_keep (State.putSat_keep h_s16 rfl) rfl) rfl)
  exact (State.put_keep (State.put_keep h_s27 rfl) rfl)

theorem State.thrTo_keep {mk : Nat} {sb s : State} (hk : Keeps mk sb s) (hmk : 67617 ||| mk = mk) {i st : Nat} :
    Keeps mk sb (State.thrTo s i st) := by
  refine Keeps.step hk ?_ hmk
  have h_self : Keeps 67617 s s := Keeps.refl
  unfold State.thrTo
  exact (Keeps.ite_keep h_self (State.raiseMajor_keep (State.modThr_keep h_self rfl) rfl))

theorem State.thrFault_keep {mk : Nat} {sb s : State} (hk : Keeps mk sb s) (hmk : 67617 ||| mk = mk) {i : Nat} :
    Keeps mk sb (State.thrFault s i) := by
  refine Keeps.step hk ?_ hmk
  have h_self : Keeps 67617 s s := Keeps.refl
  unfold State.thrFault
  extract_lets -merge -useContext -underBinder +onlyGivenNames s11
  have h_s11 : Keeps 67617 s s11 := (State.thrTo_keep (State.modThr_keep (State.zeroResult_keep h_self rfl) rfl) rfl)
  exact (Keeps.ite_keep h_self (State.raise_keep (State.put_keep (State.put_keep h_s11 rfl) rfl) rfl))

theorem State.thrStart_keep {mk : Nat} {sb s : State} (hk : Keeps mk sb s) (hmk : 67617 ||| mk = mk) {i : Nat} :
    Keeps mk sb (State.thrStart s i) := by
  refine Keeps.step hk ?_ hmk
  have h_self : Keeps 67617 s s := Keeps.refl
  unfold State.thrStart
  extract_lets -merge -useContext -underBinder +onlyGivenNames th1 inside2
  exact (by
  clear_value inside2
  split
  · exact (State.thrTo_keep h_self rfl)
  · extract_lets -merge -useContext -underBinder +onlyGivenNames q5 d6 cw7 tr8
    exact (State.thrTo_keep (State.modThr_keep h_self rfl) rfl))

theorem State.thrEnter_keep {mk : Nat} {sb s : State} (hk : Keeps mk sb s) (hmk : 67617 ||| mk = mk) {i : Nat} :
    Keeps mk sb (State.thrEnter s i) := by
  refine Keeps.step hk ?_ hmk
  have h_self : Keeps 67617 s s := Keeps.refl
  unfold State.thrEnter
  exact (State.thrStart_keep (State.modThr_keep h_self rfl) rfl)

theorem State.thrMachine_keep {mk : Nat} {sb s : State} (hk : Keeps mk sb s) (hmk : 67617 ||| mk = mk) {i : Nat} :
    Keeps mk sb (State.thrMachine s i) := by
  refine Keeps.step hk ?_ hmk
  have h_self : Keeps 67617 s s := Keeps.refl
  unfold State.thrMachine
  extract_lets -merge -useContext -underBinder +onlyGivenNames t1 on2 av3
  exact (Keeps.ite_keep (Keeps.ite_keep h_self (State.thrTo_keep (State.modThr_keep h_self rfl) rfl)) (Keeps.ite_keep (State.thrFault_keep h_self rfl) (by
  split
  · exact (Keeps.ite_keep (Keeps.ite_keep h_self (State.modThr_keep (State.raise_keep (State.put_keep h_self rfl) rfl) rfl)) (Keeps.ite_keep (State.thrEnter_keep h_self rfl) h_self))
  · exact (Keeps.ite_keep h_self (State.thrTo_keep h_self rfl))
  · exact (Keeps.ite_keep (State.thrTo_keep (State.modThr_keep h_self rfl) rfl) (by
    split
    · exact (Keeps.ite_keep (State.thrTo_keep (State.modThr_keep h_self rfl) rfl) h_self)
    · exact (State.thrTo_keep h_self rfl)))
  · exact (Keeps.ite_keep (State.thrStart_keep h_self rfl) (Keeps.ite_keep (State.thrTo_keep h_self rfl) h_self))
  · exact (Keeps.ite_keep (State.thrEnter_keep h_self rfl) h_self)
  · exact h_self)))

theorem execAlcThrusterFault_keep (i : Fin 16) (s : State) : KeepsOut 16844833 s (execAlcThrusterFault i s) := by
  have h_self : Keeps 16844833 s s := Keeps.refl
  unfold execAlcThrusterFault
  exact (KeepsOut.next (State.lanes_keep h_self rfl (fun x1_0 h_x1_0 => (State.thrFault_keep h_x1_0 rfl))))

theorem State.thrClear_keep {mk : Nat} {sb s : State} (hk : Keeps mk sb s) (hmk : 67617 ||| mk = mk) {i : Nat} :
    Keeps mk sb (State.thrClear s i) := by
  refine Keeps.step hk ?_ hmk
  have h_self : Keeps 67617 s s := Keeps.refl
  unfold State.thrClear
  exact (Keeps.ite_keep (State.thrEnter_keep h_self rfl) h_self)

theorem execAlcThrusterClrflt_keep (i : Fin 16) (s : State) : KeepsOut 16844833 s (execAlcThrusterClrflt i s) := by
  have h_self : Keeps 16844833 s s := Keeps.refl
  unfold execAlcThrusterClrflt
  exact (KeepsOut.next (State.lanes_keep h_self rfl (fun x1_0 h_x1_0 => (State.thrClear_keep h_x1_0 rfl))))

theorem State.thrCmd_keep {mk : Nat} {sb s : State} (hk : Keeps mk sb s) (hmk : 67617 ||| mk = mk) {i v : Nat} :
    Keeps mk sb (State.thrCmd s i v) := by
  refine Keeps.step hk ?_ hmk
  have h_self : Keeps 67617 s s := Keeps.refl
  unfold State.thrCmd
  exact (by
  split
  · exact (State.thrFault_keep h_self rfl)
  · exact (State.thrClear_keep h_self rfl)
  · exact h_self)

theorem State.crossBegin_keep {mk : Nat} {sb s : State} (hk : Keeps mk sb s) (hmk : 67617 ||| mk = mk) {i : Nat} :
    Keeps mk sb (State.crossBegin s i) := by
  refine Keeps.step hk ?_ hmk
  have h_self : Keeps 67617 s s := Keeps.refl
  unfold State.crossBegin
  extract_lets -merge -useContext -underBinder +onlyGivenNames t1 full2 l3 k4 th5
  exact (Keeps.ite_keep (by
  split
  · exact h_self
  · extract_lets -merge -useContext -underBinder +onlyGivenNames q8 tr9
    exact (State.raise_keep (State.thrTo_keep (State.modThr_keep h_self rfl) rfl) rfl)) h_self)

theorem execCrossingBegin_keep (i : Fin 16) (s : State) : KeepsOut 16844833 s (execCrossingBegin i s) := by
  have h_self : Keeps 16844833 s s := Keeps.refl
  unfold execCrossingBegin
  exact (KeepsOut.next (State.lanes_keep h_self rfl (fun x1_0 h_x1_0 => (State.crossBegin_keep h_x1_0 rfl))))

theorem State.rudderChange_keep {mk : Nat} {sb s : State} (hk : Keeps mk sb s) (hmk : 67617 ||| mk = mk) {i : Nat} :
    Keeps mk sb (State.rudderChange s i) := by
  refine Keeps.step hk ?_ hmk
  have h_self : Keeps 67617 s s := Keeps.refl
  unfold State.rudderChange
  extract_lets -merge -useContext -underBinder +onlyGivenNames t1
  exact (Keeps.ite_keep (State.raise_keep (State.modThr_keep h_self rfl) rfl) h_self)

theorem execRudderCommitChange_keep (i : Fin 16) (s : State) : KeepsOut 16844833 s (execRudderCommitChange i s) := by
  have h_self : Keeps 16844833 s s := Keeps.refl
  unfold execRudderCommitChange
  exact (KeepsOut.next (State.lanes_keep h_self rfl (fun x1_0 h_x1_0 => (State.rudderChange_keep h_x1_0 rfl))))

theorem State.crossCount_keep {mk : Nat} {sb s : State} (hk : Keeps mk sb s) (hmk : 65536 ||| mk = mk) {w : List (Nat × Fl)} {i : Nat} :
    Keeps mk sb (State.crossCount s w i) := by
  refine Keeps.step hk ?_ hmk
  have h_self : Keeps 65536 s s := Keeps.refl
  unfold State.crossCount
  extract_lets -merge -useContext -underBinder +onlyGivenNames t1 mul2 th3 rows4 lam5 thr6 step7
  exact (State.modThr_keep h_self rfl)

theorem State.thrCommands_keep {mk : Nat} {sb s : State} (hk : Keeps mk sb s) (hmk : 1 ||| mk = mk) :
    Keeps mk sb (State.thrCommands s) := by
  refine Keeps.step hk ?_ hmk
  have h_self : Keeps 1 s s := Keeps.refl
  unfold State.thrCommands
  exact (State.each_keep h_self (fun x1_0 _ h_x1_0 => (State.putI_keep h_x1_0 rfl)))

theorem State.mainSolve_keep {mk : Nat} {sb s0 : State} (hk : Keeps mk sb s0) (hmk : 67617 ||| mk = mk) :
    Keeps mk sb (State.mainSolve s0) := by
  refine Keeps.step hk ?_ hmk
  have h_self : Keeps 67617 s0 s0 := Keeps.refl
  unfold State.mainSolve
  extract_lets -merge -useContext -underBinder +onlyGivenNames s1 ids2 l3 buses4 bb5 bound6 bounds7 dem8 r9 sol10 w11 s112 lr13 res14 off15 bf16 sl17 pw18 busW19 st20 tw21 g22 stw23 words24 adv25 s226 s327
  have h_s1 : Keeps 67617 s0 s1 := (State.each_keep h_self (fun x28_0 _ h_x28_0 => (State.thrMachine_keep h_x28_0 rfl)))
  have h_s112 : Keeps 67617 s0 s112 := (State.each_keep h_s1 (fun x29_0 _ h_x29_0 => (State.crossCount_keep h_x29_0 rfl)))
  have h_adv25 : ∀ z0 z1, Keeps 67617 s0 z0 → Keeps 67617 s0 (adv25 z0 z1) := (fun x30_0 _ h_x30_0 => (State.modThr_keep h_x30_0 rfl))
  have h_s226 : Keeps 67617 s0 s226 := (State.each_keep (State.each_keep (State.each_keep h_s112 (fun x33_0 _ h_x33_0 => (h_adv25 _ _ h_x33_0))) (fun x32_0 _ h_x32_0 => (State.crossBegin_keep h_x32_0 rfl))) (fun x31_0 _ h_x31_0 => (State.rudderChange_keep h_x31_0 rfl)))
  have h_s327 : Keeps 67617 s0 s327 := (State.modAlc_keep h_s226 rfl)
  exact (Keeps.ite_keep (State.raiseMajor_keep (State.put_keep h_s327 rfl) rfl) h_s327)

end Sys2Proof.Machine
end

