-- ==== Sys2Proof/Laws/KeepArb.lean ====
section
/-! SUPPORT. What the functions of Machine/Arb.lean leave alone (see Laws/Keeps.lean). -/

namespace Sys2Proof.Machine

open Sys2Proof

theorem State.fuse_keep {mk : Nat} {sb s : State} (hk : Keeps mk sb s) (hmk : 3105 ||| mk = mk) {v : View} {h sinv rTot : Mat} {sc : Mat} {nu : List Fl} :
    Keeps mk sb (State.fuse s v h sinv rTot sc nu) := by
  refine Keeps.step hk ?_ hmk
  have h_self : Keeps 3105 s s := Keeps.refl
  unfold State.fuse
  exact (by
  split
  · extract_lets -merge -useContext -underBinder +onlyGivenNames k2 u3
    exact (Keeps.ite_keep (State.modEst_keep h_self rfl) (State.vesselFault_keep h_self rfl))
  · extract_lets -merge -useContext -underBinder +onlyGivenNames k5 x6 p7
    exact (Keeps.ite_keep (State.modEst_keep h_self rfl) (State.vesselFault_keep h_self rfl)))

theorem State.refWake_keep {mk : Nat} {sb s : State} (hk : Keeps mk sb s) (hmk : 1024 ||| mk = mk) {i : Nat} :
    Keeps mk sb (State.refWake s i) := by
  refine Keeps.step hk ?_ hmk
  have h_self : Keeps 1024 s s := Keeps.refl
  unfold State.refWake
  extract_lets -merge -useContext -underBinder +onlyGivenNames t1 sd2 pb3
  exact (Keeps.ite_keep (State.modRef_keep h_self rfl) (Keeps.ite_keep (State.modRef_keep h_self rfl) h_self))

theorem State.refMeasure_keep {mk : Nat} {sb s0 : State} (hk : Keeps mk sb s0) (hmk : 3105 ||| mk = mk) {v : View} {q : RefIn} :
    Keeps mk sb (State.refMeasure s0 v q) := by
  refine Keeps.step hk ?_ hmk
  have h_self : Keeps 3105 s0 s0 := Keeps.refl
  unfold State.refMeasure
  extract_lets -merge -useContext -underBinder +onlyGivenNames i1 s2 t3 h4 pred5 wrap6 r07 nu8 hph9 sc10
  have h_s2 : Keeps 3105 s0 s2 := (State.refWake_keep h_self rfl)
  exact (by
  split
  · exact (State.refFault_keep h_s2 rfl)
  · extract_lets -merge -useContext -underBinder +onlyGivenNames nis13 res14 resid15 spoof16 cause17 pass18 use19 fused20 s121 rTot22 s223 u24 s325 s426 s527
    have h_s121 : Keeps 3105 s0 s121 := (State.put_keep (State.modRef_keep h_s2 rfl) rfl)
    have h_s223 : Keeps 3105 s0 s223 := (State.fuse_keep h_s121 rfl)
    have h_s325 : Keeps 3105 s0 s325 := (Keeps.ite_keep (State.modRef_keep h_s223 rfl) (State.refFault_keep h_s223 rfl))
    have h_s426 : Keeps 3105 s0 s426 := (State.modEst_keep h_s325 rfl)
    have h_s527 : Keeps 3105 s0 s527 := (Keeps.ite_keep h_s426 (State.put_keep h_s426 rfl))
    exact (Keeps.ite_keep h_s121 (by
    split
    · exact h_s527
    · extract_lets -merge -useContext -underBinder +onlyGivenNames w30 rot31 rv32 vs33
      exact (by
      split
      · exact (State.refFault_keep h_s527 rfl)
      · exact (State.fuse_keep h_s527 rfl)))))

theorem State.markSuspect_keep {mk : Nat} {sb s : State} (hk : Keeps mk sb s) (hmk : 3105 ||| mk = mk) {i : Nat} {kept : Option Nat} :
    Keeps mk sb (State.markSuspect s i kept) := by
  refine Keeps.step hk ?_ hmk
  have h_self : Keeps 3105 s s := Keeps.refl
  unfold State.markSuspect
  exact (State.raise_keep (State.put_keep (State.modRef_keep (State.putBit_keep h_self rfl) rfl) rfl) rfl)

theorem State.outvoteExpire_keep {mk : Nat} {sb s : State} (hk : Keeps mk sb s) (hmk : 3105 ||| mk = mk) {i : Nat} :
    Keeps mk sb (State.outvoteExpire s i) := by
  refine Keeps.step hk ?_ hmk
  have h_self : Keeps 3105 s s := Keeps.refl
  unfold State.outvoteExpire
  exact (Keeps.ite_keep (State.markSuspect_keep h_self rfl) h_self)

theorem execOutvoteHoldExpiry_keep (ref : Fin 16) (s : State) : KeepsOut 16780321 s (execOutvoteHoldExpiry ref s) := by
  have h_self : Keeps 16780321 s s := Keeps.refl
  unfold execOutvoteHoldExpiry
  exact (KeepsOut.next (State.lanes_keep h_self rfl (fun x1_0 h_x1_0 => (State.outvoteExpire_keep h_x1_0 rfl))))

theorem State.setContra_keep {mk : Nat} {sb s : State} (hk : Keeps mk sb s) (hmk : 1025 ||| mk = mk) {hdg : Bool} {c : Option (Nat × Nat × Nat)} :
    Keeps mk sb (State.setContra s hdg c) := by
  refine Keeps.step hk ?_ hmk
  have h_self : Keeps 1025 s s := Keeps.refl
  unfold State.setContra
  exact (Keeps.ite_keep (State.putB_keep (State.modEst_keep h_self rfl) rfl) (State.putB_keep (State.modEst_keep h_self rfl) rfl))

theorem State.contraExpire_keep {mk : Nat} {sb s : State} (hk : Keeps mk sb s) (hmk : 3105 ||| mk = mk) {hdg : Bool} :
    Keeps mk sb (State.contraExpire s hdg) := by
  refine Keeps.step hk ?_ hmk
  have h_self : Keeps 3105 s s := Keeps.refl
  unfold State.contraExpire
  exact (by
  split
  · exact h_self
  · extract_lets -merge -useContext -underBinder +onlyGivenNames tick3 ra4 rb5 keepA6
    exact (Keeps.ite_keep h_self (by
    split
    · exact h_self
    · exact (State.setContra_keep (State.markSuspect_keep h_self rfl) rfl)
    · exact (State.setContra_keep (State.markSuspect_keep h_self rfl) rfl)
    · exact (State.setContra_keep (Keeps.ite_keep (State.markSuspect_keep h_self rfl) (State.markSuspect_keep h_self rfl)) rfl))))

theorem execContradictionHoldExpiry_keep (heading : Bool) (s : State) : KeepsOut 16780321 s (execContradictionHoldExpiry heading s) := by
  have h_self : Keeps 16780321 s s := Keeps.refl
  unfold execContradictionHoldExpiry
  exact (KeepsOut.next (State.lanes_keep h_self rfl (fun x1_0 h_x1_0 => (State.contraExpire_keep h_x1_0 rfl))))

theorem State.twoRule_keep {mk : Nat} {sb s : State} (hk : Keeps mk sb s) (hmk : 3105 ||| mk = mk) {hdg : Bool} {l : List Nat} :
    Keeps mk sb (State.twoRule s hdg l) := by
  refine Keeps.step hk ?_ hmk
  have h_self : Keeps 3105 s s := Keeps.refl
  unfold State.twoRule
  exact (by
  split
  · extract_lets -merge -useContext -underBinder +onlyGivenNames far2 start3
    have h_start3 : ∀ z0, Keeps 3105 s z0 → Keeps 3105 s (start3 z0) := (fun x4_0 h_x4_0 => (State.raise_keep (State.setContra_keep h_x4_0 rfl) rfl))
    exact (by
    split
    · extract_lets -merge -useContext -underBinder +onlyGivenNames s16
      have h_s16 : Keeps 3105 s s16 := (State.raise_keep (State.setContra_keep h_self rfl) rfl)
      exact (Keeps.ite_keep (State.contraExpire_keep h_self rfl) (Keeps.ite_keep (h_start3 _ h_s16) h_s16))
    · exact (Keeps.ite_keep (h_start3 _ h_self) h_self))
  · exact (by
    split
    · exact (State.raise_keep (State.setContra_keep h_self rfl) rfl)
    · exact h_self))

theorem State.rehabExpire_keep {mk : Nat} {sb s : State} (hk : Keeps mk sb s) (hmk : 1025 ||| mk = mk) {i : Nat} :
    Keeps mk sb (State.rehabExpire s i) := by
  refine Keeps.step hk ?_ hmk
  have h_self : Keeps 1025 s s := Keeps.refl
  unfold State.rehabExpire
  exact (Keeps.ite_keep (State.modRef_keep (State.putBit_keep h_self rfl) rfl) h_self)

theorem execRehabExpiry_keep (ref : Fin 16) (s : State) : KeepsOut 16778241 s (execRehabExpiry ref s) := by
  have h_self : Keeps 16778241 s s := Keeps.refl
  unfold execRehabExpiry
  exact (KeepsOut.next (State.lanes_keep h_self rfl (fun x1_0 h_x1_0 => (State.rehabExpire_keep h_x1_0 rfl))))

theorem State.rehab_keep {mk : Nat} {sb s : State} (hk : Keeps mk sb s) (hmk : 1025 ||| mk = mk) {hdg : Bool} {l : List Nat} {i : Nat} :
    Keeps mk sb (State.rehab s hdg l i) := by
  refine Keeps.step hk ?_ hmk
  have h_self : Keeps 1025 s s := Keeps.refl
  unfold State.rehab
  extract_lets -merge -useContext -underBinder +onlyGivenNames t1 aim2 near3
  exact (Keeps.ite_keep h_self (State.rehabExpire_keep (State.modRef_keep h_self rfl) rfl))

theorem State.unmark_keep {mk : Nat} {sb s : State} (hk : Keeps mk sb s) (hmk : 1025 ||| mk = mk) {i : Nat} :
    Keeps mk sb (State.unmark s i) := by
  refine Keeps.step hk ?_ hmk
  have h_self : Keeps 1025 s s := Keeps.refl
  unfold State.unmark
  exact (Keeps.ite_keep (State.modRef_keep (State.putBit_keep h_self rfl) rfl) h_self)

theorem State.forceClear_keep {mk : Nat} {sb s : State} (hk : Keeps mk sb s) (hmk : 1025 ||| mk = mk) {i : Nat} :
    Keeps mk sb (State.forceClear s i) := by
  refine Keeps.step hk ?_ hmk
  have h_self : Keeps 1025 s s := Keeps.refl
  unfold State.forceClear
  exact (Keeps.ite_keep (State.unmark_keep h_self rfl) h_self)

theorem State.arbOvrApply_keep {mk : Nat} {sb s : State} (hk : Keeps mk sb s) (hmk : 1025 ||| mk = mk) {v : Nat} :
    Keeps mk sb (State.arbOvrApply s v) := by
  refine Keeps.step hk ?_ hmk
  have h_self : Keeps 1025 s s := Keeps.refl
  unfold State.arbOvrApply
  exact (State.each_keep (State.setWord_keep h_self rfl) (fun x1_0 _ h_x1_0 => (Keeps.ite_keep (State.unmark_keep h_x1_0 rfl) (State.forceClear_keep h_x1_0 rfl))))

theorem State.arbClr_keep {mk : Nat} {sb s : State} (hk : Keeps mk sb s) (hmk : 1025 ||| mk = mk) {mask : Nat} :
    Keeps mk sb (State.arbClr s mask) := by
  refine Keeps.step hk ?_ hmk
  have h_self : Keeps 1025 s s := Keeps.refl
  unfold State.arbClr
  exact (State.each_keep h_self (fun x1_0 _ h_x1_0 => (Keeps.ite_keep (State.unmark_keep h_x1_0 rfl) h_x1_0)))

theorem execEstArbClr_keep (mask : BitVec 16) (s : State) : KeepsOut 16778241 s (execEstArbClr mask s) := by
  have h_self : Keeps 16778241 s s := Keeps.refl
  unfold execEstArbClr
  exact (KeepsOut.next (State.lanes_keep h_self rfl (fun x1_0 h_x1_0 => (State.arbClr_keep h_x1_0 rfl))))

theorem State.arbitrate_keep {mk : Nat} {sb s : State} (hk : Keeps mk sb s) (hmk : 3105 ||| mk = mk) {hdg : Bool} {tick : Nat} :
    Keeps mk sb (State.arbitrate s hdg tick) := by
  refine Keeps.step hk ?_ hmk
  have h_self : Keeps 3105 s s := Keeps.refl
  unfold State.arbitrate
  extract_lets -merge -useContext -underBinder +onlyGivenNames all1 l2 n3 s14 out5 s26 mode7
  have h_s14 : Keeps 3105 s s14 := (State.twoRule_keep h_self rfl)
  have h_s26 : Keeps 3105 s s26 := (State.each_keep h_s14 (fun x8_0 _ h_x8_0 => by
    extract_lets -merge -useContext -underBinder +onlyGivenNames st9 was10 s111 s212
    have h_s111 : Keeps 3105 s s111 := (State.modRef_keep (State.put_keep h_x8_0 rfl) rfl)
    have h_s212 : Keeps 3105 s s212 := (by
    unfold s212
    split
    · exact (Keeps.ite_keep h_s111 (State.raiseMajor_keep h_s111 rfl))
    · exact h_s111)
    exact (State.rehab_keep (State.outvoteExpire_keep (State.put_keep h_s212 rfl) rfl) rfl)))
  exact (Keeps.ite_keep (State.put_keep (State.put_keep h_s26 rfl) rfl) (State.put_keep (State.put_keep h_s26 rfl) rfl))

theorem State.headingLoss_keep {mk : Nat} {sb s : State} (hk : Keeps mk sb s) (hmk : 2081 ||| mk = mk) :
    Keeps mk sb (State.headingLoss s) := by
  refine Keeps.step hk ?_ hmk
  have h_self : Keeps 2081 s s := Keeps.refl
  unfold State.headingLoss
  extract_lets -merge -useContext -underBinder +onlyGivenNames tick1
  exact (Keeps.ite_keep (State.setRaise_keep h_self rfl) h_self)

theorem execHeadingLoss_keep (s : State) : KeepsOut 16779297 s (execHeadingLoss s) := by
  have h_self : Keeps 16779297 s s := Keeps.refl
  unfold execHeadingLoss
  exact (KeepsOut.next (State.lanes_keep h_self rfl (fun x1_0 h_x1_0 => (State.headingLoss_keep h_x1_0 rfl))))

theorem State.geckoEntry_keep {mk : Nat} {sb s : State} (hk : Keeps mk sb s) (hmk : 3105 ||| mk = mk) :
    Keeps mk sb (State.geckoEntry s) := by
  refine Keeps.step hk ?_ hmk
  have h_self : Keeps 3105 s s := Keeps.refl
  unfold State.geckoEntry
  extract_lets -merge -useContext -underBinder +onlyGivenNames tick1 a2 b3 u04 s15
  have h_s15 : Keeps 3105 s s15 := (State.vesselTo_keep h_self rfl)
  exact (Keeps.ite_keep (State.put_keep (State.put_keep (State.modEst_keep h_s15 rfl) rfl) rfl) h_self)

theorem execGeckoEntry_keep (s : State) : KeepsOut 16780321 s (execGeckoEntry s) := by
  have h_self : Keeps 16780321 s s := Keeps.refl
  unfold execGeckoEntry
  exact (KeepsOut.next (State.lanes_keep h_self rfl (fun x1_0 h_x1_0 => (State.geckoEntry_keep h_x1_0 rfl))))

theorem State.geckoGrow_keep {mk : Nat} {sb s : State} (hk : Keeps mk sb s) (hmk : 1 ||| mk = mk) {tick : Nat} :
    Keeps mk sb (State.geckoGrow s tick) := by
  refine Keeps.step hk ?_ hmk
  have h_self : Keeps 1 s s := Keeps.refl
  unfold State.geckoGrow
  extract_lets -merge -useContext -underBinder +onlyGivenNames t1 grown2
  exact (Keeps.ite_keep (State.put_keep (State.put_keep h_self rfl) rfl) h_self)

theorem State.geckoExpire_keep {mk : Nat} {sb s : State} (hk : Keeps mk sb s) (hmk : 3105 ||| mk = mk) :
    Keeps mk sb (State.geckoExpire s) := by
  refine Keeps.step hk ?_ hmk
  have h_self : Keeps 3105 s s := Keeps.refl
  unfold State.geckoExpire
  exact (State.raise_keep (State.put_keep (State.vesselTo_keep h_self rfl) rfl) rfl)

theorem State.geckoTlim_keep {mk : Nat} {sb s : State} (hk : Keeps mk sb s) (hmk : 3105 ||| mk = mk) :
    Keeps mk sb (State.geckoTlim s) := by
  refine Keeps.step hk ?_ hmk
  have h_self : Keeps 3105 s s := Keeps.refl
  unfold State.geckoTlim
  extract_lets -merge -useContext -underBinder +onlyGivenNames tick1
  exact (Keeps.ite_keep (State.geckoExpire_keep h_self rfl) h_self)

theorem execGeckoTlim_keep (s : State) : KeepsOut 16780321 s (execGeckoTlim s) := by
  have h_self : Keeps 16780321 s s := Keeps.refl
  unfold execGeckoTlim
  exact (KeepsOut.next (State.lanes_keep h_self rfl (fun x1_0 h_x1_0 => (State.geckoTlim_keep h_x1_0 rfl))))

theorem State.geckoEnd_keep {mk : Nat} {sb s : State} (hk : Keeps mk sb s) (hmk : 3105 ||| mk = mk) :
    Keeps mk sb (State.geckoEnd s) := by
  refine Keeps.step hk ?_ hmk
  have h_self : Keeps 3105 s s := Keeps.refl
  unfold State.geckoEnd
  extract_lets -merge -useContext -underBinder +onlyGivenNames ret1 ulim2 s13
  have h_s13 : Keeps 3105 s s13 := (State.geckoTlim_keep h_self rfl)
  exact (Keeps.ite_keep h_self (Keeps.ite_keep (State.vesselTo_keep h_self rfl) (Keeps.ite_keep (State.geckoExpire_keep h_s13 rfl) h_s13)))

theorem State.estInit_keep {mk : Nat} {sb s : State} (hk : Keeps mk sb s) (hmk : 3105 ||| mk = mk) :
    Keeps mk sb (State.estInit s) := by
  refine Keeps.step hk ?_ hmk
  have h_self : Keeps 3105 s s := Keeps.refl
  unfold State.estInit
  exact (by
  split
  · extract_lets -merge -useContext -underBinder +onlyGivenNames zp2 psi3 uv4 x5 s16
    have h_s16 : Keeps 3105 s s16 := (State.each_keep h_self (fun x7_0 _ h_x7_0 => (State.modRef_keep h_x7_0 rfl)))
    exact (State.modEst_keep (State.vesselTo_keep (State.put_keep h_s16 rfl) rfl) rfl)
  · exact h_self)

theorem State.converge_keep {mk : Nat} {sb s : State} (hk : Keeps mk sb s) (hmk : 3105 ||| mk = mk) {tick : Nat} :
    Keeps mk sb (State.converge s tick) := by
  refine Keeps.step hk ?_ hmk
  have h_self : Keeps 3105 s s := Keeps.refl
  unfold State.converge
  extract_lets -merge -useContext -underBinder +onlyGivenNames sec1 pa2 ha3 qpos4 ok5
  exact (Keeps.ite_keep (State.vesselTo_keep h_self rfl) (Keeps.ite_keep (State.vesselTo_keep h_self rfl) h_self))

theorem State.vesselMachine_keep {mk : Nat} {sb s : State} (hk : Keeps mk sb s) (hmk : 3105 ||| mk = mk) {tick : Nat} :
    Keeps mk sb (State.vesselMachine s tick) := by
  refine Keeps.step hk ?_ hmk
  have h_self : Keeps 3105 s s := Keeps.refl
  unfold State.vesselMachine
  exact (by
  split
  · exact (State.estInit_keep h_self rfl)
  · exact (State.converge_keep h_self rfl)
  · exact (State.geckoEntry_keep h_self rfl)
  · exact (State.geckoEnd_keep (State.geckoGrow_keep h_self rfl) rfl)
  · exact h_self)

theorem State.farCheck_keep {mk : Nat} {sb s : State} (hk : Keeps mk sb s) (hmk : 2081 ||| mk = mk) :
    Keeps mk sb (State.farCheck s) := by
  refine Keeps.step hk ?_ hmk
  have h_self : Keeps 2081 s s := Keeps.refl
  unfold State.farCheck
  extract_lets -merge -useContext -underBinder +onlyGivenNames lim1 big2
  exact (Keeps.ite_keep (State.setRaise_keep h_self rfl) (Keeps.ite_keep (State.put_keep h_self rfl) h_self))

end Sys2Proof.Machine
end

