-- ==== Sys2Proof/Laws/KeepEstStage.lean ====
section
/-! SUPPORT. What the functions of Machine/EstStage.lean leave alone (see Laws/Keeps.lean). -/

namespace Sys2Proof.Machine

open Sys2Proof

theorem State.tgMeasure_keep {mk : Nat} {sb s0 : State} (hk : Keeps mk sb s0) (hmk : 3105 ||| mk = mk) {v : View} {k : Nat} {q : Meas} {delayed : Bool} :
    Keeps mk sb (State.tgMeasure s0 v k q delayed) := by
  refine Keeps.step hk ?_ hmk
  have h_self : Keeps 3105 s0 s0 := Keeps.refl
  unfold State.tgMeasure
  extract_lets -merge -useContext -underBinder +onlyGivenNames sg1 z2 r3 zz4 s5 t6 h7 nu8 sc9
  have h_s5 : Keeps 3105 s0 s5 := (Keeps.ite_keep (State.modTg_keep h_self rfl) h_self)
  exact (by
  split
  · exact (State.tgFault_keep h_s5 rfl)
  · extract_lets -merge -useContext -underBinder +onlyGivenNames u12
    exact (Keeps.ite_keep (State.modTg_keep h_s5 rfl) (State.tgFault_keep h_s5 rfl)))

theorem State.measUpdate_keep {mk : Nat} {sb s : State} (hk : Keeps mk sb s) (hmk : 3105 ||| mk = mk) {v : View} {q : Meas} {delayed : Bool} :
    Keeps mk sb (State.measUpdate s v q delayed) := by
  refine Keeps.step hk ?_ hmk
  have h_self : Keeps 3105 s s := Keeps.refl
  unfold State.measUpdate
  extract_lets -merge -useContext -underBinder +onlyGivenNames vw1 s12
  have h_s12 : Keeps 3105 s s12 := (State.each_keep h_self (fun x3_0 _ h_x3_0 => (State.refMeasure_keep h_x3_0 rfl)))
  exact (State.each_keep h_s12 (fun x4_0 _ h_x4_0 => (State.tgMeasure_keep h_x4_0 rfl)))

theorem State.tcEpoch_keep {mk : Nat} {sb s : State} (hk : Keeps mk sb s) (hmk : 3105 ||| mk = mk) {v : View} {delayed : Bool} {k : Nat} {e : Epoch} :
    Keeps mk sb (State.tcEpoch s v delayed k e) := by
  refine Keeps.step hk ?_ hmk
  have h_self : Keeps 3105 s s := Keeps.refl
  unfold State.tcEpoch
  exact (by
  split
  · exact h_self
  · extract_lets -merge -useContext -underBinder +onlyGivenNames lev3 arm4 rtk5
    exact (by
    split
    · exact (State.refFault_keep h_self rfl)
    · extract_lets -merge -useContext -underBinder +onlyGivenNames s18 g9 c10 vel11 sd12 fix13
      have h_s18 : Keeps 3105 s s18 := (State.modRef_keep h_self rfl)
      exact (State.refMeasure_keep h_s18 rfl)))

theorem State.estOne_keep {mk : Nat} {sb s : State} (hk : Keeps mk sb s) (hmk : 3105 ||| mk = mk) {last : Nat} {x : EstIn} {phi : Mat} :
    Keeps mk sb (State.estOne s last x phi).1 := by
  refine Keeps.step hk ?_ hmk
  have h_self : Keeps 3105 s s := Keeps.refl
  unfold State.estOne
  extract_lets -merge -useContext -underBinder +onlyGivenNames delayed1 tooOld2 v?3 p4
  have h_tooOld2 : ∀ z0, Keeps 3105 s z0 → Keeps 3105 s (tooOld2 z0) := (fun x5_0 h_x5_0 => (State.raiseMajor_keep (State.put_keep h_x5_0 rfl) rfl))
  have h_p4 : Keeps 3105 s p4.1 := Keeps.proj (State.estProp_keep h_self rfl) rfl
  exact (Keeps.ite_fst (by
  clear_value v?3
  split
  · exact (Keeps.mk_fst (h_tooOld2 _ h_self))
  · exact (by
    split
    · exact (Keeps.mk_fst (State.each_keep h_self (fun x9_0 _ h_x9_0 => (State.tcEpoch_keep h_x9_0 rfl))))
    · exact (Keeps.mk_fst (State.measUpdate_keep h_self rfl)))) (by
  split
  · exact (Keeps.mk_fst (State.each_keep h_p4 (fun x12_0 _ h_x12_0 => (State.tcEpoch_keep h_x12_0 rfl))))
  · exact (Keeps.mk_fst (State.measUpdate_keep h_p4 rfl))))

theorem State.estDefer_keep {mk : Nat} {sb s : State} (hk : Keeps mk sb s) (hmk : 3105 ||| mk = mk) {q : Meas} :
    Keeps mk sb (State.estDefer s q) := by
  refine Keeps.step hk ?_ hmk
  have h_self : Keeps 3105 s s := Keeps.refl
  unfold State.estDefer
  exact (State.raiseMajor_keep (State.put_keep (State.modEst_keep h_self rfl) rfl) rfl)

theorem State.estRun_keep {mk : Nat} {sb s : State} (h : Keeps mk sb s) (hm : 3105 ||| mk = mk) {last n : Nat} {l : List EstIn} {phi : Mat} :
    Keeps mk sb (State.estRun s last n l phi).1 := by
  induction l generalizing s n phi with
  | nil => exact h
  | cons x t ih =>
    rw [State.estRun]
    split
    · exact ih (State.estDefer_keep h (Keeps.sub hm rfl))
    · exact ih (State.estOne_keep h (Keeps.sub hm rfl))

theorem State.keepRecent_keep {mk : Nat} {sb s : State} (hk : Keeps mk sb s) (hmk : 1024 ||| mk = mk) {q : Meas} :
    Keeps mk sb (State.keepRecent s q) := by
  refine Keeps.step hk ?_ hmk
  have h_self : Keeps 1024 s s := Keeps.refl
  unfold State.keepRecent
  exact (Keeps.ite_keep (State.modEst_keep h_self rfl) h_self)

theorem State.formRecords_keep {mk : Nat} {sb s : State} (hk : Keeps mk sb s) (hmk : 1024 ||| mk = mk) {tick : Nat} :
    Keeps mk sb (State.formRecords s tick) := by
  refine Keeps.step hk ?_ hmk
  have h_self : Keeps 1024 s s := Keeps.refl
  unfold State.formRecords
  extract_lets -merge -useContext -underBinder +onlyGivenNames l1 act2 ntg3
  exact (State.modEst_keep h_self rfl)

theorem State.peerClear_keep {mk : Nat} {sb s : State} (hk : Keeps mk sb s) (hmk : 1 ||| mk = mk) {i : Nat} :
    Keeps mk sb (State.peerClear s i) := by
  refine Keeps.step hk ?_ hmk
  have h_self : Keeps 1 s s := Keeps.refl
  unfold State.peerClear
  exact (State.put_keep (State.put_keep h_self rfl) rfl)

theorem State.peerCompare_keep {mk : Nat} {sb s : State} (hk : Keeps mk sb s) (hmk : 2081 ||| mk = mk) {t : Nat} {x : List Fl} {p : Mat} {i : Nat} :
    Keeps mk sb (State.peerCompare s t x p i) := by
  refine Keeps.step hk ?_ hmk
  have h_self : Keeps 2081 s s := Keeps.refl
  unfold State.peerCompare
  extract_lets -merge -useContext -underBinder +onlyGivenNames clear1
  have h_clear1 : ∀ z0, Keeps 2081 s z0 → Keeps 2081 s (clear1 z0) := (fun x2_0 h_x2_0 => (State.peerClear_keep h_x2_0 rfl))
  exact (Keeps.ite_keep (h_clear1 _ h_self) (by
  split
  · exact (h_clear1 _ h_self)
  · extract_lets -merge -useContext -underBinder +onlyGivenNames tb5 mm6 sn7 se8 rho9 off10 pb11 pa12 addD13 scl14
    exact (Keeps.ite_keep (State.put_keep (h_clear1 _ h_self) rfl) (by
    split
    · extract_lets -merge -useContext -underBinder +onlyGivenNames d16 d217 info18 tr19 best20
      exact (by
      split
      · exact (h_clear1 _ h_self)
      · extract_lets -merge -useContext -underBinder +onlyGivenNames rhs23 xf24 sd25 ok26 consec27 s128 s229 s330
        have h_s128 : Keeps 2081 s s128 := (State.put_keep (State.put_keep (State.putB_keep (State.put_keep h_self rfl) rfl) rfl) rfl)
        have h_s229 : Keeps 2081 s s229 := (State.put_keep (State.put_keep (State.putI_keep (State.putI_keep h_s128 rfl) rfl) rfl) rfl)
        have h_s330 : Keeps 2081 s s330 := (State.put_keep (State.put_keep h_s229 rfl) rfl)
        exact (Keeps.ite_keep (State.put_keep h_s330 rfl) (Keeps.ite_keep (State.setRaise_keep h_s330 rfl) h_s330)))
    · exact (h_clear1 _ h_self)))))

theorem State.peerStep_keep {mk : Nat} {sb s : State} (hk : Keeps mk sb s) (hmk : 3105 ||| mk = mk) :
    Keeps mk sb (State.peerStep s) := by
  refine Keeps.step hk ?_ hmk
  have h_self : Keeps 3105 s s := Keeps.refl
  unfold State.peerStep
  extract_lets -merge -useContext -underBinder +onlyGivenNames own1 one2
  have h_one2 : ∀ z0 z1, Keeps 3105 s z0 → Keeps 3105 s (one2 z0 z1) := (fun x3_0 _ h_x3_0 => (Keeps.ite_keep (State.setWords_keep h_x3_0 rfl) (by
    clear_value own1
    split
    · exact (State.peerCompare_keep h_x3_0 rfl)
    · exact (State.peerClear_keep h_x3_0 rfl))))
  exact (State.modEst_keep (State.each_keep h_self (fun x6_0 _ h_x6_0 => (h_one2 _ _ h_x6_0))) rfl)

theorem State.estOff_keep {mk : Nat} {sb s : State} (hk : Keeps mk sb s) (hmk : 3105 ||| mk = mk) {tick : Nat} :
    Keeps mk sb (State.estOff s tick) := by
  refine Keeps.step hk ?_ hmk
  have h_self : Keeps 3105 s s := Keeps.refl
  unfold State.estOff
  extract_lets -merge -useContext -underBinder +onlyGivenNames s11 s22
  have h_s11 : Keeps 3105 s s11 := (Keeps.ite_keep h_self (State.vesselTo_keep h_self rfl))
  have h_s22 : Keeps 3105 s s22 := (State.modEst_keep h_s11 rfl)
  exact (State.peerStep_keep (State.formRecords_keep (State.farCheck_keep (State.arbitrate_keep (State.arbitrate_keep (State.put_keep h_s22 rfl) rfl) rfl) rfl) rfl) rfl)

theorem State.tgHost_keep {mk : Nat} {sb s : State} (hk : Keeps mk sb s) (hmk : 1024 ||| mk = mk) {k : Nat} :
    Keeps mk sb (State.tgHost s k) := by
  refine Keeps.step hk ?_ hmk
  have h_self : Keeps 1024 s s := Keeps.refl
  unfold State.tgHost
  exact (Keeps.ite_keep (State.modTg_keep h_self rfl) h_self)

theorem State.estMeasure_keep {mk : Nat} {sb s : State} (hk : Keeps mk sb s) (hmk : 11297 ||| mk = mk) {tick last : Nat} {take : List Meas} :
    Keeps mk sb (State.estMeasure s tick last take).1 := by
  refine Keeps.step hk ?_ hmk
  have h_self : Keeps 11297 s s := Keeps.refl
  unfold State.estMeasure
  extract_lets -merge -useContext -underBinder +onlyGivenNames ins1 q2 q3 s14 r5 p6 s27
  have h_q2 : Keeps 11297 s q2 := (State.modEst_keep h_self rfl)
  have h_s14 : Keeps 11297 s s14 := (Keeps.gns_keep h_q2 rfl)
  have h_r5 : Keeps 11297 s r5.1 := Keeps.proj (State.estRun_keep h_s14 rfl) rfl
  have h_p6 : Keeps 11297 s p6.1 := Keeps.proj (State.estProp_keep h_r5 rfl) rfl
  have h_s27 : Keeps 11297 s s27 := (State.putMax_keep (State.put_keep h_p6 rfl) rfl)
  exact (Keeps.mk_fst (State.each_keep (State.modEst_keep h_s27 rfl) (fun x8_0 _ h_x8_0 => (State.tgHost_keep h_x8_0 rfl))))

theorem State.estMachines_keep {mk : Nat} {sb s : State} (hk : Keeps mk sb s) (hmk : 3105 ||| mk = mk) {tick : Nat} :
    Keeps mk sb (State.estMachines s tick) := by
  refine Keeps.step hk ?_ hmk
  have h_self : Keeps 3105 s s := Keeps.refl
  unfold State.estMachines
  extract_lets -merge -useContext -underBinder +onlyGivenNames s11 s22
  have h_s11 : Keeps 3105 s s11 := (State.each_keep (State.each_keep h_self (fun x4_0 _ h_x4_0 => (State.refConfig_keep h_x4_0 rfl))) (fun x3_0 _ h_x3_0 => (State.tgConfig_keep h_x3_0 rfl)))
  have h_s22 : Keeps 3105 s s22 := (State.arbitrate_keep (State.arbitrate_keep (State.each_keep h_s11 (fun x5_0 _ h_x5_0 => (State.trackTimeout_keep h_x5_0 rfl))) rfl) rfl)
  exact (State.farCheck_keep (State.headingLoss_keep (Keeps.ite_keep (State.vesselTo_keep h_s22 rfl) (State.vesselMachine_keep h_s22 rfl)) rfl) rfl)

theorem State.estWork_keep {mk : Nat} {sb s : State} (hk : Keeps mk sb s) (hmk : 11809 ||| mk = mk) :
    Keeps mk sb (State.estWork s) := by
  refine Keeps.step hk ?_ hmk
  have h_self : Keeps 11809 s s := Keeps.refl
  unfold State.estWork
  extract_lets -merge -useContext -underBinder +onlyGivenNames tick1 mine2 take3 q4 s05 s16 q7 prev8 s29 r10 s311
  have h_s05 : Keeps 11809 s s05 := (Keeps.aln_keep h_self rfl)
  have h_s16 : Keeps 11809 s s16 := (State.each_keep (State.originShift_keep (State.modEst_keep h_s05 rfl) rfl) (fun x12_0 _ h_x12_0 => (State.keepRecent_keep h_x12_0 rfl)))
  have h_s29 : Keeps 11809 s s29 := (State.modEst_keep h_s16 rfl)
  have h_r10 : Keeps 11809 s r10.1 := Keeps.proj (State.estMeasure_keep h_s29 rfl) rfl
  have h_s311 : Keeps 11809 s s311 := (State.snapshot_keep (State.estMachines_keep h_r10 rfl) rfl)
  exact (Keeps.ite_keep (State.estOff_keep (Keeps.gns_keep h_s16 rfl) rfl) (State.modEst_keep (State.peerStep_keep (State.formRecords_keep h_s311 rfl) rfl) rfl))

theorem State.estOver_keep {mk : Nat} {sb s : State} (hk : Keeps mk sb s) (hmk : 1024 ||| mk = mk) :
    Keeps mk sb (State.estOver s) := by
  refine Keeps.step hk ?_ hmk
  have h_self : Keeps 1024 s s := Keeps.refl
  unfold State.estOver
  exact (State.modEst_keep h_self rfl)

theorem execEstStage_keep (util : Fin 1001) (s : State) : KeepsOut 923287137 s (execEstStage util s) := by
  have h_self : Keeps 923287137 s s := Keeps.refl
  unfold execEstStage
  exact (KeepsOut.next (State.lanes_keep h_self rfl (fun x1_0 h_x1_0 => (State.stage_keep h_x1_0 rfl (fun x2_0 h_x2_0 => (State.estWork_keep h_x2_0 rfl)) (fun x3_0 h_x3_0 => (State.estOver_keep h_x3_0 rfl))))))

theorem State.estMajor_keep {mk : Nat} {sb s : State} (hk : Keeps mk sb s) (hmk : 3617 ||| mk = mk) :
    Keeps mk sb (State.estMajor s) := by
  refine Keeps.step hk ?_ hmk
  have h_self : Keeps 3617 s s := Keeps.refl
  unfold State.estMajor
  extract_lets -merge -useContext -underBinder +onlyGivenNames s11 s22 pb3 s34 s45 s56 s67
  have h_s11 : Keeps 3617 s s11 := (State.each_keep h_self (fun x8_0 _ h_x8_0 => (State.setWords_keep h_x8_0 rfl)))
  have h_s22 : Keeps 3617 s s22 := (Keeps.ite_keep (State.setWord_keep h_s11 rfl) h_s11)
  have h_s34 : Keeps 3617 s s34 := (State.put_keep (State.put_keep (State.put_keep (State.put_keep h_s22 rfl) rfl) rfl) rfl)
  have h_s45 : Keeps 3617 s s45 := (State.modEst_keep h_s34 rfl)
  have h_s56 : Keeps 3617 s s56 := (Keeps.ite_keep (State.vesselTo_keep h_s45 rfl) h_s45)
  have h_s67 : Keeps 3617 s s67 := (State.each_keep (State.each_keep h_s56 (fun x10_0 _ h_x10_0 => (Keeps.ite_keep (State.refTo_keep h_x10_0 rfl) h_x10_0))) (fun x9_0 _ h_x9_0 => (Keeps.ite_keep (State.modTg_keep h_x9_0 rfl) h_x9_0)))
  exact (State.when_keep (State.originDefer_keep h_s67 rfl) (fun x11_0 h_x11_0 => (State.originChange_keep h_x11_0 rfl)))

theorem State.estStep_keep {mk : Nat} {sb s : State} (hk : Keeps mk sb s) (hmk : 1536 ||| mk = mk) {delta : Int} :
    Keeps mk sb (State.estStep s delta) := by
  refine Keeps.step hk ?_ hmk
  have h_self : Keeps 1536 s s := Keeps.refl
  unfold State.estStep
  extract_lets -merge -useContext -underBinder +onlyGivenNames mv1 mq2 q3 q4
  exact (Keeps.aln_est_keep h_self rfl)

end Sys2Proof.Machine
end

