-- ==== Sys2Proof/Laws/KeepEnv.lean ====
section
/-! SUPPORT. What the functions of Machine/Env.lean leave alone (see Laws/Keeps.lean). -/

namespace Sys2Proof.Machine

open Sys2Proof

theorem State.modEnv_keep {mk : Nat} {sb s : State} (hk : Keeps mk sb s) (hmk : 65536 ||| mk = mk) {b : Nat} {f : Envelope → Envelope} :
    Keeps mk sb (State.modEnv s b f) := by
  refine Keeps.step hk ?_ hmk
  have h_self : Keeps 65536 s s := Keeps.refl
  unfold State.modEnv
  exact (State.modAlc_keep h_self rfl)

theorem State.envTo_keep {mk : Nat} {sb s : State} (hk : Keeps mk sb s) (hmk : 65537 ||| mk = mk) {b st : Nat} :
    Keeps mk sb (State.envTo s b st) := by
  refine Keeps.step hk ?_ hmk
  have h_self : Keeps 65537 s s := Keeps.refl
  unfold State.envTo
  exact (State.put_keep (State.modEnv_keep h_self rfl) rfl)

theorem State.envAcq_keep {mk : Nat} {sb s : State} (hk : Keeps mk sb s) (hmk : 65536 ||| mk = mk) :
    Keeps mk sb (State.envAcq s) := by
  refine Keeps.step hk ?_ hmk
  have h_self : Keeps 65536 s s := Keeps.refl
  unfold State.envAcq
  exact (State.modAlc_keep (State.each_keep h_self (fun x1_0 _ h_x1_0 => by
    extract_lets -merge -useContext -underBinder +onlyGivenNames c2
    exact (Keeps.ite_keep (State.modEnv_keep h_x1_0 rfl) h_x1_0))) rfl)

theorem State.envLive_keep {mk : Nat} {sb s : State} (hk : Keeps mk sb s) (hmk : 1 ||| mk = mk) {b : Nat} {x : Int} :
    Keeps mk sb (State.envLive s b x) := by
  refine Keeps.step hk ?_ hmk
  have h_self : Keeps 1 s s := Keeps.refl
  unfold State.envLive
  exact (State.when_keep h_self (fun x1_0 h_x1_0 => (State.putBit_keep h_x1_0 rfl)))

theorem State.envStale_keep {mk : Nat} {sb s : State} (hk : Keeps mk sb s) (hmk : 67617 ||| mk = mk) {b : Nat} :
    Keeps mk sb (State.envStale s b) := by
  refine Keeps.step hk ?_ hmk
  have h_self : Keeps 67617 s s := Keeps.refl
  unfold State.envStale
  extract_lets -merge -useContext -underBinder +onlyGivenNames e1
  exact (Keeps.ite_keep (State.raise_keep (State.envTo_keep (State.modEnv_keep h_self rfl) rfl) rfl) h_self)

theorem execEnvelopeStale_keep (b : Fin 4) (s : State) : KeepsOut 16844833 s (execEnvelopeStale b s) := by
  have h_self : Keeps 16844833 s s := Keeps.refl
  unfold execEnvelopeStale
  exact (KeepsOut.next (State.lanes_keep h_self rfl (fun x1_0 h_x1_0 => (State.envStale_keep h_x1_0 rfl))))

theorem State.envLatch_keep {mk : Nat} {sb s0 : State} (hk : Keeps mk sb s0) (hmk : 67617 ||| mk = mk) {b : Nat} :
    Keeps mk sb (State.envLatch s0 b) := by
  refine Keeps.step hk ?_ hmk
  have h_self : Keeps 67617 s0 s0 := Keeps.refl
  unfold State.envLatch
  extract_lets -merge -useContext -underBinder +onlyGivenNames src1 pc2 rc3 val4 e05 fra6 fpa7 fresh8 live9 pa10 ra11 s12 s213 s314 e15 s116 e17 v18 mc19 meas20
  have h_s12 : Keeps 67617 s0 s12 := (State.when_keep (State.when_keep h_self (fun x22_0 h_x22_0 => (State.envLive_keep h_x22_0 rfl))) (fun x21_0 h_x21_0 => (State.envLive_keep h_x21_0 rfl)))
  have h_s213 : Keeps 67617 s0 s213 := (Keeps.ite_keep (State.envTo_keep (State.modEnv_keep h_s12 rfl) rfl) h_s12)
  have h_s314 : Keeps 67617 s0 s314 := (State.modEnv_keep h_s213 rfl)
  have h_s116 : Keeps 67617 s0 s116 := (Keeps.ite_keep (State.envTo_keep (State.modEnv_keep h_s12 rfl) rfl) (Keeps.ite_keep (State.raise_keep (State.envTo_keep h_s314 rfl) rfl) (State.envStale_keep h_s314 rfl)))
  exact (State.modAlc_keep (State.put_keep (State.put_keep h_s116 rfl) rfl) rfl)

theorem State.envHostAll_keep {mk : Nat} {sb s : State} (hk : Keeps mk sb s) (hmk : 536936481 ||| mk = mk) :
    Keeps mk sb (State.envHostAll s) := by
  refine Keeps.step hk ?_ hmk
  have h_self : Keeps 536936481 s s := Keeps.refl
  unfold State.envHostAll
  extract_lets -merge -useContext -underBinder +onlyGivenNames mine1 l2 q3 s14
  have h_s14 : Keeps 536936481 s s14 := (Keeps.frm_pend_keep h_self rfl (by rfl) (by rfl))
  exact (State.each_keep h_s14 (fun x5_0 _ h_x5_0 => by
    extract_lets -merge -useContext -underBinder +onlyGivenNames s26
    have h_s26 : Keeps 536936481 s s26 := (State.setWord_keep h_x5_0 rfl)
    exact (Keeps.ite_keep (State.modEnv_keep h_s26 rfl) h_s26)))

theorem State.envHost_keep {mk : Nat} {sb s : State} (hk : Keeps mk sb s) (hmk : 536936481 ||| mk = mk) :
    Keeps mk sb (State.envHost s) := by
  refine Keeps.step hk ?_ hmk
  have h_self : Keeps 536936481 s s := Keeps.refl
  unfold State.envHost
  exact (Keeps.ite_keep h_self (State.envHostAll_keep h_self rfl))

theorem State.latchAll_keep {mk : Nat} {sb s : State} (hk : Keeps mk sb s) (hmk : 536938529 ||| mk = mk) :
    Keeps mk sb (State.latchAll s) := by
  refine Keeps.step hk ?_ hmk
  have h_self : Keeps 536938529 s s := Keeps.refl
  unfold State.latchAll
  exact (Keeps.ite_keep h_self (State.modAlc_keep (State.each_keep (State.envHost_keep h_self rfl) (fun x1_0 _ h_x1_0 => (State.envLatch_keep h_x1_0 rfl))) rfl))

theorem execEnvelopeLatch_keep (s : State) : KeepsOut 587274337 s (execEnvelopeLatch s) := by
  have h_self : Keeps 587274337 s s := Keeps.refl
  unfold execEnvelopeLatch
  exact (KeepsOut.next (State.lanes_keep h_self rfl (fun x1_0 h_x1_0 => (Keeps.ite_keep (State.latchAll_keep (State.runInside_keep h_x1_0 rfl) rfl) h_x1_0))))

theorem State.envCfgApply_keep {mk : Nat} {sb s : State} (hk : Keeps mk sb s) (hmk : 65537 ||| mk = mk) {b v : Nat} :
    Keeps mk sb (State.envCfgApply s b v) := by
  refine Keeps.step hk ?_ hmk
  have h_self : Keeps 65537 s s := Keeps.refl
  unfold State.envCfgApply
  extract_lets -merge -useContext -underBinder +onlyGivenNames s11 src2
  have h_s11 : Keeps 65537 s s11 := (State.setWord_keep h_self rfl)
  exact (Keeps.ite_keep (State.modEnv_keep h_s11 rfl) h_s11)

theorem State.modGroup_keep {mk : Nat} {sb s : State} (hk : Keeps mk sb s) (hmk : 65536 ||| mk = mk) {g : Nat} {f : FailGroup → FailGroup} :
    Keeps mk sb (State.modGroup s g f) := by
  refine Keeps.step hk ?_ hmk
  have h_self : Keeps 65536 s s := Keeps.refl
  unfold State.modGroup
  exact (State.modAlc_keep h_self rfl)

theorem State.cqSolve_keep {mk : Nat} {sb s : State} (hk : Keeps mk sb s) (hmk : 67617 ||| mk = mk) {g : Nat} :
    Keeps mk sb (State.cqSolve s g) := by
  refine Keeps.step hk ?_ hmk
  have h_self : Keeps 67617 s s := Keeps.refl
  unfold State.cqSolve
  extract_lets -merge -useContext -underBinder +onlyGivenNames ids1 l2 buses3 idle4 pa5 bounds6 raised7 req8 r9 sol10 slF11 sl12 tol13 slN14 ovr15 ratio16 useT17 useB18 m19 m20 out21 gr22 inf23 fea24 st25 words26 s127
  have h_s127 : Keeps 67617 s s127 := (State.modAlc_keep (State.modGroup_keep h_self rfl) rfl)
  exact (Keeps.ite_keep (State.raiseMajor_keep h_s127 rfl) h_s127)

theorem State.cqAll_keep {mk : Nat} {sb s : State} (hk : Keeps mk sb s) (hmk : 67617 ||| mk = mk) :
    Keeps mk sb (State.cqAll s) := by
  refine Keeps.step hk ?_ hmk
  have h_self : Keeps 67617 s s := Keeps.refl
  unfold State.cqAll
  extract_lets -merge -useContext -underBinder +onlyGivenNames req1 reqW2 idle3 run4 s15
  have h_idle3 : ∀ z0 z1, Keeps 67617 s z0 → Keeps 67617 s (idle3 z0 z1) := (fun x6_0 _ h_x6_0 => (State.modAlc_keep h_x6_0 rfl))
  have h_s15 : Keeps 67617 s s15 := (State.each_keep h_self (fun x7_0 _ h_x7_0 => (Keeps.ite_keep (State.cqSolve_keep h_x7_0 rfl) (h_idle3 _ _ h_x7_0))))
  exact (Keeps.ite_keep (State.each_keep (State.each_keep h_self (fun x9_0 _ h_x9_0 => (h_idle3 _ _ h_x9_0))) (fun x8_0 _ h_x8_0 => (State.modGroup_keep h_x8_0 rfl))) (Keeps.ite_keep (State.modAlc_keep (State.each_keep h_self (fun x10_0 _ h_x10_0 => (h_idle3 _ _ h_x10_0))) rfl) (State.modAlc_keep h_s15 rfl)))

theorem State.putAlarm_keep {mk : Nat} {sb s : State} (hk : Keeps mk sb s) (hmk : 65537 ||| mk = mk) {g : Nat} {b : Bool} :
    Keeps mk sb (State.putAlarm s g b) := by
  refine Keeps.step hk ?_ hmk
  have h_self : Keeps 65537 s s := Keeps.refl
  unfold State.putAlarm
  extract_lets -merge -useContext -underBinder +onlyGivenNames s11
  have h_s11 : Keeps 65537 s s11 := (State.putBit_keep (State.putB_keep (State.modGroup_keep h_self rfl) rfl) rfl)
  exact (State.putB_keep h_s11 rfl)

theorem State.cqAlarm_keep {mk : Nat} {sb s : State} (hk : Keeps mk sb s) (hmk : 67617 ||| mk = mk) {g : Nat} :
    Keeps mk sb (State.cqAlarm s g) := by
  refine Keeps.step hk ?_ hmk
  have h_self : Keeps 67617 s s := Keeps.refl
  unfold State.cqAlarm
  exact (Keeps.ite_keep (State.raise_keep (State.putAlarm_keep h_self rfl) rfl) h_self)

theorem execConsequenceAlarm_keep (g : Fin 24) (s : State) : KeepsOut 16844833 s (execConsequenceAlarm g s) := by
  have h_self : Keeps 16844833 s s := Keeps.refl
  unfold execConsequenceAlarm
  exact (KeepsOut.next (State.lanes_keep h_self rfl (fun x1_0 h_x1_0 => (State.cqAlarm_keep h_x1_0 rfl))))

theorem State.cqDrop_keep {mk : Nat} {sb s : State} (hk : Keeps mk sb s) (hmk : 67617 ||| mk = mk) {g : Nat} :
    Keeps mk sb (State.cqDrop s g) := by
  refine Keeps.step hk ?_ hmk
  have h_self : Keeps 67617 s s := Keeps.refl
  unfold State.cqDrop
  extract_lets -merge -useContext -underBinder +onlyGivenNames s11
  have h_s11 : Keeps 67617 s s11 := (State.putAlarm_keep h_self rfl)
  exact (Keeps.ite_keep (Keeps.ite_keep h_s11 (State.raise_keep h_s11 rfl)) h_self)

theorem State.cqClear_keep {mk : Nat} {sb s : State} (hk : Keeps mk sb s) (hmk : 67617 ||| mk = mk) {g : Nat} :
    Keeps mk sb (State.cqClear s g) := by
  refine Keeps.step hk ?_ hmk
  have h_self : Keeps 67617 s s := Keeps.refl
  unfold State.cqClear
  exact (Keeps.ite_keep (State.cqDrop_keep h_self rfl) h_self)

theorem execConsequenceAlarmClear_keep (g : Fin 24) (s : State) : KeepsOut 16844833 s (execConsequenceAlarmClear g s) := by
  have h_self : Keeps 16844833 s s := Keeps.refl
  unfold execConsequenceAlarmClear
  exact (KeepsOut.next (State.lanes_keep h_self rfl (fun x1_0 h_x1_0 => (State.cqClear_keep h_x1_0 rfl))))

theorem State.groupApply_keep {mk : Nat} {sb s : State} (hk : Keeps mk sb s) (hmk : 67617 ||| mk = mk) {g v : Nat} :
    Keeps mk sb (State.groupApply s g v) := by
  refine Keeps.step hk ?_ hmk
  have h_self : Keeps 67617 s s := Keeps.refl
  unfold State.groupApply
  exact (State.cqDrop_keep (State.put_keep (State.modGroup_keep (State.setWord_keep h_self rfl) rfl) rfl) rfl)

theorem State.cqMajor_keep {mk : Nat} {sb s : State} (hk : Keeps mk sb s) (hmk : 67617 ||| mk = mk) :
    Keeps mk sb (State.cqMajor s) := by
  refine Keeps.step hk ?_ hmk
  have h_self : Keeps 67617 s s := Keeps.refl
  unfold State.cqMajor
  extract_lets -merge -useContext -underBinder +onlyGivenNames run1 m2 s13 s24 verd5 inf6 worst7
  have h_s13 : Keeps 67617 s s13 := (State.each_keep h_self (fun x8_0 _ h_x8_0 => (State.putB_keep h_x8_0 rfl)))
  have h_s24 : Keeps 67617 s s24 := (Keeps.ite_keep (State.each_keep (State.each_keep h_s13 (fun x10_0 _ h_x10_0 => (State.put_keep h_x10_0 rfl))) (fun x9_0 _ h_x9_0 => (State.cqDrop_keep h_x9_0 rfl))) (Keeps.ite_keep (State.each_keep (State.each_keep h_s13 (fun x12_0 _ h_x12_0 => (State.put_keep (State.modGroup_keep h_x12_0 rfl) rfl))) (fun x11_0 _ h_x11_0 => (State.cqDrop_keep h_x11_0 rfl))) (State.each_keep (State.each_keep h_s13 (fun x14_0 _ h_x14_0 => (State.cqAlarm_keep h_x14_0 rfl))) (fun x13_0 _ h_x13_0 => (State.cqClear_keep h_x13_0 rfl)))))
  exact (State.putI_keep (State.put_keep (State.put_keep h_s24 rfl) rfl) rfl)

theorem State.modEnergy_keep {mk : Nat} {sb s : State} (hk : Keeps mk sb s) (hmk : 65536 ||| mk = mk) {b : Nat} {f : Energy → Energy} :
    Keeps mk sb (State.modEnergy s b f) := by
  refine Keeps.step hk ?_ hmk
  have h_self : Keeps 65536 s s := Keeps.refl
  unfold State.modEnergy
  exact (State.modAlc_keep h_self rfl)

theorem State.putPair_keep {mk : Nat} {sb s : State} (hk : Keeps mk sb s) (hmk : 1 ||| mk = mk) {lo hi : Fld} {v : Nat} :
    Keeps mk sb (State.putPair s lo hi v) := by
  refine Keeps.step hk ?_ hmk
  have h_self : Keeps 1 s s := Keeps.refl
  unfold State.putPair
  exact (State.put_keep (State.put_keep h_self rfl) rfl)

theorem State.binDone_keep {mk : Nat} {sb s : State} (hk : Keeps mk sb s) (hmk : 65537 ||| mk = mk) {b : Nat} :
    Keeps mk sb (State.binDone s b) := by
  refine Keeps.step hk ?_ hmk
  have h_self : Keeps 65537 s s := Keeps.refl
  unfold State.binDone
  extract_lets -merge -useContext -underBinder +onlyGivenNames e1 bins2
  exact (Keeps.ite_keep h_self (State.putB_keep (State.put_keep (State.modEnergy_keep h_self rfl) rfl) rfl))

theorem execEnergyBinComplete_keep (b : Fin 4) (s : State) : KeepsOut 16842753 s (execEnergyBinComplete b s) := by
  have h_self : Keeps 16842753 s s := Keeps.refl
  unfold execEnergyBinComplete
  exact (KeepsOut.next (State.lanes_keep h_self rfl (fun x1_0 h_x1_0 => (State.binDone_keep h_x1_0 rfl))))

theorem State.energyBus_keep {mk : Nat} {sb s : State} (hk : Keeps mk sb s) (hmk : 65537 ||| mk = mk) {b : Nat} :
    Keeps mk sb (State.energyBus s b) := by
  refine Keeps.step hk ?_ hmk
  have h_self : Keeps 65537 s s := Keeps.refl
  unfold State.energyBus
  extract_lets -merge -useContext -underBinder +onlyGivenNames e1 set2 p3 s04 q5 m6 s17 sk8 n9 s210
  have h_s04 : Keeps 65537 s s04 := (Keeps.ite_keep (State.inc_keep h_self rfl) h_self)
  have h_s17 : Keeps 65537 s s17 := (State.putPair_keep (State.modEnergy_keep h_s04 rfl) rfl)
  have h_s210 : Keeps 65537 s s210 := (State.modEnergy_keep (State.put_keep (State.putPair_keep h_s17 rfl) rfl) rfl)
  exact (Keeps.ite_keep (State.binDone_keep (State.put_keep h_s210 rfl) rfl) h_s17)

theorem State.energyClear_keep {mk : Nat} {sb s : State} (hk : Keeps mk sb s) (hmk : 65537 ||| mk = mk) {mask : Nat} :
    Keeps mk sb (State.energyClear s mask) := by
  refine Keeps.step hk ?_ hmk
  have h_self : Keeps 65537 s s := Keeps.refl
  unfold State.energyClear
  exact (State.each_keep h_self (fun x1_0 _ h_x1_0 => by
    extract_lets -merge -useContext -underBinder +onlyGivenNames s12 s23
    have h_s12 : Keeps 65537 s s12 := (State.modEnergy_keep h_x1_0 rfl)
    have h_s23 : Keeps 65537 s s23 := (State.putPair_keep (State.putPair_keep h_s12 rfl) rfl)
    exact (State.put_keep (State.put_keep (State.put_keep (State.put_keep h_s23 rfl) rfl) rfl) rfl)))

theorem execEnergyClear_keep (mask : BitVec 4) (s : State) : KeepsOut 16842753 s (execEnergyClear mask s) := by
  have h_self : Keeps 16842753 s s := Keeps.refl
  unfold execEnergyClear
  exact (KeepsOut.next (State.lanes_keep h_self rfl (fun x1_0 h_x1_0 => (State.energyClear_keep h_x1_0 rfl))))

theorem State.alcWork_keep {mk : Nat} {sb s : State} (hk : Keeps mk sb s) (hmk : 536971297 ||| mk = mk) :
    Keeps mk sb (State.alcWork s) := by
  refine Keeps.step hk ?_ hmk
  have h_self : Keeps 536971297 s s := Keeps.refl
  unfold State.alcWork
  extract_lets -merge -useContext -underBinder +onlyGivenNames s11
  have h_s11 : Keeps 536971297 s s11 := (State.dpStep_keep (State.latchAll_keep h_self rfl) rfl)
  exact (Keeps.ite_keep (State.cqAll_keep (State.mainSolve_keep h_s11 rfl) rfl) (State.cqAll_keep h_s11 rfl))

theorem State.alcOver_keep {mk : Nat} {sb s : State} (hk : Keeps mk sb s) (hmk : 98304 ||| mk = mk) :
    Keeps mk sb (State.alcOver s) := by
  refine Keeps.step hk ?_ hmk
  have h_self : Keeps 98304 s s := Keeps.refl
  unfold State.alcOver
  exact (State.modMd_keep (State.modAlc_keep h_self rfl) rfl)

theorem State.alcMajor_keep {mk : Nat} {sb s : State} (hk : Keeps mk sb s) (hmk : 100385 ||| mk = mk) :
    Keeps mk sb (State.alcMajor s) := by
  refine Keeps.step hk ?_ hmk
  have h_self : Keeps 100385 s s := Keeps.refl
  unfold State.alcMajor
  extract_lets -merge -useContext -underBinder +onlyGivenNames run1 s02 was3 s14 s25 s36
  have h_s02 : Keeps 100385 s s02 := (Keeps.ite_keep (State.each_keep h_self (fun x7_0 _ h_x7_0 => (State.energyBus_keep h_x7_0 rfl))) h_self)
  have h_s14 : Keeps 100385 s s14 := (State.modeMajor_keep (State.each_keep h_s02 (fun x8_0 _ h_x8_0 => (State.setWord_keep h_x8_0 rfl))) rfl)
  have h_s25 : Keeps 100385 s s25 := (State.each_keep h_s14 (fun x9_0 _ h_x9_0 => (Keeps.ite_keep (State.raise_keep h_x9_0 rfl) h_x9_0)))
  have h_s36 : Keeps 100385 s s36 := (Keeps.ite_keep (State.each_keep h_s25 (fun x10_0 _ h_x10_0 => (State.put_keep h_x10_0 rfl))) (State.cqMajor_keep h_s25 rfl))
  exact (State.modAlc_keep (State.each_keep h_s36 (fun x11_0 _ h_x11_0 => (State.fsServe_keep h_x11_0 rfl))) rfl)

theorem State.alcTau_keep {mk : Nat} {sb s : State} (hk : Keeps mk sb s) (hmk : 1024 ||| mk = mk) :
    Keeps mk sb (State.alcTau s) := by
  refine Keeps.step hk ?_ hmk
  have h_self : Keeps 1024 s s := Keeps.refl
  unfold State.alcTau
  extract_lets -merge -useContext -underBinder +onlyGivenNames tau1
  exact (State.modEst_keep h_self rfl)

theorem State.alcCtrlApply_keep {mk : Nat} {sb s : State} (hk : Keeps mk sb s) (hmk : 65537 ||| mk = mk) {v : Nat} :
    Keeps mk sb (State.alcCtrlApply s v) := by
  refine Keeps.step hk ?_ hmk
  have h_self : Keeps 65537 s s := Keeps.refl
  unfold State.alcCtrlApply
  extract_lets -merge -useContext -underBinder +onlyGivenNames s11 s22
  have h_s11 : Keeps 65537 s s11 := (State.setWord_keep h_self rfl)
  have h_s22 : Keeps 65537 s s22 := (State.each_keep (State.each_keep h_s11 (fun x4_0 _ h_x4_0 => (State.zeroResult_keep h_x4_0 rfl))) (fun x3_0 _ h_x3_0 => (State.put_keep h_x3_0 rfl)))
  exact (Keeps.ite_keep (State.modAlc_keep (State.each_keep h_s22 (fun x5_0 _ h_x5_0 => (State.put_keep h_x5_0 rfl))) rfl) h_s11)

end Sys2Proof.Machine
end

