-- ==== Sys2Proof/Laws/KeepPrf.lean ====
section
/-! SUPPORT. What the functions of Machine/Prf.lean leave alone (see Laws/Keeps.lean). -/

namespace Sys2Proof.Machine

open Sys2Proof

theorem State.modPrf_keep {mk : Nat} {sb s : State} (hk : Keeps mk sb s) (hmk : 131072 ||| mk = mk) {f : PrfState → PrfState} :
    Keeps mk sb (State.modPrf s f) := by
  refine Keeps.step hk ?_ hmk
  have h_self : Keeps 131072 s s := Keeps.refl
  unfold State.modPrf
  exact (Keeps.prf_keep h_self rfl)

theorem State.modAxis_keep {mk : Nat} {sb s : State} (hk : Keeps mk sb s) (hmk : 131072 ||| mk = mk) {n : Nat} {f : Axis → Axis} :
    Keeps mk sb (State.modAxis s n f) := by
  refine Keeps.step hk ?_ hmk
  have h_self : Keeps 131072 s s := Keeps.refl
  unfold State.modAxis
  exact (State.modPrf_keep h_self rfl)

theorem State.axisTo_keep {mk : Nat} {sb s : State} (hk : Keeps mk sb s) (hmk : 131073 ||| mk = mk) {n st : Nat} :
    Keeps mk sb (State.axisTo s n st) := by
  refine Keeps.step hk ?_ hmk
  have h_self : Keeps 131073 s s := Keeps.refl
  unfold State.axisTo
  exact (State.put_keep (State.modAxis_keep h_self rfl) rfl)

theorem State.axisPub_keep {mk : Nat} {sb s : State} (hk : Keeps mk sb s) (hmk : 1 ||| mk = mk) {n : Nat} :
    Keeps mk sb (State.axisPub s n) := by
  refine Keeps.step hk ?_ hmk
  have h_self : Keeps 1 s s := Keeps.refl
  unfold State.axisPub
  extract_lets -merge -useContext -underBinder +onlyGivenNames x1
  exact (State.putSat_keep (State.putSat_keep (State.put_keep h_self rfl) rfl) rfl)

theorem State.vClamp_keep {mk : Nat} {sb s : State} (hk : Keeps mk sb s) (hmk : 1 ||| mk = mk) {n : Nat} :
    Keeps mk sb (State.vClamp s n) := by
  refine Keeps.step hk ?_ hmk
  have h_self : Keeps 1 s s := Keeps.refl
  unfold State.vClamp
  exact (Keeps.ite_keep (State.put_keep h_self rfl) h_self)

theorem State.axisPlan_keep {mk : Nat} {sb s : State} (hk : Keeps mk sb s) (hmk : 131073 ||| mk = mk) {n : Nat} {t : Fl} {vmax : Fl} :
    Keeps mk sb (State.axisPlan s n t vmax) := by
  refine Keeps.step hk ?_ hmk
  have h_self : Keeps 131073 s s := Keeps.refl
  unfold State.axisPlan
  extract_lets -merge -useContext -underBinder +onlyGivenNames x1 l2 p3 s14 s25
  have h_s14 : Keeps 131073 s s14 := (State.modAxis_keep h_self rfl)
  have h_s25 : Keeps 131073 s s25 := (State.vClamp_keep h_s14 rfl)
  exact (Keeps.ite_keep (State.put_keep h_s25 rfl) h_s25)

theorem State.axisStopPlan_keep {mk : Nat} {sb s : State} (hk : Keeps mk sb s) (hmk : 131072 ||| mk = mk) {n : Nat} {em : Bool} :
    Keeps mk sb (State.axisStopPlan s n em) := by
  refine Keeps.step hk ?_ hmk
  have h_self : Keeps 131072 s s := Keeps.refl
  unfold State.axisStopPlan
  extract_lets -merge -useContext -underBinder +onlyGivenNames l1
  exact (State.modAxis_keep h_self rfl)

theorem State.axisRefuse_keep {mk : Nat} {sb s : State} (hk : Keeps mk sb s) (hmk : 1 ||| mk = mk) {n : Nat} :
    Keeps mk sb (State.axisRefuse s n) := by
  refine Keeps.step hk ?_ hmk
  have h_self : Keeps 1 s s := Keeps.refl
  unfold State.axisRefuse
  exact (State.put_keep h_self rfl)

theorem State.axisAbort_keep {mk : Nat} {sb s : State} (hk : Keeps mk sb s) (hmk : 133153 ||| mk = mk) {n cause : Nat} {fault : Bool} :
    Keeps mk sb (State.axisAbort s n cause fault) := by
  refine Keeps.step hk ?_ hmk
  have h_self : Keeps 133153 s s := Keeps.refl
  unfold State.axisAbort
  extract_lets -merge -useContext -underBinder +onlyGivenNames x1 s12 mark3 s24
  have h_s12 : Keeps 133153 s s12 := (Keeps.ite_keep (State.put_keep h_self rfl) h_self)
  have h_mark3 : ∀ z0, Keeps 133153 s z0 → Keeps 133153 s (mark3 z0) := (fun x5_0 h_x5_0 => (State.modAxis_keep h_x5_0 rfl))
  have h_s24 : Keeps 133153 s s24 := (Keeps.ite_keep (State.put_keep (State.put_keep h_s12 rfl) rfl) h_s12)
  exact (Keeps.ite_keep (State.raise_keep (State.axisTo_keep (h_mark3 _ (State.axisStopPlan_keep (State.modAxis_keep h_s24 rfl) rfl)) rfl) rfl) (Keeps.ite_keep (h_mark3 _ h_s12) h_self))

theorem State.homeFault_keep {mk : Nat} {sb s : State} (hk : Keeps mk sb s) (hmk : 133153 ||| mk = mk) {n cause : Nat} :
    Keeps mk sb (State.homeFault s n cause) := by
  refine Keeps.step hk ?_ hmk
  have h_self : Keeps 133153 s s := Keeps.refl
  unfold State.homeFault
  exact (State.axisAbort_keep (State.raise_keep (State.put_keep h_self rfl) rfl) rfl)

theorem State.moveStart_keep {mk : Nat} {sb s : State} (hk : Keeps mk sb s) (hmk : 131073 ||| mk = mk) {n : Nat} {t : Int} :
    Keeps mk sb (State.moveStart s n t) := by
  refine Keeps.step hk ?_ hmk
  have h_self : Keeps 131073 s s := Keeps.refl
  unfold State.moveStart
  exact (State.axisTo_keep (State.axisPlan_keep (State.modAxis_keep h_self rfl) rfl) rfl)

theorem State.axisMove_keep {mk : Nat} {sb s0 : State} (hk : Keeps mk sb s0) (hmk : 133153 ||| mk = mk) {n : Nat} :
    Keeps mk sb (State.axisMove s0 n) := by
  refine Keeps.step hk ?_ hmk
  have h_self : Keeps 133153 s0 s0 := Keeps.refl
  unfold State.axisMove
  extract_lets -merge -useContext -underBinder +onlyGivenNames t1 s2 x3 s14
  have h_s2 : Keeps 133153 s0 s2 := (State.put_keep h_self rfl)
  have h_s14 : Keeps 133153 s0 s14 := (Keeps.ite_keep (State.raise_keep (State.put_keep h_s2 rfl) rfl) h_s2)
  exact (Keeps.ite_keep (State.axisRefuse_keep h_self rfl) (Keeps.ite_keep (State.moveStart_keep h_s2 rfl) (State.putI_keep (State.put_keep (State.modAxis_keep h_s14 rfl) rfl) rfl)))

theorem State.axisStop_keep {mk : Nat} {sb s : State} (hk : Keeps mk sb s) (hmk : 131073 ||| mk = mk) {n : Nat} :
    Keeps mk sb (State.axisStop s n) := by
  refine Keeps.step hk ?_ hmk
  have h_self : Keeps 131073 s s := Keeps.refl
  unfold State.axisStop
  extract_lets -merge -useContext -underBinder +onlyGivenNames x1
  exact (Keeps.ite_keep (State.axisTo_keep (State.axisStopPlan_keep (State.modAxis_keep h_self rfl) rfl) rfl) h_self)

theorem State.homePhase_keep {mk : Nat} {sb s : State} (hk : Keeps mk sb s) (hmk : 131073 ||| mk = mk) {n ph : Nat} :
    Keeps mk sb (State.homePhase s n ph) := by
  refine Keeps.step hk ?_ hmk
  have h_self : Keeps 131073 s s := Keeps.refl
  unfold State.homePhase
  extract_lets -merge -useContext -underBinder +onlyGivenNames up1 d2 t3 v4 s15 x6 l7
  have h_s15 : Keeps 131073 s s15 := (State.put_keep (State.modAxis_keep h_self rfl) rfl)
  exact (Keeps.ite_keep (State.axisPlan_keep h_s15 rfl) (State.modAxis_keep h_s15 rfl))

theorem State.axisHome_keep {mk : Nat} {sb s : State} (hk : Keeps mk sb s) (hmk : 131073 ||| mk = mk) {n : Nat} :
    Keeps mk sb (State.axisHome s n) := by
  refine Keeps.step hk ?_ hmk
  have h_self : Keeps 131073 s s := Keeps.refl
  unfold State.axisHome
  extract_lets -merge -useContext -underBinder +onlyGivenNames x1 ok2
  exact (Keeps.ite_keep (State.axisTo_keep (State.homePhase_keep (State.put_keep h_self rfl) rfl) rfl) (State.axisRefuse_keep h_self rfl))

theorem State.axisResume_keep {mk : Nat} {sb s : State} (hk : Keeps mk sb s) (hmk : 131073 ||| mk = mk) {n : Nat} :
    Keeps mk sb (State.axisResume s n) := by
  refine Keeps.step hk ?_ hmk
  have h_self : Keeps 131073 s s := Keeps.refl
  unfold State.axisResume
  exact (Keeps.ite_keep (State.axisTo_keep (State.modAxis_keep h_self rfl) rfl) h_self)

theorem State.axisClrflt_keep {mk : Nat} {sb s0 : State} (hk : Keeps mk sb s0) (hmk : 131073 ||| mk = mk) {n : Nat} :
    Keeps mk sb (State.axisClrflt s0 n) := by
  refine Keeps.step hk ?_ hmk
  have h_self : Keeps 131073 s0 s0 := Keeps.refl
  unfold State.axisClrflt
  extract_lets -merge -useContext -underBinder +onlyGivenNames s1
  have h_s1 : Keeps 131073 s0 s1 := (State.put_keep h_self rfl)
  exact (Keeps.ite_keep (State.axisTo_keep (State.modAxis_keep (State.put_keep h_s1 rfl) rfl) rfl) h_s1)

theorem State.prfCmd_keep {mk : Nat} {sb s : State} (hk : Keeps mk sb s) (hmk : 133153 ||| mk = mk) {n v : Nat} :
    Keeps mk sb (State.prfCmd s n v) := by
  refine Keeps.step hk ?_ hmk
  have h_self : Keeps 133153 s s := Keeps.refl
  unfold State.prfCmd
  extract_lets -merge -useContext -underBinder +onlyGivenNames mv1 st2 ab3 s14
  have h_s14 : Keeps 133153 s s14 := (Keeps.ite_keep (State.when_keep (State.axisAbort_keep h_self rfl) (fun x5_0 h_x5_0 => (State.axisRefuse_keep h_x5_0 rfl))) (Keeps.ite_keep (Keeps.ite_keep (State.axisMove_keep h_self rfl) (State.when_keep (State.axisStop_keep h_self rfl) (fun x6_0 h_x6_0 => (State.axisMove_keep h_x6_0 rfl)))) (State.when_keep h_self (fun x7_0 h_x7_0 => (State.axisMove_keep h_x7_0 rfl)))))
  exact (State.when_keep (State.when_keep (State.when_keep h_s14 (fun x10_0 h_x10_0 => (State.axisHome_keep h_x10_0 rfl))) (fun x9_0 h_x9_0 => (State.axisResume_keep h_x9_0 rfl))) (fun x8_0 h_x8_0 => (State.axisClrflt_keep h_x8_0 rfl)))

theorem execPrfMove_keep (n : Fin 32) (s : State) : KeepsOut 16910369 s (execPrfMove n s) := by
  have h_self : Keeps 16910369 s s := Keeps.refl
  unfold execPrfMove
  exact (KeepsOut.next (State.lanes_keep h_self rfl (fun x1_0 h_x1_0 => (State.prfCmd_keep h_x1_0 rfl))))

theorem execPrfStop_keep (n : Fin 32) (s : State) : KeepsOut 16910369 s (execPrfStop n s) := by
  have h_self : Keeps 16910369 s s := Keeps.refl
  unfold execPrfStop
  exact (KeepsOut.next (State.lanes_keep h_self rfl (fun x1_0 h_x1_0 => (State.prfCmd_keep h_x1_0 rfl))))

theorem execPrfAbort_keep (n : Fin 32) (s : State) : KeepsOut 16910369 s (execPrfAbort n s) := by
  have h_self : Keeps 16910369 s s := Keeps.refl
  unfold execPrfAbort
  exact (KeepsOut.next (State.lanes_keep h_self rfl (fun x1_0 h_x1_0 => (State.prfCmd_keep h_x1_0 rfl))))

theorem execPrfHome_keep (n : Fin 32) (s : State) : KeepsOut 16910369 s (execPrfHome n s) := by
  have h_self : Keeps 16910369 s s := Keeps.refl
  unfold execPrfHome
  exact (KeepsOut.next (State.lanes_keep h_self rfl (fun x1_0 h_x1_0 => (State.prfCmd_keep h_x1_0 rfl))))

theorem execPrfResume_keep (n : Fin 32) (s : State) : KeepsOut 16910369 s (execPrfResume n s) := by
  have h_self : Keeps 16910369 s s := Keeps.refl
  unfold execPrfResume
  exact (KeepsOut.next (State.lanes_keep h_self rfl (fun x1_0 h_x1_0 => (State.prfCmd_keep h_x1_0 rfl))))

theorem execPrfClrflt_keep (n : Fin 32) (s : State) : KeepsOut 16910369 s (execPrfClrflt n s) := by
  have h_self : Keeps 16910369 s s := Keeps.refl
  unfold execPrfClrflt
  exact (KeepsOut.next (State.lanes_keep h_self rfl (fun x1_0 h_x1_0 => (State.prfCmd_keep h_x1_0 rfl))))

theorem State.prfAbortAll_keep {mk : Nat} {sb s : State} (hk : Keeps mk sb s) (hmk : 133153 ||| mk = mk) {mask : Nat} :
    Keeps mk sb (State.prfAbortAll s mask) := by
  refine Keeps.step hk ?_ hmk
  have h_self : Keeps 133153 s s := Keeps.refl
  unfold State.prfAbortAll
  exact (State.each_keep h_self (fun x1_0 _ h_x1_0 => (State.axisAbort_keep h_x1_0 rfl)))

theorem execPrfAbortall_keep (mask : Word) (s : State) : KeepsOut 16910369 s (execPrfAbortall mask s) := by
  have h_self : Keeps 16910369 s s := Keeps.refl
  unfold execPrfAbortall
  exact (KeepsOut.next (State.lanes_keep h_self rfl (fun x1_0 h_x1_0 => (State.prfAbortAll_keep h_x1_0 rfl))))

theorem State.srcErr_keep {mk : Nat} {sb s : State} (hk : Keeps mk sb s) (hmk : 2081 ||| mk = mk) {n : Nat} :
    Keeps mk sb (State.srcErr s n) := by
  refine Keeps.step hk ?_ hmk
  have h_self : Keeps 2081 s s := Keeps.refl
  unfold State.srcErr
  exact (Keeps.ite_keep h_self (State.raise_keep (State.put_keep (State.put_keep h_self rfl) rfl) rfl))

theorem State.axisOn_keep {mk : Nat} {sb s : State} (hk : Keeps mk sb s) (hmk : 133153 ||| mk = mk) {n : Nat} :
    Keeps mk sb (State.axisOn s n) := by
  refine Keeps.step hk ?_ hmk
  have h_self : Keeps 133153 s s := Keeps.refl
  unfold State.axisOn
  extract_lets -merge -useContext -underBinder +onlyGivenNames p1 z2
  exact (Keeps.ite_keep (State.srcErr_keep (State.put_keep h_self rfl) rfl) (State.axisTo_keep (State.modAxis_keep (State.put_keep h_self rfl) rfl) rfl))

theorem State.prfCfgApply_keep {mk : Nat} {sb s : State} (hk : Keeps mk sb s) (hmk : 133153 ||| mk = mk) {n v : Nat} :
    Keeps mk sb (State.prfCfgApply s n v) := by
  refine Keeps.step hk ?_ hmk
  have h_self : Keeps 133153 s s := Keeps.refl
  unfold State.prfCfgApply
  extract_lets -merge -useContext -underBinder +onlyGivenNames old1 fixed2 x3 s14 was5 now6 s27
  have h_s14 : Keeps 133153 s s14 := (State.setWord_keep h_self rfl)
  have h_s27 : Keeps 133153 s s27 := (Keeps.ite_keep h_s14 (State.modAxis_keep h_s14 rfl))
  exact (Keeps.ite_keep (State.axisRefuse_keep h_self rfl) (Keeps.ite_keep (State.axisOn_keep h_s14 rfl) (Keeps.ite_keep (Keeps.ite_keep (State.axisTo_keep (State.modAxis_keep h_s14 rfl) rfl) (State.axisAbort_keep (State.modAxis_keep h_s14 rfl) rfl)) (Keeps.ite_keep (Keeps.ite_keep (State.axisRefuse_keep (State.srcErr_keep h_self rfl) rfl) (Keeps.ite_keep (State.axisTo_keep (State.modAxis_keep h_s27 rfl) rfl) (Keeps.ite_keep (State.axisTo_keep h_s27 rfl) h_s27))) h_s14))))

theorem State.axisReplan_keep {mk : Nat} {sb s : State} (hk : Keeps mk sb s) (hmk : 131073 ||| mk = mk) {n : Nat} :
    Keeps mk sb (State.axisReplan s n) := by
  refine Keeps.step hk ?_ hmk
  have h_self : Keeps 131073 s s := Keeps.refl
  unfold State.axisReplan
  extract_lets -merge -useContext -underBinder +onlyGivenNames x1
  exact (Keeps.ite_keep h_self (by
  split
  · exact (State.axisPlan_keep h_self rfl)
  · exact (State.axisStopPlan_keep h_self rfl)
  · exact (State.axisStopPlan_keep h_self rfl)
  · exact (Keeps.ite_keep (State.axisStopPlan_keep h_self rfl) (by
    split
    · extract_lets -merge -useContext -underBinder +onlyGivenNames v7 l8 g9
      exact (State.modAxis_keep h_self rfl)
    · exact h_self))
  · exact h_self))

theorem State.putLevel_keep {mk : Nat} {sb s : State} (hk : Keeps mk sb s) (hmk : 1 ||| mk = mk) {lo hi : Fld} {i : Nat} {b : Bool} :
    Keeps mk sb (State.putLevel s lo hi i b) := by
  refine Keeps.step hk ?_ hmk
  have h_self : Keeps 1 s s := Keeps.refl
  unfold State.putLevel
  exact (Keeps.ite_keep (State.putBit_keep h_self rfl) (State.putBit_keep h_self rfl))

theorem State.roleLevel_keep {mk : Nat} {sb s : State} (hk : Keeps mk sb s) (hmk : 131073 ||| mk = mk) {n r i : Nat} {level : Bool} {samples : Nat} :
    Keeps mk sb (State.roleLevel s n r i level samples) := by
  refine Keeps.step hk ?_ hmk
  have h_self : Keeps 131073 s s := Keeps.refl
  unfold State.roleLevel
  extract_lets -merge -useContext -underBinder +onlyGivenNames q1 x2 t3 p4 pol5 ang6 s17 s28
  have h_s17 : Keeps 131073 s s17 := (State.modAxis_keep h_self rfl)
  have h_s28 : Keeps 131073 s s28 := (State.put_keep (State.put_keep h_s17 rfl) rfl)
  exact (Keeps.ite_keep h_self (State.putLevel_keep (State.put_keep (State.put_keep h_s28 rfl) rfl) rfl))

theorem State.prfTick_keep {mk : Nat} {sb s : State} (hk : Keeps mk sb s) (hmk : 131073 ||| mk = mk) :
    Keeps mk sb (State.prfTick s) := by
  refine Keeps.step hk ?_ hmk
  have h_self : Keeps 131073 s s := Keeps.refl
  unfold State.prfTick
  exact (State.each_keep h_self (fun x1_0 _ h_x1_0 => by
    extract_lets -merge -useContext -underBinder +onlyGivenNames s12
    have h_s12 : Keeps 131073 s s12 := (State.modAxis_keep h_x1_0 rfl)
    exact (State.putB_keep (State.putB_keep (State.putB_keep h_s12 rfl) rfl) rfl)))

theorem State.axinLevel_keep {mk : Nat} {sb s : State} (hk : Keeps mk sb s) (hmk : 131073 ||| mk = mk) {i : Nat} {level : Bool} {samples : Nat} :
    Keeps mk sb (State.axinLevel s i level samples) := by
  refine Keeps.step hk ?_ hmk
  have h_self : Keeps 131073 s s := Keeps.refl
  unfold State.axinLevel
  extract_lets -merge -useContext -underBinder +onlyGivenNames s11 s22
  have h_s11 : Keeps 131073 s s11 := (State.putLevel_keep h_self rfl)
  have h_s22 : Keeps 131073 s s22 := (State.each_keep h_s11 (fun x3_0 _ h_x3_0 => (State.each_keep h_x3_0 (fun x4_0 _ h_x4_0 => (State.roleLevel_keep h_x4_0 rfl)))))
  exact (State.when_keep h_s22 (fun x5_0 h_x5_0 => (State.prfTick_keep h_x5_0 rfl)))

theorem execAxinDebouncedChange_keep (i : Fin 48) (level : Bool) (samples : Nat) (s : State) : KeepsOut 16908289 s (execAxinDebouncedChange i level samples s) := by
  have h_self : Keeps 16908289 s s := Keeps.refl
  unfold execAxinDebouncedChange
  exact (KeepsOut.next (State.lanes_keep h_self rfl (fun x1_0 h_x1_0 => (State.axinLevel_keep h_x1_0 rfl))))

theorem State.axinChatter_keep {mk : Nat} {sb s : State} (hk : Keeps mk sb s) (hmk : 133153 ||| mk = mk) {i changes : Nat} :
    Keeps mk sb (State.axinChatter s i changes) := by
  refine Keeps.step hk ?_ hmk
  have h_self : Keeps 133153 s s := Keeps.refl
  unfold State.axinChatter
  exact (State.each_keep h_self (fun x1_0 _ h_x1_0 => (State.each_keep h_x1_0 (fun x2_0 _ h_x2_0 => by
      extract_lets -merge -useContext -underBinder +onlyGivenNames c3 s14 lim5
      have h_s14 : Keeps 133153 s s14 := (State.put_keep h_x2_0 rfl)
      exact (Keeps.ite_keep h_x2_0 (Keeps.ite_keep (State.raiseMajor_keep (State.put_keep (State.modAxis_keep h_s14 rfl) rfl) rfl) h_s14))))))

theorem execInputChatter_keep (i : Fin 48) (changes : Nat) (s : State) : KeepsOut 16910369 s (execInputChatter i changes s) := by
  have h_self : Keeps 16910369 s s := Keeps.refl
  unfold execInputChatter
  exact (KeepsOut.next (State.lanes_keep h_self rfl (fun x1_0 h_x1_0 => (State.axinChatter_keep h_x1_0 rfl))))

theorem State.followSample_keep {mk : Nat} {sb s : State} (hk : Keeps mk sb s) (hmk : 133153 ||| mk = mk) {n : Nat} :
    Keeps mk sb (State.followSample s n) := by
  refine Keeps.step hk ?_ hmk
  have h_self : Keeps 133153 s s := Keeps.refl
  unfold State.followSample
  extract_lets -merge -useContext -underBinder +onlyGivenNames ang1 clip2 s13 x4 q5
  have h_s13 : Keeps 133153 s s13 := (by
  unfold s13
  split
  · exact (State.put_keep (State.put_keep h_self rfl) rfl)
  · extract_lets -merge -useContext -underBinder +onlyGivenNames s28
    have h_s28 : Keeps 133153 s s28 := (State.putB_keep (State.put_keep h_self rfl) rfl)
    exact (Keeps.ite_keep (State.modAxis_keep h_s28 rfl) h_s28)
  · exact (State.srcErr_keep h_self rfl))
  exact (State.modAxis_keep (State.vClamp_keep h_s13 rfl) rfl)

theorem State.axisRest_keep {mk : Nat} {sb s : State} (hk : Keeps mk sb s) (hmk : 131073 ||| mk = mk) {n : Nat} :
    Keeps mk sb (State.axisRest s n) := by
  refine Keeps.step hk ?_ hmk
  have h_self : Keeps 131073 s s := Keeps.refl
  unfold State.axisRest
  extract_lets -merge -useContext -underBinder +onlyGivenNames x1
  exact (Keeps.ite_keep (State.axisTo_keep (State.modAxis_keep h_self rfl) rfl) (Keeps.ite_keep (State.axisTo_keep h_self rfl) (by
  split
  · exact h_self
  · exact (State.axisTo_keep h_self rfl))))

theorem State.homeSet_keep {mk : Nat} {sb s : State} (hk : Keeps mk sb s) (hmk : 131073 ||| mk = mk) {n : Nat} :
    Keeps mk sb (State.homeSet s n) := by
  refine Keeps.step hk ?_ hmk
  have h_self : Keeps 131073 s s := Keeps.refl
  unfold State.homeSet
  extract_lets -merge -useContext -underBinder +onlyGivenNames x1 sh2 mv3 s14
  have h_s14 : Keeps 131073 s s14 := (State.modAxis_keep (State.put_keep h_self rfl) rfl)
  exact (State.putI_keep h_s14 rfl)

theorem State.planEnd_keep {mk : Nat} {sb s0 : State} (hk : Keeps mk sb s0) (hmk : 133153 ||| mk = mk) {n : Nat} :
    Keeps mk sb (State.planEnd s0 n) := by
  refine Keeps.step hk ?_ hmk
  have h_self : Keeps 133153 s0 s0 := Keeps.refl
  unfold State.planEnd
  extract_lets -merge -useContext -underBinder +onlyGivenNames s1 x2
  have h_s1 : Keeps 133153 s0 s1 := (State.modAxis_keep h_self rfl)
  exact (by
  split
  · exact (State.axisRest_keep (State.raiseMajor_keep h_s1 rfl) rfl)
  · exact (State.axisRest_keep h_s1 rfl)
  · exact (State.axisRest_keep h_s1 rfl)
  · exact (by
    split
    · exact (Keeps.ite_keep (State.homePhase_keep h_s1 rfl) (State.homeFault_keep h_s1 rfl))
    · exact (Keeps.ite_keep (State.homePhase_keep (State.homeSet_keep h_s1 rfl) rfl) (State.homeFault_keep h_s1 rfl))
    · exact (State.raise_keep (State.axisTo_keep (State.put_keep (State.put_keep h_s1 rfl) rfl) rfl) rfl))
  · exact h_s1)

theorem State.moveComplete_keep {mk : Nat} {sb s : State} (hk : Keeps mk sb s) (hmk : 133153 ||| mk = mk) {n : Nat} :
    Keeps mk sb (State.moveComplete s n) := by
  refine Keeps.step hk ?_ hmk
  have h_self : Keeps 133153 s s := Keeps.refl
  unfold State.moveComplete
  extract_lets -merge -useContext -underBinder +onlyGivenNames x1
  exact (by
  split
  · exact h_self
  · extract_lets -merge -useContext -underBinder +onlyGivenNames e4 g05 g6
    exact (Keeps.ite_keep (State.axisPub_keep (State.planEnd_keep (State.modAxis_keep h_self rfl) rfl) rfl) h_self))

theorem execMoveComplete_keep (n : Fin 32) (s : State) : KeepsOut 16910369 s (execMoveComplete n s) := by
  have h_self : Keeps 16910369 s s := Keeps.refl
  unfold execMoveComplete
  exact (KeepsOut.next (State.lanes_keep h_self rfl (fun x1_0 h_x1_0 => (State.moveComplete_keep h_x1_0 rfl))))

theorem State.planSample_keep {mk : Nat} {sb s : State} (hk : Keeps mk sb s) (hmk : 133153 ||| mk = mk) {n : Nat} :
    Keeps mk sb (State.planSample s n) := by
  refine Keeps.step hk ?_ hmk
  have h_self : Keeps 133153 s s := Keeps.refl
  unfold State.planSample
  extract_lets -merge -useContext -underBinder +onlyGivenNames x1
  exact (by
  split
  · exact h_self
  · extract_lets -merge -useContext -underBinder +onlyGivenNames k4 e5 pos6
    exact (State.moveComplete_keep (State.modAxis_keep h_self rfl) rfl))

theorem State.axisGuard_keep {mk : Nat} {sb s : State} (hk : Keeps mk sb s) (hmk : 133153 ||| mk = mk) {n : Nat} :
    Keeps mk sb (State.axisGuard s n) := by
  refine Keeps.step hk ?_ hmk
  have h_self : Keeps 133153 s s := Keeps.refl
  unfold State.axisGuard
  extract_lets -merge -useContext -underBinder +onlyGivenNames x1 dir2 wrong3 ahead4 ph5
  exact (Keeps.ite_keep (Keeps.ite_keep (State.homeFault_keep h_self rfl) (Keeps.ite_keep (State.homeFault_keep h_self rfl) (Keeps.ite_keep (State.homeFault_keep h_self rfl) (Keeps.ite_keep (State.axisAbort_keep (State.raise_keep h_self rfl) rfl) (Keeps.ite_keep h_self (Keeps.ite_keep (State.axisStopPlan_keep (State.modAxis_keep h_self rfl) rfl) h_self)))))) (Keeps.ite_keep (State.when_keep h_self (fun x6_0 h_x6_0 => (State.axisAbort_keep h_x6_0 rfl))) (Keeps.ite_keep (Keeps.ite_keep (State.axisAbort_keep h_self rfl) (Keeps.ite_keep (State.axisAbort_keep (State.raise_keep h_self rfl) rfl) h_self)) h_self)))

theorem State.axisStart_keep {mk : Nat} {sb s : State} (hk : Keeps mk sb s) (hmk : 131073 ||| mk = mk) {n : Nat} :
    Keeps mk sb (State.axisStart s n) := by
  refine Keeps.step hk ?_ hmk
  have h_self : Keeps 131073 s s := Keeps.refl
  unfold State.axisStart
  extract_lets -merge -useContext -underBinder +onlyGivenNames x1
  exact (Keeps.ite_keep h_self (by
  split
  · exact (State.moveStart_keep (State.put_keep (State.modAxis_keep h_self rfl) rfl) rfl)
  · exact (State.when_keep h_self (fun x4_0 h_x4_0 => (State.moveStart_keep h_x4_0 rfl)))))

theorem State.axisAct_keep {mk : Nat} {sb s0 : State} (hk : Keeps mk sb s0) (hmk : 133153 ||| mk = mk) {n : Nat} :
    Keeps mk sb (State.axisAct s0 n) := by
  refine Keeps.step hk ?_ hmk
  have h_self : Keeps 133153 s0 s0 := Keeps.refl
  unfold State.axisAct
  extract_lets -merge -useContext -underBinder +onlyGivenNames x01 s2 x3 s14 s25 y6 rest7
  have h_s2 : Keeps 133153 s0 s2 := (State.axisGuard_keep (State.modAxis_keep h_self rfl) rfl)
  have h_s14 : Keeps 133153 s0 s14 := (State.axisStart_keep h_s2 rfl)
  have h_s25 : Keeps 133153 s0 s25 := (Keeps.ite_keep (State.followSample_keep h_s14 rfl) (State.planSample_keep h_s14 rfl))
  exact (Keeps.ite_keep h_self (State.axisPub_keep (State.modAxis_keep h_s25 rfl) rfl))

theorem State.prfSummary_keep {mk : Nat} {sb s : State} (hk : Keeps mk sb s) (hmk : 1 ||| mk = mk) :
    Keeps mk sb (State.prfSummary s) := by
  refine Keeps.step hk ?_ hmk
  have h_self : Keeps 1 s s := Keeps.refl
  unfold State.prfSummary
  extract_lets -merge -useContext -underBinder +onlyGivenNames m1
  exact (State.put_keep (State.put_keep (State.put_keep h_self rfl) rfl) rfl)

theorem State.prfAct_keep {mk : Nat} {sb s : State} (hk : Keeps mk sb s) (hmk : 133153 ||| mk = mk) {done : Nat} :
    Keeps mk sb (State.prfAct s done) := by
  refine Keeps.step hk ?_ hmk
  have h_self : Keeps 133153 s s := Keeps.refl
  unfold State.prfAct
  extract_lets -merge -useContext -underBinder +onlyGivenNames on1
  exact (State.prfSummary_keep (State.each_keep (State.each_keep h_self (fun x3_0 _ h_x3_0 => (State.axisAct_keep h_x3_0 rfl))) (fun x2_0 _ h_x2_0 => (State.modAxis_keep h_x2_0 rfl))) rfl)

theorem State.stepRelease_keep {mk : Nat} {sb s : State} (hk : Keeps mk sb s) (hmk : 133153 ||| mk = mk) {n o : Nat} :
    Keeps mk sb (State.stepRelease s n o) := by
  refine Keeps.step hk ?_ hmk
  have h_self : Keeps 133153 s s := Keeps.refl
  unfold State.stepRelease
  extract_lets -merge -useContext -underBinder +onlyGivenNames x1 out2 way3 d4 dir5 dsu6 own7 wish8 lead9 e10 now11 late12 last13 o214 s115
  have h_s115 : Keeps 133153 s s115 := (State.modPrf_keep h_self rfl)
  exact (Keeps.ite_keep (State.raiseMajor_keep (State.put_keep h_s115 rfl) rfl) h_s115)

theorem State.stepEdge_keep {mk : Nat} {sb s : State} (hk : Keeps mk sb s) (hmk : 33689664 ||| mk = mk) {o : Nat} :
    Keeps mk sb (State.stepEdge s o) := by
  refine Keeps.step hk ?_ hmk
  have h_self : Keeps 33689664 s s := Keeps.refl
  unfold State.stepEdge
  extract_lets -merge -useContext -underBinder +onlyGivenNames out1
  exact (by
  split
  · exact h_self
  · extract_lets -merge -useContext -underBinder +onlyGivenNames s14
    have h_s14 : Keeps 33689664 s s14 := (State.runInside_keep h_self rfl)
    exact (Keeps.ite_keep h_self (State.modPrf_keep h_s14 rfl)))

theorem execStepEdge_keep (o : Fin 16) (s : State) : KeepsOut 50466880 s (execStepEdge o s) := by
  have h_self : Keeps 50466880 s s := Keeps.refl
  unfold execStepEdge
  exact (KeepsOut.next (State.lanes_keep h_self rfl (fun x1_0 h_x1_0 => (State.stepEdge_keep h_x1_0 rfl))))

theorem State.holdAmp_keep {mk : Nat} {sb s : State} (hk : Keeps mk sb s) (hmk : 131072 ||| mk = mk) {n : Nat} :
    Keeps mk sb (State.holdAmp s n) := by
  refine Keeps.step hk ?_ hmk
  have h_self : Keeps 131072 s s := Keeps.refl
  unfold State.holdAmp
  exact (Keeps.ite_keep (State.modAxis_keep h_self rfl) h_self)

theorem execMicrostepHoldAmplitude_keep (n : Fin 32) (s : State) : KeepsOut 16908288 s (execMicrostepHoldAmplitude n s) := by
  have h_self : Keeps 16908288 s s := Keeps.refl
  unfold execMicrostepHoldAmplitude
  exact (KeepsOut.next (State.lanes_keep h_self rfl (fun x1_0 h_x1_0 => (State.holdAmp_keep h_x1_0 rfl))))

theorem State.microRelease_keep {mk : Nat} {sb s0 : State} (hk : Keeps mk sb s0) (hmk : 131072 ||| mk = mk) {n a : Nat} :
    Keeps mk sb (State.microRelease s0 n a) := by
  refine Keeps.step hk ?_ hmk
  have h_self : Keeps 131072 s0 s0 := Keeps.refl
  unfold State.microRelease
  extract_lets -merge -useContext -underBinder +onlyGivenNames s1 x2 goal3 eofs4 ang5 d06 d7 per8 l9
  have h_s1 : Keeps 131072 s0 s1 := (State.holdAmp_keep h_self rfl)
  exact (State.modPrf_keep (State.modAxis_keep h_s1 rfl) rfl)

theorem State.prfRelease_keep {mk : Nat} {sb s0 : State} (hk : Keeps mk sb s0) (hmk : 133153 ||| mk = mk) :
    Keeps mk sb (State.prfRelease s0) := by
  refine Keeps.step hk ?_ hmk
  have h_self : Keeps 133153 s0 s0 := Keeps.refl
  unfold State.prfRelease
  exact (State.each_keep h_self (fun x1_0 _ h_x1_0 => by
    extract_lets -merge -useContext -underBinder +onlyGivenNames x2 s13 i4
    have h_s13 : Keeps 133153 s0 s13 := (State.modAxis_keep h_x1_0 rfl)
    exact (Keeps.ite_keep h_x1_0 (by
    split
    · extract_lets -merge -useContext -underBinder +onlyGivenNames p6
      exact (State.modPrf_keep h_s13 rfl)
    · exact (State.stepRelease_keep h_s13 rfl)
    · exact (Keeps.ite_keep (State.microRelease_keep h_s13 rfl) h_s13)
    · exact h_s13))))

end Sys2Proof.Machine
end

