-- ==== Sys2Proof/Laws/KeepCan.lean ====
section
/-! SUPPORT. What the functions of Machine/Can.lean leave alone (see Laws/Keeps.lean). -/

namespace Sys2Proof.Machine

open Sys2Proof

theorem State.modCan_keep {mk : Nat} {sb s : State} (hk : Keeps mk sb s) (hmk : 262144 ||| mk = mk) {n : Nat} {f : CanCtl → CanCtl} :
    Keeps mk sb (State.modCan s n f) := by
  refine Keeps.step hk ?_ hmk
  have h_self : Keeps 262144 s s := Keeps.refl
  unfold State.modCan
  extract_lets -merge -useContext -underBinder +onlyGivenNames q1
  exact (Keeps.can_keep h_self rfl)

theorem State.modTlg_keep {mk : Nat} {sb s : State} (hk : Keeps mk sb s) (hmk : 262144 ||| mk = mk) {t : Nat} {f : TlgSlot → TlgSlot} :
    Keeps mk sb (State.modTlg s t f) := by
  refine Keeps.step hk ?_ hmk
  have h_self : Keeps 262144 s s := Keeps.refl
  unfold State.modTlg
  extract_lets -merge -useContext -underBinder +onlyGivenNames q1
  exact (Keeps.can_keep h_self rfl)

theorem State.canCfgErr_keep {mk : Nat} {sb s : State} (hk : Keeps mk sb s) (hmk : 1 ||| mk = mk) {n : Nat} :
    Keeps mk sb (State.canCfgErr s n) := by
  refine Keeps.step hk ?_ hmk
  have h_self : Keeps 1 s s := Keeps.refl
  unfold State.canCfgErr
  exact (State.put_keep h_self rfl)

theorem State.canInitClear_keep {mk : Nat} {sb s : State} (hk : Keeps mk sb s) (hmk : 1 ||| mk = mk) {n : Nat} :
    Keeps mk sb (State.canInitClear s n) := by
  refine Keeps.step hk ?_ hmk
  have h_self : Keeps 1 s s := Keeps.refl
  unfold State.canInitClear
  extract_lets -merge -useContext -underBinder +onlyGivenNames s11
  have h_s11 : Keeps 1 s s11 := (State.put_keep h_self rfl)
  exact (Keeps.ite_keep h_self (Keeps.ite_keep (State.canCfgErr_keep h_self rfl) (Keeps.ite_keep h_s11 (State.put_keep h_s11 rfl))))

theorem State.canInitSet_keep {mk : Nat} {sb s : State} (hk : Keeps mk sb s) (hmk : 262145 ||| mk = mk) {n : Nat} :
    Keeps mk sb (State.canInitSet s n) := by
  refine Keeps.step hk ?_ hmk
  have h_self : Keeps 262145 s s := Keeps.refl
  unfold State.canInitSet
  extract_lets -merge -useContext -underBinder +onlyGivenNames s11
  have h_s11 : Keeps 262145 s s11 := (State.put_keep (State.put_keep (State.put_keep (State.put_keep h_self rfl) rfl) rfl) rfl)
  exact (State.when_keep (State.modCan_keep h_s11 rfl) (fun x2_0 h_x2_0 => (State.put_keep h_x2_0 rfl)))

theorem State.canModeClear_keep {mk : Nat} {sb s : State} (hk : Keeps mk sb s) (hmk : 262145 ||| mk = mk) {n : Nat} :
    Keeps mk sb (State.canModeClear s n) := by
  refine Keeps.step hk ?_ hmk
  have h_self : Keeps 262145 s s := Keeps.refl
  unfold State.canModeClear
  extract_lets -merge -useContext -underBinder +onlyGivenNames w1 keep2 s13 s24
  have h_s13 : Keeps 262145 s s13 := (Keeps.regs_keep h_self rfl (wordsOk_filter _ _))
  have h_s24 : Keeps 262145 s s24 := (State.modCan_keep h_s13 rfl)
  exact (State.put_keep (State.put_keep (State.each_keep h_s24 (fun x5_0 _ h_x5_0 => (State.put_keep (State.put_keep h_x5_0 rfl) rfl))) rfl) rfl)

theorem State.canCtrlWrite_keep {mk : Nat} {sb s : State} (hk : Keeps mk sb s) (hmk : 262145 ||| mk = mk) {n v : Nat} :
    Keeps mk sb (State.canCtrlWrite s n v) := by
  refine Keeps.step hk ?_ hmk
  have h_self : Keeps 262145 s s := Keeps.refl
  unfold State.canCtrlWrite
  extract_lets -merge -useContext -underBinder +onlyGivenNames old1 init2 mode3 s14 s15
  have h_s14 : Keeps 262145 s s14 := (State.when_keep (State.setWord_keep h_self rfl) (fun x6_0 h_x6_0 => (State.canModeClear_keep h_x6_0 rfl)))
  have h_s15 : Keeps 262145 s s15 := (Keeps.ite_keep (State.canCfgErr_keep h_self rfl) h_self)
  exact (Keeps.ite_keep (Keeps.ite_keep h_s14 (State.canInitClear_keep h_s14 rfl)) (Keeps.ite_keep (State.canInitSet_keep h_s15 rfl) h_s15))

theorem execCanInitClear_keep (n : Fin 8) (s : State) : KeepsOut 1 s (execCanInitClear n s) := by
  have h_self : Keeps 1 s s := Keeps.refl
  unfold execCanInitClear
  exact (KeepsOut.next (State.canInitClear_keep h_self rfl))

theorem execCanInitSet_keep (n : Fin 8) (s : State) : KeepsOut 262145 s (execCanInitSet n s) := by
  have h_self : Keeps 262145 s s := Keeps.refl
  unfold execCanInitSet
  exact (KeepsOut.next (Keeps.ite_keep h_self (State.canInitSet_keep h_self rfl)))

theorem State.canConfine_keep {mk : Nat} {sb s : State} (hk : Keeps mk sb s) (hmk : 264225 ||| mk = mk) {n : Nat} :
    Keeps mk sb (State.canConfine s n) := by
  refine Keeps.step hk ?_ hmk
  have h_self : Keeps 264225 s s := Keeps.refl
  unfold State.canConfine
  extract_lets -merge -useContext -underBinder +onlyGivenNames st1 s12
  have h_s12 : Keeps 264225 s s12 := (State.modCan_keep (State.put_keep (State.put_keep (State.put_keep h_self rfl) rfl) rfl) rfl)
  exact (Keeps.ite_keep (State.when_keep (State.each_keep h_s12 (fun x4_0 _ h_x4_0 => (Keeps.ite_keep (State.inc_keep (State.modTlg_keep h_x4_0 rfl) rfl) h_x4_0))) (fun x3_0 h_x3_0 => (State.raise_keep h_x3_0 rfl))) (Keeps.ite_keep (State.when_keep (State.put_keep h_self rfl) (fun x5_0 h_x5_0 => (State.raise_keep h_x5_0 rfl))) (State.put_keep h_self rfl)))

theorem execCanIntegrationComplete_keep (n : Fin 8) (s : State) : KeepsOut 264225 s (execCanIntegrationComplete n s) := by
  have h_self : Keeps 264225 s s := Keeps.refl
  unfold execCanIntegrationComplete
  exact (KeepsOut.next (Keeps.ite_keep (State.canConfine_keep (State.put_keep h_self rfl) rfl) h_self))

theorem State.canRecover_keep {mk : Nat} {sb s : State} (hk : Keeps mk sb s) (hmk : 1 ||| mk = mk) {n : Nat} :
    Keeps mk sb (State.canRecover s n) := by
  refine Keeps.step hk ?_ hmk
  have h_self : Keeps 1 s s := Keeps.refl
  unfold State.canRecover
  exact (Keeps.ite_keep (State.put_keep h_self rfl) h_self)

theorem execCanRecover_keep (n : Fin 8) (s : State) : KeepsOut 1 s (execCanRecover n s) := by
  have h_self : Keeps 1 s s := Keeps.refl
  unfold execCanRecover
  exact (KeepsOut.next (State.canRecover_keep h_self rfl))

theorem execCanRecoveryComplete_keep (n : Fin 8) (s : State) : KeepsOut 2081 s (execCanRecoveryComplete n s) := by
  have h_self : Keeps 2081 s s := Keeps.refl
  unfold execCanRecoveryComplete
  exact (KeepsOut.next (Keeps.ite_keep (State.raise_keep (State.put_keep (State.put_keep (State.put_keep (State.put_keep (State.put_keep h_self rfl) rfl) rfl) rfl) rfl) rfl) h_self))

theorem State.canClrCnt_keep {mk : Nat} {sb s : State} (hk : Keeps mk sb s) (hmk : 1 ||| mk = mk) {n : Nat} :
    Keeps mk sb (State.canClrCnt s n) := by
  refine Keeps.step hk ?_ hmk
  have h_self : Keeps 1 s s := Keeps.refl
  unfold State.canClrCnt
  exact (State.each_keep h_self (fun x1_0 _ h_x1_0 => (State.put_keep h_x1_0 rfl)))

theorem execCanClrcnt_keep (n : Fin 8) (s : State) : KeepsOut 1 s (execCanClrcnt n s) := by
  have h_self : Keeps 1 s s := Keeps.refl
  unfold execCanClrcnt
  exact (KeepsOut.next (State.canClrCnt_keep h_self rfl))

theorem execCanReady_keep (ok : Bool) (s : State) : KeepsOut 2081 s (execCanReady ok s) := by
  have h_self : Keeps 2081 s s := Keeps.refl
  unfold execCanReady
  exact (KeepsOut.next (Keeps.ite_keep h_self (Keeps.ite_keep (State.raise_keep (State.putBit_keep (State.put_keep h_self rfl) rfl) rfl) (State.put_keep h_self rfl))))

theorem State.objUpdate_keep {mk : Nat} {sb s : State} (hk : Keeps mk sb s) (hmk : 262145 ||| mk = mk) {n o clr set : Nat} {stamp : Option Nat} {att : Nat} :
    Keeps mk sb (State.objUpdate s n o clr set stamp att) := by
  refine Keeps.step hk ?_ hmk
  have h_self : Keeps 262145 s s := Keeps.refl
  unfold State.objUpdate
  extract_lets -merge -useContext -underBinder +onlyGivenNames old1 a2 w193 p4
  exact (Keeps.ite_keep (State.modCan_keep h_self rfl) (State.put_keep (State.put_keep h_self rfl) rfl))

theorem State.objStore_keep {mk : Nat} {sb s : State} (hk : Keeps mk sb s) (hmk : 2081 ||| mk = mk) {n o : Nat} {w : List Nat} :
    Keeps mk sb (State.objStore s n o w) := by
  refine Keeps.step hk ?_ hmk
  have h_self : Keeps 2081 s s := Keeps.refl
  unfold State.objStore
  extract_lets -merge -useContext -underBinder +onlyGivenNames ovr1 w192
  exact (State.when_keep (State.putBit_keep (State.setWords_keep h_self rfl) rfl) (fun x3_0 h_x3_0 => (State.raiseMajor_keep h_x3_0 rfl)))

theorem State.canRelease_keep {mk : Nat} {sb s : State} (hk : Keeps mk sb s) (hmk : 264225 ||| mk = mk) {n port : Nat} {kept : Nat} :
    Keeps mk sb (State.canRelease s n port kept) := by
  refine Keeps.step hk ?_ hmk
  have h_self : Keeps 264225 s s := Keeps.refl
  unfold State.canRelease
  exact (by
  split
  · exact h_self
  · extract_lets -merge -useContext -underBinder +onlyGivenNames c3 s14 s25
    have h_s14 : Keeps 264225 s s14 := (State.modCan_keep h_self rfl)
    have h_s25 : Keeps 264225 s s25 := (by
    unfold s25
    split
    · exact (State.put_keep (State.put_keep h_s14 rfl) rfl)
    · exact h_s14)
    exact (Keeps.ite_keep (by
    split
    · exact (State.objStore_keep h_s25 rfl)
    · exact h_s25) h_s14))

theorem State.rxFill_keep {mk : Nat} {sb s : State} (hk : Keeps mk sb s) (hmk : 1 ||| mk = mk) {n : Nat} :
    Keeps mk sb (State.rxFill s n) := by
  refine Keeps.step hk ?_ hmk
  have h_self : Keeps 1 s s := Keeps.refl
  unfold State.rxFill
  exact (State.put_keep h_self rfl)

theorem State.txFill_keep {mk : Nat} {sb s : State} (hk : Keeps mk sb s) (hmk : 1 ||| mk = mk) {n : Nat} :
    Keeps mk sb (State.txFill s n) := by
  refine Keeps.step hk ?_ hmk
  have h_self : Keeps 1 s s := Keeps.refl
  unfold State.txFill
  exact (State.put_keep h_self rfl)

theorem State.canLockRead_keep {mk : Nat} {sb s : State} (hk : Keeps mk sb s) (hmk : 264229 ||| mk = mk) {port n buf : Nat} :
    Keeps mk sb (State.canLockRead s port n buf) := by
  refine Keeps.step hk ?_ hmk
  have h_self : Keeps 264229 s s := Keeps.refl
  unfold State.canLockRead
  extract_lets -merge -useContext -underBinder +onlyGivenNames q1 s12
  have h_s12 : Keeps 264229 s s12 := (Keeps.hostData_keep h_self rfl)
  exact (Keeps.ite_keep h_s12 (Keeps.ite_keep h_s12 (State.modCan_keep (State.canRelease_keep h_s12 rfl) rfl)))

theorem State.canReleaseRead_keep {mk : Nat} {sb s : State} (hk : Keeps mk sb s) (hmk : 264229 ||| mk = mk) {port n buf : Nat} :
    Keeps mk sb (State.canReleaseRead s port n buf) := by
  refine Keeps.step hk ?_ hmk
  have h_self : Keeps 264229 s s := Keeps.refl
  unfold State.canReleaseRead
  extract_lets -merge -useContext -underBinder +onlyGivenNames s11
  have h_s11 : Keeps 264229 s s11 := (Keeps.hostData_keep h_self rfl)
  exact (by
  split
  · exact h_s11
  · extract_lets -merge -useContext -underBinder +onlyGivenNames old4 s25
    have h_s25 : Keeps 264229 s s25 := (State.putBit_keep (State.put_keep h_s11 rfl) rfl)
    exact (Keeps.ite_keep h_s11 (Keeps.ite_keep (State.canRelease_keep h_s25 rfl) (State.rxFill_keep (State.modCan_keep (State.canRelease_keep h_s11 rfl) rfl) rfl))))

theorem execCanBufferLockRead_keep (port : Fin 2) (n : Fin 8) (buf : Fin 128) (s : State) : KeepsOut 264229 s (execCanBufferLockRead port n buf s) := by
  have h_self : Keeps 264229 s s := Keeps.refl
  unfold execCanBufferLockRead
  exact (KeepsOut.next (State.canLockRead_keep h_self rfl))

theorem execCanBufferReleaseRead_keep (port : Fin 2) (n : Fin 8) (buf : Fin 128) (s : State) : KeepsOut 264229 s (execCanBufferReleaseRead port n buf s) := by
  have h_self : Keeps 264229 s s := Keeps.refl
  unfold execCanBufferReleaseRead
  exact (KeepsOut.next (State.canReleaseRead_keep h_self rfl))

theorem State.canLockExpire_keep {mk : Nat} {sb s : State} (hk : Keeps mk sb s) (hmk : 264225 ||| mk = mk) {port n : Nat} :
    Keeps mk sb (State.canLockExpire s port n) := by
  refine Keeps.step hk ?_ hmk
  have h_self : Keeps 264225 s s := Keeps.refl
  unfold State.canLockExpire
  exact (by
  split
  · exact h_self
  · exact (Keeps.ite_keep (State.raise_keep (State.put_keep (State.canRelease_keep h_self rfl) rfl) rfl) h_self))

theorem execCanLockTimeout_keep (port : Fin 2) (n : Fin 8) (s : State) : KeepsOut 33822817 s (execCanLockTimeout port n s) := by
  have h_self : Keeps 33822817 s s := Keeps.refl
  unfold execCanLockTimeout
  exact (KeepsOut.next (by
  split
  · exact h_self
  · exact (State.canLockExpire_keep (State.runInside_keep h_self rfl) rfl)))

theorem State.canLinkLoss_keep {mk : Nat} {sb s : State} (hk : Keeps mk sb s) (hmk : 264225 ||| mk = mk) {port : Nat} :
    Keeps mk sb (State.canLinkLoss s port) := by
  refine Keeps.step hk ?_ hmk
  have h_self : Keeps 264225 s s := Keeps.refl
  unfold State.canLinkLoss
  exact (State.each_keep h_self (fun x1_0 _ h_x1_0 => (State.canRelease_keep h_x1_0 rfl)))

theorem State.canCommit_keep {mk : Nat} {sb s : State} (hk : Keeps mk sb s) (hmk : 262145 ||| mk = mk) {port n : Nat} {sshot : Bool} :
    Keeps mk sb (State.canCommit s port n sshot) := by
  refine Keeps.step hk ?_ hmk
  have h_self : Keeps 262145 s s := Keeps.refl
  unfold State.canCommit
  exact (Keeps.ite_keep h_self (Keeps.ite_keep (State.put_keep h_self rfl) (State.txFill_keep (State.modCan_keep h_self rfl) rfl)))

theorem execCanTxCommit_keep (port : Fin 2) (n : Fin 8) (sshot : Bool) (s : State) : KeepsOut 262145 s (execCanTxCommit port n sshot s) := by
  have h_self : Keeps 262145 s s := Keeps.refl
  unfold execCanTxCommit
  exact (KeepsOut.next (State.canCommit_keep h_self rfl))

theorem State.canMramWrite_keep {mk : Nat} {sb s : State} (hk : Keeps mk sb s) (hmk : 262145 ||| mk = mk) {port n w v : Nat} :
    Keeps mk sb (State.canMramWrite s port n w v) := by
  refine Keeps.step hk ?_ hmk
  have h_self : Keeps 262145 s s := Keeps.refl
  unfold State.canMramWrite
  extract_lets -merge -useContext -underBinder +onlyGivenNames busy1 o2 k3 other4
  have h_busy1 : Keeps 262145 s busy1 := (State.put_keep h_self rfl)
  exact (Keeps.ite_keep (Keeps.ite_keep (Keeps.ite_keep h_busy1 (Keeps.ite_keep h_self (State.put_keep h_self rfl))) (Keeps.ite_keep (Keeps.ite_keep h_busy1 (State.put_keep h_self rfl)) h_self)) (Keeps.ite_keep (Keeps.ite_keep h_self (State.modCan_keep h_self rfl)) (Keeps.ite_keep (Keeps.ite_keep (State.canCommit_keep h_self rfl) h_self) (Keeps.ite_keep (State.put_keep h_self rfl) h_self))))

theorem State.canTxReq_keep {mk : Nat} {sb s : State} (hk : Keeps mk sb s) (hmk : 262145 ||| mk = mk) {n w mask : Nat} :
    Keeps mk sb (State.canTxReq s n w mask) := by
  refine Keeps.step hk ?_ hmk
  have h_self : Keeps 262145 s s := Keeps.refl
  unfold State.canTxReq
  exact (State.each_keep h_self (fun x1_0 _ h_x1_0 => by
    extract_lets -merge -useContext -underBinder +onlyGivenNames o2 id3
    exact (Keeps.ite_keep (Keeps.ite_keep h_x1_0 (State.objUpdate_keep (State.putBit_keep h_x1_0 rfl) rfl)) (State.canCfgErr_keep h_x1_0 rfl))))

theorem execCanTxreq_keep (n : Fin 8) (w : Fin 4) (mask : Word) (s : State) : KeepsOut 262145 s (execCanTxreq n w mask s) := by
  have h_self : Keeps 262145 s s := Keeps.refl
  unfold execCanTxreq
  exact (KeepsOut.next (State.canTxReq_keep h_self rfl))

theorem State.objEnd_keep {mk : Nat} {sb s : State} (hk : Keeps mk sb s) (hmk : 262145 ||| mk = mk) {n o set : Nat} {stamp : Option Nat} :
    Keeps mk sb (State.objEnd s n o set stamp) := by
  refine Keeps.step hk ?_ hmk
  have h_self : Keeps 262145 s s := Keeps.refl
  unfold State.objEnd
  exact (State.objUpdate_keep (State.putBit_keep h_self rfl) rfl)

theorem State.canCancel_keep {mk : Nat} {sb s : State} (hk : Keeps mk sb s) (hmk : 262145 ||| mk = mk) {n w mask : Nat} :
    Keeps mk sb (State.canCancel s n w mask) := by
  refine Keeps.step hk ?_ hmk
  have h_self : Keeps 262145 s s := Keeps.refl
  unfold State.canCancel
  exact (State.each_keep h_self (fun x1_0 _ h_x1_0 => by
    extract_lets -merge -useContext -underBinder +onlyGivenNames o2
    exact (Keeps.ite_keep h_x1_0 (by
    split
    · exact (Keeps.ite_keep (State.modCan_keep h_x1_0 rfl) (State.objEnd_keep h_x1_0 rfl))
    · exact (State.objEnd_keep h_x1_0 rfl)))))

theorem execCanCancel_keep (n : Fin 8) (w : Fin 4) (mask : Word) (s : State) : KeepsOut 262145 s (execCanCancel n w mask s) := by
  have h_self : Keeps 262145 s s := Keeps.refl
  unfold execCanCancel
  exact (KeepsOut.next (State.canCancel_keep h_self rfl))

theorem State.canFlush_keep {mk : Nat} {sb s : State} (hk : Keeps mk sb s) (hmk : 262145 ||| mk = mk) {n : Nat} :
    Keeps mk sb (State.canFlush s n) := by
  refine Keeps.step hk ?_ hmk
  have h_self : Keeps 262145 s s := Keeps.refl
  unfold State.canFlush
  exact (by
  split
  · exact (Keeps.ite_keep (State.txFill_keep (State.modCan_keep h_self rfl) rfl) (State.txFill_keep (State.modCan_keep h_self rfl) rfl))
  · exact (State.txFill_keep (State.modCan_keep h_self rfl) rfl))

theorem execCanTxfflush_keep (n : Fin 8) (s : State) : KeepsOut 262145 s (execCanTxfflush n s) := by
  have h_self : Keeps 262145 s s := Keeps.refl
  unfold execCanTxfflush
  exact (KeepsOut.next (State.canFlush_keep h_self rfl))

theorem State.canCmd_keep {mk : Nat} {sb s : State} (hk : Keeps mk sb s) (hmk : 262145 ||| mk = mk) {n v : Nat} :
    Keeps mk sb (State.canCmd s n v) := by
  refine Keeps.step hk ?_ hmk
  have h_self : Keeps 262145 s s := Keeps.refl
  unfold State.canCmd
  exact (State.when_keep (State.when_keep (State.when_keep h_self (fun x3_0 h_x3_0 => (State.canRecover_keep h_x3_0 rfl))) (fun x2_0 h_x2_0 => (State.canFlush_keep h_x2_0 rfl))) (fun x1_0 h_x1_0 => (State.canClrCnt_keep h_x1_0 rfl)))

theorem State.tlgCheck_keep {mk : Nat} {sb s : State} (hk : Keeps mk sb s) (hmk : 2081 ||| mk = mk) {t : Nat} :
    Keeps mk sb (State.tlgCheck s t) := by
  refine Keeps.step hk ?_ hmk
  have h_self : Keeps 2081 s s := Keeps.refl
  unfold State.tlgCheck
  exact (Keeps.ite_keep (State.setRaise_keep h_self rfl) (State.put_keep h_self rfl))

theorem State.tlgForm_keep {mk : Nat} {sb s : State} (hk : Keeps mk sb s) (hmk : 262144 ||| mk = mk) :
    Keeps mk sb (State.tlgForm s) := by
  refine Keeps.step hk ?_ hmk
  have h_self : Keeps 262144 s s := Keeps.refl
  unfold State.tlgForm
  exact (State.each_keep h_self (fun x1_0 _ h_x1_0 => (State.modTlg_keep h_x1_0 rfl)))

theorem State.tlgRelease_keep {mk : Nat} {sb s : State} (hk : Keeps mk sb s) (hmk : 262145 ||| mk = mk) :
    Keeps mk sb (State.tlgRelease s) := by
  refine Keeps.step hk ?_ hmk
  have h_self : Keeps 262145 s s := Keeps.refl
  unfold State.tlgRelease
  exact (State.each_keep h_self (fun x1_0 _ h_x1_0 => by
    extract_lets -merge -useContext -underBinder +onlyGivenNames x2
    exact (by
    split
    · exact h_x1_0
    · exact (State.when_keep (State.modTlg_keep h_x1_0 rfl) (fun x5_0 h_x5_0 => (State.inc_keep h_x5_0 rfl))))))

theorem State.tlgRepeat_keep {mk : Nat} {sb s : State} (hk : Keeps mk sb s) (hmk : 262145 ||| mk = mk) :
    Keeps mk sb (State.tlgRepeat s) := by
  refine Keeps.step hk ?_ hmk
  have h_self : Keeps 262145 s s := Keeps.refl
  unfold State.tlgRepeat
  exact (State.each_keep h_self (fun x1_0 _ h_x1_0 => by
    extract_lets -merge -useContext -underBinder +onlyGivenNames x2
    exact (by
    split
    · exact h_x1_0
    · extract_lets -merge -useContext -underBinder +onlyGivenNames body5 c6
      exact (Keeps.ite_keep (State.when_keep (State.modTlg_keep h_x1_0 rfl) (fun x7_0 h_x7_0 => (State.inc_keep h_x7_0 rfl))) h_x1_0))))

theorem State.tlgOmit_keep {mk : Nat} {sb s : State} (hk : Keeps mk sb s) (hmk : 262145 ||| mk = mk) :
    Keeps mk sb (State.tlgOmit s) := by
  refine Keeps.step hk ?_ hmk
  have h_self : Keeps 262145 s s := Keeps.refl
  unfold State.tlgOmit
  exact (State.each_keep h_self (fun x1_0 _ h_x1_0 => (Keeps.ite_keep (State.inc_keep (State.modTlg_keep h_x1_0 rfl) rfl) h_x1_0)))

theorem State.tlgLeave_keep {mk : Nat} {sb s : State} (hk : Keeps mk sb s) (hmk : 262144 ||| mk = mk) :
    Keeps mk sb (State.tlgLeave s) := by
  refine Keeps.step hk ?_ hmk
  have h_self : Keeps 262144 s s := Keeps.refl
  unfold State.tlgLeave
  exact (State.each_keep h_self (fun x1_0 _ h_x1_0 => (State.modTlg_keep h_x1_0 rfl)))

theorem State.tlgFaults_keep {mk : Nat} {sb s : State} (hk : Keeps mk sb s) (hmk : 67617 ||| mk = mk) :
    Keeps mk sb (State.tlgFaults s) := by
  refine Keeps.step hk ?_ hmk
  have h_self : Keeps 67617 s s := Keeps.refl
  unfold State.tlgFaults
  exact (State.each_keep h_self (fun x1_0 _ h_x1_0 => by
    extract_lets -merge -useContext -underBinder +onlyGivenNames i2
    exact (Keeps.ite_keep (State.thrFault_keep h_x1_0 rfl) h_x1_0)))

theorem State.tlgTimeout_keep {mk : Nat} {sb s : State} (hk : Keeps mk sb s) (hmk : 67617 ||| mk = mk) {t : Nat} :
    Keeps mk sb (State.tlgTimeout s t) := by
  refine Keeps.step hk ?_ hmk
  have h_self : Keeps 67617 s s := Keeps.refl
  unfold State.tlgTimeout
  extract_lets -merge -useContext -underBinder +onlyGivenNames ms1
  exact (Keeps.ite_keep (State.tlgFaults_keep (State.setRaise_keep h_self rfl) rfl) h_self)

theorem execTlgFeedbackTimeout_keep (t : Fin 16) (s : State) : KeepsOut 50403425 s (execTlgFeedbackTimeout t s) := by
  have h_self : Keeps 50403425 s s := Keeps.refl
  unfold execTlgFeedbackTimeout
  exact (KeepsOut.next (State.lanes_keep h_self rfl (fun x1_0 h_x1_0 => by
    extract_lets -merge -useContext -underBinder +onlyGivenNames left2
    exact (Keeps.ite_keep (State.tlgTimeout_keep (State.runInside_keep h_x1_0 rfl) rfl) h_x1_0))))

theorem State.tlgCfgApply_keep {mk : Nat} {sb s : State} (hk : Keeps mk sb s) (hmk : 262145 ||| mk = mk) {t v : Nat} :
    Keeps mk sb (State.tlgCfgApply s t v) := by
  refine Keeps.step hk ?_ hmk
  have h_self : Keeps 262145 s s := Keeps.refl
  unfold State.tlgCfgApply
  extract_lets -merge -useContext -underBinder +onlyGivenNames on1
  exact (State.when_keep (State.setWord_keep h_self rfl) (fun x2_0 h_x2_0 => (State.modTlg_keep h_x2_0 rfl)))

theorem State.epochSeen_keep {mk : Nat} {sb s : State} (hk : Keeps mk sb s) (hmk : 526369 ||| mk = mk) {e : Nat} :
    Keeps mk sb (State.epochSeen s e) := by
  refine Keeps.step hk ?_ hmk
  have h_self : Keeps 526369 s s := Keeps.refl
  unfold State.epochSeen
  extract_lets -merge -useContext -underBinder +onlyGivenNames q1 s12 q3
  have h_s12 : Keeps 526369 s s12 := (Keeps.ite_keep (State.when_keep (Keeps.red_keep h_self rfl) (fun x4_0 h_x4_0 => (State.put_keep h_x4_0 rfl))) h_self)
  exact (Keeps.ite_keep (State.raise_keep (Keeps.red_keep h_s12 rfl) rfl) h_s12)

theorem State.tlgFeedback_keep {mk : Nat} {sb s : State} (hk : Keeps mk sb s) (hmk : 854049 ||| mk = mk) {n : Nat} {f : CanFrame} {lin : Nat} :
    Keeps mk sb (State.tlgFeedback s n f lin) := by
  refine Keeps.step hk ?_ hmk
  have h_self : Keeps 854049 s s := Keeps.refl
  unfold State.tlgFeedback
  exact (State.each_keep h_self (fun x1_0 _ h_x1_0 => by
    extract_lets -merge -useContext -underBinder +onlyGivenNames b2 ack3 s14 s25 live6 q7 s28 s39
    have h_s14 : Keeps 854049 s s14 := (State.modTlg_keep (State.put_keep (State.put_keep (State.put_keep (State.setWords_keep h_x1_0 rfl) rfl) rfl) rfl) rfl)
    have h_s25 : Keeps 854049 s s25 := (by
    unfold s25
    split
    · exact (State.put_keep h_s14 rfl)
    · exact h_s14)
    have h_s28 : Keeps 854049 s s28 := (Keeps.ite_keep (Keeps.red_keep h_s25 rfl) h_s25)
    have h_s39 : Keeps 854049 s s39 := (Keeps.ite_keep (State.tlgFaults_keep (State.setRaise_keep h_s28 rfl) rfl) (State.put_keep h_s28 rfl))
    exact (Keeps.ite_keep h_x1_0 (Keeps.ite_keep (State.inc_keep h_x1_0 rfl) (State.epochSeen_keep h_s39 rfl)))))

theorem State.canTick_keep {mk : Nat} {sb s : State} (hk : Keeps mk sb s) (hmk : 329761 ||| mk = mk) :
    Keeps mk sb (State.canTick s) := by
  refine Keeps.step hk ?_ hmk
  have h_self : Keeps 329761 s s := Keeps.refl
  unfold State.canTick
  extract_lets -merge -useContext -underBinder +onlyGivenNames s11
  have h_s11 : Keeps 329761 s s11 := (State.each_keep h_self (fun x2_0 _ h_x2_0 => (State.tlgTimeout_keep (State.tlgCheck_keep h_x2_0 rfl) rfl)))
  exact (State.each_keep (State.tlgFaults_keep h_s11 rfl) (fun x3_0 _ h_x3_0 => (State.canLockExpire_keep (State.canLockExpire_keep h_x3_0 rfl) rfl)))

theorem State.canStep_keep {mk : Nat} {sb s : State} (hk : Keeps mk sb s) (hmk : 262144 ||| mk = mk) {d : Int} :
    Keeps mk sb (State.canStep s d) := by
  refine Keeps.step hk ?_ hmk
  have h_self : Keeps 262144 s s := Keeps.refl
  unfold State.canStep
  extract_lets -merge -useContext -underBinder +onlyGivenNames mv1
  exact (Keeps.can_keep h_self rfl)

theorem State.canDrop_keep {mk : Nat} {sb s : State} (hk : Keeps mk sb s) (hmk : 1 ||| mk = mk) {n : Nat} :
    Keeps mk sb (State.canDrop s n) := by
  refine Keeps.step hk ?_ hmk
  have h_self : Keeps 1 s s := Keeps.refl
  unfold State.canDrop
  exact (State.incWrap_keep h_self rfl)

theorem State.canQueue_keep {mk : Nat} {sb s : State} (hk : Keeps mk sb s) (hmk : 264233 ||| mk = mk) {n : Nat} {f : CanFrame} {stamp : Nat} :
    Keeps mk sb (State.canQueue s n f stamp) := by
  refine Keeps.step hk ?_ hmk
  have h_self : Keeps 264233 s s := Keeps.refl
  unfold State.canQueue
  extract_lets -merge -useContext -underBinder +onlyGivenNames any1 hit2 s13
  have h_s13 : Keeps 264233 s s13 := (Keeps.ite_keep h_self (State.drawn_keep h_self rfl))
  exact (Keeps.ite_keep (State.canDrop_keep h_self rfl) (Keeps.ite_keep (State.raiseMajor_keep (State.put_keep (State.canDrop_keep h_self rfl) rfl) rfl) (State.raiseMajor_keep (State.rxFill_keep (State.modCan_keep h_s13 rfl) rfl) rfl)))

theorem State.canObject_keep {mk : Nat} {sb s : State} (hk : Keeps mk sb s) (hmk : 264225 ||| mk = mk) {n : Nat} {f : CanFrame} {stamp : Nat} :
    Keeps mk sb (State.canObject s n f stamp) := by
  refine Keeps.step hk ?_ hmk
  have h_self : Keeps 264225 s s := Keeps.refl
  unfold State.canObject
  exact (by
  split
  · exact (State.canDrop_keep h_self rfl)
  · extract_lets -merge -useContext -underBinder +onlyGivenNames again3 s14
    have h_s14 : Keeps 264225 s s14 := (Keeps.ite_keep (State.when_keep (State.modCan_keep h_self rfl) (fun x5_0 h_x5_0 => (State.raiseMajor_keep h_x5_0 rfl))) (State.objStore_keep h_self rfl))
    exact (State.when_keep h_s14 (fun x6_0 h_x6_0 => (State.raiseMajor_keep h_x6_0 rfl))))

theorem State.canDeliver_keep {mk : Nat} {sb s : State} (hk : Keeps mk sb s) (hmk : 854313 ||| mk = mk) {n : Nat} {f : CanFrame} {stamp : Nat} :
    Keeps mk sb (State.canDeliver s n f stamp) := by
  refine Keeps.step hk ?_ hmk
  have h_self : Keeps 854313 s s := Keeps.refl
  unfold State.canDeliver
  extract_lets -merge -useContext -underBinder +onlyGivenNames lin1 s12
  have h_s12 : Keeps 854313 s s12 := (State.tlgFeedback_keep (State.feedCan_keep h_self rfl) rfl)
  exact (Keeps.ite_keep (State.canObject_keep h_s12 rfl) (State.canQueue_keep h_s12 rfl))

theorem State.recDown_keep {mk : Nat} {sb s : State} (hk : Keeps mk sb s) (hmk : 9 ||| mk = mk) {n : Nat} :
    Keeps mk sb (State.recDown s n) := by
  refine Keeps.step hk ?_ hmk
  have h_self : Keeps 9 s s := Keeps.refl
  unfold State.recDown
  exact (Keeps.ite_keep (State.put_keep (State.put_keep (State.drawn_keep h_self rfl) rfl) rfl) (State.put_keep h_self rfl))

theorem execCanFrameReceived_keep (n : Fin 8) (f : CanFrame) (ago : BitVec 24) (s : State) : KeepsOut 17631529 s (execCanFrameReceived n f ago s) := by
  have h_self : Keeps 17631529 s s := Keeps.refl
  unfold execCanFrameReceived
  exact (KeepsOut.next (State.lanes_keep h_self rfl (fun x1_0 h_x1_0 => by
    extract_lets -merge -useContext -underBinder +onlyGivenNames s12
    have h_s12 : Keeps 17631529 s s12 := (State.canConfine_keep (State.recDown_keep (State.put_keep (State.put_keep (State.incWrap_keep h_x1_0 rfl) rfl) rfl) rfl) rfl)
    exact (Keeps.ite_keep (State.canDeliver_keep h_s12 rfl) h_x1_0))))

theorem State.recUp_keep {mk : Nat} {sb s : State} (hk : Keeps mk sb s) (hmk : 1 ||| mk = mk) {n k : Nat} :
    Keeps mk sb (State.recUp s n k) := by
  refine Keeps.step hk ?_ hmk
  have h_self : Keeps 1 s s := Keeps.refl
  unfold State.recUp
  extract_lets -merge -useContext -underBinder +onlyGivenNames r1
  exact (Keeps.ite_keep h_self (Keeps.ite_keep (State.put_keep (State.put_keep h_self rfl) rfl) (State.put_keep h_self rfl)))

theorem State.canLec_keep {mk : Nat} {sb s : State} (hk : Keeps mk sb s) (hmk : 1 ||| mk = mk) {n code : Nat} {data : Bool} :
    Keeps mk sb (State.canLec s n code data) := by
  refine Keeps.step hk ?_ hmk
  have h_self : Keeps 1 s s := Keeps.refl
  unfold State.canLec
  exact (State.put_keep h_self rfl)

theorem State.canRxError_keep {mk : Nat} {sb s : State} (hk : Keeps mk sb s) (hmk : 264225 ||| mk = mk) {n code : Nat} {data first : Bool} {more : Nat} :
    Keeps mk sb (State.canRxError s n code data first more) := by
  refine Keeps.step hk ?_ hmk
  have h_self : Keeps 264225 s s := Keeps.refl
  unfold State.canRxError
  exact (State.canConfine_keep (State.recUp_keep (State.incWrap_keep (State.canLec_keep h_self rfl) rfl) rfl) rfl)

theorem execCanReceiveError_keep (n : Fin 8) (code : Fin 7) (data : Bool) (first : Bool) (more : Fin 64) (s : State) : KeepsOut 264225 s (execCanReceiveError n code data first more s) := by
  have h_self : Keeps 264225 s s := Keeps.refl
  unfold execCanReceiveError
  exact (KeepsOut.next (Keeps.ite_keep (Keeps.ite_keep (Keeps.ite_keep (State.put_keep h_self rfl) (State.canRxError_keep h_self rfl)) (State.canRxError_keep h_self rfl)) h_self))

theorem State.txStart_keep {mk : Nat} {sb s : State} (hk : Keeps mk sb s) (hmk : 262145 ||| mk = mk) {n : Nat} :
    Keeps mk sb (State.txStart s n) := by
  refine Keeps.step hk ?_ hmk
  have h_self : Keeps 262145 s s := Keeps.refl
  unfold State.txStart
  exact (Keeps.ite_keep (by
  split
  · exact h_self
  · extract_lets -merge -useContext -underBinder +onlyGivenNames s13
    have h_s13 : Keeps 262145 s s13 := (State.modCan_keep (State.put_keep h_self rfl) rfl)
    exact (by
    split
    · exact (State.objUpdate_keep h_s13 rfl)
    · exact h_s13)) h_self)

theorem execCanTxOpportunity_keep (n : Fin 8) (s : State) : KeepsOut 262145 s (execCanTxOpportunity n s) := by
  have h_self : Keeps 262145 s s := Keeps.refl
  unfold execCanTxOpportunity
  exact (KeepsOut.next (State.txStart_keep h_self rfl))

theorem State.txGiveUp_keep {mk : Nat} {sb s : State} (hk : Keeps mk sb s) (hmk : 262145 ||| mk = mk) {n : Nat} {who : TxWho} {flags : Nat} :
    Keeps mk sb (State.txGiveUp s n who flags) := by
  refine Keeps.step hk ?_ hmk
  have h_self : Keeps 262145 s s := Keeps.refl
  unfold State.txGiveUp
  extract_lets -merge -useContext -underBinder +onlyGivenNames s11
  have h_s11 : Keeps 262145 s s11 := (State.modCan_keep h_self rfl)
  exact (by
  split
  · exact (State.txFill_keep (State.modCan_keep h_s11 rfl) rfl)
  · exact (State.objEnd_keep h_s11 rfl)
  · exact h_s11)

theorem State.tdcMeasure_keep {mk : Nat} {sb s : State} (hk : Keeps mk sb s) (hmk : 1 ||| mk = mk) {n : Nat} {edges : List (Fin 256)} :
    Keeps mk sb (State.tdcMeasure s n edges) := by
  refine Keeps.step hk ?_ hmk
  have h_self : Keeps 1 s s := Keeps.refl
  unfold State.tdcMeasure
  exact (by
  split
  · exact h_self
  · exact (State.when_keep (State.put_keep h_self rfl) (fun x3_0 h_x3_0 => (State.put_keep h_x3_0 rfl))))

theorem State.tdcOf_keep {mk : Nat} {sb s : State} (hk : Keeps mk sb s) (hmk : 1 ||| mk = mk) {n : Nat} {a : TxAttempt} {edges : List (Fin 256)} :
    Keeps mk sb (State.tdcOf s n a edges) := by
  refine Keeps.step hk ?_ hmk
  have h_self : Keeps 1 s s := Keeps.refl
  unfold State.tdcOf
  exact (State.when_keep h_self (fun x1_0 h_x1_0 => (State.tdcMeasure_keep h_x1_0 rfl)))

theorem State.txOk_keep {mk : Nat} {sb s : State} (hk : Keeps mk sb s) (hmk : 854313 ||| mk = mk) {n : Nat} {a : TxAttempt} {edges : List (Fin 256)} {ago : Nat} :
    Keeps mk sb (State.txOk s n a edges ago) := by
  refine Keeps.step hk ?_ hmk
  have h_self : Keeps 854313 s s := Keeps.refl
  unfold State.txOk
  extract_lets -merge -useContext -underBinder +onlyGivenNames stamp1 s12 s23 s34
  have h_s12 : Keeps 854313 s s12 := (State.put_keep (State.put_keep (State.put_keep (State.incWrap_keep h_self rfl) rfl) rfl) rfl)
  have h_s23 : Keeps 854313 s s23 := (State.tdcOf_keep (State.modCan_keep (State.put_keep h_s12 rfl) rfl) rfl)
  have h_s34 : Keeps 854313 s s34 := (by
  unfold s34
  split
  · exact (State.txFill_keep (State.modCan_keep h_s23 rfl) rfl)
  · exact (State.objEnd_keep h_s23 rfl)
  · extract_lets -merge -useContext -underBinder +onlyGivenNames b8 seq9
    exact (State.setWords_keep (State.put_keep (State.modTlg_keep h_s23 rfl) rfl) rfl))
  exact (State.when_keep (State.canConfine_keep h_s34 rfl) (fun x10_0 h_x10_0 => (State.canDeliver_keep h_x10_0 rfl)))

theorem State.ackError_keep {mk : Nat} {sb s : State} (hk : Keeps mk sb s) (hmk : 2081 ||| mk = mk) {n : Nat} :
    Keeps mk sb (State.ackError s n) := by
  refine Keeps.step hk ?_ hmk
  have h_self : Keeps 2081 s s := Keeps.refl
  unfold State.ackError
  extract_lets -merge -useContext -underBinder +onlyGivenNames s11
  have h_s11 : Keeps 2081 s s11 := (State.inc_keep (State.inc_keep h_self rfl) rfl)
  exact (Keeps.ite_keep (State.setRaise_keep h_s11 rfl) h_s11)

theorem State.collision_keep {mk : Nat} {sb s : State} (hk : Keeps mk sb s) (hmk : 264225 ||| mk = mk) {n : Nat} {who : TxWho} :
    Keeps mk sb (State.collision s n who) := by
  refine Keeps.step hk ?_ hmk
  have h_self : Keeps 264225 s s := Keeps.refl
  unfold State.collision
  extract_lets -merge -useContext -underBinder +onlyGivenNames c1 same2 k3 ev4 fire5
  exact (State.when_keep (State.modCan_keep (State.put_keep (State.inc_keep h_self rfl) rfl) rfl) (fun x6_0 h_x6_0 => (State.raise_keep h_x6_0 rfl)))

theorem State.txError_keep {mk : Nat} {sb s : State} (hk : Keeps mk sb s) (hmk : 264225 ||| mk = mk) {n : Nat} {a : TxAttempt} {code : Nat} {data body noCount : Bool} {more : Nat} :
    Keeps mk sb (State.txError s n a code data body noCount more) := by
  refine Keeps.step hk ?_ hmk
  have h_self : Keeps 264225 s s := Keeps.refl
  unfold State.txError
  extract_lets -merge -useContext -underBinder +onlyGivenNames exempt1 s12 s23 sshot4 s35
  have h_s12 : Keeps 264225 s s12 := (State.put_keep (State.incWrap_keep (State.canLec_keep h_self rfl) rfl) rfl)
  have h_s23 : Keeps 264225 s s23 := (State.when_keep (State.when_keep h_s12 (fun x7_0 h_x7_0 => (State.ackError_keep h_x7_0 rfl))) (fun x6_0 h_x6_0 => (State.collision_keep h_x6_0 rfl)))
  have h_s35 : Keeps 264225 s s35 := (Keeps.ite_keep (State.txGiveUp_keep h_s23 rfl) (Keeps.ite_keep (State.txGiveUp_keep h_s23 rfl) h_s23))
  exact (State.canConfine_keep h_s35 rfl)

theorem State.txEnd_keep {mk : Nat} {sb s : State} (hk : Keeps mk sb s) (hmk : 854313 ||| mk = mk) {n : Nat} {e : CanTxEnd} {ago : Nat} :
    Keeps mk sb (State.txEnd s n e ago) := by
  refine Keeps.step hk ?_ hmk
  have h_self : Keeps 854313 s s := Keeps.refl
  unfold State.txEnd
  exact (by
  split
  · exact h_self
  · extract_lets -merge -useContext -underBinder +onlyGivenNames s13
    have h_s13 : Keeps 854313 s s13 := (State.modCan_keep (State.put_keep h_self rfl) rfl)
    exact (by
    split
    · exact (State.txOk_keep h_s13 rfl)
    · exact (Keeps.ite_keep (State.txGiveUp_keep h_s13 rfl) h_s13)
    · exact (State.txError_keep (State.tdcOf_keep h_s13 rfl) rfl)))

theorem execCanTxAttemptEnd_keep (n : Fin 8) (e : CanTxEnd) (ago : BitVec 24) (s : State) : KeepsOut 17631529 s (execCanTxAttemptEnd n e ago s) := by
  have h_self : Keeps 17631529 s s := Keeps.refl
  unfold execCanTxAttemptEnd
  exact (KeepsOut.next (State.lanes_keep h_self rfl (fun x1_0 h_x1_0 => (State.txEnd_keep h_x1_0 rfl))))

end Sys2Proof.Machine
end

