-- ==== Sys2Proof/Laws/KeepEth.lean ====
section
/-! SUPPORT. What the functions of Machine/Eth.lean leave alone (see Laws/Keeps.lean). -/

namespace Sys2Proof.Machine

open Sys2Proof

theorem State.setPort_keep {mk : Nat} {sb s : State} (hk : Keeps mk sb s) (hmk : 128 ||| mk = mk) {p : Nat} {f : EthPort → EthPort} :
    Keeps mk sb (State.setPort s p f) := by
  refine Keeps.step hk ?_ hmk
  have h_self : Keeps 128 s s := Keeps.refl
  unfold State.setPort
  extract_lets -merge -useContext -underBinder +onlyGivenNames q1
  exact (Keeps.eth_keep h_self rfl)

theorem State.ethSwitch_keep {mk : Nat} {sb s : State} (hk : Keeps mk sb s) (hmk : 2209 ||| mk = mk) {p : Nat} :
    Keeps mk sb (State.ethSwitch s p) := by
  refine Keeps.step hk ?_ hmk
  have h_self : Keeps 2209 s s := Keeps.refl
  unfold State.ethSwitch
  extract_lets -merge -useContext -underBinder +onlyGivenNames m1 q2 s13 s24
  have h_s13 : Keeps 2209 s s13 := (State.setPort_keep h_self rfl)
  have h_s24 : Keeps 2209 s s24 := (State.setPort_keep h_s13 rfl)
  exact (State.raise_keep (State.put_keep (State.put_keep h_s24 rfl) rfl) rfl)

theorem State.failover_keep {mk : Nat} {sb s : State} (hk : Keeps mk sb s) (hmk : 2209 ||| mk = mk) {net : Nat} :
    Keeps mk sb (State.failover s net) := by
  refine Keeps.step hk ?_ hmk
  have h_self : Keeps 2209 s s := Keeps.refl
  unfold State.failover
  extract_lets -merge -useContext -underBinder +onlyGivenNames ok1 pr2
  exact (Keeps.ite_keep h_self (Keeps.ite_keep (State.ethSwitch_keep h_self rfl) (Keeps.ite_keep (State.ethSwitch_keep h_self rfl) h_self)))

theorem execEthFailover_keep (net : Fin 2) (s : State) : KeepsOut 2209 s (execEthFailover net s) := by
  have h_self : Keeps 2209 s s := Keeps.refl
  unfold execEthFailover
  exact (KeepsOut.next (State.failover_keep h_self rfl))

theorem State.failback_keep {mk : Nat} {sb s : State} (hk : Keeps mk sb s) (hmk : 2209 ||| mk = mk) {net : Nat} :
    Keeps mk sb (State.failback s net) := by
  refine Keeps.step hk ?_ hmk
  have h_self : Keeps 2209 s s := Keeps.refl
  unfold State.failback
  extract_lets -merge -useContext -underBinder +onlyGivenNames on1 pr2
  exact (Keeps.ite_keep (State.ethSwitch_keep h_self rfl) h_self)

theorem execEthFailback_keep (net : Fin 2) (s : State) : KeepsOut 2209 s (execEthFailback net s) := by
  have h_self : Keeps 2209 s s := Keeps.refl
  unfold execEthFailback
  exact (KeepsOut.next (State.failback_keep h_self rfl))

theorem State.ptpEval_keep {mk : Nat} {sb s : State} (hk : Keeps mk sb s) (hmk : 6369 ||| mk = mk) :
    Keeps mk sb (State.ptpEval s) := by
  refine Keeps.step hk ?_ hmk
  have h_self : Keeps 6369 s s := Keeps.refl
  unfold State.ptpEval
  extract_lets -merge -useContext -underBinder +onlyGivenNames old1 new2 s13
  have h_s13 : Keeps 6369 s s13 := (State.each_keep h_self (fun x4_0 _ h_x4_0 => (Keeps.ite_keep h_x4_0 (State.raise_keep (State.when_keep (State.put_keep h_x4_0 rfl) (fun x5_0 h_x5_0 => (State.setPort_keep h_x5_0 rfl))) rfl))))
  exact (Keeps.ite_keep h_s13 (State.ptpLost_keep h_s13 rfl))

theorem State.announce_keep {mk : Nat} {sb s : State} (hk : Keeps mk sb s) (hmk : 6369 ||| mk = mk) {p : Nat} {ds : PtpSet} :
    Keeps mk sb (State.announce s p ds) := by
  refine Keeps.step hk ?_ hmk
  have h_self : Keeps 6369 s s := Keeps.refl
  unfold State.announce
  extract_lets -merge -useContext -underBinder +onlyGivenNames old1 take2
  exact (Keeps.ite_keep (State.ptpEval_keep (State.setPort_keep h_self rfl) rfl) h_self)

theorem execPtpAnnounceReceived_keep (p : Fin 4) (domain : Fin 256) (ds : PtpSet) (s : State) : KeepsOut 6369 s (execPtpAnnounceReceived p domain ds s) := by
  have h_self : Keeps 6369 s s := Keeps.refl
  unfold execPtpAnnounceReceived
  exact (KeepsOut.next (Keeps.ite_keep (State.announce_keep h_self rfl) h_self))

theorem State.annCheck_keep {mk : Nat} {sb s : State} (hk : Keeps mk sb s) (hmk : 6369 ||| mk = mk) {p : Nat} :
    Keeps mk sb (State.annCheck s p) := by
  refine Keeps.step hk ?_ hmk
  have h_self : Keeps 6369 s s := Keeps.refl
  unfold State.annCheck
  extract_lets -merge -useContext -underBinder +onlyGivenNames n1
  exact (Keeps.ite_keep h_self (Keeps.ite_keep (State.ptpEval_keep (State.setPort_keep h_self rfl) rfl) (State.setPort_keep h_self rfl)))

theorem execPtpAnnounceTimeout_keep (p : Fin 4) (s : State) : KeepsOut 6369 s (execPtpAnnounceTimeout p s) := by
  have h_self : Keeps 6369 s s := Keeps.refl
  unfold execPtpAnnounceTimeout
  exact (KeepsOut.next (State.annCheck_keep h_self rfl))

theorem State.ptpTick_keep {mk : Nat} {sb s : State} (hk : Keeps mk sb s) (hmk : 6369 ||| mk = mk) :
    Keeps mk sb (State.ptpTick s) := by
  refine Keeps.step hk ?_ hmk
  have h_self : Keeps 6369 s s := Keeps.refl
  unfold State.ptpTick
  exact (State.ptpEval_keep (State.ptpTimeout_keep (State.each_keep h_self (fun x1_0 _ h_x1_0 => (State.annCheck_keep h_x1_0 rfl))) rfl) rfl)

theorem State.ptpQueue_keep {mk : Nat} {sb s : State} (hk : Keeps mk sb s) (hmk : 128 ||| mk = mk) {p : Nat} {k : PtpKind} :
    Keeps mk sb (State.ptpQueue s p k) := by
  refine Keeps.step hk ?_ hmk
  have h_self : Keeps 128 s s := Keeps.refl
  unfold State.ptpQueue
  exact (State.setPort_keep h_self rfl)

theorem State.linkChange_keep {mk : Nat} {sb s : State} (hk : Keeps mk sb s) (hmk : 6369 ||| mk = mk) {p : Nat} {up : Bool} :
    Keeps mk sb (State.linkChange s p up) := by
  refine Keeps.step hk ?_ hmk
  have h_self : Keeps 6369 s s := Keeps.refl
  unfold State.linkChange
  extract_lets -merge -useContext -underBinder +onlyGivenNames s11 s22
  have h_s11 : Keeps 6369 s s11 := (State.putB_keep h_self rfl)
  have h_s22 : Keeps 6369 s s22 := (Keeps.ite_keep (State.setPort_keep h_s11 rfl) (State.setPort_keep (State.inc_keep h_s11 rfl) rfl))
  exact (Keeps.ite_keep h_self (State.ptpEval_keep (State.raise_keep h_s22 rfl) rfl))

theorem execEthLinkChange_keep (p : Fin 4) (up : Bool) (s : State) : KeepsOut 6369 s (execEthLinkChange p up s) := by
  have h_self : Keeps 6369 s s := Keeps.refl
  unfold execEthLinkChange
  exact (KeepsOut.next (State.linkChange_keep h_self rfl))

theorem State.ethQueue_keep {mk : Nat} {sb s : State} (hk : Keeps mk sb s) (hmk : 128 ||| mk = mk) {p cls : Nat} {b : List Byte} :
    Keeps mk sb (State.ethQueue s p cls b) := by
  refine Keeps.step hk ?_ hmk
  have h_self : Keeps 128 s s := Keeps.refl
  unfold State.ethQueue
  exact (State.setPort_keep h_self rfl)

theorem State.ethQueueNet_keep {mk : Nat} {sb s : State} (hk : Keeps mk sb s) (hmk : 128 ||| mk = mk) {net cls : Nat} {b : List Byte} :
    Keeps mk sb (State.ethQueueNet s net cls b) := by
  refine Keeps.step hk ?_ hmk
  have h_self : Keeps 128 s s := Keeps.refl
  unfold State.ethQueueNet
  exact (by
  split
  · exact (State.ethQueue_keep h_self rfl)
  · exact h_self)

theorem State.ptpDepart_keep {mk : Nat} {sb s : State} (hk : Keeps mk sb s) (hmk : 128 ||| mk = mk) {p frac : Nat} :
    Keeps mk sb (State.ptpDepart s p frac) := by
  refine Keeps.step hk ?_ hmk
  have h_self : Keeps 128 s s := Keeps.refl
  unfold State.ptpDepart
  exact (by
  split
  · exact h_self
  · extract_lets -merge -useContext -underBinder +onlyGivenNames m3
    exact (State.setPort_keep h_self rfl))

theorem State.ethSend_keep {mk : Nat} {sb s : State} (hk : Keeps mk sb s) (hmk : 129 ||| mk = mk) {p frac : Nat} :
    Keeps mk sb (State.ethSend s p frac) := by
  refine Keeps.step hk ?_ hmk
  have h_self : Keeps 129 s s := Keeps.refl
  unfold State.ethSend
  exact (by
  split
  · extract_lets -merge -useContext -underBinder +onlyGivenNames q2 s13
    have h_s13 : Keeps 129 s s13 := (Keeps.ite_keep (State.ptpDepart_keep h_self rfl) (State.setPort_keep h_self rfl))
    exact (State.incWrap_keep h_s13 rfl)
  · exact h_self)

theorem execEthFrameSend_keep (p : Fin 4) (frac : Fin 5) (s : State) : KeepsOut 129 s (execEthFrameSend p frac s) := by
  have h_self : Keeps 129 s s := Keeps.refl
  unfold execEthFrameSend
  exact (KeepsOut.next (State.ethSend_keep h_self rfl))

theorem State.ptpSend_keep {mk : Nat} {sb s : State} (hk : Keeps mk sb s) (hmk : 129 ||| mk = mk) {p : Nat} {k : PtpKind} {frac : Nat} :
    Keeps mk sb (State.ptpSend s p k frac) := by
  refine Keeps.step hk ?_ hmk
  have h_self : Keeps 129 s s := Keeps.refl
  unfold State.ptpSend
  extract_lets -merge -useContext -underBinder +onlyGivenNames s11
  have h_s11 : Keeps 129 s s11 := (State.ptpQueue_keep h_self rfl)
  exact (Keeps.ite_keep (State.when_keep h_s11 (fun x2_0 h_x2_0 => (State.ethSend_keep h_x2_0 rfl))) h_self)

theorem execPtpMessageTransmit_keep (p : Fin 4) (kind : PtpKind) (frac : Fin 5) (s : State) : KeepsOut 129 s (execPtpMessageTransmit p kind frac s) := by
  have h_self : Keeps 129 s s := Keeps.refl
  unfold execPtpMessageTransmit
  exact (KeepsOut.next (State.ptpSend_keep h_self rfl))

theorem State.setDelay_keep {mk : Nat} {sb s : State} (hk : Keeps mk sb s) (hmk : 129 ||| mk = mk) {p : Nat} {d : Int} :
    Keeps mk sb (State.setDelay s p d) := by
  refine Keeps.step hk ?_ hmk
  have h_self : Keeps 129 s s := Keeps.refl
  unfold State.setDelay
  exact (State.put_keep (State.setPort_keep h_self rfl) rfl)

theorem State.ptpEngine_keep {mk : Nat} {sb s : State} (hk : Keeps mk sb s) (hmk : 134224097 ||| mk = mk) {p : Nat} {t2 : Int} {b : List Byte} :
    Keeps mk sb (State.ptpEngine s p t2 b) := by
  refine Keeps.step hk ?_ hmk
  have h_self : Keeps 134224097 s s := Keeps.refl
  unfold State.ptpEngine
  extract_lets -merge -useContext -underBinder +onlyGivenNames kind1 src2 seq3 corr4 two5 t16 port7 mine8 peer9 req10 log11
  exact (Keeps.ite_keep h_self (by
  clear_value kind1
  split
  · exact (Keeps.ite_keep (State.setPort_keep h_self rfl) (State.ptpSync_keep h_self rfl))
  · exact (by
    split
    · exact (Keeps.ite_keep (State.setPort_keep (State.ptpSync_keep h_self rfl) rfl) h_self)
    · exact h_self)
  · exact (Keeps.ite_keep (State.setPort_keep h_self rfl) h_self)
  · exact (by
    split
    · exact (Keeps.ite_keep (State.setDelay_keep h_self rfl) h_self)
    · exact h_self)
  · exact (Keeps.ite_keep (State.setPort_keep h_self rfl) h_self)
  · exact (by
    split
    · exact (Keeps.ite_keep (Keeps.ite_keep (State.setPort_keep h_self rfl) (State.setDelay_keep h_self rfl)) h_self)
    · exact h_self)
  · exact (by
    split
    · exact (Keeps.ite_keep (State.setDelay_keep h_self rfl) h_self)
    · exact h_self)
  · exact (State.announce_keep h_self rfl)
  · exact h_self))

theorem State.igmpReport_keep {mk : Nat} {sb s : State} (hk : Keeps mk sb s) (hmk : 128 ||| mk = mk) {net : Nat} {gs : List Nat} :
    Keeps mk sb (State.igmpReport s net gs) := by
  refine Keeps.step hk ?_ hmk
  have h_self : Keeps 128 s s := Keeps.refl
  unfold State.igmpReport
  exact (by
  split
  · exact h_self
  · extract_lets -merge -useContext -underBinder +onlyGivenNames l3 q4 s15
    have h_s15 : Keeps 128 s s15 := (Keeps.eth_keep h_self rfl)
    exact (Keeps.ite_keep h_self (State.each_keep h_s15 (fun x6_0 _ h_x6_0 => (State.ethQueue_keep h_x6_0 rfl)))))

theorem State.grpWritten_keep {mk : Nat} {sb s : State} (hk : Keeps mk sb s) (hmk : 128 ||| mk = mk) {s0 : State} {g : Nat} :
    Keeps mk sb (State.grpWritten s s0 g) := by
  refine Keeps.step hk ?_ hmk
  have h_self : Keeps 128 s s := Keeps.refl
  unfold State.grpWritten
  exact (State.each_keep h_self (fun x1_0 _ h_x1_0 => (Keeps.ite_keep (State.igmpReport_keep h_x1_0 rfl) h_x1_0)))

theorem execIgmpQuery_keep (p : Fin 4) (s : State) : KeepsOut 128 s (execIgmpQuery p s) := by
  have h_self : Keeps 128 s s := Keeps.refl
  unfold execIgmpQuery
  exact (KeepsOut.next (State.igmpReport_keep h_self rfl))

end Sys2Proof.Machine
end

