-- ==== Sys2Proof/Laws/KeepIsland.lean ====
section
/-! SUPPORT. What the functions of Machine/Island.lean leave alone (see Laws/Keeps.lean). -/

namespace Sys2Proof.Machine

open Sys2Proof

theorem State.modSaf_keep {mk : Nat} {sb s : State} (hk : Keeps mk sb s) (hmk : 1048576 ||| mk = mk) {f : SafState → SafState} :
    Keeps mk sb (State.modSaf s f) := by
  refine Keeps.step hk ?_ hmk
  have h_self : Keeps 1048576 s s := Keeps.refl
  unfold State.modSaf
  exact (Keeps.saf_keep h_self rfl)

theorem State.modCon_keep {mk : Nat} {sb s : State} (hk : Keeps mk sb s) (hmk : 1048576 ||| mk = mk) {m : Nat} {f : Contactor → Contactor} :
    Keeps mk sb (State.modCon s m f) := by
  refine Keeps.step hk ?_ hmk
  have h_self : Keeps 1048576 s s := Keeps.refl
  unfold State.modCon
  exact (State.modSaf_keep h_self rfl)

theorem State.modConn_keep {mk : Nat} {sb s : State} (hk : Keeps mk sb s) (hmk : 1048576 ||| mk = mk) {c : Nat} {f : Conn → Conn} :
    Keeps mk sb (State.modConn s c f) := by
  refine Keeps.step hk ?_ hmk
  have h_self : Keeps 1048576 s s := Keeps.refl
  unfold State.modConn
  exact (State.modSaf_keep h_self rfl)

theorem State.raiseIsl_keep {mk : Nat} {sb s : State} (hk : Keeps mk sb s) (hmk : 1050657 ||| mk = mk) {e : Nat} :
    Keeps mk sb (State.raiseIsl s e) := by
  refine Keeps.step hk ?_ hmk
  have h_self : Keeps 1050657 s s := Keeps.refl
  unfold State.raiseIsl
  exact (Keeps.ite_keep h_self (State.raise_keep (State.modSaf_keep h_self rfl) rfl))

theorem State.mrExtend_keep {mk : Nat} {sb s : State} (hk : Keeps mk sb s) (hmk : 1 ||| mk = mk) {r : Nat} {x : List Byte} :
    Keeps mk sb (State.mrExtend s r x) := by
  refine Keeps.step hk ?_ hmk
  have h_self : Keeps 1 s s := Keeps.refl
  unfold State.mrExtend
  exact (State.setWords_keep h_self rfl)

theorem State.islPublish_keep {mk : Nat} {sb s : State} (hk : Keeps mk sb s) (hmk : 1 ||| mk = mk) :
    Keeps mk sb (State.islPublish s) := by
  refine Keeps.step hk ?_ hmk
  have h_self : Keeps 1 s s := Keeps.refl
  unfold State.islPublish
  extract_lets -merge -useContext -underBinder +onlyGivenNames out1 fbc2 allOn3 av4 c05
  exact (State.put_keep (State.put_keep (State.put_keep (State.put_keep h_self rfl) rfl) rfl) rfl)

theorem State.islandSafe_keep {mk : Nat} {sb s : State} (hk : Keeps mk sb s) (hmk : 1050657 ||| mk = mk) {cause : Nat} :
    Keeps mk sb (State.islandSafe s cause) := by
  refine Keeps.step hk ?_ hmk
  have h_self : Keeps 1050657 s s := Keeps.refl
  unfold State.islandSafe
  extract_lets -merge -useContext -underBinder +onlyGivenNames s11 s22
  have h_s11 : Keeps 1050657 s s11 := (State.put_keep (State.put_keep h_self rfl) rfl)
  have h_s22 : Keeps 1050657 s s22 := (State.each_keep h_s11 (fun x3_0 _ h_x3_0 => by
    extract_lets -merge -useContext -underBinder +onlyGivenNames t4
    exact (State.when_keep (State.put_keep (State.modCon_keep h_x3_0 rfl) rfl) (fun x5_0 h_x5_0 => (State.put_keep h_x5_0 rfl)))))
  exact (Keeps.ite_keep h_self (State.raise_keep (State.islPublish_keep h_s22 rfl) rfl))

theorem execIslandSafeFault_keep (cause : Fin 5) (s : State) : KeepsOut 1050657 s (execIslandSafeFault cause s) := by
  have h_self : Keeps 1050657 s s := Keeps.refl
  unfold execIslandSafeFault
  exact (KeepsOut.next (State.islandSafe_keep h_self rfl))

theorem State.connRestart_keep {mk : Nat} {sb s : State} (hk : Keeps mk sb s) (hmk : 1048577 ||| mk = mk) {c : Nat} :
    Keeps mk sb (State.connRestart s c) := by
  refine Keeps.step hk ?_ hmk
  have h_self : Keeps 1048577 s s := Keeps.refl
  unfold State.connRestart
  extract_lets -merge -useContext -underBinder +onlyGivenNames st1
  exact (State.put_keep (State.modConn_keep h_self rfl) rfl)

theorem State.islandRun_keep {mk : Nat} {sb s : State} (hk : Keeps mk sb s) (hmk : 1050657 ||| mk = mk) :
    Keeps mk sb (State.islandRun s) := by
  refine Keeps.step hk ?_ hmk
  have h_self : Keeps 1050657 s s := Keeps.refl
  unfold State.islandRun
  extract_lets -merge -useContext -underBinder +onlyGivenNames s11 s22 s33
  have h_s11 : Keeps 1050657 s s11 := (State.putBit_keep (State.put_keep (State.put_keep h_self rfl) rfl) rfl)
  have h_s22 : Keeps 1050657 s s22 := (State.each_keep h_s11 (fun x4_0 _ h_x4_0 => (State.put_keep h_x4_0 rfl)))
  have h_s33 : Keeps 1050657 s s33 := (State.modSaf_keep (State.each_keep h_s22 (fun x5_0 _ h_x5_0 => (State.connRestart_keep h_x5_0 rfl))) rfl)
  exact (State.raise_keep (State.mrExtend_keep h_s33 rfl) rfl)

theorem State.clockCheck_keep {mk : Nat} {sb s : State} (hk : Keeps mk sb s) (hmk : 1050657 ||| mk = mk) {tcxo rc xtal : Int} :
    Keeps mk sb (State.clockCheck s tcxo rc xtal) := by
  refine Keeps.step hk ?_ hmk
  have h_self : Keeps 1050657 s s := Keeps.refl
  unfold State.clockCheck
  extract_lets -merge -useContext -underBinder +onlyGivenNames tr1 tx2 rx3
  exact (Keeps.ite_keep (State.islandSafe_keep h_self rfl) (Keeps.ite_keep (Keeps.ite_keep h_self (State.raise_keep (State.put_keep (State.put_keep h_self rfl) rfl) rfl)) (Keeps.ite_keep (State.setRaise_keep h_self rfl) (Keeps.ite_keep (State.setRaise_keep h_self rfl) h_self))))

theorem execClockMonitorCheck_keep (tcxo rc xtal : Int) (s : State) : KeepsOut 1050657 s (execClockMonitorCheck tcxo rc xtal s) := by
  have h_self : Keeps 1050657 s s := Keeps.refl
  unfold execClockMonitorCheck
  exact (KeepsOut.next (State.clockCheck_keep h_self rfl))

theorem State.inLock_keep {mk : Nat} {sb s : State} (hk : Keeps mk sb s) (hmk : 2081 ||| mk = mk) {n : Nat} :
    Keeps mk sb (State.inLock s n) := by
  refine Keeps.step hk ?_ hmk
  have h_self : Keeps 2081 s s := Keeps.refl
  unfold State.inLock
  exact (State.raise_keep (State.putBit_keep (State.putBit_keep (State.put_keep (State.put_keep h_self rfl) rfl) rfl) rfl) rfl)

theorem State.inputEval_keep {mk : Nat} {sb s : State} (hk : Keeps mk sb s) (hmk : 1050657 ||| mk = mk) {n : Nat} :
    Keeps mk sb (State.inputEval s n) := by
  refine Keeps.step hk ?_ hmk
  have h_self : Keeps 1050657 s s := Keeps.refl
  unfold State.inputEval
  extract_lets -merge -useContext -underBinder +onlyGivenNames a1 b2 st3 dst4 seen5 s16 d7 s18 t9
  have h_dst4 : ∀ z0 z1 z2, Keeps 1050657 s z0 → Keeps 1050657 s (dst4 z0 z1 z2) := (fun x10_0 _ _ h_x10_0 => (State.when_keep (State.modSaf_keep (State.put_keep h_x10_0 rfl) rfl) (fun x11_0 h_x11_0 => (State.raiseIsl_keep h_x11_0 rfl))))
  have h_s16 : Keeps 1050657 s s16 := (State.putB_keep h_self rfl)
  have h_s18 : Keeps 1050657 s s18 := (Keeps.ite_keep (h_dst4 _ _ _ h_self) (Keeps.ite_keep (h_dst4 _ _ _ h_self) (Keeps.ite_keep (Keeps.ite_keep (h_dst4 _ _ _ h_s16) h_s16) (Keeps.ite_keep (Keeps.ite_keep (State.inLock_keep (h_dst4 _ _ _ h_self) rfl) (h_dst4 _ _ _ h_self)) (h_dst4 _ _ _ h_self)))))
  exact (State.putBit_keep (State.putBit_keep h_s18 rfl) rfl)

theorem execDiscrepancyLock_keep (n : Fin 32) (s : State) : KeepsOut 1050657 s (execDiscrepancyLock n s) := by
  have h_self : Keeps 1050657 s s := Keeps.refl
  unfold execDiscrepancyLock
  exact (KeepsOut.next (Keeps.ite_keep (State.inLock_keep (State.modSaf_keep h_self rfl) rfl) h_self))

theorem State.coTo_keep {mk : Nat} {sb s : State} (hk : Keeps mk sb s) (hmk : 1048577 ||| mk = mk) {m st : Nat} :
    Keeps mk sb (State.coTo s m st) := by
  refine Keeps.step hk ?_ hmk
  have h_self : Keeps 1048577 s s := Keeps.refl
  unfold State.coTo
  exact (State.put_keep (State.modCon_keep h_self rfl) rfl)

theorem State.cat0Mark_keep {mk : Nat} {sb s : State} (hk : Keeps mk sb s) (hmk : 1 ||| mk = mk) {m : Nat} :
    Keeps mk sb (State.cat0Mark s m) := by
  refine Keeps.step hk ?_ hmk
  have h_self : Keeps 1 s s := Keeps.refl
  unfold State.cat0Mark
  extract_lets -merge -useContext -underBinder +onlyGivenNames i1
  exact (Keeps.ite_keep (State.putBit_keep h_self rfl) h_self)

theorem State.coLock_keep {mk : Nat} {sb s : State} (hk : Keeps mk sb s) (hmk : 1050657 ||| mk = mk) {m cause : Nat} :
    Keeps mk sb (State.coLock s m cause) := by
  refine Keeps.step hk ?_ hmk
  have h_self : Keeps 1050657 s s := Keeps.refl
  unfold State.coLock
  exact (State.raise_keep (State.putBit_keep (State.put_keep (State.coTo_keep (State.cat0Mark_keep h_self rfl) rfl) rfl) rfl) rfl)

theorem State.coReset_keep {mk : Nat} {sb s : State} (hk : Keeps mk sb s) (hmk : 1050657 ||| mk = mk) {m : Nat} {dem : Bool} :
    Keeps mk sb (State.coReset s m dem) := by
  refine Keeps.step hk ?_ hmk
  have h_self : Keeps 1050657 s s := Keeps.refl
  unfold State.coReset
  extract_lets -merge -useContext -underBinder +onlyGivenNames st1
  exact (Keeps.ite_keep (State.raise_keep (State.putBit_keep (State.put_keep (State.coTo_keep h_self rfl) rfl) rfl) rfl) (State.raiseIsl_keep (State.put_keep h_self rfl) rfl))

theorem State.coTick_keep {mk : Nat} {sb s0 : State} (hk : Keeps mk sb s0) (hmk : 1050657 ||| mk = mk) {m : Nat} {dem rst : Bool} :
    Keeps mk sb (State.coTick s0 m dem rst) := by
  refine Keeps.step hk ?_ hmk
  have h_self : Keeps 1050657 s0 s0 := Keeps.refl
  unfold State.coTick
  extract_lets -merge -useContext -underBinder +onlyGivenNames s1 c2 st3 cause4 req5 s6
  have h_s1 : Keeps 1050657 s0 s1 := (State.modCon_keep h_self rfl)
  have h_s6 : Keeps 1050657 s0 s6 := (State.when_keep h_s1 (fun x7_0 h_x7_0 => (State.coReset_keep h_x7_0 rfl)))
  exact (Keeps.ite_keep (State.when_keep (State.putBit_keep (State.coTo_keep h_s1 rfl) rfl) (fun x8_0 h_x8_0 => (State.coReset_keep h_x8_0 rfl))) (Keeps.ite_keep (State.when_keep (State.coTo_keep h_s1 rfl) (fun x9_0 h_x9_0 => (State.raiseIsl_keep (State.put_keep h_x9_0 rfl) rfl))) (Keeps.ite_keep (State.when_keep (State.coLock_keep h_s1 rfl) (fun x10_0 h_x10_0 => (State.raiseIsl_keep (State.put_keep h_x10_0 rfl) rfl))) (by
  clear_value st3
  split
  · exact (Keeps.ite_keep (State.coTo_keep h_s6 rfl) (Keeps.ite_keep (State.coTo_keep h_s6 rfl) h_s6))
  · exact (Keeps.ite_keep (State.coTo_keep h_s6 rfl) (Keeps.ite_keep (State.coTo_keep h_s6 rfl) (Keeps.ite_keep (State.coTo_keep h_s6 rfl) h_s6)))
  · exact (Keeps.ite_keep (Keeps.ite_keep (State.coTo_keep h_s6 rfl) (State.coTo_keep (State.cat0Mark_keep h_s6 rfl) rfl)) (Keeps.ite_keep (State.coTo_keep h_s6 rfl) h_s6))
  · exact (Keeps.ite_keep (State.coTo_keep h_s6 rfl) h_s6)
  · exact (Keeps.ite_keep (State.coTo_keep h_s6 rfl) h_s6)
  · exact (Keeps.ite_keep (State.coTo_keep h_s6 rfl) h_s6)
  · exact h_s6))))

theorem execContactorFeedbackTimeout_keep (m : Fin 16) (s : State) : KeepsOut 1050657 s (execContactorFeedbackTimeout m s) := by
  have h_self : Keeps 1050657 s s := Keeps.refl
  unfold execContactorFeedbackTimeout
  extract_lets -merge -useContext -underBinder +onlyGivenNames c1 st2 late3
  exact (KeepsOut.next (Keeps.ite_keep (State.islPublish_keep (State.coLock_keep h_self rfl) rfl) h_self))

theorem execCat1DelayExpiry_keep (m : Fin 16) (s : State) : KeepsOut 1048577 s (execCat1DelayExpiry m s) := by
  have h_self : Keeps 1048577 s s := Keeps.refl
  unfold execCat1DelayExpiry
  exact (KeepsOut.next (Keeps.ite_keep (State.islPublish_keep (State.coTo_keep h_self rfl) rfl) h_self))

theorem State.coAll_keep {mk : Nat} {sb s : State} (hk : Keeps mk sb s) (hmk : 1050657 ||| mk = mk) {rst : Nat} :
    Keeps mk sb (State.coAll s rst) := by
  refine Keeps.step hk ?_ hmk
  have h_self : Keeps 1050657 s s := Keeps.refl
  unfold State.coAll
  extract_lets -merge -useContext -underBinder +onlyGivenNames locked1
  exact (State.each_keep h_self (fun x2_0 _ h_x2_0 => (State.coTick_keep h_x2_0 rfl)))

theorem State.coResets_keep {mk : Nat} {sb s : State} (hk : Keeps mk sb s) (hmk : 1050657 ||| mk = mk) {mask : Nat} :
    Keeps mk sb (State.coResets s mask) := by
  refine Keeps.step hk ?_ hmk
  have h_self : Keeps 1050657 s s := Keeps.refl
  unfold State.coResets
  extract_lets -merge -useContext -underBinder +onlyGivenNames locked1
  exact (State.islPublish_keep (State.each_keep h_self (fun x2_0 _ h_x2_0 => (State.coReset_keep h_x2_0 rfl))) rfl)

theorem execResetInputRelease_keep (r : Fin 4) (s : State) : KeepsOut 1050657 s (execResetInputRelease r s) := by
  have h_self : Keeps 1050657 s s := Keeps.refl
  unfold execResetInputRelease
  extract_lets -merge -useContext -underBinder +onlyGivenNames n1 s12
  have h_s12 : Keeps 1050657 s s12 := (State.modSaf_keep h_self rfl)
  exact (KeepsOut.next (Keeps.ite_keep (Keeps.ite_keep (State.coResets_keep h_s12 rfl) h_s12) h_self))

theorem execResetInputStuck_keep (r : Fin 4) (s : State) : KeepsOut 1 s (execResetInputStuck r s) := by
  have h_self : Keeps 1 s s := Keeps.refl
  unfold execResetInputStuck
  exact (KeepsOut.next (Keeps.ite_keep (State.putBit_keep h_self rfl) h_self))

theorem State.safReset_keep {mk : Nat} {sb s : State} (hk : Keeps mk sb s) (hmk : 1050657 ||| mk = mk) {mask : Nat} :
    Keeps mk sb (State.safReset s mask) := by
  refine Keeps.step hk ?_ hmk
  have h_self : Keeps 1050657 s s := Keeps.refl
  unfold State.safReset
  extract_lets -merge -useContext -underBinder +onlyGivenNames m1
  exact (Keeps.ite_keep (State.modSaf_keep h_self rfl) (State.when_keep h_self (fun x2_0 h_x2_0 => (State.raiseIsl_keep (State.put_keep h_x2_0 rfl) rfl))))

theorem execSafHostReset_keep (mask : BitVec 16) (s : State) : KeepsOut 1050657 s (execSafHostReset mask s) := by
  have h_self : Keeps 1050657 s s := Keeps.refl
  unfold execSafHostReset
  exact (KeepsOut.next (Keeps.ite_keep (State.coResets_keep h_self rfl) (State.safReset_keep h_self rfl)))

theorem State.safConnRst_keep {mk : Nat} {sb s : State} (hk : Keeps mk sb s) (hmk : 1048577 ||| mk = mk) {mask : Nat} :
    Keeps mk sb (State.safConnRst s mask) := by
  refine Keeps.step hk ?_ hmk
  have h_self : Keeps 1048577 s s := Keeps.refl
  unfold State.safConnRst
  exact (State.each_keep h_self (fun x1_0 _ h_x1_0 => (Keeps.ite_keep (State.put_keep (State.modConn_keep h_x1_0 rfl) rfl) h_x1_0)))

theorem execSafConnrst_keep (mask : BitVec 8) (s : State) : KeepsOut 1048577 s (execSafConnrst mask s) := by
  have h_self : Keeps 1048577 s s := Keeps.refl
  unfold execSafConnrst
  exact (KeepsOut.next (State.safConnRst_keep h_self rfl))

theorem State.pduSend_keep {mk : Nat} {sb s : State} (hk : Keeps mk sb s) (hmk : 1048705 ||| mk = mk) {c : Nat} :
    Keeps mk sb (State.pduSend s c) := by
  refine Keeps.step hk ?_ hmk
  have h_self : Keeps 1048705 s s := Keeps.refl
  unfold State.pduSend
  extract_lets -merge -useContext -underBinder +onlyGivenNames x1 permit2 h3 pdu4 s15
  have h_s15 : Keeps 1048705 s s15 := (State.each_keep h_self (fun x6_0 _ h_x6_0 => (by
    split
    · exact (Keeps.ite_keep (State.ethQueue_keep h_x6_0 rfl) h_x6_0)
    · exact h_x6_0)))
  exact (State.put_keep (State.put_keep (State.modConn_keep h_s15 rfl) rfl) rfl)

theorem execSafePduSend_keep (c : Fin 8) (s : State) : KeepsOut 1048705 s (execSafePduSend c s) := by
  have h_self : Keeps 1048705 s s := Keeps.refl
  unfold execSafePduSend
  extract_lets -merge -useContext -underBinder +onlyGivenNames k1
  exact (KeepsOut.next (Keeps.ite_keep (State.modConn_keep (State.pduSend_keep h_self rfl) rfl) h_self))

theorem State.copyMissing_keep {mk : Nat} {sb s : State} (hk : Keeps mk sb s) (hmk : 1050657 ||| mk = mk) {c net : Nat} :
    Keeps mk sb (State.copyMissing s c net) := by
  refine Keeps.step hk ?_ hmk
  have h_self : Keeps 1050657 s s := Keeps.refl
  unfold State.copyMissing
  extract_lets -merge -useContext -underBinder +onlyGivenNames k1 s12
  have h_s12 : Keeps 1050657 s s12 := (State.inc_keep (State.modConn_keep h_self rfl) rfl)
  exact (Keeps.ite_keep (State.raiseIsl_keep (State.put_keep h_s12 rfl) rfl) h_s12)

theorem State.copySeen_keep {mk : Nat} {sb s : State} (hk : Keeps mk sb s) (hmk : 1048577 ||| mk = mk) {c net : Nat} :
    Keeps mk sb (State.copySeen s c net) := by
  refine Keeps.step hk ?_ hmk
  have h_self : Keeps 1048577 s s := Keeps.refl
  unfold State.copySeen
  exact (State.put_keep (State.modConn_keep h_self rfl) rfl)

theorem State.copyExpire_keep {mk : Nat} {sb s : State} (hk : Keeps mk sb s) (hmk : 1050657 ||| mk = mk) {c now10 : Nat} :
    Keeps mk sb (State.copyExpire s c now10) := by
  refine Keeps.step hk ?_ hmk
  have h_self : Keeps 1050657 s s := Keeps.refl
  unfold State.copyExpire
  exact (by
  split
  · exact (Keeps.ite_keep (State.copyMissing_keep h_self rfl) h_self)
  · exact h_self)

theorem execCopyWindowExpiry_keep (c : Fin 8) (s : State) : KeepsOut 1050657 s (execCopyWindowExpiry c s) := by
  have h_self : Keeps 1050657 s s := Keeps.refl
  unfold execCopyWindowExpiry
  exact (KeepsOut.next (State.copyExpire_keep h_self rfl))

theorem State.pduAccept_keep {mk : Nat} {sb s0 : State} (hk : Keeps mk sb s0) (hmk : 1050657 ||| mk = mk) {c net at10 : Nat} {b : List Byte} :
    Keeps mk sb (State.pduAccept s0 c net at10 b) := by
  refine Keeps.step hk ?_ hmk
  have h_self : Keeps 1050657 s0 s0 := Keeps.refl
  unfold State.pduAccept
  extract_lets -merge -useContext -underBinder +onlyGivenNames both1 s2 s13 s24 st5
  have h_s2 : Keeps 1050657 s0 s2 := (by
  unfold s2
  split
  · exact (State.copyMissing_keep h_self rfl)
  · exact h_self)
  have h_s13 : Keeps 1050657 s0 s13 := (State.put_keep (State.put_keep (State.put_keep h_s2 rfl) rfl) rfl)
  have h_s24 : Keeps 1050657 s0 s24 := (State.modConn_keep h_s13 rfl)
  exact (State.when_keep (State.when_keep h_s24 (fun x9_0 h_x9_0 => (State.copySeen_keep h_x9_0 rfl))) (fun x8_0 h_x8_0 => (State.put_keep h_x8_0 rfl)))

theorem State.pduAt_keep {mk : Nat} {sb s : State} (hk : Keeps mk sb s) (hmk : 1050657 ||| mk = mk) {c net at10 : Nat} {b : List Byte} :
    Keeps mk sb (State.pduAt s c net at10 b) := by
  refine Keeps.step hk ?_ hmk
  have h_self : Keeps 1050657 s s := Keeps.refl
  unfold State.pduAt
  extract_lets -merge -useContext -underBinder +onlyGivenNames st1 d2
  exact (Keeps.ite_keep h_self (Keeps.ite_keep (State.inc_keep h_self rfl) (Keeps.ite_keep h_self (Keeps.ite_keep (State.pduAccept_keep h_self rfl) (Keeps.ite_keep (by
  split
  · exact h_self
  · exact (Keeps.ite_keep h_self (Keeps.ite_keep (State.copyMissing_keep h_self rfl) (Keeps.ite_keep (State.copySeen_keep (State.modConn_keep h_self rfl) rfl) (State.raise_keep (State.put_keep (State.modConn_keep h_self rfl) rfl) rfl))))) (Keeps.ite_keep (State.pduAccept_keep h_self rfl) (State.inc_keep h_self rfl)))))))

theorem State.pduTake_keep {mk : Nat} {sb s : State} (hk : Keeps mk sb s) (hmk : 1050657 ||| mk = mk) {net at10 : Nat} {b : List Byte} :
    Keeps mk sb (State.pduTake s net at10 b) := by
  refine Keeps.step hk ?_ hmk
  have h_self : Keeps 1050657 s s := Keeps.refl
  unfold State.pduTake
  exact (Keeps.ite_keep (State.each_keep h_self (fun x1_0 _ h_x1_0 => (State.pduAt_keep h_x1_0 rfl))) h_self)

theorem execSafePduReceived_keep (net : Fin 2) (pdu : List Byte) (at10 : Fin 100) (s : State) : KeepsOut 1050657 s (execSafePduReceived net pdu at10 s) := by
  have h_self : Keeps 1050657 s s := Keeps.refl
  unfold execSafePduReceived
  exact (KeepsOut.next (State.pduTake_keep h_self rfl))

theorem State.connTimeout_keep {mk : Nat} {sb s : State} (hk : Keeps mk sb s) (hmk : 1050657 ||| mk = mk) {c : Nat} :
    Keeps mk sb (State.connTimeout s c) := by
  refine Keeps.step hk ?_ hmk
  have h_self : Keeps 1050657 s s := Keeps.refl
  unfold State.connTimeout
  extract_lets -merge -useContext -underBinder +onlyGivenNames s11
  have h_s11 : Keeps 1050657 s s11 := (State.modConn_keep h_self rfl)
  exact (Keeps.ite_keep (State.raise_keep (State.put_keep h_s11 rfl) rfl) h_s11)

theorem execConnectionWatchdogExpiry_keep (c : Fin 8) (s : State) : KeepsOut 1050657 s (execConnectionWatchdogExpiry c s) := by
  have h_self : Keeps 1050657 s s := Keeps.refl
  unfold execConnectionWatchdogExpiry
  exact (KeepsOut.next (Keeps.ite_keep (State.connTimeout_keep h_self rfl) h_self))

theorem State.islandApply_keep {mk : Nat} {sb s : State} (hk : Keeps mk sb s) (hmk : 1050657 ||| mk = mk) {l : List (Nat × Nat × Nat)} :
    Keeps mk sb (State.islandApply s l) := by
  refine Keeps.step hk ?_ hmk
  have h_self : Keeps 1050657 s s := Keeps.refl
  unfold State.islandApply
  extract_lets -merge -useContext -underBinder +onlyGivenNames new1 hit2 si3 sc4 s15 s26 s37 touched8 s49
  have h_s15 : Keeps 1050657 s s15 := (State.each_keep h_self (fun x10_0 _ h_x10_0 => (State.setWord_keep h_x10_0 rfl)))
  have h_s26 : Keeps 1050657 s s26 := (State.each_keep h_s15 (fun x11_0 _ h_x11_0 => (State.put_keep (State.when_keep h_x11_0 (fun x12_0 h_x12_0 => (State.raiseIsl_keep h_x12_0 rfl))) rfl)))
  have h_s37 : Keeps 1050657 s s37 := (State.each_keep h_s26 (fun x13_0 _ h_x13_0 => (State.connRestart_keep h_x13_0 rfl)))
  have h_s49 : Keeps 1050657 s s49 := (State.each_keep h_s37 (fun x14_0 _ h_x14_0 => by
    extract_lets -merge -useContext -underBinder +onlyGivenNames st15
    exact (Keeps.ite_keep h_x14_0 (State.coTo_keep (State.cat0Mark_keep h_x14_0 rfl) rfl))))
  exact (State.raise_keep h_s49 rfl)

theorem State.cfgApply_keep {mk : Nat} {sb s : State} (hk : Keeps mk sb s) (hmk : 1050657 ||| mk = mk) {ok : Bool} :
    Keeps mk sb (State.cfgApply s ok) := by
  refine Keeps.step hk ?_ hmk
  have h_self : Keeps 1050657 s s := Keeps.refl
  unfold State.cfgApply
  exact (by
  split
  · exact h_self
  · extract_lets -merge -useContext -underBinder +onlyGivenNames s13
    have h_s13 : Keeps 1050657 s s13 := (State.modSaf_keep h_self rfl)
    exact (Keeps.ite_keep (State.islandApply_keep h_s13 rfl) (State.islandSafe_keep h_s13 rfl)))

theorem execIslandConfigApply_keep (ok : Bool) (s : State) : KeepsOut 1050657 s (execIslandConfigApply ok s) := by
  have h_self : Keeps 1050657 s s := Keeps.refl
  unfold execIslandConfigApply
  exact (KeepsOut.next (Keeps.ite_keep (State.cfgApply_keep h_self rfl) h_self))

theorem State.islSample_keep {mk : Nat} {sb s : State} (hk : Keeps mk sb s) (hmk : 1048577 ||| mk = mk) {a b fb rb srst : Nat} :
    Keeps mk sb (State.islSample s a b fb rb srst) := by
  refine Keeps.step hk ?_ hmk
  have h_self : Keeps 1048577 s s := Keeps.refl
  unfold State.islSample
  extract_lets -merge -useContext -underBinder +onlyGivenNames s11 s22
  have h_s11 : Keeps 1048577 s s11 := (State.each_keep h_self (fun x3_0 _ h_x3_0 => (State.putB_keep (State.putB_keep h_x3_0 rfl) rfl)))
  have h_s22 : Keeps 1048577 s s22 := (State.each_keep h_s11 (fun x4_0 _ h_x4_0 => by
    extract_lets -merge -useContext -underBinder +onlyGivenNames s15
    have h_s15 : Keeps 1048577 s s15 := (State.modCon_keep h_x4_0 rfl)
    exact (State.putB_keep (State.putB_keep h_s15 rfl) rfl)))
  exact (State.put_keep h_s22 rfl)

theorem State.islPress_keep {mk : Nat} {sb s : State} (hk : Keeps mk sb s) (hmk : 1048577 ||| mk = mk) {srst : Nat} :
    Keeps mk sb (State.islPress s srst).1 := by
  refine Keeps.step hk ?_ hmk
  have h_self : Keeps 1048577 s s := Keeps.refl
  unfold State.islPress
  exact (Keeps.foldl_fst_keep (Keeps.mk_fst h_self) (fun x1_0 _ h_x1_0 => by
    extract_lets -merge -useContext -underBinder +onlyGivenNames s2 n3 s14
    have h_s2 : Keeps 1048577 s s2 := h_x1_0
    have h_s14 : Keeps 1048577 s s14 := (State.modSaf_keep h_s2 rfl)
    exact (Keeps.ite_fst (Keeps.mk_fst (State.modSaf_keep h_s2 rfl)) (Keeps.ite_fst (Keeps.mk_fst (State.when_keep h_s14 (fun x5_0 h_x5_0 => (State.putBit_keep h_x5_0 rfl)))) (Keeps.mk_fst (State.modSaf_keep h_s2 rfl))))))

theorem State.islWatch_keep {mk : Nat} {sb s : State} (hk : Keeps mk sb s) (hmk : 1050657 ||| mk = mk) {now10 : Nat} :
    Keeps mk sb (State.islWatch s now10) := by
  refine Keeps.step hk ?_ hmk
  have h_self : Keeps 1050657 s s := Keeps.refl
  unfold State.islWatch
  exact (State.each_keep h_self (fun x1_0 _ h_x1_0 => by
    extract_lets -merge -useContext -underBinder +onlyGivenNames s12 st3
    have h_s12 : Keeps 1050657 s s12 := (State.copyExpire_keep h_x1_0 rfl)
    exact (Keeps.ite_keep (State.connTimeout_keep h_s12 rfl) h_s12)))

theorem State.islandTick_keep {mk : Nat} {sb s0 : State} (hk : Keeps mk sb s0) (hmk : 1050785 ||| mk = mk) {a b fb rb srst : Nat} :
    Keeps mk sb (State.islandTick s0 a b fb rb srst) := by
  refine Keeps.step hk ?_ hmk
  have h_self : Keeps 1050785 s0 s0 := Keeps.refl
  unfold State.islandTick
  extract_lets -merge -useContext -underBinder +onlyGivenNames s1 now102 s13 s24 s35 s46 p7 s58
  have h_s1 : Keeps 1050785 s0 s1 := (State.modSaf_keep h_self rfl)
  have h_s13 : Keeps 1050785 s0 s13 := (State.islSample_keep (State.cfgApply_keep (State.modSaf_keep h_s1 rfl) rfl) rfl)
  have h_s24 : Keeps 1050785 s0 s24 := (State.each_keep h_s13 (fun x9_0 _ h_x9_0 => (State.modConn_keep h_x9_0 rfl)))
  have h_s35 : Keeps 1050785 s0 s35 := (State.islWatch_keep (State.each_keep h_s24 (fun x10_0 _ h_x10_0 => (State.pduTake_keep h_x10_0 rfl))) rfl)
  have h_s46 : Keeps 1050785 s0 s46 := (State.each_keep h_s35 (fun x11_0 _ h_x11_0 => (State.inputEval_keep h_x11_0 rfl)))
  have h_p7 : Keeps 1050785 s0 p7.1 := Keeps.proj (State.islPress_keep h_s46 rfl) rfl
  have h_s58 : Keeps 1050785 s0 s58 := (State.islPublish_keep (State.coAll_keep h_p7 rfl) rfl)
  exact (Keeps.ite_keep h_s1 (Keeps.ite_keep (State.when_keep h_s1 (fun x12_0 h_x12_0 => (State.islPublish_keep (State.islSample_keep h_x12_0 rfl) rfl))) (State.each_keep h_s58 (fun x13_0 _ h_x13_0 => (State.when_keep h_x13_0 (fun x14_0 h_x14_0 => (State.pduSend_keep h_x14_0 rfl)))))))

theorem execIslandTick_keep (a b : Word) (fb rb : BitVec 16) (srst : BitVec 4) (s : State) : KeepsOut 1050785 s (execIslandTick a b fb rb srst s) := by
  have h_self : Keeps 1050785 s s := Keeps.refl
  unfold execIslandTick
  exact (KeepsOut.next (State.islandTick_keep h_self rfl))

end Sys2Proof.Machine
end

