-- ==== Sys2Proof/Laws/KeepSeal.lean ====
section
/-! SUPPORT. What the functions of Machine/Seal.lean leave alone (see Laws/Keeps.lean). -/

namespace Sys2Proof.Machine

open Sys2Proof

theorem State.modSeal_keep {mk : Nat} {sb s : State} (hk : Keeps mk sb s) (hmk : 2097152 ||| mk = mk) {f : SealState → SealState} :
    Keeps mk sb (State.modSeal s f) := by
  refine Keeps.step hk ?_ hmk
  have h_self : Keeps 2097152 s s := Keeps.refl
  unfold State.modSeal
  exact (Keeps.sld_keep h_self rfl)

theorem State.putMeas_keep {mk : Nat} {sb s : State} (hk : Keeps mk sb s) (hmk : 1 ||| mk = mk) :
    Keeps mk sb (State.putMeas s) := by
  refine Keeps.step hk ?_ hmk
  have h_self : Keeps 1 s s := Keeps.refl
  unfold State.putMeas
  exact (State.setWords_keep h_self rfl)

theorem State.putPend_keep {mk : Nat} {sb s : State} (hk : Keeps mk sb s) (hmk : 1 ||| mk = mk) :
    Keeps mk sb (State.putPend s) := by
  refine Keeps.step hk ?_ hmk
  have h_self : Keeps 1 s s := Keeps.refl
  unfold State.putPend
  exact (State.put_keep h_self rfl)

theorem State.pwClear_keep {mk : Nat} {sb s : State} (hk : Keeps mk sb s) (hmk : 2097152 ||| mk = mk) :
    Keeps mk sb (State.pwClear s) := by
  refine Keeps.step hk ?_ hmk
  have h_self : Keeps 2097152 s s := Keeps.refl
  unfold State.pwClear
  exact (State.modSeal_keep h_self rfl)

theorem State.sealShow_keep {mk : Nat} {sb s : State} (hk : Keeps mk sb s) (hmk : 1 ||| mk = mk) :
    Keeps mk sb (State.sealShow s) := by
  refine Keeps.step hk ?_ hmk
  have h_self : Keeps 1 s s := Keeps.refl
  unfold State.sealShow
  extract_lets -merge -useContext -underBinder +onlyGivenNames s11
  have h_s11 : Keeps 1 s s11 := (by
  unfold s11
  split
  · exact (State.put_keep (State.put_keep (State.put_keep h_self rfl) rfl) rfl)
  · exact h_self)
  exact (State.put_keep h_s11 rfl)

theorem State.sealOpened_keep {mk : Nat} {sb s : State} (hk : Keeps mk sb s) (hmk : 2099233 ||| mk = mk) {port : Nat} :
    Keeps mk sb (State.sealOpened s port) := by
  refine Keeps.step hk ?_ hmk
  have h_self : Keeps 2099233 s s := Keeps.refl
  unfold State.sealOpened
  exact (State.raise_keep (State.modSeal_keep (State.put_keep (State.put_keep h_self rfl) rfl) rfl) rfl)

theorem State.sealLeave_keep {mk : Nat} {sb s : State} (hk : Keeps mk sb s) (hmk : 2099233 ||| mk = mk) :
    Keeps mk sb (State.sealLeave s) := by
  refine Keeps.step hk ?_ hmk
  have h_self : Keeps 2099233 s s := Keeps.refl
  unfold State.sealLeave
  extract_lets -merge -useContext -underBinder +onlyGivenNames st1
  exact (State.raise_keep (State.pwClear_keep (State.putPend_keep (State.modSeal_keep (State.put_keep (State.put_keep h_self rfl) rfl) rfl) rfl) rfl) rfl)

theorem State.sealShut_keep {mk : Nat} {sb s : State} (hk : Keeps mk sb s) (hmk : 2099233 ||| mk = mk) :
    Keeps mk sb (State.sealShut s) := by
  refine Keeps.step hk ?_ hmk
  have h_self : Keeps 2099233 s s := Keeps.refl
  unfold State.sealShut
  exact (Keeps.ite_keep (State.sealLeave_keep h_self rfl) (Keeps.ite_keep (State.modSeal_keep h_self rfl) h_self))

theorem State.sealLinkLoss_keep {mk : Nat} {sb s : State} (hk : Keeps mk sb s) (hmk : 2099233 ||| mk = mk) {port : Nat} :
    Keeps mk sb (State.sealLinkLoss s port) := by
  refine Keeps.step hk ?_ hmk
  have h_self : Keeps 2099233 s s := Keeps.refl
  unfold State.sealLinkLoss
  exact (Keeps.ite_keep (State.sealShut_keep h_self rfl) h_self)

theorem State.sealIdle_keep {mk : Nat} {sb s : State} (hk : Keeps mk sb s) (hmk : 2099233 ||| mk = mk) :
    Keeps mk sb (State.sealIdle s) := by
  refine Keeps.step hk ?_ hmk
  have h_self : Keeps 2099233 s s := Keeps.refl
  unfold State.sealIdle
  exact (Keeps.ite_keep (State.sealShut_keep h_self rfl) h_self)

theorem execSealIdleTimeout_keep (s : State) : KeepsOut 35657825 s (execSealIdleTimeout s) := by
  have h_self : Keeps 35657825 s s := Keeps.refl
  unfold execSealIdleTimeout
  exact (KeepsOut.next (Keeps.ite_keep (State.sealIdle_keep (State.runInside_keep h_self rfl) rfl) h_self))

theorem State.sealErr_keep {mk : Nat} {sb s : State} (hk : Keeps mk sb s) (hmk : 1 ||| mk = mk) {f : Fld} :
    Keeps mk sb (State.sealErr s f) := by
  refine Keeps.step hk ?_ hmk
  have h_self : Keeps 1 s s := Keeps.refl
  unfold State.sealErr
  exact (State.put_keep h_self rfl)

theorem State.sealTouch_keep {mk : Nat} {sb s : State} (hk : Keeps mk sb s) (hmk : 2097152 ||| mk = mk) {port : Nat} :
    Keeps mk sb (State.sealTouch s port) := by
  refine Keeps.step hk ?_ hmk
  have h_self : Keeps 2097152 s s := Keeps.refl
  unfold State.sealTouch
  exact (State.when_keep h_self (fun x1_0 h_x1_0 => (State.modSeal_keep h_x1_0 rfl)))

theorem State.sealOpen_keep {mk : Nat} {sb s : State} (hk : Keeps mk sb s) (hmk : 2097153 ||| mk = mk) {port : Nat} :
    Keeps mk sb (State.sealOpen s port) := by
  refine Keeps.step hk ?_ hmk
  have h_self : Keeps 2097153 s s := Keeps.refl
  unfold State.sealOpen
  exact (Keeps.ite_keep (State.sealErr_keep h_self rfl) (Keeps.ite_keep (State.pwClear_keep (State.sealErr_keep h_self rfl) rfl) (Keeps.ite_keep (State.pwClear_keep (State.sealErr_keep h_self rfl) rfl) (Keeps.ite_keep (State.pwClear_keep (State.sealErr_keep h_self rfl) rfl) (State.pwClear_keep (State.inc_keep (State.modSeal_keep h_self rfl) rfl) rfl)))))

theorem State.backoffStart_keep {mk : Nat} {sb s : State} (hk : Keeps mk sb s) (hmk : 2097153 ||| mk = mk) :
    Keeps mk sb (State.backoffStart s) := by
  refine Keeps.step hk ?_ hmk
  have h_self : Keeps 2097153 s s := Keeps.refl
  unfold State.backoffStart
  exact (Keeps.ite_keep h_self (State.modSeal_keep (State.put_keep (State.put_keep h_self rfl) rfl) rfl))

theorem State.pwChecked_keep {mk : Nat} {sb s : State} (hk : Keeps mk sb s) (hmk : 2099233 ||| mk = mk) :
    Keeps mk sb (State.pwChecked s) := by
  refine Keeps.step hk ?_ hmk
  have h_self : Keeps 2099233 s s := Keeps.refl
  unfold State.pwChecked
  exact (by
  split
  · exact h_self
  · extract_lets -merge -useContext -underBinder +onlyGivenNames s13 ok4
    have h_s13 : Keeps 2099233 s s13 := (State.modSeal_keep h_self rfl)
    exact (Keeps.ite_keep (State.sealOpened_keep (State.put_keep h_s13 rfl) rfl) (State.backoffStart_keep (State.raise_keep (State.sealErr_keep h_s13 rfl) rfl) rfl)))

theorem execPasswordCheckComplete_keep (s : State) : KeepsOut 2099233 s (execPasswordCheckComplete s) := by
  have h_self : Keeps 2099233 s s := Keeps.refl
  unfold execPasswordCheckComplete
  exact (KeepsOut.next (State.pwChecked_keep h_self rfl))

theorem State.backoffRun_keep {mk : Nat} {sb s : State} (hk : Keeps mk sb s) (hmk : 1 ||| mk = mk) :
    Keeps mk sb (State.backoffRun s) := by
  refine Keeps.step hk ?_ hmk
  have h_self : Keeps 1 s s := Keeps.refl
  unfold State.backoffRun
  extract_lets -merge -useContext -underBinder +onlyGivenNames left1
  exact (Keeps.ite_keep (State.when_keep (State.put_keep h_self rfl) (fun x2_0 h_x2_0 => (State.put_keep h_x2_0 rfl))) h_self)

theorem execBackoffExpiry_keep (s : State) : KeepsOut 33558593 s (execBackoffExpiry s) := by
  have h_self : Keeps 33558593 s s := Keeps.refl
  unfold execBackoffExpiry
  exact (KeepsOut.next (Keeps.ite_keep (State.backoffRun_keep (State.runInside_keep h_self rfl) rfl) h_self))

theorem execSealOpen_keep (port : Fin 2) (s : State) : KeepsOut 2097153 s (execSealOpen port s) := by
  have h_self : Keeps 2097153 s s := Keeps.refl
  unfold execSealOpen
  exact (KeepsOut.next (State.sealOpen_keep (State.sealTouch_keep h_self rfl) rfl))

theorem State.sealClose_keep {mk : Nat} {sb s : State} (hk : Keeps mk sb s) (hmk : 2099233 ||| mk = mk) {port : Nat} :
    Keeps mk sb (State.sealClose s port) := by
  refine Keeps.step hk ?_ hmk
  have h_self : Keeps 2099233 s s := Keeps.refl
  unfold State.sealClose
  exact (Keeps.ite_keep (State.sealShut_keep h_self rfl) (State.sealErr_keep h_self rfl))

theorem execSealClose_keep (port : Fin 2) (s : State) : KeepsOut 2099233 s (execSealClose port s) := by
  have h_self : Keeps 2099233 s s := Keeps.refl
  unfold execSealClose
  exact (KeepsOut.next (State.sealClose_keep h_self rfl))

theorem State.sealSetpw_keep {mk : Nat} {sb s : State} (hk : Keeps mk sb s) (hmk : 2099241 ||| mk = mk) {port : Nat} :
    Keeps mk sb (State.sealSetpw s port) := by
  refine Keeps.step hk ?_ hmk
  have h_self : Keeps 2099241 s s := Keeps.refl
  unfold State.sealSetpw
  extract_lets -merge -useContext -underBinder +onlyGivenNames s11
  have h_s11 : Keeps 2099241 s s11 := (State.pwClear_keep (State.put_keep (State.drawn_keep (State.modSeal_keep h_self rfl) rfl) rfl) rfl)
  exact (Keeps.ite_keep (State.sealErr_keep h_self rfl) (Keeps.ite_keep (Keeps.ite_keep (State.pwClear_keep (State.sealErr_keep h_self rfl) rfl) (Keeps.ite_keep (State.sealOpened_keep h_s11 rfl) h_s11)) (State.pwClear_keep (State.sealErr_keep h_self rfl) rfl)))

theorem execSealSetpw_keep (port : Fin 2) (s : State) : KeepsOut 2099241 s (execSealSetpw port s) := by
  have h_self : Keeps 2099241 s s := Keeps.refl
  unfold execSealSetpw
  exact (KeepsOut.next (State.sealSetpw_keep (State.sealTouch_keep h_self rfl) rfl))

theorem State.sealDiscard_keep {mk : Nat} {sb s : State} (hk : Keeps mk sb s) (hmk : 2097153 ||| mk = mk) {port : Nat} :
    Keeps mk sb (State.sealDiscard s port) := by
  refine Keeps.step hk ?_ hmk
  have h_self : Keeps 2097153 s s := Keeps.refl
  unfold State.sealDiscard
  exact (Keeps.ite_keep (State.sealErr_keep h_self rfl) (Keeps.ite_keep (State.putPend_keep (State.modSeal_keep h_self rfl) rfl) (State.sealErr_keep h_self rfl)))

theorem execSealDiscard_keep (port : Fin 2) (s : State) : KeepsOut 2097153 s (execSealDiscard port s) := by
  have h_self : Keeps 2097153 s s := Keeps.refl
  unfold execSealDiscard
  exact (KeepsOut.next (State.sealDiscard_keep (State.sealTouch_keep h_self rfl) rfl))

theorem State.rwsWrite_keep {mk : Nat} {sb s : State} (hk : Keeps mk sb s) (hmk : 2099233 ||| mk = mk) {port off v : Nat} :
    Keeps mk sb (State.rwsWrite s port off v) := by
  refine Keeps.step hk ?_ hmk
  have h_self : Keeps 2099233 s s := Keeps.refl
  unfold State.rwsWrite
  extract_lets -merge -useContext -underBinder +onlyGivenNames w1 s12
  have h_s12 : Keeps 2099233 s s12 := (State.modSeal_keep h_self rfl)
  exact (Keeps.ite_keep (State.putPend_keep h_s12 rfl) (State.accErr_keep h_self rfl))

theorem execRwsWrite_keep (port : Fin 2) (off : BitVec 26) (val : Word) (s : State) : KeepsOut 2099233 s (execRwsWrite port off val s) := by
  have h_self : Keeps 2099233 s s := Keeps.refl
  unfold execRwsWrite
  exact (KeepsOut.next (Keeps.ite_keep h_self (State.rwsWrite_keep h_self rfl)))

theorem State.logAppend_keep {mk : Nat} {sb s : State} (h : Keeps mk sb s) (hm : 2097152 ||| mk = mk) {c : Nat}
    {l : List (Nat × Nat × List Byte × List Byte)} : Keeps mk sb (State.logAppend s c l) := by
  induction l generalizing s with
  | nil => exact h
  | cons e t ih => exact ih (State.modSeal_keep h (Keeps.sub hm rfl))

theorem State.sealCommit_keep {mk : Nat} {sb s : State} (hk : Keeps mk sb s) (hmk : 2097153 ||| mk = mk) {port : Nat} :
    Keeps mk sb (State.sealCommit s port) := by
  refine Keeps.step hk ?_ hmk
  have h_self : Keeps 2097153 s s := Keeps.refl
  unfold State.sealCommit
  extract_lets -merge -useContext -underBinder +onlyGivenNames slot1 es2 inactive3 s14
  have h_s14 : Keeps 2097153 s s14 := (State.modSeal_keep h_self rfl)
  exact (Keeps.ite_keep (State.sealErr_keep h_self rfl) (Keeps.ite_keep (State.sealErr_keep h_self rfl) (Keeps.ite_keep (State.sealErr_keep h_self rfl) (Keeps.ite_keep (State.sealErr_keep h_self rfl) (Keeps.ite_keep (State.sealErr_keep h_self rfl) (State.sealShow_keep (State.put_keep (State.logAppend_keep h_s14 rfl) rfl) rfl))))))

theorem execSealCommit_keep (port : Fin 2) (s : State) : KeepsOut 2097153 s (execSealCommit port s) := by
  have h_self : Keeps 2097153 s s := Keeps.refl
  unfold execSealCommit
  exact (KeepsOut.next (State.sealCommit_keep (State.sealTouch_keep h_self rfl) rfl))

theorem State.commitEnd_keep {mk : Nat} {sb s : State} (hk : Keeps mk sb s) (hmk : 3147809 ||| mk = mk) {ok : Bool} :
    Keeps mk sb (State.commitEnd s ok) := by
  refine Keeps.step hk ?_ hmk
  have h_self : Keeps 3147809 s s := Keeps.refl
  unfold State.commitEnd
  exact (by
  split
  · exact h_self
  · extract_lets -merge -useContext -underBinder +onlyGivenNames s03 inactive4 all5 saf6 a7 b8 c9 s110
    have h_s03 : Keeps 3147809 s s03 := (State.put_keep (State.modSeal_keep h_self rfl) rfl)
    have h_a7 : Keeps 3147809 s a7 := (State.modSeal_keep h_s03 rfl)
    have h_b8 : Keeps 3147809 s b8 := (State.putPend_keep (State.put_keep (State.put_keep (State.modSaf_keep h_a7 rfl) rfl) rfl) rfl)
    have h_c9 : Keeps 3147809 s c9 := (State.putMeas_keep (State.sealShow_keep h_b8 rfl) rfl)
    have h_s110 : Keeps 3147809 s s110 := (Keeps.ite_keep (Keeps.ite_keep (State.islandRun_keep (State.raise_keep h_c9 rfl) rfl) (Keeps.ite_keep (State.raise_keep (State.mrExtend_keep h_c9 rfl) rfl) (State.raise_keep h_c9 rfl))) (State.raise_keep (State.sealErr_keep (State.sealShow_keep (State.modSeal_keep h_s03 rfl) rfl) rfl) rfl))
    exact (State.when_keep h_s110 (fun x11_0 h_x11_0 => (State.sealLeave_keep h_x11_0 rfl))))

theorem execCommitComplete_keep (ok : Bool) (s : State) : KeepsOut 3147809 s (execCommitComplete ok s) := by
  have h_self : Keeps 3147809 s s := Keeps.refl
  unfold execCommitComplete
  exact (KeepsOut.next (State.commitEnd_keep h_self rfl))

theorem State.sealMajor_keep {mk : Nat} {sb s : State} (hk : Keeps mk sb s) (hmk : 2097153 ||| mk = mk) :
    Keeps mk sb (State.sealMajor s) := by
  refine Keeps.step hk ?_ hmk
  have h_self : Keeps 2097153 s s := Keeps.refl
  unfold State.sealMajor
  exact (by
  split
  · exact h_self
  · exact (State.modSeal_keep (State.each_keep h_self (fun x3_0 _ h_x3_0 => by
      extract_lets -merge -useContext -underBinder +onlyGivenNames w4
      exact (State.setWord_keep h_x3_0 rfl))) rfl))

theorem State.sealRoll_keep {mk : Nat} {sb s : State} (hk : Keeps mk sb s) (hmk : 2099233 ||| mk = mk) {port : Nat} :
    Keeps mk sb (State.sealRoll s port) := by
  refine Keeps.step hk ?_ hmk
  have h_self : Keeps 2099233 s s := Keeps.refl
  unfold State.sealRoll
  extract_lets -merge -useContext -underBinder +onlyGivenNames l1 seqOf2 n3 e4
  exact (Keeps.ite_keep (State.sealErr_keep h_self rfl) (Keeps.ite_keep (State.sealErr_keep h_self rfl) (Keeps.ite_keep (State.sealErr_keep h_self rfl) (State.raise_keep (State.put_keep (State.sealShow_keep (State.modSeal_keep h_self rfl) rfl) rfl) rfl))))

theorem execSealRoll_keep (port : Fin 2) (s : State) : KeepsOut 2099233 s (execSealRoll port s) := by
  have h_self : Keeps 2099233 s s := Keeps.refl
  unfold execSealRoll
  exact (KeepsOut.next (State.sealRoll_keep (State.sealTouch_keep h_self rfl) rfl))

theorem State.logExport_keep {mk : Nat} {sb s : State} (hk : Keeps mk sb s) (hmk : 1 ||| mk = mk) {k : Nat} :
    Keeps mk sb (State.logExport s k) := by
  refine Keeps.step hk ?_ hmk
  have h_self : Keeps 1 s s := Keeps.refl
  unfold State.logExport
  extract_lets -merge -useContext -underBinder +onlyGivenNames e1
  exact (Keeps.ite_keep (State.put_keep h_self rfl) h_self)

theorem State.logWinRead_keep {mk : Nat} {sb s : State} (hk : Keeps mk sb s) (hmk : 7 ||| mk = mk) {k : Nat} :
    Keeps mk sb (State.logWinRead s k) := by
  refine Keeps.step hk ?_ hmk
  have h_self : Keeps 7 s s := Keeps.refl
  unfold State.logWinRead
  extract_lets -merge -useContext -underBinder +onlyGivenNames base1 s12 v3 q4
  have h_s12 : Keeps 7 s s12 := (Keeps.ite_keep (State.latch_keep h_self rfl) h_self)
  have h_q4 : Keeps 7 s q4 := (State.logExport_keep h_s12 rfl)
  exact (Keeps.hostData_keep h_q4 rfl)

theorem execSecSealLogwinRead_keep (_port : Fin 2) (k : Fin 24) (s : State) : KeepsOut 7 s (execSecSealLogwinRead _port k s) := by
  have h_self : Keeps 7 s s := Keeps.refl
  unfold execSecSealLogwinRead
  exact (KeepsOut.next (State.logWinRead_keep h_self rfl))

theorem State.sealCmd_keep {mk : Nat} {sb s0 : State} (hk : Keeps mk sb s0) (hmk : 2099241 ||| mk = mk) {port v : Nat} :
    Keeps mk sb (State.sealCmd s0 port v) := by
  refine Keeps.step hk ?_ hmk
  have h_self : Keeps 2099241 s0 s0 := Keeps.refl
  unfold State.sealCmd
  extract_lets -merge -useContext -underBinder +onlyGivenNames s1
  have h_s1 : Keeps 2099241 s0 s1 := (State.sealTouch_keep h_self rfl)
  exact (Keeps.ite_keep h_s1 (Keeps.ite_keep (State.sealErr_keep h_s1 rfl) (Keeps.ite_keep (State.sealOpen_keep h_s1 rfl) (Keeps.ite_keep (State.sealClose_keep h_s1 rfl) (Keeps.ite_keep (State.sealCommit_keep h_s1 rfl) (Keeps.ite_keep (State.sealSetpw_keep h_s1 rfl) (Keeps.ite_keep (State.sealRoll_keep h_s1 rfl) (State.sealDiscard_keep h_s1 rfl))))))))

theorem State.sealTick_keep {mk : Nat} {sb s : State} (hk : Keeps mk sb s) (hmk : 2099233 ||| mk = mk) :
    Keeps mk sb (State.sealTick s) := by
  refine Keeps.step hk ?_ hmk
  have h_self : Keeps 2099233 s s := Keeps.refl
  unfold State.sealTick
  exact (State.backoffRun_keep (State.sealIdle_keep h_self rfl) rfl)

theorem State.sealStep_keep {mk : Nat} {sb s : State} (hk : Keeps mk sb s) (hmk : 2097152 ||| mk = mk) {d : Int} :
    Keeps mk sb (State.sealStep s d) := by
  refine Keeps.step hk ?_ hmk
  have h_self : Keeps 2097152 s s := Keeps.refl
  unfold State.sealStep
  exact (State.modSeal_keep h_self rfl)

theorem State.sealReset_keep {mk : Nat} {sb s : State} (hk : Keeps mk sb s) (hmk : 2099233 ||| mk = mk) {x : SealState} {fails : Nat} :
    Keeps mk sb (State.sealReset s x fails) := by
  refine Keeps.step hk ?_ hmk
  have h_self : Keeps 2099233 s s := Keeps.refl
  unfold State.sealReset
  extract_lets -merge -useContext -underBinder +onlyGivenNames q1 y2 cseq3 keep4 s15 s26 s37 s48
  have h_s15 : Keeps 2099233 s s15 := (State.put_keep (Keeps.sld_keep h_self rfl) rfl)
  have h_s26 : Keeps 2099233 s s26 := (State.sealShow_keep (State.put_keep h_s15 rfl) rfl)
  have h_s37 : Keeps 2099233 s s37 := (State.each_keep h_s26 (fun x9_0 _ h_x9_0 => by
    extract_lets -merge -useContext -underBinder +onlyGivenNames w10
    exact (State.setWord_keep h_x9_0 rfl)))
  have h_s48 : Keeps 2099233 s s48 := (by
  unfold s48
  split
  · exact (State.setWord_keep h_s37 rfl)
  · exact h_s37)
  exact (State.backoffStart_keep (State.when_keep h_s48 (fun x13_0 h_x13_0 => (State.raise_keep h_x13_0 rfl))) rfl)

end Sys2Proof.Machine
end

