-- ==== Sys2Proof/Laws/KeepRec.lean ====
section
/-! SUPPORT. What the functions of Machine/Rec.lean leave alone (see Laws/Keeps.lean). -/

namespace Sys2Proof.Machine

open Sys2Proof

theorem State.modRec_keep {mk : Nat} {sb s : State} (hk : Keeps mk sb s) (hmk : 2048 ||| mk = mk) {f : RecState → RecState} :
    Keeps mk sb (State.modRec s f) := by
  refine Keeps.step hk ?_ hmk
  have h_self : Keeps 2048 s s := Keeps.refl
  unfold State.modRec
  exact (Keeps.rcd_keep h_self rfl)

theorem State.recShow_keep {mk : Nat} {sb s : State} (hk : Keeps mk sb s) (hmk : 1 ||| mk = mk) :
    Keeps mk sb (State.recShow s) := by
  refine Keeps.step hk ?_ hmk
  have h_self : Keeps 1 s s := Keeps.refl
  unfold State.recShow
  exact (State.put_keep h_self rfl)

theorem State.recIndex_keep {mk : Nat} {sb s : State} (hk : Keeps mk sb s) (hmk : 2048 ||| mk = mk) :
    Keeps mk sb (State.recIndex s) := by
  refine Keeps.step hk ?_ hmk
  have h_self : Keeps 2048 s s := Keeps.refl
  unfold State.recIndex
  exact (State.modRec_keep h_self rfl)

theorem State.permCheck_keep {mk : Nat} {sb s : State} (hk : Keeps mk sb s) (hmk : 2081 ||| mk = mk) :
    Keeps mk sb (State.permCheck s) := by
  refine Keeps.step hk ?_ hmk
  have h_self : Keeps 2081 s s := Keeps.refl
  unfold State.permCheck
  extract_lets -merge -useContext -underBinder +onlyGivenNames n1
  exact (by
  split
  · exact (Keeps.ite_keep (State.setRaise_keep h_self rfl) h_self)
  · exact (State.setRaise_keep h_self rfl))

theorem State.recForm_keep {mk : Nat} {sb s : State} (hk : Keeps mk sb s) (hmk : 2081 ||| mk = mk) {src prof flags sec ns lag : Nat} {snap : List Nat} :
    Keeps mk sb (State.recForm s src prof flags sec ns lag snap) := by
  refine Keeps.step hk ?_ hmk
  have h_self : Keeps 2081 s s := Keeps.refl
  unfold State.recForm
  extract_lets -merge -useContext -underBinder +onlyGivenNames early1 seq2 r3
  exact (Keeps.ite_keep (State.raiseMajor_keep (State.put_keep (State.modRec_keep (State.inc_keep h_self rfl) rfl) rfl) rfl) (State.recShow_keep (State.when_keep (State.modRec_keep h_self rfl) (fun x4_0 h_x4_0 => (State.put_keep h_x4_0 rfl))) rfl))

theorem State.recSeqDue_keep {mk : Nat} {sb s : State} (hk : Keeps mk sb s) (hmk : 2049 ||| mk = mk) :
    Keeps mk sb (State.recSeqDue s) := by
  refine Keeps.step hk ?_ hmk
  have h_self : Keeps 2049 s s := Keeps.refl
  unfold State.recSeqDue
  extract_lets -merge -useContext -underBinder +onlyGivenNames r1
  exact (State.put_keep (State.modRec_keep h_self rfl) rfl)

theorem State.peerEntry_keep {mk : Nat} {sb s : State} (hk : Keeps mk sb s) (hmk : 2081 ||| mk = mk) {e : List Byte} :
    Keeps mk sb (State.peerEntry s e) := by
  refine Keeps.step hk ?_ hmk
  have h_self : Keeps 2081 s s := Keeps.refl
  unfold State.peerEntry
  exact (Keeps.ite_keep (State.gaspEvent_keep (State.ringWrite_keep h_self rfl) rfl) (State.recForm_keep h_self rfl))

theorem State.peerNotice_keep {mk : Nat} {sb s : State} (hk : Keeps mk sb s) (hmk : 2081 ||| mk = mk) {payload : List Byte} :
    Keeps mk sb (State.peerNotice s payload) := by
  refine Keeps.step hk ?_ hmk
  have h_self : Keeps 2081 s s := Keeps.refl
  unfold State.peerNotice
  exact (State.raiseMajor_keep (State.each_keep h_self (fun x1_0 _ h_x1_0 => (State.peerEntry_keep h_x1_0 rfl))) rfl)

theorem State.recFault_keep {mk : Nat} {sb s0 : State} (hk : Keeps mk sb s0) (hmk : 2089 ||| mk = mk) {cause : Nat} :
    Keeps mk sb (State.recFault s0 cause) := by
  refine Keeps.step hk ?_ hmk
  have h_self : Keeps 2089 s0 s0 := Keeps.refl
  unfold State.recFault
  extract_lets -merge -useContext -underBinder +onlyGivenNames s1 k2 s13
  have h_s1 : Keeps 2089 s0 s1 := (Keeps.ite_keep (State.drawn_keep (State.put_keep h_self rfl) rfl) h_self)
  have h_s13 : Keeps 2089 s0 s13 := (State.recSeqDue_keep (State.put_keep (State.put_keep (State.modRec_keep (State.drawn_keep h_s1 rfl) rfl) rfl) rfl) rfl)
  exact (State.raise_keep (State.gaspEvent_keep (State.ringWrite_keep h_s13 rfl) rfl) rfl)

theorem execMramControllerFault_keep (s : State) : KeepsOut 2089 s (execMramControllerFault s) := by
  have h_self : Keeps 2089 s s := Keeps.refl
  unfold execMramControllerFault
  exact (KeepsOut.next (Keeps.ite_keep h_self (State.recFault_keep h_self rfl)))

theorem State.copyDone_keep {mk : Nat} {sb s : State} (hk : Keeps mk sb s) (hmk : 1 ||| mk = mk) {seq : Nat} :
    Keeps mk sb (State.copyDone s seq) := by
  refine Keeps.step hk ?_ hmk
  have h_self : Keeps 1 s s := Keeps.refl
  unfold State.copyDone
  exact (by
  split
  · exact h_self
  · extract_lets -merge -useContext -underBinder +onlyGivenNames c3
    exact (State.put_keep (State.put_keep h_self rfl) rfl))

theorem State.putSlot_keep {mk : Nat} {sb s : State} (hk : Keeps mk sb s) (hmk : 2048 ||| mk = mk) {k : Nat} {b : List Byte} :
    Keeps mk sb (State.putSlot s k b) := by
  refine Keeps.step hk ?_ hmk
  have h_self : Keeps 2048 s s := Keeps.refl
  unfold State.putSlot
  exact (State.modRec_keep h_self rfl)

theorem State.recVerified_keep {mk : Nat} {sb s : State} (hk : Keeps mk sb s) (hmk : 2081 ||| mk = mk) {k : Nat} {r : BurstRec} :
    Keeps mk sb (State.recVerified s k r) := by
  refine Keeps.step hk ?_ hmk
  have h_self : Keeps 2081 s s := Keeps.refl
  unfold State.recVerified
  extract_lets -merge -useContext -underBinder +onlyGivenNames wrap1 s12 s23 s34
  have h_s12 : Keeps 2081 s s12 := (State.put_keep (State.modRec_keep h_self rfl) rfl)
  have h_s23 : Keeps 2081 s s23 := (State.when_keep (State.put_keep h_s12 rfl) (fun x5_0 h_x5_0 => (State.put_keep h_x5_0 rfl)))
  have h_s34 : Keeps 2081 s s34 := (State.recShow_keep (State.permCheck_keep (State.when_keep (State.when_keep h_s23 (fun x7_0 h_x7_0 => (State.put_keep h_x7_0 rfl))) (fun x6_0 h_x6_0 => (State.copyDone_keep h_x6_0 rfl))) rfl) rfl)
  exact (State.when_keep h_s34 (fun x8_0 h_x8_0 => (State.recIndex_keep h_x8_0 rfl)))

theorem State.recBad_keep {mk : Nat} {sb s : State} (hk : Keeps mk sb s) (hmk : 2089 ||| mk = mk) {k : Nat} :
    Keeps mk sb (State.recBad s k) := by
  refine Keeps.step hk ?_ hmk
  have h_self : Keeps 2089 s s := Keeps.refl
  unfold State.recBad
  extract_lets -merge -useContext -underBinder +onlyGivenNames s11 s22
  have h_s11 : Keeps 2089 s s11 := (State.inc_keep (State.inc_keep (State.putBit_keep h_self rfl) rfl) rfl)
  have h_s22 : Keeps 2089 s s22 := (State.raiseMajor_keep (State.permCheck_keep (State.modRec_keep h_s11 rfl) rfl) rfl)
  exact (Keeps.ite_keep (State.recFault_keep h_s22 rfl) h_s22)

theorem State.recWrite_keep {mk : Nat} {sb s : State} (hk : Keeps mk sb s) (hmk : 2089 ||| mk = mk) {stored : Option (List Byte)} :
    Keeps mk sb (State.recWrite s stored) := by
  refine Keeps.step hk ?_ hmk
  have h_self : Keeps 2089 s s := Keeps.refl
  unfold State.recWrite
  exact (by
  split
  · extract_lets -merge -useContext -underBinder +onlyGivenNames b2 got3 s14
    have h_s14 : Keeps 2089 s s14 := (State.putSlot_keep (State.modRec_keep h_self rfl) rfl)
    exact (Keeps.ite_keep (Keeps.ite_keep (State.recVerified_keep h_s14 rfl) (State.recBad_keep h_s14 rfl)) h_self)
  · exact h_self)

theorem execRecordWrite_keep (stored : Option (List Byte)) (s : State) : KeepsOut 2089 s (execRecordWrite stored s) := by
  have h_self : Keeps 2089 s s := Keeps.refl
  unfold execRecordWrite
  exact (KeepsOut.next (State.recWrite_keep h_self rfl))

theorem State.recRefuse_keep {mk : Nat} {sb s : State} (hk : Keeps mk sb s) (hmk : 1 ||| mk = mk) :
    Keeps mk sb (State.recRefuse s) := by
  refine Keeps.step hk ?_ hmk
  have h_self : Keeps 1 s s := Keeps.refl
  unfold State.recRefuse
  exact (State.put_keep h_self rfl)

theorem execRecMark_keep (s : State) : KeepsOut 2081 s (execRecMark s) := by
  have h_self : Keeps 2081 s s := Keeps.refl
  unfold execRecMark
  exact (KeepsOut.next (State.raise_keep h_self rfl))

theorem State.queueCopies_keep {mk : Nat} {sb s : State} (hk : Keeps mk sb s) (hmk : 2049 ||| mk = mk) {l : List (List Byte)} {front : Bool} :
    Keeps mk sb (State.queueCopies s l front) := by
  refine Keeps.step hk ?_ hmk
  have h_self : Keeps 2049 s s := Keeps.refl
  unfold State.queueCopies
  extract_lets -merge -useContext -underBinder +onlyGivenNames c1 s12
  have h_s12 : Keeps 2049 s s12 := (State.modRec_keep h_self rfl)
  exact (Keeps.ite_keep (State.put_keep (State.put_keep h_s12 rfl) rfl) h_s12)

theorem State.recClear_keep {mk : Nat} {sb s : State} (hk : Keeps mk sb s) (hmk : 1 ||| mk = mk) {port : Nat} :
    Keeps mk sb (State.recClear s port) := by
  refine Keeps.step hk ?_ hmk
  have h_self : Keeps 1 s s := Keeps.refl
  unfold State.recClear
  exact (Keeps.ite_keep (State.put_keep h_self rfl) (State.recRefuse_keep h_self rfl))

theorem execRecClear_keep (port : Fin 2) (s : State) : KeepsOut 1 s (execRecClear port s) := by
  have h_self : Keeps 1 s s := Keeps.refl
  unfold execRecClear
  exact (KeepsOut.next (State.recClear_keep h_self rfl))

theorem State.recBlank_keep {mk : Nat} {sb s : State} (hk : Keeps mk sb s) (hmk : 1 ||| mk = mk) :
    Keeps mk sb (State.recBlank s) := by
  refine Keeps.step hk ?_ hmk
  have h_self : Keeps 1 s s := Keeps.refl
  unfold State.recBlank
  exact (State.put_keep (State.put_keep (State.put_keep (State.put_keep (State.put_keep h_self rfl) rfl) rfl) rfl) rfl)

theorem State.recCleared_keep {mk : Nat} {sb s : State} (hk : Keeps mk sb s) (hmk : 2081 ||| mk = mk) :
    Keeps mk sb (State.recCleared s) := by
  refine Keeps.step hk ?_ hmk
  have h_self : Keeps 2081 s s := Keeps.refl
  unfold State.recCleared
  exact (Keeps.ite_keep (State.raise_keep (State.recIndex_keep (State.put_keep (State.recBlank_keep (State.modRec_keep h_self rfl) rfl) rfl) rfl) rfl) h_self)

theorem execRecorderClearComplete_keep (s : State) : KeepsOut 2081 s (execRecorderClearComplete s) := by
  have h_self : Keeps 2081 s s := Keeps.refl
  unfold execRecorderClearComplete
  exact (KeepsOut.next (State.recCleared_keep h_self rfl))

theorem State.recScan_keep {mk : Nat} {sb s : State} (h : Keeps mk sb s) (hm : 1 ||| mk = mk) {f : Nat} : Keeps mk sb (State.recScan s f) := by
  induction f generalizing s with
  | zero => exact h
  | succ f ih =>
    unfold State.recScan
    split
    · exact h
    · exact Keeps.ite_keep (ih (State.when_keep (State.when_keep (State.put_keep h hm) fun _ hx => State.put_keep hx hm)
        fun _ hx => State.put_keep hx hm)) h

theorem State.recLoad_keep {mk : Nat} {sb s : State} (hk : Keeps mk sb s) (hmk : 2049 ||| mk = mk) :
    Keeps mk sb (State.recLoad s) := by
  refine Keeps.step hk ?_ hmk
  have h_self : Keeps 2049 s s := Keeps.refl
  unfold State.recLoad
  exact (by
  split
  · exact (State.modRec_keep (State.each_keep (State.recBlank_keep h_self rfl) (fun x2_0 _ h_x2_0 => (State.put_keep h_x2_0 rfl))) rfl)
  · extract_lets -merge -useContext -underBinder +onlyGivenNames s14 s25
    have h_s14 : Keeps 2049 s s14 := (State.put_keep (State.put_keep (State.putB_keep (State.putB_keep (State.put_keep h_self rfl) rfl) rfl) rfl) rfl)
    have h_s25 : Keeps 2049 s s25 := (State.each_keep h_s14 (fun x6_0 _ h_x6_0 => (State.put_keep h_x6_0 rfl)))
    exact (State.recScan_keep (State.put_keep h_s25 rfl) rfl))

theorem State.recRecover_keep {mk : Nat} {sb s : State} (hk : Keeps mk sb s) (hmk : 2081 ||| mk = mk) {ok : Bool} :
    Keeps mk sb (State.recRecover s ok) := by
  refine Keeps.step hk ?_ hmk
  have h_self : Keeps 2081 s s := Keeps.refl
  unfold State.recRecover
  extract_lets -merge -useContext -underBinder +onlyGivenNames s01
  have h_s01 : Keeps 2081 s s01 := (Keeps.ite_keep h_self (State.recLoad_keep h_self rfl))
  exact (Keeps.ite_keep (State.raise_keep (State.queueCopies_keep (State.put_keep (State.put_keep h_s01 rfl) rfl) rfl) rfl) (State.recRefuse_keep h_self rfl))

theorem execRecRecover_keep (ok : Bool) (s : State) : KeepsOut 2081 s (execRecRecover ok s) := by
  have h_self : Keeps 2081 s s := Keeps.refl
  unfold execRecRecover
  exact (KeepsOut.next (State.recRecover_keep h_self rfl))

theorem State.recCmd_keep {mk : Nat} {sb s : State} (hk : Keeps mk sb s) (hmk : 2089 ||| mk = mk) {port v : Nat} :
    Keeps mk sb (State.recCmd s port v) := by
  refine Keeps.step hk ?_ hmk
  have h_self : Keeps 2089 s s := Keeps.refl
  unfold State.recCmd
  extract_lets -merge -useContext -underBinder +onlyGivenNames s11 s22
  have h_s11 : Keeps 2089 s s11 := (State.when_keep h_self (fun x3_0 h_x3_0 => (State.raise_keep h_x3_0 rfl)))
  have h_s22 : Keeps 2089 s s22 := (Keeps.ite_keep (State.drawn_keep (State.recRecover_keep h_s11 rfl) rfl) h_s11)
  exact (State.when_keep h_s22 (fun x4_0 h_x4_0 => (State.recClear_keep h_x4_0 rfl)))

theorem State.recInit_keep {mk : Nat} {sb s : State} (hk : Keeps mk sb s) (hmk : 2089 ||| mk = mk) {ok : Bool} :
    Keeps mk sb (State.recInit s ok) := by
  refine Keeps.step hk ?_ hmk
  have h_self : Keeps 2089 s s := Keeps.refl
  unfold State.recInit
  extract_lets -merge -useContext -underBinder +onlyGivenNames s11 ents2 seqs3 known4 next5 todo6 s27 s38
  have h_s11 : Keeps 2089 s s11 := (State.recLoad_keep h_self rfl)
  have h_s27 : Keeps 2089 s s27 := (State.putBit_keep (State.put_keep (State.put_keep (State.put_keep h_s11 rfl) rfl) rfl) rfl)
  have h_s38 : Keeps 2089 s s38 := (State.put_keep (State.put_keep h_s27 rfl) rfl)
  exact (Keeps.ite_keep h_self (Keeps.ite_keep (State.recFault_keep h_self rfl) (State.raise_keep (State.recIndex_keep (State.recShow_keep (State.recSeqDue_keep (State.queueCopies_keep h_s38 rfl) rfl) rfl) rfl) rfl)))

theorem execRecorderInit_keep (ok : Bool) (s : State) : KeepsOut 2089 s (execRecorderInit ok s) := by
  have h_self : Keeps 2089 s s := Keeps.refl
  unfold execRecorderInit
  exact (KeepsOut.next (State.recInit_keep h_self rfl))

theorem State.recSlow_keep {mk : Nat} {sb s : State} (hk : Keeps mk sb s) (hmk : 2049 ||| mk = mk) :
    Keeps mk sb (State.recSlow s) := by
  refine Keeps.step hk ?_ hmk
  have h_self : Keeps 2049 s s := Keeps.refl
  unfold State.recSlow
  extract_lets -merge -useContext -underBinder +onlyGivenNames n1
  exact (State.modRec_keep (State.putMax_keep (State.put_keep h_self rfl) rfl) rfl)

end Sys2Proof.Machine
end

