-- ==== Sys2Proof/Laws/KeepSec.lean ====
section
/-! SUPPORT. What the functions of Machine/Sec.lean leave alone (see Laws/Keeps.lean). -/

namespace Sys2Proof.Machine

open Sys2Proof

theorem State.modSec_keep {mk : Nat} {sb s : State} (hk : Keeps mk sb s) (hmk : 4194304 ||| mk = mk) {f : SecState → SecState} :
    Keeps mk sb (State.modSec s f) := by
  refine Keeps.step hk ?_ hmk
  have h_self : Keeps 4194304 s s := Keeps.refl
  unfold State.modSec
  exact (Keeps.sec_keep h_self rfl)

theorem State.modBoot_keep {mk : Nat} {sb s : State} (hk : Keeps mk sb s) (hmk : 4194304 ||| mk = mk) {k : Nat} {f : BootRec → BootRec} :
    Keeps mk sb (State.modBoot s k f) := by
  refine Keeps.step hk ?_ hmk
  have h_self : Keeps 4194304 s s := Keeps.refl
  unfold State.modBoot
  exact (State.modSec_keep h_self rfl)

theorem State.mr5_keep {mk : Nat} {sb s : State} (hk : Keeps mk sb s) (hmk : 1 ||| mk = mk) {kind val : Nat} :
    Keeps mk sb (State.mr5 s kind val) := by
  refine Keeps.step hk ?_ hmk
  have h_self : Keeps 1 s s := Keeps.refl
  unfold State.mr5
  exact (State.mrExtend_keep h_self rfl)

theorem State.sramMap_keep {mk : Nat} {sb s : State} (hk : Keeps mk sb s) (hmk : 4194304 ||| mk = mk) {f : Nat → Nat → SramBank → SramBank} :
    Keeps mk sb (State.sramMap s f) := by
  refine Keeps.step hk ?_ hmk
  have h_self : Keeps 4194304 s s := Keeps.refl
  unfold State.sramMap
  exact (State.modSec_keep h_self rfl)

theorem State.sramClear_keep {mk : Nat} {sb s : State} (hk : Keeps mk sb s) (hmk : 4194304 ||| mk = mk) :
    Keeps mk sb (State.sramClear s) := by
  refine Keeps.step hk ?_ hmk
  have h_self : Keeps 4194304 s s := Keeps.refl
  unfold State.sramClear
  exact (State.sramMap_keep h_self rfl)

theorem State.sramSleep_keep {mk : Nat} {sb s : State} (hk : Keeps mk sb s) (hmk : 4194304 ||| mk = mk) {k : Nat} :
    Keeps mk sb (State.sramSleep s k) := by
  refine Keeps.step hk ?_ hmk
  have h_self : Keeps 4194304 s s := Keeps.refl
  unfold State.sramSleep
  exact (State.sramMap_keep h_self rfl)

theorem State.sramWake_keep {mk : Nat} {sb s : State} (hk : Keeps mk sb s) (hmk : 4194304 ||| mk = mk) :
    Keeps mk sb (State.sramWake s) := by
  refine Keeps.step hk ?_ hmk
  have h_self : Keeps 4194304 s s := Keeps.refl
  unfold State.sramWake
  exact (State.sramMap_keep h_self rfl)

theorem State.sramBoot_keep {mk : Nat} {sb s : State} (hk : Keeps mk sb s) (hmk : 4194304 ||| mk = mk) {okA okB : Bool} :
    Keeps mk sb (State.sramBoot s okA okB) := by
  refine Keeps.step hk ?_ hmk
  have h_self : Keeps 4194304 s s := Keeps.refl
  unfold State.sramBoot
  exact (State.sramMap_keep h_self rfl)

theorem State.bootMark_keep {mk : Nat} {sb s : State} (hk : Keeps mk sb s) (hmk : 4194304 ||| mk = mk) {k : Nat} :
    Keeps mk sb (State.bootMark s k) := by
  refine Keeps.step hk ?_ hmk
  have h_self : Keeps 4194304 s s := Keeps.refl
  unfold State.bootMark
  exact (State.modBoot_keep h_self rfl)

theorem State.mr0Extend_keep {mk : Nat} {sb s : State} (hk : Keeps mk sb s) (hmk : 4194305 ||| mk = mk) :
    Keeps mk sb (State.mr0Extend s) := by
  refine Keeps.step hk ?_ hmk
  have h_self : Keeps 4194305 s s := Keeps.refl
  unfold State.mr0Extend
  extract_lets -merge -useContext -underBinder +onlyGivenNames x1
  exact (Keeps.ite_keep h_self (State.modSec_keep (State.mrExtend_keep h_self rfl) rfl))

theorem State.laneBoot_keep {mk : Nat} {sb s0 : State} (hk : Keeps mk sb s0) (hmk : 4194305 ||| mk = mk) {okA okB : Bool} :
    Keeps mk sb (State.laneBoot s0 okA okB) := by
  refine Keeps.step hk ?_ hmk
  have h_self : Keeps 4194305 s0 s0 := Keeps.refl
  unfold State.laneBoot
  extract_lets -merge -useContext -underBinder +onlyGivenNames s1 b2 s13
  have h_s1 : Keeps 4194305 s0 s1 := (State.mr0Extend_keep h_self rfl)
  have h_s13 : Keeps 4194305 s0 s13 := (State.putB_keep (State.bootMark_keep h_s1 rfl) rfl)
  exact (Keeps.ite_keep (State.put_keep (State.put_keep h_s1 rfl) rfl) (Keeps.ite_keep h_s1 (by
  split
  · exact (State.put_keep (State.put_keep (State.put_keep (State.put_keep h_s13 rfl) rfl) rfl) rfl)
  · extract_lets -merge -useContext -underBinder +onlyGivenNames v6 s27 s38 s49 s510 s611
    have h_s27 : Keeps 4194305 s0 s27 := (State.modSec_keep (State.putB_keep (State.put_keep (State.put_keep (State.put_keep h_s13 rfl) rfl) rfl) rfl) rfl)
    have h_s38 : Keeps 4194305 s0 s38 := (State.when_keep (State.when_keep h_s27 (fun x13_0 h_x13_0 => (State.mrExtend_keep h_x13_0 rfl))) (fun x12_0 h_x12_0 => (State.mrExtend_keep h_x12_0 rfl)))
    have h_s49 : Keeps 4194305 s0 s49 := (State.put_keep (State.putB_keep (State.putB_keep h_s38 rfl) rfl) rfl)
    have h_s510 : Keeps 4194305 s0 s510 := (State.sramBoot_keep (State.putB_keep h_s49 rfl) rfl)
    have h_s611 : Keeps 4194305 s0 s611 := (State.setWords_keep h_s510 rfl)
    exact (Keeps.ite_keep (State.put_keep h_s611 rfl) (State.putBit_keep h_s611 rfl)))))

theorem execTadpoleBoot_keep (okA okB : Bool) (s : State) : KeepsOut 893880097 s (execTadpoleBoot okA okB s) := by
  have h_self : Keeps 893880097 s s := Keeps.refl
  unfold execTadpoleBoot
  exact (KeepsOut.next (State.survive_keep (State.laneBoot_keep h_self rfl) rfl))

theorem State.islandBoot_keep {mk : Nat} {sb s0 : State} (hk : Keeps mk sb s0) (hmk : 5244961 ||| mk = mk) :
    Keeps mk sb (State.islandBoot s0) := by
  refine Keeps.step hk ?_ hmk
  have h_self : Keeps 5244961 s0 s0 := Keeps.refl
  unfold State.islandBoot
  extract_lets -merge -useContext -underBinder +onlyGivenNames s1 b2 s13
  have h_s1 : Keeps 5244961 s0 s1 := (State.mr0Extend_keep h_self rfl)
  have h_s13 : Keeps 5244961 s0 s13 := (State.putB_keep (State.bootMark_keep h_s1 rfl) rfl)
  exact (Keeps.ite_keep h_s1 (by
  split
  · exact (State.islandSafe_keep h_s13 rfl)
  · extract_lets -merge -useContext -underBinder +onlyGivenNames v6 s27 s38
    have h_s27 : Keeps 5244961 s0 s27 := (State.modSec_keep (State.putB_keep (State.put_keep (State.put_keep (State.put_keep h_s13 rfl) rfl) rfl) rfl) rfl)
    have h_s38 : Keeps 5244961 s0 s38 := (State.putMeas_keep (State.mrExtend_keep (State.setWords_keep h_s27 rfl) rfl) rfl)
    exact (by
    split
    · exact (State.put_keep h_s38 rfl)
    · exact (State.islandRun_keep (Keeps.ite_keep (State.put_keep h_s38 rfl) (State.raise_keep (State.put_keep h_s38 rfl) rfl)) rfl))))

theorem execIslandBoot_keep (s : State) : KeepsOut 5244961 s (execIslandBoot s) := by
  have h_self : Keeps 5244961 s s := Keeps.refl
  unfold execIslandBoot
  exact (KeepsOut.next (State.islandBoot_keep h_self rfl))

theorem State.mrHost_keep {mk : Nat} {sb s : State} (hk : Keeps mk sb s) (hmk : 1 ||| mk = mk) {r : Nat} :
    Keeps mk sb (State.mrHost s r) := by
  refine Keeps.step hk ?_ hmk
  have h_self : Keeps 1 s s := Keeps.refl
  unfold State.mrHost
  exact (Keeps.ite_keep (State.put_keep h_self rfl) (State.mrExtend_keep h_self rfl))

theorem execMrExtend_keep (r : Fin 8) (s : State) : KeepsOut 1 s (execMrExtend r s) := by
  have h_self : Keeps 1 s s := Keeps.refl
  unfold execMrExtend
  exact (KeepsOut.next (State.mrHost_keep h_self rfl))

theorem State.attGo_keep {mk : Nat} {sb s : State} (hk : Keeps mk sb s) (hmk : 4194305 ||| mk = mk) :
    Keeps mk sb (State.attGo s) := by
  refine Keeps.step hk ?_ hmk
  have h_self : Keeps 4194305 s s := Keeps.refl
  unfold State.attGo
  extract_lets -merge -useContext -underBinder +onlyGivenNames s11
  have h_s11 : Keeps 4194305 s s11 := (State.put_keep (State.put_keep h_self rfl) rfl)
  exact (Keeps.ite_keep (State.put_keep h_self rfl) (Keeps.ite_keep (State.put_keep (State.put_keep h_s11 rfl) rfl) (State.modSec_keep (State.put_keep h_s11 rfl) rfl)))

theorem execAttestationGo_keep (s : State) : KeepsOut 4194305 s (execAttestationGo s) := by
  have h_self : Keeps 4194305 s s := Keeps.refl
  unfold execAttestationGo
  exact (KeepsOut.next (State.attGo_keep h_self rfl))

theorem execAttestationComplete_keep (s : State) : KeepsOut 4194305 s (execAttestationComplete s) := by
  have h_self : Keeps 4194305 s s := Keeps.refl
  unfold execAttestationComplete
  exact (KeepsOut.next (by
  split
  · exact h_self
  · exact (State.modSec_keep (State.put_keep (State.put_keep (State.setWords_keep h_self rfl) rfl) rfl) rfl)))

theorem State.fwBad_keep {mk : Nat} {sb s : State} (hk : Keeps mk sb s) (hmk : 1 ||| mk = mk) :
    Keeps mk sb (State.fwBad s) := by
  refine Keeps.step hk ?_ hmk
  have h_self : Keeps 1 s s := Keeps.refl
  unfold State.fwBad
  exact (State.put_keep h_self rfl)

theorem State.fwCtrl_keep {mk : Nat} {sb s : State} (hk : Keeps mk sb s) (hmk : 4194305 ||| mk = mk) {port type page : Nat} :
    Keeps mk sb (State.fwCtrl s port type page) := by
  refine Keeps.step hk ?_ hmk
  have h_self : Keeps 4194305 s s := Keeps.refl
  unfold State.fwCtrl
  extract_lets -merge -useContext -underBinder +onlyGivenNames st1 s12
  have h_s12 : Keeps 4194305 s s12 := (State.modSec_keep (State.put_keep (State.put_keep (State.put_keep h_self rfl) rfl) rfl) rfl)
  exact (Keeps.ite_keep (State.put_keep h_self rfl) (Keeps.ite_keep (State.fwBad_keep h_self rfl) (Keeps.ite_keep (State.put_keep (State.put_keep h_s12 rfl) rfl) h_s12)))

theorem execFwCtrlWrite_keep (port : Fin 2) (island : Bool) (page : Fin 64) (s : State) : KeepsOut 4194305 s (execFwCtrlWrite port island page s) := by
  have h_self : Keeps 4194305 s s := Keeps.refl
  unfold execFwCtrlWrite
  exact (KeepsOut.next (State.fwCtrl_keep h_self rfl))

theorem State.fwWin_keep {mk : Nat} {sb s : State} (hk : Keeps mk sb s) (hmk : 4194305 ||| mk = mk) {port w v : Nat} :
    Keeps mk sb (State.fwWin s port w v) := by
  refine Keeps.step hk ?_ hmk
  have h_self : Keeps 4194305 s s := Keeps.refl
  unfold State.fwWin
  extract_lets -merge -useContext -underBinder +onlyGivenNames k1 i2
  exact (Keeps.ite_keep (State.put_keep h_self rfl) (Keeps.ite_keep (State.fwBad_keep h_self rfl) (State.modSec_keep (State.when_keep h_self (fun x3_0 h_x3_0 => (State.put_keep (State.put_keep h_x3_0 rfl) rfl))) rfl)))

theorem execFwWindowWrite_keep (port : Fin 2) (w : Fin 16384) (val : Word) (s : State) : KeepsOut 4194305 s (execFwWindowWrite port w val s) := by
  have h_self : Keeps 4194305 s s := Keeps.refl
  unfold execFwWindowWrite
  exact (KeepsOut.next (State.fwWin_keep h_self rfl))

theorem State.fwCheck_keep {mk : Nat} {sb s : State} (hk : Keeps mk sb s) (hmk : 1 ||| mk = mk) {port : Nat} :
    Keeps mk sb (State.fwCheck s port) := by
  refine Keeps.step hk ?_ hmk
  have h_self : Keeps 1 s s := Keeps.refl
  unfold State.fwCheck
  exact (Keeps.ite_keep (State.put_keep h_self rfl) (Keeps.ite_keep (State.fwBad_keep h_self rfl) (State.when_keep (State.put_keep h_self rfl) (fun x1_0 h_x1_0 => (State.put_keep h_x1_0 rfl)))))

theorem execFwCheck_keep (port : Fin 2) (s : State) : KeepsOut 1 s (execFwCheck port s) := by
  have h_self : Keeps 1 s s := Keeps.refl
  unfold execFwCheck
  exact (KeepsOut.next (State.fwCheck_keep h_self rfl))

theorem execFwCheckComplete_keep (s : State) : KeepsOut 1 s (execFwCheckComplete s) := by
  have h_self : Keeps 1 s s := Keeps.refl
  unfold execFwCheckComplete
  extract_lets -merge -useContext -underBinder +onlyGivenNames r1
  exact (KeepsOut.next (Keeps.ite_keep (State.put_keep (State.put_keep h_self rfl) rfl) h_self))

theorem State.fwActivate_keep {mk : Nat} {sb s : State} (hk : Keeps mk sb s) (hmk : 4194305 ||| mk = mk) {port : Nat} :
    Keeps mk sb (State.fwActivate s port) := by
  refine Keeps.step hk ?_ hmk
  have h_self : Keeps 4194305 s s := Keeps.refl
  unfold State.fwActivate
  exact (Keeps.ite_keep (State.put_keep h_self rfl) (Keeps.ite_keep (State.fwBad_keep h_self rfl) (State.put_keep (State.modBoot_keep h_self rfl) rfl)))

theorem execFwActivate_keep (port : Fin 2) (s : State) : KeepsOut 4194305 s (execFwActivate port s) := by
  have h_self : Keeps 4194305 s s := Keeps.refl
  unfold execFwActivate
  exact (KeepsOut.next (State.fwActivate_keep h_self rfl))

theorem State.fwConfirm_keep {mk : Nat} {sb s : State} (hk : Keeps mk sb s) (hmk : 4194305 ||| mk = mk) {port : Nat} :
    Keeps mk sb (State.fwConfirm s port) := by
  refine Keeps.step hk ?_ hmk
  have h_self : Keeps 4194305 s s := Keeps.refl
  unfold State.fwConfirm
  extract_lets -merge -useContext -underBinder +onlyGivenNames k1 b2 svn3 up4 s15
  have h_s15 : Keeps 4194305 s s15 := (State.put_keep (State.modBoot_keep h_self rfl) rfl)
  exact (Keeps.ite_keep (State.put_keep h_self rfl) (Keeps.ite_keep (State.fwBad_keep h_self rfl) (Keeps.ite_keep (State.modSec_keep (State.put_keep h_s15 rfl) rfl) h_s15)))

theorem execFwConfirm_keep (port : Fin 2) (s : State) : KeepsOut 4194305 s (execFwConfirm port s) := by
  have h_self : Keeps 4194305 s s := Keeps.refl
  unfold execFwConfirm
  exact (KeepsOut.next (State.fwConfirm_keep h_self rfl))

theorem State.fwIdle_keep {mk : Nat} {sb s : State} (hk : Keeps mk sb s) (hmk : 4194305 ||| mk = mk) :
    Keeps mk sb (State.fwIdle s) := by
  refine Keeps.step hk ?_ hmk
  have h_self : Keeps 4194305 s s := Keeps.refl
  unfold State.fwIdle
  exact (State.modSec_keep (State.put_keep (State.put_keep h_self rfl) rfl) rfl)

theorem State.fwAbort_keep {mk : Nat} {sb s : State} (hk : Keeps mk sb s) (hmk : 4194305 ||| mk = mk) {port : Nat} :
    Keeps mk sb (State.fwAbort s port) := by
  refine Keeps.step hk ?_ hmk
  have h_self : Keeps 4194305 s s := Keeps.refl
  unfold State.fwAbort
  exact (Keeps.ite_keep (State.fwIdle_keep h_self rfl) (State.put_keep h_self rfl))

theorem execFwAbort_keep (port : Fin 2) (s : State) : KeepsOut 4194305 s (execFwAbort port s) := by
  have h_self : Keeps 4194305 s s := Keeps.refl
  unfold execFwAbort
  exact (KeepsOut.next (State.fwAbort_keep h_self rfl))

theorem State.fwCmd_keep {mk : Nat} {sb s : State} (hk : Keeps mk sb s) (hmk : 4194305 ||| mk = mk) {port v : Nat} :
    Keeps mk sb (State.fwCmd s port v) := by
  refine Keeps.step hk ?_ hmk
  have h_self : Keeps 4194305 s s := Keeps.refl
  unfold State.fwCmd
  exact (Keeps.ite_keep h_self (Keeps.ite_keep (State.fwBad_keep h_self rfl) (Keeps.ite_keep (State.fwCheck_keep h_self rfl) (Keeps.ite_keep (State.fwActivate_keep h_self rfl) (Keeps.ite_keep (State.fwConfirm_keep h_self rfl) (State.fwAbort_keep h_self rfl))))))

theorem State.fwLinkLoss_keep {mk : Nat} {sb s : State} (hk : Keeps mk sb s) (hmk : 4194305 ||| mk = mk) {port : Nat} :
    Keeps mk sb (State.fwLinkLoss s port) := by
  refine Keeps.step hk ?_ hmk
  have h_self : Keeps 4194305 s s := Keeps.refl
  unfold State.fwLinkLoss
  exact (State.when_keep h_self (fun x1_0 h_x1_0 => (State.fwIdle_keep h_x1_0 rfl)))

theorem State.lcRefuse_keep {mk : Nat} {sb s : State} (hk : Keeps mk sb s) (hmk : 1 ||| mk = mk) {reason : Nat} :
    Keeps mk sb (State.lcRefuse s reason) := by
  refine Keeps.step hk ?_ hmk
  have h_self : Keeps 1 s s := Keeps.refl
  unfold State.lcRefuse
  exact (State.put_keep (State.put_keep h_self rfl) rfl)

theorem State.lcCommand_keep {mk : Nat} {sb s0 : State} (hk : Keeps mk sb s0) (hmk : 4194313 ||| mk = mk) {port t : Nat} :
    Keeps mk sb (State.lcCommand s0 port t) := by
  refine Keeps.step hk ?_ hmk
  have h_self : Keeps 4194313 s0 s0 := Keeps.refl
  unfold State.lcCommand
  extract_lets -merge -useContext -underBinder +onlyGivenNames lc1 tokOk2 s3 valid4 trial5
  have h_s3 : Keeps 4194313 s0 s3 := (Keeps.ite_keep (State.drawn_keep (State.modSec_keep h_self rfl) rfl) h_self)
  exact (Keeps.ite_keep (State.lcRefuse_keep h_s3 rfl) (Keeps.ite_keep (State.lcRefuse_keep h_s3 rfl) (Keeps.ite_keep (State.lcRefuse_keep h_s3 rfl) (Keeps.ite_keep (State.lcRefuse_keep h_s3 rfl) (Keeps.ite_keep (State.lcRefuse_keep h_s3 rfl) (Keeps.ite_keep (State.lcRefuse_keep h_s3 rfl) (Keeps.ite_keep (State.lcRefuse_keep h_s3 rfl) (State.modSec_keep h_s3 rfl))))))))

theorem execLifecycleCommand_keep (port : Fin 2) (target : Fin 8) (s : State) : KeepsOut 4194313 s (execLifecycleCommand port target s) := by
  have h_self : Keeps 4194313 s s := Keeps.refl
  unfold execLifecycleCommand
  exact (KeepsOut.next (State.lcCommand_keep h_self rfl))

theorem State.lcDone_keep {mk : Nat} {sb s : State} (hk : Keeps mk sb s) (hmk : 6301697 ||| mk = mk) :
    Keeps mk sb (State.lcDone s) := by
  refine Keeps.step hk ?_ hmk
  have h_self : Keeps 6301697 s s := Keeps.refl
  unfold State.lcDone
  exact (by
  split
  · exact h_self
  · extract_lets -merge -useContext -underBinder +onlyGivenNames s13 s24 s35 s46
    have h_s13 : Keeps 6301697 s s13 := (State.modSec_keep h_self rfl)
    have h_s24 : Keeps 6301697 s s24 := (State.put_keep h_s13 rfl)
    have h_s35 : Keeps 6301697 s s35 := (State.when_keep h_s24 (fun x7_0 h_x7_0 => (State.sealShow_keep (State.put_keep (State.put_keep (State.put_keep (State.modSeal_keep h_x7_0 rfl) rfl) rfl) rfl) rfl)))
    have h_s46 : Keeps 6301697 s s46 := (State.when_keep h_s35 (fun x8_0 h_x8_0 => by
      extract_lets -merge -useContext -underBinder +onlyGivenNames q9 q10
      exact (State.modSec_keep (Keeps.rcd_gns_keep h_x8_0 rfl) rfl)))
    exact (State.put_keep (State.mr5_keep h_s46 rfl) rfl))

theorem execLifecycleCommandComplete_keep (s : State) : KeepsOut 6301697 s (execLifecycleCommandComplete s) := by
  have h_self : Keeps 6301697 s s := Keeps.refl
  unfold execLifecycleCommandComplete
  exact (KeepsOut.next (State.lcDone_keep h_self rfl))

theorem State.ssErr_keep {mk : Nat} {sb s : State} (hk : Keeps mk sb s) (hmk : 1 ||| mk = mk) :
    Keeps mk sb (State.ssErr s) := by
  refine Keeps.step hk ?_ hmk
  have h_self : Keeps 1 s s := Keeps.refl
  unfold State.ssErr
  exact (State.put_keep h_self rfl)

theorem State.ssStage_keep {mk : Nat} {sb s : State} (hk : Keeps mk sb s) (hmk : 4194305 ||| mk = mk) {k v : Nat} :
    Keeps mk sb (State.ssStage s k v) := by
  refine Keeps.step hk ?_ hmk
  have h_self : Keeps 4194305 s s := Keeps.refl
  unfold State.ssStage
  exact (Keeps.ite_keep (State.modSec_keep h_self rfl) (State.ssErr_keep h_self rfl))

theorem State.ssWrite_keep {mk : Nat} {sb s : State} (hk : Keeps mk sb s) (hmk : 4194305 ||| mk = mk) :
    Keeps mk sb (State.ssWrite s) := by
  refine Keeps.step hk ?_ hmk
  have h_self : Keeps 4194305 s s := Keeps.refl
  unfold State.ssWrite
  exact (Keeps.ite_keep (State.modSec_keep h_self rfl) (State.ssErr_keep h_self rfl))

theorem State.ssErase_keep {mk : Nat} {sb s : State} (hk : Keeps mk sb s) (hmk : 4194305 ||| mk = mk) :
    Keeps mk sb (State.ssErase s) := by
  refine Keeps.step hk ?_ hmk
  have h_self : Keeps 4194305 s s := Keeps.refl
  unfold State.ssErase
  exact (Keeps.ite_keep (State.modSec_keep h_self rfl) (State.ssErr_keep h_self rfl))

theorem execSecureStoreWrite_keep (s : State) : KeepsOut 4194305 s (execSecureStoreWrite s) := by
  have h_self : Keeps 4194305 s s := Keeps.refl
  unfold execSecureStoreWrite
  exact (KeepsOut.next (State.ssWrite_keep h_self rfl))

theorem execSecureStoreErase_keep (s : State) : KeepsOut 4194305 s (execSecureStoreErase s) := by
  have h_self : Keeps 4194305 s s := Keeps.refl
  unfold execSecureStoreErase
  exact (KeepsOut.next (State.ssErase_keep h_self rfl))

theorem State.tamper_keep {mk : Nat} {sb s : State} (hk : Keeps mk sb s) (hmk : 4196385 ||| mk = mk) {k : Nat} :
    Keeps mk sb (State.tamper s k) := by
  refine Keeps.step hk ?_ hmk
  have h_self : Keeps 4196385 s s := Keeps.refl
  unfold State.tamper
  extract_lets -merge -useContext -underBinder +onlyGivenNames s11
  have h_s11 : Keeps 4196385 s s11 := (State.inc_keep (State.setWord_keep (State.modSec_keep h_self rfl) rfl) rfl)
  exact (Keeps.ite_keep h_self (State.raise_keep (State.mr5_keep h_s11 rfl) rfl))

theorem execTamperTrip_keep (sensor : Fin 4) (s : State) : KeepsOut 4196385 s (execTamperTrip sensor s) := by
  have h_self : Keeps 4196385 s s := Keeps.refl
  unfold execTamperTrip
  exact (KeepsOut.next (State.tamper_keep h_self rfl))

end Sys2Proof.Machine
end

