-- ==== Sys2Proof/Laws/KeepHif.lean ====
section
/-! SUPPORT. What the functions of Machine/Hif.lean leave alone (see Laws/Keeps.lean). -/

namespace Sys2Proof.Machine

open Sys2Proof

theorem State.modHif_keep {mk : Nat} {sb s : State} (hk : Keeps mk sb s) (hmk : 16384 ||| mk = mk) {f : HifState → HifState} :
    Keeps mk sb (State.modHif s f) := by
  refine Keeps.step hk ?_ hmk
  have h_self : Keeps 16384 s s := Keeps.refl
  unfold State.modHif
  exact (Keeps.hif_keep h_self rfl)

theorem State.modHp_keep {mk : Nat} {sb s : State} (hk : Keeps mk sb s) (hmk : 16384 ||| mk = mk) {p : Nat} {f : HostPort → HostPort} :
    Keeps mk sb (State.modHp s p f) := by
  refine Keeps.step hk ?_ hmk
  have h_self : Keeps 16384 s s := Keeps.refl
  unfold State.modHp
  exact (State.modHif_keep h_self rfl)

theorem State.modRing_keep {mk : Nat} {sb s : State} (hk : Keeps mk sb s) (hmk : 16384 ||| mk = mk) {p q : Nat} {f : Ring → Ring} :
    Keeps mk sb (State.modRing s p q f) := by
  refine Keeps.step hk ?_ hmk
  have h_self : Keeps 16384 s s := Keeps.refl
  unfold State.modRing
  exact (State.modHp_keep h_self rfl)

theorem State.ringShow_keep {mk : Nat} {sb s : State} (hk : Keeps mk sb s) (hmk : 16385 ||| mk = mk) :
    Keeps mk sb (State.ringShow s) := by
  refine Keeps.step hk ?_ hmk
  have h_self : Keeps 16385 s s := Keeps.refl
  unfold State.ringShow
  extract_lets -merge -useContext -underBinder +onlyGivenNames s11
  have h_s11 : Keeps 16385 s s11 := (State.put_keep h_self rfl)
  exact (by
  split
  · exact (State.modHif_keep h_s11 rfl)
  · exact (State.modHif_keep h_s11 rfl)
  · exact h_s11)

theorem State.hifLoad_keep {mk : Nat} {sb s : State} (hk : Keeps mk sb s) (hmk : 16385 ||| mk = mk) :
    Keeps mk sb (State.hifLoad s) := by
  refine Keeps.step hk ?_ hmk
  have h_self : Keeps 16385 s s := Keeps.refl
  unfold State.hifLoad
  extract_lets -merge -useContext -underBinder +onlyGivenNames run1 v2
  exact (State.modHif_keep (State.putMax_keep (State.put_keep h_self rfl) rfl) rfl)

theorem State.hostMem_keep {mk : Nat} {sb s : State} (hk : Keeps mk sb s) (hmk : 16384 ||| mk = mk) {p addr : Nat} {b : List Byte} :
    Keeps mk sb (State.hostMem s p addr b) := by
  refine Keeps.step hk ?_ hmk
  have h_self : Keeps 16384 s s := Keeps.refl
  unfold State.hostMem
  exact (State.modHp_keep h_self rfl)

theorem State.msixSettle_keep {mk : Nat} {sb s : State} (hk : Keeps mk sb s) (hmk : 16384 ||| mk = mk) {p : Nat} :
    Keeps mk sb (State.msixSettle s p) := by
  refine Keeps.step hk ?_ hmk
  have h_self : Keeps 16384 s s := Keeps.refl
  unfold State.msixSettle
  exact (State.modHp_keep h_self rfl)

theorem State.msixAgain_keep {mk : Nat} {sb s : State} (hk : Keeps mk sb s) (hmk : 16384 ||| mk = mk) {p : Nat} :
    Keeps mk sb (State.msixAgain s p) := by
  refine Keeps.step hk ?_ hmk
  have h_self : Keeps 16384 s s := Keeps.refl
  unfold State.msixAgain
  exact (State.modHp_keep h_self rfl)

theorem State.msixSend_keep {mk : Nat} {sb s : State} (hk : Keeps mk sb s) (hmk : 16384 ||| mk = mk) {p v : Nat} :
    Keeps mk sb (State.msixSend s p v) := by
  refine Keeps.step hk ?_ hmk
  have h_self : Keeps 16384 s s := Keeps.refl
  unfold State.msixSend
  extract_lets -merge -useContext -underBinder +onlyGivenNames e1
  exact (State.modHp_keep (State.hostMem_keep h_self rfl) rfl)

theorem State.msixFire_keep {mk : Nat} {sb s : State} (hk : Keeps mk sb s) (hmk : 16384 ||| mk = mk) {p v : Nat} :
    Keeps mk sb (State.msixFire s p v) := by
  refine Keeps.step hk ?_ hmk
  have h_self : Keeps 16384 s s := Keeps.refl
  unfold State.msixFire
  exact (Keeps.ite_keep (State.modHp_keep h_self rfl) (by
  split
  · exact (Keeps.ite_keep (State.modHp_keep h_self rfl) (State.msixSend_keep h_self rfl))
  · exact (State.msixSend_keep h_self rfl)))

theorem State.msixTable_keep {mk : Nat} {sb s : State} (hk : Keeps mk sb s) (hmk : 16384 ||| mk = mk) {p v addr data : Nat} {masked fmask : Bool} :
    Keeps mk sb (State.msixTable s p v addr data masked fmask) := by
  refine Keeps.step hk ?_ hmk
  have h_self : Keeps 16384 s s := Keeps.refl
  unfold State.msixTable
  extract_lets -merge -useContext -underBinder +onlyGivenNames was1 s12
  have h_s12 : Keeps 16384 s s12 := (State.modHp_keep h_self rfl)
  exact (State.when_keep h_s12 (fun x3_0 h_x3_0 => (State.modHp_keep h_x3_0 rfl)))

theorem execMsixMessage_keep (p : Fin 2) (v : Fin 32) (addr : BitVec 64) (data : Word) (masked fmask : Bool) (s : State) : KeepsOut 16384 s (execMsixMessage p v addr data masked fmask s) := by
  have h_self : Keeps 16384 s s := Keeps.refl
  unfold execMsixMessage
  extract_lets -merge -useContext -underBinder +onlyGivenNames s11
  have h_s11 : Keeps 16384 s s11 := (State.msixTable_keep h_self rfl)
  exact (KeepsOut.next (State.when_keep h_s11 (fun x2_0 h_x2_0 => (State.msixFire_keep (State.modHp_keep h_x2_0 rfl) rfl))))

theorem execMsixModerationExpiry_keep (p : Fin 2) (v : Fin 32) (s : State) : KeepsOut 33574976 s (execMsixModerationExpiry p v s) := by
  have h_self : Keeps 33574976 s s := Keeps.refl
  unfold execMsixModerationExpiry
  exact (by
  split
  · extract_lets -merge -useContext -underBinder +onlyGivenNames e2 s13
    have h_s13 : Keeps 33574976 s s13 := (State.runInside_keep h_self rfl)
    exact (KeepsOut.next (Keeps.ite_keep h_s13 (State.when_keep (State.modHp_keep h_s13 rfl) (fun x4_0 h_x4_0 => (State.msixFire_keep h_x4_0 rfl)))))
  · exact (KeepsOut.next h_self))

theorem State.ringCfg_keep {mk : Nat} {sb s : State} (hk : Keeps mk sb s) (hmk : 1 ||| mk = mk) {p q v : Nat} :
    Keeps mk sb (State.ringCfg s p q v) := by
  refine Keeps.step hk ?_ hmk
  have h_self : Keeps 1 s s := Keeps.refl
  unfold State.ringCfg
  exact (State.setWord_keep h_self rfl)

theorem State.ringStart_keep {mk : Nat} {sb s : State} (hk : Keeps mk sb s) (hmk : 16385 ||| mk = mk) {p q v : Nat} :
    Keeps mk sb (State.ringStart s p q v) := by
  refine Keeps.step hk ?_ hmk
  have h_self : Keeps 16385 s s := Keeps.refl
  unfold State.ringStart
  extract_lets -merge -useContext -underBinder +onlyGivenNames s11
  have h_s11 : Keeps 16385 s s11 := (State.modRing_keep (State.ringCfg_keep h_self rfl) rfl)
  exact (State.put_keep (State.put_keep (State.put_keep (State.put_keep h_s11 rfl) rfl) rfl) rfl)

theorem State.ringStop_keep {mk : Nat} {sb s : State} (hk : Keeps mk sb s) (hmk : 16385 ||| mk = mk) {p q v : Nat} :
    Keeps mk sb (State.ringStop s p q v) := by
  refine Keeps.step hk ?_ hmk
  have h_self : Keeps 16385 s s := Keeps.refl
  unfold State.ringStop
  exact (Keeps.ite_keep (State.ringCfg_keep (State.put_keep h_self rfl) rfl) (State.ringCfg_keep (State.modRing_keep (State.put_keep h_self rfl) rfl) rfl))

theorem State.ringCfgWrite_keep {mk : Nat} {sb s : State} (hk : Keeps mk sb s) (hmk : 16385 ||| mk = mk) {p q v : Nat} :
    Keeps mk sb (State.ringCfgWrite s p q v) := by
  refine Keeps.step hk ?_ hmk
  have h_self : Keeps 16385 s s := Keeps.refl
  unfold State.ringCfgWrite
  extract_lets -merge -useContext -underBinder +onlyGivenNames s11
  have h_s11 : Keeps 16385 s s11 := (Keeps.ite_keep (Keeps.ite_keep h_self (State.ringStop_keep h_self rfl)) (Keeps.ite_keep (State.ringCfg_keep h_self rfl) (Keeps.ite_keep (State.put_keep h_self rfl) (Keeps.ite_keep h_self (State.ringStart_keep h_self rfl)))))
  exact (State.msixSettle_keep (State.ringShow_keep h_s11 rfl) rfl)

theorem State.ringBaseWrite_keep {mk : Nat} {sb s : State} (hk : Keeps mk sb s) (hmk : 1 ||| mk = mk) {p q hi v : Nat} :
    Keeps mk sb (State.ringBaseWrite s p q hi v) := by
  refine Keeps.step hk ?_ hmk
  have h_self : Keeps 1 s s := Keeps.refl
  unfold State.ringBaseWrite
  exact (Keeps.ite_keep h_self (State.setWord_keep h_self rfl))

theorem execRingEnable_keep (p : Fin 2) (q : Fin 16) (cfg : Word) (s : State) : KeepsOut 16385 s (execRingEnable p q cfg s) := by
  have h_self : Keeps 16385 s s := Keeps.refl
  unfold execRingEnable
  exact (KeepsOut.next (State.ringCfgWrite_keep h_self rfl))

theorem execRingDisable_keep (p : Fin 2) (q : Fin 16) (cfg : Word) (s : State) : KeepsOut 16385 s (execRingDisable p q cfg s) := by
  have h_self : Keeps 16385 s s := Keeps.refl
  unfold execRingDisable
  exact (KeepsOut.next (State.ringCfgWrite_keep h_self rfl))

theorem execRingStopped_keep (p : Fin 2) (q : Fin 16) (s : State) : KeepsOut 1 s (execRingStopped p q s) := by
  have h_self : Keeps 1 s s := Keeps.refl
  unfold execRingStopped
  exact (KeepsOut.next (State.when_keep h_self (fun x1_0 h_x1_0 => (State.put_keep h_x1_0 rfl))))

theorem State.ringError_keep {mk : Nat} {sb s : State} (hk : Keeps mk sb s) (hmk : 1 ||| mk = mk) {p q : Nat} :
    Keeps mk sb (State.ringError s p q) := by
  refine Keeps.step hk ?_ hmk
  have h_self : Keeps 1 s s := Keeps.refl
  unfold State.ringError
  exact (State.when_keep h_self (fun x1_0 h_x1_0 => (State.put_keep h_x1_0 rfl)))

theorem State.bellError_keep {mk : Nat} {sb s : State} (hk : Keeps mk sb s) (hmk : 18465 ||| mk = mk) {p q : Nat} :
    Keeps mk sb (State.bellError s p q) := by
  refine Keeps.step hk ?_ hmk
  have h_self : Keeps 18465 s s := Keeps.refl
  unfold State.bellError
  exact (State.ringShow_keep (State.ringError_keep (State.raiseMajor_keep (State.put_keep h_self rfl) rfl) rfl) rfl)

theorem State.sqBell_keep {mk : Nat} {sb s : State} (hk : Keeps mk sb s) (hmk : 18465 ||| mk = mk) {p q v : Nat} :
    Keeps mk sb (State.sqBell s p q v) := by
  refine Keeps.step hk ?_ hmk
  have h_self : Keeps 18465 s s := Keeps.refl
  unfold State.sqBell
  exact (Keeps.ite_keep h_self (Keeps.ite_keep (State.bellError_keep h_self rfl) (State.ringShow_keep (State.modRing_keep h_self rfl) rfl)))

theorem execSqtailDoorbell_keep (p : Fin 2) (q : Fin 16) (v : Word) (s : State) : KeepsOut 18465 s (execSqtailDoorbell p q v s) := by
  have h_self : Keeps 18465 s s := Keeps.refl
  unfold execSqtailDoorbell
  exact (KeepsOut.next (State.sqBell_keep h_self rfl))

theorem State.cqBell_keep {mk : Nat} {sb s : State} (hk : Keeps mk sb s) (hmk : 18465 ||| mk = mk) {p q v : Nat} :
    Keeps mk sb (State.cqBell s p q v) := by
  refine Keeps.step hk ?_ hmk
  have h_self : Keeps 18465 s s := Keeps.refl
  unfold State.cqBell
  extract_lets -merge -useContext -underBinder +onlyGivenNames r1 n2 tail3 adv4
  exact (Keeps.ite_keep h_self (Keeps.ite_keep (State.bellError_keep h_self rfl) (State.msixAgain_keep (State.modRing_keep h_self rfl) rfl)))

theorem execCqheadDoorbell_keep (p : Fin 2) (q : Fin 16) (v : Word) (s : State) : KeepsOut 18465 s (execCqheadDoorbell p q v s) := by
  have h_self : Keeps 18465 s s := Keeps.refl
  unfold execCqheadDoorbell
  exact (KeepsOut.next (State.cqBell_keep h_self rfl))

theorem execSnapDoorbell_keep (_p : Fin 2) (s : State) : KeepsOut 16384 s (execSnapDoorbell _p s) := by
  have h_self : Keeps 16384 s s := Keeps.refl
  unfold execSnapDoorbell
  exact (KeepsOut.next (State.when_keep h_self (fun x1_0 h_x1_0 => (State.modHif_keep h_x1_0 rfl))))

theorem State.bellRead_keep {mk : Nat} {sb s : State} (hk : Keeps mk sb s) (hmk : 4 ||| mk = mk) {p off : Nat} :
    Keeps mk sb (State.bellRead s p off) := by
  refine Keeps.step hk ?_ hmk
  have h_self : Keeps 4 s s := Keeps.refl
  unfold State.bellRead
  extract_lets -merge -useContext -underBinder +onlyGivenNames r1
  exact (Keeps.hostData_keep h_self rfl)

theorem State.freeRes_keep {mk : Nat} {sb s : State} (hk : Keeps mk sb s) (hmk : 8 ||| mk = mk) :
    Keeps mk sb (State.freeRes s).1 := by
  refine Keeps.step hk ?_ hmk
  have h_self : Keeps 8 s s := Keeps.refl
  unfold State.freeRes
  exact (Keeps.mk_fst (State.drawn_keep (State.drawn_keep h_self rfl) rfl))

theorem State.fetched_keep {mk : Nat} {sb s : State} (hk : Keeps mk sb s) (hmk : 16393 ||| mk = mk) {p q : Nat} {raw : List Byte} :
    Keeps mk sb (State.fetched s p q raw) := by
  refine Keeps.step hk ?_ hmk
  have h_self : Keeps 16393 s s := Keeps.refl
  unfold State.fetched
  extract_lets -merge -useContext -underBinder +onlyGivenNames head1 opc2 bad3 fr4 r5 d6 bells7
  have h_fr4 : Keeps 16393 s fr4.1 := Keeps.proj (State.freeRes_keep h_self rfl) rfl
  exact (State.ringShow_keep (State.put_keep (State.modRing_keep (Keeps.ite_keep h_fr4 h_self) rfl) rfl) rfl)

theorem execDescriptorFetch_keep (ok : Bool) (bytes : List Byte) (s : State) : KeepsOut 18473 s (execDescriptorFetch ok bytes s) := by
  have h_self : Keeps 18473 s s := Keeps.refl
  unfold execDescriptorFetch
  exact (by
  split
  · exact (KeepsOut.next h_self)
  · extract_lets -merge -useContext -underBinder +onlyGivenNames s13
    have h_s13 : Keeps 18473 s s13 := (State.modHif_keep h_self rfl)
    exact (KeepsOut.next (Keeps.ite_keep (State.fetched_keep h_s13 rfl) (State.ringShow_keep (State.raiseMajor_keep (State.ringError_keep h_s13 rfl) rfl) rfl))))

theorem State.modDesc_keep {mk : Nat} {sb s : State} (hk : Keeps mk sb s) (hmk : 16384 ||| mk = mk) {p q i : Nat} {f : Desc → Desc} :
    Keeps mk sb (State.modDesc s p q i f) := by
  refine Keeps.step hk ?_ hmk
  have h_self : Keeps 16384 s s := Keeps.refl
  unfold State.modDesc
  exact (State.modRing_keep h_self rfl)

theorem State.descDone_keep {mk : Nat} {sb s : State} (hk : Keeps mk sb s) (hmk : 16384 ||| mk = mk) {p q i st r0 r1 : Nat} :
    Keeps mk sb (State.descDone s p q i st r0 r1) := by
  refine Keeps.step hk ?_ hmk
  have h_self : Keeps 16384 s s := Keeps.refl
  unfold State.descDone
  exact (State.modDesc_keep h_self rfl)

theorem State.startOp_keep {mk : Nat} {sb s : State} (h : Keeps mk sb s) (_hm : 0 ||| mk = mk) {p q opc : Nat} {f : State → Nat → Desc → State}
    (hf : ∀ x i d, Keeps mk sb x → Keeps mk sb (f x i d)) : Keeps mk sb (State.startOp s p q opc f) := by
  unfold State.startOp
  split
  · exact Keeps.ite_keep (hf _ _ _ h) h
  · exact h

theorem State.badParam_keep {mk : Nat} {sb s : State} (hk : Keeps mk sb s) (hmk : 16392 ||| mk = mk) {p q i opc : Nat} :
    Keeps mk sb (State.badParam s p q i opc) := by
  refine Keeps.step hk ?_ hmk
  have h_self : Keeps 16392 s s := Keeps.refl
  unfold State.badParam
  extract_lets -merge -useContext -underBinder +onlyGivenNames fr1
  have h_fr1 : Keeps 16392 s fr1.1 := Keeps.proj (State.freeRes_keep h_self rfl) rfl
  exact (Keeps.ite_keep (State.descDone_keep h_fr1 rfl) (Keeps.ite_keep (State.descDone_keep h_fr1 rfl) (State.descDone_keep h_self rfl)))

theorem execNop_keep (p : Fin 2) (q : Fin 16) (s : State) : KeepsOut 16384 s (execNop p q s) := by
  have h_self : Keeps 16384 s s := Keeps.refl
  unfold execNop
  exact (KeepsOut.next (State.startOp_keep h_self rfl (fun x1_0 _ _ h_x1_0 => (State.descDone_keep h_x1_0 rfl))))

theorem State.snapCopy_keep {mk : Nat} {sb s : State} (hk : Keeps mk sb s) (hmk : 16384 ||| mk = mk) {p q i : Nat} {d : Desc} :
    Keeps mk sb (State.snapCopy s p q i d) := by
  refine Keeps.step hk ?_ hmk
  have h_self : Keeps 16384 s s := Keeps.refl
  unfold State.snapCopy
  extract_lets -merge -useContext -underBinder +onlyGivenNames b1
  exact (State.descDone_keep (State.hostMem_keep h_self rfl) rfl)

theorem execSnapCopy_keep (p : Fin 2) (q : Fin 16) (s : State) : KeepsOut 16392 s (execSnapCopy p q s) := by
  have h_self : Keeps 16392 s s := Keeps.refl
  unfold execSnapCopy
  exact (KeepsOut.next (State.startOp_keep h_self rfl (fun x1_0 _ _ h_x1_0 => (Keeps.ite_keep (State.badParam_keep h_x1_0 rfl) (Keeps.ite_keep (State.modDesc_keep h_x1_0 rfl) (State.snapCopy_keep h_x1_0 rfl))))))

theorem execRecRead_keep (p : Fin 2) (q : Fin 16) (s : State) : KeepsOut 16392 s (execRecRead p q s) := by
  have h_self : Keeps 16392 s s := Keeps.refl
  unfold execRecRead
  exact (KeepsOut.next (State.startOp_keep h_self rfl (fun x1_0 _ _ h_x1_0 => by
    extract_lets -merge -useContext -underBinder +onlyGivenNames start2 n3 ks4 bad5 marked6
    exact (Keeps.ite_keep (State.badParam_keep h_x1_0 rfl) (State.descDone_keep (State.hostMem_keep h_x1_0 rfl) rfl)))))

theorem execRtcmSubmit_keep (p : Fin 2) (q : Fin 16) (bytes : List Byte) (s : State) : KeepsOut 26665 s (execRtcmSubmit p q bytes s) := by
  have h_self : Keeps 26665 s s := Keeps.refl
  unfold execRtcmSubmit
  exact (KeepsOut.next (State.startOp_keep h_self rfl (fun x1_0 _ _ h_x1_0 => by
    extract_lets -merge -useContext -underBinder +onlyGivenNames n2 r3
    have h_r3 : Keeps 26665 s r3.1 := Keeps.proj (State.rtcmBuffer_keep h_x1_0 rfl) rfl
    exact (Keeps.ite_keep (State.badParam_keep h_x1_0 rfl) (State.descDone_keep h_r3 rfl)))))

theorem execEthTx_keep (p : Fin 2) (q : Fin 16) (bytes : List Byte) (s : State) : KeepsOut 16520 s (execEthTx p q bytes s) := by
  have h_self : Keeps 16520 s s := Keeps.refl
  unfold execEthTx
  exact (KeepsOut.next (State.startOp_keep h_self rfl (fun x1_0 _ _ h_x1_0 => by
    extract_lets -merge -useContext -underBinder +onlyGivenNames n2 net3
    exact (Keeps.ite_keep (State.badParam_keep h_x1_0 rfl) (by
    split
    · exact (State.descDone_keep (State.ethQueue_keep h_x1_0 rfl) rfl)
    · extract_lets -merge -useContext -underBinder +onlyGivenNames fr6
      have h_fr6 : Keeps 16520 s fr6.1 := Keeps.proj (State.freeRes_keep h_x1_0 rfl) rfl
      exact (State.descDone_keep h_fr6 rfl))))))

theorem execRxBuf_keep (p : Fin 2) (q : Fin 16) (s : State) : KeepsOut 16392 s (execRxBuf p q s) := by
  have h_self : Keeps 16392 s s := Keeps.refl
  unfold execRxBuf
  exact (KeepsOut.next (State.startOp_keep h_self rfl (fun x1_0 _ _ h_x1_0 => (Keeps.ite_keep (State.badParam_keep h_x1_0 rfl) (State.modDesc_keep h_x1_0 rfl)))))

theorem State.rxPut_keep {mk : Nat} {sb s : State} (hk : Keeps mk sb s) (hmk : 18465 ||| mk = mk) {p q : Nat} {x : RxItem} :
    Keeps mk sb (State.rxPut s p q x) := by
  refine Keeps.step hk ?_ hmk
  have h_self : Keeps 18465 s s := Keeps.refl
  unfold State.rxPut
  exact (by
  split
  · exact (State.raiseMajor_keep (State.inc_keep h_self rfl) rfl)
  · extract_lets -merge -useContext -underBinder +onlyGivenNames seq3 head4
    exact (State.descDone_keep (State.modRing_keep (State.hostMem_keep h_self rfl) rfl) rfl))

theorem State.rxDeliver_keep {mk : Nat} {sb s : State} (hk : Keeps mk sb s) (hmk : 18465 ||| mk = mk) {x : RxItem} :
    Keeps mk sb (State.rxDeliver s x) := by
  refine Keeps.step hk ?_ hmk
  have h_self : Keeps 18465 s s := Keeps.refl
  unfold State.rxDeliver
  extract_lets -merge -useContext -underBinder +onlyGivenNames to11 hit2
  exact (State.when_keep (State.each_keep h_self (fun x4_0 _ h_x4_0 => (State.rxPut_keep h_x4_0 rfl))) (fun x3_0 h_x3_0 => (State.raise_keep h_x3_0 rfl)))

theorem execRxItemDelivery_keep (s : State) : KeepsOut 18465 s (execRxItemDelivery s) := by
  have h_self : Keeps 18465 s s := Keeps.refl
  unfold execRxItemDelivery
  exact (by
  split
  · exact (KeepsOut.next h_self)
  · exact (KeepsOut.next (State.rxDeliver_keep (State.modHif_keep h_self rfl) rfl)))

theorem State.latency_keep {mk : Nat} {sb s : State} (hk : Keeps mk sb s) (hmk : 1 ||| mk = mk) {d : Desc} :
    Keeps mk sb (State.latency s d) := by
  refine Keeps.step hk ?_ hmk
  have h_self : Keeps 1 s s := Keeps.refl
  unfold State.latency
  extract_lets -merge -useContext -underBinder +onlyGivenNames v1
  exact (Keeps.ite_keep h_self (State.putMax_keep (State.put_keep h_self rfl) rfl))

theorem State.complete_keep {mk : Nat} {sb s : State} (hk : Keeps mk sb s) (hmk : 16385 ||| mk = mk) {p q i : Nat} {d : Desc} :
    Keeps mk sb (State.complete s p q i d) := by
  refine Keeps.step hk ?_ hmk
  have h_self : Keeps 16385 s s := Keeps.refl
  unfold State.complete
  extract_lets -merge -useContext -underBinder +onlyGivenNames tail1 ph2 n3 irq4 s15 s26 s37
  have h_s15 : Keeps 16385 s s15 := (State.hostMem_keep h_self rfl)
  have h_s26 : Keeps 16385 s s26 := (State.modRing_keep h_s15 rfl)
  have h_s37 : Keeps 16385 s s37 := (State.put_keep (State.put_keep h_s26 rfl) rfl)
  exact (State.ringShow_keep (State.when_keep h_s37 (fun x8_0 h_x8_0 => (State.latency_keep h_x8_0 rfl))) rfl)

theorem execCompletionWrite_keep (p : Fin 2) (q : Fin 16) (ok : Bool) (s : State) : KeepsOut 18465 s (execCompletionWrite p q ok s) := by
  have h_self : Keeps 18465 s s := Keeps.refl
  unfold execCompletionWrite
  exact (by
  split
  · exact (KeepsOut.next h_self)
  · exact (KeepsOut.next (Keeps.ite_keep (State.complete_keep h_self rfl) (State.ringShow_keep (State.raiseMajor_keep (State.ringError_keep (State.modRing_keep h_self rfl) rfl) rfl) rfl))))

theorem State.semRead_keep {mk : Nat} {sb s : State} (hk : Keeps mk sb s) (hmk : 5 ||| mk = mk) {p n : Nat} :
    Keeps mk sb (State.semRead s p n) := by
  refine Keeps.step hk ?_ hmk
  have h_self : Keeps 5 s s := Keeps.refl
  unfold State.semRead
  extract_lets -merge -useContext -underBinder +onlyGivenNames s11
  have h_s11 : Keeps 5 s s11 := (Keeps.hostData_keep h_self rfl)
  exact (Keeps.ite_keep h_s11 (State.put_keep (State.put_keep h_s11 rfl) rfl))

theorem State.semFree_keep {mk : Nat} {sb s : State} (hk : Keeps mk sb s) (hmk : 1 ||| mk = mk) {n : Nat} :
    Keeps mk sb (State.semFree s n) := by
  refine Keeps.step hk ?_ hmk
  have h_self : Keeps 1 s s := Keeps.refl
  unfold State.semFree
  exact (State.put_keep (State.put_keep h_self rfl) rfl)

theorem State.semWrite_keep {mk : Nat} {sb s : State} (hk : Keeps mk sb s) (hmk : 1 ||| mk = mk) {p n v : Nat} :
    Keeps mk sb (State.semWrite s p n v) := by
  refine Keeps.step hk ?_ hmk
  have h_self : Keeps 1 s s := Keeps.refl
  unfold State.semWrite
  exact (Keeps.ite_keep h_self (Keeps.ite_keep (State.put_keep h_self rfl) (Keeps.ite_keep h_self (State.semFree_keep h_self rfl))))

theorem execHifSemRead_keep (p : Fin 2) (n : Fin 64) (s : State) : KeepsOut 5 s (execHifSemRead p n s) := by
  have h_self : Keeps 5 s s := Keeps.refl
  unfold execHifSemRead
  exact (KeepsOut.next (State.semRead_keep h_self rfl))

theorem execHifSemWrite_keep (p : Fin 2) (n : Fin 64) (v : Word) (s : State) : KeepsOut 1 s (execHifSemWrite p n v s) := by
  have h_self : Keeps 1 s s := Keeps.refl
  unfold execHifSemWrite
  exact (KeepsOut.next (State.semWrite_keep h_self rfl))

theorem State.readyBit_keep {mk : Nat} {sb s : State} (hk : Keeps mk sb s) (hmk : 1 ||| mk = mk) {k : Nat} {b : Bool} :
    Keeps mk sb (State.readyBit s k b) := by
  refine Keeps.step hk ?_ hmk
  have h_self : Keeps 1 s s := Keeps.refl
  unfold State.readyBit
  exact (State.putBit_keep h_self rfl)

theorem State.putLink_keep {mk : Nat} {sb s : State} (hk : Keeps mk sb s) (hmk : 1 ||| mk = mk) {p : Nat} {b : Bool} :
    Keeps mk sb (State.putLink s p b) := by
  refine Keeps.step hk ?_ hmk
  have h_self : Keeps 1 s s := Keeps.refl
  unfold State.putLink
  extract_lets -merge -useContext -underBinder +onlyGivenNames s11
  have h_s11 : Keeps 1 s s11 := (State.putB_keep (State.putB_keep h_self rfl) rfl)
  exact (State.readyBit_keep h_s11 rfl)

theorem State.hostUp_keep {mk : Nat} {sb s : State} (hk : Keeps mk sb s) (hmk : 18465 ||| mk = mk) {p width speed : Nat} :
    Keeps mk sb (State.hostUp s p width speed) := by
  refine Keeps.step hk ?_ hmk
  have h_self : Keeps 18465 s s := Keeps.refl
  unfold State.hostUp
  extract_lets -merge -useContext -underBinder +onlyGivenNames s11
  have h_s11 : Keeps 18465 s s11 := (State.put_keep (State.put_keep h_self rfl) rfl)
  exact (Keeps.ite_keep h_s11 (State.raise_keep (State.msixAgain_keep (State.put_keep (State.putLink_keep h_s11 rfl) rfl) rfl) rfl))

theorem execHostLinkUp_keep (p : Fin 2) (wide : Bool) (speed : Fin 3) (s : State) : KeepsOut 18465 s (execHostLinkUp p wide speed s) := by
  have h_self : Keeps 18465 s s := Keeps.refl
  unfold execHostLinkUp
  exact (KeepsOut.next (State.hostUp_keep h_self rfl))

theorem State.portReset_keep {mk : Nat} {sb s : State} (hk : Keeps mk sb s) (hmk : 16385 ||| mk = mk) {p : Nat} :
    Keeps mk sb (State.portReset s p) := by
  refine Keeps.step hk ?_ hmk
  have h_self : Keeps 16385 s s := Keeps.refl
  unfold State.portReset
  exact (State.modHp_keep (State.each_keep h_self (fun x1_0 _ h_x1_0 => (State.setWord_keep h_x1_0 rfl))) rfl)

theorem State.ringsClear_keep {mk : Nat} {sb s : State} (hk : Keeps mk sb s) (hmk : 16385 ||| mk = mk) {p : Nat} :
    Keeps mk sb (State.ringsClear s p) := by
  refine Keeps.step hk ?_ hmk
  have h_self : Keeps 16385 s s := Keeps.refl
  unfold State.ringsClear
  exact (State.each_keep h_self (fun x1_0 _ h_x1_0 => (State.modRing_keep (State.put_keep (State.put_keep h_x1_0 rfl) rfl) rfl)))

theorem State.hostDown_keep {mk : Nat} {sb s : State} (hk : Keeps mk sb s) (hmk : 6572065 ||| mk = mk) {p kind : Nat} :
    Keeps mk sb (State.hostDown s p kind) := by
  refine Keeps.step hk ?_ hmk
  have h_self : Keeps 6572065 s s := Keeps.refl
  unfold State.hostDown
  extract_lets -merge -useContext -underBinder +onlyGivenNames up1 held2 s13 s24 s35
  have h_s13 : Keeps 6572065 s s13 := (State.ringShow_keep (State.when_keep (State.each_keep (State.ringsClear_keep h_self rfl) (fun x7_0 _ h_x7_0 => (State.semFree_keep h_x7_0 rfl))) (fun x6_0 h_x6_0 => (State.inc_keep (State.putLink_keep h_x6_0 rfl) rfl))) rfl)
  have h_s24 : Keeps 6572065 s s24 := (State.when_keep h_s13 (fun x8_0 h_x8_0 => (State.portReset_keep h_x8_0 rfl)))
  have h_s35 : Keeps 6572065 s s35 := (State.fwLinkLoss_keep (State.sealLinkLoss_keep (State.canLinkLoss_keep h_s24 rfl) rfl) rfl)
  exact (Keeps.ite_keep (State.raise_keep (State.when_keep h_s35 (fun x9_0 h_x9_0 => (State.raise_keep h_x9_0 rfl))) rfl) (Keeps.ite_keep h_self (State.when_keep h_s35 (fun x10_0 h_x10_0 => (State.raise_keep h_x10_0 rfl)))))

theorem execHostLinkLoss_keep (p : Fin 2) (kind : Fin 3) (s : State) : KeepsOut 6572065 s (execHostLinkLoss p kind s) := by
  have h_self : Keeps 6572065 s s := Keeps.refl
  unfold execHostLinkLoss
  exact (KeepsOut.next (State.hostDown_keep h_self rfl))

theorem State.bankDone_keep {mk : Nat} {sb s : State} (hk : Keeps mk sb s) (hmk : 16385 ||| mk = mk) :
    Keeps mk sb (State.bankDone s) := by
  refine Keeps.step hk ?_ hmk
  have h_self : Keeps 16385 s s := Keeps.refl
  unfold State.bankDone
  exact (by
  split
  · exact h_self
  · extract_lets -merge -useContext -underBinder +onlyGivenNames e3 s14 s25
    have h_s14 : Keeps 16385 s s14 := (State.put_keep (State.modHif_keep (State.setWords_keep h_self rfl) rfl) rfl)
    have h_s25 : Keeps 16385 s s25 := (State.put_keep (State.put_keep h_s14 rfl) rfl)
    exact (State.each_keep h_s25 (fun x6_0 _ h_x6_0 => (State.each_keep h_x6_0 (fun x7_0 _ h_x7_0 => (State.snapCopy_keep h_x7_0 rfl))))))

theorem State.snapTake_keep {mk : Nat} {sb s0 : State} (hk : Keeps mk sb s0) (hmk : 18465 ||| mk = mk) {asked : Bool} :
    Keeps mk sb (State.snapTake asked s0) := by
  refine Keeps.step hk ?_ hmk
  have h_self : Keeps 18465 s0 s0 := Keeps.refl
  unfold State.snapTake
  extract_lets -merge -useContext -underBinder +onlyGivenNames s1 e2 w643 ws4 s15
  have h_s1 : Keeps 18465 s0 s1 := (State.bankDone_keep h_self rfl)
  have h_s15 : Keeps 18465 s0 s15 := (State.modHif_keep (State.setWords_keep h_s1 rfl) rfl)
  exact (State.when_keep h_s15 (fun x6_0 h_x6_0 => (State.raise_keep h_x6_0 rfl)))

theorem execCounterSnapshot_keep (s : State) : KeepsOut 18465 s (execCounterSnapshot s) := by
  have h_self : Keeps 18465 s s := Keeps.refl
  unfold execCounterSnapshot
  exact (KeepsOut.next (State.when_keep h_self (fun x1_0 h_x1_0 => (State.snapTake_keep h_x1_0 rfl))))

theorem execSnapshotBankComplete_keep (s : State) : KeepsOut 33574977 s (execSnapshotBankComplete s) := by
  have h_self : Keeps 33574977 s s := Keeps.refl
  unfold execSnapshotBankComplete
  exact (KeepsOut.next (Keeps.ite_keep (State.bankDone_keep (State.runInside_keep h_self rfl) rfl) h_self))

end Sys2Proof.Machine
end

