-- ==== Sys2Proof/Laws/KeepMirror.lean ====
section
/-! SUPPORT. What the functions of Machine/Mirror.lean leave alone (see Laws/Keeps.lean). -/

namespace Sys2Proof.Machine

open Sys2Proof

theorem State.mirrorEst_keep {mk : Nat} {sb s : State} (hk : Keeps mk sb s) (hmk : 1025 ||| mk = mk) {b : List Byte} :
    Keeps mk sb (State.mirrorEst s b) := by
  refine Keeps.step hk ?_ hmk
  have h_self : Keeps 1025 s s := Keeps.refl
  unfold State.mirrorEst
  extract_lets -merge -useContext -underBinder +onlyGivenNames s11 pr2 hr3 tg4 tc5 arb6 s27 s38 timed9 s410 marks11
  have h_s11 : Keeps 1025 s s11 := (State.modEst_keep h_self rfl)
  have h_pr2 : ∀ z0 z1, Keeps 1025 s z0 → Keeps 1025 s (pr2 z0 z1) := (fun x12_0 _ h_x12_0 => (State.modRef_keep h_x12_0 rfl))
  have h_hr3 : ∀ z0 z1, Keeps 1025 s z0 → Keeps 1025 s (hr3 z0 z1) := (fun x13_0 _ h_x13_0 => (State.modRef_keep h_x13_0 rfl))
  have h_tg4 : ∀ z0 z1, Keeps 1025 s z0 → Keeps 1025 s (tg4 z0 z1) := (fun x14_0 _ h_x14_0 => (State.modTg_keep h_x14_0 rfl))
  have h_tc5 : ∀ z0 z1, Keeps 1025 s z0 → Keeps 1025 s (tc5 z0 z1) := (fun x15_0 _ h_x15_0 => by
    unfold tc5
    extract_lets -merge -useContext -underBinder +onlyGivenNames n16
    exact (State.modRef_keep h_x15_0 rfl))
  have h_arb6 : ∀ z0 z1, Keeps 1025 s z0 → Keeps 1025 s (arb6 z0 z1) := (fun x17_0 _ h_x17_0 => by
    unfold arb6
    extract_lets -merge -useContext -underBinder +onlyGivenNames o18 since19
    exact (State.modRef_keep (State.put_keep (State.put_keep h_x17_0 rfl) rfl) rfl))
  have h_s27 : Keeps 1025 s s27 := (State.each_keep (State.each_keep (State.each_keep h_s11 (fun x22_0 _ h_x22_0 => (h_pr2 _ _ h_x22_0))) (fun x21_0 _ h_x21_0 => (h_hr3 _ _ h_x21_0))) (fun x20_0 _ h_x20_0 => (h_tg4 _ _ h_x20_0)))
  have h_s38 : Keeps 1025 s s38 := (State.each_keep h_s27 (fun x23_0 _ h_x23_0 => (h_tc5 _ _ h_x23_0)))
  have h_s410 : Keeps 1025 s s410 := (State.setContra_keep (State.setContra_keep (State.each_keep h_s38 (fun x24_0 _ h_x24_0 => (h_arb6 _ _ h_x24_0))) rfl) rfl)
  exact (State.formRecords_keep (State.put_keep h_s410 rfl) rfl)

theorem State.mirrorLoop_keep {mk : Nat} {sb s : State} (hk : Keeps mk sb s) (hmk : 32768 ||| mk = mk) {b : List Byte} {o n : Nat} :
    Keeps mk sb (State.mirrorLoop s b o n) := by
  refine Keeps.step hk ?_ hmk
  have h_self : Keeps 32768 s s := Keeps.refl
  unfold State.mirrorLoop
  exact (State.modLoop_keep h_self rfl)

theorem State.mirrorMode_keep {mk : Nat} {sb s : State} (hk : Keeps mk sb s) (hmk : 32769 ||| mk = mk) {b : List Byte} :
    Keeps mk sb (State.mirrorMode s b) := by
  refine Keeps.step hk ?_ hmk
  have h_self : Keeps 32769 s s := Keeps.refl
  unfold State.mirrorMode
  extract_lets -merge -useContext -underBinder +onlyGivenNames o1 fl2 s13 s24
  have h_s13 : Keeps 32769 s s13 := (State.modMd_keep h_self rfl)
  have h_s24 : Keeps 32769 s s24 := (State.put_keep (State.put_keep (State.put_keep h_s13 rfl) rfl) rfl)
  exact (State.each_keep h_s24 (fun x5_0 _ h_x5_0 => (State.putI_keep h_x5_0 rfl)))

theorem State.mirrorAlc_keep {mk : Nat} {sb s : State} (hk : Keeps mk sb s) (hmk : 65536 ||| mk = mk) {b : List Byte} :
    Keeps mk sb (State.mirrorAlc s b) := by
  refine Keeps.step hk ?_ hmk
  have h_self : Keeps 65536 s s := Keeps.refl
  unfold State.mirrorAlc
  extract_lets -merge -useContext -underBinder +onlyGivenNames w1 words2 sum3 fx4 fy5 yaw6 pw7 i328 stat9 tot10 new11 keep12 thr13
  have h_thr13 : ∀ z0 z1, Keeps 65536 s z0 → Keeps 65536 s (thr13 z0 z1) := (fun x14_0 _ h_x14_0 => (State.modThr_keep h_x14_0 rfl))
  exact (State.modAlc_keep (State.each_keep h_self (fun x15_0 _ h_x15_0 => (h_thr13 _ _ h_x15_0))) rfl)

theorem State.mirrorAxis_keep {mk : Nat} {sb s : State} (hk : Keeps mk sb s) (hmk : 131073 ||| mk = mk) {b : List Byte} {age n : Nat} :
    Keeps mk sb (State.mirrorAxis s b age n) := by
  refine Keeps.step hk ?_ hmk
  have h_self : Keeps 131073 s s := Keeps.refl
  unfold State.mirrorAxis
  extract_lets -merge -useContext -underBinder +onlyGivenNames o1 st2 ph3 x4 w5 tgt6 s07 v08 a09 k10 l11 d012 d13 vmax14 segs15 e16 pos17 pend18 s119
  have h_s119 : Keeps 131073 s s119 := (State.modAxis_keep h_self rfl)
  exact (Keeps.ite_keep h_self (State.axisPub_keep (State.put_keep (State.putB_keep (State.putB_keep (State.axisTo_keep h_s119 rfl) rfl) rfl) rfl) rfl))

theorem State.mirrorApply_keep {mk : Nat} {sb s : State} (hk : Keeps mk sb s) (hmk : 754689 ||| mk = mk) {b : List Byte} :
    Keeps mk sb (State.mirrorApply s b) := by
  refine Keeps.step hk ?_ hmk
  have h_self : Keeps 754689 s s := Keeps.refl
  unfold State.mirrorApply
  extract_lets -merge -useContext -underBinder +onlyGivenNames age1 s12 q3
  have h_s12 : Keeps 754689 s s12 := (State.each_keep (State.mirrorAlc_keep (State.mirrorMode_keep (State.each_keep (State.mirrorEst_keep h_self rfl) (fun x5_0 _ h_x5_0 => (State.mirrorLoop_keep h_x5_0 rfl))) rfl) rfl) (fun x4_0 _ h_x4_0 => (State.mirrorAxis_keep h_x4_0 rfl)))
  exact (Keeps.red_keep h_s12 rfl)

theorem State.axoSnapshot_keep {mk : Nat} {sb s : State} (hk : Keeps mk sb s) (hmk : 8 ||| mk = mk) {mirror : List Byte} :
    Keeps mk sb (State.axoSnapshot s mirror).1 := by
  refine Keeps.step hk ?_ hmk
  have h_self : Keeps 8 s s := Keeps.refl
  unfold State.axoSnapshot
  extract_lets -merge -useContext -underBinder +onlyGivenNames body1
  exact (Keeps.mk_fst (Keeps.freeCtr_keep h_self rfl (Nat.le_add_right _ _)))

theorem State.axoAlloc_keep {mk : Nat} {sb s : State} (hk : Keeps mk sb s) (hmk : 65537 ||| mk = mk) {seg : List Byte} :
    Keeps mk sb (State.axoAlloc s seg) := by
  refine Keeps.step hk ?_ hmk
  have h_self : Keeps 65537 s s := Keeps.refl
  unfold State.axoAlloc
  extract_lets -merge -useContext -underBinder +onlyGivenNames s11
  have h_s11 : Keeps 65537 s s11 := (State.each_keep (State.modAlc_keep h_self rfl) (fun x2_0 _ h_x2_0 => by
    extract_lets -merge -useContext -underBinder +onlyGivenNames v3
    exact (State.modThr_keep h_x2_0 rfl)))
  exact (State.each_keep h_s11 (fun x4_0 _ h_x4_0 => by
    extract_lets -merge -useContext -underBinder +onlyGivenNames v5 s26
    have h_s26 : Keeps 65537 s s26 := (State.modGroup_keep (State.putBit_keep h_x4_0 rfl) rfl)
    exact (State.setWords_keep h_s26 rfl)))

theorem State.axoEnergy_keep {mk : Nat} {sb s : State} (hk : Keeps mk sb s) (hmk : 65537 ||| mk = mk) {seg : List Byte} {bus : Nat} :
    Keeps mk sb (State.axoEnergy s seg bus) := by
  refine Keeps.step hk ?_ hmk
  have h_self : Keeps 65537 s s := Keeps.refl
  unfold State.axoEnergy
  extract_lets -merge -useContext -underBinder +onlyGivenNames v1
  exact (State.setWords_keep (State.modEnergy_keep h_self rfl) rfl)

theorem State.axoLoad_keep {mk : Nat} {sb s : State} (hk : Keeps mk sb s) (hmk : 99329 ||| mk = mk) {b : List Byte} :
    Keeps mk sb (State.axoLoad s b) := by
  refine Keeps.step hk ?_ hmk
  have h_self : Keeps 99329 s s := Keeps.refl
  unfold State.axoLoad
  extract_lets -merge -useContext -underBinder +onlyGivenNames s11 s22
  have h_s11 : Keeps 99329 s s11 := (State.each_keep (State.modEst_keep h_self rfl) (fun x3_0 _ h_x3_0 => (State.modRef_keep h_x3_0 rfl)))
  have h_s22 : Keeps 99329 s s22 := (State.axoAlloc_keep (State.each_keep h_s11 (fun x4_0 _ h_x4_0 => (State.mirrorLoop_keep h_x4_0 rfl))) rfl)
  exact (State.each_keep h_s22 (fun x5_0 _ h_x5_0 => (State.axoEnergy_keep h_x5_0 rfl)))

theorem State.takePreset_keep {mk : Nat} {sb s : State} (hk : Keeps mk sb s) (hmk : 557056 ||| mk = mk) :
    Keeps mk sb (State.takePreset s) := by
  refine Keeps.step hk ?_ hmk
  have h_self : Keeps 557056 s s := Keeps.refl
  unfold State.takePreset
  extract_lets -merge -useContext -underBinder +onlyGivenNames u1 one2 q3 q4
  have h_one2 : ∀ z0 z1, Keeps 557056 s z0 → Keeps 557056 s (one2 z0 z1) := (fun x5_0 _ h_x5_0 => (Keeps.ite_keep (State.modLoop_keep h_x5_0 rfl) h_x5_0))
  have h_q3 : Keeps 557056 s q3 := (State.each_keep h_self (fun x6_0 _ h_x6_0 => (h_one2 _ _ h_x6_0)))
  exact (Keeps.ite_keep (Keeps.red_keep h_q3 rfl) h_self)

end Sys2Proof.Machine
end

