-- ==== Sys2Proof/Laws/KeepRed.lean ====
section
/-! SUPPORT. What the functions of Machine/Red.lean leave alone (see Laws/Keeps.lean). -/

namespace Sys2Proof.Machine

open Sys2Proof

theorem State.modRed_keep {mk : Nat} {sb s : State} (hk : Keeps mk sb s) (hmk : 524288 ||| mk = mk) {f : RedState → RedState} :
    Keeps mk sb (State.modRed s f) := by
  refine Keeps.step hk ?_ hmk
  have h_self : Keeps 524288 s s := Keeps.refl
  unfold State.modRed
  exact (Keeps.red_keep h_self rfl)

theorem State.modLink_keep {mk : Nat} {sb s : State} (hk : Keeps mk sb s) (hmk : 524288 ||| mk = mk) {p : Nat} {f : PeerLink → PeerLink} :
    Keeps mk sb (State.modLink s p f) := by
  refine Keeps.step hk ?_ hmk
  have h_self : Keeps 524288 s s := Keeps.refl
  unfold State.modLink
  exact (State.modRed_keep h_self rfl)

theorem State.redRefuse_keep {mk : Nat} {sb s : State} (hk : Keeps mk sb s) (hmk : 2089 ||| mk = mk) {reason : Option Nat} :
    Keeps mk sb (State.redRefuse s reason) := by
  refine Keeps.step hk ?_ hmk
  have h_self : Keeps 2089 s s := Keeps.refl
  unfold State.redRefuse
  extract_lets -merge -useContext -underBinder +onlyGivenNames s11
  have h_s11 : Keeps 2089 s s11 := (State.raise_keep (State.put_keep h_self rfl) rfl)
  exact (by
  split
  · exact (State.put_keep h_s11 rfl)
  · exact (State.drawn_keep (State.put_keep h_s11 rfl) rfl))

theorem State.resolve_keep {mk : Nat} {sb s : State} (hk : Keeps mk sb s) (hmk : 524288 ||| mk = mk) {m : RoleMove} :
    Keeps mk sb (State.resolve s m) := by
  refine Keeps.step hk ?_ hmk
  have h_self : Keeps 524288 s s := Keeps.refl
  unfold State.resolve
  exact (Keeps.ite_keep h_self (State.modRed_keep h_self rfl))

theorem State.icShow_keep {mk : Nat} {sb s : State} (hk : Keeps mk sb s) (hmk : 1 ||| mk = mk) :
    Keeps mk sb (State.icShow s) := by
  refine Keeps.step hk ?_ hmk
  have h_self : Keeps 1 s s := Keeps.refl
  unfold State.icShow
  extract_lets -merge -useContext -underBinder +onlyGivenNames p1
  exact (State.put_keep h_self rfl)

theorem State.cfgDiff_keep {mk : Nat} {sb s : State} (hk : Keeps mk sb s) (hmk : 2081 ||| mk = mk) :
    Keeps mk sb (State.cfgDiff s) := by
  refine Keeps.step hk ?_ hmk
  have h_self : Keeps 2081 s s := Keeps.refl
  unfold State.cfgDiff
  extract_lets -merge -useContext -underBinder +onlyGivenNames own1 diff2 s13
  have h_s13 : Keeps 2081 s s13 := (State.putB_keep h_self rfl)
  exact (Keeps.ite_keep (State.raiseMajor_keep h_s13 rfl) h_s13)

theorem State.peerLose_keep {mk : Nat} {sb s : State} (hk : Keeps mk sb s) (hmk : 2081 ||| mk = mk) {p : Nat} :
    Keeps mk sb (State.peerLose s p) := by
  refine Keeps.step hk ?_ hmk
  have h_self : Keeps 2081 s s := Keeps.refl
  unfold State.peerLose
  exact (Keeps.ite_keep (State.cfgDiff_keep (State.icShow_keep (State.raise_keep (State.putBit_keep (State.put_keep h_self rfl) rfl) rfl) rfl) rfl) h_self)

theorem execPeerLost_keep (p : Fin 3) (s : State) : KeepsOut 526369 s (execPeerLost p s) := by
  have h_self : Keeps 526369 s s := Keeps.refl
  unfold execPeerLost
  exact (KeepsOut.next (Keeps.ite_keep (State.peerLose_keep (State.modLink_keep h_self rfl) rfl) h_self))

theorem State.laneMismatch_keep {mk : Nat} {sb s : State} (hk : Keeps mk sb s) (hmk : 526369 ||| mk = mk) {stage : Nat} :
    Keeps mk sb (State.laneMismatch s stage) := by
  refine Keeps.step hk ?_ hmk
  have h_self : Keeps 526369 s s := Keeps.refl
  unfold State.laneMismatch
  extract_lets -merge -useContext -underBinder +onlyGivenNames s11 s22
  have h_s11 : Keeps 526369 s s11 := (State.put_keep (State.put_keep (State.put_keep (State.put_keep h_self rfl) rfl) rfl) rfl)
  have h_s22 : Keeps 526369 s s22 := (State.modRed_keep (State.raise_keep (State.inc_keep h_s11 rfl) rfl) rfl)
  exact (Keeps.ite_keep h_self (by
  split
  · exact (State.resolve_keep (State.modRed_keep h_s22 rfl) rfl)
  · exact (State.resolve_keep (State.modRed_keep h_s22 rfl) rfl)
  · exact h_s22))

theorem State.laneMismatches_keep {mk : Nat} {sb s : State} (hk : Keeps mk sb s) (hmk : 526369 ||| mk = mk) {mask : Nat} {l : List Nat} :
    Keeps mk sb (State.laneMismatches s mask l) := by
  refine Keeps.step hk ?_ hmk
  have h_self : Keeps 526369 s s := Keeps.refl
  unfold State.laneMismatches
  exact (State.each_keep h_self (fun x1_0 _ h_x1_0 => (State.laneMismatch_keep h_x1_0 rfl)))

theorem State.setRole_keep {mk : Nat} {sb s : State} (hk : Keeps mk sb s) (hmk : 788513 ||| mk = mk) {r : Nat} :
    Keeps mk sb (State.setRole s r) := by
  refine Keeps.step hk ?_ hmk
  have h_self : Keeps 788513 s s := Keeps.refl
  unfold State.setRole
  extract_lets -merge -useContext -underBinder +onlyGivenNames s11
  have h_s11 : Keeps 788513 s s11 := (Keeps.ite_keep (State.put_keep (State.modRed_keep (State.tlgLeave_keep h_self rfl) rfl) rfl) h_self)
  exact (State.icShow_keep (State.raise_keep (State.put_keep (State.putB_keep (State.put_keep h_s11 rfl) rfl) rfl) rfl) rfl)

theorem State.laneRetire_keep {mk : Nat} {sb s : State} (hk : Keeps mk sb s) (hmk : 788513 ||| mk = mk) {mask : Nat} :
    Keeps mk sb (State.laneRetire s mask) := by
  refine Keeps.step hk ?_ hmk
  have h_self : Keeps 788513 s s := Keeps.refl
  unfold State.laneRetire
  extract_lets -merge -useContext -underBinder +onlyGivenNames go1 s12
  have h_s12 : Keeps 788513 s s12 := (State.each_keep h_self (fun x3_0 _ h_x3_0 => (State.raise_keep (State.putBit_keep h_x3_0 rfl) rfl)))
  exact (Keeps.ite_keep h_self (Keeps.ite_keep (Keeps.ite_keep h_s12 (State.setRole_keep (State.modRed_keep h_s12 rfl) rfl)) (State.modRed_keep (State.put_keep h_s12 rfl) rfl)))

theorem State.laneDecision_keep {mk : Nat} {sb s : State} (hk : Keeps mk sb s) (hmk : 788513 ||| mk = mk) {passA passB : Bool} :
    Keeps mk sb (State.laneDecision s passA passB) := by
  refine Keeps.step hk ?_ hmk
  have h_self : Keeps 788513 s s := Keeps.refl
  unfold State.laneDecision
  extract_lets -merge -useContext -underBinder +onlyGivenNames failed1 s12 s23
  have h_s12 : Keeps 788513 s s12 := (State.put_keep (State.put_keep h_self rfl) rfl)
  have h_s23 : Keeps 788513 s s23 := (Keeps.ite_keep (State.raise_keep (State.modRed_keep (State.inc_keep h_s12 rfl) rfl) rfl) (State.laneRetire_keep h_s12 rfl))
  exact (Keeps.ite_keep h_self (State.modRed_keep h_s23 rfl))

theorem execLaneCheckDecision_keep (passA passB : Bool) (s : State) : KeepsOut 890212129 s (execLaneCheckDecision passA passB s) := by
  have h_self : Keeps 890212129 s s := Keeps.refl
  unfold execLaneCheckDecision
  exact (KeepsOut.next (State.survive_keep (State.laneDecision_keep h_self rfl) rfl))

theorem execLaneStateCopy_keep (s : State) : KeepsOut 352845856 s (execLaneStateCopy s) := by
  have h_self : Keeps 352845856 s s := Keeps.refl
  unfold execLaneStateCopy
  extract_lets -merge -useContext -underBinder +onlyGivenNames q1 q2
  exact (KeepsOut.next (Keeps.ite_keep (Keeps.frm_red_twin_done_supOk_keep h_self rfl (by rfl)) h_self))

theorem execLaneRetire_keep (lane : Fin 2) (s : State) : KeepsOut 890212129 s (execLaneRetire lane s) := by
  have h_self : Keeps 890212129 s s := Keeps.refl
  unfold execLaneRetire
  exact (KeepsOut.next (Keeps.ite_keep (State.survive_keep (State.laneRetire_keep (State.modRed_keep h_self rfl) rfl) rfl) h_self))

theorem State.moduleDecision_keep {mk : Nat} {sb s : State} (hk : Keeps mk sb s) (hmk : 524289 ||| mk = mk) {fail : Bool} :
    Keeps mk sb (State.moduleDecision s fail) := by
  refine Keeps.step hk ?_ hmk
  have h_self : Keeps 524289 s s := Keeps.refl
  unfold State.moduleDecision
  extract_lets -merge -useContext -underBinder +onlyGivenNames s11
  have h_s11 : Keeps 524289 s s11 := (State.put_keep h_self rfl)
  exact (Keeps.ite_keep h_self (Keeps.ite_keep (State.resolve_keep (State.modRed_keep h_s11 rfl) rfl) h_s11))

theorem execModuleCheckDecision_keep (fail : Bool) (s : State) : KeepsOut 524289 s (execModuleCheckDecision fail s) := by
  have h_self : Keeps 524289 s s := Keeps.refl
  unfold execModuleCheckDecision
  exact (KeepsOut.next (State.moduleDecision_keep h_self rfl))

theorem State.klSend_keep {mk : Nat} {sb s : State} (hk : Keeps mk sb s) (hmk : 524288 ||| mk = mk) {type dest : Nat} {payload : List Byte} :
    Keeps mk sb (State.klSend s type dest payload) := by
  refine Keeps.step hk ?_ hmk
  have h_self : Keeps 524288 s s := Keeps.refl
  unfold State.klSend
  extract_lets -merge -useContext -underBinder +onlyGivenNames f1
  exact (State.modRed_keep h_self rfl)

theorem State.takeRecord_keep {mk : Nat} {sb s : State} (hk : Keeps mk sb s) (hmk : 526369 ||| mk = mk) {l p : Nat} {b : List Byte} {t : Nat} :
    Keeps mk sb (State.takeRecord s l p b t) := by
  refine Keeps.step hk ?_ hmk
  have h_self : Keeps 526369 s s := Keeps.refl
  unfold State.takeRecord
  extract_lets -merge -useContext -underBinder +onlyGivenNames lanes1 s12 w3 s24 s35 was6 s47 ask8 s59 offered10 planned11 s612
  have h_s12 : Keeps 526369 s s12 := (State.modLink_keep h_self rfl)
  have h_s24 : Keeps 526369 s s24 := (State.put_keep (State.put_keep (State.setWord_keep h_s12 rfl) rfl) rfl)
  have h_s35 : Keeps 526369 s s35 := (State.when_keep (State.putBit_keep h_s24 rfl) (fun x13_0 h_x13_0 => (State.raise_keep h_x13_0 rfl)))
  have h_s47 : Keeps 526369 s s47 := (State.modRed_keep h_s35 rfl)
  have h_s59 : Keeps 526369 s s59 := (State.modRed_keep h_s47 rfl)
  have h_s612 : Keeps 526369 s s612 := (Keeps.ite_keep (State.resolve_keep h_s59 rfl) h_s59)
  exact (State.cfgDiff_keep (State.icShow_keep (State.epochSeen_keep h_s612 rfl) rfl) rfl)

theorem State.takeMirror_keep {mk : Nat} {sb s : State} (hk : Keeps mk sb s) (hmk : 526369 ||| mk = mk) {p : Nat} {b : List Byte} :
    Keeps mk sb (State.takeMirror s p b) := by
  refine Keeps.step hk ?_ hmk
  have h_self : Keeps 526369 s s := Keeps.refl
  unfold State.takeMirror
  exact (Keeps.ite_keep (State.modRed_keep (State.epochSeen_keep h_self rfl) rfl) h_self)

theorem State.takePart_keep {mk : Nat} {sb s : State} (hk : Keeps mk sb s) (hmk : 524288 ||| mk = mk) {p : Nat} {b : List Byte} :
    Keeps mk sb (State.takePart s p b) := by
  refine Keeps.step hk ?_ hmk
  have h_self : Keeps 524288 s s := Keeps.refl
  unfold State.takePart
  exact (by
  split
  · exact (Keeps.ite_keep (State.modRed_keep h_self rfl) h_self)
  · exact h_self)

theorem State.posDup_keep {mk : Nat} {sb s : State} (hk : Keeps mk sb s) (hmk : 524289 ||| mk = mk) {b : List Byte} :
    Keeps mk sb (State.posDup s b) := by
  refine Keeps.step hk ?_ hmk
  have h_self : Keeps 524289 s s := Keeps.refl
  unfold State.posDup
  exact (Keeps.ite_keep h_self (State.modRed_keep (State.put_keep h_self rfl) rfl))

theorem State.klForward_keep {mk : Nat} {sb s : State} (hk : Keeps mk sb s) (hmk : 524288 ||| mk = mk) {l src dest fseq t : Nat} {b : List Byte} :
    Keeps mk sb (State.klForward s l src dest fseq t b) := by
  refine Keeps.step hk ?_ hmk
  have h_self : Keeps 524288 s s := Keeps.refl
  unfold State.klForward
  extract_lets -merge -useContext -underBinder +onlyGivenNames old1 fresh2
  exact (Keeps.ite_keep (State.modRed_keep h_self rfl) h_self)

theorem State.klReceive_keep {mk : Nat} {sb s : State} (hk : Keeps mk sb s) (hmk : 526369 ||| mk = mk) {l : Nat} {b : List Byte} :
    Keeps mk sb (State.klReceive s l b) := by
  refine Keeps.step hk ?_ hmk
  have h_self : Keeps 526369 s s := Keeps.refl
  unfold State.klReceive
  extract_lets -merge -useContext -underBinder +onlyGivenNames n1 len2 type3 src4 dest5 fseq6 t7 pay8 s19 x10 first11 s212
  have h_s19 : Keeps 526369 s s19 := (State.klForward_keep (State.incWrap_keep h_self rfl) rfl)
  have h_s212 : Keeps 526369 s s212 := (State.modLink_keep h_s19 rfl)
  exact (Keeps.ite_keep (State.incWrap_keep h_self rfl) (Keeps.ite_keep h_self (Keeps.ite_keep h_s19 (Keeps.ite_keep (Keeps.ite_keep (State.posDup_keep h_s19 rfl) h_s19) (Keeps.ite_keep h_s19 (Keeps.ite_keep (State.put_keep h_s19 rfl) (Keeps.ite_keep (Keeps.ite_keep (State.putBit_keep h_s19 rfl) h_s19) (Keeps.ite_keep (by
  clear_value type3
  split
  · exact (State.takeMirror_keep h_s212 rfl)
  · exact (State.takePart_keep h_s212 rfl)
  · exact (Keeps.ite_keep (State.takeRecord_keep h_s212 rfl) h_s212)
  · exact (State.peerNotice_keep h_s212 rfl)
  · exact h_s212) h_s19))))))))

theorem execKalmerFrameReceived_keep (l : Fin 2) (bytes : List Byte) (s : State) : KeepsOut 526369 s (execKalmerFrameReceived l bytes s) := by
  have h_self : Keeps 526369 s s := Keeps.refl
  unfold execKalmerFrameReceived
  exact (KeepsOut.next (State.klReceive_keep h_self rfl))

theorem State.klLink_keep {mk : Nat} {sb s : State} (hk : Keeps mk sb s) (hmk : 2081 ||| mk = mk) {l : Nat} {up : Bool} :
    Keeps mk sb (State.klLink s l up) := by
  refine Keeps.step hk ?_ hmk
  have h_self : Keeps 2081 s s := Keeps.refl
  unfold State.klLink
  extract_lets -merge -useContext -underBinder +onlyGivenNames s11
  have h_s11 : Keeps 2081 s s11 := (State.raise_keep (State.when_keep (State.putB_keep h_self rfl) (fun x2_0 h_x2_0 => (State.inc_keep h_x2_0 rfl))) rfl)
  exact (Keeps.ite_keep h_self (State.putBit_keep h_s11 rfl))

theorem execKalmerLinkChange_keep (l : Fin 2) (up : Bool) (s : State) : KeepsOut 2081 s (execKalmerLinkChange l up s) := by
  have h_self : Keeps 2081 s s := Keeps.refl
  unfold execKalmerLinkChange
  exact (KeepsOut.next (State.klLink_keep h_self rfl))

theorem State.cmpShow_keep {mk : Nat} {sb s : State} (hk : Keeps mk sb s) (hmk : 1 ||| mk = mk) {p : Nat} {d : List (Nat × Int × Int)} {dis : Bool} {c : PairCmp} :
    Keeps mk sb (State.cmpShow s p d dis c) := by
  refine Keeps.step hk ?_ hmk
  have h_self : Keeps 1 s s := Keeps.refl
  unfold State.cmpShow
  extract_lets -merge -useContext -underBinder +onlyGivenNames top1 worst2 da3
  exact (State.putI_keep (State.put_keep (State.setWord_keep h_self rfl) rfl) rfl)

theorem State.comparePair_keep {mk : Nat} {sb s : State} (hk : Keeps mk sb s) (hmk : 524289 ||| mk = mk) {own : List Byte} {a b : Nat} :
    Keeps mk sb (State.comparePair s own a b).1 := by
  refine Keeps.step hk ?_ hmk
  have h_self : Keeps 524289 s s := Keeps.refl
  unfold State.comparePair
  exact (by
  split
  · extract_lets -merge -useContext -underBinder +onlyGivenNames d2 cmp3 dis4 k5 c6 c17 c28 s19 other10 s211
    have h_s19 : Keeps 524289 s s19 := (State.modRed_keep h_self rfl)
    have h_s211 : Keeps 524289 s s211 := (by
    unfold s211
    clear_value other10
    split
    · exact (State.cmpShow_keep h_s19 rfl)
    · exact h_s19)
    exact (Keeps.ite_fst (Keeps.mk_fst h_s211) (Keeps.mk_fst h_self))
  · exact (Keeps.mk_fst h_self))

theorem State.nameFaulty_keep {mk : Nat} {sb s : State} (hk : Keeps mk sb s) (hmk : 526369 ||| mk = mk) {x : Nat} :
    Keeps mk sb (State.nameFaulty s x) := by
  refine Keeps.step hk ?_ hmk
  have h_self : Keeps 526369 s s := Keeps.refl
  unfold State.nameFaulty
  extract_lets -merge -useContext -underBinder +onlyGivenNames s11 lower2
  have h_s11 : Keeps 526369 s s11 := (State.raise_keep h_self rfl)
  exact (Keeps.ite_keep (State.resolve_keep h_s11 rfl) (Keeps.ite_keep (State.resolve_keep h_s11 rfl) h_s11))

theorem State.crossCompare_keep {mk : Nat} {sb s : State} (hk : Keeps mk sb s) (hmk : 526369 ||| mk = mk) {own : List Byte} :
    Keeps mk sb (State.crossCompare s own).1 := by
  refine Keeps.step hk ?_ hmk
  have h_self : Keeps 526369 s s := Keeps.refl
  unfold State.crossCompare
  extract_lets -merge -useContext -underBinder +onlyGivenNames step1 r2 any3 s14 cmd5 split6
  have h_step1 : ∀ z0 z1, Keeps 526369 s z0.1 → Keeps 526369 s (step1 z0 z1).1 := (fun x7_0 _ h_x7_0 => by
    unfold step1
    extract_lets -merge -useContext -underBinder +onlyGivenNames r8 mate9
    have h_r8 : Keeps 526369 s r8.1 := Keeps.proj (State.comparePair_keep h_x7_0 rfl) rfl
    exact (Keeps.mk_fst h_r8))
  have h_r2 : Keeps 526369 s r2.1 := Keeps.proj (Keeps.foldl_fst_keep (Keeps.mk_fst h_self) (fun x10_0 _ h_x10_0 => (h_step1 _ _ h_x10_0))) rfl
  have h_s14 : Keeps 526369 s s14 := (State.when_keep (State.putB_keep h_r2 rfl) (fun x11_0 h_x11_0 => (State.raiseMajor_keep h_x11_0 rfl)))
  exact (Keeps.ite_fst (Keeps.mk_fst h_s14) (by
  clear_value cmd5
  split
  · extract_lets -merge -useContext -underBinder +onlyGivenNames x13
    exact (by
    clear_value x13
    split
    · exact (Keeps.mk_fst (State.nameFaulty_keep h_s14 rfl))
    · exact (Keeps.mk_fst h_s14))
  · exact (Keeps.mk_fst (State.when_keep h_s14 (fun x17_0 h_x17_0 => (State.put_keep h_x17_0 rfl))))
  · exact (Keeps.mk_fst h_s14)))

theorem State.mirCount_keep {mk : Nat} {sb s : State} (hk : Keeps mk sb s) (hmk : 526369 ||| mk = mk) :
    Keeps mk sb (State.mirCount s) := by
  refine Keeps.step hk ?_ hmk
  have h_self : Keeps 526369 s s := Keeps.refl
  unfold State.mirCount
  extract_lets -merge -useContext -underBinder +onlyGivenNames s11 icHere2 s23
  have h_s11 : Keeps 526369 s s11 := (State.each_keep h_self (fun x4_0 _ h_x4_0 => by
    extract_lets -merge -useContext -underBinder +onlyGivenNames s15
    have h_s15 : Keeps 526369 s s15 := (State.modLink_keep h_x4_0 rfl)
    exact (Keeps.ite_keep h_x4_0 (State.when_keep h_s15 (fun x6_0 h_x6_0 => (State.peerLose_keep h_x6_0 rfl))))))
  have h_s23 : Keeps 526369 s s23 := (State.modRed_keep h_s11 rfl)
  exact (State.when_keep h_s23 (fun x7_0 h_x7_0 => (State.put_keep h_x7_0 rfl)))

theorem State.claimRule_keep {mk : Nat} {sb s : State} (hk : Keeps mk sb s) (hmk : 526377 ||| mk = mk) {own : List Byte} :
    Keeps mk sb (State.claimRule s own) := by
  refine Keeps.step hk ?_ hmk
  have h_self : Keeps 526377 s s := Keeps.refl
  unfold State.claimRule
  exact (by
  split
  · exact h_self
  · extract_lets -merge -useContext -underBinder +onlyGivenNames lowerClaim3 s14
    have h_s14 : Keeps 526377 s s14 := (State.modRed_keep h_self rfl)
    exact (by
    split
    · exact (State.redRefuse_keep h_s14 rfl)
    · exact (State.resolve_keep h_s14 rfl)))

theorem State.handoverRule_keep {mk : Nat} {sb s : State} (hk : Keeps mk sb s) (hmk : 526377 ||| mk = mk) {named : Option Nat} :
    Keeps mk sb (State.handoverRule s named).1 := by
  refine Keeps.step hk ?_ hmk
  have h_self : Keeps 526377 s s := Keeps.refl
  unfold State.handoverRule
  exact (by
  split
  · exact (Keeps.mk_fst h_self)
  · extract_lets -merge -useContext -underBinder +onlyGivenNames s13 fit4
    have h_s13 : Keeps 526377 s s13 := (State.modRed_keep h_self rfl)
    exact (Keeps.ite_fst (Keeps.mk_fst h_self) (by
    split
    · exact (Keeps.mk_fst (State.redRefuse_keep h_s13 rfl))
    · exact (Keeps.mk_fst (State.resolve_keep h_s13 rfl)))))

theorem State.faultTaken_keep {mk : Nat} {sb s : State} (hk : Keeps mk sb s) (hmk : 524288 ||| mk = mk) :
    Keeps mk sb (State.faultTaken s) := by
  refine Keeps.step hk ?_ hmk
  have h_self : Keeps 524288 s s := Keeps.refl
  unfold State.faultTaken
  exact (State.modRed_keep h_self rfl)

theorem State.selfHandRule_keep {mk : Nat} {sb s : State} (hk : Keeps mk sb s) (hmk : 524288 ||| mk = mk) {given : Option Nat} :
    Keeps mk sb (State.selfHandRule s given).1 := by
  refine Keeps.step hk ?_ hmk
  have h_self : Keeps 524288 s s := Keeps.refl
  unfold State.selfHandRule
  exact (by
  split
  · exact (Keeps.mk_fst h_self)
  · extract_lets -merge -useContext -underBinder +onlyGivenNames s13
    have h_s13 : Keeps 524288 s s13 := (State.modRed_keep h_self rfl)
    exact (Keeps.ite_fst (Keeps.mk_fst (State.modRed_keep h_self rfl)) (by
    split
    · exact (Keeps.mk_fst (State.resolve_keep h_s13 rfl))
    · exact (Keeps.mk_fst (State.resolve_keep (State.faultTaken_keep h_s13 rfl) rfl))
    · exact (Keeps.mk_fst (State.faultTaken_keep h_s13 rfl))
    · exact (Keeps.mk_fst h_s13))))

theorem State.takeoverRule_keep {mk : Nat} {sb s : State} (hk : Keeps mk sb s) (hmk : 524288 ||| mk = mk) :
    Keeps mk sb (State.takeoverRule s) := by
  refine Keeps.step hk ?_ hmk
  have h_self : Keeps 524288 s s := Keeps.refl
  unfold State.takeoverRule
  extract_lets -merge -useContext -underBinder +onlyGivenNames lost1 slots2 lower3
  exact (Keeps.ite_keep (State.resolve_keep h_self rfl) h_self)

theorem State.axPhase_keep {mk : Nat} {sb s : State} (hk : Keeps mk sb s) (hmk : 2081 ||| mk = mk) {ph : Nat} :
    Keeps mk sb (State.axPhase s ph) := by
  refine Keeps.step hk ?_ hmk
  have h_self : Keeps 2081 s s := Keeps.refl
  unfold State.axPhase
  exact (Keeps.ite_keep h_self (State.raise_keep (State.put_keep (State.put_keep h_self rfl) rfl) rfl))

theorem State.axoRestart_keep {mk : Nat} {sb s : State} (hk : Keeps mk sb s) (hmk : 526369 ||| mk = mk) {ic : Nat} :
    Keeps mk sb (State.axoRestart s ic) := by
  refine Keeps.step hk ?_ hmk
  have h_self : Keeps 526369 s s := Keeps.refl
  unfold State.axoRestart
  extract_lets -merge -useContext -underBinder +onlyGivenNames s11
  have h_s11 : Keeps 526369 s s11 := (State.modRed_keep (State.inc_keep h_self rfl) rfl)
  exact (State.raise_keep (State.put_keep (State.put_keep (State.put_keep h_s11 rfl) rfl) rfl) rfl)

theorem State.axoRule_keep {mk : Nat} {sb s : State} (hk : Keeps mk sb s) (hmk : 526369 ||| mk = mk) {dis : List (Nat × Bool)} :
    Keeps mk sb (State.axoRule s dis) := by
  refine Keeps.step hk ?_ hmk
  have h_self : Keeps 526369 s s := Keeps.refl
  unfold State.axoRule
  exact (by
  split
  · exact h_self
  · extract_lets -merge -useContext -underBinder +onlyGivenNames ic3 b4 same5 n6 s17 n8 s19
    have h_s17 : Keeps 526369 s s17 := (State.put_keep h_self rfl)
    have h_s19 : Keeps 526369 s s19 := (State.axPhase_keep h_self rfl)
    exact (Keeps.ite_keep (by
    clear_value ic3
    split
    · exact (State.axoRestart_keep h_self rfl)
    · exact (Keeps.ite_keep h_self (State.axoRestart_keep h_self rfl))) (Keeps.ite_keep (Keeps.ite_keep (State.resolve_keep h_s17 rfl) h_s17) (Keeps.ite_keep (State.axoRestart_keep h_s19 rfl) (State.modRed_keep h_s19 rfl)))))

theorem State.joinRule_keep {mk : Nat} {sb s : State} (hk : Keeps mk sb s) (hmk : 526377 ||| mk = mk) :
    Keeps mk sb (State.joinRule s) := by
  refine Keeps.step hk ?_ hmk
  have h_self : Keeps 526377 s s := Keeps.refl
  unfold State.joinRule
  extract_lets -merge -useContext -underBinder +onlyGivenNames s11 ic2
  have h_s11 : Keeps 526377 s s11 := (State.modRed_keep h_self rfl)
  exact (Keeps.ite_keep h_self (by
  clear_value ic2
  split
  · exact (Keeps.ite_keep h_s11 (State.modRed_keep (State.put_keep h_s11 rfl) rfl))
  · exact (State.redRefuse_keep h_s11 rfl)
  · exact h_s11))

theorem State.sendParts_keep {mk : Nat} {sb s : State} (hk : Keeps mk sb s) (hmk : 524296 ||| mk = mk) {mirror : List Byte} :
    Keeps mk sb (State.sendParts s mirror) := by
  refine Keeps.step hk ?_ hmk
  have h_self : Keeps 524296 s s := Keeps.refl
  unfold State.sendParts
  extract_lets -merge -useContext -underBinder +onlyGivenNames one1
  have h_one1 : ∀ z0 z1, Keeps 524296 s z0 → Keeps 524296 s (one1 z0 z1) := (fun x2_0 _ h_x2_0 => by
    unfold one1
    extract_lets -merge -useContext -underBinder +onlyGivenNames c3 part4 s15
    have h_c3 : Keeps 524296 s c3.1 := (by
    unfold c3
    split
    · exact (Keeps.mk_fst h_x2_0)
    · exact (State.axoSnapshot_keep h_x2_0 rfl))
    have h_s15 : Keeps 524296 s s15 := (State.klSend_keep h_c3 rfl)
    exact (Keeps.ite_keep (State.modRed_keep h_x2_0 rfl) (Keeps.ite_keep h_s15 (State.modRed_keep h_s15 rfl))))
  exact (State.each_keep (State.modRed_keep h_self rfl) (fun x8_0 _ h_x8_0 => (h_one1 _ _ h_x8_0)))

theorem State.sendNotice_keep {mk : Nat} {sb s : State} (hk : Keeps mk sb s) (hmk : 526336 ||| mk = mk) :
    Keeps mk sb (State.sendNotice s) := by
  refine Keeps.step hk ?_ hmk
  have h_self : Keeps 526336 s s := Keeps.refl
  unfold State.sendNotice
  extract_lets -merge -useContext -underBinder +onlyGivenNames l1
  exact (Keeps.ite_keep h_self (State.klSend_keep (State.modRec_keep h_self rfl) rfl))

theorem State.sendAll_keep {mk : Nat} {sb s : State} (hk : Keeps mk sb s) (hmk : 526344 ||| mk = mk) {target : Option Nat} :
    Keeps mk sb (State.sendAll s target) := by
  refine Keeps.step hk ?_ hmk
  have h_self : Keeps 526344 s s := Keeps.refl
  unfold State.sendAll
  extract_lets -merge -useContext -underBinder +onlyGivenNames s11 m2 s23 s34
  have h_s11 : Keeps 526344 s s11 := (State.modRed_keep (State.klSend_keep h_self rfl) rfl)
  have h_s23 : Keeps 526344 s s23 := (Keeps.ite_keep (State.modRed_keep (State.sendParts_keep (State.klSend_keep h_s11 rfl) rfl) rfl) h_s11)
  have h_s34 : Keeps 526344 s s34 := (State.sendNotice_keep h_s23 rfl)
  exact (Keeps.ite_keep (State.modRed_keep (State.klSend_keep h_s34 rfl) rfl) h_s34)

theorem State.recordsDone_keep {mk : Nat} {sb s : State} (hk : Keeps mk sb s) (hmk : 524288 ||| mk = mk) :
    Keeps mk sb (State.recordsDone s) := by
  refine Keeps.step hk ?_ hmk
  have h_self : Keeps 524288 s s := Keeps.refl
  unfold State.recordsDone
  exact (State.modRed_keep h_self rfl)

theorem State.mirWork_keep {mk : Nat} {sb s0 : State} (hk : Keeps mk sb s0) (hmk : 527401 ||| mk = mk) {mis : Nat} {peers : List PeerRec} :
    Keeps mk sb (State.mirWork mis peers s0) := by
  refine Keeps.step hk ?_ hmk
  have h_self : Keeps 527401 s0 s0 := Keeps.refl
  unfold State.mirWork
  extract_lets -merge -useContext -underBinder +onlyGivenNames s11 s22 own3 c4 h5 g6 s37 s48 target9 s510 claim11 s612
  have h_s11 : Keeps 527401 s0 s11 := (State.modEst_keep (State.laneMismatches_keep h_self rfl) rfl)
  have h_s22 : Keeps 527401 s0 s22 := (State.mirCount_keep (State.modRed_keep h_s11 rfl) rfl)
  have h_c4 : Keeps 527401 s0 c4.1 := Keeps.proj (State.crossCompare_keep h_s22 rfl) rfl
  have h_h5 : Keeps 527401 s0 h5.1 := Keeps.proj (State.handoverRule_keep h_c4 rfl) rfl
  have h_g6 : Keeps 527401 s0 g6.1 := Keeps.proj (State.selfHandRule_keep h_h5 rfl) rfl
  have h_s37 : Keeps 527401 s0 s37 := (State.axoRule_keep (State.takeoverRule_keep (State.claimRule_keep h_g6 rfl) rfl) rfl)
  have h_s48 : Keeps 527401 s0 s48 := (State.joinRule_keep h_s37 rfl)
  have h_s510 : Keeps 527401 s0 s510 := (State.recordsDone_keep h_s48 rfl)
  have h_s612 : Keeps 527401 s0 s612 := (State.sendAll_keep (State.modRed_keep h_s510 rfl) rfl)
  exact (Keeps.ite_keep (State.laneMismatch_keep h_s510 rfl) (State.modRed_keep h_s612 rfl))

theorem State.mirOver_keep {mk : Nat} {sb s : State} (hk : Keeps mk sb s) (hmk : 526369 ||| mk = mk) :
    Keeps mk sb (State.mirOver s) := by
  refine Keeps.step hk ?_ hmk
  have h_self : Keeps 526369 s s := Keeps.refl
  unfold State.mirOver
  exact (State.recordsDone_keep (State.mirCount_keep (State.modRed_keep h_self rfl) rfl) rfl)

theorem State.redCmd_keep {mk : Nat} {sb s : State} (hk : Keeps mk sb s) (hmk : 526377 ||| mk = mk) {v : Nat} :
    Keeps mk sb (State.redCmd s v) := by
  refine Keeps.step hk ?_ hmk
  have h_self : Keeps 526377 s s := Keeps.refl
  unfold State.redCmd
  extract_lets -merge -useContext -underBinder +onlyGivenNames both1 a2 s13 s24 s35
  have h_a2 : Keeps 526377 s a2 := (State.axPhase_keep (State.modRed_keep h_self rfl) rfl)
  have h_s13 : Keeps 526377 s s13 := (Keeps.ite_keep (Keeps.ite_keep (State.put_keep h_a2 rfl) h_a2) h_self)
  have h_s24 : Keeps 526377 s s24 := (Keeps.ite_keep (Keeps.ite_keep (State.modRed_keep h_s13 rfl) (State.redRefuse_keep h_s13 rfl)) h_s13)
  have h_s35 : Keeps 526377 s s35 := (Keeps.ite_keep (State.modRed_keep h_s24 rfl) h_s24)
  exact (Keeps.ite_keep (State.redRefuse_keep h_s35 rfl) (Keeps.ite_keep (State.modRed_keep h_s35 rfl) (Keeps.ite_keep (State.modRed_keep h_s35 rfl) h_s35)))

theorem execRedClaim_keep (force : Bool) (s : State) : KeepsOut 526377 s (execRedClaim force s) := by
  have h_self : Keeps 526377 s s := Keeps.refl
  unfold execRedClaim
  exact (KeepsOut.next (State.redCmd_keep h_self rfl))

theorem execRedJoin_keep (s : State) : KeepsOut 526377 s (execRedJoin s) := by
  have h_self : Keeps 526377 s s := Keeps.refl
  unfold execRedJoin
  exact (KeepsOut.next (State.redCmd_keep h_self rfl))

theorem execRedAbandon_keep (s : State) : KeepsOut 526377 s (execRedAbandon s) := by
  have h_self : Keeps 526377 s s := Keeps.refl
  unfold execRedAbandon
  exact (KeepsOut.next (State.redCmd_keep h_self rfl))

theorem execRedHandover_keep (target : Fin 4) (s : State) : KeepsOut 526377 s (execRedHandover target s) := by
  have h_self : Keeps 526377 s s := Keeps.refl
  unfold execRedHandover
  exact (KeepsOut.next (State.redCmd_keep h_self rfl))

theorem execRedRejoin_keep (s : State) : KeepsOut 526377 s (execRedRejoin s) := by
  have h_self : Keeps 526377 s s := Keeps.refl
  unfold execRedRejoin
  exact (KeepsOut.next (State.redCmd_keep h_self rfl))

theorem State.redCfgWrite_keep {mk : Nat} {sb s : State} (hk : Keeps mk sb s) (hmk : 526377 ||| mk = mk) {v : Nat} :
    Keeps mk sb (State.redCfgWrite s v) := by
  refine Keeps.step hk ?_ hmk
  have h_self : Keeps 526377 s s := Keeps.refl
  unfold State.redCfgWrite
  extract_lets -merge -useContext -underBinder +onlyGivenNames w1 ok2 changed3 s14 p5 s26
  have h_s14 : Keeps 526377 s s14 := (State.setWord_keep h_self rfl)
  have h_s26 : Keeps 526377 s s26 := (State.setWords_keep h_s14 rfl)
  exact (Keeps.ite_keep (State.redRefuse_keep h_s14 rfl) (Keeps.ite_keep h_s14 (State.icShow_keep (State.modRed_keep (State.putBit_keep h_s26 rfl) rfl) rfl)))

theorem State.digestTick_keep {mk : Nat} {sb s : State} (hk : Keeps mk sb s) (hmk : 526369 ||| mk = mk) :
    Keeps mk sb (State.digestTick s) := by
  refine Keeps.step hk ?_ hmk
  have h_self : Keeps 526369 s s := Keeps.refl
  unfold State.digestTick
  extract_lets -merge -useContext -underBinder +onlyGivenNames l1 d2
  exact (Keeps.ite_keep (State.cfgDiff_keep h_self rfl) (State.cfgDiff_keep (State.put_keep (State.put_keep (State.modRed_keep h_self rfl) rfl) rfl) rfl))

theorem State.axoLoadStep_keep {mk : Nat} {sb s : State} (hk : Keeps mk sb s) (hmk : 756769 ||| mk = mk) :
    Keeps mk sb (State.axoLoadStep s) := by
  refine Keeps.step hk ?_ hmk
  have h_self : Keeps 756769 s s := Keeps.refl
  unfold State.axoLoadStep
  exact (by
  split
  · exact h_self
  · extract_lets -merge -useContext -underBinder +onlyGivenNames s13 s24
    have h_s13 : Keeps 756769 s s13 := (State.axoLoad_keep h_self rfl)
    have h_s24 : Keeps 756769 s s24 := (by
    unfold s24
    split
    · exact (State.mirrorApply_keep h_s13 rfl)
    · exact h_s13)
    exact (Keeps.ite_keep h_self (Keeps.ite_keep (State.axoRestart_keep h_self rfl) (State.axPhase_keep (State.modRed_keep h_s24 rfl) rfl))))

theorem execAxolotlSnapshotLoad_keep (s : State) : KeepsOut 17533985 s (execAxolotlSnapshotLoad s) := by
  have h_self : Keeps 17533985 s s := Keeps.refl
  unfold execAxolotlSnapshotLoad
  exact (KeepsOut.next (State.lanes_keep h_self rfl (fun x1_0 h_x1_0 => (State.axoLoadStep_keep h_x1_0 rfl))))

theorem State.mirrorMiss_keep {mk : Nat} {sb s : State} (hk : Keeps mk sb s) (hmk : 526369 ||| mk = mk) :
    Keeps mk sb (State.mirrorMiss s) := by
  refine Keeps.step hk ?_ hmk
  have h_self : Keeps 526369 s s := Keeps.refl
  unfold State.mirrorMiss
  extract_lets -merge -useContext -underBinder +onlyGivenNames n1
  exact (State.when_keep (State.put_keep (State.modRed_keep h_self rfl) rfl) (fun x2_0 h_x2_0 => (State.setRaise_keep h_x2_0 rfl)))

theorem State.mirrorTick_keep {mk : Nat} {sb s : State} (hk : Keeps mk sb s) (hmk : 756769 ||| mk = mk) :
    Keeps mk sb (State.mirrorTick s) := by
  refine Keeps.step hk ?_ hmk
  have h_self : Keeps 756769 s s := Keeps.refl
  unfold State.mirrorTick
  extract_lets -merge -useContext -underBinder +onlyGivenNames s11 named2 s23
  have h_s11 : Keeps 756769 s s11 := (State.axoLoadStep_keep h_self rfl)
  have h_s23 : Keeps 756769 s s23 := (by
  unfold s23
  split
  · exact (State.put_keep (State.put_keep (State.mirrorApply_keep h_s11 rfl) rfl) rfl)
  · exact (State.mirrorMiss_keep h_s11 rfl)
  · exact (State.put_keep (State.mirrorApply_keep h_s11 rfl) rfl)
  · exact (State.when_keep h_s11 (fun x8_0 h_x8_0 => (State.mirrorMiss_keep h_x8_0 rfl)))
  · exact h_s11)
  exact (State.modRed_keep h_s23 rfl)

theorem State.takeCommand_keep {mk : Nat} {sb s : State} (hk : Keeps mk sb s) (hmk : 788513 ||| mk = mk) :
    Keeps mk sb (State.takeCommand s) := by
  refine Keeps.step hk ?_ hmk
  have h_self : Keeps 788513 s s := Keeps.refl
  unfold State.takeCommand
  extract_lets -merge -useContext -underBinder +onlyGivenNames e1
  exact (State.setRole_keep (State.put_keep (State.modRed_keep h_self rfl) rfl) rfl)

theorem State.roleMove_keep {mk : Nat} {sb s : State} (hk : Keeps mk sb s) (hmk : 788513 ||| mk = mk) {m : RoleMove} :
    Keeps mk sb (State.roleMove s m) := by
  refine Keeps.step hk ?_ hmk
  have h_self : Keeps 788513 s s := Keeps.refl
  unfold State.roleMove
  exact (by
  split
  · exact (Keeps.ite_keep (State.takeCommand_keep h_self rfl) h_self)
  · exact (Keeps.ite_keep (State.raise_keep (State.takeCommand_keep h_self rfl) rfl) h_self)
  · exact (Keeps.ite_keep (State.raise_keep (State.setRole_keep h_self rfl) rfl) h_self)
  · exact (Keeps.ite_keep (State.putB_keep (State.axPhase_keep (State.setRole_keep (State.modRed_keep h_self rfl) rfl) rfl) rfl) h_self)
  · exact (Keeps.ite_keep (State.setRole_keep h_self rfl) h_self)
  · exact (Keeps.ite_keep h_self (State.axPhase_keep (State.setRole_keep (State.modRed_keep h_self rfl) rfl) rfl))
  · exact (Keeps.ite_keep h_self (State.axPhase_keep (State.setRole_keep (State.modRed_keep h_self rfl) rfl) rfl))
  · exact (Keeps.ite_keep (State.setRole_keep h_self rfl) h_self))

theorem State.roleTick_keep {mk : Nat} {sb s : State} (hk : Keeps mk sb s) (hmk : 788513 ||| mk = mk) :
    Keeps mk sb (State.roleTick s) := by
  refine Keeps.step hk ?_ hmk
  have h_self : Keeps 788513 s s := Keeps.refl
  unfold State.roleTick
  extract_lets -merge -useContext -underBinder +onlyGivenNames s11 s22
  have h_s11 : Keeps 788513 s s11 := (State.laneRetire_keep (State.modRed_keep h_self rfl) rfl)
  have h_s22 : Keeps 788513 s s22 := (by
  unfold s22
  split
  · exact (State.roleMove_keep (State.modRed_keep h_s11 rfl) rfl)
  · exact (Keeps.ite_keep (State.setRole_keep h_s11 rfl) (Keeps.ite_keep (State.setRole_keep (State.faultTaken_keep h_s11 rfl) rfl) h_s11)))
  exact (State.modRed_keep h_s22 rfl)

theorem execRoleChange_keep (s : State) : KeepsOut 890212129 s (execRoleChange s) := by
  have h_self : Keeps 890212129 s s := Keeps.refl
  unfold execRoleChange
  exact (KeepsOut.next (State.survive_keep (State.roleTick_keep h_self rfl) rfl))

theorem execAxolotlComplete_keep (s : State) : KeepsOut 788513 s (execAxolotlComplete s) := by
  have h_self : Keeps 788513 s s := Keeps.refl
  unfold execAxolotlComplete
  exact (KeepsOut.next (Keeps.ite_keep (State.roleMove_keep (State.modRed_keep h_self rfl) rfl) h_self))

theorem State.tickLatch_keep {mk : Nat} {sb s : State} (hk : Keeps mk sb s) (hmk : 524288 ||| mk = mk) :
    Keeps mk sb (State.tickLatch s) := by
  refine Keeps.step hk ?_ hmk
  have h_self : Keeps 524288 s s := Keeps.refl
  unfold State.tickLatch
  exact (Keeps.ite_keep (State.modRed_keep h_self rfl) h_self)

theorem State.jigWork_keep {mk : Nat} {sb s : State} (hk : Keeps mk sb s) (hmk : 526369 ||| mk = mk) {fail ecc : Nat} {cyc : Option Nat} :
    Keeps mk sb (State.jigWork fail ecc cyc s) := by
  refine Keeps.step hk ?_ hmk
  have h_self : Keeps 526369 s s := Keeps.refl
  unfold State.jigWork
  extract_lets -merge -useContext -underBinder +onlyGivenNames live1 new2 one3 s14
  have h_one3 : ∀ z0 z1, Keeps 526369 s z0 → Keeps 526369 s (one3 z0 z1) := (fun x5_0 _ h_x5_0 => by
    unfold one3
    extract_lets -merge -useContext -underBinder +onlyGivenNames f6 s17
    have h_s17 : Keeps 526369 s s17 := (State.setRaise_keep h_x5_0 rfl)
    exact (by
    split
    · exact (Keeps.ite_keep h_s17 (State.modRed_keep h_s17 rfl))
    · exact (Keeps.ite_keep (State.setRaise_keep h_s17 rfl) h_s17)))
  have h_s14 : Keeps 526369 s s14 := (State.put_keep (State.each_keep h_self (fun x10_0 _ h_x10_0 => (h_one3 _ _ h_x10_0))) rfl)
  exact (Keeps.ite_keep h_self (by
  split
  · exact (State.putMax_keep (State.put_keep h_s14 rfl) rfl)
  · exact h_s14))

theorem State.healthForm_keep {mk : Nat} {sb s : State} (hk : Keeps mk sb s) (hmk : 524289 ||| mk = mk) :
    Keeps mk sb (State.healthForm s) := by
  refine Keeps.step hk ?_ hmk
  have h_self : Keeps 524289 s s := Keeps.refl
  unfold State.healthForm
  extract_lets -merge -useContext -underBinder +onlyGivenNames flags1 lanes2 peers3 b4 t5
  exact (State.modRed_keep (State.setWords_keep h_self rfl) rfl)

theorem State.healthSend_keep {mk : Nat} {sb s : State} (hk : Keeps mk sb s) (hmk : 34083008 ||| mk = mk) :
    Keeps mk sb (State.healthSend s) := by
  refine Keeps.step hk ?_ hmk
  have h_self : Keeps 34083008 s s := Keeps.refl
  unfold State.healthSend
  extract_lets -merge -useContext -underBinder +onlyGivenNames s11 pay2 mac3 net4
  have h_s11 : Keeps 34083008 s s11 := (State.modRed_keep (State.runInside_keep h_self rfl) rfl)
  exact (Keeps.ite_keep (State.each_keep h_s11 (fun x5_0 _ h_x5_0 => (by
    split
    · exact (State.ethQueue_keep h_x5_0 rfl)
    · exact h_x5_0))) h_self)

theorem execHealthTelegramSend_keep (s : State) : KeepsOut 34083008 s (execHealthTelegramSend s) := by
  have h_self : Keeps 34083008 s s := Keeps.refl
  unfold execHealthTelegramSend
  exact (KeepsOut.next (State.healthSend_keep h_self rfl))

end Sys2Proof.Machine
end

