-- ==== Sys2Proof/Laws/KeepStages.lean ====
section
/-! SUPPORT. What the functions of Machine/Stages.lean leave alone (see Laws/Keeps.lean). -/

namespace Sys2Proof.Machine

open Sys2Proof

theorem State.acqStage_keep {mk : Nat} {sb s : State} (hk : Keeps mk sb s) (hmk : 33626977 ||| mk = mk) {cic : List (List Int)} :
    Keeps mk sb (State.acqStage cic s) := by
  refine Keeps.step hk ?_ hmk
  have h_self : Keeps 33626977 s s := Keeps.refl
  unfold State.acqStage
  exact (State.envAcq_keep (State.alnArrivals_keep (State.acq_keep (State.runInside_keep h_self rfl) rfl) rfl) rfl)

theorem State.acqStopped_keep {mk : Nat} {sb s : State} (hk : Keeps mk sb s) (hmk : 2849 ||| mk = mk) {done : Nat} {cic : List (List Int)} :
    Keeps mk sb (State.acqStopped done cic s) := by
  refine Keeps.step hk ?_ hmk
  have h_self : Keeps 2849 s s := Keeps.refl
  unfold State.acqStopped
  extract_lets -merge -useContext -underBinder +onlyGivenNames reached1
  exact (State.alnArrivals_keep (State.acqOver_keep h_self rfl) rfl)

theorem execAcqStage_keep (util : Fin 1001) (cic : List (List Int)) (s : State) : KeepsOut 923343713 s (execAcqStage util cic s) := by
  have h_self : Keeps 923343713 s s := Keeps.refl
  unfold execAcqStage
  exact (KeepsOut.next (State.lanes_keep h_self rfl (fun x1_0 h_x1_0 => (State.stage_keep h_x1_0 rfl (fun x2_0 h_x2_0 => (State.acqStage_keep h_x2_0 rfl)) (fun x3_0 h_x3_0 => (State.acqStopped_keep h_x3_0 rfl))))))

theorem execAlnStage_keep (util : Fin 1001) (s : State) : KeepsOut 923277921 s (execAlnStage util s) := by
  have h_self : Keeps 923277921 s s := Keeps.refl
  unfold execAlnStage
  exact (KeepsOut.next (State.lanes_keep h_self rfl (fun x1_0 h_x1_0 => (State.stage_keep h_x1_0 rfl (fun x2_0 h_x2_0 => (State.alnWork_keep h_x2_0 rfl)) (fun x3_0 h_x3_0 => (State.alnWork_keep h_x3_0 rfl))))))

theorem State.actAxes_keep {mk : Nat} {sb s : State} (hk : Keeps mk sb s) (hmk : 133153 ||| mk = mk) {n : Nat} :
    Keeps mk sb (State.actAxes n s) := by
  refine Keeps.step hk ?_ hmk
  have h_self : Keeps 133153 s s := Keeps.refl
  unfold State.actAxes
  exact (State.prfAct_keep (State.when_keep h_self (fun x1_0 h_x1_0 => (State.thrCommands_keep h_x1_0 rfl))) rfl)

theorem execActStage_keep (util : Fin 1001) (s : State) : KeepsOut 923670625 s (execActStage util s) := by
  have h_self : Keeps 923670625 s s := Keeps.refl
  unfold execActStage
  exact (KeepsOut.next (State.lanes_keep h_self rfl (fun x1_0 h_x1_0 => (State.stage_keep h_x1_0 rfl (fun x2_0 h_x2_0 => (State.tlgForm_keep (State.actAxes_keep h_x2_0 rfl) rfl)) (fun x3_0 h_x3_0 => (State.actAxes_keep h_x3_0 rfl))))))

theorem State.supWork_keep {mk : Nat} {sb s : State} (hk : Keeps mk sb s) (hmk : 268994593 ||| mk = mk) {mis : Nat} :
    Keeps mk sb (State.supWork mis s) := by
  refine Keeps.step hk ?_ hmk
  have h_self : Keeps 268994593 s s := Keeps.refl
  unfold State.supWork
  extract_lets -merge -useContext -underBinder +onlyGivenNames s11 q2
  have h_s11 : Keeps 268994593 s s11 := (State.cleCheck_keep h_self rfl)
  exact (State.laneMismatches_keep (Keeps.frm_supOk_keep h_s11 rfl (by rfl) (by rfl)) rfl)

theorem execSupStage_keep (util : Fin 1001) (mis : BitVec 4) (s : State) : KeepsOut 923310177 s (execSupStage util mis s) := by
  have h_self : Keeps 923310177 s s := Keeps.refl
  unfold execSupStage
  exact (KeepsOut.next (State.lanes_keep h_self rfl (fun x1_0 h_x1_0 => (State.stage_keep h_x1_0 rfl (fun x2_0 h_x2_0 => (State.supWork_keep h_x2_0 rfl)) (fun x3_0 h_x3_0 => h_x3_0)))))

theorem State.alcCompare_keep {mk : Nat} {sb s : State} (hk : Keeps mk sb s) (hmk : 34084961 ||| mk = mk) {mis : Nat} :
    Keeps mk sb (State.alcCompare mis s) := by
  refine Keeps.step hk ?_ hmk
  have h_self : Keeps 34084961 s s := Keeps.refl
  unfold State.alcCompare
  extract_lets -merge -useContext -underBinder +onlyGivenNames t1 s12
  have h_s12 : Keeps 34084961 s s12 := (State.runInside_keep h_self rfl)
  exact (State.when_keep h_s12 (fun x3_0 h_x3_0 => (State.laneMismatches_keep h_x3_0 rfl)))

theorem State.releaseWork_keep {mk : Nat} {sb s : State} (hk : Keeps mk sb s) (hmk : 68028449 ||| mk = mk) {mis : Bool} :
    Keeps mk sb (State.releaseWork mis s) := by
  refine Keeps.step hk ?_ hmk
  have h_self : Keeps 68028449 s s := Keeps.refl
  unfold State.releaseWork
  extract_lets -merge -useContext -underBinder +onlyGivenNames q1 s12 s23
  have h_s12 : Keeps 68028449 s s12 := (Keeps.frm_done_keep h_self rfl (by rfl) (by rfl))
  have h_s23 : Keeps 68028449 s s23 := (State.when_keep h_s12 (fun x4_0 h_x4_0 => (State.laneMismatch_keep h_x4_0 rfl)))
  exact (Keeps.ite_keep h_s12 (Keeps.ite_keep (State.each_keep (State.tlgRepeat_keep h_s23 rfl) (fun x5_0 _ h_x5_0 => (State.modTlg_keep h_x5_0 rfl))) (Keeps.ite_keep (State.tlgRelease_keep (State.prfRelease_keep h_s23 rfl) rfl) (State.tlgOmit_keep h_s23 rfl))))

theorem execRelease_keep (mis : Bool) (s : State) : KeepsOut 118364257 s (execRelease mis s) := by
  have h_self : Keeps 118364257 s s := Keeps.refl
  unfold execRelease
  exact (KeepsOut.next (State.lanes_keep h_self rfl (fun x1_0 h_x1_0 => by
    extract_lets -merge -useContext -underBinder +onlyGivenNames t2 s13
    have h_s13 : Keeps 118364257 s s13 := (State.runInside_keep h_x1_0 rfl)
    exact (Keeps.ite_keep (State.when_keep h_s13 (fun x4_0 h_x4_0 => (State.releaseWork_keep h_x4_0 rfl))) h_x1_0))))

theorem State.majorStopped_keep {mk : Nat} {sb s : State} (hk : Keeps mk sb s) (hmk : 625697 ||| mk = mk) {k : Nat} :
    Keeps mk sb (State.majorStopped k s) := by
  refine Keeps.step hk ?_ hmk
  have h_self : Keeps 625697 s s := Keeps.refl
  unfold State.majorStopped
  exact (by
  split
  · exact (State.estOver_keep h_self rfl)
  · exact (State.alcOver_keep h_self rfl)
  · exact (State.mirOver_keep h_self rfl)
  · exact h_self)

theorem State.stageStopped_keep {mk : Nat} {sb s : State} (hk : Keeps mk sb s) (hmk : 757537 ||| mk = mk) {k n : Nat} {cic : List (List Int)} :
    Keeps mk sb (State.stageStopped k n cic s) := by
  refine Keeps.step hk ?_ hmk
  have h_self : Keeps 757537 s s := Keeps.refl
  unfold State.stageStopped
  exact (by
  split
  · exact (State.acqStopped_keep h_self rfl)
  · exact (State.alnWork_keep h_self rfl)
  · exact (State.ctlOver_keep h_self rfl)
  · exact (State.actAxes_keep h_self rfl)
  · exact (State.majorStopped_keep h_self rfl))

theorem State.overSettle_keep {mk : Nat} {sb s : State} (hk : Keeps mk sb s) (hmk : 906599521 ||| mk = mk) {t : Nat} :
    Keeps mk sb (State.overSettle t s) := by
  refine Keeps.step hk ?_ hmk
  have h_self : Keeps 906599521 s s := Keeps.refl
  unfold State.overSettle
  exact (State.each_keep h_self (fun x1_0 _ h_x1_0 => (Keeps.ite_keep (State.stageOver_keep (State.majorStopped_keep (State.runInside_keep h_x1_0 rfl) rfl) rfl) h_x1_0)))

theorem execAlcStage_keep (util : Fin 1001) (mis : BitVec 2) (s : State) : KeepsOut 923376737 s (execAlcStage util mis s) := by
  have h_self : Keeps 923376737 s s := Keeps.refl
  unfold execAlcStage
  extract_lets -merge -useContext -underBinder +onlyGivenNames s11
  have h_s11 : Keeps 923376737 s s11 := (State.lanes_keep h_self rfl (fun x2_0 h_x2_0 => (State.stage_keep (State.overSettle_keep h_x2_0 rfl) rfl (fun x3_0 h_x3_0 => (State.alcWork_keep h_x3_0 rfl)) (fun x4_0 h_x4_0 => (State.alcOver_keep h_x4_0 rfl)))))
  exact (KeepsOut.next (State.when_keep h_s11 (fun x5_0 h_x5_0 => (State.lanes_keep h_x5_0 rfl (fun x6_0 h_x6_0 => (State.alcCompare_keep h_x6_0 rfl))))))

theorem execMirStage_keep (util : Fin 1001) (mis : BitVec 3) (peers : List PeerRec) (s : State) : KeepsOut 923376745 s (execMirStage util mis peers s) := by
  have h_self : Keeps 923376745 s s := Keeps.refl
  unfold execMirStage
  exact (KeepsOut.next (State.lanes_keep h_self rfl (fun x1_0 h_x1_0 => (State.stage_keep (State.overSettle_keep h_x1_0 rfl) rfl (fun x2_0 h_x2_0 => (State.mirWork_keep h_x2_0 rfl)) (fun x3_0 h_x3_0 => (State.mirOver_keep h_x3_0 rfl))))))

theorem execJigStage_keep (util : Fin 1001) (fail : BitVec 16) (ecc : Nat) (cyc : Option Nat) (s : State) : KeepsOut 923376737 s (execJigStage util fail ecc cyc s) := by
  have h_self : Keeps 923376737 s s := Keeps.refl
  unfold execJigStage
  exact (KeepsOut.next (State.lanes_keep h_self rfl (fun x1_0 h_x1_0 => (State.stage_keep (State.overSettle_keep h_x1_0 rfl) rfl (fun x2_0 h_x2_0 => (State.jigWork_keep h_x2_0 rfl)) (fun x3_0 h_x3_0 => h_x3_0)))))

theorem State.stageWork_keep {mk : Nat} {sb s : State} (hk : Keeps mk sb s) (hmk : 839892841 ||| mk = mk) {k : Nat} {cic : List (List Int)} :
    Keeps mk sb (State.stageWork k cic s) := by
  refine Keeps.step hk ?_ hmk
  have h_self : Keeps 839892841 s s := Keeps.refl
  unfold State.stageWork
  exact (by
  split
  · exact (State.acqStage_keep h_self rfl)
  · exact (State.alnWork_keep h_self rfl)
  · exact (State.ctlWork_keep h_self rfl)
  · exact (State.tlgForm_keep (State.actAxes_keep h_self rfl) rfl)
  · exact (State.supWork_keep h_self rfl)
  · exact (State.estWork_keep h_self rfl)
  · exact (State.alcWork_keep h_self rfl)
  · exact (State.mirWork_keep h_self rfl)
  · exact (State.jigWork_keep h_self rfl))

theorem State.stageBeside_keep {mk : Nat} {sb s : State} (hk : Keeps mk sb s) (hmk : 907001705 ||| mk = mk) {k util : Nat} {cic : List (List Int)} :
    Keeps mk sb (State.stageBeside k util cic s) := by
  refine Keeps.step hk ?_ hmk
  have h_self : Keeps 907001705 s s := Keeps.refl
  unfold State.stageBeside
  exact (State.runInside_keep (State.stage_keep h_self rfl (fun x1_0 h_x1_0 => (State.stageWork_keep h_x1_0 rfl)) (fun x2_0 h_x2_0 => h_x2_0)) rfl)

theorem execStageOverrun_keep (stage : Fin 9) (done : Fin 129) (cic : List (List Int)) (one : Option (Fin 2 × Fin 1001)) (s : State) : KeepsOut 923778921 s (execStageOverrun stage done cic one s) := by
  have h_self : Keeps 923778921 s s := Keeps.refl
  unfold execStageOverrun
  extract_lets -merge -useContext -underBinder +onlyGivenNames stop1
  have h_stop1 : ∀ z0, Keeps 923778921 s z0 → Keeps 923778921 s (stop1 z0) := (fun x2_0 h_x2_0 => (State.overrunAt_keep h_x2_0 rfl (fun x3_0 h_x3_0 => (State.stageStopped_keep h_x3_0 rfl))))
  exact (KeepsOut.next (by
  split
  · extract_lets -merge -useContext -underBinder +onlyGivenNames beside5
    have h_beside5 : ∀ z0, Keeps 923778921 s z0 → Keeps 923778921 s (beside5 z0) := (fun x6_0 h_x6_0 => (State.stageBeside_keep h_x6_0 rfl))
    exact (Keeps.ite_keep (State.lanesBy_keep h_self rfl (fun x7_0 h_x7_0 => (h_stop1 _ h_x7_0)) (fun x8_0 h_x8_0 => (h_beside5 _ h_x8_0))) (State.lanesBy_keep h_self rfl (fun x9_0 h_x9_0 => (h_beside5 _ h_x9_0)) (fun x10_0 h_x10_0 => (h_stop1 _ h_x10_0))))
  · exact (State.lanes_keep h_self rfl (fun x12_0 h_x12_0 => (h_stop1 _ h_x12_0)))))

end Sys2Proof.Machine
end

