-- ==== Sys2Proof/Laws/KeepApply.lean ====
section
/-! SUPPORT. What the functions of Machine/Apply.lean leave alone (see Laws/Keeps.lean). -/

namespace Sys2Proof.Machine

open Sys2Proof

theorem State.clearW1c_keep {mk : Nat} {sb s : State} (hk : Keeps mk sb s) (hmk : 1 ||| mk = mk) {off v : Nat} :
    Keeps mk sb (State.clearW1c s off v) := by
  refine Keeps.step hk ?_ hmk
  have h_self : Keeps 1 s s := Keeps.refl
  unfold State.clearW1c
  extract_lets -merge -useContext -underBinder +onlyGivenNames m1
  exact (Keeps.ite_keep h_self (State.setWord_keep h_self rfl))

theorem State.applyFrm_keep {mk : Nat} {sb s : State} (hk : Keeps mk sb s) (hmk : 33 ||| mk = mk) {off v : Nat} :
    Keeps mk sb (State.applyFrm s off v) := by
  refine Keeps.step hk ?_ hmk
  have h_self : Keeps 33 s s := Keeps.refl
  unfold State.applyFrm
  exact (by
  split
  · exact (State.faultClear_keep h_self rfl)
  · extract_lets -merge -useContext -underBinder +onlyGivenNames q3 q4
    have h_q3 : Keeps 33 s q3 := (State.setWord_keep h_self rfl)
    exact (Keeps.ite_keep (State.injectSet_keep h_self rfl) (Keeps.frm_keep h_q3 rfl (by rfl) (by rfl) (by rfl)))
  · exact (State.setWord_keep h_self rfl))

theorem State.applySig_keep {mk : Nat} {sb s : State} (hk : Keeps mk sb s) (hmk : 257 ||| mk = mk) {off val : Nat} :
    Keeps mk sb (State.applySig s off val) := by
  refine Keeps.step hk ?_ hmk
  have h_self : Keeps 257 s s := Keeps.refl
  unfold State.applySig
  extract_lets -merge -useContext -underBinder +onlyGivenNames v1 n2
  exact (Keeps.ite_keep (State.excApply_keep h_self rfl) (Keeps.ite_keep (State.uartApply_keep h_self rfl) (Keeps.ite_keep (by
  split
  · exact (State.sigCfgApply_keep h_self rfl)
  · exact (State.sigSrcApply_keep h_self rfl)
  · exact h_self) (Keeps.ite_keep (State.coefApply_keep h_self rfl) (State.setWord_keep h_self rfl)))))

theorem State.applyCle_keep {mk : Nat} {sb s : State} (hk : Keeps mk sb s) (hmk : 34849 ||| mk = mk) {off v : Nat} :
    Keeps mk sb (State.applyCle s off v) := by
  refine Keeps.step hk ?_ hmk
  have h_self : Keeps 34849 s s := Keeps.refl
  unfold State.applyCle
  extract_lets -merge -useContext -underBinder +onlyGivenNames n1
  exact (Keeps.ite_keep (State.dpaxWrite_keep h_self rfl) (Keeps.ite_keep (Keeps.ite_keep h_self (State.modeRegApply_keep h_self rfl)) (Keeps.ite_keep (by
  split
  · exact (State.loopCfgApply_keep h_self rfl)
  · exact (State.setWord_keep h_self rfl)
  · exact (State.spApply_keep h_self rfl)
  · exact h_self) (Keeps.ite_keep (Keeps.ite_keep h_self (State.loopMemApply_keep h_self rfl)) (State.setWord_keep h_self rfl)))))

theorem State.applyAlc_keep {mk : Nat} {sb s : State} (hk : Keeps mk sb s) (hmk : 67617 ||| mk = mk) {off v : Nat} :
    Keeps mk sb (State.applyAlc s off v) := by
  refine Keeps.step hk ?_ hmk
  have h_self : Keeps 67617 s s := Keeps.refl
  unfold State.applyAlc
  exact (Keeps.ite_keep (State.alcCtrlApply_keep h_self rfl) (Keeps.ite_keep (Keeps.ite_keep (State.envCfgApply_keep h_self rfl) (State.setWord_keep h_self rfl)) (Keeps.ite_keep (State.groupApply_keep h_self rfl) (State.setWord_keep h_self rfl))))

theorem State.applyGns_keep {mk : Nat} {sb s : State} (hk : Keeps mk sb s) (hmk : 1 ||| mk = mk) {off v : Nat} :
    Keeps mk sb (State.applyGns s off v) := by
  refine Keeps.step hk ?_ hmk
  have h_self : Keeps 1 s s := Keeps.refl
  unfold State.applyGns
  extract_lets -merge -useContext -underBinder +onlyGivenNames w1
  exact (Keeps.ite_keep (State.setWord_keep h_self rfl) (Keeps.ite_keep (State.setWord_keep h_self rfl) (State.setWord_keep h_self rfl)))

theorem State.applyValue_keep {mk : Nat} {sb s0 : State} (hk : Keeps mk sb s0) (hmk : 101665 ||| mk = mk) {p : PendWrite} :
    Keeps mk sb (State.applyValue s0 p) := by
  refine Keeps.step hk ?_ hmk
  have h_self : Keeps 101665 s0 s0 := Keeps.refl
  unfold State.applyValue
  extract_lets -merge -useContext -underBinder +onlyGivenNames blk1 s2
  have h_s2 : Keeps 101665 s0 s2 := (Keeps.ite_keep (State.clearW1c_keep h_self rfl) h_self)
  exact (Keeps.ite_keep h_self (by
  clear_value blk1
  split
  · exact (State.applyFrm_keep h_s2 rfl)
  · exact (State.applyGns_keep h_s2 rfl)
  · exact (State.applySig_keep h_s2 rfl)
  · exact (Keeps.ite_keep (State.estModelWrite_keep h_s2 rfl) (Keeps.ite_keep (State.arbOvrApply_keep h_s2 rfl) (State.setWord_keep h_s2 rfl)))
  · exact (State.applyCle_keep h_s2 rfl)
  · exact (Keeps.ite_keep h_s2 (State.applyAlc_keep h_s2 rfl))
  · exact (Keeps.ite_keep h_s2 (State.setWord_keep h_s2 rfl))
  · exact (Keeps.ite_keep h_s2 (State.setWord_keep h_s2 rfl))
  · exact (State.setWord_keep h_s2 rfl)))

theorem State.applyGroups_keep {mk : Nat} {sb s : State} (hk : Keeps mk sb s) (hmk : 460833 ||| mk = mk) {l : List PendWrite} :
    Keeps mk sb (State.applyGroups s l) := by
  refine Keeps.step hk ?_ hmk
  have h_self : Keeps 460833 s s := Keeps.refl
  unfold State.applyGroups
  extract_lets -merge -useContext -underBinder +onlyGivenNames s11
  have h_s11 : Keeps 460833 s s11 := (State.each_keep h_self (fun x2_0 _ h_x2_0 => by
    extract_lets -merge -useContext -underBinder +onlyGivenNames ws3
    exact (Keeps.ite_keep h_x2_0 (State.descApply_keep h_x2_0 rfl))))
  exact (State.each_keep h_s11 (fun x4_0 _ h_x4_0 => (Keeps.ite_keep (State.prfCfgApply_keep h_x4_0 rfl) (Keeps.ite_keep (State.tlgCfgApply_keep h_x4_0 rfl) h_x4_0))))

theorem State.actValue_keep {mk : Nat} {sb s : State} (hk : Keeps mk sb s) (hmk : 44065 ||| mk = mk) {p : PendWrite} :
    Keeps mk sb (State.actValue s p) := by
  refine Keeps.step hk ?_ hmk
  have h_self : Keeps 44065 s s := Keeps.refl
  unfold State.actValue
  extract_lets -merge -useContext -underBinder +onlyGivenNames off1
  exact (Keeps.ite_keep (Keeps.ite_keep (State.gnsEnable_keep h_self rfl) (Keeps.ite_keep (State.gnsDisable_keep h_self rfl) h_self)) (Keeps.ite_keep (State.bankRequest_keep h_self rfl) (Keeps.ite_keep (State.refRewritten_keep h_self rfl) (Keeps.ite_keep (State.refRewritten_keep h_self rfl) (Keeps.ite_keep (State.tgRewritten_keep h_self rfl) (Keeps.ite_keep (State.bankAsk_keep h_self rfl) (Keeps.ite_keep (Keeps.ite_keep (State.pidCommit_keep h_self rfl) h_self) h_self)))))))

theorem State.actCommand_keep {mk : Nat} {sb s : State} (hk : Keeps mk sb s) (hmk : 240929 ||| mk = mk) {p : PendWrite} :
    Keeps mk sb (State.actCommand s p) := by
  refine Keeps.step hk ?_ hmk
  have h_self : Keeps 240929 s s := Keeps.refl
  unfold State.actCommand
  extract_lets -merge -useContext -underBinder +onlyGivenNames off1
  exact (Keeps.ite_keep (State.gnsRestart_keep h_self rfl) (Keeps.ite_keep (State.syncApply_keep h_self rfl) (Keeps.ite_keep (State.when_keep h_self (fun x2_0 h_x2_0 => (State.estReinit_keep h_x2_0 rfl))) (Keeps.ite_keep (State.arbClr_keep h_self rfl) (Keeps.ite_keep (State.modeRequest_keep h_self rfl) (Keeps.ite_keep (State.loopCmd_keep h_self rfl) (Keeps.ite_keep (State.thrCmd_keep h_self rfl) (Keeps.ite_keep (State.energyClear_keep h_self rfl) (Keeps.ite_keep (State.prfAbortAll_keep h_self rfl) (Keeps.ite_keep (State.prfCmd_keep h_self rfl) h_self))))))))))

theorem State.tuneAfter_keep {mk : Nat} {sb s : State} (hk : Keeps mk sb s) (hmk : 32768 ||| mk = mk) {before : List Nat} :
    Keeps mk sb (State.tuneAfter before s) := by
  refine Keeps.step hk ?_ hmk
  have h_self : Keeps 32768 s s := Keeps.refl
  unfold State.tuneAfter
  exact (Keeps.ite_keep h_self (State.each_keep h_self (fun x1_0 _ h_x1_0 => (State.modLoop_keep h_x1_0 rfl))))

theorem State.applyWrites_keep {mk : Nat} {sb s0 : State} (hk : Keeps mk sb s0) (hmk : 503585 ||| mk = mk) {ws : List PendWrite} :
    Keeps mk sb (State.applyWrites s0 ws) := by
  refine Keeps.step hk ?_ hmk
  have h_self : Keeps 503585 s0 s0 := Keeps.refl
  unfold State.applyWrites
  extract_lets -merge -useContext -underBinder +onlyGivenNames last1 axes2 s13 s24 s35
  have h_s13 : Keeps 503585 s0 s13 := (State.tuneAfter_keep (Keeps.foldl_keep h_self (fun x6_0 _ h_x6_0 => (State.applyValue_keep h_x6_0 rfl))) rfl)
  have h_s24 : Keeps 503585 s0 s24 := (State.applyGroups_keep h_s13 rfl)
  have h_s35 : Keeps 503585 s0 s35 := (State.each_keep (State.each_keep (State.each_keep h_s24 (fun x9_0 _ h_x9_0 => (State.axisReplan_keep h_x9_0 rfl))) (fun x8_0 _ h_x8_0 => (State.streamRestart_keep h_x8_0 rfl))) (fun x7_0 _ h_x7_0 => (State.streamCheck_keep h_x7_0 rfl)))
  exact (Keeps.ite_keep h_self (State.each_keep h_s35 (fun x10_0 _ h_x10_0 => (State.actCommand_keep (State.actValue_keep h_x10_0 rfl) rfl))))

theorem State.applyPend_keep {mk : Nat} {sb s : State} (hk : Keeps mk sb s) (hmk : 537374497 ||| mk = mk) {p : PendWrite → Bool} :
    Keeps mk sb (State.applyPend s p) := by
  refine Keeps.step hk ?_ hmk
  have h_self : Keeps 537374497 s s := Keeps.refl
  unfold State.applyPend
  extract_lets -merge -useContext -underBinder +onlyGivenNames q1
  exact (State.applyWrites_keep (Keeps.frm_pend_keep h_self rfl (by rfl) (by rfl)) rfl)

theorem State.applyMinor_keep {mk : Nat} {sb s : State} (hk : Keeps mk sb s) (hmk : 537374497 ||| mk = mk) :
    Keeps mk sb (State.applyMinor s) := by
  refine Keeps.step hk ?_ hmk
  have h_self : Keeps 537374497 s s := Keeps.refl
  unfold State.applyMinor
  extract_lets -merge -useContext -underBinder +onlyGivenNames held1
  exact (State.applyPend_keep h_self rfl)

theorem State.applyMajor_keep {mk : Nat} {sb s : State} (hk : Keeps mk sb s) (hmk : 537374497 ||| mk = mk) :
    Keeps mk sb (State.applyMajor s) := by
  refine Keeps.step hk ?_ hmk
  have h_self : Keeps 537374497 s s := Keeps.refl
  unfold State.applyMajor
  extract_lets -merge -useContext -underBinder +onlyGivenNames held1 s12 q3
  have h_s12 : Keeps 537374497 s s12 := (State.when_keep h_self (fun x4_0 h_x4_0 => (State.envHostAll_keep h_x4_0 rfl)))
  exact (State.applyPend_keep (Keeps.frm_keep h_s12 rfl (by rfl) (by rfl) (by rfl)) rfl)

theorem State.expertReset_keep {mk : Nat} {sb s : State} (hk : Keeps mk sb s) (hmk : 1 ||| mk = mk) {blk : Nat} :
    Keeps mk sb (State.expertReset s blk) := by
  refine Keeps.step hk ?_ hmk
  have h_self : Keeps 1 s s := Keeps.refl
  unfold State.expertReset
  exact (State.each_keep h_self (fun x1_0 _ h_x1_0 => by
    extract_lets -merge -useContext -underBinder +onlyGivenNames m2
    exact (Keeps.ite_keep h_x1_0 (State.setWord_keep h_x1_0 rfl))))

theorem State.levelChange_keep {mk : Nat} {sb s : State} (hk : Keeps mk sb s) (hmk : 35105 ||| mk = mk) {b : Nat} {expert : Bool} :
    Keeps mk sb (State.levelChange s b expert) := by
  refine Keeps.step hk ?_ hmk
  have h_self : Keeps 35105 s s := Keeps.refl
  unfold State.levelChange
  exact (by
  split
  · extract_lets -merge -useContext -underBinder +onlyGivenNames q2
    exact (State.expertReset_keep (Keeps.frm_keep h_self rfl (by rfl) (by rfl) (by rfl)) rfl)
  · exact (State.sigToBasic_keep h_self rfl)
  · exact (State.each_keep h_self (fun x5_0 _ h_x5_0 => by
      extract_lets -merge -useContext -underBinder +onlyGivenNames off6
      exact (Keeps.ite_keep (State.setWord_keep h_x5_0 rfl) h_x5_0)))
  · exact h_self
  · exact (State.cleLevel_keep h_self rfl)
  · exact (State.put_keep h_self rfl)
  · exact (State.expertReset_keep h_self rfl)
  · exact (State.expertReset_keep h_self rfl)
  · exact (State.expertReset_keep h_self rfl)
  · exact (State.expertReset_keep h_self rfl)
  · exact (State.expertReset_keep h_self rfl)
  · exact h_self)

theorem State.levelMajor_keep {mk : Nat} {sb s : State} (hk : Keeps mk sb s) (hmk : 35105 ||| mk = mk) :
    Keeps mk sb (State.levelMajor s) := by
  refine Keeps.step hk ?_ hmk
  have h_self : Keeps 35105 s s := Keeps.refl
  unfold State.levelMajor
  extract_lets -merge -useContext -underBinder +onlyGivenNames new1 before2 s13
  have h_s13 : Keeps 35105 s s13 := (State.each_keep h_self (fun x4_0 _ h_x4_0 => by
    extract_lets -merge -useContext -underBinder +onlyGivenNames e5 s16 q7
    have h_s16 : Keeps 35105 s s16 := (State.levelChange_keep h_x4_0 rfl)
    exact (Keeps.ite_keep h_x4_0 (Keeps.frm_keep h_s16 rfl (by rfl) (by rfl) (by rfl)))))
  exact (State.tuneAfter_keep h_s13 rfl)

end Sys2Proof.Machine
end

