-- ==== Sys2Proof/Laws/KeepNet.lean ====
section
/-! SUPPORT. What the functions of Machine/Net.lean leave alone (see Laws/Keeps.lean). -/

namespace Sys2Proof.Machine

open Sys2Proof

theorem State.drop450_keep {mk : Nat} {sb s : State} (hk : Keeps mk sb s) (hmk : 2081 ||| mk = mk) {f : Fld} :
    Keeps mk sb (State.drop450 s f) := by
  refine Keeps.step hk ?_ hmk
  have h_self : Keeps 2081 s s := Keeps.refl
  unfold State.drop450
  exact (Keeps.ite_keep h_self (State.raiseMajor_keep (State.inc_keep h_self rfl) rfl))

theorem State.line450_keep {mk : Nat} {sb s : State} (hk : Keeps mk sb s) (hmk : 2465 ||| mk = mk) {net g stamp : Nat} {l : List Byte} :
    Keeps mk sb (State.line450 s net g stamp l) := by
  refine Keeps.step hk ?_ hmk
  have h_self : Keeps 2465 s s := Keeps.refl
  unfold State.line450
  extract_lets -merge -useContext -underBinder +onlyGivenNames tb1
  exact (by
  split
  · exact (Keeps.ite_keep (State.drop450_keep h_self rfl) h_self)
  · exact (by
    split
    · exact (State.feedSentence_keep h_self rfl)
    · extract_lets -merge -useContext -underBinder +onlyGivenNames src6 live7 dup8 q9 s110
      have h_s110 : Keeps 2465 s s110 := (Keeps.eth_keep h_self rfl)
      exact (Keeps.ite_keep h_s110 (State.feedSentence_keep h_s110 rfl))))

theorem State.datagram450_keep {mk : Nat} {sb s : State} (hk : Keeps mk sb s) (hmk : 2465 ||| mk = mk) {p g frac : Nat} {b : List Byte} :
    Keeps mk sb (State.datagram450 s p g frac b) := by
  refine Keeps.step hk ?_ hmk
  have h_self : Keeps 2465 s s := Keeps.refl
  unfold State.datagram450
  extract_lets -merge -useContext -underBinder +onlyGivenNames body1
  exact (Keeps.ite_keep (Keeps.foldl_keep h_self (fun x2_0 _ h_x2_0 => (State.line450_keep h_x2_0 rfl))) (State.drop450_keep h_self rfl))

theorem execIec450Datagram_keep (p : Fin 4) (g : Fin 16) (frac : Fin 5) (bytes : List Byte) (s : State) : KeepsOut 16779681 s (execIec450Datagram p g frac bytes s) := by
  have h_self : Keeps 16779681 s s := Keeps.refl
  unfold execIec450Datagram
  exact (KeepsOut.next (State.lanes_keep h_self rfl (fun x1_0 h_x1_0 => (Keeps.ite_keep (State.datagram450_keep h_x1_0 rfl) h_x1_0))))

theorem State.ethDispatch_keep {mk : Nat} {sb s : State} (hk : Keeps mk sb s) (hmk : 135289313 ||| mk = mk) {p frac : Nat} {b : List Byte} :
    Keeps mk sb (State.ethDispatch s p frac b) := by
  refine Keeps.step hk ?_ hmk
  have h_self : Keeps 135289313 s s := Keeps.refl
  unfold State.ethDispatch
  extract_lets -merge -useContext -underBinder +onlyGivenNames e1 udp2 ip3 ptp4 grp5
  exact (by
  clear_value ptp4
  split
  · exact (State.ptpEngine_keep (State.setPort_keep h_self rfl) rfl)
  · exact (Keeps.ite_keep (State.incWrap_keep h_self rfl) (by
    clear_value grp5
    split
    · exact (State.datagram450_keep h_self rfl)
    · extract_lets -merge -useContext -underBinder +onlyGivenNames q10
      exact (Keeps.ite_keep (Keeps.saf_keep h_self rfl) (Keeps.ite_keep (State.hostItem_keep h_self rfl) (State.incWrap_keep h_self rfl))))))

theorem State.ethReceive_keep {mk : Nat} {sb s : State} (hk : Keeps mk sb s) (hmk : 135289313 ||| mk = mk) {p : Nat} {good : Bool} {frac : Nat} {b : List Byte} :
    Keeps mk sb (State.ethReceive s p good frac b) := by
  refine Keeps.step hk ?_ hmk
  have h_self : Keeps 135289313 s s := Keeps.refl
  unfold State.ethReceive
  exact (Keeps.ite_keep h_self (Keeps.ite_keep (State.ethDispatch_keep (State.incWrap_keep h_self rfl) rfl) (State.raiseMajor_keep (State.incWrap_keep h_self rfl) rfl)))

theorem execEthFrameReceived_keep (p : Fin 4) (good : Bool) (frac : Fin 5) (bytes : List Byte) (s : State) : KeepsOut 152066529 s (execEthFrameReceived p good frac bytes s) := by
  have h_self : Keeps 152066529 s s := Keeps.refl
  unfold execEthFrameReceived
  exact (KeepsOut.next (State.lanes_keep h_self rfl (fun x1_0 h_x1_0 => (State.ethReceive_keep h_x1_0 rfl))))

end Sys2Proof.Machine
end

