-- ==== Sys2Proof/Laws/KeepPwr.lean ====
section
/-! SUPPORT. What the functions of Machine/Pwr.lean leave alone (see Laws/Keeps.lean). -/

namespace Sys2Proof.Machine

open Sys2Proof

theorem State.modPwr_keep {mk : Nat} {sb s : State} (hk : Keeps mk sb s) (hmk : 8388608 ||| mk = mk) {f : PwrState → PwrState} :
    Keeps mk sb (State.modPwr s f) := by
  refine Keeps.step hk ?_ hmk
  have h_self : Keeps 8388608 s s := Keeps.refl
  unfold State.modPwr
  exact (Keeps.pwr_keep h_self rfl)

theorem RegFile.afterReset_wf (r : RegFile) : r.afterReset.wf = true := by
  unfold RegFile.afterReset
  generalize heldWords = l
  suffices ∀ x : RegFile, x.wf = true → (l.foldl (fun acc p =>
      let w := resetNat p.1
      acc.setWord p.1 (BitVec.ofNat 32 (w - Nat.land w p.2 + Nat.land (r.word p.1).toNat p.2))) x).wf = true from this _ rfl
  induction l with
  | nil => exact fun x h => h
  | cons p t ih => exact fun x h => ih _ (RegFile.setWord_wf _ _ _ h)

theorem State.modReset_keep {mk : Nat} {sb s : State} (h : Keeps mk sb s) (hm : 1073741823 ||| mk = mk) {cause : Nat} :
    Keeps mk sb (State.modReset s cause) := by
  refine Keeps.step h ?_ hm
  unfold State.modReset
  extract_lets -merge -useContext -underBinder +onlyGivenNames x1 lc2 r0 r1 r2 r3 r4 r5 base3 s14 s25 q6
  have h3 : Keeps 1073741823 s base3 := by
    constructor <;> first
      | rfl
      | exact fun _ => RegFile.afterReset_wf _
      | exact Nat.le_succ _
      | (intro hi; exact absurd hi (by decide))
  have h4 : Keeps 1073741823 s s14 := State.putBit_keep (State.incWrap_keep (State.put_keep (State.put_keep h3 rfl) rfl) rfl) rfl
  exact Keeps.frm_keep (State.sealReset_keep h4 rfl) rfl (by rfl) (by rfl) (by rfl)

theorem State.storeLost_keep {mk : Nat} {sb s : State} (hk : Keeps mk sb s) (hmk : 4194305 ||| mk = mk) :
    Keeps mk sb (State.storeLost s) := by
  refine Keeps.step hk ?_ hmk
  have h_self : Keeps 4194305 s s := Keeps.refl
  unfold State.storeLost
  exact (State.putBit_keep (State.modSec_keep h_self rfl) rfl)

theorem State.slept_keep {mk : Nat} {sb s : State} (hk : Keeps mk sb s) (hmk : 6177 ||| mk = mk) {p : Nat} :
    Keeps mk sb (State.slept s p) := by
  refine Keeps.step hk ?_ hmk
  have h_self : Keeps 6177 s s := Keeps.refl
  unfold State.slept
  exact (State.rtcFollow_keep (Keeps.ite_keep h_self (Keeps.rtc_keep h_self rfl)) rfl)

theorem execPowerOnReset_keep (pulses : Nat) (bad : BitVec 3) (s : State) : KeepsOut 1073741823 s (execPowerOnReset pulses bad s) := by
  have h_self : Keeps 1073741823 s s := Keeps.refl
  unfold execPowerOnReset
  extract_lets -merge -useContext -underBinder +onlyGivenNames s11
  have h_s11 : Keeps 1073741823 s s11 := (State.slept_keep (State.put_keep h_self rfl) rfl)
  exact (KeepsOut.next (State.storeLost_keep (State.sramClear_keep (State.modReset_keep (State.modPwr_keep h_s11 rfl) rfl) rfl) rfl))

theorem execBrownOut_keep (rail : Fin 3) (s : State) : KeepsOut 1073741823 s (execBrownOut rail s) := by
  have h_self : Keeps 1073741823 s s := Keeps.refl
  unfold execBrownOut
  exact (KeepsOut.next (State.modReset_keep (State.railState_keep (State.railState_keep h_self rfl) rfl) rfl))

theorem execResetPin_keep (us : Nat) (s : State) : KeepsOut 1073741823 s (execResetPin us s) := by
  have h_self : Keeps 1073741823 s s := Keeps.refl
  unfold execResetPin
  exact (KeepsOut.next (Keeps.ite_keep h_self (State.modReset_keep h_self rfl)))

theorem State.islandReset_keep {mk : Nat} {sb s : State} (hk : Keeps mk sb s) (hmk : 5242881 ||| mk = mk) :
    Keeps mk sb (State.islandReset s) := by
  refine Keeps.step hk ?_ hmk
  have h_self : Keeps 5242881 s s := Keeps.refl
  unfold State.islandReset
  extract_lets -merge -useContext -underBinder +onlyGivenNames isl1 s12 q3
  have h_s12 : Keeps 5242881 s s12 := (State.each_keep h_self (fun x4_0 _ h_x4_0 => (State.setWord_keep h_x4_0 rfl)))
  exact (State.readyBit_keep (Keeps.saf_sec_keep h_s12 rfl) rfl)

theorem State.islReset_keep {mk : Nat} {sb s : State} (hk : Keeps mk sb s) (hmk : 5242881 ||| mk = mk) :
    Keeps mk sb (State.islReset s) := by
  refine Keeps.step hk ?_ hmk
  have h_self : Keeps 5242881 s s := Keeps.refl
  unfold State.islReset
  exact (State.put_keep (State.islandReset_keep h_self rfl) rfl)

theorem State.pwrRefuse_keep {mk : Nat} {sb s : State} (hk : Keeps mk sb s) (hmk : 2081 ||| mk = mk) {reason : Nat} :
    Keeps mk sb (State.pwrRefuse s reason) := by
  refine Keeps.step hk ?_ hmk
  have h_self : Keeps 2081 s s := Keeps.refl
  unfold State.pwrRefuse
  exact (State.raise_keep (State.put_keep (State.put_keep h_self rfl) rfl) rfl)

theorem State.pwrRst_keep {mk : Nat} {sb s : State} (hk : Keeps mk sb s) (hmk : 1073741823 ||| mk = mk) {port v : Nat} :
    Keeps mk sb (State.pwrRst s port v) := by
  refine Keeps.step hk ?_ hmk
  have h_self : Keeps 1073741823 s s := Keeps.refl
  unfold State.pwrRst
  exact (Keeps.ite_keep h_self (Keeps.ite_keep (State.modReset_keep (State.runInside_keep h_self rfl) rfl) (Keeps.ite_keep h_self (Keeps.ite_keep (State.islReset_keep h_self rfl) (State.pwrRefuse_keep h_self rfl)))))

theorem execHostModuleReset_keep (port : Fin 2) (key : BitVec 16) (s : State) : KeepsOut 1073741823 s (execHostModuleReset port key s) := by
  have h_self : Keeps 1073741823 s s := Keeps.refl
  unfold execHostModuleReset
  exact (KeepsOut.next (State.pwrRst_keep h_self rfl))

theorem execHostIslandReset_keep (port : Fin 2) (key : BitVec 16) (s : State) : KeepsOut 1073741823 s (execHostIslandReset port key s) := by
  have h_self : Keeps 1073741823 s s := Keeps.refl
  unfold execHostIslandReset
  exact (KeepsOut.next (State.pwrRst_keep h_self rfl))

theorem State.gnsPowerOff_keep {mk : Nat} {sb s : State} (hk : Keeps mk sb s) (hmk : 10273 ||| mk = mk) :
    Keeps mk sb (State.gnsPowerOff s) := by
  refine Keeps.step hk ?_ hmk
  have h_self : Keeps 10273 s s := Keeps.refl
  unfold State.gnsPowerOff
  extract_lets -merge -useContext -underBinder +onlyGivenNames s11 q2
  have h_s11 : Keeps 10273 s s11 := (State.gnsStop_keep (State.put_keep h_self rfl) rfl)
  exact (Keeps.gns_keep h_s11 rfl)

theorem State.gnsPowerOn_keep {mk : Nat} {sb s : State} (hk : Keeps mk sb s) (hmk : 8192 ||| mk = mk) :
    Keeps mk sb (State.gnsPowerOn s) := by
  refine Keeps.step hk ?_ hmk
  have h_self : Keeps 8192 s s := Keeps.refl
  unfold State.gnsPowerOn
  exact (State.when_keep h_self (fun x1_0 h_x1_0 => by
    extract_lets -merge -useContext -underBinder +onlyGivenNames q2
    exact (Keeps.gns_keep h_x1_0 rfl)))

theorem State.railFault_keep {mk : Nat} {sb s : State} (hk : Keeps mk sb s) (hmk : 13641761 ||| mk = mk) {rail lvl : Nat} :
    Keeps mk sb (State.railFault s rail lvl) := by
  refine Keeps.step hk ?_ hmk
  have h_self : Keeps 13641761 s s := Keeps.refl
  unfold State.railFault
  extract_lets -merge -useContext -underBinder +onlyGivenNames s11 ev2
  have h_s11 : Keeps 13641761 s s11 := (State.railState_keep h_self rfl)
  have h_ev2 : ∀ z0, Keeps 13641761 s z0 → Keeps 13641761 s (ev2 z0) := (fun x3_0 h_x3_0 => (State.when_keep h_x3_0 (fun x4_0 h_x4_0 => (State.raiseMajor_keep h_x4_0 rfl))))
  exact (by
  split
  · exact (h_ev2 _ (State.islandSafe_keep h_s11 rfl))
  · exact (State.islReset_keep h_s11 rfl)
  · exact (State.gnsPowerOn_keep h_s11 rfl)
  · exact (h_ev2 _ (State.gnsPowerOff_keep h_s11 rfl))
  · exact (h_ev2 _ (State.setRaise_keep h_s11 rfl))
  · exact (h_ev2 _ (State.setRaise_keep h_s11 rfl))
  · exact h_s11)

theorem execRailFault_keep (rail : Fin 3) (lvl : Fin 3) (s : State) : KeepsOut 30418977 s (execRailFault rail lvl s) := by
  have h_self : Keeps 30418977 s s := Keeps.refl
  unfold execRailFault
  exact (KeepsOut.next (State.lanes_keep h_self rfl (fun x1_0 h_x1_0 => (State.railFault_keep h_x1_0 rfl))))

theorem execHostPerst_keep (p : Fin 2) (kind : Fin 3) (s : State) : KeepsOut 6572065 s (execHostPerst p kind s) := by
  have h_self : Keeps 6572065 s s := Keeps.refl
  unfold execHostPerst
  exact (KeepsOut.next (Keeps.ite_keep h_self (State.hostDown_keep h_self rfl)))

theorem State.pwrCancel_keep {mk : Nat} {sb s : State} (hk : Keeps mk sb s) (hmk : 8390689 ||| mk = mk) {src : Nat} :
    Keeps mk sb (State.pwrCancel s src) := by
  refine Keeps.step hk ?_ hmk
  have h_self : Keeps 8390689 s s := Keeps.refl
  unfold State.pwrCancel
  exact (State.raise_keep (State.orBits_keep (State.put_keep (State.put_keep (State.modPwr_keep h_self rfl) rfl) rfl) rfl) rfl)

theorem State.canRejoin_keep {mk : Nat} {sb s : State} (hk : Keeps mk sb s) (hmk : 262145 ||| mk = mk) :
    Keeps mk sb (State.canRejoin s) := by
  refine Keeps.step hk ?_ hmk
  have h_self : Keeps 262145 s s := Keeps.refl
  unfold State.canRejoin
  exact (State.each_keep h_self (fun x1_0 _ h_x1_0 => (Keeps.ite_keep h_x1_0 (State.modCan_keep (State.put_keep (State.put_keep (State.put_keep h_x1_0 rfl) rfl) rfl) rfl))))

theorem State.contactorsOff_keep {mk : Nat} {sb s : State} (hk : Keeps mk sb s) (hmk : 1048577 ||| mk = mk) :
    Keeps mk sb (State.contactorsOff s) := by
  refine Keeps.step hk ?_ hmk
  have h_self : Keeps 1048577 s s := Keeps.refl
  unfold State.contactorsOff
  exact (State.put_keep (State.each_keep h_self (fun x1_0 _ h_x1_0 => (State.when_keep (State.modCon_keep h_x1_0 rfl) (fun x2_0 h_x2_0 => (State.put_keep h_x2_0 rfl))))) rfl)

theorem State.powerDown_keep {mk : Nat} {sb s : State} (hk : Keeps mk sb s) (hmk : 172243169 ||| mk = mk) {k : Nat} :
    Keeps mk sb (State.powerDown s k) := by
  refine Keeps.step hk ?_ hmk
  have h_self : Keeps 172243169 s s := Keeps.refl
  unfold State.powerDown
  extract_lets -merge -useContext -underBinder +onlyGivenNames s11 s22
  have h_s11 : Keeps 172243169 s s11 := (State.gnsPowerOff_keep (State.klLink_keep (State.klLink_keep h_self rfl) rfl) rfl)
  have h_s22 : Keeps 172243169 s s22 := (State.when_keep h_s11 (fun x3_0 h_x3_0 => (State.canRejoin_keep (Keeps.foldl_keep h_x3_0 (fun x4_0 _ h_x4_0 => (State.linkChange_keep h_x4_0 rfl))) rfl)))
  exact (State.when_keep h_s22 (fun x5_0 h_x5_0 => by
    extract_lets -merge -useContext -underBinder +onlyGivenNames q6
    have h_q6 : Keeps 172243169 s q6 := (State.sramSleep_keep (State.setWord_keep h_x5_0 rfl) rfl)
    exact (Keeps.tim_ctr_step_keep h_q6 rfl)))

theorem State.recDrain_keep {mk : Nat} {sb s : State} (h : Keeps mk sb s) (hm : 2089 ||| mk = mk) {f : Nat} : Keeps mk sb (State.recDrain f s) := by
  induction f generalizing s with
  | zero => exact h
  | succ f ih => exact ih (State.recWrite_keep h hm)

theorem State.pwrEnter_keep {mk : Nat} {sb s : State} (hk : Keeps mk sb s) (hmk : 183793897 ||| mk = mk) {src : Nat} {late : Bool} :
    Keeps mk sb (State.pwrEnter s src late) := by
  refine Keeps.step hk ?_ hmk
  have h_self : Keeps 183793897 s s := Keeps.refl
  unfold State.pwrEnter
  exact (by
  split
  · exact h_self
  · extract_lets -merge -useContext -underBinder +onlyGivenNames fired3 s14 s25 s36
    have h_s14 : Keeps 183793897 s s14 := (State.recDrain_keep h_self rfl)
    have h_s25 : Keeps 183793897 s s25 := (State.when_keep (State.when_keep h_s14 (fun x8_0 h_x8_0 => (State.contactorsOff_keep h_x8_0 rfl))) (fun x7_0 h_x7_0 => (State.hostDown_keep (State.hostDown_keep h_x7_0 rfl) rfl)))
    have h_s36 : Keeps 183793897 s s36 := (State.modPwr_keep (State.powerDown_keep h_s25 rfl) rfl)
    exact (Keeps.ite_keep (State.pwrCancel_keep (Keeps.ite_keep h_s25 h_self) rfl) (State.put_keep (State.put_keep h_s36 rfl) rfl)))

theorem execPowerStateEntry_keep (src : BitVec 17) (late : Bool) (s : State) : KeepsOut 183793897 s (execPowerStateEntry src late s) := by
  have h_self : Keeps 183793897 s s := Keeps.refl
  unfold execPowerStateEntry
  exact (KeepsOut.next (State.pwrEnter_keep h_self rfl))

theorem State.exitEnd_keep {mk : Nat} {sb s : State} (hk : Keeps mk sb s) (hmk : 2081 ||| mk = mk) {k fired : Nat} :
    Keeps mk sb (State.exitEnd s k fired) := by
  refine Keeps.step hk ?_ hmk
  have h_self : Keeps 2081 s s := Keeps.refl
  unfold State.exitEnd
  exact (State.raise_keep (State.orBits_keep (State.put_keep (State.put_keep h_self rfl) rfl) rfl) rfl)

theorem State.pwrWake_keep {mk : Nat} {sb s : State} (hk : Keeps mk sb s) (hmk : 1073741823 ||| mk = mk) {src : Nat} :
    Keeps mk sb (State.pwrWake s src) := by
  refine Keeps.step hk ?_ hmk
  have h_self : Keeps 1073741823 s s := Keeps.refl
  unfold State.pwrWake
  extract_lets -merge -useContext -underBinder +onlyGivenNames k1 fired2 s13
  have h_s13 : Keeps 1073741823 s s13 := (State.setWord_keep (State.modRec_keep (State.islandReset_keep (State.canRejoin_keep (State.gnsPowerOn_keep h_self rfl) rfl) rfl) rfl) rfl)
  exact (Keeps.ite_keep h_self (Keeps.ite_keep (State.exitEnd_keep (State.when_keep (State.gnsPowerOn_keep h_self rfl) (fun x4_0 h_x4_0 => (State.canRejoin_keep h_x4_0 rfl))) rfl) (Keeps.ite_keep (State.exitEnd_keep (State.sramWake_keep h_s13 rfl) rfl) (State.exitEnd_keep (State.when_keep (State.sramClear_keep (State.modReset_keep h_self rfl) rfl) (fun x5_0 h_x5_0 => (State.storeLost_keep h_x5_0 rfl))) rfl))))

theorem execWakeExit_keep (src : BitVec 17) (pulses : Nat) (s : State) : KeepsOut 1073741823 s (execWakeExit src pulses s) := by
  have h_self : Keeps 1073741823 s s := Keeps.refl
  unfold execWakeExit
  exact (KeepsOut.next (State.pwrWake_keep (State.when_keep h_self (fun x1_0 h_x1_0 => (State.slept_keep h_x1_0 rfl))) rfl))

theorem State.pwrCmd_keep {mk : Nat} {sb s : State} (hk : Keeps mk sb s) (hmk : 1073741823 ||| mk = mk) {v : Nat} :
    Keeps mk sb (State.pwrCmd s v) := by
  refine Keeps.step hk ?_ hmk
  have h_self : Keeps 1073741823 s s := Keeps.refl
  unfold State.pwrCmd
  extract_lets -merge -useContext -underBinder +onlyGivenNames k1
  exact (Keeps.ite_keep (State.pwrWake_keep h_self rfl) (Keeps.ite_keep (State.pwrCancel_keep h_self rfl) (Keeps.ite_keep h_self (by
  split
  · exact (State.pwrRefuse_keep h_self rfl)
  · exact (State.put_keep (State.modPwr_keep h_self rfl) rfl)))))

theorem execPowerStateRequest_keep (k : Fin 8) (s : State) : KeepsOut 1073741823 s (execPowerStateRequest k s) := by
  have h_self : Keeps 1073741823 s s := Keeps.refl
  unfold execPowerStateRequest
  exact (KeepsOut.next (State.pwrCmd_keep h_self rfl))

end Sys2Proof.Machine
end

