-- ==== Sys2Proof/Laws/KeepTick.lean ====
section
/-! SUPPORT. What the functions of Machine/Tick.lean leave alone (see Laws/Keeps.lean). -/

namespace Sys2Proof.Machine

open Sys2Proof

theorem State.modFrm_keep {mk : Nat} {sb s : State} (hk : Keeps mk sb s) (hmk : 872415264 ||| mk = mk) {f : FrmState → FrmState} :
    Keeps mk sb (State.modFrm s f) := by
  refine Keeps.step hk ?_ hmk
  have h_self : Keeps 872415264 s s := Keeps.refl
  unfold State.modFrm
  exact (Keeps.frm_done_supOk_pend_keep h_self rfl)

theorem State.resultsHeld_keep {mk : Nat} {sb s0 : State} (hk : Keeps mk sb s0) (hmk : 872514592 ||| mk = mk) :
    Keeps mk sb (State.resultsHeld s0) := by
  refine Keeps.step hk ?_ hmk
  have h_self : Keeps 872514592 s0 s0 := Keeps.refl
  unfold State.resultsHeld
  extract_lets -merge -useContext -underBinder +onlyGivenNames hold1 mark2 s3
  have h_s3 : Keeps 872514592 s0 s3 := (State.modFrm_keep h_self rfl)
  exact (Keeps.ite_keep (State.modMd_keep (State.modAlc_keep (State.modEst_keep h_s3 rfl) rfl) rfl) h_s3)

theorem State.frameCount_keep {mk : Nat} {sb s : State} (hk : Keeps mk sb s) (hmk : 1 ||| mk = mk) :
    Keeps mk sb (State.frameCount s) := by
  refine Keeps.step hk ?_ hmk
  have h_self : Keeps 1 s s := Keeps.refl
  unfold State.frameCount
  extract_lets -merge -useContext -underBinder +onlyGivenNames u1 n2 s13
  have h_s13 : Keeps 1 s s13 := (State.when_keep h_self (fun x4_0 h_x4_0 => (State.putMax_keep (State.put_keep h_x4_0 rfl) rfl)))
  exact (Keeps.ite_keep (State.put_keep (State.put_keep h_s13 rfl) rfl) h_self)

theorem State.majorResults_keep {mk : Nat} {sb s : State} (hk : Keeps mk sb s) (hmk : 875269921 ||| mk = mk) :
    Keeps mk sb (State.majorResults s) := by
  refine Keeps.step hk ?_ hmk
  have h_self : Keeps 875269921 s s := Keeps.refl
  unfold State.majorResults
  extract_lets -merge -useContext -underBinder +onlyGivenNames s11
  have h_s11 : Keeps 875269921 s s11 := (State.when_keep h_self (fun x2_0 h_x2_0 => (State.mirrorTick_keep h_x2_0 rfl)))
  exact (State.alcMajor_keep (State.estMajor_keep (State.resultsHeld_keep (State.levelMajor_keep (State.sealMajor_keep h_s11 rfl) rfl) rfl) rfl) rfl)

theorem State.majorRest_keep {mk : Nat} {sb s : State} (hk : Keeps mk sb s) (hmk : 873228833 ||| mk = mk) :
    Keeps mk sb (State.majorRest s) := by
  refine Keeps.step hk ?_ hmk
  have h_self : Keeps 873228833 s s := Keeps.refl
  unfold State.majorRest
  extract_lets -merge -useContext -underBinder +onlyGivenNames s11 s22 s33
  have h_s11 : Keeps 873228833 s s11 := (State.hifLoad_keep (State.gnsMajor_keep (State.alnMajor_keep h_self rfl) rfl) rfl)
  have h_s22 : Keeps 873228833 s s22 := (State.put_keep (State.modFrm_keep (State.frameCount_keep h_s11 rfl) rfl) rfl)
  have h_s33 : Keeps 873228833 s s33 := (State.digestTick_keep (State.tickLatch_keep (State.roleTick_keep (State.sequencerStart_keep h_s22 rfl) rfl) rfl) rfl)
  exact (State.when_keep h_s33 (fun x4_0 h_x4_0 => (State.putBit_keep h_x4_0 rfl)))

theorem State.slowWork_keep {mk : Nat} {sb s : State} (hk : Keeps mk sb s) (hmk : 8927265 ||| mk = mk) {vb : Option Nat} :
    Keeps mk sb (State.slowWork vb s) := by
  refine Keeps.step hk ?_ hmk
  have h_self : Keeps 8927265 s s := Keeps.refl
  unfold State.slowWork
  extract_lets -merge -useContext -underBinder +onlyGivenNames s11
  have h_s11 : Keeps 8927265 s s11 := (State.recSlow_keep (State.healthForm_keep (State.gnsSlow_keep h_self rfl) rfl) rfl)
  exact (by
  split
  · exact (State.vbatCheck_keep h_s11 rfl)
  · exact h_s11)

theorem State.trigsDue_keep {mk : Nat} {sb s : State} (hk : Keeps mk sb s) (hmk : 2048 ||| mk = mk) :
    Keeps mk sb (State.trigsDue s) := by
  refine Keeps.step hk ?_ hmk
  have h_self : Keeps 2048 s s := Keeps.refl
  unfold State.trigsDue
  exact (State.modRec_keep h_self rfl)

theorem State.gridIndex_keep {mk : Nat} {sb s : State} (hk : Keeps mk sb s) (hmk : 1 ||| mk = mk) :
    Keeps mk sb (State.gridIndex s) := by
  refine Keeps.step hk ?_ hmk
  have h_self : Keeps 1 s s := Keeps.refl
  unfold State.gridIndex
  exact (State.put_keep (State.put_keep h_self rfl) rfl)

theorem State.tickHere_keep {mk : Nat} {sb s0 : State} (hk : Keeps mk sb s0) (hmk : 900726753 ||| mk = mk) {major slow : Bool} {vb : Option Nat} :
    Keeps mk sb (State.tickHere major slow vb s0) := by
  refine Keeps.step hk ?_ hmk
  have h_self : Keeps 900726753 s0 s0 := Keeps.refl
  unfold State.tickHere
  extract_lets -merge -useContext -underBinder +onlyGivenNames s11 s22 s33 s44 q5 q6 s57 s68 s79
  have h_s11 : Keeps 900726753 s0 s11 := (State.modFrm_keep (State.bankDone_keep (State.edgeKept_keep h_self rfl) rfl) rfl)
  have h_s22 : Keeps 900726753 s0 s22 := (State.sigTick_keep (State.applyFine_keep (State.gridIndex_keep h_s11 rfl) rfl) rfl)
  have h_s33 : Keeps 900726753 s0 s33 := (Keeps.ite_keep (State.alcTau_keep (State.majorRest_keep (State.applyMajor_keep (State.put_keep (State.majorResults_keep h_s22 rfl) rfl) rfl) rfl) rfl) (State.applyMinor_keep (State.put_keep h_s22 rfl) rfl))
  have h_s44 : Keeps 900726753 s0 s44 := (State.takePreset_keep (State.sealTick_keep (State.canTick_keep (State.prfTick_keep h_s33 rfl) rfl) rfl) rfl)
  have h_s57 : Keeps 900726753 s0 s57 := (Keeps.alc_red_twin_keep h_s44 rfl)
  have h_s68 : Keeps 900726753 s0 s68 := (State.calDone_keep (State.rtcFollow_keep (State.ptpTick_keep (State.holdLimit_keep (State.failback_keep (State.failback_keep (State.failover_keep (State.failover_keep (State.trigsDue_keep h_s57 rfl) rfl) rfl) rfl) rfl) rfl) rfl) rfl) rfl)
  have h_s79 : Keeps 900726753 s0 s79 := (State.when_keep h_s68 (fun x10_0 h_x10_0 => (State.slowWork_keep h_x10_0 rfl)))
  exact (State.when_keep h_s79 (fun x11_0 h_x11_0 => (State.snapTake_keep h_x11_0 rfl)))

theorem State.timeShift_keep {mk : Nat} {sb s : State} (hk : Keeps mk sb s) (hmk : 704960 ||| mk = mk) {d : Int} :
    Keeps mk sb (State.timeShift s d) := by
  refine Keeps.step hk ?_ hmk
  have h_self : Keeps 704960 s s := Keeps.refl
  unfold State.timeShift
  extract_lets -merge -useContext -underBinder +onlyGivenNames mv1 mvL2 q3 q4 q5 q6 q7 q8 q9 q10
  exact (Keeps.tim_eth_sig_hif_cle_prf_red_keep h_self rfl (by rfl) (by rfl))

theorem State.reanchor_keep {mk : Nat} {sb s : State} (hk : Keeps mk sb s) (hmk : 2081 ||| mk = mk) :
    Keeps mk sb (State.reanchor s) := by
  refine Keeps.step hk ?_ hmk
  have h_self : Keeps 2081 s s := Keeps.refl
  unfold State.reanchor
  extract_lets -merge -useContext -underBinder +onlyGivenNames gap1 s12 s23
  have h_s12 : Keeps 2081 s s12 := (State.putB_keep (State.put_keep (State.inc_keep h_self rfl) rfl) rfl)
  have h_s23 : Keeps 2081 s s23 := (State.putB_keep h_s12 rfl)
  exact (State.raise_keep (State.when_keep h_s23 (fun x4_0 h_x4_0 => (State.gridIndex_keep h_x4_0 rfl))) rfl)

theorem State.stepApply_keep {mk : Nat} {sb s0 : State} (hk : Keeps mk sb s0) (hmk : 170852321 ||| mk = mk) {d : Int} :
    Keeps mk sb (State.stepApply d s0) := by
  refine Keeps.step hk ?_ hmk
  have h_self : Keeps 170852321 s0 s0 := Keeps.refl
  unfold State.stepApply
  extract_lets -merge -useContext -underBinder +onlyGivenNames s1 old2 tot3 armed4 q5 s16 s27 s38 q9 s410
  have h_s1 : Keeps 170852321 s0 s1 := (State.when_keep h_self (fun x11_0 h_x11_0 => (State.internalPps_keep h_x11_0 rfl)))
  have h_s16 : Keeps 170852321 s0 s16 := (Keeps.tim_ctr_step_keep h_s1 rfl)
  have h_s27 : Keeps 170852321 s0 s27 := (State.put_keep (State.put_keep (State.put_keep h_s16 rfl) rfl) rfl)
  have h_s38 : Keeps 170852321 s0 s38 := (State.autotrimDrop_keep (State.timeShift_keep (State.sealStep_keep (State.canStep_keep (State.gnsStep_keep (State.estStep_keep (State.alnStep_keep (State.sigStep_keep h_s27 rfl) rfl) rfl) rfl) rfl) rfl) rfl) rfl)
  have h_s410 : Keeps 170852321 s0 s410 := (Keeps.ite_keep h_s38 (Keeps.rtc_keep h_s38 rfl))
  exact (State.fireAll_keep (State.reanchor_keep (State.raise_keep h_s410 rfl) rfl) rfl)

theorem State.stepIfDue_keep {mk : Nat} {sb s : State} (hk : Keeps mk sb s) (hmk : 170852321 ||| mk = mk) {slow : Bool} :
    Keeps mk sb (State.stepIfDue s slow) := by
  refine Keeps.step hk ?_ hmk
  have h_self : Keeps 170852321 s s := Keeps.refl
  unfold State.stepIfDue
  exact (by
  split
  · exact (State.when_keep h_self (fun x2_0 h_x2_0 => (State.stepApply_keep h_x2_0 rfl)))
  · exact h_self)

theorem State.tickAt_keep {mk : Nat} {sb s : State} (hk : Keeps mk sb s) (hmk : 1068498913 ||| mk = mk) {vb : Option Nat} {t : Nat} :
    Keeps mk sb (State.tickAt s vb t) := by
  refine Keeps.step hk ?_ hmk
  have h_self : Keeps 1068498913 s s := Keeps.refl
  unfold State.tickAt
  exact (State.stepIfDue_keep (State.tickHere_keep (State.runTo_keep (State.overSettle_keep h_self rfl) rfl) rfl) rfl)

theorem State.tick_keep {mk : Nat} {sb s : State} (hk : Keeps mk sb s) (hmk : 1068498913 ||| mk = mk) {vb : Option Nat} :
    Keeps mk sb (State.tick vb s) := by
  refine Keeps.step hk ?_ hmk
  have h_self : Keeps 1068498913 s s := Keeps.refl
  unfold State.tick
  exact (State.survive_keep (State.lanes_keep h_self rfl (fun x1_0 h_x1_0 => (State.tickAt_keep h_x1_0 rfl))) rfl)

theorem State.ticksTo_keep {mk : Nat} {sb s : State} (hk : Keeps mk sb s) (hmk : 1068498913 ||| mk = mk) {vb : Option Nat} {t : Nat} :
    Keeps mk sb (State.ticksTo vb t s) := by
  refine Keeps.step hk ?_ hmk
  have h_self : Keeps 1068498913 s s := Keeps.refl
  unfold State.ticksTo
  exact (Keeps.foldl_keep h_self (fun x1_0 _ h_x1_0 => (State.tick_keep h_x1_0 rfl)))

theorem execMinorTick_keep (s : State) : KeepsOut 1068498913 s (execMinorTick s) := by
  have h_self : Keeps 1068498913 s s := Keeps.refl
  unfold execMinorTick
  exact (KeepsOut.next (Keeps.ite_keep (State.tick_keep h_self rfl) h_self))

theorem execMajorTick_keep (s : State) : KeepsOut 1068498913 s (execMajorTick s) := by
  have h_self : Keeps 1068498913 s s := Keeps.refl
  unfold execMajorTick
  exact (KeepsOut.next (Keeps.ite_keep (State.ticksTo_keep h_self rfl) h_self))

theorem execSlowTick_keep (vbatMv : Fin 4096) (s : State) : KeepsOut 1068498913 s (execSlowTick vbatMv s) := by
  have h_self : Keeps 1068498913 s s := Keeps.refl
  unfold execSlowTick
  exact (KeepsOut.next (Keeps.ite_keep (State.ticksTo_keep h_self rfl) h_self))

theorem execTimeStep_keep (s : State) : KeepsOut 1068498913 s (execTimeStep s) := by
  have h_self : Keeps 1068498913 s s := Keeps.refl
  unfold execTimeStep
  exact (KeepsOut.next (by
  split
  · exact (Keeps.ite_keep (State.ticksTo_keep h_self rfl) h_self)
  · exact h_self))

theorem State.counterLoad_keep {mk : Nat} {sb s : State} (hk : Keeps mk sb s) (hmk : 934281185 ||| mk = mk) :
    Keeps mk sb (State.counterLoad s) := by
  refine Keeps.step hk ?_ hmk
  have h_self : Keeps 934281185 s s := Keeps.refl
  unfold State.counterLoad
  extract_lets -merge -useContext -underBinder +onlyGivenNames ok1 n2 c3 q4 s15 slow6 q7 s28
  have h_s15 : Keeps 934281185 s s15 := (State.putB_keep (State.put_keep (Keeps.tim_ctr_keep h_self rfl (by rfl)) rfl) rfl)
  have h_s28 : Keeps 934281185 s s28 := (Keeps.rtc_keep h_s15 rfl)
  exact (State.when_keep h_s28 (fun x9_0 h_x9_0 => (State.tickHere_keep h_x9_0 rfl)))

theorem execTimeCounterLoad_keep (s : State) : KeepsOut 934281185 s (execTimeCounterLoad s) := by
  have h_self : Keeps 934281185 s s := Keeps.refl
  unfold execTimeCounterLoad
  exact (KeepsOut.next (Keeps.ite_keep h_self (State.counterLoad_keep h_self rfl)))

end Sys2Proof.Machine
end

