-- ==== Sys2Proof/Laws/KeepHostAccess.lean ====
section
/-! SUPPORT. What the functions of Machine/HostAccess.lean leave alone (see Laws/Keeps.lean). -/

namespace Sys2Proof.Machine

open Sys2Proof

theorem State.clearRc_keep {mk : Nat} {sb s : State} (hk : Keeps mk sb s) (hmk : 1 ||| mk = mk) {off : Nat} :
    Keeps mk sb (State.clearRc s off) := by
  refine Keeps.step hk ?_ hmk
  have h_self : Keeps 1 s s := Keeps.refl
  unfold State.clearRc
  extract_lets -merge -useContext -underBinder +onlyGivenNames m1
  exact (Keeps.ite_keep h_self (State.setWord_keep h_self rfl))

theorem State.plainRead_keep {mk : Nat} {sb s : State} (hk : Keeps mk sb s) (hmk : 7 ||| mk = mk) {port off : Nat} :
    Keeps mk sb (State.plainRead s port off) := by
  refine Keeps.step hk ?_ hmk
  have h_self : Keeps 7 s s := Keeps.refl
  unfold State.plainRead
  extract_lets -merge -useContext -underBinder +onlyGivenNames v1 n2 s13 q4
  have h_s13 : Keeps 7 s s13 := (State.when_keep h_self (fun x5_0 h_x5_0 => (State.latch_keep h_x5_0 rfl)))
  have h_q4 : Keeps 7 s q4 := (State.clearRc_keep h_s13 rfl)
  exact (Keeps.hostData_keep h_q4 rfl)

theorem State.statRead_keep {mk : Nat} {sb s : State} (hk : Keeps mk sb s) (hmk : 7 ||| mk = mk) {port off : Nat} :
    Keeps mk sb (State.statRead s port off) := by
  refine Keeps.step hk ?_ hmk
  have h_self : Keeps 7 s s := Keeps.refl
  unfold State.statRead
  extract_lets -merge -useContext -underBinder +onlyGivenNames s11
  have h_s11 : Keeps 7 s s11 := (State.plainRead_keep h_self rfl)
  exact (Keeps.shadow_keep h_s11 rfl)

theorem State.readMapped_keep {mk : Nat} {sb s : State} (hk : Keeps mk sb s) (hmk : 264295 ||| mk = mk) {port off : Nat} :
    Keeps mk sb (State.readMapped s port off) := by
  refine Keeps.step hk ?_ hmk
  have h_self : Keeps 264295 s s := Keeps.refl
  unfold State.readMapped
  exact (by
  split
  · exact (Keeps.ite_keep (State.nowRead_keep h_self rfl) (Keeps.ite_keep (State.capRead_keep h_self rfl) (State.plainRead_keep h_self rfl)))
  · exact (Keeps.ite_keep (State.valRead_keep h_self rfl) (Keeps.ite_keep (State.statRead_keep h_self rfl) (State.plainRead_keep h_self rfl)))
  · extract_lets -merge -useContext -underBinder +onlyGivenNames n4 w5 window6
    exact (Keeps.ite_keep (Keeps.ite_keep (State.canLockRead_keep h_self rfl) (Keeps.ite_keep (State.canReleaseRead_keep h_self rfl) (State.plainRead_keep h_self rfl))) (State.plainRead_keep h_self rfl))
  · exact (Keeps.ite_keep (State.semRead_keep h_self rfl) (State.plainRead_keep h_self rfl))
  · exact (Keeps.ite_keep (State.logWinRead_keep h_self rfl) (Keeps.ite_keep (State.plainRead_keep (State.when_keep h_self (fun x9_0 h_x9_0 => (State.ssErr_keep h_x9_0 rfl))) rfl) (State.plainRead_keep h_self rfl)))
  · exact (Keeps.ite_keep (Keeps.hostData_keep h_self rfl) (Keeps.ite_keep (State.fracRead_keep h_self rfl) (State.plainRead_keep h_self rfl)))
  · exact (State.plainRead_keep h_self rfl))

theorem State.read32_keep {mk : Nat} {sb s : State} (hk : Keeps mk sb s) (hmk : 264295 ||| mk = mk) {port off : Nat} :
    Keeps mk sb (State.read32 s port off) := by
  refine Keeps.step hk ?_ hmk
  have h_self : Keeps 264295 s s := Keeps.refl
  unfold State.read32
  extract_lets -merge -useContext -underBinder +onlyGivenNames q1
  have h_q1 : Keeps 264295 s q1 := (State.accErr_keep h_self rfl)
  exact (Keeps.ite_keep (State.readMapped_keep h_self rfl) (Keeps.hostData_keep h_q1 rfl))

theorem State.hostRead_keep {mk : Nat} {sb s : State} (hk : Keeps mk sb s) (hmk : 264295 ||| mk = mk) {port off size : Nat} :
    Keeps mk sb (State.hostRead s port off size) := by
  refine Keeps.step hk ?_ hmk
  have h_self : Keeps 264295 s s := Keeps.refl
  unfold State.hostRead
  extract_lets -merge -useContext -underBinder +onlyGivenNames q1 s12 s23
  have h_q1 : Keeps 264295 s q1 := (State.accErr_keep h_self rfl)
  have h_s12 : Keeps 264295 s s12 := (State.read32_keep h_self rfl)
  have h_s23 : Keeps 264295 s s23 := (State.read32_keep h_s12 rfl)
  exact (Keeps.ite_keep (Keeps.hostData_keep h_q1 rfl) (Keeps.ite_keep (State.read32_keep h_self rfl) (Keeps.hostData_keep h_s23 rfl)))

theorem State.plain_keep {mk : Nat} {sb s : State} (hk : Keeps mk sb s) (hmk : 1 ||| mk = mk) {off v : Nat} :
    Keeps mk sb (State.plain s off v) := by
  refine Keeps.step hk ?_ hmk
  have h_self : Keeps 1 s s := Keeps.refl
  unfold State.plain
  exact (State.clearW1c_keep (State.setWord_keep h_self rfl) rfl)

theorem State.writeFrm_keep {mk : Nat} {sb s : State} (hk : Keeps mk sb s) (hmk : 33 ||| mk = mk) {off v : Nat} :
    Keeps mk sb (State.writeFrm s off v) := by
  refine Keeps.step hk ?_ hmk
  have h_self : Keeps 33 s s := Keeps.refl
  unfold State.writeFrm
  exact (Keeps.ite_keep (State.when_keep (State.frmHold_keep h_self rfl) (fun x1_0 h_x1_0 => (State.frmStart_keep h_x1_0 rfl))) h_self)

theorem State.writeTim_keep {mk : Nat} {sb s : State} (hk : Keeps mk sb s) (hmk : 167778913 ||| mk = mk) {off v : Nat} :
    Keeps mk sb (State.writeTim s off v) := by
  refine Keeps.step hk ?_ hmk
  have h_self : Keeps 167778913 s s := Keeps.refl
  unfold State.writeTim
  extract_lets -merge -useContext -underBinder +onlyGivenNames c1 armed2
  exact (Keeps.ite_keep (State.writeDisc_keep h_self rfl) (Keeps.ite_keep (State.writeManIncr_keep h_self rfl) (Keeps.ite_keep (State.when_keep h_self (fun x3_0 h_x3_0 => (State.stepGo_keep h_x3_0 rfl))) (Keeps.ite_keep (by
  split
  · exact (State.when_keep (State.plain_keep h_self rfl) (fun x5_0 h_x5_0 => (State.arm_keep h_x5_0 rfl)))
  · exact (Keeps.ite_keep h_self (State.plain_keep h_self rfl))
  · exact (Keeps.ite_keep h_self (State.plain_keep h_self rfl))
  · exact (State.plain_keep h_self rfl)) (State.plain_keep h_self rfl)))))

theorem State.writeEth_keep {mk : Nat} {sb s : State} (hk : Keeps mk sb s) (hmk : 6369 ||| mk = mk) {off v : Nat} :
    Keeps mk sb (State.writeEth s off v) := by
  refine Keeps.step hk ?_ hmk
  have h_self : Keeps 6369 s s := Keeps.refl
  unfold State.writeEth
  exact (Keeps.ite_keep (by
  split
  · exact (Keeps.ite_keep h_self (State.plain_keep h_self rfl))
  · exact (Keeps.ite_keep h_self (State.plain_keep h_self rfl))
  · exact (State.ptpEval_keep (State.plain_keep h_self rfl) rfl)
  · exact (State.ptpEval_keep (State.plain_keep h_self rfl) rfl)
  · exact (State.ptpEval_keep (State.plain_keep h_self rfl) rfl)
  · exact (State.plain_keep h_self rfl)) (Keeps.ite_keep (State.ptpEval_keep (State.plain_keep h_self rfl) rfl) (Keeps.ite_keep (State.grpWritten_keep (State.plain_keep h_self rfl) rfl) (State.plain_keep h_self rfl))))

theorem State.writeCan_keep {mk : Nat} {sb s : State} (hk : Keeps mk sb s) (hmk : 262145 ||| mk = mk) {port off v : Nat} :
    Keeps mk sb (State.writeCan s port off v) := by
  refine Keeps.step hk ?_ hmk
  have h_self : Keeps 262145 s s := Keeps.refl
  unfold State.writeCan
  extract_lets -merge -useContext -underBinder +onlyGivenNames n1 r2
  exact (Keeps.ite_keep (Keeps.ite_keep (State.canCtrlWrite_keep h_self rfl) (Keeps.ite_keep (Keeps.ite_keep (State.plain_keep h_self rfl) (State.canCfgErr_keep h_self rfl)) (Keeps.ite_keep (State.canCmd_keep h_self rfl) (Keeps.ite_keep (State.canTxReq_keep h_self rfl) (Keeps.ite_keep (State.canCancel_keep h_self rfl) (State.plain_keep h_self rfl)))))) (Keeps.ite_keep (State.canMramWrite_keep h_self rfl) (State.plain_keep h_self rfl)))

theorem State.writeHif_keep {mk : Nat} {sb s : State} (hk : Keeps mk sb s) (hmk : 16385 ||| mk = mk) {port off v : Nat} :
    Keeps mk sb (State.writeHif s port off v) := by
  refine Keeps.step hk ?_ hmk
  have h_self : Keeps 16385 s s := Keeps.refl
  unfold State.writeHif
  extract_lets -merge -useContext -underBinder +onlyGivenNames p1 q2 p3
  exact (Keeps.ite_keep (by
  split
  · exact (State.ringBaseWrite_keep h_self rfl)
  · exact (State.ringBaseWrite_keep h_self rfl)
  · exact (State.ringCfgWrite_keep h_self rfl)
  · exact (State.plain_keep h_self rfl)) (Keeps.ite_keep (State.semWrite_keep h_self rfl) (Keeps.ite_keep (State.msixSettle_keep (State.when_keep (State.plain_keep h_self rfl) (fun x8_0 h_x8_0 => (State.msixAgain_keep h_x8_0 rfl))) rfl) (State.plain_keep h_self rfl))))

theorem State.writeSec_keep {mk : Nat} {sb s : State} (hk : Keeps mk sb s) (hmk : 6293545 ||| mk = mk) {port off v : Nat} :
    Keeps mk sb (State.writeSec s port off v) := by
  refine Keeps.step hk ?_ hmk
  have h_self : Keeps 6293545 s s := Keeps.refl
  unfold State.writeSec
  exact (by
  split
  · exact (State.when_keep h_self (fun x2_0 h_x2_0 => (State.lcCommand_keep h_x2_0 rfl)))
  · exact (State.fwCtrl_keep h_self rfl)
  · exact (State.fwCmd_keep h_self rfl)
  · exact (Keeps.ite_keep (State.plain_keep h_self rfl) (State.ssErr_keep h_self rfl))
  · exact (State.when_keep (State.when_keep h_self (fun x8_0 h_x8_0 => (State.ssWrite_keep h_x8_0 rfl))) (fun x7_0 h_x7_0 => (State.ssErase_keep h_x7_0 rfl)))
  · exact (State.when_keep h_self (fun x10_0 h_x10_0 => (State.attGo_keep h_x10_0 rfl)))
  · exact (State.when_keep h_self (fun x12_0 h_x12_0 => (State.mrHost_keep h_x12_0 rfl)))
  · exact (State.sealCmd_keep h_self rfl)
  · exact (State.modSeal_keep h_self rfl)
  · exact (State.sealIdle_keep (State.plain_keep h_self rfl) rfl)
  · exact (Keeps.ite_keep (State.modSeal_keep h_self rfl) (Keeps.ite_keep (State.modSec_keep h_self rfl) (Keeps.ite_keep (State.ssStage_keep h_self rfl) (Keeps.ite_keep (State.fwWin_keep h_self rfl) (State.plain_keep h_self rfl))))))

theorem State.writeRtc_keep {mk : Nat} {sb s : State} (hk : Keeps mk sb s) (hmk : 6177 ||| mk = mk) {off v : Nat} :
    Keeps mk sb (State.writeRtc s off v) := by
  refine Keeps.step hk ?_ hmk
  have h_self : Keeps 6177 s s := Keeps.refl
  unfold State.writeRtc
  exact (by
  split
  · exact (State.countWrite_keep h_self rfl)
  · exact (State.countWrite_keep h_self rfl)
  · exact (State.countWrite_keep h_self rfl)
  · exact (State.haltWrite_keep (State.plain_keep h_self rfl) rfl)
  · exact (State.trimWrite_keep h_self rfl)
  · exact (State.rtcFollow_keep (State.leapErr_keep (State.plain_keep h_self rfl) rfl) rfl)
  · exact (State.rtcFollow_keep (State.leapErr_keep (State.plain_keep h_self rfl) rfl) rfl)
  · exact (State.rtcFollow_keep (State.leapErr_keep (State.plain_keep h_self rfl) rfl) rfl)
  · exact (State.rtcFollow_keep (State.leapErr_keep (State.plain_keep h_self rfl) rfl) rfl)
  · exact (State.calCmd_keep h_self rfl)
  · exact (State.pwrEnUp_keep (State.plain_keep h_self rfl) rfl)
  · exact (State.plain_keep h_self rfl))

theorem State.writeNow_keep {mk : Nat} {sb s : State} (hk : Keeps mk sb s) (hmk : 1073741823 ||| mk = mk) {port off v : Nat} :
    Keeps mk sb (State.writeNow s port off v) := by
  refine Keeps.step hk ?_ hmk
  have h_self : Keeps 1073741823 s s := Keeps.refl
  unfold State.writeNow
  exact (by
  split
  · exact (State.writeFrm_keep h_self rfl)
  · exact (State.writeTim_keep h_self rfl)
  · exact (State.writeCan_keep h_self rfl)
  · exact (State.writeEth_keep h_self rfl)
  · exact (Keeps.ite_keep (State.safReset_keep h_self rfl) (Keeps.ite_keep (State.safConnRst_keep h_self rfl) (State.plain_keep h_self rfl)))
  · exact (Keeps.ite_keep (State.redCfgWrite_keep h_self rfl) (Keeps.ite_keep (State.redCmd_keep h_self rfl) (State.plain_keep h_self rfl)))
  · exact (Keeps.ite_keep (State.recCmd_keep h_self rfl) (State.plain_keep h_self rfl))
  · exact (State.writeHif_keep h_self rfl)
  · exact (State.writeSec_keep h_self rfl)
  · exact (State.writeRtc_keep h_self rfl)
  · exact (Keeps.ite_keep (State.pwrCmd_keep h_self rfl) (Keeps.ite_keep (State.pwrRst_keep h_self rfl) (State.plain_keep h_self rfl)))
  · exact (State.plain_keep h_self rfl))

theorem State.writePend_keep {mk : Nat} {sb s : State} (hk : Keeps mk sb s) (hmk : 536880161 ||| mk = mk) {port off v : Nat} :
    Keeps mk sb (State.writePend s port off v) := by
  refine Keeps.step hk ?_ hmk
  have h_self : Keeps 536880161 s s := Keeps.refl
  unfold State.writePend
  extract_lets -merge -useContext -underBinder +onlyGivenNames q1 pended2 q3
  have h_pended2 : Keeps 536880161 s pended2 := (Keeps.frm_pend_keep h_self rfl (by rfl) (by rfl))
  exact (Keeps.ite_keep (Keeps.ite_keep h_self (Keeps.ite_keep (State.put_keep (Keeps.frm_pend_keep h_self rfl (by rfl) (by rfl)) rfl) h_pended2)) (Keeps.ite_keep (Keeps.ite_keep h_self (State.originWrite_keep h_self rfl)) (Keeps.ite_keep (State.originWrite_keep h_self rfl) (Keeps.ite_keep (State.put_keep h_self rfl) (Keeps.ite_keep h_self (Keeps.ite_keep h_self (Keeps.ite_keep (State.gnsEnable_keep h_pended2 rfl) h_pended2)))))))

theorem State.writeFields_keep {mk : Nat} {sb s : State} (hk : Keeps mk sb s) (hmk : 1073741823 ||| mk = mk) {port off v : Nat} :
    Keeps mk sb (State.writeFields s port off v) := by
  refine Keeps.step hk ?_ hmk
  have h_self : Keeps 1073741823 s s := Keeps.refl
  unfold State.writeFields
  exact (by
  split
  · exact (State.writeNow_keep h_self rfl)
  · exact (Keeps.ite_keep (State.when_keep h_self (fun x3_0 h_x3_0 => (State.writePend_keep h_x3_0 rfl))) (State.when_keep (State.clearW1c_keep h_self rfl) (fun x4_0 h_x4_0 => (State.writePend_keep h_x4_0 rfl)))))

theorem State.dropShadow_keep {mk : Nat} {sb s : State} (hk : Keeps mk sb s) (hmk : 2 ||| mk = mk) {off : Nat} :
    Keeps mk sb (State.dropShadow s off) := by
  refine Keeps.step hk ?_ hmk
  have h_self : Keeps 2 s s := Keeps.refl
  unfold State.dropShadow
  exact (State.when_keep h_self (fun x1_0 h_x1_0 => (Keeps.shadow_keep h_x1_0 rfl)))

theorem State.write32_keep {mk : Nat} {sb s : State} (hk : Keeps mk sb s) (hmk : 1073741823 ||| mk = mk) {port off v : Nat} :
    Keeps mk sb (State.write32 s port off v) := by
  refine Keeps.step hk ?_ hmk
  have h_self : Keeps 1073741823 s s := Keeps.refl
  unfold State.write32
  exact (Keeps.ite_keep (State.put_keep h_self rfl) (by
  split
  · exact (State.writeFields_keep (State.when_keep (State.dropShadow_keep h_self rfl) (fun x2_0 h_x2_0 => (State.rwsWrite_keep h_x2_0 rfl))) rfl)
  · extract_lets -merge -useContext -underBinder +onlyGivenNames s14
    have h_s14 : Keeps 1073741823 s s14 := (State.accErr_keep h_self rfl)
    exact (Keeps.ite_keep (State.when_keep h_s14 (fun x5_0 h_x5_0 => (State.writeFields_keep h_x5_0 rfl))) (Keeps.ite_keep (State.plain_keep h_s14 rfl) h_s14))))

theorem State.hostWrite_keep {mk : Nat} {sb s : State} (hk : Keeps mk sb s) (hmk : 1073741823 ||| mk = mk) {port off size v : Nat} :
    Keeps mk sb (State.hostWrite s port off size v) := by
  refine Keeps.step hk ?_ hmk
  have h_self : Keeps 1073741823 s s := Keeps.refl
  unfold State.hostWrite
  exact (Keeps.ite_keep (State.accErr_keep h_self rfl) (Keeps.ite_keep (State.write32_keep h_self rfl) (State.write32_keep (State.write32_keep h_self rfl) rfl)))

theorem execHostRegisterWrite_keep (port : Fin 2) (off : BitVec 26) (size : Fin 9) (data : BitVec 64) (s : State) : KeepsOut 1073741823 s (execHostRegisterWrite port off size data s) := by
  have h_self : Keeps 1073741823 s s := Keeps.refl
  unfold execHostRegisterWrite
  exact (KeepsOut.next (Keeps.ite_keep (State.lanes_keep (State.lanes_keep h_self rfl (fun x2_0 h_x2_0 => (State.hostWrite_keep h_x2_0 rfl))) rfl (fun x1_0 h_x1_0 => (State.hostWrite_keep h_x1_0 rfl))) (State.lanes_keep h_self rfl (fun x3_0 h_x3_0 => (State.hostWrite_keep h_x3_0 rfl)))))

theorem State.laneRead_keep {mk : Nat} {sb s : State} (hk : Keeps mk sb s) (hmk : 17041511 ||| mk = mk) {port off size : Nat} :
    Keeps mk sb (State.laneRead s port off size) := by
  refine Keeps.step hk ?_ hmk
  have h_self : Keeps 17041511 s s := Keeps.refl
  unfold State.laneRead
  extract_lets -merge -useContext -underBinder +onlyGivenNames a1 b2
  have h_a1 : Keeps 17041511 s a1 := (State.lanes_keep h_self rfl (fun x3_0 h_x3_0 => (State.hostRead_keep h_x3_0 rfl)))
  have h_b2 : Keeps 17041511 s b2 := (State.lanes_keep h_a1 rfl (fun x4_0 h_x4_0 => (State.hostRead_keep h_x4_0 rfl)))
  exact (Keeps.ite_keep (Keeps.hostData_keep h_b2 rfl) (State.lanes_keep h_self rfl (fun x5_0 h_x5_0 => (State.hostRead_keep h_x5_0 rfl))))

theorem execHostReadUnmapped_keep (port : Fin 2) (bells : Bool) (off : BitVec 26) (size : Fin 9) (s : State) : KeepsOut 17041511 s (execHostReadUnmapped port bells off size s) := by
  have h_self : Keeps 17041511 s s := Keeps.refl
  unfold execHostReadUnmapped
  exact (KeepsOut.next (Keeps.ite_keep (State.bellRead_keep h_self rfl) (State.laneRead_keep h_self rfl)))

theorem execReadClear_keep (port : Fin 2) (off : BitVec 26) (s : State) : KeepsOut 17041511 s (execReadClear port off s) := by
  have h_self : Keeps 17041511 s s := Keeps.refl
  unfold execReadClear
  exact (KeepsOut.next (State.laneRead_keep h_self rfl))

theorem execShadowLatchRead_keep (port : Fin 2) (off : BitVec 26) (s : State) : KeepsOut 17041511 s (execShadowLatchRead port off s) := by
  have h_self : Keeps 17041511 s s := Keeps.refl
  unfold execShadowLatchRead
  exact (KeepsOut.next (State.laneRead_keep h_self rfl))

end Sys2Proof.Machine
end

