-- ==== Sys2Proof/Laws/KeepRings.lean ====
section
/-! SUPPORT. What the functions of Machine/Rings.lean leave alone (see Laws/Keeps.lean). -/

namespace Sys2Proof.Machine

open Sys2Proof

theorem State.recSnap_keep {mk : Nat} {sb s0 : State} (hk : Keeps mk sb s0) (hmk : 2081 ||| mk = mk) {p : Trig → Bool} :
    Keeps mk sb (State.recSnap s0 p) := by
  refine Keeps.step hk ?_ hmk
  have h_self : Keeps 2081 s0 s0 := Keeps.refl
  unfold State.recSnap
  extract_lets -merge -useContext -underBinder +onlyGivenNames ts1 s2
  have h_s2 : Keeps 2081 s0 s2 := (State.modRec_keep h_self rfl)
  exact (State.each_keep h_s2 (fun x3_0 _ h_x3_0 => (State.recForm_keep h_x3_0 rfl)))

theorem State.recorderSnapshot_keep {mk : Nat} {sb s : State} (hk : Keeps mk sb s) (hmk : 33560673 ||| mk = mk) :
    Keeps mk sb (State.recorderSnapshot s) := by
  refine Keeps.step hk ?_ hmk
  have h_self : Keeps 33560673 s s := Keeps.refl
  unfold State.recorderSnapshot
  exact (by
  split
  · exact h_self
  · extract_lets -merge -useContext -underBinder +onlyGivenNames e3 s14 s15
    have h_s14 : Keeps 33560673 s s14 := (State.runInside_keep h_self rfl)
    have h_s15 : Keeps 33560673 s s15 := (State.runInside_keep h_self rfl)
    exact (Keeps.ite_keep h_self (Keeps.ite_keep (Keeps.ite_keep h_s14 (State.recSnap_keep h_s14 rfl)) (State.recSnap_keep h_s15 rfl))))

theorem execRecorderSnapshot_keep (s : State) : KeepsOut 33560673 s (execRecorderSnapshot s) := by
  have h_self : Keeps 33560673 s s := Keeps.refl
  unfold execRecorderSnapshot
  exact (KeepsOut.next (State.recorderSnapshot_keep h_self rfl))

theorem State.pairWrite_keep {mk : Nat} {sb s : State} (hk : Keeps mk sb s) (hmk : 1073741823 ||| mk = mk) {p : Nat} {all rest : List (Nat × Nat)} {x : Nat × Nat} :
    Keeps mk sb (State.pairWrite s p all rest x) := by
  refine Keeps.step hk ?_ hmk
  have h_self : Keeps 1073741823 s s := Keeps.refl
  unfold State.pairWrite
  extract_lets -merge -useContext -underBinder +onlyGivenNames both1
  exact (Keeps.ite_keep h_self (State.hostWrite_keep (State.when_keep h_self (fun x2_0 h_x2_0 => (State.canCfgErr_keep h_x2_0 rfl))) rfl))

theorem State.pairsWrite_keep {mk : Nat} {sb s : State} (h : Keeps mk sb s) (hm : 1073741823 ||| mk = mk) {p : Nat} {all l : List (Nat × Nat)} {n : Nat} :
    Keeps mk sb (State.pairsWrite s p all l n).1 := by
  induction l generalizing s n with
  | nil => exact h
  | cons x t ih => exact ih (State.pairWrite_keep h (Keeps.sub hm rfl))

theorem State.regWrite_keep {mk : Nat} {sb s : State} (hk : Keeps mk sb s) (hmk : 1073741823 ||| mk = mk) {p q : Nat} :
    Keeps mk sb (State.regWrite s p q) := by
  refine Keeps.step hk ?_ hmk
  have h_self : Keeps 1073741823 s s := Keeps.refl
  unfold State.regWrite
  exact (State.startOp_keep h_self rfl (fun x1_0 _ _ h_x1_0 => by
    extract_lets -merge -useContext -underBinder +onlyGivenNames n2 r3
    have h_r3 : Keeps 1073741823 s r3.1 := Keeps.proj (State.pairsWrite_keep h_x1_0 rfl) rfl
    exact (Keeps.ite_keep (State.badParam_keep h_x1_0 rfl) (State.descDone_keep h_r3 rfl))))

theorem execRegWrite_keep (p : Fin 2) (q : Fin 16) (s : State) : KeepsOut 1073741823 s (execRegWrite p q s) := by
  have h_self : Keeps 1073741823 s s := Keeps.refl
  unfold execRegWrite
  exact (KeepsOut.next (State.lanes_keep h_self rfl (fun x1_0 h_x1_0 => (State.regWrite_keep h_x1_0 rfl))))

theorem State.wordsRead_keep {mk : Nat} {sb s : State} (h : Keeps mk sb s) (hm : 264295 ||| mk = mk) {p : Nat} {l vs : List Nat} {bad : Bool} :
    Keeps mk sb (State.wordsRead s p l vs bad).1 := by
  induction l generalizing s vs bad with
  | nil => exact h
  | cons o t ih =>
    unfold State.wordsRead
    exact Keeps.ite_fst (ih h) (ih (State.hostRead_keep h hm))

theorem State.descReads_keep {mk : Nat} {sb s : State} (hk : Keeps mk sb s) (hmk : 264295 ||| mk = mk) {p : Nat} {d : Desc} :
    Keeps mk sb (State.descReads s p d).1 := by
  refine Keeps.step hk ?_ hmk
  have h_self : Keeps 264295 s s := Keeps.refl
  unfold State.descReads
  extract_lets -merge -useContext -underBinder +onlyGivenNames r1 q2
  have h_r1 : Keeps 264295 s r1.1 := Keeps.proj (State.wordsRead_keep h_self rfl) rfl
  have h_q2 : Keeps 264295 s q2 := h_r1
  exact (Keeps.mk_fst (Keeps.hostData_keep h_q2 rfl))

theorem State.regRead_keep {mk : Nat} {sb s : State} (hk : Keeps mk sb s) (hmk : 280687 ||| mk = mk) {p q : Nat} :
    Keeps mk sb (State.regRead s p q) := by
  refine Keeps.step hk ?_ hmk
  have h_self : Keeps 280687 s s := Keeps.refl
  unfold State.regRead
  exact (State.startOp_keep h_self rfl (fun x1_0 _ _ h_x1_0 => by
    extract_lets -merge -useContext -underBinder +onlyGivenNames r2
    have h_r2 : Keeps 280687 s r2.1 := Keeps.proj (State.descReads_keep h_x1_0 rfl) rfl
    exact (Keeps.ite_keep (State.badParam_keep h_x1_0 rfl) (State.descDone_keep (State.hostMem_keep h_r2 rfl) rfl))))

theorem execRegRead_keep (p : Fin 2) (q : Fin 16) (s : State) : KeepsOut 17057903 s (execRegRead p q s) := by
  have h_self : Keeps 17057903 s s := Keeps.refl
  unfold execRegRead
  exact (KeepsOut.next (State.lanes_keep h_self rfl (fun x1_0 h_x1_0 => (State.regRead_keep h_x1_0 rfl))))

theorem State.dmaFail_keep {mk : Nat} {sb s : State} (hk : Keeps mk sb s) (hmk : 18473 ||| mk = mk) {p q i : Nat} :
    Keeps mk sb (State.dmaFail s p q i) := by
  refine Keeps.step hk ?_ hmk
  have h_self : Keeps 18473 s s := Keeps.refl
  unfold State.dmaFail
  extract_lets -merge -useContext -underBinder +onlyGivenNames fr1
  have h_fr1 : Keeps 18473 s fr1.1 := Keeps.proj (State.freeRes_keep h_self rfl) rfl
  exact (State.raiseMajor_keep (State.put_keep (State.descDone_keep h_fr1 rfl) rfl) rfl)

theorem State.dmaError_keep {mk : Nat} {sb s : State} (hk : Keeps mk sb s) (hmk : 280687 ||| mk = mk) {p q : Nat} :
    Keeps mk sb (State.dmaError s p q) := by
  refine Keeps.step hk ?_ hmk
  have h_self : Keeps 280687 s s := Keeps.refl
  unfold State.dmaError
  exact (Keeps.ite_keep (by
  split
  · exact (State.dmaFail_keep (Keeps.ite_keep (State.descReads_keep h_self rfl) h_self) rfl)
  · exact (by
    split
    · exact (State.dmaFail_keep h_self rfl)
    · exact h_self)) (by
  split
  · exact (State.dmaFail_keep h_self rfl)
  · exact h_self))

theorem execDmaError_keep (p : Fin 2) (q : Fin 16) (s : State) : KeepsOut 280687 s (execDmaError p q s) := by
  have h_self : Keeps 280687 s s := Keeps.refl
  unfold execDmaError
  exact (KeepsOut.next (State.dmaError_keep h_self rfl))

end Sys2Proof.Machine
end

