-- ==== Sys2Proof/Laws/Lanes.lean ====
section
/-! SUPPORT. What a command in both lanes does to each part of the state: outside `twin` it is what it does in Lane A (R470). -/

namespace Sys2Proof.Machine

open Sys2Proof

/-- With one state for both lanes, a command acts once. -/
theorem State.lanes_of_none {s : State} (f : State → State) (h : s.twin = none) : s.lanes f = f s := by
  rw [State.lanes, h]
/-- Outside `twin`, a command in both lanes does what it does in Lane A. -/
theorem State.lanesBy_eq (f g : State → State) (s : State) : State.lanesBy f g s = { f s with twin := (State.lanesBy f g s).twin } := by
  unfold State.lanesBy State.setTwin
  split
  · rfl
  · dsimp only
    split <;> rfl
/-- Outside `twin`, a command in both lanes does what it does in Lane A. -/
theorem State.lanes_eq (f : State → State) (s : State) : s.lanes f = { f s with twin := (s.lanes f).twin } := by
  unfold State.lanes
  split
  · rfl
  · exact State.lanesBy_eq f f s
/-- What Lane B holds is listed only while it differs. -/
theorem State.setTwin_twin (s : State) (c : LaneCopy) : (s.setTwin c).twin = if c = s.laneCopy then none else some c := rfl
/-- A lane's own view has no second lane. -/
@[simp] theorem State.asLane_twin (s : State) (c : LaneCopy) : (s.asLane c).twin = none := rfl
/-- With two lanes in the state, a surviving lane does not replace them. -/
theorem State.survive_of_dual {s : State} (h : s.dualLane = true) : s.survive = s := by
  unfold State.survive
  split
  · rfl
  · rw [if_pos h]

@[simp] theorem State.lanes_regs (f : State → State) (s : State) : (s.lanes f).regs = (f s).regs := by rw [State.lanes_eq]
@[simp] theorem State.lanes_shadow (f : State → State) (s : State) : (s.lanes f).shadow = (f s).shadow := by rw [State.lanes_eq]
@[simp] theorem State.lanes_hostData (f : State → State) (s : State) : (s.lanes f).hostData = (f s).hostData := by rw [State.lanes_eq]
@[simp] theorem State.lanes_freeCtr (f : State → State) (s : State) : (s.lanes f).freeCtr = (f s).freeCtr := by rw [State.lanes_eq]
@[simp] theorem State.lanes_pending (f : State → State) (s : State) : (s.lanes f).pending = (f s).pending := by rw [State.lanes_eq]
@[simp] theorem State.lanes_frm (f : State → State) (s : State) : (s.lanes f).frm = (f s).frm := by rw [State.lanes_eq]
@[simp] theorem State.lanes_tim (f : State → State) (s : State) : (s.lanes f).tim = (f s).tim := by rw [State.lanes_eq]
@[simp] theorem State.lanes_eth (f : State → State) (s : State) : (s.lanes f).eth = (f s).eth := by rw [State.lanes_eq]
@[simp] theorem State.lanes_sig (f : State → State) (s : State) : (s.lanes f).sig = (f s).sig := by rw [State.lanes_eq]
@[simp] theorem State.lanes_aln (f : State → State) (s : State) : (s.lanes f).aln = (f s).aln := by rw [State.lanes_eq]
@[simp] theorem State.lanes_est (f : State → State) (s : State) : (s.lanes f).est = (f s).est := by rw [State.lanes_eq]
@[simp] theorem State.lanes_rcd (f : State → State) (s : State) : (s.lanes f).rcd = (f s).rcd := by rw [State.lanes_eq]
@[simp] theorem State.lanes_rtc (f : State → State) (s : State) : (s.lanes f).rtc = (f s).rtc := by rw [State.lanes_eq]
@[simp] theorem State.lanes_gns (f : State → State) (s : State) : (s.lanes f).gns = (f s).gns := by rw [State.lanes_eq]
@[simp] theorem State.lanes_hif (f : State → State) (s : State) : (s.lanes f).hif = (f s).hif := by rw [State.lanes_eq]
@[simp] theorem State.lanes_cle (f : State → State) (s : State) : (s.lanes f).cle = (f s).cle := by rw [State.lanes_eq]
@[simp] theorem State.lanes_alc (f : State → State) (s : State) : (s.lanes f).alc = (f s).alc := by rw [State.lanes_eq]
@[simp] theorem State.lanes_prf (f : State → State) (s : State) : (s.lanes f).prf = (f s).prf := by rw [State.lanes_eq]
@[simp] theorem State.lanes_can (f : State → State) (s : State) : (s.lanes f).can = (f s).can := by rw [State.lanes_eq]
@[simp] theorem State.lanes_red (f : State → State) (s : State) : (s.lanes f).red = (f s).red := by rw [State.lanes_eq]
@[simp] theorem State.lanes_saf (f : State → State) (s : State) : (s.lanes f).saf = (f s).saf := by rw [State.lanes_eq]
@[simp] theorem State.lanes_sld (f : State → State) (s : State) : (s.lanes f).sld = (f s).sld := by rw [State.lanes_eq]
@[simp] theorem State.lanes_sec (f : State → State) (s : State) : (s.lanes f).sec = (f s).sec := by rw [State.lanes_eq]
@[simp] theorem State.lanes_pwr (f : State → State) (s : State) : (s.lanes f).pwr = (f s).pwr := by rw [State.lanes_eq]
@[simp] theorem State.lanesBy_regs (f g : State → State) (s : State) : (State.lanesBy f g s).regs = (f s).regs := by rw [State.lanesBy_eq]
@[simp] theorem State.lanesBy_shadow (f g : State → State) (s : State) : (State.lanesBy f g s).shadow = (f s).shadow := by rw [State.lanesBy_eq]
@[simp] theorem State.lanesBy_hostData (f g : State → State) (s : State) : (State.lanesBy f g s).hostData = (f s).hostData := by rw [State.lanesBy_eq]
@[simp] theorem State.lanesBy_freeCtr (f g : State → State) (s : State) : (State.lanesBy f g s).freeCtr = (f s).freeCtr := by rw [State.lanesBy_eq]
@[simp] theorem State.lanesBy_pending (f g : State → State) (s : State) : (State.lanesBy f g s).pending = (f s).pending := by rw [State.lanesBy_eq]
@[simp] theorem State.lanesBy_frm (f g : State → State) (s : State) : (State.lanesBy f g s).frm = (f s).frm := by rw [State.lanesBy_eq]
@[simp] theorem State.lanesBy_tim (f g : State → State) (s : State) : (State.lanesBy f g s).tim = (f s).tim := by rw [State.lanesBy_eq]
@[simp] theorem State.lanesBy_eth (f g : State → State) (s : State) : (State.lanesBy f g s).eth = (f s).eth := by rw [State.lanesBy_eq]
@[simp] theorem State.lanesBy_sig (f g : State → State) (s : State) : (State.lanesBy f g s).sig = (f s).sig := by rw [State.lanesBy_eq]
@[simp] theorem State.lanesBy_aln (f g : State → State) (s : State) : (State.lanesBy f g s).aln = (f s).aln := by rw [State.lanesBy_eq]
@[simp] theorem State.lanesBy_est (f g : State → State) (s : State) : (State.lanesBy f g s).est = (f s).est := by rw [State.lanesBy_eq]
@[simp] theorem State.lanesBy_rcd (f g : State → State) (s : State) : (State.lanesBy f g s).rcd = (f s).rcd := by rw [State.lanesBy_eq]
@[simp] theorem State.lanesBy_rtc (f g : State → State) (s : State) : (State.lanesBy f g s).rtc = (f s).rtc := by rw [State.lanesBy_eq]
@[simp] theorem State.lanesBy_gns (f g : State → State) (s : State) : (State.lanesBy f g s).gns = (f s).gns := by rw [State.lanesBy_eq]
@[simp] theorem State.lanesBy_hif (f g : State → State) (s : State) : (State.lanesBy f g s).hif = (f s).hif := by rw [State.lanesBy_eq]
@[simp] theorem State.lanesBy_cle (f g : State → State) (s : State) : (State.lanesBy f g s).cle = (f s).cle := by rw [State.lanesBy_eq]
@[simp] theorem State.lanesBy_alc (f g : State → State) (s : State) : (State.lanesBy f g s).alc = (f s).alc := by rw [State.lanesBy_eq]
@[simp] theorem State.lanesBy_prf (f g : State → State) (s : State) : (State.lanesBy f g s).prf = (f s).prf := by rw [State.lanesBy_eq]
@[simp] theorem State.lanesBy_can (f g : State → State) (s : State) : (State.lanesBy f g s).can = (f s).can := by rw [State.lanesBy_eq]
@[simp] theorem State.lanesBy_red (f g : State → State) (s : State) : (State.lanesBy f g s).red = (f s).red := by rw [State.lanesBy_eq]
@[simp] theorem State.lanesBy_saf (f g : State → State) (s : State) : (State.lanesBy f g s).saf = (f s).saf := by rw [State.lanesBy_eq]
@[simp] theorem State.lanesBy_sld (f g : State → State) (s : State) : (State.lanesBy f g s).sld = (f s).sld := by rw [State.lanesBy_eq]
@[simp] theorem State.lanesBy_sec (f g : State → State) (s : State) : (State.lanesBy f g s).sec = (f s).sec := by rw [State.lanesBy_eq]
@[simp] theorem State.lanesBy_pwr (f g : State → State) (s : State) : (State.lanesBy f g s).pwr = (f s).pwr := by rw [State.lanesBy_eq]

end Sys2Proof.Machine
end

