-- ==== Sys2Proof/Laws/State.lean ====
section
/-! SUPPORT. Small lemmas of the state: what each named update leaves of each part, fields read after a field is set, and what
raising an event writes. -/

namespace Sys2Proof.Machine

open Sys2Proof

/-! ### One lemma per part for the two updates of the register file -/

@[simp] theorem State.put_shadow (s : State) (f : Fld) (v : Nat) : (s.put f v).shadow = s.shadow := rfl
@[simp] theorem State.put_hostData (s : State) (f : Fld) (v : Nat) : (s.put f v).hostData = s.hostData := rfl
@[simp] theorem State.put_freeCtr (s : State) (f : Fld) (v : Nat) : (s.put f v).freeCtr = s.freeCtr := rfl
@[simp] theorem State.put_pending (s : State) (f : Fld) (v : Nat) : (s.put f v).pending = s.pending := rfl
@[simp] theorem State.put_frm (s : State) (f : Fld) (v : Nat) : (s.put f v).frm = s.frm := rfl
@[simp] theorem State.put_tim (s : State) (f : Fld) (v : Nat) : (s.put f v).tim = s.tim := rfl
@[simp] theorem State.put_eth (s : State) (f : Fld) (v : Nat) : (s.put f v).eth = s.eth := rfl
@[simp] theorem State.put_sig (s : State) (f : Fld) (v : Nat) : (s.put f v).sig = s.sig := rfl
@[simp] theorem State.put_aln (s : State) (f : Fld) (v : Nat) : (s.put f v).aln = s.aln := rfl
@[simp] theorem State.put_est (s : State) (f : Fld) (v : Nat) : (s.put f v).est = s.est := rfl
@[simp] theorem State.put_rcd (s : State) (f : Fld) (v : Nat) : (s.put f v).rcd = s.rcd := rfl
@[simp] theorem State.put_rtc (s : State) (f : Fld) (v : Nat) : (s.put f v).rtc = s.rtc := rfl
@[simp] theorem State.put_gns (s : State) (f : Fld) (v : Nat) : (s.put f v).gns = s.gns := rfl
@[simp] theorem State.put_hif (s : State) (f : Fld) (v : Nat) : (s.put f v).hif = s.hif := rfl
@[simp] theorem State.put_cle (s : State) (f : Fld) (v : Nat) : (s.put f v).cle = s.cle := rfl
@[simp] theorem State.put_alc (s : State) (f : Fld) (v : Nat) : (s.put f v).alc = s.alc := rfl
@[simp] theorem State.put_prf (s : State) (f : Fld) (v : Nat) : (s.put f v).prf = s.prf := rfl
@[simp] theorem State.put_can (s : State) (f : Fld) (v : Nat) : (s.put f v).can = s.can := rfl
@[simp] theorem State.put_red (s : State) (f : Fld) (v : Nat) : (s.put f v).red = s.red := rfl
@[simp] theorem State.put_saf (s : State) (f : Fld) (v : Nat) : (s.put f v).saf = s.saf := rfl
@[simp] theorem State.put_sld (s : State) (f : Fld) (v : Nat) : (s.put f v).sld = s.sld := rfl
@[simp] theorem State.put_sec (s : State) (f : Fld) (v : Nat) : (s.put f v).sec = s.sec := rfl
@[simp] theorem State.put_pwr (s : State) (f : Fld) (v : Nat) : (s.put f v).pwr = s.pwr := rfl
@[simp] theorem State.put_twin (s : State) (f : Fld) (v : Nat) : (s.put f v).twin = s.twin := rfl
@[simp] theorem State.put_regs (s : State) (f : Fld) (v : Nat) : (s.put f v).regs = s.regs.put f v := rfl
@[simp] theorem State.setWord_shadow (s : State) (off v : Nat) : (s.setWord off v).shadow = s.shadow := rfl
@[simp] theorem State.setWord_hostData (s : State) (off v : Nat) : (s.setWord off v).hostData = s.hostData := rfl
@[simp] theorem State.setWord_freeCtr (s : State) (off v : Nat) : (s.setWord off v).freeCtr = s.freeCtr := rfl
@[simp] theorem State.setWord_pending (s : State) (off v : Nat) : (s.setWord off v).pending = s.pending := rfl
@[simp] theorem State.setWord_frm (s : State) (off v : Nat) : (s.setWord off v).frm = s.frm := rfl
@[simp] theorem State.setWord_tim (s : State) (off v : Nat) : (s.setWord off v).tim = s.tim := rfl
@[simp] theorem State.setWord_eth (s : State) (off v : Nat) : (s.setWord off v).eth = s.eth := rfl
@[simp] theorem State.setWord_sig (s : State) (off v : Nat) : (s.setWord off v).sig = s.sig := rfl
@[simp] theorem State.setWord_aln (s : State) (off v : Nat) : (s.setWord off v).aln = s.aln := rfl
@[simp] theorem State.setWord_est (s : State) (off v : Nat) : (s.setWord off v).est = s.est := rfl
@[simp] theorem State.setWord_rcd (s : State) (off v : Nat) : (s.setWord off v).rcd = s.rcd := rfl
@[simp] theorem State.setWord_rtc (s : State) (off v : Nat) : (s.setWord off v).rtc = s.rtc := rfl
@[simp] theorem State.setWord_gns (s : State) (off v : Nat) : (s.setWord off v).gns = s.gns := rfl
@[simp] theorem State.setWord_hif (s : State) (off v : Nat) : (s.setWord off v).hif = s.hif := rfl
@[simp] theorem State.setWord_cle (s : State) (off v : Nat) : (s.setWord off v).cle = s.cle := rfl
@[simp] theorem State.setWord_alc (s : State) (off v : Nat) : (s.setWord off v).alc = s.alc := rfl
@[simp] theorem State.setWord_prf (s : State) (off v : Nat) : (s.setWord off v).prf = s.prf := rfl
@[simp] theorem State.setWord_can (s : State) (off v : Nat) : (s.setWord off v).can = s.can := rfl
@[simp] theorem State.setWord_red (s : State) (off v : Nat) : (s.setWord off v).red = s.red := rfl
@[simp] theorem State.setWord_saf (s : State) (off v : Nat) : (s.setWord off v).saf = s.saf := rfl
@[simp] theorem State.setWord_sld (s : State) (off v : Nat) : (s.setWord off v).sld = s.sld := rfl
@[simp] theorem State.setWord_sec (s : State) (off v : Nat) : (s.setWord off v).sec = s.sec := rfl
@[simp] theorem State.setWord_pwr (s : State) (off v : Nat) : (s.setWord off v).pwr = s.pwr := rfl
@[simp] theorem State.setWord_twin (s : State) (off v : Nat) : (s.setWord off v).twin = s.twin := rfl
@[simp] theorem State.setWord_regs (s : State) (off v : Nat) : (s.setWord off v).regs = s.regs.setWord off (BitVec.ofNat 32 v) := rfl
@[simp] theorem State.drawn_regs (s : State) : s.drawn.regs = s.regs := rfl
@[simp] theorem State.drawn_shadow (s : State) : s.drawn.shadow = s.shadow := rfl
@[simp] theorem State.drawn_hostData (s : State) : s.drawn.hostData = s.hostData := rfl
@[simp] theorem State.drawn_pending (s : State) : s.drawn.pending = s.pending := rfl
@[simp] theorem State.drawn_frm (s : State) : s.drawn.frm = s.frm := rfl
@[simp] theorem State.drawn_tim (s : State) : s.drawn.tim = s.tim := rfl
@[simp] theorem State.drawn_eth (s : State) : s.drawn.eth = s.eth := rfl
@[simp] theorem State.drawn_sig (s : State) : s.drawn.sig = s.sig := rfl
@[simp] theorem State.drawn_aln (s : State) : s.drawn.aln = s.aln := rfl
@[simp] theorem State.drawn_est (s : State) : s.drawn.est = s.est := rfl
@[simp] theorem State.drawn_rcd (s : State) : s.drawn.rcd = s.rcd := rfl
@[simp] theorem State.drawn_rtc (s : State) : s.drawn.rtc = s.rtc := rfl
@[simp] theorem State.drawn_gns (s : State) : s.drawn.gns = s.gns := rfl
@[simp] theorem State.drawn_hif (s : State) : s.drawn.hif = s.hif := rfl
@[simp] theorem State.drawn_cle (s : State) : s.drawn.cle = s.cle := rfl
@[simp] theorem State.drawn_alc (s : State) : s.drawn.alc = s.alc := rfl
@[simp] theorem State.drawn_prf (s : State) : s.drawn.prf = s.prf := rfl
@[simp] theorem State.drawn_can (s : State) : s.drawn.can = s.can := rfl
@[simp] theorem State.drawn_red (s : State) : s.drawn.red = s.red := rfl
@[simp] theorem State.drawn_saf (s : State) : s.drawn.saf = s.saf := rfl
@[simp] theorem State.drawn_sld (s : State) : s.drawn.sld = s.sld := rfl
@[simp] theorem State.drawn_sec (s : State) : s.drawn.sec = s.sec := rfl
@[simp] theorem State.drawn_pwr (s : State) : s.drawn.pwr = s.pwr := rfl
@[simp] theorem State.drawn_twin (s : State) : s.drawn.twin = s.twin := rfl
@[simp] theorem State.drawn_freeCtr (s : State) : s.drawn.freeCtr = s.freeCtr + 1 := rfl

@[simp] theorem State.when_true (s : State) (f : State → State) : s.when true f = f s := rfl
@[simp] theorem State.when_false (s : State) (f : State → State) : s.when false f = s := rfl
@[simp] theorem State.each_nil {α : Type} (s : State) (f : State → α → State) : s.each [] f = s := rfl
@[simp] theorem State.each_cons {α : Type} (s : State) (a : α) (l : List α) (f : State → α → State) :
    s.each (a :: l) f = (f s a).each l f := rfl

/-! ### Fields -/

/-- Two fields share no bit. -/
abbrev Fld.apart (f g : Fld) : Prop := g.off ≠ f.off ∨ g.hi < f.lo ∨ f.hi < g.lo

/-- A field has bits and lies in its word. -/
abbrev Fld.ok (f : Fld) : Prop := f.lo ≤ f.hi ∧ f.hi < 32

theorem RegFile.get_put_same (r : RegFile) (f : Fld) (v : Nat) (h : f.ok) : (r.put f v).get f = v % 2 ^ (f.hi + 1 - f.lo) :=
  RegFile.get_put_self r f v h.1 h.2

theorem RegFile.get_put_other (r : RegFile) (f g : Fld) (v : Nat) (h : f.ok) (ha : f.apart g) : (r.put f v).get g = r.get g := by
  rcases ha with ho | hd
  · exact RegFile.get_put_off r f g v ho
  · exact RegFile.get_put_apart r f g v h.1 h.2 hd

theorem RegFile.get_put_eqs (r : RegFile) (f g : Fld) (v : Nat) (h : f.ok) (he : f = g) : (r.put f v).get g = v % 2 ^ (f.hi + 1 - f.lo) := by
  rw [← he]
  exact RegFile.get_put_same r f v h

theorem RegFile.get_setWord_off (r : RegFile) (off : Nat) (v : Word) (g : Fld) (h : g.off ≠ off) : (r.setWord off v).get g = r.get g := by
  unfold RegFile.get
  rw [RegFile.word_setWord_ne _ _ _ _ h]

/-! ### Events -/

theorem State.pendEvent_word (s : State) (e off : Nat) (he : e < 256) (h : eventWord off = false) :
    (s.pendEvent e).regs.word off = s.regs.word off := by
  have h1 : e / 32 < 8 := by omega
  simp only [eventWord, Bool.or_eq_false_iff, Bool.and_eq_false_iff, decide_eq_false_iff_not, beq_eq_false_iff_ne] at h
  unfold State.pendEvent State.orBits
  rw [State.put_regs, RegFile.word_put_ne, State.put_regs, RegFile.word_put_ne]
  · dsimp only [F.HIF_EV_PEND_PEND]
    omega
  · dsimp only [F.HIF_EV_PEND_PEND]
    omega

theorem State.ringWrite_word (s : State) (k src c sl off : Nat) (h : eventWord off = false) :
    (s.ringWrite k src c sl).regs.word off = s.regs.word off := by
  simp only [eventWord, Bool.or_eq_false_iff, beq_eq_false_iff_ne] at h
  obtain ⟨⟨⟨-, h1⟩, h2⟩, h3⟩ := h
  unfold State.ringWrite State.inc
  dsimp only
  split <;>
    simp only [State.put_regs, ne_eq, h1, h2, h3, not_false_eq_true, RegFile.word_put_ne]

theorem State.gaspEvent_word (s : State) (off : Nat) (h : eventWord off = false) : s.gaspEvent.regs.word off = s.regs.word off := by
  unfold State.gaspEvent
  split
  · rfl
  · dsimp only
    rw [State.pendEvent_word _ _ _ (by decide) h]
    cases s.flag F.REC_CTRL_EN && s.flag (F.REC_TRIG_EN 210)
    · rfl
    · exact State.ringWrite_word _ _ _ _ _ _ h

theorem State.trigger_word (s : State) (e off : Nat) (h : eventWord off = false) : (s.trigger e).regs.word off = s.regs.word off := by
  unfold State.trigger
  split
  · split
    · rw [State.gaspEvent_word _ _ h, State.ringWrite_word _ _ _ _ _ _ h]
    · rfl
  · rfl

/-- Raising an event changes no register word but the event words. -/
theorem State.raise_word (s : State) (e off : Nat) (he : e < 256) (h : eventWord off = false) :
    (s.raise e).regs.word off = s.regs.word off := by
  unfold State.raise
  rw [State.pendEvent_word _ _ _ he h, State.trigger_word _ _ _ h]

theorem State.raiseMajor_word (s : State) (e off : Nat) (he : e < 256) (h : eventWord off = false) :
    (s.raiseMajor e).regs.word off = s.regs.word off := by
  unfold State.raiseMajor
  split
  · rfl
  · rw [State.raise_word _ _ _ he h]

theorem State.raiseMinor_word (s : State) (e off : Nat) (he : e < 256) (h : eventWord off = false) :
    (s.raiseMinor e).regs.word off = s.regs.word off := by
  unfold State.raiseMinor
  split
  · rfl
  · rw [State.raise_word _ _ _ he h]

theorem State.raise_get (s : State) (e : Nat) (g : Fld) (he : e < 256) (h : eventWord g.off = false) : (s.raise e).regs.get g = s.regs.get g := by
  unfold RegFile.get
  rw [State.raise_word _ _ _ he h]

theorem State.raiseMajor_get (s : State) (e : Nat) (g : Fld) (he : e < 256) (h : eventWord g.off = false) :
    (s.raiseMajor e).regs.get g = s.regs.get g := by
  unfold RegFile.get
  rw [State.raiseMajor_word _ _ _ he h]

theorem State.raiseMinor_get (s : State) (e : Nat) (g : Fld) (he : e < 256) (h : eventWord g.off = false) :
    (s.raiseMinor e).regs.get g = s.regs.get g := by
  unfold RegFile.get
  rw [State.raiseMinor_word _ _ _ he h]

theorem bitOf_eq_testBit (n k : Nat) : bitOf n k = n.testBit k := by
  rw [bitOf, Nat.testBit_eq_decide_div_mod_eq]
  rfl

theorem State.pendEvent_pended (s : State) (e : Nat) : (s.pendEvent e).pended e := by
  have h32 : e % 32 < 32 := Nat.mod_lt _ (by decide)
  have key (r : RegFile) (f : Fld) (hf : f.lo = 0 ∧ f.hi = 31) (x : Nat) :
      bitOf ((r.put f (Nat.lor x (2 ^ (e % 32)))).get f) (e % 32) = true := by
    rw [RegFile.get_put_same _ _ _ ⟨by omega, by omega⟩, hf.1, hf.2]
    rw [show Nat.lor x (2 ^ (e % 32)) = x ||| 2 ^ (e % 32) from rfl, bitOf_eq_testBit]
    change ((x ||| 2 ^ (e % 32)) % 2 ^ 32).testBit (e % 32) = true
    rw [Nat.testBit_mod_two_pow]
    simp [h32]
  intro p hp
  unfold State.bit State.pendEvent State.orBits State.get
  have hne : (F.HIF_EV_PEND_PEND 0 (e / 32)).off ≠ (F.HIF_EV_PEND_PEND 1 (e / 32)).off := by
    dsimp only [F.HIF_EV_PEND_PEND]
    omega
  obtain rfl | rfl : p = 0 ∨ p = 1 := by omega
  · rw [State.put_regs, RegFile.get_put_off _ _ _ _ hne]
    exact key _ _ ⟨rfl, rfl⟩ _
  · exact key _ _ ⟨rfl, rfl⟩ _

/-- Raising an event sets its pending bit in both ports (R553, R554). -/
theorem State.raise_pended (s : State) (e : Nat) : (s.raise e).pended e := State.pendEvent_pended _ _

/-- A word set in a port's pending words by another event stays set. -/
theorem State.pended_of_word (s t : State) (e : Nat) (h : ∀ p < 2, t.regs.word (F.HIF_EV_PEND_PEND p (e / 32)).off = s.regs.word (F.HIF_EV_PEND_PEND p (e / 32)).off)
    (hs : s.pended e) : t.pended e := by
  intro p hp
  have := hs p hp
  unfold State.bit State.get RegFile.get at *
  rw [h p hp]
  exact this

@[simp] theorem State.raise_shadow (s : State) (e : Nat) : (s.raise e).shadow = s.shadow := (State.raise_keep (mk := 2081) Keeps.refl rfl).shadowSame rfl
@[simp] theorem State.raise_hostData (s : State) (e : Nat) : (s.raise e).hostData = s.hostData := (State.raise_keep (mk := 2081) Keeps.refl rfl).hostDataSame rfl
@[simp] theorem State.raise_freeCtr (s : State) (e : Nat) : (s.raise e).freeCtr = s.freeCtr := (State.raise_keep (mk := 2081) Keeps.refl rfl).freeCtrSame rfl
@[simp] theorem State.raise_pending (s : State) (e : Nat) : (s.raise e).pending = s.pending := (State.raise_keep (mk := 2081) Keeps.refl rfl).pending
@[simp] theorem State.raise_tim (s : State) (e : Nat) : (s.raise e).tim = s.tim := (State.raise_keep (mk := 2081) Keeps.refl rfl).timSame rfl
@[simp] theorem State.raise_eth (s : State) (e : Nat) : (s.raise e).eth = s.eth := (State.raise_keep (mk := 2081) Keeps.refl rfl).ethSame rfl
@[simp] theorem State.raise_sig (s : State) (e : Nat) : (s.raise e).sig = s.sig := (State.raise_keep (mk := 2081) Keeps.refl rfl).sigSame rfl
@[simp] theorem State.raise_aln (s : State) (e : Nat) : (s.raise e).aln = s.aln := (State.raise_keep (mk := 2081) Keeps.refl rfl).alnSame rfl
@[simp] theorem State.raise_est (s : State) (e : Nat) : (s.raise e).est = s.est := (State.raise_keep (mk := 2081) Keeps.refl rfl).estSame rfl
@[simp] theorem State.raise_rtc (s : State) (e : Nat) : (s.raise e).rtc = s.rtc := (State.raise_keep (mk := 2081) Keeps.refl rfl).rtcSame rfl
@[simp] theorem State.raise_gns (s : State) (e : Nat) : (s.raise e).gns = s.gns := (State.raise_keep (mk := 2081) Keeps.refl rfl).gnsSame rfl
@[simp] theorem State.raise_hif (s : State) (e : Nat) : (s.raise e).hif = s.hif := (State.raise_keep (mk := 2081) Keeps.refl rfl).hifSame rfl
@[simp] theorem State.raise_cle (s : State) (e : Nat) : (s.raise e).cle = s.cle := (State.raise_keep (mk := 2081) Keeps.refl rfl).cleSame rfl
@[simp] theorem State.raise_alc (s : State) (e : Nat) : (s.raise e).alc = s.alc := (State.raise_keep (mk := 2081) Keeps.refl rfl).alcSame rfl
@[simp] theorem State.raise_prf (s : State) (e : Nat) : (s.raise e).prf = s.prf := (State.raise_keep (mk := 2081) Keeps.refl rfl).prfSame rfl
@[simp] theorem State.raise_can (s : State) (e : Nat) : (s.raise e).can = s.can := (State.raise_keep (mk := 2081) Keeps.refl rfl).canSame rfl
@[simp] theorem State.raise_red (s : State) (e : Nat) : (s.raise e).red = s.red := (State.raise_keep (mk := 2081) Keeps.refl rfl).redSame rfl
@[simp] theorem State.raise_saf (s : State) (e : Nat) : (s.raise e).saf = s.saf := (State.raise_keep (mk := 2081) Keeps.refl rfl).safSame rfl
@[simp] theorem State.raise_sld (s : State) (e : Nat) : (s.raise e).sld = s.sld := (State.raise_keep (mk := 2081) Keeps.refl rfl).sldSame rfl
@[simp] theorem State.raise_sec (s : State) (e : Nat) : (s.raise e).sec = s.sec := (State.raise_keep (mk := 2081) Keeps.refl rfl).secSame rfl
@[simp] theorem State.raise_pwr (s : State) (e : Nat) : (s.raise e).pwr = s.pwr := (State.raise_keep (mk := 2081) Keeps.refl rfl).pwrSame rfl
@[simp] theorem State.raise_twin (s : State) (e : Nat) : (s.raise e).twin = s.twin := (State.raise_keep (mk := 2081) Keeps.refl rfl).twinSame rfl

@[simp] theorem State.raiseMajor_shadow (s : State) (e : Nat) : (s.raiseMajor e).shadow = s.shadow := (State.raiseMajor_keep (mk := 2081) Keeps.refl rfl).shadowSame rfl
@[simp] theorem State.raiseMajor_hostData (s : State) (e : Nat) : (s.raiseMajor e).hostData = s.hostData := (State.raiseMajor_keep (mk := 2081) Keeps.refl rfl).hostDataSame rfl
@[simp] theorem State.raiseMajor_freeCtr (s : State) (e : Nat) : (s.raiseMajor e).freeCtr = s.freeCtr := (State.raiseMajor_keep (mk := 2081) Keeps.refl rfl).freeCtrSame rfl
@[simp] theorem State.raiseMajor_pending (s : State) (e : Nat) : (s.raiseMajor e).pending = s.pending := (State.raiseMajor_keep (mk := 2081) Keeps.refl rfl).pending
@[simp] theorem State.raiseMajor_tim (s : State) (e : Nat) : (s.raiseMajor e).tim = s.tim := (State.raiseMajor_keep (mk := 2081) Keeps.refl rfl).timSame rfl
@[simp] theorem State.raiseMajor_eth (s : State) (e : Nat) : (s.raiseMajor e).eth = s.eth := (State.raiseMajor_keep (mk := 2081) Keeps.refl rfl).ethSame rfl
@[simp] theorem State.raiseMajor_sig (s : State) (e : Nat) : (s.raiseMajor e).sig = s.sig := (State.raiseMajor_keep (mk := 2081) Keeps.refl rfl).sigSame rfl
@[simp] theorem State.raiseMajor_aln (s : State) (e : Nat) : (s.raiseMajor e).aln = s.aln := (State.raiseMajor_keep (mk := 2081) Keeps.refl rfl).alnSame rfl
@[simp] theorem State.raiseMajor_est (s : State) (e : Nat) : (s.raiseMajor e).est = s.est := (State.raiseMajor_keep (mk := 2081) Keeps.refl rfl).estSame rfl
@[simp] theorem State.raiseMajor_rtc (s : State) (e : Nat) : (s.raiseMajor e).rtc = s.rtc := (State.raiseMajor_keep (mk := 2081) Keeps.refl rfl).rtcSame rfl
@[simp] theorem State.raiseMajor_gns (s : State) (e : Nat) : (s.raiseMajor e).gns = s.gns := (State.raiseMajor_keep (mk := 2081) Keeps.refl rfl).gnsSame rfl
@[simp] theorem State.raiseMajor_hif (s : State) (e : Nat) : (s.raiseMajor e).hif = s.hif := (State.raiseMajor_keep (mk := 2081) Keeps.refl rfl).hifSame rfl
@[simp] theorem State.raiseMajor_cle (s : State) (e : Nat) : (s.raiseMajor e).cle = s.cle := (State.raiseMajor_keep (mk := 2081) Keeps.refl rfl).cleSame rfl
@[simp] theorem State.raiseMajor_alc (s : State) (e : Nat) : (s.raiseMajor e).alc = s.alc := (State.raiseMajor_keep (mk := 2081) Keeps.refl rfl).alcSame rfl
@[simp] theorem State.raiseMajor_prf (s : State) (e : Nat) : (s.raiseMajor e).prf = s.prf := (State.raiseMajor_keep (mk := 2081) Keeps.refl rfl).prfSame rfl
@[simp] theorem State.raiseMajor_can (s : State) (e : Nat) : (s.raiseMajor e).can = s.can := (State.raiseMajor_keep (mk := 2081) Keeps.refl rfl).canSame rfl
@[simp] theorem State.raiseMajor_red (s : State) (e : Nat) : (s.raiseMajor e).red = s.red := (State.raiseMajor_keep (mk := 2081) Keeps.refl rfl).redSame rfl
@[simp] theorem State.raiseMajor_saf (s : State) (e : Nat) : (s.raiseMajor e).saf = s.saf := (State.raiseMajor_keep (mk := 2081) Keeps.refl rfl).safSame rfl
@[simp] theorem State.raiseMajor_sld (s : State) (e : Nat) : (s.raiseMajor e).sld = s.sld := (State.raiseMajor_keep (mk := 2081) Keeps.refl rfl).sldSame rfl
@[simp] theorem State.raiseMajor_sec (s : State) (e : Nat) : (s.raiseMajor e).sec = s.sec := (State.raiseMajor_keep (mk := 2081) Keeps.refl rfl).secSame rfl
@[simp] theorem State.raiseMajor_pwr (s : State) (e : Nat) : (s.raiseMajor e).pwr = s.pwr := (State.raiseMajor_keep (mk := 2081) Keeps.refl rfl).pwrSame rfl
@[simp] theorem State.raiseMajor_twin (s : State) (e : Nat) : (s.raiseMajor e).twin = s.twin := (State.raiseMajor_keep (mk := 2081) Keeps.refl rfl).twinSame rfl

@[simp] theorem State.raiseMinor_shadow (s : State) (e : Nat) : (s.raiseMinor e).shadow = s.shadow := (State.raiseMinor_keep (mk := 2081) Keeps.refl rfl).shadowSame rfl
@[simp] theorem State.raiseMinor_hostData (s : State) (e : Nat) : (s.raiseMinor e).hostData = s.hostData := (State.raiseMinor_keep (mk := 2081) Keeps.refl rfl).hostDataSame rfl
@[simp] theorem State.raiseMinor_freeCtr (s : State) (e : Nat) : (s.raiseMinor e).freeCtr = s.freeCtr := (State.raiseMinor_keep (mk := 2081) Keeps.refl rfl).freeCtrSame rfl
@[simp] theorem State.raiseMinor_pending (s : State) (e : Nat) : (s.raiseMinor e).pending = s.pending := (State.raiseMinor_keep (mk := 2081) Keeps.refl rfl).pending
@[simp] theorem State.raiseMinor_tim (s : State) (e : Nat) : (s.raiseMinor e).tim = s.tim := (State.raiseMinor_keep (mk := 2081) Keeps.refl rfl).timSame rfl
@[simp] theorem State.raiseMinor_eth (s : State) (e : Nat) : (s.raiseMinor e).eth = s.eth := (State.raiseMinor_keep (mk := 2081) Keeps.refl rfl).ethSame rfl
@[simp] theorem State.raiseMinor_sig (s : State) (e : Nat) : (s.raiseMinor e).sig = s.sig := (State.raiseMinor_keep (mk := 2081) Keeps.refl rfl).sigSame rfl
@[simp] theorem State.raiseMinor_aln (s : State) (e : Nat) : (s.raiseMinor e).aln = s.aln := (State.raiseMinor_keep (mk := 2081) Keeps.refl rfl).alnSame rfl
@[simp] theorem State.raiseMinor_est (s : State) (e : Nat) : (s.raiseMinor e).est = s.est := (State.raiseMinor_keep (mk := 2081) Keeps.refl rfl).estSame rfl
@[simp] theorem State.raiseMinor_rtc (s : State) (e : Nat) : (s.raiseMinor e).rtc = s.rtc := (State.raiseMinor_keep (mk := 2081) Keeps.refl rfl).rtcSame rfl
@[simp] theorem State.raiseMinor_gns (s : State) (e : Nat) : (s.raiseMinor e).gns = s.gns := (State.raiseMinor_keep (mk := 2081) Keeps.refl rfl).gnsSame rfl
@[simp] theorem State.raiseMinor_hif (s : State) (e : Nat) : (s.raiseMinor e).hif = s.hif := (State.raiseMinor_keep (mk := 2081) Keeps.refl rfl).hifSame rfl
@[simp] theorem State.raiseMinor_cle (s : State) (e : Nat) : (s.raiseMinor e).cle = s.cle := (State.raiseMinor_keep (mk := 2081) Keeps.refl rfl).cleSame rfl
@[simp] theorem State.raiseMinor_alc (s : State) (e : Nat) : (s.raiseMinor e).alc = s.alc := (State.raiseMinor_keep (mk := 2081) Keeps.refl rfl).alcSame rfl
@[simp] theorem State.raiseMinor_prf (s : State) (e : Nat) : (s.raiseMinor e).prf = s.prf := (State.raiseMinor_keep (mk := 2081) Keeps.refl rfl).prfSame rfl
@[simp] theorem State.raiseMinor_can (s : State) (e : Nat) : (s.raiseMinor e).can = s.can := (State.raiseMinor_keep (mk := 2081) Keeps.refl rfl).canSame rfl
@[simp] theorem State.raiseMinor_red (s : State) (e : Nat) : (s.raiseMinor e).red = s.red := (State.raiseMinor_keep (mk := 2081) Keeps.refl rfl).redSame rfl
@[simp] theorem State.raiseMinor_saf (s : State) (e : Nat) : (s.raiseMinor e).saf = s.saf := (State.raiseMinor_keep (mk := 2081) Keeps.refl rfl).safSame rfl
@[simp] theorem State.raiseMinor_sld (s : State) (e : Nat) : (s.raiseMinor e).sld = s.sld := (State.raiseMinor_keep (mk := 2081) Keeps.refl rfl).sldSame rfl
@[simp] theorem State.raiseMinor_sec (s : State) (e : Nat) : (s.raiseMinor e).sec = s.sec := (State.raiseMinor_keep (mk := 2081) Keeps.refl rfl).secSame rfl
@[simp] theorem State.raiseMinor_pwr (s : State) (e : Nat) : (s.raiseMinor e).pwr = s.pwr := (State.raiseMinor_keep (mk := 2081) Keeps.refl rfl).pwrSame rfl
@[simp] theorem State.raiseMinor_twin (s : State) (e : Nat) : (s.raiseMinor e).twin = s.twin := (State.raiseMinor_keep (mk := 2081) Keeps.refl rfl).twinSame rfl

@[simp] theorem State.runInside_regs (s : State) (t : Nat) : (s.runInside t).regs = s.regs := (State.runInside_keep (mk := 33558592) Keeps.refl rfl).regsSame rfl
@[simp] theorem State.runInside_shadow (s : State) (t : Nat) : (s.runInside t).shadow = s.shadow := (State.runInside_keep (mk := 33558592) Keeps.refl rfl).shadowSame rfl
@[simp] theorem State.runInside_hostData (s : State) (t : Nat) : (s.runInside t).hostData = s.hostData := (State.runInside_keep (mk := 33558592) Keeps.refl rfl).hostDataSame rfl
@[simp] theorem State.runInside_freeCtr (s : State) (t : Nat) : (s.runInside t).freeCtr = s.freeCtr := (State.runInside_keep (mk := 33558592) Keeps.refl rfl).freeCtrSame rfl
@[simp] theorem State.runInside_pending (s : State) (t : Nat) : (s.runInside t).pending = s.pending := (State.runInside_keep (mk := 33558592) Keeps.refl rfl).pending
@[simp] theorem State.runInside_frm (s : State) (t : Nat) : (s.runInside t).frm = s.frm := (State.runInside_keep (mk := 33558592) Keeps.refl rfl).frmSame rfl
@[simp] theorem State.runInside_eth (s : State) (t : Nat) : (s.runInside t).eth = s.eth := (State.runInside_keep (mk := 33558592) Keeps.refl rfl).ethSame rfl
@[simp] theorem State.runInside_sig (s : State) (t : Nat) : (s.runInside t).sig = s.sig := (State.runInside_keep (mk := 33558592) Keeps.refl rfl).sigSame rfl
@[simp] theorem State.runInside_aln (s : State) (t : Nat) : (s.runInside t).aln = s.aln := (State.runInside_keep (mk := 33558592) Keeps.refl rfl).alnSame rfl
@[simp] theorem State.runInside_est (s : State) (t : Nat) : (s.runInside t).est = s.est := (State.runInside_keep (mk := 33558592) Keeps.refl rfl).estSame rfl
@[simp] theorem State.runInside_rcd (s : State) (t : Nat) : (s.runInside t).rcd = s.rcd := (State.runInside_keep (mk := 33558592) Keeps.refl rfl).rcdSame rfl
@[simp] theorem State.runInside_gns (s : State) (t : Nat) : (s.runInside t).gns = s.gns := (State.runInside_keep (mk := 33558592) Keeps.refl rfl).gnsSame rfl
@[simp] theorem State.runInside_hif (s : State) (t : Nat) : (s.runInside t).hif = s.hif := (State.runInside_keep (mk := 33558592) Keeps.refl rfl).hifSame rfl
@[simp] theorem State.runInside_cle (s : State) (t : Nat) : (s.runInside t).cle = s.cle := (State.runInside_keep (mk := 33558592) Keeps.refl rfl).cleSame rfl
@[simp] theorem State.runInside_alc (s : State) (t : Nat) : (s.runInside t).alc = s.alc := (State.runInside_keep (mk := 33558592) Keeps.refl rfl).alcSame rfl
@[simp] theorem State.runInside_prf (s : State) (t : Nat) : (s.runInside t).prf = s.prf := (State.runInside_keep (mk := 33558592) Keeps.refl rfl).prfSame rfl
@[simp] theorem State.runInside_can (s : State) (t : Nat) : (s.runInside t).can = s.can := (State.runInside_keep (mk := 33558592) Keeps.refl rfl).canSame rfl
@[simp] theorem State.runInside_red (s : State) (t : Nat) : (s.runInside t).red = s.red := (State.runInside_keep (mk := 33558592) Keeps.refl rfl).redSame rfl
@[simp] theorem State.runInside_saf (s : State) (t : Nat) : (s.runInside t).saf = s.saf := (State.runInside_keep (mk := 33558592) Keeps.refl rfl).safSame rfl
@[simp] theorem State.runInside_sld (s : State) (t : Nat) : (s.runInside t).sld = s.sld := (State.runInside_keep (mk := 33558592) Keeps.refl rfl).sldSame rfl
@[simp] theorem State.runInside_sec (s : State) (t : Nat) : (s.runInside t).sec = s.sec := (State.runInside_keep (mk := 33558592) Keeps.refl rfl).secSame rfl
@[simp] theorem State.runInside_pwr (s : State) (t : Nat) : (s.runInside t).pwr = s.pwr := (State.runInside_keep (mk := 33558592) Keeps.refl rfl).pwrSame rfl
@[simp] theorem State.runInside_twin (s : State) (t : Nat) : (s.runInside t).twin = s.twin := (State.runInside_keep (mk := 33558592) Keeps.refl rfl).twinSame rfl

@[simp] theorem State.runTo_regs (s : State) (t : Nat) : (s.runTo t).regs = s.regs := (State.runTo_keep (mk := 33558592) Keeps.refl rfl).regsSame rfl
@[simp] theorem State.runTo_shadow (s : State) (t : Nat) : (s.runTo t).shadow = s.shadow := (State.runTo_keep (mk := 33558592) Keeps.refl rfl).shadowSame rfl
@[simp] theorem State.runTo_hostData (s : State) (t : Nat) : (s.runTo t).hostData = s.hostData := (State.runTo_keep (mk := 33558592) Keeps.refl rfl).hostDataSame rfl
@[simp] theorem State.runTo_freeCtr (s : State) (t : Nat) : (s.runTo t).freeCtr = s.freeCtr := (State.runTo_keep (mk := 33558592) Keeps.refl rfl).freeCtrSame rfl
@[simp] theorem State.runTo_pending (s : State) (t : Nat) : (s.runTo t).pending = s.pending := (State.runTo_keep (mk := 33558592) Keeps.refl rfl).pending
@[simp] theorem State.runTo_frm (s : State) (t : Nat) : (s.runTo t).frm = s.frm := (State.runTo_keep (mk := 33558592) Keeps.refl rfl).frmSame rfl
@[simp] theorem State.runTo_eth (s : State) (t : Nat) : (s.runTo t).eth = s.eth := (State.runTo_keep (mk := 33558592) Keeps.refl rfl).ethSame rfl
@[simp] theorem State.runTo_sig (s : State) (t : Nat) : (s.runTo t).sig = s.sig := (State.runTo_keep (mk := 33558592) Keeps.refl rfl).sigSame rfl
@[simp] theorem State.runTo_aln (s : State) (t : Nat) : (s.runTo t).aln = s.aln := (State.runTo_keep (mk := 33558592) Keeps.refl rfl).alnSame rfl
@[simp] theorem State.runTo_est (s : State) (t : Nat) : (s.runTo t).est = s.est := (State.runTo_keep (mk := 33558592) Keeps.refl rfl).estSame rfl
@[simp] theorem State.runTo_rcd (s : State) (t : Nat) : (s.runTo t).rcd = s.rcd := (State.runTo_keep (mk := 33558592) Keeps.refl rfl).rcdSame rfl
@[simp] theorem State.runTo_gns (s : State) (t : Nat) : (s.runTo t).gns = s.gns := (State.runTo_keep (mk := 33558592) Keeps.refl rfl).gnsSame rfl
@[simp] theorem State.runTo_hif (s : State) (t : Nat) : (s.runTo t).hif = s.hif := (State.runTo_keep (mk := 33558592) Keeps.refl rfl).hifSame rfl
@[simp] theorem State.runTo_cle (s : State) (t : Nat) : (s.runTo t).cle = s.cle := (State.runTo_keep (mk := 33558592) Keeps.refl rfl).cleSame rfl
@[simp] theorem State.runTo_alc (s : State) (t : Nat) : (s.runTo t).alc = s.alc := (State.runTo_keep (mk := 33558592) Keeps.refl rfl).alcSame rfl
@[simp] theorem State.runTo_prf (s : State) (t : Nat) : (s.runTo t).prf = s.prf := (State.runTo_keep (mk := 33558592) Keeps.refl rfl).prfSame rfl
@[simp] theorem State.runTo_can (s : State) (t : Nat) : (s.runTo t).can = s.can := (State.runTo_keep (mk := 33558592) Keeps.refl rfl).canSame rfl
@[simp] theorem State.runTo_red (s : State) (t : Nat) : (s.runTo t).red = s.red := (State.runTo_keep (mk := 33558592) Keeps.refl rfl).redSame rfl
@[simp] theorem State.runTo_saf (s : State) (t : Nat) : (s.runTo t).saf = s.saf := (State.runTo_keep (mk := 33558592) Keeps.refl rfl).safSame rfl
@[simp] theorem State.runTo_sld (s : State) (t : Nat) : (s.runTo t).sld = s.sld := (State.runTo_keep (mk := 33558592) Keeps.refl rfl).sldSame rfl
@[simp] theorem State.runTo_sec (s : State) (t : Nat) : (s.runTo t).sec = s.sec := (State.runTo_keep (mk := 33558592) Keeps.refl rfl).secSame rfl
@[simp] theorem State.runTo_pwr (s : State) (t : Nat) : (s.runTo t).pwr = s.pwr := (State.runTo_keep (mk := 33558592) Keeps.refl rfl).pwrSame rfl
@[simp] theorem State.runTo_twin (s : State) (t : Nat) : (s.runTo t).twin = s.twin := (State.runTo_keep (mk := 33558592) Keeps.refl rfl).twinSame rfl

end Sys2Proof.Machine
end

