-- ==== Sys2Proof/Machine/Balls.lean ====
section
/-! DEFINITION. What the output balls show (R631), as functions of the state: contactors, triggers, PPS, steps, INCMD, PWR_EN. -/

namespace Sys2Proof.Machine

open Sys2Proof

/-- What an output ball shows. -/
inductive Level where
  /-- Driven or pulled low. -/
  | low
  /-- Driven or pulled high. -/
  | high
  /-- High impedance. -/
  | highZ
  deriving DecidableEq, Repr

/-- An output at its active level or not, with a polarity bit: 1 is active low. -/
def drive (active low : Bool) : Level := if active != low then .high else .low

/-- COnn: high while the island energises it (R425, R434, R631). -/
def State.coBall (s : State) (m : Fin 16) : Level :=
  drive (nth s.saf.co m Contactor.init).cmd false

/-- TRIGcc: active during a pulse (R81, R82, R631). -/
def State.trigBall (s : State) (c : Fin 16) : Level :=
  drive (nth s.tim.pulseEnd c none).isSome (s.flag (F.TIM_CMP_CTRL_POL c))

/-- PPS_OUT: active during a pulse (R149, R631). Low until POL is set. -/
def State.ppsBall (s : State) : Level := drive s.gns.ppsOut (s.flag F.GNS_PPSCFG_POL)

/-- INCMD: high while In Command (R480). -/
def State.incmdBall (s : State) : Level := drive s.inCommand false

/-- A pulse of step output `o` is running: PRF_STEPCFG.WIDTH, in 4 ns units from 25 to 125, from the last edge (R382). -/
def State.stepPulse (s : State) (o : Fin 16) : Bool :=
  match (s.prf.steps[o.val]?).bind StepOut.edge with
  | some t => decide (s.now < t + 4 * max 25 (min 125 (s.get F.PRF_STEPCFG_WIDTH)))
  | none => false

/-- STEPnn: high impedance outside In Command; otherwise active during a pulse (R382, R480, R631). -/
def State.stepBall (s : State) (o : Fin 16) : Level :=
  if s.inCommand then drive (s.stepPulse o) (bitOf (s.get F.PRF_STEPCFG_POL) o) else .highZ

/-- DIRnn: high impedance outside In Command; otherwise the sign of the motion, high for a rising position (R382, R480, R631).
[DESIGN CHOICE: log 37] -/
def State.dirBall (s : State) (o : Fin 16) : Level :=
  if s.inCommand then drive (((s.prf.steps[o.val]?).map StepOut.dir).getD false) false else .highZ

/-- MSn_IA, MSn_DA, MSn_IB and MSn_DB in a PWM period: duty and sign of the phases; none, high impedance, outside In Command (R384, R480). -/
def State.msBalls (s : State) (n : Fin 8) (period : Fin 20) : Option (Nat × Bool × Nat × Bool) :=
  if s.inCommand then some (nth (nth s.prf.ms n []) period (0, false, 0, false)) else none

/-- The test port acts in BLANK and RMA only (R626). -/
def State.testPort (s : State) : Bool := s.sec.lc == 0 || s.sec.lc == 4

/-- CANn_TX: recessive, high, in INIT (R388, R631); no level is said of it while the controller runs. -/
def State.canTxBall (s : State) (n : Fin 8) : Option Level :=
  if s.flag (F.CAN_CTRL_INIT n) then some .high else none

/-- PWR_EN (R603, R627). -/
def State.pwrEnBall (s : State) : Level := drive (s.flag F.RTC_PWR_PWR_EN) false

end Sys2Proof.Machine
end

