-- ==== Sys2Proof/WellFormed.lean ====
section
/-! DEFINITION. Well-formed commands: what the operands of a command satisfy beyond their types, as the happening it stands for brings
them. `exec` gives every command a meaning, well-formed or not. -/

namespace Sys2Proof

/-- No number occurs twice. -/
def distinct : List Nat → Bool
  | [] => true
  | x :: t => !t.contains x && distinct t
/-- The fields of an Announce dataset fit their widths (R106). -/
def PtpSet.ok (d : PtpSet) : Bool :=
  decide (d.prio1 < 256) && decide (d.cls < 256) && decide (d.acc < 256) && decide (d.var < 65536) && decide (d.prio2 < 256) && decide (d.gm < 2 ^ 64) &&
    decide (d.steps < 65536) && decide (d.sender < 2 ^ 80)
/-- Bytes of a CAN data field by DLC (R394). -/
def CanFrame.size (f : CanFrame) : Nat :=
  if f.rtr then 0 else if f.dlc.val ≤ 8 then f.dlc.val
  else if f.fdf then [12, 16, 20, 24, 32, 48, 64].getD (f.dlc.val - 9) 64 else 8
/-- A CAN frame as a bus can carry it: standard identifiers of 11 bits, data as long as DLC says, no remote CAN FD frame, bit-rate switch
and error state only in CAN FD. -/
def CanFrame.ok (f : CanFrame) : Bool :=
  (f.ide || decide (f.id.toNat < 2048)) && f.data.length == f.size && !(f.rtr && f.fdf) && (f.fdf || (!f.brs && !f.esi))

/-- The operands of a command are such as its happening brings. -/
def Instr.wf : Instr → Bool
  | .acqStage _ cic => decide (cic.length ≤ 96)
  | .mirStage _ _ peers => peers.all (fun r => r.words.length == 32) && distinct (peers.map (fun r => r.p.val))
  | .stageOverrun _ _ cic _ => decide (cic.length ≤ 96)
  | .ethFrameReceived _ _ _ b => decide (14 ≤ b.length)
  | .ptpAnnounceReceived _ _ d => d.ok
  | .ptpSyncReceived _ y => decide (y.domain < 256) && decide (y.sec < 2 ^ 48) && decide (y.ns < 1000000000) && decide (y.corr.natAbs < 2 ^ 63) && decide (y.logInt.natAbs < 128)
  | .iec450Datagram _ _ _ b => decide (b.length ≤ 1472)
  | .measurementEpoch => true
  | .gnssSolution x => decide (x.lat.natAbs ≤ 900000000) && decide (x.lon.natAbs ≤ 1800000000) && x.dirs.length == 192
  | .acqDwellComplete _ _ b => decide (b.length ≤ 3) && b.all (fun l => decide (l.length ≤ 63))
  | .canFrameReceived _ f _ => f.ok
  | .recordWrite b => b.all (fun l => l.length == 256)
  | .descriptorFetch _ b => b.length == 64
  | .rtcmSubmit _ _ b => decide (b.length ≤ 4096)
  | .ethTx _ _ b => decide (b.length ≤ 1514)
  | .hostRegisterWrite .. | .hostReadUnmapped .. | .readClear .. | .shadowLatchRead .. | .rwsWrite .. | .minorTick | .majorTick | .slowTick ..
  | .alnStage .. | .ctlStage .. | .actStage .. | .supStage .. | .release .. | .estStage .. | .alcStage .. | .jigStage .. | .frmStart
  | .sequencerStart | .frmHold .. | .frmFaultClear .. | .frmInjectArm .. | .timeCounterLoad | .gnssOffsetMeasurement ..
  | .ptpSyncTimeout | .holdoverLimit | .timDiscWrite .. | .timStepGo | .timeStep | .compareArm .. | .compareFire .. | .trigPulseEnd ..
  | .captureEdge .. | .timCapfifoRead .. | .timNowRead .. | .ethLinkChange .. | .ethFailover .. | .ethFailback .. | .ethFrameSend ..
  | .ptpAnnounceTimeout .. | .ptpMessageTransmit .. | .igmpQuery .. | .gnssEnable | .gnssRfPllLock .. | .gnssDisable | .gnssRestart ..
  | .gnssRequeue .. | .gnssTrackLock .. | .gnssPullinTimeout .. | .gnssTrackLoss .. | .gnssReacqTimeout ..
  | .cycleSlipCheck .. | .epochRecordComplete | .spoofClear | .notchSpectrum .. | .jamDetect .. | .ppsTimeMessage | .ppsPulse | .ppsPulseEnd
  | .uartSentence .. | .tachoEdge .. | .tachoZeroTimeout .. | .sigChannelTimeout .. | .sigSync .. | .sigBankSwitch .. | .sigValRead ..
  | .afeCalibrationComplete .. | .excOverload .. | .alnStreamReconfigure .. | .pendingInstantExpiry .. | .trackTimeout .. | .estReinit
  | .estOriginChange | .originDeferExpiry | .outvoteHoldExpiry .. | .contradictionHoldExpiry .. | .rehabExpiry .. | .headingLoss | .geckoEntry
  | .geckoTlim | .estArbClr .. | .cleDpaxWrite .. | .cmdPid .. | .cmdMain .. | .cmdRestart .. | .cmdPreset .. | .cleBankSwitch ..
  | .clePidchkCommit .. | .osatSaturationCount .. | .blendComplete .. | .modeRequest .. | .joystickTimeout | .berthedClear | .pressLoss
  | .alcThrusterFault .. | .alcThrusterClrflt .. | .crossingBegin .. | .rudderCommitChange .. | .envelopeLatch | .envelopeStale ..
  | .consequenceAlarm .. | .consequenceAlarmClear .. | .energyBinComplete .. | .energyClear .. | .prfMove .. | .prfStop .. | .prfAbort ..
  | .prfAbortall .. | .prfHome .. | .prfResume .. | .prfClrflt .. | .moveComplete .. | .axinDebouncedChange .. | .inputChatter .. | .stepEdge ..
  | .microstepHoldAmplitude .. | .canInitClear .. | .canInitSet .. | .canIntegrationComplete .. | .tlgFeedbackTimeout .. | .canTxOpportunity ..
  | .canTxAttemptEnd .. | .canTxCommit .. | .canTxreq .. | .canCancel .. | .canTxfflush .. | .canRecover .. | .canRecoveryComplete .. | .canClrcnt ..
  | .canBufferLockRead .. | .canBufferReleaseRead .. | .canLockTimeout .. | .canReady .. | .islandTick .. | .discrepancyLock ..
  | .contactorFeedbackTimeout .. | .cat1DelayExpiry .. | .safePduSend .. | .safePduReceived .. | .copyWindowExpiry .. | .connectionWatchdogExpiry ..
  | .resetInputRelease .. | .resetInputStuck .. | .safHostReset .. | .safConnrst .. | .clockMonitorCheck .. | .islandBoot | .islandSafeFault ..
  | .islandConfigApply .. | .sealOpen .. | .passwordCheckComplete | .backoffExpiry | .sealClose .. | .sealCommit .. | .commitComplete ..
  | .sealSetpw .. | .sealRoll .. | .sealDiscard .. | .sealIdleTimeout | .secSealLogwinRead .. | .laneCheckDecision .. | .laneStateCopy
  | .laneRetire .. | .moduleCheckDecision .. | .kalmerFrameReceived .. | .kalmerLinkChange .. | .peerLost .. | .roleChange | .redClaim .. | .redJoin
  | .redAbandon | .redHandover .. | .redRejoin | .axolotlSnapshotLoad | .axolotlComplete | .healthTelegramSend | .recorderSnapshot
  | .mramControllerFault | .recMark | .recRecover .. | .recClear .. | .recorderClearComplete | .recorderInit .. | .sqtailDoorbell ..
  | .cqheadDoorbell .. | .snapDoorbell .. | .nop .. | .regWrite .. | .regRead .. | .snapCopy .. | .recRead .. | .rxBuf .. | .completionWrite ..
  | .dmaError .. | .rxItemDelivery | .ringEnable .. | .ringDisable .. | .ringStopped .. | .hifSemRead .. | .hifSemWrite .. | .hostLinkUp ..
  | .hostLinkLoss .. | .msixMessage .. | .msixModerationExpiry .. | .counterSnapshot | .snapshotBankComplete | .tadpoleBoot .. | .mrExtend ..
  | .attestationGo | .attestationComplete | .fwCtrlWrite .. | .fwWindowWrite .. | .fwCheck .. | .fwCheckComplete | .fwActivate .. | .fwConfirm ..
  | .fwAbort .. | .lifecycleCommand .. | .lifecycleCommandComplete | .secureStoreWrite | .secureStoreErase | .tamperTrip .. | .backupDomainPowerUp
  | .crystalStop | .rtcFracRead .. | .rtcHalt .. | .internalPps | .trimWindowStart | .autotrimComplete | .leapSecond | .tocal | .fromcal | .live
  | .ioLockoutEnter | .ioLockoutEnd | .rtcAlarm | .wakeInput .. | .powerStateRequest .. | .powerStateEntry .. | .wakeExit .. | .powerOnReset ..
  | .brownOut .. | .resetPin .. | .hostModuleReset .. | .hostIslandReset .. | .railFault .. | .hostPerst .. | .gnssRfFault .. | .canReceiveError ..
  | .crystalRestart | .calendarConversionComplete => true

end Sys2Proof
end

