-- ==== Sys2Proof/Tests/Slice0.lean ====
section
/-! SUPPORT. Small tests of one step each, ill-formed commands that `Instr.wf` turns away, and for every statement with hypotheses states
and operands that meet them. What a test expects is written from the rules that the statement of the same commands names. -/

set_option Elab.async false

namespace Sys2Proof.Tests

open Sys2Proof Sys2Proof.Machine

/-- A state after reset with some fields set. -/
def st (l : List (Fld × Nat)) : State := l.foldl (fun s p => s.put p.1 p.2) State.reset
/-- The same with the time base loaded, at an instant in ns. -/
def at' (l : List (Fld × Nat)) (ns : Nat) : State :=
  let s := st ((F.TIM_STATUS_READY, 1) :: l)
  { s with tim := { s.tim with ctr := ⟨ns / 1000000000, ns % 1000000000, 0⟩ } }
/-- The frames run, and the instant is a number of ns past 1 s. -/
def fr (l : List (Fld × Nat)) (ns : Nat) : State := at' ((F.FRM_STATUS_RUNNING, 1) :: l) (1000000000 + ns)
/-- An epoch with no channel, on second 1, that carries STEP. -/
def epoch : Epoch := ⟨1000000000, 1, 0, 1000, 1, 0, 1, [0, 0, 0, 0], [0, 0, 0, 0], 0, []⟩
/-- A solution with a position fix. -/
def sol : GnssSol := ⟨200, 900, 25, false, true, 1, 2, 3, 4, 5, 6, (2000, 0, 0), 0, []⟩
/-- A descriptor with a tag, from its operation and the words behind byte 8. -/
def desc (opc : Nat) (ws : List Nat) (started : Bool) (done : Option (Nat × Nat × Nat)) : Desc :=
  ⟨opc, 0, 7, padTo 64 (leBytes 1 opc ++ [0#8] ++ leBytes 2 7 ++ leBytes 4 0 ++ wordBytes ws), 1, 0, started, done⟩
/-- Ring 15 of port 1, enabled, holds some descriptors. -/
def ring' (l : List (Fld × Nat)) (ds : List Desc) : State :=
  (st ([(F.HIF_STATUS_READY, 1), (F.HIF_Q_CFG_EN 1 15, 1), (F.HIF_Q_CFG_SIZE 1 15, 4), (F.HIF_Q_STAT_STATE 1 15, 1)] ++ l)).modRing 1 15
    (fun r => { r with queue := ds })
/-- A snapshot of zeros with its CRC (R496). -/
def snapBytes : List Byte := List.replicate 65532 0#8 ++ beBytes 4 (crc32c (List.replicate 65532 0#8))
/-- The state a command leaves. -/
def after (i : Instr) (s : State) : State := match exec i s with
  | .next t => t
  | _ => s

/-! ### Order of a step -/

/-- Two commands wait: a step takes the first, and the second is left. -/
theorem test_queue_order : ∃ t, step { State.reset with pending := [.snapDoorbell 1, .frmStart] } = .next t ∧ t.pending = [.frmStart] ∧
    t.flag F.FRM_STATUS_STARTING = false := ⟨_, rfl, by decide +kernel⟩
/-- No row of the table gives bits. -/
theorem test_no_words : decodeTableWord 32 0 = none ∧ State.reset.withFetchWord 32 0 = State.reset := ⟨rfl, rfl⟩
/-- Two registers of the index's worked example. -/
theorem test_register_index : (F.ALC_D_CURVE_VALUE 3 2 1).off = 0x810344 ∧ (F.CLE_L_HOT_HOT 5).off = 0x721658 := by decide
/-- Reset values: TIM_DISC.SLEW reads 100, and PWR_STATUS state 0. -/
theorem test_reset : State.reset.get F.TIM_DISC_SLEW = 100 ∧ State.reset.powerState = 0 := by decide +kernel

/-! ### Worked examples of the spec -/

/-- Latitude 58.4321° N in host memory and on the wire. -/
theorem test_byte_order : leBytes 4 584321000 = [0xE8#8, 0x07#8, 0xD4#8, 0x22#8] ∧ beBytes 4 584321000 = [0x22#8, 0xD4#8, 0x07#8, 0xE8#8] := by
  decide
/-- Differences of linear time across the wrap of 64 bits. -/
theorem test_linear_time : linDiff (2 ^ 64 - 1000) 3000 = -4000 ∧ linDiff 0 3000 = -3000 ∧ linDiff 3000 3000 = 0 := by decide
/-- The calendar port on leap years of the Gregorian calendar. -/
theorem test_calendar : (⟨32, none⟩ : Offsets).fromCivil ⟨2000, 2, 29, 0, 0, 0⟩ = some 951782432 ∧ dowOf 11016 = 2 ∧
    (⟨32, none⟩ : Offsets).fromCivil ⟨2100, 2, 29, 0, 0, 0⟩ = none ∧
    (⟨37, none⟩ : Offsets).toCivil (4107542399 + 37) = some ⟨2100, 2, 28, 23, 59, 59⟩ ∧
    (⟨37, none⟩ : Offsets).toCivil (4107542400 + 37) = some ⟨2100, 3, 1, 0, 0, 0⟩ ∧ dowOf 47541 = 1 := by decide +kernel
/-- Coefficients of a low-pass section. -/
theorem test_quantise : quantise (Fl.ratio 241359 1000000000) = ((518315, 31), false) ∧ quantise (Fl.ratio 482718 1000000000) = ((1036629, 31), false) ∧
    quantise (Fl.ratio (-1955578) 1000000) = ((-2099785889, 30), false) ∧ quantise (Fl.ratio 956543436 1000000000) = ((2054161387, 31), false) := by
  decide +kernel
/-- Its response to a step of 1,000,000 from zero states. -/
theorem test_section : (Section.run [(518315, 31), (1036629, 31), (518315, 31), (-2099785889, 30), (2054161387, 31)] [0, 0, 0, 0] 1000000).2.1 = 241 ∧
    (Section.run [(518315, 31), (1036629, 31), (518315, 31), (-2099785889, 30), (2054161387, 31)] [1000000, 0, 241, 0] 1000000).2.1 = 1195 := by
  decide +kernel
/-- The plan of the plug carriage lasts 2.3 s and is at 541.667 steps after 0.15 s, to 1/1,000 step. -/
theorem test_plan : let p := (planSegs (Fl.ofInt 40000) Fl.zero Fl.zero (Fl.ofInt 20000) (Fl.ofInt 100000) (Fl.ofInt 1000000)).1
    ((PrfPlan.total ⟨p, Fl.zero, Fl.zero, Fl.zero, 0, none⟩).mul (Fl.ofInt 1000000)).rne = 2300000 ∧
    ((walkSegs p (Fl.ratio 15 100) Fl.zero Fl.zero Fl.zero).1.mul (Fl.ofInt 1000)).rne = 541667 := by decide +kernel
/-- The check value of the CRC-32C over the digits 1 to 9. -/
theorem test_crc32c : crc32c [49#8, 50#8, 51#8, 52#8, 53#8, 54#8, 55#8, 56#8, 57#8] = 0xE3069283 := by decide +kernel
/-- SHA-384 of "abc" begins with CB00753F (FIPS 180-4). -/
theorem test_sha384 : (sha384 [97#8, 98#8, 99#8]).take 4 = [0xCB#8, 0x00#8, 0x75#8, 0x3F#8] := by decide +kernel

/-! ### Ill-formed commands -/

/-- More CIC samples than inputs. -/
theorem test_wf_acq : (Instr.acqStage 0 (List.replicate 97 [0])).wf = false := by decide
/-- Two records from one peer, and one of 31 words. -/
theorem test_wf_mir : (Instr.mirStage 0 0 [⟨0, List.replicate 32 0⟩, ⟨0, List.replicate 32 0⟩]).wf = false ∧
    (Instr.mirStage 0 0 [⟨1, List.replicate 31 0⟩]).wf = false := by decide
/-- More CIC samples than inputs in an overrun. -/
theorem test_wf_overrun : (Instr.stageOverrun 0 0 (List.replicate 97 [0]) none).wf = false := by decide
/-- A frame shorter than its header. -/
theorem test_wf_frame : (Instr.ethFrameReceived 0 true 0 (List.replicate 13 0#8)).wf = false := by decide
/-- An Announce priority of nine bits. -/
theorem test_wf_announce : (Instr.ptpAnnounceReceived 0 0 ⟨256, 0, 0, 0, 0, 0, 0, 0⟩).wf = false := by decide
/-- A datagram longer than 1,472 bytes. -/
theorem test_wf_datagram : (Instr.iec450Datagram 0 0 0 (List.replicate 1473 0#8)).wf = false := by decide +kernel
/-- A search of four passes. -/
theorem test_wf_dwell : (Instr.acqDwellComplete 0 0 [[], [], [], []]).wf = false := by decide
/-- A Sync message with 1,000,000,000 ns. -/
theorem test_wf_sync : (Instr.ptpSyncReceived 0 ⟨0, 0, 1000000000, 0, 0, 0⟩).wf = false := by decide
/-- A latitude beyond the pole. -/
theorem test_wf_solution : (Instr.gnssSolution { sol with lat := 900000001 }).wf = false := by decide
/-- A CAN FD frame whose data is shorter than its length code says. -/
theorem test_wf_can : (Instr.canFrameReceived 0 ⟨1, false, false, true, false, false, 9, List.replicate 11 0#8⟩ 0).wf = false := by decide
/-- A stored record of 255 bytes. -/
theorem test_wf_record : (Instr.recordWrite (some (List.replicate 255 0#8))).wf = false := by decide +kernel
/-- A descriptor of 63 bytes. -/
theorem test_wf_descriptor : (Instr.descriptorFetch true (List.replicate 63 0#8)).wf = false := by decide
/-- A correction buffer of 4,097 bytes. -/
theorem test_wf_rtcm : (Instr.rtcmSubmit 0 0 (List.replicate 4097 0#8)).wf = false := by decide +kernel
/-- A raw frame of 1,515 bytes. -/
theorem test_wf_ethTx : (Instr.ethTx 0 0 (List.replicate 1515 0#8)).wf = false := by decide +kernel
/-- After reset the contactor and trigger balls are low, the step outputs are not driven (R631). -/
theorem test_balls_reset : ((List.finRange 16).all fun i => (State.reset.coBall i == .low) && (State.reset.trigBall i == .low) &&
    (State.reset.stepBall i == .highZ)) = true := by decide +kernel
/-- A step pulse of 50 units of 4 ns, 199 ns after its edge and 200 ns after (R382). -/
theorem test_step_pulse : ((at' [] 1199).modPrf (fun p => { p with steps := setNth p.steps 3 ⟨true, [], 0, 0, 0, 1, some 1000⟩ })).stepPulse 3 = true ∧
    ((at' [] 1200).modPrf (fun p => { p with steps := setNth p.steps 3 ⟨true, [], 0, 0, 0, 1, some 1000⟩ })).stepPulse 3 = false := by decide +kernel

/-! ### One step of a command -/

/-- A clause of `Obligations.SequencerCommands` on one state. -/
theorem test_frm_start :
  (after (.frmStart) (st [])).flag F.FRM_STATUS_STARTING = true :=
  by decide +kernel

/-- A clause of `Obligations.SequencerCommands` on one state. -/
theorem test_sequencer_start :
  (∃ t, t = after (.sequencerStart) (at' [(F.FRM_STATUS_STARTING, 1)] 2000000000) ∧ t.flag F.FRM_STATUS_STARTING = false ∧ t.flag
    F.FRM_STATUS_RUNNING = true) :=
  ⟨_, rfl, by decide +kernel⟩

/-- A clause of `Obligations.StagesComplete` on one state. -/
theorem test_ctl_stage :
  (after (.ctlStage ((1000 : Fin 1001))) (fr [] 90000)).get (F.FRM_STAGE_CONSEC 2) = 0 :=
  by decide +kernel

/-- A clause of `Obligations.StageOverruns` on one state. -/
theorem test_stage_overrun :
  (∃ t, t = after (.stageOverrun ((0 : Fin 9)) (128) ([]) none) (fr [] 60000) ∧ t.bit F.FRM_OVR_STAGE ((0 : Fin 9)) = true ∧ t.get
    (F.FRM_UTIL_LAST ((0 : Fin 9))) = 1023) :=
  ⟨_, rfl, by decide +kernel⟩

/-- A clause of `Obligations.CounterLoadAndSteps` on one state. -/
theorem test_tim_step_go :
  (after (.timStepGo) (st [(F.TIM_STEP_NS_VALUE, 999999999)])).flag F.TIM_STATUS_STEP_PENDING = true :=
  by decide +kernel

/-- A clause of `Obligations.DisciplineCommands` on one state. -/
theorem test_holdover_limit :
  (after (.holdoverLimit) ({ at' [(F.TIM_STATUS_STATE, 3), (F.TIM_HOLD_LIMIT, 0)] 10000000000 with freeCtr := 0 })).flag
    F.TIM_STATUS_HOLD_EXCEEDED = true :=
  by decide +kernel

/-- A clause of `Obligations.CompareCommands` on one state. -/
theorem test_compare_arm :
  (after (.compareArm ((15 : Fin 16))) (at' [(F.TIM_CMP_TGT_LO_TGT 15, 8)] 7)).flag (F.TIM_CMP_CTRL_ARM ((15 : Fin 16))) = true :=
  by decide +kernel

/-- A clause of `Obligations.CompareCommands` on one state. -/
theorem test_trig_pulse_end :
  (∃ t, t = after (.trigPulseEnd ((15 : Fin 16))) (let s := at' [] 9;
    { s with tim := { s.tim with pulseEnd := setNth s.tim.pulseEnd 15 (some 9) } }) ∧ nth t.tim.pulseEnd ((15 : Fin 16)) none = none ∧
    t.flag (F.TIM_CMP_STATUS_OUT ((15 : Fin 16))) = false) :=
  ⟨_, rfl, by decide +kernel⟩

/-- A clause of `Obligations.AlarmAndLeap` on one state. -/
theorem test_rtc_alarm :
  (∃ t, t = after (.rtcAlarm) (let s := st [(F.RTC_PWR_ALARM_EN, 1), (F.RTC_ALARM_LO_SEC, 7), (F.RTC_STATUS_READY, 1)];
    { s with rtc := { s.rtc with count := 7 * 65536 } }) ∧ t.flag F.RTC_PWR_ALMF = true ∧ t.flag F.RTC_PWR_PWR_EN = true ∧ t.flag
    F.RTC_PWR_ALARM_EN = false) :=
  ⟨_, rfl, by decide +kernel⟩

/-- A clause of `Obligations.AlarmAndLeap` on one state. -/
theorem test_leap_second :
  (after (.leapSecond) (st [(F.RTC_TAIUTC_OFS, 37), (F.RTC_LEAP_NEXT, 38), (F.RTC_LEAP_EN, 1)])).flag F.RTC_LEAP_EN = false :=
  by decide +kernel

/-- A clause of `Obligations.BackupPowerAndLockout` on one state. -/
theorem test_crystal_stop :
  (∃ t, t = after (.crystalStop) (st [(F.RTC_STATUS_READY, 1)]) ∧ t.rtc.stopped = true ∧ t.flag F.RTC_STATUS_VALID = false ∧ t.flag
    F.RTC_STATUS_OSCSTOP = true) :=
  ⟨_, rfl, by decide +kernel⟩

/-- A clause of `Obligations.BackupPowerAndLockout` on one state. -/
theorem test_wake_input :
  (∃ t, t = after (.wakeInput false) (st [(F.RTC_STATUS_READY, 1), (F.RTC_PWR_WAKE, 1), (F.RTC_PWR_WAKE_EN, 1), (F.RTC_PWR_WAKEPOL, 1)]) ∧
    t.flag F.RTC_PWR_WAKEF = true ∧ t.flag F.RTC_PWR_PWR_EN = true) :=
  ⟨_, rfl, by decide +kernel⟩

/-- A clause of `Obligations.ClockCount` on one state. -/
theorem test_rtc_halt :
  (∃ t, t = after (.rtcHalt true) (st [(F.RTC_STATUS_READY, 1)]) ∧ t.flag F.RTC_CTRL_HALT = true ∧ t.rtc.wroteSec = false) :=
  ⟨_, rfl, by decide +kernel⟩

/-- A clause of `Obligations.ReadOfTheCount` on one state. -/
theorem test_rtc_frac_read :
  (after (.rtcFracRead (1)) (st [(F.RTC_STATUS_READY, 0)])).hostData = 0 :=
  by decide +kernel

/-- A clause of `Obligations.GnssChannels` on one state. -/
theorem test_gnss_enable :
  (∃ t, t = after (.gnssEnable) (st []) ∧ t.flag F.GNS_CTRL_EN = true ∧ t.gns.starting = true) :=
  ⟨_, rfl, by decide +kernel⟩

/-- A clause of `Obligations.GnssChannels` on one state. -/
theorem test_gnss_track_lock :
  (∃ t, t = after (.gnssTrackLock ((191 : Fin 192)) ([])) (let s := at' [(F.GNS_CH_STATUS_STATE 191, 3)] 7; s.modGch 191 (fun c =>
    { c with trk := { c.trk with lockMs := 100, settled := true, sync := true } })) ∧ t.gst ((191 : Fin 192)) = 4 ∧ (t.gch ((191 : Fin
    192))).slip = 0) :=
  ⟨_, rfl, by decide +kernel⟩

/-- A clause of `Obligations.GnssChannels` on one state. -/
theorem test_gnss_track_loss :
  (after (.gnssTrackLoss ((191 : Fin 192)) ([])) (let s := st [(F.GNS_CH_STATUS_STATE 191, 4), (F.GNS_LOSS_LOSS_T, 0)]; s.modGch 191 (fun c
    => { c with trk := { c.trk with lossMs := 10 } }))).gst ((191 : Fin 192)) = 5 :=
  by decide +kernel

/-- A clause of `Obligations.GnssEpochsAndPps` on one state. -/
theorem test_spoof_clear :
  (after (.spoofClear) (at' [(F.GNS_STATUS_SPOOF, 1)] 60000000000)).flag F.GNS_STATUS_SPOOF = false :=
  by decide +kernel

/-- A clause of `Obligations.GnssEpochsAndPps` on one state. -/
theorem test_pps_pulse_end :
  (∃ t, t = after (.ppsPulseEnd) (let s := at' [] 2000000000; { s with gns := { s.gns with ppsOut := true, ppsEnd := some 2000000000 } }) ∧
    t.gns.ppsOut = false ∧ t.gns.ppsEnd = none) :=
  ⟨_, rfl, by decide +kernel⟩

/-- A clause of `Obligations.SignalInputs` on one state. -/
theorem test_sig_channel_timeout :
  (∃ t, t = after (.sigChannelTimeout ((95 : Fin 96)))
    (let s := st [(F.SIG_S_CFG_EN 95, 1), (F.SIG_S_CFG_TMO 95, 15), (F.SIG_S_STAT_VALID 95, 1)]; s.modChan 95 (fun c =>
    { c with age := 65536 })) ∧ t.flag (F.SIG_S_STAT_VALID ((95 : Fin 96))) = false ∧ (t.chan ((95 : Fin 96))).timedOut = true) :=
  ⟨_, rfl, by decide +kernel⟩

/-- A clause of `Obligations.SignalInputs` on one state. -/
theorem test_sig_bank_switch :
  (after (.sigBankSwitch ((95 : Fin 96)) ((1 : Fin 2))) (let s := st []; s.modChan 95 (fun c => { c with bankK := 1 }))).flag F.SIG_ERR_BUSY
    = true :=
  by decide +kernel

/-- A clause of `Obligations.SignalInputs` on one state. -/
theorem test_afe_calibration_complete :
  (∃ t, t = after (.afeCalibrationComplete true) (st []) ∧ t.flag F.SIG_STATUS_READY = true ∧ t.bit F.PWR_READY_READY 6 = true) :=
  ⟨_, rfl, by decide +kernel⟩

/-- A clause of `Obligations.SignalInputs` on one state. -/
theorem test_exc_overload :
  (after (.excOverload ((3 : Fin 4))) (st [(F.SIG_EXC_EN, 8)])).bit F.SIG_STATUS_EXC_FAULT ((3 : Fin 4)) = true :=
  by decide +kernel

/-- A clause of `Obligations.AlignmentStreams` on one state. -/
theorem test_aln_stream_reconfigure :
  (∃ t, t = after (.alnStreamReconfigure ((31 : Fin 32))) (st [(F.ALN_ST_CFG_KIND 31, 3), (F.ALN_ST_CFG_EN 31, 1), (F.ALN_ST_CFG_MODE 31,
    1), (F.ALN_ST_CH_CH0 31, 1), (F.ALN_ST_CH_CH1 31, 127), (F.ALN_ST_CH_CH2 31, 127), (F.ALN_ST_CH_CH3 31, 127), (F.ALN_ST_Q_Q 31 0,
    1073741824), (F.ALN_ST_LAT0_NS 31, 4294967295)]) ∧ t.get (F.ALN_ST_STAT_STATE ((31 : Fin 32))) = 1 ∧ t.flag (F.ALN_ST_STAT_CFG_ERR ((31
    : Fin 32))) = false ∧ t.get (F.ALN_ST_RATE_RATE ((31 : Fin 32))) = 0) :=
  ⟨_, rfl, by decide +kernel⟩

/-- A clause of `Obligations.EstimatorTracks` on one state. -/
theorem test_track_timeout :
  ((after (.trackTimeout ((15 : Fin 16))) (let s := at' [] 12000000000; s.modRef 15 (fun c => { c with st := 2, m := 0 }))).ref ((15 : Fin
    16))).st = 3 :=
  by decide +kernel

/-- A clause of `Obligations.EstimatorTracks` on one state. -/
theorem test_est_reinit :
  (∃ t, t = after (.estReinit) (let s := at' [(F.EST_GK_STATUS_ACTIVE, 1)] 7; s.modEst (fun e => { e with st := 4 })) ∧ t.est.st = 1 ∧
    t.flag F.EST_GK_STATUS_ACTIVE = false) :=
  ⟨_, rfl, by decide +kernel⟩

/-- A clause of `Obligations.ArbitrationAndGecko` on one state. -/
theorem test_outvote_hold_expiry :
  (∃ t, t = after (.outvoteHoldExpiry ((15 : Fin 16))) (let s := st [(F.EST_ARB_HR_STAT_STATE 3, 3), (F.EST_ARB_TIME_HOLD, 0)]; s.modRef 15
    (fun c => { c with outAt := some (2 ^ 64 - 1000000000) })) ∧ t.suspect ((15 : Fin 16)) = true ∧ t.get (arbStateF ((15 : Fin 16))) = 4 ∧
    (t.ref ((15 : Fin 16))).outAt = none) :=
  ⟨_, rfl, by decide +kernel⟩

/-- A clause of `Obligations.ArbitrationAndGecko` on one state. -/
theorem test_gecko_tlim :
  (∃ t, t = after (.geckoTlim) ((at' [(F.EST_GK_CFG_TLIM, 0), (F.EST_GK_STATUS_ACTIVE, 1)] 1000000000).modEst (fun e =>
    { e with st := 4, gkAt := 0 })) ∧ t.est.st = 1 ∧ t.flag F.EST_GK_STATUS_ACTIVE = false ∧ t.flag F.EST_GK_STATUS_EXPIRED = true) :=
  ⟨_, rfl, by decide +kernel⟩

/-- A clause of `Obligations.ControlLoops` on one state. -/
theorem test_cmd_main :
  ((after (.cmdMain ((47 : Fin 48))) (let s := st []; s.modLoop 47 (fun c => { c with path := 3 }))).loop ((47 : Fin 48))).toMain = true :=
  by decide +kernel

/-- A clause of `Obligations.ControlLoops` on one state. -/
theorem test_cle_pidchk_commit :
  (after (.clePidchkCommit ((1 : Fin 2)) ((47 : Fin 48)) ((0#32 : Word))) (let s := let s := st []; s.modLoop 47 (fun c =>
    { c with mat := true }); { s with frm := { s.frm with level := 255 } })).flag F.CLE_ERR_CHK = true :=
  by decide +kernel

/-- A clause of `Obligations.ControlLoops` on one state. -/
theorem test_osat_saturation_count :
  ((after (.osatSaturationCount ((47 : Fin 48))) (let s := st [(F.CLE_L_HOT_SATT 47, 1)]; s.modLoop 47 (fun c =>
    { c with path := 1, satMain := 1 }))).loop ((47 : Fin 48))).trig = some 1 :=
  by decide +kernel

/-- A clause of `Obligations.ModeCommands` on one state. -/
theorem test_joystick_timeout :
  (∃ t, t = after (.joystickTimeout) ((st []).modMd (fun m => { m with joyOk := true })) ∧ t.cle.md.jlost = true ∧ t.cle.md.joyOk = false) :=
  ⟨_, rfl, by decide +kernel⟩

/-- A clause of `Obligations.ModeCommands` on one state. -/
theorem test_press_loss :
  (after (.pressLoss) ((st []).modMd (fun m => { m with gapLow := 100 }))).cle.md.pressLoss = true :=
  by decide +kernel

/-- A clause of `Obligations.Thrusters` on one state. -/
theorem test_alc_thruster_fault :
  (∃ t, t = after (.alcThrusterFault ((15 : Fin 16)))
    (let s := st [(F.ALC_T_RES_WORD 15 0, 99), (F.ALC_T_RES_WORD 15 1, 98), (F.ALC_T_RES_WORD 15 4, 97)]; s.modThr 15 (fun c =>
    { c with st := 1 })) ∧ (t.thr ((15 : Fin 16))).st = 5 ∧ (t.thr ((15 : Fin 16))).trans = none ∧ t.get (F.ALC_T_STAT_STATE ((15 : Fin
    16))) = 5) :=
  ⟨_, rfl, by decide +kernel⟩

/-- A clause of `Obligations.EnvelopesAndEnergy` on one state. -/
theorem test_envelope_stale :
  (∃ t, t = after (.envelopeStale ((3 : Fin 4))) (let s := st [(F.ALC_ENV_CFG_TMO 3, 0)]; s.modEnv 3 (fun c =>
    { c with st := 2, gap := 10 })) ∧ (t.envOf ((3 : Fin 4))).st = 3 ∧ (t.envOf ((3 : Fin 4))).cnt = 0 ∧ t.get ⟨0x800280, 2 * ((3 : Fin 4))
    + 1, 2 * ((3 : Fin 4))⟩ = 3) :=
  ⟨_, rfl, by decide +kernel⟩

/-- A clause of `Obligations.EnvelopesAndEnergy` on one state. -/
theorem test_consequence_alarm :
  (∃ t, t = after (.consequenceAlarm ((23 : Fin 24))) (let s := st [(F.ALC_CQ_CTRL_ALARM_T, 0)]; s.modGroup 23 (fun c =>
    { c with inf := 10 })) ∧ (t.group ((23 : Fin 24))).alarm = true ∧ t.flag (F.ALC_FG_STAT_ALARM ((23 : Fin 24))) = true ∧ t.bit
    F.ALC_CQ_ALARM_GROUP ((23 : Fin 24)) = true) :=
  ⟨_, rfl, by decide +kernel⟩

/-- A clause of `Obligations.AxisCommands` on one state. -/
theorem test_prf_move :
  (∃ t, t = after (.prfMove ((31 : Fin 32))) (let s := st [(F.PRF_P_SMAX_VALUE 31, 1000), (F.PRF_P_TGT_TARGET 31, 1000), (F.PRF_P_V_LIM 31,
    100), (F.PRF_P_STAT_CAUSE 31, 3)]; s.modAxis 31 (fun c => { c with st := 1 })) ∧ (t.axis ((31 : Fin 32))).st = 2 ∧ t.get
    (F.PRF_P_STAT_STATE ((31 : Fin 32))) = 2 ∧ (t.axis ((31 : Fin 32))).plan.isSome = true) :=
  ⟨_, rfl, by decide +kernel⟩

/-- A clause of `Obligations.AxisCommands` on one state. -/
theorem test_prf_abort :
  (∃ t, t = after (.prfAbort ((31 : Fin 32))) (let s := st [(F.PRF_P_STAT_PEND 31, 1)]; s.modAxis 31 (fun c =>
    { c with st := 2, pend := some 4 })) ∧ (t.axis ((31 : Fin 32))).st = 4 ∧ t.get (F.PRF_P_STAT_STATE ((31 : Fin 32))) = 4 ∧ (t.axis ((31 :
    Fin 32))).pend = none) :=
  ⟨_, rfl, by decide +kernel⟩

/-- A clause of `Obligations.AxisCommands` on one state. -/
theorem test_prf_resume :
  (∃ t, t = after (.prfResume ((31 : Fin 32))) (let s := st []; s.modAxis 31 (fun c => { c with st := 7 })) ∧ (t.axis ((31 : Fin 32))).st =
    6 ∧ t.get (F.PRF_P_STAT_STATE ((31 : Fin 32))) = 6) :=
  ⟨_, rfl, by decide +kernel⟩

/-- A clause of `Obligations.CanControllers` on one state. -/
theorem test_can_init_set :
  (∃ t, t = after (.canInitSet ((7 : Fin 8)))
    (let s := at' [(F.CAN_CTRL_INIT 7, 0), (F.CAN_STATUS_STATE 7, 3), (F.CAN_STATUS_TXING 7, 1)] 1000000; s.modCan 7 (fun c =>
    { c with tx := [] })) ∧ t.flag (F.CAN_CTRL_INIT ((7 : Fin 8))) = true ∧ (t.canCtl ((7 : Fin 8))).cur = none ∧ t.flag (F.CAN_STATUS_TXING
    ((7 : Fin 8))) = false) :=
  ⟨_, rfl, by decide +kernel⟩

/-- A clause of `Obligations.CanControllers` on one state. -/
theorem test_can_recovery_complete :
  (∃ t, t = after (.canRecoveryComplete ((7 : Fin 8))) (st [(F.CAN_CTRL_INIT 7, 0), (F.CAN_STATUS_RECOV 7, 1), (F.CAN_STATUS_STATE 7, 3),
    (F.CAN_ERRCNT_TEC 7, 256)]) ∧ t.flag (F.CAN_STATUS_RECOV ((7 : Fin 8))) = false ∧ t.get (F.CAN_ERRCNT_TEC ((7 : Fin 8))) = 0 ∧ t.get
    (F.CAN_ERRCNT_REC ((7 : Fin 8))) = 0) :=
  ⟨_, rfl, by decide +kernel⟩

/-- A clause of `Obligations.CanBuffers` on one state. -/
theorem test_can_lock_timeout :
  (∃ t, t = after (.canLockTimeout ((1 : Fin 2)) ((7 : Fin 8))) (let s := at' [] 1000000; s.modCan 7 (fun c =>
    { c with locks := [none, some ⟨0, 0⟩] })) ∧ t.canLock ((7 : Fin 8)) ((1 : Fin 2)) = none ∧ t.flag (F.CAN_ERR_LOCKTO ((7 : Fin 8))) =
    true) :=
  ⟨_, rfl, by decide +kernel⟩

/-- A clause of `Obligations.CanBuffers` on one state. -/
theorem test_can_txfflush :
  (after (.canTxfflush ((7 : Fin 8))) (let s := at' [] 1000000; s.modCan 7 (fun c => { c with tx := [⟨[], false⟩] }))).get
    (F.CAN_FIFO_TXFILL ((7 : Fin 8))) = 0 :=
  by decide +kernel

/-- A clause of `Obligations.CanTraffic` on one state. -/
theorem test_tlg_feedback_timeout :
  (after (.tlgFeedbackTimeout ((15 : Fin 16))) (at' [(F.CAN_TLG_CFG_EN 15, 1), (F.CAN_TLG_FBTMO_MS 15, 1)] 1000000)).flag
    (F.CAN_TLG_STAT_FBLOST ((15 : Fin 16))) = true :=
  by decide +kernel

/-- A clause of `Obligations.EthernetPorts` on one state. -/
theorem test_ptp_announce_timeout :
  (∃ t, t = after (.ptpAnnounceTimeout ((1 : Fin 4))) (let s := at' [(F.ETH_STATUS_LINK 0, 1), (F.ETH_CFG_ENABLE 0, 1), (F.ETH_STATUS_LINK
    1, 1), (F.ETH_CFG_ENABLE 1, 1), (F.ETH_PTPCFG_EN 1, 1), (F.ETH_PTPCFG_LOGANN 1, 0)] 3000000000; { s with eth :=
    { s.eth with ports := modNth s.eth.ports 1 (fun x => { x with annAt := 0, best := some (⟨128, 6, 33, 20000, 128, 77, 0, 77⟩ : PtpSet) }) }
    }) ∧ (t.port ((1 : Fin 4))).best = none ∧ (t.port ((1 : Fin 4))).annMiss = 0) :=
  ⟨_, rfl, by decide +kernel⟩

/-- A clause of `Obligations.IslandStatesAndTicks` on one state. -/
theorem test_clock_monitor_check :
  (∃ t, t = after (.clockMonitorCheck ((20001 : Int)) ((0 : Int)) ((-10 : Int))) (st []) ∧ t.flag F.SAF_STATUS_TCXO_FAULT = true ∧ t.flag
    F.SAF_STATUS_CLK_RC = true) :=
  ⟨_, rfl, by decide +kernel⟩

/-- A clause of `Obligations.IslandInputsAndContactors` on one state. -/
theorem test_discrepancy_lock :
  (∃ t, t = after (.discrepancyLock ((31 : Fin 32))) (st [(F.SAF_STATUS_STATE, 2), (F.SAF_SI_STATE 31, 3), (F.SAF_SI_DISC 31, 1)]) ∧ t.get
    (F.SAF_SI_STATE ((31 : Fin 32))) = 4 ∧ t.bit F.SAF_INLOCK_SI ((31 : Fin 32)) = true ∧ t.bit F.SAF_DEMAND_SI ((31 : Fin 32)) = true) :=
  ⟨_, rfl, by decide +kernel⟩

/-- A clause of `Obligations.IslandInputsAndContactors` on one state. -/
theorem test_contactor_feedback_timeout :
  (∃ t, t = after (.contactorFeedbackTimeout ((15 : Fin 16)))
    (let s := st [(F.SAF_STATUS_STATE, 2), (F.SAF_CO_AUX_STATE 15, 3), (F.SAF_CO_CFG_TFB 15, 1)]; s.modCon 15 (fun c =>
    { c with t := 1, cmd := true })) ∧ t.coSt ((15 : Fin 16)) = 8 ∧ t.get (F.SAF_CO_AUX_LCAUSE ((15 : Fin 16))) = 2 ∧ t.bit
    F.SAF_CO_LOCK_LOCK ((15 : Fin 16)) = true) :=
  ⟨_, rfl, by decide +kernel⟩

/-- A clause of `Obligations.IslandInputsAndContactors` on one state. -/
theorem test_cat1_delay_expiry :
  (∃ t, t = after (.cat1DelayExpiry ((15 : Fin 16)))
    (let s := st [(F.SAF_STATUS_STATE, 2), (F.SAF_CO_AUX_STATE 15, 5), (F.SAF_CO_AUX_DELAY 15, 1)]; s.modCon 15 (fun c =>
    { c with cmd := true })) ∧ t.coSt ((15 : Fin 16)) = 6 ∧ (t.con ((15 : Fin 16))).cmd = false ∧ t.bit F.SAF_CO_OUT_OUT ((15 : Fin 16)) =
    false) :=
  ⟨_, rfl, by decide +kernel⟩

/-- A clause of `Obligations.SafeTelegrams` on one state. -/
theorem test_connection_watchdog_expiry :
  (∃ t, t = after (.connectionWatchdogExpiry ((7 : Fin 8))) (st [(F.SAF_STATUS_STATE, 2), (F.SAF_CONN_STAT_STATE 7, 2), (F.SAF_CONN_WDT_WDT
    7, 1)]) ∧ t.get (F.SAF_CONN_STAT_STATE ((7 : Fin 8))) = 3 ∧ (t.conn ((7 : Fin 8))).news = 0) :=
  ⟨_, rfl, by decide +kernel⟩

/-- A clause of `Obligations.SealOpenAndClose` on one state. -/
theorem test_seal_open :
  (∃ t, t = after (.sealOpen ((1 : Fin 2))) (let s := st [(F.SEC_SEAL_STAT_STATE, 1), (F.SEC_SEAL_STAT_FAILS, 255)];
    { s with sld := { s.sld with pw := List.replicate 16 0x41414141, pwLen := 8 } }) ∧ t.sld.pwLen = 0 ∧ t.sealSt = 1) :=
  ⟨_, rfl, by decide +kernel⟩

/-- A clause of `Obligations.SealOpenAndClose` on one state. -/
theorem test_seal_discard :
  (∃ t, t = after (.sealDiscard ((1 : Fin 2)))
    (let s := st [(F.SEC_SEAL_STAT_STATE, 2), (F.SEC_SEAL_STAT_PORT, 1), (F.SEC_SEAL_STAT_PEND, 1)];
    { s with sld := { s.sld with pend := [(0xC00028, 1)] } }) ∧ t.get F.SEC_SEAL_STAT_PEND = 0 ∧ t.sealSt = 2) :=
  ⟨_, rfl, by decide +kernel⟩

/-- A clause of `Obligations.Recorder` on one state. -/
theorem test_rec_recover :
  (∃ t, t = after (.recRecover true) (st [(F.REC_STATUS_STATE, 2)]) ∧ t.recSt = 1 ∧ t.get F.REC_BAD_CONSEC = 0) :=
  ⟨_, rfl, by decide +kernel⟩

/-- A clause of `Obligations.Recorder` on one state. -/
theorem test_recorder_clear_complete :
  (∃ t, t = after (.recorderClearComplete) (let s := st [(F.REC_STATUS_STATE, 3), (F.REC_STATUS_WRAPPED, 1), (F.REC_BADMAP_WORD 1, 1)];
    { s with rcd := { s.rcd with slots := [(5, [1]), (32, [2])] } }) ∧ t.recSt = 1 ∧ t.flag F.REC_STATUS_PERMFULL = false ∧ t.flag
    F.REC_STATUS_WRAPPED = false) :=
  ⟨_, rfl, by decide +kernel⟩

/-- A clause of `Obligations.BootAndMeasurement` on one state. -/
theorem test_mr_extend :
  (after (.mrExtend ((5 : Fin 8))) (st [])).flag F.SEC_ERR_MR = true :=
  by decide +kernel

/-- A clause of `Obligations.FirmwareAndLifeCycle` on one state. -/
theorem test_fw_check :
  (after (.fwCheck ((1 : Fin 2))) (let s := st [(F.SEC_FW_STAT_STATE, 1), (F.SEC_FW_STAT_OWNER, 1)];
    { s with sec := { s.sec with fwOwned := true } })).get F.SEC_FW_STAT_STATE = 2 :=
  by decide +kernel

/-- A clause of `Obligations.FirmwareAndLifeCycle` on one state. -/
theorem test_fw_abort :
  (∃ t, t = after (.fwAbort ((1 : Fin 2))) (let s := st [(F.SEC_FW_STAT_STATE, 4), (F.SEC_FW_STAT_OWNER, 1)];
    { s with sec := { s.sec with fwOwned := true } }) ∧ t.get F.SEC_FW_STAT_STATE = 0 ∧ t.get F.SEC_FW_STAT_RESULT = 0 ∧ t.sec.fwOwned =
    false) :=
  ⟨_, rfl, by decide +kernel⟩

/-- A clause of `Obligations.FirmwareAndLifeCycle` on one state. -/
theorem test_lifecycle_command :
  (∃ t, t = after (.lifecycleCommand ((1 : Fin 2)) ((0 : Fin 8))) (st [(F.SEC_LC_PENDING, 7)]) ∧ t.flag F.SEC_LC_ERR_REFUSED = true ∧ t.get
    F.SEC_LC_ERR_REASON = 1 ∧ t.sec.lcJob = none) :=
  ⟨_, rfl, by decide +kernel⟩

/-- A clause of `Obligations.HostRings` on one state. -/
theorem test_ring_enable :
  (∃ t, t = after (.ringEnable ((1 : Fin 2)) ((15 : Fin 16)) ((0x40#32 : Word))) (st [(F.HIF_Q_STAT_STATE 1 15, 2), (F.HIF_Q_STAT_SQHEAD 1
    15, 9), (F.HIF_Q_STAT_CQTAIL 1 15, 9)]) ∧ t.flag (F.HIF_Q_CFG_EN ((1 : Fin 2)) ((15 : Fin 16))) = true ∧ t.get (F.HIF_Q_STAT_STATE ((1 :
    Fin 2)) ((15 : Fin 16))) = 1 ∧ t.get (F.HIF_Q_STAT_SQHEAD ((1 : Fin 2)) ((15 : Fin 16))) = 0) :=
  ⟨_, rfl, by decide +kernel⟩

/-- A clause of `Obligations.HostRings` on one state. -/
theorem test_ring_disable :
  (∃ t, t = after (.ringDisable ((1 : Fin 2)) ((15 : Fin 16)) ((0#32 : Word))) (ring' [] [(desc 0 [] true (some (0, 1, 2)))]) ∧ t.flag
    (F.HIF_Q_CFG_EN ((1 : Fin 2)) ((15 : Fin 16))) = false ∧ t.get (F.HIF_Q_STAT_STATE ((1 : Fin 2)) ((15 : Fin 16))) = 2) :=
  ⟨_, rfl, by decide +kernel⟩

/-- A clause of `Obligations.HostRings` on one state. -/
theorem test_cqhead_doorbell :
  (∃ t, t = after (.cqheadDoorbell ((1 : Fin 2)) ((15 : Fin 16)) ((15#32 : Word))) ((ring' [(F.HIF_Q_STAT_CQTAIL 1 15, 15)] []).modRing 1 15
    (fun r => { r with unread := 2, irq := true })) ∧ (t.ring ((1 : Fin 2)) ((15 : Fin 16))).unread = 0 ∧ (t.ring ((1 : Fin 2)) ((15 : Fin
    16))).irq = false ∧ (t.hp ((1 : Fin 2))).told = 0) :=
  ⟨_, rfl, by decide +kernel⟩

/-- A clause of `Obligations.HostPorts` on one state. -/
theorem test_host_link_up :
  (∃ t, t = after (.hostLinkUp ((1 : Fin 2)) true ((2 : Fin 3))) (st []) ∧ t.linkUp ((1 : Fin 2)) = true ∧ t.flag F.HIF_STATUS_READY = true
    ∧ t.bit F.PWR_READY_READY 3 = true) :=
  ⟨_, rfl, by decide +kernel⟩

/-- A clause of `Obligations.HostSemaphores` on one state. -/
theorem test_hif_sem_read :
  (after (.hifSemRead ((1 : Fin 2)) ((63 : Fin 64))) (st [])).flag (F.HIF_SEM_TAKEN ((63 : Fin 64))) = true :=
  by decide +kernel

/-- A clause of `Obligations.HostSemaphores` on one state. -/
theorem test_hif_sem_write :
  (after (.hifSemWrite ((1 : Fin 2)) ((63 : Fin 64)) ((2#32 : Word))) (st [(F.HIF_SEM_TAKEN 63, 1), (F.HIF_SEM_OWNER 63, 1)])).flag
    (F.HIF_SEM_TAKEN ((63 : Fin 64))) = false :=
  by decide +kernel

/-- A clause of `Obligations.LanesAndLinks` on one state. -/
theorem test_lane_state_copy :
  (∃ t, t = after (.laneStateCopy) (let s := st []; { s with red := { s.red with copy := true } }) ∧ t.red.copy = false ∧ t.frm.supOk =
    false ∧ t.twin = none) :=
  ⟨_, rfl, by decide +kernel⟩

/-- A clause of `Obligations.LanesAndLinks` on one state. -/
theorem test_peer_lost :
  (∃ t, t = after (.peerLost ((2 : Fin 3))) (st [(F.RED_PEER_STAT_SEEN 2, 1), (F.RED_STATUS_PEERS, 4), (F.RED_CFG_LINKTMO, 1)]) ∧ t.seen ((2
    : Fin 3)) = false ∧ t.bit F.RED_STATUS_PEERS ((2 : Fin 3)) = false) :=
  ⟨_, rfl, by decide +kernel⟩

/-- A clause of `Obligations.RolesAndAxolotl` on one state. -/
theorem test_role_change :
  (∃ t, t = after (.roleChange) (let s := st [(F.RED_STATUS_ROLE, 0), (F.RED_CFG_POS, 2)];
    { s with red := { s.red with move := some .claim, newest := 65535 } }) ∧ t.role = 1 ∧ t.flag F.RED_STATUS_INCMD = true ∧ t.flag
    F.RED_STATUS_SYNC = false) :=
  ⟨_, rfl, by decide +kernel⟩

/-- A clause of `Obligations.RolesAndAxolotl` on one state. -/
theorem test_red_rejoin :
  (∃ t, t = after (.redRejoin) (st []) ∧ t.flag F.RED_ERR_REFUSED = true ∧ t.get F.RED_ERR_REASON = 1) :=
  ⟨_, rfl, by decide +kernel⟩

/-- A clause of `Obligations.PowerAndReset` on one state. -/
theorem test_power_state_request :
  (after (.powerStateRequest ((1 : Fin 8))) (st [(F.PWR_WAKEEN_PERST0, 1), (F.SEC_LC_PENDING, 7)])).flag F.PWR_STATUS_PENDING = true :=
  by decide +kernel

/-- A clause of `Obligations.PowerAndReset` on one state. -/
theorem test_brown_out :
  (∃ t, t = after (.brownOut ((2 : Fin 3))) (st []) ∧ t.flag F.PWR_RSTCAUSE_BOR = true ∧ t.powerState = 0 ∧ t.bit F.PWR_RAIL_LOWSEEN ((2 :
    Fin 3)) = true) :=
  ⟨_, rfl, by decide +kernel⟩

/-- A clause of `Obligations.PowerAndReset` on one state. -/
theorem test_reset_pin :
  (∃ t, t = after (.resetPin ((10 : Nat))) (st [(F.RED_STATUS_ROLE, 2)]) ∧ t.flag F.PWR_RSTCAUSE_PIN = true ∧ t.powerState = 0 ∧ t.role = 0) :=
  ⟨_, rfl, by decide +kernel⟩

/-- A clause of `Obligations.PowerAndReset` on one state. -/
theorem test_rail_fault :
  (∃ t, t = after (.railFault 0 0) (st [(F.SAF_STATUS_STATE, 2)]) ∧ t.get F.SAF_STATUS_STATE = 3 ∧ t.get F.SAF_STATUS_CAUSE = 3 ∧ t.bit
    F.PWR_RAIL_LOWSEEN 3 = true) :=
  ⟨_, rfl, by decide +kernel⟩

/-- A clause of `Obligations.HostAccess` on one state. -/
theorem test_host_register_write :
  (after (.hostRegisterWrite ((1 : Fin 2)) ((0x100008#26 : BitVec 26)) 4 ((0#64 : BitVec 64))) (st [(F.GLB_ACCERR_RO_WRITE, 1)])).flag
    F.GLB_ACCERR_RO_WRITE = true :=
  by decide +kernel

/-- A clause of `Obligations.HostAccess` on one state. -/
theorem test_read_clear :
  (∃ t, t = after (.readClear ((1 : Fin 2)) (BitVec.ofNat 26 (F.CAN_STATUS_LEC ((7 : Fin 8))).off)) (st [(F.CAN_STATUS_LEC 7, 3),
    (F.CAN_STATUS_DLEC 7, 5), (F.CAN_STATUS_STATE 7, 2)]) ∧ t.get (F.CAN_STATUS_LEC ((7 : Fin 8))) = 7 ∧ t.get (F.CAN_STATUS_DLEC ((7 : Fin
    8))) = 7) :=
  ⟨_, rfl, by decide +kernel⟩

/-- A clause of `Obligations.HostAccess` on one state. -/
theorem test_host_read_unmapped :
  (after (.hostReadUnmapped ((1 : Fin 2)) false ((0x1100000#26 : BitVec 26)) 4) (st [])).hostData = 0 :=
  by decide +kernel

/-! ### Witnesses of hypotheses -/

/-- A queue with a command in front. -/
theorem witness_StepIsExecOfFront : ∃ (s : State) (c : Instr) (rest : List Instr), s.pending = c :: rest :=
  ⟨{ State.reset with pending := [.frmStart, .live] }, .frmStart, [.live], rfl⟩
/-- An empty queue, and one with a command. -/
theorem witness_StepTakesTheFront : (∃ s : State, s.pending = []) ∧ (∃ s t : State, s.pending ≠ [] ∧ step s = .next t) :=
  ⟨⟨State.reset, rfl⟩, { State.reset with pending := [.frmStart] }, _, by decide, rfl⟩
/-- A command that answers a next state. -/
theorem witness_CommandFrame : ∃ (i : Instr) (s t : State), exec i s = .next t := ⟨.frmStart, State.reset, _, rfl⟩
/-- A step from a canonical state. -/
theorem witness_StepKeepsCanonical : ∃ s t : State, s.Inv ∧ s.pending ≠ [] ∧ step s = .next t :=
  ⟨{ State.reset with pending := [.frmStart] }, _, by unfold State.Inv; decide +kernel, by decide, rfl⟩
/-- A step that draws a free value. -/
theorem witness_FreeValuesAreFresh : ∃ s t : State, step s = .next t ∧ s.freeCtr < t.freeCtr :=
  ⟨{ State.reset with pending := [.powerOnReset 0 0] }, _, rfl, by decide +kernel⟩
/-- A command outside `movesTime`. -/
theorem witness_OnlyTimeCommandsMoveTime : ∃ (i : Instr) (s t : State), movesTime i = false ∧ exec i s = .next t :=
  ⟨.frmStart, State.reset, _, rfl, rfl⟩

/-- States and operands that meet the hypotheses of each clause of `Obligations.SequencerCommands`. -/
theorem witness_SequencerCommands :
  (∃ (s : State), s.flag F.FRM_STATUS_RUNNING = false) ∧
  (∃ (s : State), s.flag F.FRM_STATUS_RUNNING = true) ∧
  (∃ (s : State), s.now % 10000000 * 2 ^ 32 + s.tim.ctr.sub < s.edgeStep ∧ s.flag F.FRM_STATUS_STARTING = true ∧ s.ready = true) ∧
  (∃ (s : State), s.inCommand = false ∧ s.sec.lc ≠ 3) ∧
  (∃ (s : State), s.inCommand = true ∨ s.sec.lc = 3) :=
  ⟨⟨st [], by decide +kernel⟩,
   ⟨st [(F.FRM_STATUS_RUNNING, 1)], by decide +kernel⟩,
   ⟨at' [(F.FRM_STATUS_STARTING, 1)] 2000000000, by decide +kernel⟩,
   ⟨st [], by decide +kernel⟩,
   ⟨{ st [] with sec := { State.reset.sec with lc := 3 } }, by decide +kernel⟩⟩

/-- States and operands that meet the hypotheses of each clause of `Obligations.StagesComplete`. -/
theorem witness_StagesComplete :
  (∃ (s : State), s.stageOpen 0) ∧
  (∃ (s : State), s.stageOpen 1) ∧
  (∃ (s : State), s.stageOpen 2) ∧
  (∃ (s : State), s.stageOpen 3) ∧
  (∃ (s : State), s.stageOpen 4) ∧
  (∃ (s : State), s.stageOpen 5) ∧
  (∃ (s : State), s.stageOpen 6) ∧
  (∃ (s : State), s.stageOpen 7) ∧
  (∃ (s : State), s.stageOpen 8) :=
  ⟨⟨fr [] 0, by decide +kernel⟩,
   ⟨fr [] 90000, by decide +kernel⟩,
   ⟨fr [] 90000, by decide +kernel⟩,
   ⟨fr [] 155000, by decide +kernel⟩,
   ⟨fr [] 215000, by decide +kernel⟩,
   ⟨fr [] 2600000, by decide +kernel⟩,
   ⟨fr [] 2600000, by decide +kernel⟩,
   ⟨fr [] 4600000, by decide +kernel⟩,
   ⟨fr [] 5600000, by decide +kernel⟩⟩

/-- States and operands that meet the hypotheses of each clause of `Obligations.StageOverruns`. -/
theorem witness_StageOverruns :
  (∃ (s : State) (stage : Fin 9), s.stageFree stage = true ∧ s.endsHere stage) ∧
  (∃ (s : State) (stage : Fin 9), s.stageFree stage = true ∧ s.endsHere stage) ∧
  (∃ (s : State) (stage : Fin 9), s.stageFree stage = true ∧ s.endsHere stage ∧ s.get (F.FRM_STAGE_CONSEC stage) = 2) ∧
  (∃ (s : State) (stage : Fin 9), s.twin = none ∧ s.dualLane = true ∧ s.stageFree stage = true ∧ s.forcedOver stage = false ∧ s.endsHere
    stage) ∧
  (∃ (s : State) (stage : Fin 9), s.twin = none ∧ s.dualLane = true ∧ s.stageFree stage = true ∧ s.forcedOver stage = false ∧ s.endsHere
    stage) :=
  ⟨⟨fr [] 60000, 0, by decide +kernel⟩,
   ⟨fr [] 5500000, 8, by decide +kernel⟩,
   ⟨fr [(F.FRM_STAGE_CONSEC 8, 2)] 5600000, 8, by decide +kernel⟩,
   ⟨fr [] 4500000, 6, by decide +kernel⟩,
   ⟨fr [] 0, 0, by decide +kernel⟩⟩

/-- States and operands that meet the hypotheses of each clause of `Obligations.ReleaseOnce`. -/
theorem witness_ReleaseOnce :
  (∃ (s : State), s.framesOn = true ∧ s.ready = true ∧ s.counterOk ∧ bitOf s.frm.done 9 = false ∧ s.now % 250000 ≤ 230004) ∧
  (∃ (s : State), s.framesOn = true ∧ s.ready = true ∧ s.counterOk ∧ bitOf s.frm.done 9 = false ∧ s.now % 250000 ≤ 230004) ∧
  (∃ (s : State), bitOf s.frm.done 9 = true) :=
  ⟨⟨fr [(F.RED_STATUS_LANES, 3)] 230004, by decide +kernel⟩,
   ⟨fr [(F.RED_STATUS_LANES, 0)] 230000, by decide +kernel⟩,
   ⟨let s := fr [] 230000; { s with frm := { s.frm with done := 512 } }, by decide +kernel⟩⟩

/-- States and operands that meet the hypotheses of each clause of `Obligations.TicksReachGrid`. -/
theorem witness_TicksReachGrid :
  (∃ (s : State), s.ready = true ∧ s.counterOk ∧ s.tim.step = none) ∧
  (∃ (s : State), s.ready = true ∧ s.counterOk ∧ s.tim.step = none ∧ s.flag F.FRM_CTRL_HOLD = false ∧ s.frm.releaseAll = false ∧ s.twin =
    none) ∧
  (∃ (s : State), s.ready = true ∧ s.counterOk ∧ s.tim.step = none) ∧
  (∃ (s : State), s.ready = true ∧ s.counterOk ∧ s.tim.step = none) :=
  ⟨⟨at' [] 1249999, by decide +kernel⟩,
   ⟨let s := fr [] 249999; { s with frm := { s.frm with pend := [⟨0x400010, 1, 0⟩] } }, by decide +kernel⟩,
   ⟨at' [] 9999999, by decide +kernel⟩,
   ⟨at' [] 999999999, by decide +kernel⟩⟩

/-- States and operands that meet the hypotheses of each clause of `Obligations.CounterLoadAndSteps`. -/
theorem witness_CounterLoadAndSteps :
  (∃ (s : State), s.ready = false ∧ s.flag F.RTC_STATUS_VALID = true) ∧
  (∃ (s : State), s.ready = false ∧ s.flag F.RTC_STATUS_VALID = false) ∧
  (∃ (s : State), s.ready = true) ∧
  (∃ (s : State), s.get F.TIM_DISC_MODE = 0 ∧ (s.getI F.TIM_STEP_NS_VALUE).natAbs ≤ 999999999) ∧
  (∃ (s : State), s.get F.TIM_DISC_MODE ≠ 0 ∨ 999999999 < (s.getI F.TIM_STEP_NS_VALUE).natAbs) ∧
  (∃ (s : State) (p : _), s.ready = true ∧ s.counterOk ∧ s.tim.step = some p ∧ p.req ≤ s.now) :=
  ⟨⟨let s := st [(F.RTC_STATUS_VALID, 1)]; { s with rtc := { s.rtc with count := 65535 } }, by decide +kernel⟩,
   ⟨st [], by decide +kernel⟩,
   ⟨at' [] 7, by decide +kernel⟩,
   ⟨st [(F.TIM_STEP_NS_VALUE, 999999999)], by decide +kernel⟩,
   ⟨st [(F.TIM_DISC_MODE, 1)], by decide +kernel⟩,
   ⟨let s := at' [] 999999990; { s with tim := { s.tim with step := some ⟨5, 7⟩ } }, (⟨5, 7⟩ : PendStep), by decide +kernel⟩⟩

/-- States and operands that meet the hypotheses of each clause of `Obligations.DisciplineCommands`. -/
theorem witness_DisciplineCommands :
  (∃ (s : State), s.get F.TIM_DISC_MODE = 1 ∧ s.get F.TIM_STATUS_STATE = 0 ∧ s.tim.gnssCount = 9) ∧
  (∃ (s : State) (p : Fin 4) (sy : PtpSync), sy.domain = s.get (F.ETH_PTPCFG_DOMAIN 0) ∧ s.get (F.ETH_STATUS_PTP_STATE p) = 9) ∧
  (∃ (s : State) (p : Fin 4) (sy : PtpSync), s.get (F.ETH_STATUS_PTP_STATE p) ≠ 9 ∨ sy.domain ≠ s.get (F.ETH_PTPCFG_DOMAIN 0)) ∧
  (∃ (s : State) (p : Fin 4) (sy : PtpSync), s.get (F.ETH_STATUS_PTP_STATE p) ≠ 9 ∨ sy.domain ≠ s.get (F.ETH_PTPCFG_DOMAIN 0)) ∧
  (∃ (s : State), s.get F.TIM_DISC_MODE = 2 ∧ s.get F.TIM_STATUS_STATE = 2 ∧ s.get F.TIM_STATUS_SRC = 2 ∧ s.tim.ptpQual = true ∧ s.tim.ptpAt
    + 3 * logNs s.tim.ptpLog ≤ s.now) ∧
  (∃ (s : State), s.get F.TIM_STATUS_STATE = 3 ∧ s.get F.TIM_HOLD_LIMIT * 100 < s.holdUnc ∧ s.flag F.TIM_STATUS_HOLD_EXCEEDED = false) ∧
  (∃ (s : State) (val : Word), 1 ≤ s.get F.TIM_DISC_MODE ∧ s.get F.TIM_DISC_MODE ≤ 4 ∧ s.get F.TIM_STATUS_STATE ≠ 0 ∧ val.toNat % 8 = 0) ∧
  (∃ (s : State), s.get F.TIM_DISC_MODE = 1 ∧ s.get F.TIM_STATUS_STATE = 1 ∨ s.get F.TIM_STATUS_STATE = 2 ∧ s.get F.TIM_STATUS_SRC = 1 ∧ 9 ≤
    s.tim.gnssCount) ∧
  (∃ (s : State), s.tim.ptpQual = true ∨ s.tim.ptpCount ≠ 0 ∧ s.tim.ptpAt + 3 * logNs s.tim.ptpLog ≤ s.now) :=
  ⟨⟨let s := st [(F.TIM_DISC_MODE, 1)]; { s with tim := { s.tim with gnssCount := 9 } }, by decide +kernel⟩,
   ⟨st [(F.ETH_STATUS_PTP_STATE 3, 9)], 3, (⟨0, 1, 999999999, -70000, -7, 4⟩ : PtpSync), by decide +kernel⟩,
   ⟨st [], 3, (⟨0, 1, 999999999, -70000, -7, 4⟩ : PtpSync), by decide +kernel⟩,
   ⟨st [(F.ETH_STATUS_PTP_STATE 3, 9)], 3, (⟨255, 1, 999999999, -70000, -7, 4⟩ : PtpSync), by decide +kernel⟩,
   ⟨let s := at' [(F.TIM_DISC_MODE, 2), (F.TIM_STATUS_STATE, 2), (F.TIM_STATUS_SRC, 2)] 375000000;
     { s with tim := { s.tim with ptpQual := true, ptpAt := 0, ptpLog := -3 } }, by decide +kernel⟩,
   ⟨{ at' [(F.TIM_STATUS_STATE, 3), (F.TIM_HOLD_LIMIT, 0)] 10000000000 with freeCtr := 0 }, by decide +kernel⟩,
   ⟨st [(F.TIM_DISC_MODE, 4), (F.TIM_STATUS_STATE, 1)], 8#32, by decide +kernel⟩,
   ⟨let s := st [(F.TIM_DISC_MODE, 1), (F.TIM_STATUS_STATE, 1), (F.TIM_STATUS_SRC, 1)]; { s with tim := { s.tim with gnssCount := 9 } },
     by decide +kernel⟩,
   ⟨let s := at' [] 3000000000; { s with tim := { s.tim with ptpCount := 1, ptpAt := 0, ptpLog := 0 } }, by decide +kernel⟩⟩

/-- States and operands that meet the hypotheses of each clause of `Obligations.CompareCommands`. -/
theorem witness_CompareCommands :
  (∃ (s : State) (c : Fin 16), 0 > linDiff s.lin (s.cmpTarget c)) ∧
  (∃ (s : State) (c : Fin 16), s.tim.pulseEnd.length = 16 ∧ s.flag (F.TIM_CMP_CTRL_ARM c) = true ∧ -(2 ^ 63) < linDiff (s.cmpTarget c) s.lin
    ∧ s.reaches (s.now + (linDiff (s.cmpTarget c) s.lin).toNat)) ∧
  (∃ (s : State) (c : Fin 16) (e : _), s.tim.pulseEnd.length = 16 ∧ nth s.tim.pulseEnd c none = some e ∧ s.reaches e) ∧
  (∃ (s : State) (c : Fin 16), s.ready = true ∧ s.counterOk ∧ 0 ≤ linDiff s.lin (s.cmpTarget c) ∧ linDiff s.lin (s.cmpTarget c) < 2 ^ 62) :=
  ⟨⟨at' [(F.TIM_CMP_TGT_LO_TGT 15, 8)] 7, 15, by decide +kernel⟩,
   ⟨at' [(F.TIM_CMP_CTRL_ARM 15, 1), (F.TIM_CMP_TGT_LO_TGT 15, 249995)] 7, 15, by decide +kernel⟩,
   ⟨let s := at' [] 9; { s with tim := { s.tim with pulseEnd := setNth s.tim.pulseEnd 15 (some 9) } }, 15, 9, by decide +kernel⟩,
   ⟨at' [] 7, 15, by decide +kernel⟩⟩

/-- States and operands that meet the hypotheses of each clause of `Obligations.CaptureCommands`. -/
theorem witness_CaptureCommands :
  (∃ (s : State) (n : Fin 32) (rising : _), s.ready = true ∧ (if rising then s.capEdge n % 2 = 1 else s.capEdge n / 2 = 1) ∧ s.capPasses n
    rising = true ∧ s.bit F.TIM_CAPHOST_VALUE n = true ∧ s.tim.capFifo.length < 64 ∧ s.tim.capIn.length = 32) ∧
  (∃ (s : State) (e : _) (rest : _), s.tim.capFifo = e :: rest ∧ rest.length < 64) ∧
  (∃ (s : State), s.tim.capFifo = []) :=
  ⟨⟨let s := at' [(F.TIM_CAPHOST_VALUE, 4294967295), (F.TIM_CAPEDGE_1_VALUE, 1073741824)] 5;
    { s with tim := { s.tim with capFifo := List.replicate 63 ⟨1, 2, true⟩ } }, 31, true, by decide +kernel⟩,
   ⟨let s := at' [] 5; { s with tim := { s.tim with capFifo := List.replicate 64 ⟨1, 2, true⟩ } }, (⟨1, 2, true⟩ : Capture), List.replicate
     63 (⟨1, 2, true⟩ : Capture), by decide +kernel⟩,
   ⟨at' [(F.TIM_CAPFIFO_INFO_VALUE, 7)] 5, by decide +kernel⟩⟩

/-- States and operands that meet the hypotheses of each clause of `Obligations.AlarmAndLeap`. -/
theorem witness_AlarmAndLeap :
  (∃ (s : State), s.flag F.RTC_PWR_ALARM_EN = true ∧ 0 ≤ secDiff s.rtcSec (s.get48 F.RTC_ALARM_LO_SEC F.RTC_ALARM_HI_SEC) ∧ s.get
    F.RTC_ALARM_PER_PER = 0 ∧ s.flag F.RTC_STATUS_READY = true) ∧
  (∃ (s : State), s.flag F.RTC_PWR_ALARM_EN = false ∨ secDiff s.rtcSec (s.get48 F.RTC_ALARM_LO_SEC F.RTC_ALARM_HI_SEC) < 0) ∧
  (∃ (s : State) (nx : _) (at' : _), s.offsets.next = some (nx, at') ∧ 0 ≤ secDiff s.rtcSec at' ∧ s.flag F.RTC_CTRL_HALT = false) ∧
  (∃ (s : State), s.flag F.RTC_PWR_ALARM_EN = true ∧ 0 ≤ secDiff s.rtcSec (s.get48 F.RTC_ALARM_LO_SEC F.RTC_ALARM_HI_SEC) ∧ s.get
    F.RTC_ALARM_PER_PER ≠ 0) :=
  ⟨⟨let s := st [(F.RTC_PWR_ALARM_EN, 1), (F.RTC_ALARM_LO_SEC, 7), (F.RTC_STATUS_READY, 1)];
    { s with rtc := { s.rtc with count := 7 * 65536 } }, by decide +kernel⟩,
   ⟨let s := st [(F.RTC_PWR_ALARM_EN, 1), (F.RTC_ALARM_LO_SEC, 7)]; { s with rtc := { s.rtc with count := 6 * 65536 + 65535 } },
     by decide +kernel⟩,
   ⟨st [(F.RTC_TAIUTC_OFS, 37), (F.RTC_LEAP_NEXT, 38), (F.RTC_LEAP_EN, 1)], 38, 0, by decide +kernel⟩,
   ⟨let s := st [(F.RTC_PWR_ALARM_EN, 1), (F.RTC_ALARM_LO_SEC, 7), (F.RTC_ALARM_PER_PER, 1)];
     { s with rtc := { s.rtc with count := 9 * 65536 } }, by decide +kernel⟩⟩

/-- States and operands that meet the hypotheses of each clause of `Obligations.BackupPowerAndLockout`. -/
theorem witness_BackupPowerAndLockout :
  (∃ (s : State), s.flag F.RTC_STATUS_READY = true) ∧
  (∃ (s : State), s.flag F.RTC_STATUS_READY = false ∧ (∀ e ∈ s.rtc.held, e < 256)) ∧
  (∃ (s : State) (level : _), s.flag F.RTC_STATUS_READY = true ∧ s.flag F.RTC_PWR_WAKE = !level ∧ s.flag F.RTC_PWR_WAKEPOL = !level ∧ s.flag
    F.RTC_PWR_WAKE_EN = true) :=
  ⟨⟨st [(F.RTC_STATUS_READY, 1)], by decide +kernel⟩,
   ⟨let s := st [(F.RTC_STATUS_READY, 0)]; { s with rtc := { s.rtc with held := [255, 0] } }, by decide +kernel⟩,
   ⟨st [(F.RTC_STATUS_READY, 1), (F.RTC_PWR_WAKE, 1), (F.RTC_PWR_WAKE_EN, 1), (F.RTC_PWR_WAKEPOL, 1)], false, by decide +kernel⟩⟩

/-- States and operands that meet the hypotheses of each clause of `Obligations.ClockCount`. -/
theorem witness_ClockCount :
  (∃ (s : State), s.flag F.RTC_STATUS_READY = true ∧ s.flag F.RTC_CTRL_HALT = false) ∧
  (∃ (s : State), s.flag F.RTC_STATUS_READY = false) ∧
  (∃ (s : State), s.flag F.RTC_STATUS_READY = true) :=
  ⟨⟨st [(F.RTC_STATUS_READY, 1)], by decide +kernel⟩,
   ⟨st [(F.RTC_STATUS_READY, 0)], by decide +kernel⟩,
   ⟨let s := st [(F.RTC_STATUS_READY, 1), (F.RTC_CTRL_HALT, 1)]; { s with rtc := { s.rtc with wroteSec := true } }, by decide +kernel⟩⟩

/-- States and operands that meet the hypotheses of each clause of `Obligations.ClockTrimAndLoad`. -/
theorem witness_ClockTrimAndLoad :
  (∃ (s : State) (n : _), s.rtc.trimDue = some n ∧ s.flag F.RTC_STATUS_READY = true) ∧
  (∃ (s : State), s.rtc.k = 0) ∧
  (∃ (s : State), s.ready = true ∧ s.tim.ctr.sec ≠ s.rtc.ppsSec ∧ s.flag F.RTC_CTRL_LOADPPS = true) ∧
  (∃ (s : State), s.ready = true ∧ s.tim.ctr.sec ≠ s.rtc.ppsSec ∧ s.flag F.RTC_CTRL_LOADPPS = false) ∧
  (∃ (s : State), s.rtc.trimDue = none ∧ s.ready = true ∧ s.tim.ctr.sec ≠ s.rtc.ppsSec ∧ s.flag F.RTC_CTRL_LOADPPS = false ∧ s.flag
    F.RTC_CTRL_AUTOSYNC = true ∧ s.get F.TIM_STATUS_STATE = 2 ∧ max (s.get F.RTC_CTRL_SYNCTHR) 1 < (toInt 64 ((s.rtc.count + 2 ^ 64 -
    s.tim.ctr.sec % 2 ^ 48 * 65536) % 2 ^ 64)).natAbs) :=
  ⟨⟨let s := st [(F.RTC_STATUS_READY, 1)]; { s with rtc := { s.rtc with trimDue := some 33571612 } }, 33571612, by decide +kernel⟩,
   ⟨st [(F.RTC_TRIM_VALUE, 65535)], by decide +kernel⟩,
   ⟨at' [(F.RTC_CTRL_LOADPPS, 1), (F.RTC_LOAD_LO_SEC, 9)] 1000000000, by decide +kernel⟩,
   ⟨at' [] 1000000000, by decide +kernel⟩,
   ⟨at' [(F.RTC_CTRL_AUTOSYNC, 1), (F.TIM_STATUS_STATE, 2), (F.RTC_CTRL_SYNCTHR, 0)] 1000000000, by decide +kernel⟩⟩

/-- States and operands that meet the hypotheses of each clause of `Obligations.CalendarCommands`. -/
theorem witness_CalendarCommands :
  (∃ (s : State) (c : _), s.flag F.RTC_CAL_STAT_BUSY = false ∧ s.offsets.toCivil (s.get48 F.RTC_CAL_SEC_LO_SEC F.RTC_CAL_SEC_HI_SEC) = some
    c) ∧
  (∃ (s : State) (n : _), s.flag F.RTC_CAL_STAT_BUSY = false ∧ s.offsets.fromCivil s.calInput = some n) ∧
  (∃ (s : State), s.flag F.RTC_CAL_STAT_BUSY = false ∧ s.offsets.fromCivil s.calInput = none ∧ s.flag F.RTC_STATUS_READY = true) ∧
  (∃ (s : State) (c : _), s.flag F.RTC_CAL_STAT_BUSY = false ∧ s.offsets.toCivil s.rtcSec = some c) ∧
  (∃ (s : State) (a : _) (b : _), s.flag F.RTC_CAL_STAT_BUSY = true ∧ s.rtc.conv = [(0x110003C, a), (0x1100040, b)]) ∧
  (∃ (s : State), s.flag F.RTC_CAL_STAT_BUSY = true ∧ (s.rtc.conv.map Prod.fst).Nodup ∧ F.RTC_CAL_STAT_BUSY.off ∉ s.rtc.conv.map Prod.fst) ∧
  (∃ (s : State), s.flag F.RTC_CAL_STAT_BUSY = true) :=
  ⟨⟨st [(F.RTC_CAL_SEC_LO_SEC, 37)], (⟨1970, 1, 1, 0, 0, 0⟩ : Civil), by decide +kernel⟩,
   ⟨st [(F.RTC_CAL_DATE_DAY, 1), (F.RTC_CAL_DATE_MONTH, 1), (F.RTC_CAL_DATE_YEAR, 1970)], 37, by decide +kernel⟩,
   ⟨st [(F.RTC_STATUS_READY, 1), (F.RTC_CAL_DATE_MONTH, 13)], by decide +kernel⟩,
   ⟨let s := st []; { s with rtc := { s.rtc with count := 37 * 65536 } }, (⟨1970, 1, 1, 0, 0, 0⟩ : Civil), by decide +kernel⟩,
   ⟨let s := st [(F.RTC_CAL_STAT_BUSY, 1)]; { s with rtc := { s.rtc with conv := [(0x110003C, 4294967295), (0x1100040, 65535)] } },
     4294967295, 65535, by decide +kernel⟩,
   ⟨let s := st [(F.RTC_CAL_STAT_BUSY, 1)]; { s with rtc := { s.rtc with conv := [(0x110003C, 4294967295), (0x1100040, 65535)] } },
     by decide +kernel⟩,
   ⟨st [(F.RTC_CAL_STAT_BUSY, 1)], by decide +kernel⟩⟩

/-- States and operands that meet the hypotheses of each clause of `Obligations.ReadOfTheCount`. -/
theorem witness_ReadOfTheCount :
  (∃ (s : State), s.flag F.RTC_STATUS_READY = true) ∧
  (∃ (s : State), s.flag F.RTC_STATUS_READY = false) ∧
  (∃ (s : State) (v : Nat), s.flag F.RTC_STATUS_READY = true ∧ find1 s.shadow 0x1100004 = some v) ∧
  (∃ (s : State) (v : Nat), s.flag F.RTC_STATUS_READY = true ∧ find1 s.shadow 0x1100008 = some v) :=
  ⟨⟨let s := st [(F.RTC_STATUS_READY, 1)]; { s with rtc := { s.rtc with count := 65535 } }, by decide +kernel⟩,
   ⟨st [(F.RTC_STATUS_READY, 0)], by decide +kernel⟩,
   ⟨let s := st [(F.RTC_STATUS_READY, 1)]; { s with shadow := [(0x1100004, 5)] }, 5, by decide +kernel⟩,
   ⟨let s := st [(F.RTC_STATUS_READY, 1)]; { s with shadow := [(0x1100008, 5)] }, 5, by decide +kernel⟩⟩

/-- States and operands that meet the hypotheses of each clause of `Obligations.GnssChannels`. -/
theorem witness_GnssChannels :
  (∃ (s : State), s.flag F.GNS_CTRL_EN = false) ∧
  (∃ (s : State), s.flag F.GNS_CTRL_EN = true ∧ s.gns.starting = true) ∧
  (∃ (s : State) (kind : Fin 4), kind ≠ 0 ∧ s.flag F.GNS_STATUS_READY = true) ∧
  (∃ (s : State) (kind : Fin 4), kind ≠ 0 ∧ s.flag F.GNS_STATUS_READY = true) ∧
  (∃ (s : State) (kind : Fin 4), kind ≠ 0 ∧ s.flag F.GNS_STATUS_READY = true) ∧
  (∃ (s : State) (n : Fin 192) (bins : _) (ph : _), s.gns.chans.length = 192 ∧ s.gst n = 2 ∨ s.gst n = 5 ∧ (s.gch n).find.hit = none ∧
    (s.gch n).find.t + 10000 * max 1 (s.get F.GNS_ACQCFG_NCOH) ≤ s.now ∧ s.dwellPeak (s.searchOf n).win (nth bins 0 []) = some ph) ∧
  (∃ (s : State) (n : Fin 192) (bins : _) (ph : _), s.gns.chans.length = 192 ∧ s.gst n = 2 ∨ s.gst n = 5 ∧ (s.gch n).find.hit = none ∧
    (s.gch n).find.t + 10000 * max 1 (s.get F.GNS_ACQCFG_NCOH) ≤ s.now ∧ s.dwellPeak (s.searchOf n).win (nth bins 0 []) = some ph) ∧
  (∃ (s : State) (n : Fin 192) (bins : _), s.gns.chans.length = 192 ∧ s.gst n = 2 ∧ (s.gch n).find.hit = none ∧ (s.gch n).find.t + 10000 *
    max 1 (s.get F.GNS_ACQCFG_NCOH) ≤ s.now ∧ s.dwellPeak (s.searchOf n).win (nth bins 0 []) = none) ∧
  (∃ (s : State) (n : Fin 192) (bins : _), s.gns.chans.length = 192 ∧ s.gst n = 2 ∧ (s.gch n).find.hit = none ∧ (s.gch n).find.t + 10000 *
    max 1 (s.get F.GNS_ACQCFG_NCOH) ≤ s.now ∧ s.dwellPeak (s.searchOf n).win (nth bins 0 []) = none) ∧
  (∃ (s : State) (n : Fin 192) (bins : _), s.gns.chans.length = 192 ∧ s.gst n = 2 ∧ (s.gch n).find.hit = none ∧ (s.gch n).find.t + 10000 *
    max 1 (s.get F.GNS_ACQCFG_NCOH) ≤ s.now ∧ s.dwellPeak (s.searchOf n).win (nth bins 0 []) = none) ∧
  (∃ (s : State) (n : Fin 192) (r : _), s.gns.chans.length = 192 ∧ s.gst n = 1 ∧ (s.gch n).requeue = some r ∧ s.reaches (r + 1000000000)) ∧
  (∃ (s : State) (n : Fin 192) (ints : _), s.gns.chans.length = 192 ∧ s.gst n = 3 ∧ 100 ≤ ((s.integrateAll n ints).gch n).trk.lockMs ∧
    ((s.integrateAll n ints).gch n).trk.settled = true ∧ ((s.integrateAll n ints).gch n).trk.sync = true) ∧
  (∃ (s : State) (n : Fin 192), s.gst n = 3 ∧ s.reaches ((s.gch n).since + max 1 (s.get F.GNS_LOSS_PULLIN_T) * 10000000)) ∧
  (∃ (s : State) (n : Fin 192) (ints : _), s.gst n = 4 ∧ 10 * max 1 (s.get F.GNS_LOSS_LOSS_T) ≤ ((s.integrateAll n ints).gch n).trk.lossMs ∧
    s.frm.onceMajor.contains 34 = false) ∧
  (∃ (s : State) (n : Fin 192), s.gst n = 5 ∧ s.reaches ((s.gch n).since + max 1 (s.get F.GNS_LOSS_REACQ_T) * 100000000)) ∧
  (∃ (s : State) (n : Fin 192) (jump : _), s.gns.chans.length = 192 ∧ s.gst n = 4 ∧ 250 < jump) ∧
  (∃ (s : State) (n : Fin 192) (el : Int) (vl : Int), s.gns.chans.length = 192 ∧ s.gst n = 3 ∨ s.gst n = 4 ∧ el = max 4 (min 64 (s.get
    F.GNS_CORRCFG_EL)) ∧ vl = max el (s.get F.GNS_CORRCFG_VEVL)) ∧
  (∃ (s : State) (n : Fin 192) (el : Int) (vl : Int), s.gns.chans.length = 192 ∧ s.gst n = 3 ∨ s.gst n = 4 ∧ el = max 4 (min 64 (s.get
    F.GNS_CORRCFG_EL)) ∧ vl = max el (s.get F.GNS_CORRCFG_VEVL)) :=
  ⟨⟨st [], by decide +kernel⟩,
   ⟨{ st [(F.GNS_CTRL_EN, 1)] with gns := { State.reset.gns with starting := true } }, by decide +kernel⟩,
   ⟨st [(F.GNS_STATUS_READY, 1), (F.GNS_CH_STATUS_STATE 191, 4), (F.GNS_CH_STATUS_STATE 3, 2)], 3, by decide +kernel⟩,
   ⟨st [(F.GNS_STATUS_READY, 1), (F.GNS_CH_STATUS_STATE 191, 4), (F.GNS_CH_STATUS_STATE 3, 2)], 2, by decide +kernel⟩,
   ⟨st [(F.GNS_STATUS_READY, 1), (F.GNS_CH_STATUS_STATE 191, 4), (F.GNS_CH_STATUS_STATE 3, 2)], 1, by decide +kernel⟩,
   ⟨at' [(F.GNS_CH_STATUS_STATE 191, 2), (F.GNS_ACQCFG_VERIFY, 0), (F.GNS_ACQCFG_NCOH, 0)] 10000, 191, [[⟨[(5, 1000000)], 1⟩]], 5,
     by decide +kernel⟩,
   ⟨at' [(F.GNS_CH_STATUS_STATE 191, 2), (F.GNS_ACQCFG_VERIFY, 1), (F.GNS_ACQCFG_NCOH, 0)] 10000, 191, [[⟨[(5, 1000000)], 1⟩]], 5,
     by decide +kernel⟩,
   ⟨let s := at' [(F.GNS_CH_STATUS_STATE 191, 2), (F.GNS_ACQCFG_NCOH, 0), (F.GNS_ACQCFG_DOPP, 0)] 10000; s.modGch 191 (fun c =>
     { c with sig := 4 }), 191, [], by decide +kernel⟩,
   ⟨let s := at' [(F.GNS_CH_STATUS_STATE 191, 2), (F.GNS_ACQCFG_NCOH, 0), (F.GNS_ACQCFG_DOPP, 0)] 10000; s.modGch 191 (fun c =>
     { c with find := { c.find with bin := 1 } }), 191, [], by decide +kernel⟩,
   ⟨let s := at' [(F.GNS_CH_STATUS_STATE 191, 2), (F.GNS_ACQCFG_NCOH, 0), (F.GNS_ACQCFG_DOPP, 0)] 10000; s.modGch 191 (fun c =>
     { c with find := { c.find with bin := 2 } }), 191, [], by decide +kernel⟩,
   ⟨let s := at' [(F.GNS_CH_STATUS_STATE 191, 1)] 5000000000; { s with gns := { s.gns with searching := true } }.modGch 191 (fun c =>
     { c with requeue := some 4000249995 }), 191, 4000249995, by decide +kernel⟩,
   ⟨let s := at' [(F.GNS_CH_STATUS_STATE 191, 3)] 7; s.modGch 191 (fun c =>
     { c with trk := { c.trk with lockMs := 100, settled := true, sync := true } }), 191, [], by decide +kernel⟩,
   ⟨at' [(F.GNS_CH_STATUS_STATE 191, 3), (F.GNS_LOSS_PULLIN_T, 0)] 10000000, 191, by decide +kernel⟩,
   ⟨let s := st [(F.GNS_CH_STATUS_STATE 191, 4), (F.GNS_LOSS_LOSS_T, 0)]; s.modGch 191 (fun c =>
     { c with trk := { c.trk with lossMs := 10 } }), 191, [], by decide +kernel⟩,
   ⟨at' [(F.GNS_CH_STATUS_STATE 191, 5), (F.GNS_LOSS_REACQ_T, 1)] 100000000, 191, by decide +kernel⟩,
   ⟨st [(F.GNS_CH_STATUS_STATE 191, 4)], 191, 251, by decide +kernel⟩,
   ⟨st [(F.GNS_CH_STATUS_STATE 191, 3), (F.GNS_CORRCFG_EL, 0), (F.GNS_CORRCFG_VEVL, 0)], 191, 4, 4, by decide +kernel⟩,
   ⟨st [(F.GNS_CH_STATUS_STATE 191, 3), (F.GNS_CORRCFG_EL, 65), (F.GNS_CORRCFG_VEVL, 100)], 191, 64, 100, by decide +kernel⟩⟩

/-- States and operands that meet the hypotheses of each clause of `Obligations.GnssEpochsAndPps`. -/
theorem witness_GnssEpochsAndPps :
  (∃ (s : State), s.ready = true ∧ s.gns.stepEp = none ∧ s.flag F.GNS_CTRL_EN = true ∧ s.flag F.GNS_STATUS_READY = true ∧ s.gns.lastEpoch ≠
    some s.epochLin ∧ s.gns.edge = none) ∧
  (∃ (s : State), s.ready = true ∧ s.gns.stepEp = none ∧ s.gns.lastEpoch = some s.epochLin) ∧
  (∃ (s : State) (e : _), s.gns.latched = some e ∧ s.reaches (s.gns.latchAt + 1000000)) ∧
  (∃ (s : State) (e : _), s.gns.solving = some e ∧ s.reaches (s.gns.latchAt + 8000000)) ∧
  (∃ (s : State), s.flag F.GNS_STATUS_SPOOF = true ∧ s.gns.failAt + 60000000000 ≤ s.now) ∧
  (∃ (ovl : _) (pll : _), ovl || pll) ∧
  (∃ (s : State) (k : Fin 4) (r : _), s.gns.rf.length = 4 ∧ (s.rfc k).jamSince = some r ∧ (s.rfc k).jamRaised = false ∧ r + s.get
    (F.GNS_RF_JAMCFG_HOLD k) * 100000000 ≤ s.now) ∧
  (∃ (s : State), s.tim.ctr.ns < 1000000000 ∧ s.reaches (s.tim.ctr.sec * 1000000000 + 960000000) ∧ s.gns.msgAt ≠ some (s.tim.ctr.sec + 1) ∧
    s.gns.ppsFrom ≤ (s.tim.ctr.sec + 1) * 1000000000) ∧
  (∃ (s : State) (b : _), b = (s.now + 500000000) / 1000000000 ∧ s.ready = true ∧ s.gns.ppsOld = none ∧ (s.ppsPlace b).1 ≤ 0 ∧ s.gns.ppsAt ≠
    some b ∧ s.gns.ppsFrom ≤ b * 1000000000 ∧ s.ppsOn = true) ∧
  (∃ (s : State) (e : _), s.gns.ppsEnd = some e ∧ s.reaches e) ∧
  (∃ (s : State), s.ready = true ∧ s.gns.stepEp = none ∧ s.gnsOn = false ∧ s.gns.lastEpoch ≠ some s.epochLin ∧ s.gns.edge = none) :=
  ⟨⟨at' [(F.GNS_CTRL_EN, 1), (F.GNS_STATUS_READY, 1), (F.GNS_EPSEQ_SEQ, 4294967295)] 1000000000, by decide +kernel⟩,
   ⟨let s := at' [] 1000000000; { s with gns := { s.gns with lastEpoch := some 1000000000 } }, by decide +kernel⟩,
   ⟨let s := at' [(F.GNS_EPCFG_HOSTOUT, 1)] 1001000000; { s with gns := { s.gns with latched := some epoch, latchAt := 1000000000 } },
     epoch, by decide +kernel⟩,
   ⟨let s := at' [] 1008000000; { s with gns := { s.gns with solving := some epoch, latchAt := 1000000000 } }, epoch, by decide +kernel⟩,
   ⟨at' [(F.GNS_STATUS_SPOOF, 1)] 60000000000, by decide +kernel⟩,
   ⟨true, false, by decide +kernel⟩,
   ⟨let s := at' [(F.GNS_RF_JAMCFG_HOLD 3, 1)] 100000000; s.modRf 3 (fun c => { c with jamSince := some 0 }), 3, 0, by decide +kernel⟩,
   ⟨at' [(F.GNS_PPSCFG_MSG_HOST, 1),(F.GNS_PPSSEQ_SEQ, 4294967295)] 1960000000, by decide +kernel⟩,
   ⟨at' [(F.GNS_CTRL_EN, 1), (F.GNS_PPSCFG_MODE, 1)] 1999999996, 2, by decide +kernel⟩,
   ⟨let s := at' [] 2000000000; { s with gns := { s.gns with ppsOut := true, ppsEnd := some 2000000000 } }, 2000000000, by decide +kernel⟩,
   ⟨at' [] 1000000000, by decide +kernel⟩⟩

/-- States and operands that meet the hypotheses of each clause of `Obligations.SignalInputs`. -/
theorem witness_SignalInputs :
  (∃ (s : State) (u : Fin 12) (fe : Bool) (ago : _) (bytes : _), s.flag (F.SIG_UART_CFG_EN u) = true ∧ nth s.sig.uartAt u 0 ≤ s.now - ago ∧
    fe = true ∨ parseSentence (s.flag (F.SIG_UART_CFG_CKREQ u)) bytes = none ∧ s.frm.onceMajor.contains 52 = false) ∧
  (∃ (s : State) (u : Fin 12) (fe : Bool) (ago : _) (bytes : _), s.flag (F.SIG_UART_CFG_EN u) = true ∧ nth s.sig.uartAt u 0 ≤ s.now - ago ∧
    fe = true ∨ parseSentence (s.flag (F.SIG_UART_CFG_CKREQ u)) bytes = none ∧ s.frm.onceMajor.contains 52 = false) ∧
  (∃ (s : State) (u : Fin 12) (ago : _) (bytes : _), s.flag (F.SIG_UART_CFG_EN u) = true ∧ nth s.sig.uartAt u 0 ≤ s.now - ago ∧
    (parseSentence (s.flag (F.SIG_UART_CFG_CKREQ u)) bytes).isSome = true) ∧
  (∃ (s : State) (u : Fin 12) (ago : _) (bytes : _) (x : _) (n : Fin 96) (v : _), s.flag (F.SIG_UART_CFG_EN u) = true ∧ nth s.sig.uartAt u 0
    ≤ s.now - ago ∧ s.sig.chans.length = 96 ∧ parseSentence (s.flag (F.SIG_UART_CFG_CKREQ u)) bytes = some x ∧ 32 ≤ n.val ∧ s.takes n 2 =
    true ∧ s.srcBits n 7 4 = u.val ∧ addrMatches (s.srcBits n 11 8) (s.srcBits n 31 16) x.addr = true ∧ itemOf (s.srcBits n 11 8) (s.srcBits
    n 15 12) (fun i => if i = 0 then [] else nth x.fields (i - 1) []) = .value v) ∧
  (∃ (s : State) (i : Fin 16) (rising : _), s.sig.tachoIn.length = 16 ∧ (∀ e ∈ nth s.sig.tachoIn i none, e.rising = rising ∨ e.t + 1000 ≤
    s.now)) ∧
  (∃ (s : State) (i : Fin 16) (rising : _) (e : _), s.sig.tachoIn.length = 16 ∧ nth s.sig.tachoIn i none = some e ∧ e.rising ≠ rising ∧
    s.now < e.t + 1000) ∧
  (∃ (s : State) (i : Fin 16) (n : Fin 96) (e : _) (p : _) (per : Nat), s.sig.chans.length = 96 ∧ nth s.sig.tachoIn i none = some e ∧ e.t +
    1000 ≤ s.now ∧ 32 ≤ n.val ∧ s.takes n 5 = true ∧ s.srcBits n 7 4 = i.val ∧ s.tachoTakes n e.rising = true ∧ (s.chan n).tachoPrev = some
    p ∧ e.t < (s.chan n).tachoAt + s.zeroTime n ∧ per = 4 * ((e.lin / 4 + 2 ^ 62 - p / 4) % 2 ^ 62) ∧ per ≠ 0) ∧
  (∃ (s : State) (n : Fin 96), s.sig.chans.length = 96 ∧ s.takes n 5 = true ∧ (s.chan n).tachoZero = false ∧ nth s.sig.tachoIn (s.srcBits n
    7 4) none = none ∧ s.reaches ((s.chan n).tachoAt + s.zeroTime n)) ∧
  (∃ (s : State) (n : Fin 96), s.sig.chans.length = 96 ∧ s.flag (F.SIG_S_CFG_EN n) = true ∧ s.chanTimeout n ≠ 0 ∧ s.chanTimeout n ≤ (s.chan
    n).age ∧ (s.chan n).timedOut = false ∧ s.flag (F.SIG_S_STAT_VALID n) = true ∧ s.frm.onceMajor.contains 49 = false) ∧
  (∃ (s : State) (n : Fin 96), (s.chan n).bankK = 0) ∧
  (∃ (s : State) (n : Fin 96) (bank : Fin 2), (s.chan n).bankK ≠ 0 ∧ s.get (F.SIG_S_CFG_BANK n) ≠ bank.val) ∧
  (∃ (s : State) (r : Fin 4), s.bit F.SIG_EXC_EN r = true) :=
  ⟨⟨at' [(F.SIG_UART_CFG_EN 11, 1), (F.SIG_UART_CNT_ERR 11, 65535)] 5, 11, false, 5, [], by decide +kernel⟩,
   ⟨at' [(F.SIG_UART_CFG_EN 11, 1), (F.SIG_UART_CNT_ERR 11, 65534)] 5, 11, true, 5, [], by decide +kernel⟩,
   ⟨at' [(F.SIG_UART_CFG_EN 11, 1), (F.SIG_UART_CFG_CKREQ 11, 0), (F.SIG_S_CFG_EN 95, 1), (⟨0x401004 + 0x10 * 95, 15, 0⟩, 0x01B2)] 5, 11, 5,
     [36#8, 72#8, 69#8, 72#8, 68#8, 84#8, 44#8, 48#8, 57#8, 48#8, 46#8, 48#8, 44#8, 84#8, 13#8, 10#8], by decide +kernel⟩,
   ⟨at' [(F.SIG_UART_CFG_EN 11, 1), (F.SIG_UART_CFG_CKREQ 11, 0), (F.SIG_S_CFG_EN 95, 1), (⟨0x401004 + 0x10 * 95, 15, 0⟩, 0x01B2)] 5, 11, (5
     : Nat), ([36#8, 72#8, 69#8, 72#8, 68#8, 84#8, 44#8, 48#8, 57#8, 48#8, 46#8, 48#8, 44#8, 84#8, 13#8, 10#8] : List Byte), ((parseSentence
     false [36#8, 72#8, 69#8, 72#8, 68#8, 84#8, 44#8, 48#8, 57#8, 48#8, 46#8, 48#8, 44#8, 84#8, 13#8, 10#8]).getD ⟨[], [], []⟩), 95,
     1073741824, by decide +kernel⟩,
   ⟨let s := at' [] 1000; { s with sig := { s.sig with tachoIn := setNth s.sig.tachoIn 15 (some ⟨0, 0, true⟩) } }, 15, false,
     by decide +kernel⟩,
   ⟨let s := at' [] 999; { s with sig := { s.sig with tachoIn := setNth s.sig.tachoIn 15 (some ⟨0, 0, true⟩) } }, 15, false, (⟨0, 0, true⟩ :
     TachoIn), by decide +kernel⟩,
   ⟨let s := let s := at' [(F.SIG_S_CFG_EN 95, 1), (⟨0x401004 + 0x10 * 95, 15, 0⟩, 0x03F5)] 2000; s.modChan 95 (fun c =>
     { c with tachoPrev := some 0 }); { s with sig := { s.sig with tachoIn := setNth s.sig.tachoIn 15 (some ⟨1000, 1000, true⟩) } }, 15, 95,
     (⟨1000, 1000, true⟩ : TachoIn), 0, 1000, by decide +kernel⟩,
   ⟨let s := at' [(F.SIG_S_CFG_EN 95, 1), (⟨0x401004 + 0x10 * 95, 15, 0⟩, 0x1005)] 1000000; s.modChan 95 (fun c =>
     { c with tachoPrev := some 0 }), 95, by decide +kernel⟩,
   ⟨let s := st [(F.SIG_S_CFG_EN 95, 1), (F.SIG_S_CFG_TMO 95, 15), (F.SIG_S_STAT_VALID 95, 1)]; s.modChan 95 (fun c =>
     { c with age := 65536 }), 95, by decide +kernel⟩,
   ⟨st [(F.SIG_S_STAT_FINE_VALID 95, 1)], 95, by decide +kernel⟩,
   ⟨let s := st []; s.modChan 95 (fun c => { c with bankK := 1 }), 95, 1, by decide +kernel⟩,
   ⟨st [(F.SIG_EXC_EN, 8)], 3, by decide +kernel⟩⟩

/-- States and operands that meet the hypotheses of each clause of `Obligations.AlignmentStreams`. -/
theorem witness_AlignmentStreams :
  (∃ (s : State) (n : Fin 32), s.aln.streams.length = 32 ∧ s.flag (F.ALN_ST_CFG_EN n) = true ∧ s.stKind n ≠ 0 ∧ s.stValid n = true) ∧
  (∃ (s : State) (n : Fin 32), s.aln.streams.length = 32 ∧ s.flag (F.ALN_ST_CFG_EN n) = false ∨ s.stKind n = 0) ∧
  (∃ (s : State) (n : Fin 32), s.aln.streams.length = 32 ∧ s.flag (F.ALN_ST_CFG_EN n) = false ∨ s.stKind n = 0) ∧
  (∃ (s : State) (n : Fin 32), s.flag (F.ALN_ST_CFG_EN n) = true ∧ s.stKind n ≠ 0 ∧ s.stValid n = false ∧ s.flag F.ALN_ERR_CFG = false) ∧
  (∃ (s : State) (n : Fin 32) (old : _) (rest : _), s.aln.streams.length = 32 ∧ s.flag F.FRM_STATUS_RUNNING = true ∧ (s.stream n).pend = old
    ++ rest ∧ old ≠ [] ∧ rest.length < 16 ∧ (∀ q ∈ old, s.predict n q.1 + s.alnWin * predUnit < linDiff s.lin q.1 * predUnit) ∧ (∀ q ∈
    rest.take 1, linDiff s.lin q.1 * predUnit ≤ s.predict n q.1 + s.alnWin * predUnit)) ∧
  (∃ (s : State) (n : Fin 32) (old : _) (rest : _), s.aln.streams.length = 32 ∧ s.flag F.FRM_STATUS_RUNNING = true ∧ (s.stream n).pend = old
    ++ rest ∧ old ≠ [] ∧ rest.length < 16 ∧ (∀ q ∈ old, s.predict n q.1 + s.alnWin * predUnit < linDiff s.lin q.1 * predUnit) ∧ (∀ q ∈
    rest.take 1, linDiff s.lin q.1 * predUnit ≤ s.predict n q.1 + s.alnWin * predUnit)) :=
  ⟨⟨st [(F.ALN_ST_CFG_KIND 31, 3), (F.ALN_ST_CFG_EN 31, 1), (F.ALN_ST_CFG_MODE 31, 1), (F.ALN_ST_CH_CH0 31, 1), (F.ALN_ST_CH_CH1 31, 127),
    (F.ALN_ST_CH_CH2 31, 127), (F.ALN_ST_CH_CH3 31, 127), (F.ALN_ST_Q_Q 31 0, 1073741824), (F.ALN_ST_LAT0_NS 31, 4294967295)], 31,
    by decide +kernel⟩,
   ⟨st [(F.ALN_ST_CFG_KIND 31, 3)], 31, by decide +kernel⟩,
   ⟨st [(F.ALN_ST_CFG_EN 31, 1), (F.ALN_ST_CFG_KIND 31, 15)], 31, by decide +kernel⟩,
   ⟨st [(F.ALN_ST_CFG_KIND 31, 1), (F.ALN_ST_CFG_EN 31, 1), (F.ALN_ST_CFG_MODE 31, 1), (F.ALN_ST_CH_CH0 31, 1), (F.ALN_ST_CH_CH1 31, 127),
     (F.ALN_ST_CH_CH2 31, 127), (F.ALN_ST_CH_CH3 31, 127), (F.ALN_ST_Q_Q 31 0, 1073741824), (F.ALN_ST_LAT0_NS 31, 4294967295)], 31,
     by decide +kernel⟩,
   ⟨let s := at' [(F.FRM_STATUS_RUNNING, 1), (F.ALN_ST_CNT0_MISS 31, 65535), (F.ALN_CTRL_WIN, 1)] 10000002; s.modStream 31 (fun c =>
     { c with pend := [(1, true), (2, false), (3, false)] }), 31, [(1, true)], ([(2, false), (3, false)] : List (Nat × Bool)),
     by decide +kernel⟩,
   ⟨let s := at' [(F.FRM_STATUS_RUNNING, 1), (F.ALN_ST_STAT_STATE 31, 2), (F.ALN_ST_CFG_MISSLIM 31, 2), (F.ALN_ST_CNT0_MISS 31, 65534),
     (F.ALN_CTRL_WIN, 1)] 10000012; s.modStream 31 (fun c => { c with pend := [(1, true), (2, false), (12, false)] }), 31, [(1, true), (2,
     false)], ([(12, false)] : List (Nat × Bool)), by decide +kernel⟩⟩

/-- States and operands that meet the hypotheses of each clause of `Obligations.EstimatorTracks`. -/
theorem witness_EstimatorTracks :
  (∃ (s : State) (k : Fin 16), s.est.refs.length = 16 ∧ (s.ref k).st = 2 ∧ (s.refTmo k : Int) ≤ linDiff s.majTick (s.ref k).m) ∧
  (∃ (s : State), s.est.st ≠ 0) ∧
  (∃ (s : State) (lat : _) (lon : _), s.est.orgPend = some (lat, lon) ∧ -900000000 ≤ lat ∧ lat ≤ 900000000 ∧ -1800000000 ≤ lon ∧ lon ≤
    1800000000 ∧ s.frm.onceMajor.contains 66 = false) ∧
  (∃ (s : State) (o : _) (a : _), s.est.orgHeld = some o ∧ s.est.orgAge = some a ∧ max 1 (min 10 (s.get F.ALN_CTRL_WIN)) + 1 ≤ a) :=
  ⟨⟨let s := at' [] 12000000000; s.modRef 15 (fun c => { c with st := 2, m := 0 }), 15, by decide +kernel⟩,
   ⟨let s := at' [(F.EST_GK_STATUS_ACTIVE, 1)] 7; s.modEst (fun e => { e with st := 4 }), by decide +kernel⟩,
   ⟨(st []).modEst (fun e => { e with orgPend := some (-900000000, 1800000000), orgHeld := some (1, 2) }), (-900000000), (1800000000),
     by decide +kernel⟩,
   ⟨(st [(F.ALN_CTRL_WIN, 15)]).modEst (fun e => { e with orgAge := some 11, orgHeld := some (1, 2) }), (1, 2), 11, by decide +kernel⟩⟩

/-- States and operands that meet the hypotheses of each clause of `Obligations.ArbitrationAndGecko`. -/
theorem witness_ArbitrationAndGecko :
  (∃ (s : State) (i : Fin 16), s.est.refs.length = 16 ∧ s.get (arbStateF i) = 3 ∧ ((s.arbHold * 10000000 : Nat) : Int) ≤ s.heldFor (s.ref
    i).outAt) ∧
  (∃ (s : State) (h : _) (a : Fin 16) (b : Fin 16) (lose : Fin 16) (k : _), s.contra h = some (a.val, b.val, k) ∧ s.arbHold ≤ s.contraT k ∧
    ¬(s.forced a = true ∧ s.forced b = true) ∧ lose = (if s.forced a then b else if s.forced b then a else if (s.rms2 s.majTick a).1 *
    (s.rms2 s.majTick b).2 ≤ (s.rms2 s.majTick b).1 * (s.rms2 s.majTick a).2 then b else a)) ∧
  (∃ (s : State) (h : _) (a : _) (b : _) (k : _), s.contra h = some (a, b, k) ∧ s.forced a = true ∧ s.forced b = true) ∧
  (∃ (s : State) (i : Fin 16), s.suspect i = true ∧ s.flag F.EST_ARB_REHAB_AUTO = true ∧ ((max 1 (s.get F.EST_ARB_REHAB_TIME) * 10000000000
    : Nat) : Int) ≤ s.heldFor (s.ref i).rehabAt) ∧
  (∃ (s : State), s.est.st = 3 ∨ s.est.st = 4 ∧ s.get F.EST_ARB_STATUS_NH = 0 ∧ s.lossT ≤ ageOf s.majTick s.est.hdgAt) ∧
  (∃ (s : State), s.est.st = 3 ∧ ((max 1 (s.get F.EST_GK_CFG_DELAY) * 100000000 : Nat) : Int) ≤ ageOf s.majTick s.est.posAt) ∧
  (∃ (s : State), s.est.st = 4 ∧ ((max 1 (s.get F.EST_GK_CFG_TLIM) * 1000000000 : Nat) : Int) ≤ linDiff s.majTick s.est.gkAt) :=
  ⟨⟨let s := st [(F.EST_ARB_HR_STAT_STATE 3, 3), (F.EST_ARB_TIME_HOLD, 0)]; s.modRef 15 (fun c =>
    { c with outAt := some (2 ^ 64 - 1000000000) }), 15, by decide +kernel⟩,
   ⟨(st [(F.EST_ARB_TIME_HOLD, 0), (⟨F.EST_ARB_OVR_DESEL_PR.off, 31, 31⟩, 1)]).modEst (fun e =>
     { e with hcontra := some (15, 12, 18446744073709551516) }), true, 15, 12, 12, 18446744073709551516, by decide +kernel⟩,
   ⟨(st [(F.EST_ARB_TIME_HOLD, 0), (⟨F.EST_ARB_OVR_DESEL_PR.off, 31, 16⟩, 65535)]).modEst (fun e => { e with contra := some (0, 1, 100) }),
     false, 0, 1, 100, by decide +kernel⟩,
   ⟨let s := st [(F.EST_ARB_SUSP_SUSP, 65535), (F.EST_ARB_REHAB_AUTO, 1), (F.EST_ARB_REHAB_TIME, 0)]; s.modRef 15 (fun c =>
     { c with rehabAt := some (2 ^ 64 - 10000000000) }), 15, by decide +kernel⟩,
   ⟨(at' [(F.EST_QUAL_LOSS_T, 0)] 1000000000).modEst (fun e => { e with st := 4, hdgAt := some 0 }), by decide +kernel⟩,
   ⟨(at' [(F.EST_GK_CFG_DELAY, 0)] 100000000).modEst (fun e => { e with st := 3, posAt := some 0 }), by decide +kernel⟩,
   ⟨(at' [(F.EST_GK_CFG_TLIM, 0), (F.EST_GK_STATUS_ACTIVE, 1)] 1000000000).modEst (fun e => { e with st := 4, gkAt := 0 }),
     by decide +kernel⟩⟩

/-- States and operands that meet the hypotheses of each clause of `Obligations.ControlLoops`. -/
theorem witness_ControlLoops :
  (∃ (s : State) (n : Fin 48), s.cle.slots.length = 48 ∧ (s.loop n).path ≠ 0) ∧
  (∃ (s : State) (n : Fin 48), (s.loop n).path = 0) ∧
  (∃ (s : State) (n : Fin 48), s.cle.slots.length = 48 ∧ (s.loop n).path = 3 ∧ s.bit F.FRM_FAULT_STAGE 2 = false ∧ s.bankOk n (s.loop
    n).abank = true) ∧
  (∃ (s : State) (n : Fin 48), (s.loop n).path = 2) ∧
  (∃ (s : State) (n : Fin 48), s.cle.slots.length = 48 ∧ (s.loop n).path = 5 ∧ (s.loop n).pidf = false) ∧
  (∃ (s : State) (n : Fin 48), (s.loop n).path ≠ 5) ∧
  (∃ (s : State) (n : Fin 48), s.cle.slots.length = 48 ∧ (s.loop n).path ≠ 0) ∧
  (∃ (s : State), s.cle.slots.length = 48) ∧
  (∃ (s : State) (n : Fin 48) (val : Word), s.cle.slots.length = 48 ∧ s.expert 7 = true ∧ (s.loop n).mat = true ∧ crc32c (wordBytes (s.words
    (loopMem n + 0x200) 15)) = val.toNat) ∧
  (∃ (s : State) (n : Fin 48) (val : Word), s.expert 7 = true ∧ (s.loop n).mat = true ∧ crc32c (wordBytes (s.words (loopMem n + 0x200) 15))
    ≠ val.toNat) ∧
  (∃ (s : State), s.expert 7 = false) ∧
  (∃ (s : State) (n : Fin 48), s.cle.slots.length = 48 ∧ 0 < s.get (F.CLE_L_HOT_SATT n) ∧ s.get (F.CLE_L_HOT_SATT n) ≤ (s.loop n).satMain ∧
    (s.loop n).path = 1 ∧ (s.loop n).trig = none) ∧
  (∃ (s : State) (n : Fin 48) (b : _), s.cle.slots.length = 48 ∧ (s.loop n).blend = some b ∧ b.kind = 1 ∧ b.n ≤ b.k) ∧
  (∃ (s : State) (n : Fin 48) (b : _), s.cle.slots.length = 48 ∧ (s.loop n).blend = some b ∧ b.kind = 0 ∧ b.n ≤ b.k) ∧
  (∃ (s : State) (val : Word) (a : _) (b : _) (c : _), a = (if bitsOf val.toNat 5 0 ≤ 47 then bitsOf val.toNat 5 0 else nth s.dpSlots 0 0) ∧
    b = (if bitsOf val.toNat 13 8 ≤ 47 then bitsOf val.toNat 13 8 else nth s.dpSlots 1 0) ∧ c = (if bitsOf val.toNat 21 16 ≤ 47 then bitsOf
    val.toNat 21 16 else nth s.dpSlots 2 0) ∧ a ≠ b ∧ a ≠ c ∧ b ≠ c) ∧
  (∃ (s : State) (val : Word), bitsOf val.toNat 5 0 ≤ 47 ∧ bitsOf val.toNat 13 8 = bitsOf val.toNat 5 0 ∧ s.flag F.CLE_ERR_DPCFG = false) ∧
  (∃ (s : State) (n : Fin 48), (s.loop n).path ≠ 2 ∧ (s.loop n).path ≠ 3 ∨ s.bit F.FRM_FAULT_STAGE 2 = true ∨ s.bankOk n (s.loop n).abank =
    false) ∧
  (∃ (s : State) (n : Fin 48), (s.loop n).path ≠ 2 ∧ (s.loop n).path ≠ 3 ∨ s.bit F.FRM_FAULT_STAGE 2 = true ∨ s.bankOk n (s.loop n).abank =
    false) ∧
  (∃ (s : State) (n : Fin 48), s.cle.slots.length = 48 ∧ (s.loop n).path = 5 ∧ (s.loop n).pidf = true ∧ s.bankOk n (s.loop n).abank = true) ∧
  (∃ (s : State) (n : Fin 48), (s.loop n).path = 5 ∧ (s.loop n).pidf = true ∧ s.bankOk n (s.loop n).abank = false) ∧
  (∃ (s : State) (n : Fin 48), (s.loop n).path = 0) ∧
  (∃ (s : State) (n : Fin 48) (val : Word), s.cle.slots.length = 48 ∧ s.expert 7 = true ∧ crc32c (wordBytes ((s.matLoop n).words (loopMem n
    + 0x200) 15)) = val.toNat) ∧
  (∃ (s : State) (n : Fin 48), ¬(0 < s.get (F.CLE_L_HOT_SATT n) ∧ s.get (F.CLE_L_HOT_SATT n) ≤ (s.loop n).satMain ∧ (s.loop n).path = 1 ∧
    (s.loop n).trig = none)) ∧
  (∃ (s : State) (n : Fin 48) (b : _), s.cle.slots.length = 48 ∧ (s.loop n).blend = some b ∧ b.kind = 2 ∧ b.n ≤ b.k) ∧
  (∃ (s : State) (n : Fin 48) (b : _), s.cle.slots.length = 48 ∧ (s.loop n).blend = some b ∧ 3 ≤ b.kind ∧ b.n ≤ b.k) ∧
  (∃ (s : State) (val : Word) (a : _) (b : _) (c : _), a = (if bitsOf val.toNat 5 0 ≤ 47 then bitsOf val.toNat 5 0 else nth s.dpSlots 0 0) ∧
    b = (if bitsOf val.toNat 13 8 ≤ 47 then bitsOf val.toNat 13 8 else nth s.dpSlots 1 0) ∧ c = (if bitsOf val.toNat 21 16 ≤ 47 then bitsOf
    val.toNat 21 16 else nth s.dpSlots 2 0) ∧ a = b ∨ a = c ∨ b = c) :=
  ⟨⟨let s := st []; s.modLoop 47 (fun c => { c with path := 5 }), 47, by decide +kernel⟩,
   ⟨let s := st []; s.modLoop 47 (fun c => { c with path := 0 }), 47, by decide +kernel⟩,
   ⟨let s := st []; s.modLoop 47 (fun c => { c with path := 3 }), 47, by decide +kernel⟩,
   ⟨let s := st []; s.modLoop 47 (fun c => { c with path := 2 }), 47, by decide +kernel⟩,
   ⟨let s := st []; s.modLoop 47 (fun c => { c with path := 5 }), 47, by decide +kernel⟩,
   ⟨let s := st []; s.modLoop 47 (fun c => { c with path := 4 }), 47, by decide +kernel⟩,
   ⟨let s := st []; s.modLoop 47 (fun c => { c with path := 5 }), 47, by decide +kernel⟩,
   ⟨let s := st []; s.modLoop 47 (fun c => { c with abank := 1 }), by decide +kernel⟩,
   ⟨let s := let s := st []; s.modLoop 47 (fun c => { c with mat := true }); { s with frm := { s.frm with level := 255 } }, 47, BitVec.ofNat
     32 (crc32c (wordBytes (List.replicate 15 0))), by decide +kernel⟩,
   ⟨let s := let s := st []; s.modLoop 47 (fun c => { c with mat := true }); { s with frm := { s.frm with level := 255 } }, 47, 0#32,
     by decide +kernel⟩,
   ⟨st [], by decide +kernel⟩,
   ⟨let s := st [(F.CLE_L_HOT_SATT 47, 1)]; s.modLoop 47 (fun c => { c with path := 1, satMain := 1 }), 47, by decide +kernel⟩,
   ⟨let s := st []; s.modLoop 47 (fun c => { c with blend := some ⟨1, 40, 40, 0⟩ }), 47, (⟨1, 40, 40, 0⟩ : Blend), by decide +kernel⟩,
   ⟨let s := st []; s.modLoop 47 (fun c => { c with blend := some ⟨0, 40, 40, 0⟩ }), 47, (⟨0, 40, 40, 0⟩ : Blend), by decide +kernel⟩,
   ⟨st [], 0x012D2E2F#32, 47, 46, 45, by decide +kernel⟩,
   ⟨st [], 0x00022F2F#32, by decide +kernel⟩,
   ⟨let s := st []; s.modLoop 47 (fun c => { c with path := 5 }), 47, by decide +kernel⟩,
   ⟨let s := st [(F.FRM_FAULT_STAGE, 4)]; s.modLoop 47 (fun c => { c with path := 3 }), 47, by decide +kernel⟩,
   ⟨let s := st []; s.modLoop 47 (fun c => { c with path := 5, pidf := true }), 47, by decide +kernel⟩,
   ⟨let s := st []; s.modLoop 47 (fun c => { c with path := 5, pidf := true, mat := true }), 47, by decide +kernel⟩,
   ⟨let s := st []; s.modLoop 47 (fun c => { c with path := 0 }), 47, by decide +kernel⟩,
   ⟨let s := st []; { s with frm := { s.frm with level := 255 } }, 47, _, by decide +kernel, by decide +kernel, crc32c_toNat _⟩,
   ⟨let s := st [(F.CLE_L_HOT_SATT 47, 1)]; s.modLoop 47 (fun c => { c with path := 1, satMain := 0 }), 47, by decide +kernel⟩,
   ⟨let s := st []; s.modLoop 47 (fun c => { c with path := 1, blend := some ⟨2, 40, 40, 0⟩ }), 47, (⟨2, 40, 40, 0⟩ : Blend),
     by decide +kernel⟩,
   ⟨let s := st []; s.modLoop 47 (fun c => { c with path := 1, blend := some ⟨3, 40, 40, 0⟩ }), 47, (⟨3, 40, 40, 0⟩ : Blend),
     by decide +kernel⟩,
   ⟨st [], 0x002F2F3F#32, 0, 47, 47, by decide +kernel⟩⟩

/-- States and operands that meet the hypotheses of each clause of `Obligations.ModeCommands`. -/
theorem witness_ModeCommands :
  (∃ (m : BitVec 4), m.toNat < 8) ∧
  (∃ (m : BitVec 4), 8 ≤ m.toNat) ∧
  (∃ (s : State), s.joyValid = false ∧ s.cle.md.joyOk = true) ∧
  (∃ (s : State), s.cle.md.berthed = true ∧ 100 ≤ s.cle.md.unberth) ∧
  (∃ (s : State), s.cle.md.pressLoss = false ∧ 100 ≤ s.cle.md.gapLow) :=
  ⟨⟨7#4, by decide +kernel⟩,
   ⟨8#4, by decide +kernel⟩,
   ⟨(st []).modMd (fun m => { m with joyOk := true }), by decide +kernel⟩,
   ⟨(st []).modMd (fun m => { m with berthed := true, unberth := 100 }), by decide +kernel⟩,
   ⟨(st []).modMd (fun m => { m with gapLow := 100 }), by decide +kernel⟩⟩

/-- States and operands that meet the hypotheses of each clause of `Obligations.Thrusters`. -/
theorem witness_Thrusters :
  (∃ (s : State) (i : Fin 16), s.alc.thr.length = 16 ∧ (s.thr i).st ≠ 0 ∧ (s.thr i).st ≠ 5) ∧
  (∃ (s : State) (i : Fin 16), s.alc.thr.length = 16 ∧ (s.thr i).st = 5 ∧ s.thrAvail i = true) ∧
  (∃ (s : State) (i : Fin 16), s.alc.thr.length = 16 ∧ (s.thr i).st = 1 ∧ s.thrType i = 1 ∧ s.crossFrames ≤ nth (s.thr i).cnt 0 0 ∧ nth
    (s.thr i).cnt 1 0 < s.crossFrames ∧ (s.edgeWay i 0 (s.res i 1)).isSome = true) ∧
  (∃ (s : State) (i : Fin 16), s.alc.thr.length = 16 ∧ (s.thr i).st = 1 ∧ s.thrType i = 3 ∧ s.crossFrames ≤ nth (s.thr i).cnt 0 0) ∧
  (∃ (s : State) (i : Fin 16) (k : Nat), s.alc.thr.length = 16 ∧ (s.thr i).st = 1 ∧ s.thrType i = 1 ∧ s.crossFrames ≤ nth (s.thr i).cnt 0 0
    ∨ s.crossFrames ≤ nth (s.thr i).cnt 1 0 ∧ k = (if s.crossFrames ≤ nth (s.thr i).cnt 0 0 ∧ (nth (s.thr i).cnt 1 0 < s.crossFrames ∨ ((nth
    (s.thr i).lam 1 none).getD Fl.zero).le ((nth (s.thr i).lam 0 none).getD Fl.zero) = true) then 0 else 1) ∧ (s.edgeWay i k (s.res i
    1)).isSome = true) ∧
  (∃ (s : State) (i : Fin 16) (k : Nat), s.alc.thr.length = 16 ∧ (s.thr i).st = 1 ∧ s.thrType i = 1 ∧ s.crossFrames ≤ nth (s.thr i).cnt 0 0
    ∨ s.crossFrames ≤ nth (s.thr i).cnt 1 0 ∧ k = (if s.crossFrames ≤ nth (s.thr i).cnt 0 0 ∧ (nth (s.thr i).cnt 1 0 < s.crossFrames ∨ ((nth
    (s.thr i).lam 1 none).getD Fl.zero).le ((nth (s.thr i).lam 0 none).getD Fl.zero) = true) then 0 else 1) ∧ (s.edgeWay i k (s.res i
    1)).isSome = true) :=
  ⟨⟨let s := st [(F.ALC_T_RES_WORD 15 0, 99), (F.ALC_T_RES_WORD 15 1, 98), (F.ALC_T_RES_WORD 15 4, 97)]; s.modThr 15 (fun c =>
    { c with st := 1 }), 15, by decide +kernel⟩,
   ⟨let s := let s := st [(F.ALC_T_CFG_AVAIL 15, 1)]; s.modThr 15 (fun c => { c with st := 5 }); s.modAlc (fun a =>
     { a with saf := 65535 }), 15, by decide +kernel⟩,
   ⟨let s := st [(F.ALC_T_CFG_TYPE 15, 1), (F.ALC_D_FS_HW 15 0, 100), (F.ALC_XCFG_XT, 0)]; s.modThr 15 (fun c =>
     { c with st := 1, cnt := [10, 9] }), 15, by decide +kernel⟩,
   ⟨let s := st [(F.ALC_T_CFG_TYPE 15, 3), (F.ALC_XCFG_XT, 0)]; s.modThr 15 (fun c => { c with st := 1, cnt := [10, 0] }), 15,
     by decide +kernel⟩,
   ⟨let s := st [(F.ALC_T_CFG_TYPE 15, 1), (F.ALC_D_FS_HW 15 1, 100), (F.ALC_XCFG_XT, 0)]; s.modThr 15 (fun c =>
     { c with st := 1, cnt := [9, 10] }), 15, 1, by decide +kernel⟩,
   ⟨let s := st [(F.ALC_T_CFG_TYPE 15, 1), (F.ALC_D_FS_HW 15 0, 100), (F.ALC_D_FS_HW 15 1, 100), (F.ALC_XCFG_XT, 0)]; s.modThr 15 (fun c =>
     { c with st := 1, cnt := [10, 10] }), 15, 0, by decide +kernel⟩⟩

/-- States and operands that meet the hypotheses of each clause of `Obligations.EnvelopesAndEnergy`. -/
theorem witness_EnvelopesAndEnergy :
  (∃ (s : State), s.framesOn = true ∧ s.now % 10000000 < 250000 ∧ s.reaches (s.now / 10000000 * 10000000 + 60000) ∧ s.alc.latched = false) ∧
  (∃ (s : State), s.framesOn = true ∧ s.now % 10000000 < 250000 ∧ s.reaches (s.now / 10000000 * 10000000 + 60000) ∧ s.alc.latched = false) ∧
  (∃ (s : State) (b : Fin 4), s.alc.env.length = 4 ∧ (s.envOf b).st = 2 ∧ s.envTmo b ≤ (s.envOf b).gap) ∧
  (∃ (s : State) (g : Fin 24), s.alc.groups.length = 24 ∧ (s.group g).alarm = false ∧ s.alarmFrames F.ALC_CQ_CTRL_ALARM_T ≤ (s.group g).inf) ∧
  (∃ (s : State) (g : Fin 24), s.alc.groups.length = 24 ∧ (s.group g).alarm = true ∧ s.alarmFrames F.ALC_CQ_CTRL_CLR_T ≤ (s.group g).fea) ∧
  (∃ (s : State) (b : Fin 4), s.alc.en.length = 4 ∧ 6000 ≤ (s.energy b).frames) :=
  ⟨⟨fr [(F.ALC_ENV_FPA_W 3, 77)] 60000, by decide +kernel⟩,
   ⟨fr [] 249999, by decide +kernel⟩,
   ⟨let s := st [(F.ALC_ENV_CFG_TMO 3, 0)]; s.modEnv 3 (fun c => { c with st := 2, gap := 10 }), 3, by decide +kernel⟩,
   ⟨let s := st [(F.ALC_CQ_CTRL_ALARM_T, 0)]; s.modGroup 23 (fun c => { c with inf := 10 }), 23, by decide +kernel⟩,
   ⟨let s := st [(F.ALC_CQ_CTRL_CLR_T, 0), (F.ALC_CQ_ALARM_GROUP, 8388608), (F.ALC_CQ_STAT_ALARM, 1)]; s.modGroup 23 (fun c =>
     { c with fea := 10, alarm := true }), 23, by decide +kernel⟩,
   ⟨let s := st []; s.modEnergy 3 (fun c => { c with frames := 6000, bin := 7200, bins := List.replicate 59 3600 }), 3, by decide +kernel⟩⟩

/-- States and operands that meet the hypotheses of each clause of `Obligations.AxisCommands`. -/
theorem witness_AxisCommands :
  (∃ (s : State) (n : Fin 32), s.prf.axes.length = 32 ∧ (s.axis n).st = 1 ∧ s.moveRefused n (s.getI (F.PRF_P_TGT_TARGET n)) = false) ∧
  (∃ (s : State) (n : Fin 32), s.prf.axes.length = 32 ∧ (s.axis n).st = 2 ∧ (s.axis n).pend = none ∧ s.moveRefused n (s.getI
    (F.PRF_P_TGT_TARGET n)) = false) ∧
  (∃ (s : State) (n : Fin 32), s.moveRefused n (s.getI (F.PRF_P_TGT_TARGET n)) = true) ∧
  (∃ (s : State) (n : Fin 32), s.prf.axes.length = 32 ∧ (s.axis n).st = 2) ∧
  (∃ (s : State) (n : Fin 32), s.prf.axes.length = 32 ∧ (s.axis n).st = 2) ∧
  (∃ (s : State), s.prf.axes.length = 32) ∧
  (∃ (s : State) (n : Fin 32), s.prf.axes.length = 32 ∧ (s.axis n).st = 1 ∧ s.flag (F.PRF_P_CFG_MODE n) = false ∧ s.get (F.PRF_P_CFG_OUT n)
    ≠ 1 ∧ s.get (F.PRF_P_INSEL_HOME n) < 48 ∧ s.get (F.PRF_P_HV_LIM n) ≠ 0) ∧
  (∃ (s : State) (n : Fin 32), (s.axis n).st ≠ 1) ∧
  (∃ (s : State) (n : Fin 32), s.prf.axes.length = 32 ∧ (s.axis n).st = 7) ∧
  (∃ (s : State) (n : Fin 32), s.prf.axes.length = 32 ∧ (s.axis n).st = 8) ∧
  (∃ (s : State) (n : Fin 32), s.prf.axes.length = 32 ∧ (s.axis n).st ≠ 1 ∧ (s.axis n).pend.isSome = true ∧ s.moveRefused n (s.getI
    (F.PRF_P_TGT_TARGET n)) = false) ∧
  (∃ (s : State) (n : Fin 32), s.prf.axes.length = 32 ∧ (s.axis n).st = 5 ∨ (s.axis n).st = 6) ∧
  (∃ (s : State) (n : Fin 32), s.prf.axes.length = 32 ∧ (s.axis n).st = 5 ∨ (s.axis n).st = 6) ∧
  (∃ (s : State) (n : Fin 32), s.prf.axes.length = 32 ∧ (s.axis n).st = 3 ∨ (s.axis n).st = 5 ∨ (s.axis n).st = 6) ∧
  (∃ (s : State) (n : Fin 32), s.prf.axes.length = 32 ∧ (s.axis n).st = 3 ∨ (s.axis n).st = 5 ∨ (s.axis n).st = 6) ∧
  (∃ (s : State) (n : Fin 32), s.prf.axes.length = 32 ∧ (s.axis n).st = 3 ∨ (s.axis n).st = 5 ∨ (s.axis n).st = 6) :=
  ⟨⟨let s := st [(F.PRF_P_SMAX_VALUE 31, 1000), (F.PRF_P_TGT_TARGET 31, 1000), (F.PRF_P_V_LIM 31, 100), (F.PRF_P_STAT_CAUSE 31, 3)];
    s.modAxis 31 (fun c => { c with st := 1 }), 31, by decide +kernel⟩,
   ⟨let s := st [(F.PRF_P_SMIN_VALUE 31, 4294966296), (F.PRF_P_TGT_TARGET 31, 4294966296)]; s.modAxis 31 (fun c => { c with st := 2 }), 31,
     by decide +kernel⟩,
   ⟨let s := st []; s.modAxis 31 (fun c => { c with st := 8 }), 31, by decide +kernel⟩,
   ⟨let s := st []; s.modAxis 31 (fun c => { c with st := 2 }), 31, by decide +kernel⟩,
   ⟨let s := st [(F.PRF_P_STAT_PEND 31, 1)]; s.modAxis 31 (fun c => { c with st := 2, pend := some 4 }), 31, by decide +kernel⟩,
   ⟨((st []).modAxis 31 (fun c => { c with st := 2 })).modAxis 0 (fun c => { c with st := 2 }), by decide +kernel⟩,
   ⟨let s := st [(F.PRF_P_INSEL_HOME 31, 47), (F.PRF_P_HV_LIM 31, 1)]; s.modAxis 31 (fun c => { c with st := 1 }), 31, by decide +kernel⟩,
   ⟨let s := st []; s.modAxis 31 (fun c => { c with st := 5 }), 31, by decide +kernel⟩,
   ⟨let s := st []; s.modAxis 31 (fun c => { c with st := 7 }), 31, by decide +kernel⟩,
   ⟨let s := st [(F.PRF_P_STAT_HOMED 31, 1), (F.PRF_P_STAT_CAUSE 31, 7)]; s.modAxis 31 (fun c => { c with st := 8, fault := true }), 31,
     by decide +kernel⟩,
   ⟨let s := st [(F.PRF_P_SMIN_VALUE 31, 4294966296), (F.PRF_P_TGT_TARGET 31, 4294966296)]; s.modAxis 31 (fun c =>
     { c with st := 2, pend := some 5 }), 31, by decide +kernel⟩,
   ⟨let s := st []; s.modAxis 31 (fun c => { c with st := 5 }), 31, by decide +kernel⟩,
   ⟨let s := st []; s.modAxis 31 (fun c => { c with st := 6 }), 31, by decide +kernel⟩,
   ⟨let s := st []; s.modAxis 31 (fun c => { c with st := 3, pend := some 5 }), 31, by decide +kernel⟩,
   ⟨let s := st []; s.modAxis 31 (fun c => { c with st := 5 }), 31, by decide +kernel⟩,
   ⟨let s := st []; s.modAxis 31 (fun c => { c with st := 6 }), 31, by decide +kernel⟩⟩

/-- States and operands that meet the hypotheses of each clause of `Obligations.AxisInputsAndOutputs`. -/
theorem witness_AxisInputsAndOutputs :
  (∃ (s : State) (i : Fin 48) (level : _) (samples : _) (n : Fin 32) (r : Fin 3), s.prf.axes.length = 32 ∧ (s.axis n).deb.length = 3 ∧
    (s.axisInput n r).1 = i.val ∧ (s.axisInput n r).2 ≤ samples ∧ nth (s.axis n).deb r false = !level) ∧
  (∃ (s : State) (i : Fin 48) (changes : _) (n : Fin 32) (r : Fin 3), s.prf.axes.length = 32 ∧ (s.axis n).chat.length = 3 ∧ (s.axisInput n
    r).1 = i.val ∧ nth (s.axis n).chat r false = false ∧ s.get (F.PRF_P_DEB_CHLIM n) ≠ 0 ∧ s.get (F.PRF_P_DEB_CHLIM n) ≤ min 255 (s.get
    (chatField n r) + changes)) ∧
  (∃ (s : State) (n : Fin 32) (p : _), s.prf.axes.length = 32 ∧ (s.axis n).plan = some p ∧ p.total.le (Fl.ratio p.k 4000) = true ∧ (s.axis
    n).st = 2 ∧ (s.axis n).pend = none ∧ (s.axis n).off = false ∧ (s.axis n).fault = false ∧ s.frm.onceMajor.contains 112 = false ∧ s.flag
    (F.PRF_P_CFG_ANGLE n) = false) ∧
  (∃ (s : State) (o : Fin 16) (out : _) (e : _) (rest : _), s.prf.steps[o.val]? = some out ∧ out.edges = e :: rest ∧ out.rel + 4 * e ≤
    s.now) ∧
  (∃ (s : State) (n : Fin 32), s.prf.axes.length = 32 ∧ 4 * s.get (F.PRF_P_HOLDT_MS n) ≤ (s.axis n).rest) ∧
  (∃ (s : State) (n : Fin 32) (p : _), s.prf.axes.length = 32 ∧ (s.axis n).plan = some p ∧ p.total.le (Fl.ratio p.k 4000) = true ∧ (s.axis
    n).st = 5 ∧ 4 ≤ s.get (F.PRF_P_STAT_PHASE n)) ∧
  (∃ (s : State) (o : Fin 16) (out : _) (e : _) (rest : _), s.prf.steps[o.val]? = some out ∧ out.edges = e :: rest ∧ s.reaches (out.rel + 4
    * e)) ∧
  (∃ (s : State) (n : Fin 32) (p : _), s.prf.axes.length = 32 ∧ (s.axis n).plan = some p ∧ p.total.le (Fl.ratio p.k 4000) = true ∧ (s.axis
    n).st = 3 ∨ (s.axis n).st = 4 ∧ (s.axis n).pend = none ∧ (s.axis n).off = false) ∧
  (∃ (s : State) (n : Fin 32) (p : _), s.prf.axes.length = 32 ∧ (s.axis n).plan = some p ∧ p.total.le (Fl.ratio p.k 4000) = true ∧ (s.axis
    n).st = 3 ∨ (s.axis n).st = 4 ∧ (s.axis n).pend = none ∧ (s.axis n).off = false) ∧
  (∃ (s : State) (n : Fin 32) (p : _), s.prf.axes.length = 32 ∧ (s.axis n).plan = some p ∧ p.total.le (Fl.ratio p.k 4000) = true ∧ (s.axis
    n).st = 5 ∧ s.get (F.PRF_P_STAT_PHASE n) = 1 ∨ s.get (F.PRF_P_STAT_PHASE n) = 2 ∧ (s.axis n).ending = false) ∧
  (∃ (s : State) (n : Fin 32) (p : _), s.prf.axes.length = 32 ∧ (s.axis n).plan = some p ∧ p.total.le (Fl.ratio p.k 4000) = true ∧ (s.axis
    n).st = 5 ∧ s.get (F.PRF_P_STAT_PHASE n) = 1 ∨ s.get (F.PRF_P_STAT_PHASE n) = 2 ∧ (s.axis n).ending = false) :=
  ⟨⟨st [(F.PRF_P_INSEL_HOME 31, 47), (F.PRF_P_DEB_DEBH 31, 1)], 47, true, 4, 31, 2, by decide +kernel⟩,
   ⟨st [(F.PRF_P_INSEL_HOME 31, 47), (F.PRF_P_DEB_CHLIM 31, 255)], 47, 300, 31, 2, by decide +kernel⟩,
   ⟨let s := st []; s.modAxis 31 (fun c =>
     { c with st := 2, v := Fl.ofInt 3, plan := some ⟨[], Fl.zero, Fl.zero, Fl.zero, 0, some (Fl.ofInt 77)⟩ }), 31, (⟨[], Fl.zero, Fl.zero,
     Fl.zero, 0, some (Fl.ofInt 77)⟩ : PrfPlan), by decide +kernel⟩,
   ⟨(at' [] 1040).modPrf (fun p => { p with steps := setNth p.steps 15 ⟨true, [10, 260], 1000, 0, 0, 5, none⟩ }), 15, (⟨true, [10, 260],
     1000, 0, 0, 5, none⟩ : StepOut), 10, [260], by decide +kernel⟩,
   ⟨let s := st [(F.PRF_P_HOLDT_MS 31, 1)]; s.modAxis 31 (fun c => { c with rest := 4 }), 31, by decide +kernel⟩,
   ⟨let s := st [(F.PRF_P_STAT_PHASE 31, 4)]; s.modAxis 31 (fun c =>
     { c with st := 5, plan := some ⟨[], Fl.zero, Fl.zero, Fl.zero, 0, some (Fl.ofInt 77)⟩ }), 31, (⟨[], Fl.zero, Fl.zero, Fl.zero, 0, some
     (Fl.ofInt 77)⟩ : PrfPlan), by decide +kernel⟩,
   ⟨(at' [] 995).modPrf (fun p => { p with steps := setNth p.steps 15 ⟨true, [10, 260], 1000, 0, 0, 5, none⟩ }), 15, (⟨true, [10, 260],
     1000, 0, 0, 5, none⟩ : StepOut), 10, [260], by decide +kernel⟩,
   ⟨let s := st []; s.modAxis 31 (fun c => { c with st := 3, plan := some ⟨[], Fl.zero, Fl.zero, Fl.zero, 0, some (Fl.ofInt 77)⟩ }), 31,
     (⟨[], Fl.zero, Fl.zero, Fl.zero, 0, some (Fl.ofInt 77)⟩ : PrfPlan), by decide +kernel⟩,
   ⟨let s := st []; s.modAxis 31 (fun c =>
     { c with st := 4, fault := true, plan := some ⟨[], Fl.zero, Fl.zero, Fl.zero, 0, some (Fl.ofInt 77)⟩ }), 31, (⟨[], Fl.zero, Fl.zero,
     Fl.zero, 0, some (Fl.ofInt 77)⟩ : PrfPlan), by decide +kernel⟩,
   ⟨let s := st [(F.PRF_P_STAT_PHASE 31, 1)]; s.modAxis 31 (fun c =>
     { c with st := 5, plan := some ⟨[], Fl.zero, Fl.zero, Fl.zero, 0, some (Fl.ofInt 77)⟩ }), 31, (⟨[], Fl.zero, Fl.zero, Fl.zero, 0, some
     (Fl.ofInt 77)⟩ : PrfPlan), by decide +kernel⟩,
   ⟨let s := st [(F.PRF_P_STAT_PHASE 31, 2)]; s.modAxis 31 (fun c =>
     { c with st := 5, plan := some ⟨[], Fl.zero, Fl.zero, Fl.zero, 0, some (Fl.ofInt 77)⟩ }), 31, (⟨[], Fl.zero, Fl.zero, Fl.zero, 0, some
     (Fl.ofInt 77)⟩ : PrfPlan), by decide +kernel⟩⟩

/-- States and operands that meet the hypotheses of each clause of `Obligations.CanControllers`. -/
theorem witness_CanControllers :
  (∃ (s : State) (n : Fin 8), s.flag (F.CAN_CTRL_INIT n) = true ∧ s.canInitRefused n = false) ∧
  (∃ (s : State) (n : Fin 8), s.flag (F.CAN_CTRL_INIT n) = true ∧ s.canInitRefused n = true) ∧
  (∃ (s : State) (n : Fin 8), s.can.ctl.length = 8 ∧ s.flag (F.CAN_CTRL_INIT n) = false) ∧
  (∃ (s : State) (n : Fin 8), s.flag (F.CAN_STATUS_INTEG n) = true ∧ s.get F.PWR_STATUS_STATE < 2 ∧ s.get (F.CAN_ERRCNT_TEC n) < 128 ∧
    s.flag (F.CAN_ERRCNT_RP n) = false) ∧
  (∃ (s : State) (n : Fin 8), s.get (F.CAN_STATUS_STATE n) = 3) ∧
  (∃ (s : State) (n : Fin 8), s.get (F.CAN_STATUS_STATE n) ≠ 3) ∧
  (∃ (s : State) (n : Fin 8), s.flag (F.CAN_STATUS_RECOV n) = true ∧ s.flag (F.CAN_CTRL_INIT n) = false) ∧
  (∃ (s : State), s.flag F.CAN_STATUS_READY = false ∧ s.flag F.CAN_STATUS_RAMFAULT = false) ∧
  (∃ (s : State), s.flag F.CAN_STATUS_READY = false ∧ s.flag F.CAN_STATUS_RAMFAULT = false) ∧
  (∃ (s : State) (n : Fin 8) (code : Fin 7) (first : Bool) (more : Fin 64), s.canOn n = true ∧ (s.canCtl n).cur = none ∧ code ≠ 0 ∧ s.get
    (F.CAN_ERRCNT_TEC n) < 128 ∧ s.flag (F.CAN_ERRCNT_RP n) = false ∧ s.get (F.CAN_ERRCNT_REC n) + (1 + (if first then 8 else 0) + 8 *
    more.val) < 128) ∧
  (∃ (s : State) (n : Fin 8) (code : Fin 7), s.canOn n = true ∧ (s.canCtl n).cur = none ∧ code ≠ 0) ∧
  (∃ (s : State) (n : Fin 8) (code : Fin 7), s.canOn n = true ∧ (s.canCtl n).cur = none ∧ code ≠ 0) ∧
  (∃ (s : State) (n : Fin 8), s.canOn n = true ∧ (s.canCtl n).cur = none ∧ s.flag (F.CAN_CTRL_PXE n) = true) ∧
  (∃ (s : State) (n : Fin 8), s.canOn n = true ∧ (s.canCtl n).cur = none ∧ s.flag (F.CAN_CTRL_PXE n) = false) ∧
  (∃ (s : State) (n : Fin 8), s.flag (F.CAN_STATUS_INTEG n) = true ∧ s.get F.PWR_STATUS_STATE < 2 ∧ s.get (F.CAN_ERRCNT_TEC n) < 256 ∧ 128 ≤
    s.get (F.CAN_ERRCNT_TEC n) ∨ s.flag (F.CAN_ERRCNT_RP n) = true) ∧
  (∃ (s : State) (n : Fin 8), s.flag (F.CAN_STATUS_INTEG n) = true ∧ s.get F.PWR_STATUS_STATE < 2 ∧ s.get (F.CAN_ERRCNT_TEC n) < 256 ∧ 128 ≤
    s.get (F.CAN_ERRCNT_TEC n) ∨ s.flag (F.CAN_ERRCNT_RP n) = true) :=
  ⟨⟨st [(F.CAN_CTRL_INIT 7, 1), (F.CAN_STATUS_READY, 1), (F.CAN_NBT_NBRP 7, 0), (F.CAN_NBT_NTSEG1 7, 58), (F.CAN_NBT_NTSEG2 7, 19),
    (F.CAN_CTRL_FDEN 7, 0), (F.CAN_CTRL_BRSEN 7, 0)], 7, by decide +kernel⟩,
   ⟨st [(F.CAN_CTRL_INIT 7, 1), (F.CAN_STATUS_READY, 0)], 7, by decide +kernel⟩,
   ⟨let s := at' [(F.CAN_CTRL_INIT 7, 0), (F.CAN_STATUS_STATE 7, 3), (F.CAN_STATUS_TXING 7, 1)] 1000000; s.modCan 7 (fun c =>
     { c with tx := [] }), 7, by decide +kernel⟩,
   ⟨st [(F.CAN_STATUS_INTEG 7, 1), (F.PWR_STATUS_STATE, 1), (F.CAN_ERRCNT_TEC 7, 127)], 7, by decide +kernel⟩,
   ⟨st [(F.CAN_STATUS_STATE 7, 3)], 7, by decide +kernel⟩,
   ⟨st [(F.CAN_STATUS_STATE 7, 2)], 7, by decide +kernel⟩,
   ⟨st [(F.CAN_CTRL_INIT 7, 0), (F.CAN_STATUS_RECOV 7, 1), (F.CAN_STATUS_STATE 7, 3), (F.CAN_ERRCNT_TEC 7, 256)], 7, by decide +kernel⟩,
   ⟨st [], by decide +kernel⟩,
   ⟨st [], by decide +kernel⟩,
   ⟨st [(F.CAN_CTRL_INIT 7, 0), (F.CAN_STATUS_STATE 7, 2), (F.CAN_ERRCNT_REC 7, 118)], 7, 6, true, 0, by decide +kernel⟩,
   ⟨st [(F.CAN_CTRL_INIT 7, 0), (F.CAN_STATUS_STATE 7, 2), (F.CAN_ERRCNT_REC 7, 118)], 7, 6, by decide +kernel⟩,
   ⟨st [(F.CAN_CTRL_INIT 7, 0), (F.CAN_STATUS_STATE 7, 1), (F.CAN_ERRCNT_TEC 7, 256)], 7, 1, by decide +kernel⟩,
   ⟨st [(F.CAN_CTRL_INIT 7, 0), (F.CAN_STATUS_STATE 7, 1), (F.CAN_CTRL_PXE 7, 1)], 7, by decide +kernel⟩,
   ⟨st [(F.CAN_CTRL_INIT 7, 0), (F.CAN_STATUS_STATE 7, 1), (F.CAN_CTRL_PXE 7, 0)], 7, by decide +kernel⟩,
   ⟨st [(F.CAN_STATUS_INTEG 7, 1), (F.PWR_STATUS_STATE, 1), (F.CAN_ERRCNT_TEC 7, 128)], 7, by decide +kernel⟩,
   ⟨st [(F.CAN_STATUS_INTEG 7, 1), (F.PWR_STATUS_STATE, 1), (F.CAN_ERRCNT_RP 7, 1)], 7, by decide +kernel⟩⟩

/-- States and operands that meet the hypotheses of each clause of `Obligations.CanBuffers`. -/
theorem witness_CanBuffers :
  (∃ (s : State) (n : Fin 8) (buf : Fin 128), s.can.ctl.length = 8 ∧ (s.canCtl n).locks.length = 2 ∧ s.flag (F.CAN_CTRL_MODE n) = true ∧
    s.canLocked n buf = false) ∧
  (∃ (s : State) (port : Fin 2) (n : Fin 8) (buf : Fin 128) (k : _), s.can.ctl.length = 8 ∧ (s.canCtl n).locks.length = 2 ∧ s.flag
    (F.CAN_CTRL_MODE n) = true ∧ s.canLock n port = some k ∧ k.buf = buf.val ∧ find1 (s.canCtl n).hold buf.val = none) ∧
  (∃ (s : State) (port : Fin 2) (n : Fin 8) (k : _), s.can.ctl.length = 8 ∧ (s.canCtl n).locks.length = 2 ∧ (s.canCtl n).rx.length ≤ 64 ∧
    s.flag (F.CAN_CTRL_MODE n) = false ∧ s.canLock n port = some k ∧ k.buf = 0) ∧
  (∃ (s : State) (port : Fin 2) (n : Fin 8) (k : _), s.can.ctl.length = 8 ∧ (s.canCtl n).locks.length = 2 ∧ s.canLock n port = some k ∧
    1000000 ≤ linDiff s.lin k.since) ∧
  (∃ (s : State) (n : Fin 8), s.can.ctl.length = 8 ∧ s.flag (F.CAN_CTRL_MODE n) = false ∧ (s.canCtl n).tx.length < 32) ∧
  (∃ (s : State) (n : Fin 8), s.flag (F.CAN_CTRL_MODE n) = false ∧ 32 ≤ (s.canCtl n).tx.length) ∧
  (∃ (s : State) (n : Fin 8) (w : Fin 4) (mask : Word), s.flag (F.CAN_CTRL_MODE n) = true ∧ (∀ b < 32, bitOf mask.toNat b = true → bitOf
    (s.objId n (32 * w + b)) 31 = true ∧ bitOf (s.objId n (32 * w + b)) 30 = true)) ∧
  (∃ (s : State) (n : Fin 8), (s.canCtl n).cur = none) ∧
  (∃ (s : State) (n : Fin 8), s.can.ctl.length = 8 ∧ (s.canCtl n).cur = none) ∧
  (∃ (s : State) (n : Fin 8), s.can.ctl.length = 8 ∧ (s.canCtl n).locks.length = 2 ∧ s.flag (F.CAN_CTRL_MODE n) = false ∧ (s.canCtl n).rx ≠
    [] ∧ s.canLocked n 0 = false) ∧
  (∃ (s : State) (port : Fin 2) (n : Fin 8) (k : _), s.can.ctl.length = 8 ∧ (s.canCtl n).locks.length = 2 ∧ s.canLock n port = some k ∧ 0 ≤
    linDiff s.lin k.since ∧ s.reaches (s.now + (1000000 - linDiff s.lin k.since).toNat)) ∧
  (∃ (s : State) (n : Fin 8) (w : Fin 4) (mask : Word) (b : Fin 32) (a : _), s.can.ctl.length = 8 ∧ (s.canCtl n).cur = some a ∧ a.who = .obj
    (32 * w + b) ∧ s.txPend n (32 * w + b) = true ∧ bitOf mask.toNat b = true) ∧
  (∃ (s : State) (n : Fin 8) (a : _), s.can.ctl.length = 8 ∧ (s.canCtl n).tx.length ≤ 32 ∧ (s.canCtl n).cur = some a ∧ a.who = .fifo) ∧
  (∃ (s : State) (n : Fin 8) (a : _), s.can.ctl.length = 8 ∧ (s.canCtl n).cur = some a ∧ a.who ≠ .fifo) :=
  ⟨⟨let s := at' [(F.CAN_CTRL_MODE 7, 1), (F.CAN_MRAM_WORD 7 2540, 5)] 1000000; s.modCan 7 (fun c => { c with wait := [] }), 7, 127,
    by decide +kernel⟩,
   ⟨let s := at' [(F.CAN_CTRL_MODE 7, 1), (F.CAN_NEWDAT_OBJ 7 3, 4294967295), (F.CAN_MRAM_WORD 7 2559, 67)] 1000000; s.modCan 7 (fun c =>
     { c with locks := [none, some ⟨127, 0⟩] }), 1, 7, 127, (⟨127, 0⟩ : BufLock), by decide +kernel⟩,
   ⟨let s := at' [] 1000000; s.modCan 7 (fun c => { c with locks := [none, some ⟨0, 0⟩], rx := [[1], [2]] }), 1, 7, (⟨0, 0⟩ : BufLock),
     by decide +kernel⟩,
   ⟨let s := at' [] 1000000; s.modCan 7 (fun c => { c with locks := [none, some ⟨0, 0⟩] }), 1, 7, (⟨0, 0⟩ : BufLock), by decide +kernel⟩,
   ⟨let s := at' [] 1000000; s.modCan 7 (fun c => { c with tx := List.replicate 31 ⟨[], false⟩ }), 7, by decide +kernel⟩,
   ⟨let s := at' [] 1000000; s.modCan 7 (fun c => { c with tx := List.replicate 32 ⟨[], false⟩ }), 7, by decide +kernel⟩,
   ⟨let s := at' [(F.CAN_CTRL_MODE 7, 1), (F.CAN_MRAM_WORD 7 (3072 + 2 * 127), 0xC0000001)] 1000000; s.modCan 7 (fun c =>
     { c with wait := [] }), 7, 3, 0x80000000#32, by decide +kernel⟩,
   ⟨let s := at' [(F.CAN_CTRL_MODE 7, 1), (F.CAN_TXPEND_OBJ 7 3, 0xC0000001)] 1000000; s.modCan 7 (fun c => { c with wait := [] }), 7,
     by decide +kernel⟩,
   ⟨let s := at' [] 1000000; s.modCan 7 (fun c => { c with tx := [⟨[], false⟩] }), 7, by decide +kernel⟩,
   ⟨let s := at' [] 1000000; s.modCan 7 (fun c => { c with rx := [[9], [2]] }), 7, by decide +kernel⟩,
   ⟨let s := at' [] 1000000; s.modCan 7 (fun c => { c with locks := [none, some ⟨0, 249995⟩] }), 1, 7, (⟨0, 249995⟩ : BufLock),
     by decide +kernel⟩,
   ⟨let s := at' [(F.CAN_CTRL_MODE 7, 1), (F.CAN_TXPEND_OBJ 7 3, 0x80000000)] 1000000; s.modCan 7 (fun c =>
     { c with cur := some ⟨.obj 127, (⟨0x123#29, true, false, true, true, false, 15, []⟩ : CanFrame), false⟩ }), 7, 3, 0x80000000#32, 31,
     (⟨.obj 127, (⟨0x123#29, true, false, true, true, false, 15, []⟩ : CanFrame), false⟩ : TxAttempt), by decide +kernel⟩,
   ⟨let s := at' [] 1000000; s.modCan 7 (fun c =>
     { c with tx := [⟨[], false⟩, ⟨[1], true⟩], cur := some ⟨.fifo, (⟨0x123#29, true, false, true, true, false, 15, []⟩ : CanFrame), false⟩ }),
     7, (⟨.fifo, (⟨0x123#29, true, false, true, true, false, 15, []⟩ : CanFrame), false⟩ : TxAttempt), by decide +kernel⟩,
   ⟨let s := at' [] 1000000; s.modCan 7 (fun c =>
     { c with tx := [⟨[], false⟩, ⟨[1], true⟩], cur := some ⟨.tlg 3, (⟨0x123#29, true, false, true, true, false, 15, []⟩ : CanFrame), false⟩ }),
     7, (⟨.tlg 3, (⟨0x123#29, true, false, true, true, false, 15, []⟩ : CanFrame), false⟩ : TxAttempt), by decide +kernel⟩⟩

/-- States and operands that meet the hypotheses of each clause of `Obligations.CanTraffic`. -/
theorem witness_CanTraffic :
  (∃ (s : State) (n : Fin 8), s.can.ctl.length = 8 ∧ s.canOn n = true ∧ (s.canCtl n).cur = none ∧ s.flag (F.CAN_CTRL_MODE n) = false ∧ (∀ k
    < 16, bitOf (s.objId n k) 31 = false) ∧ (s.canCtl n).rx.length < 64) ∧
  (∃ (s : State) (n : Fin 8) (c : _), s.can.ctl.length = 8 ∧ s.canOn n = true ∧ (s.canCtl n).cur = none ∧ s.flag (F.CAN_CTRL_MON n) = false
    ∧ bestCand (s.txCands n) = some c) ∧
  (∃ (s : State) (n : Fin 8) (a : _) (k : Fin 16), s.can.ctl.length = 8 ∧ s.can.tlg.length = 16 ∧ (s.canCtl n).cur = some a ∧ a.who = .tlg k
    ∧ (s.tlgSlot k).pend = some (frameBytes a.frame) ∧ s.flag (F.CAN_CTRL_LBACK n) = false ∧ s.get (F.CAN_ERRCNT_TEC n) < 128 ∧ s.flag
    (F.CAN_ERRCNT_RP n) = false) ∧
  (∃ (s : State) (n : Fin 8) (a : _), s.can.ctl.length = 8 ∧ (s.canCtl n).cur = some a ∧ a.cancel = false) ∧
  (∃ (s : State) (k : Fin 16), s.flag (F.CAN_TLG_CFG_EN k) = true ∧ s.get (F.CAN_TLG_FBTMO_MS k) ≠ 0 ∧ (s.get (F.CAN_TLG_FBTMO_MS k) *
    1000000 : Int) ≤ linDiff s.lin (s.tlgSlot k).since ∧ s.flag (F.CAN_TLG_STAT_FBLOST k) = false) ∧
  (∃ (s : State) (n : Fin 8), s.canOn n = true ∧ (s.canCtl n).cur = none) ∧
  (∃ (s : State) (n : Fin 8), s.canOn n = true ∧ (s.canCtl n).cur = none) ∧
  (∃ (s : State) (n : Fin 8) (f : _) (o : Fin 128), s.canOn n = true ∧ (s.canCtl n).cur = none ∧ s.flag (F.CAN_CTRL_MODE n) = true ∧
    (List.range 128).find? (fun k => !bitOf (s.objId n k) 30 && frameMatches f (s.objId n k) (s.objMask n k)) = some o.val ∧ s.canLocked n o
    = false) ∧
  (∃ (s : State) (n : Fin 8) (a : _), s.can.ctl.length = 8 ∧ (s.canCtl n).tx.length ≤ 32 ∧ (s.canCtl n).cur = some a ∧ a.who = .fifo ∧
    s.flag (F.CAN_CTRL_LBACK n) = false ∧ s.get (F.CAN_ERRCNT_TEC n) ≤ 256) ∧
  (∃ (s : State) (n : Fin 8) (a : _) (o : Fin 128), s.can.ctl.length = 8 ∧ (s.canCtl n).cur = some a ∧ a.who = .obj o ∧ s.flag
    (F.CAN_CTRL_LBACK n) = false ∧ s.canLocked n o = false) ∧
  (∃ (s : State) (n : Fin 8) (more : Fin 64) (a : _), s.can.ctl.length = 8 ∧ (s.canCtl n).cur = some a ∧ s.get (F.CAN_ERRCNT_TEC n) + 8 + 8
    * more.val < 128 ∧ s.flag (F.CAN_ERRCNT_RP n) = false ∧ s.get (F.CAN_STATUS_STATE n) = 1) ∧
  (∃ (s : State) (n : Fin 8) (more : Fin 64) (a : _), s.can.ctl.length = 8 ∧ (s.canCtl n).cur = some a ∧ s.get (F.CAN_ERRCNT_TEC n) + 8 + 8
    * more.val < 128 ∧ s.flag (F.CAN_ERRCNT_RP n) = false ∧ s.get (F.CAN_STATUS_STATE n) = 1) ∧
  (∃ (s : State) (n : Fin 8) (a : _), s.can.ctl.length = 8 ∧ (s.canCtl n).tx.length ≤ 32 ∧ (s.canCtl n).cur = some a ∧ a.cancel = true ∧
    a.who = .fifo) ∧
  (∃ (s : State) (k : Fin 16), s.flag (F.CAN_TLG_CFG_EN k) = true ∧ s.get (F.CAN_TLG_FBTMO_MS k) ≠ 0 ∧ 0 ≤ linDiff s.lin (s.tlgSlot k).since
    ∧ s.reaches (s.now + ((s.get (F.CAN_TLG_FBTMO_MS k) * 1000000 : Int) - linDiff s.lin (s.tlgSlot k).since).toNat) ∧ s.flag
    (F.CAN_TLG_STAT_FBLOST k) = false) :=
  ⟨⟨let s := at' [(F.CAN_CTRL_INIT 7, 0), (F.CAN_STATUS_STATE 7, 1), (F.CAN_CNT_COUNT 7 1, 4294967295)] 1000000; s.modCan 7 (fun c =>
    { c with rx := List.replicate 63 [] }), 7, by decide +kernel⟩,
   ⟨let s := at' [(F.CAN_CTRL_INIT 7, 0), (F.CAN_STATUS_STATE 7, 1)] 1000000; s.modCan 7 (fun c => { c with tx := [⟨[5], false⟩] }), 7,
     ((bestCand (State.txCands (let s := at' [(F.CAN_CTRL_INIT 7, 0), (F.CAN_STATUS_STATE 7, 1)] 1000000; s.modCan 7 (fun c =>
     { c with tx := [⟨[5], false⟩] })) 7)).getD ⟨0, .fifo, (⟨0x123#29, true, false, true, true, false, 15, []⟩ : CanFrame)⟩),
     by decide +kernel⟩,
   ⟨let s := let s := at' [(F.CAN_CTRL_INIT 7, 0), (F.CAN_STATUS_STATE 7, 1)] 1000000; s.modCan 7 (fun c =>
     { c with cur := some ⟨.tlg 15, (⟨0x123#29, true, false, true, true, false, 15, []⟩ : CanFrame), false⟩ }); s.modTlg 15 (fun x =>
     { x with pend := some (frameBytes (⟨0x123#29, true, false, true, true, false, 15, []⟩ : CanFrame)) }), 7, (⟨.tlg 15, (⟨0x123#29, true,
     false, true, true, false, 15, []⟩ : CanFrame), false⟩ : TxAttempt), 15, by decide +kernel⟩,
   ⟨let s := at' [(F.CAN_CTRL_INIT 7, 0), (F.CAN_STATUS_STATE 7, 1)] 1000000; s.modCan 7 (fun c =>
     { c with cur := some ⟨.fifo, (⟨0x123#29, true, false, true, true, false, 15, []⟩ : CanFrame), false⟩ }), 7, (⟨.fifo, (⟨0x123#29, true,
     false, true, true, false, 15, []⟩ : CanFrame), false⟩ : TxAttempt), by decide +kernel⟩,
   ⟨at' [(F.CAN_TLG_CFG_EN 15, 1), (F.CAN_TLG_FBTMO_MS 15, 1)] 1000000, 15, by decide +kernel⟩,
   ⟨let s := at' [(F.CAN_CTRL_INIT 7, 0), (F.CAN_STATUS_STATE 7, 1)] 1000000; s.modCan 7 (fun c => { c with rx := List.replicate 64 [] }),
     7, by decide +kernel⟩,
   ⟨let s := at' [(F.CAN_CTRL_INIT 7, 0), (F.CAN_STATUS_STATE 7, 1), (F.CAN_ERRCNT_RP 7, 1), (F.CAN_CTRL_MODE 7, 1)] 1000000; s.modCan 7
     (fun c => { c with rx := [] }), 7, by decide +kernel⟩,
   ⟨let s := at' [(F.CAN_CTRL_INIT 7, 0), (F.CAN_STATUS_STATE 7, 1), (F.CAN_CTRL_MODE 7, 1), (F.CAN_MRAM_WORD 7 (3072 + 2 * 127),
     0xA0000123), (F.CAN_MRAM_WORD 7 (3073 + 2 * 127), 0x1FFFFFFF), (F.CAN_MRAM_WORD 7 (20 * 127 + 19), 1)] 1000000; s.modCan 7 (fun c =>
     { c with rx := [] }), 7, (⟨0x123#29, true, false, true, true, false, 15, []⟩ : CanFrame), 127, by decide +kernel⟩,
   ⟨let s := at' [(F.CAN_CTRL_INIT 7, 0), (F.CAN_STATUS_STATE 7, 1), (F.CAN_ERRCNT_TEC 7, 256)] 1000000; s.modCan 7 (fun c =>
     { c with tx := [⟨[], false⟩, ⟨[1], true⟩], cur := some ⟨.fifo, (⟨0x123#29, true, false, true, true, false, 15, []⟩ : CanFrame), false⟩ }),
     7, (⟨.fifo, (⟨0x123#29, true, false, true, true, false, 15, []⟩ : CanFrame), false⟩ : TxAttempt), by decide +kernel⟩,
   ⟨let s := at' [(F.CAN_CTRL_INIT 7, 0), (F.CAN_STATUS_STATE 7, 1), (F.CAN_CTRL_MODE 7, 1), (F.CAN_TXPEND_OBJ 7 3, 0x80000000)] 1000000;
     s.modCan 7 (fun c => { c with cur := some ⟨.obj 127, (⟨0x123#29, true, false, true, true, false, 15, []⟩ : CanFrame), true⟩ }), 7,
     (⟨.obj 127, (⟨0x123#29, true, false, true, true, false, 15, []⟩ : CanFrame), true⟩ : TxAttempt), 127, by decide +kernel⟩,
   ⟨let s := at' [(F.CAN_CTRL_INIT 7, 0), (F.CAN_STATUS_STATE 7, 1), (F.CAN_ERRCNT_TEC 7, 111)] 1000000; s.modCan 7 (fun c =>
     { c with cur := some ⟨.fifo, (⟨0x123#29, true, false, true, true, false, 15, []⟩ : CanFrame), true⟩, tx := [⟨[], true⟩] }), 7, 1,
     (⟨.fifo, (⟨0x123#29, true, false, true, true, false, 15, []⟩ : CanFrame), true⟩ : TxAttempt), by decide +kernel⟩,
   ⟨let s := at' [(F.CAN_CTRL_INIT 7, 0), (F.CAN_STATUS_STATE 7, 1)] 1000000; s.modCan 7 (fun c =>
     { c with cur := some ⟨.tlg 15, (⟨0x123#29, true, false, true, true, false, 15, []⟩ : CanFrame), false⟩ }), 7, 0, (⟨.tlg 15, (⟨0x123#29,
     true, false, true, true, false, 15, []⟩ : CanFrame), false⟩ : TxAttempt), by decide +kernel⟩,
   ⟨let s := at' [(F.CAN_CTRL_INIT 7, 0), (F.CAN_STATUS_STATE 7, 1)] 1000000; s.modCan 7 (fun c =>
     { c with tx := [⟨[], false⟩], cur := some ⟨.fifo, (⟨0x123#29, true, false, true, true, false, 15, []⟩ : CanFrame), true⟩ }), 7,
     (⟨.fifo, (⟨0x123#29, true, false, true, true, false, 15, []⟩ : CanFrame), true⟩ : TxAttempt), by decide +kernel⟩,
   ⟨let s := at' [(F.CAN_TLG_CFG_EN 15, 1), (F.CAN_TLG_FBTMO_MS 15, 1)] 1000000; s.modTlg 15 (fun c => { c with since := 249995 }), 15,
     by decide +kernel⟩⟩

/-- States and operands that meet the hypotheses of each clause of `Obligations.EthernetPorts`. -/
theorem witness_EthernetPorts :
  (∃ (s : State) (p : Fin 4) (up : _), s.flag (F.ETH_STATUS_LINK p) = !up) ∧
  (∃ (s : State) (p : Fin 4) (up : _), s.flag (F.ETH_STATUS_LINK p) = !up) ∧
  (∃ (s : State) (net : Fin 2), s.eth.ports.length = 4 ∧ s.ethUp (s.ethPrimary net) = true ∧ s.ethActive net = none) ∧
  (∃ (s : State) (net : Fin 2) (a : _), s.eth.ports.length = 4 ∧ s.ethActive net = some a ∧ s.ethUp a = false ∧ s.ethUp (ethMate a) = true) ∧
  (∃ (s : State) (net : Fin 2), s.eth.ports.length = 4 ∧ (if net = 0 then s.flag F.ETH_NETCFG_A_FAILBACK else s.flag
    F.ETH_NETCFG_B_FAILBACK) = true ∧ s.ethUp (s.ethPrimary net) = true ∧ s.flag (F.ETH_STATUS_ACTIVE (s.ethPrimary net)) = false ∧ (s.port
    (s.ethPrimary net)).upSince + 10000000000 ≤ s.now) ∧
  (∃ (s : State) (p : Fin 4) (c : _), s.eth.ports.length = 4 ∧ s.ethUp p = true ∧ s.nextClass p = some c ∧ c ≠ 1) ∧
  (∃ (s : State) (p : Fin 4) (domain : Fin 256) (ds : _), s.eth.ports.length = 4 ∧ s.ptpOn p = true ∧ domain.val = s.ptpDomain ∧ (∀ b :
    PtpSet, (s.port p).best = some b → b.sender = ds.sender ∨ ptpBetter ds b = true)) ∧
  (∃ (s : State) (p : Fin 4) (domain : Fin 256) (ds : _), s.eth.ports.length = 4 ∧ s.ptpOn p = true ∧ domain.val = s.ptpDomain ∧ (∀ b :
    PtpSet, (s.port p).best = some b → b.sender = ds.sender ∨ ptpBetter ds b = true)) ∧
  (∃ (s : State) (p : Fin 4), s.eth.ports.length = 4 ∧ (s.port p).best.isSome = true ∧ 3 ≤ s.annMissed p) ∧
  (∃ (s : State) (p : Fin 4) (k : _) (frac : _) (m : _), s.eth.ports.length = 4 ∧ s.ptpDue p k = true ∧ (s.port p).ptpQ = [] ∧ s.classWaits
    p 0 = false ∧ m = s.ptpMessage p k (if ptpClock k = none then (s.port p).reqs.head? else none) (s.egressTime p frac)) ∧
  (∃ (s : State) (p : Fin 4) (a : _), s.eth.ports.length = 4 ∧ (s.port a).queues.length = 4 ∧ s.ethActive (p / 2) = some a ∧ s.get
    (F.ETH_IP_ADDR a) ≠ 0) ∧
  (∃ (s : State) (p : Fin 4) (frac : _) (x : _) (rest : _) (m : _), s.eth.ports.length = 4 ∧ s.ethUp p = true ∧ s.nextClass p = some 1 ∧
    (s.port p).ptpQ = x :: rest ∧ m = s.ptpMessage p x.1 x.2 (s.egressTime p frac)) ∧
  (∃ (s : State) (domain : Fin 256), domain.val ≠ s.ptpDomain) ∧
  (∃ (s : State) (p : Fin 4), s.eth.ports.length = 4 ∧ (s.port p).best.isSome = true ∧ s.annMissed p < 3) ∧
  (∃ (s : State) (p : Fin 4) (k : _), s.eth.ports.length = 4 ∧ s.ptpDue p k = true ∧ s.classWaits p 0 = true) ∧
  (∃ (s : State) (p : Fin 4) (k : _), s.ptpDue p k = false) ∧
  (∃ (s : State) (p : Fin 4), s.ethActive (p / 2) = none) :=
  ⟨⟨st [(F.ETH_CFG_ENABLE 3, 1)], 3, true, by decide +kernel⟩,
   ⟨st [(F.ETH_STATUS_LINK 3, 1), (F.ETH_STATUS_LINKDOWN 3, 65535)], 3, false, by decide +kernel⟩,
   ⟨st [(F.ETH_STATUS_LINK 0, 1), (F.ETH_CFG_ENABLE 0, 1), (F.ETH_STATUS_LINK 1, 1), (F.ETH_CFG_ENABLE 1, 1)], 0, by decide +kernel⟩,
   ⟨let s := st [(F.ETH_STATUS_LINK 0, 1), (F.ETH_CFG_ENABLE 0, 1), (F.ETH_STATUS_LINK 1, 1), (F.ETH_CFG_ENABLE 1, 1), (F.ETH_STATUS_LINK 0,
     0), (F.ETH_STATUS_ACTIVE 0, 1)]; { s with eth :=
     { s.eth with ports := modNth s.eth.ports 0 (fun x => { x with queues := [[[1]], [[2]], [[3]], []] }) } }, 0, 0, by decide +kernel⟩,
   ⟨at' [(F.ETH_STATUS_LINK 0, 1), (F.ETH_CFG_ENABLE 0, 1), (F.ETH_STATUS_LINK 1, 1), (F.ETH_CFG_ENABLE 1, 1), (F.ETH_STATUS_ACTIVE 1, 1),
     (F.ETH_NETCFG_A_FAILBACK, 1), (F.ETH_NETCFG_A_PRIMARY, 0)] 10000000000, 0, by decide +kernel⟩,
   ⟨let s := st [(F.ETH_STATUS_LINK 0, 1), (F.ETH_CFG_ENABLE 0, 1), (F.ETH_STATUS_LINK 1, 1), (F.ETH_CFG_ENABLE 1, 1), (F.ETH_STATUS_ACTIVE
     0, 1), (F.ETH_CNT_COUNT 0 1, 4294967295)]; { s with eth :=
     { s.eth with ports := modNth s.eth.ports 0 (fun x => { x with queues := [[], [], [[1], [2]], []] }) } }, 0, 2, by decide +kernel⟩,
   ⟨st [(F.ETH_STATUS_LINK 0, 1), (F.ETH_CFG_ENABLE 0, 1), (F.ETH_STATUS_LINK 1, 1), (F.ETH_CFG_ENABLE 1, 1), (F.ETH_PTPCFG_EN 1, 1)], 1, (0
     : Fin 256), (⟨128, 6, 33, 20000, 128, 77, 0, 77⟩ : PtpSet), by decide +kernel⟩,
   ⟨let s := st [(F.ETH_STATUS_LINK 0, 1), (F.ETH_CFG_ENABLE 0, 1), (F.ETH_STATUS_LINK 1, 1), (F.ETH_CFG_ENABLE 1, 1), (F.ETH_PTPCFG_EN 1,
     1)]; { s with eth :=
     { s.eth with ports := modNth s.eth.ports 1 (fun x => { x with annMiss := 2, best := some (⟨128, 6, 33, 20000, 128, 77, 0, 77⟩ : PtpSet) }) }
     }, 1, (0 : Fin 256), (⟨128, 6, 33, 20000, 128, 77, 0, 77⟩ : PtpSet), by decide +kernel⟩,
   ⟨let s := at' [(F.ETH_STATUS_LINK 0, 1), (F.ETH_CFG_ENABLE 0, 1), (F.ETH_STATUS_LINK 1, 1), (F.ETH_CFG_ENABLE 1, 1), (F.ETH_PTPCFG_EN 1,
     1), (F.ETH_PTPCFG_LOGANN 1, 0)] 3000000000; { s with eth :=
     { s.eth with ports := modNth s.eth.ports 1 (fun x => { x with annAt := 0, best := some (⟨128, 6, 33, 20000, 128, 77, 0, 77⟩ : PtpSet) }) }
     }, 1, by decide +kernel⟩,
   ⟨at' [(F.ETH_STATUS_LINK 0, 1), (F.ETH_CFG_ENABLE 0, 1), (F.ETH_STATUS_LINK 1, 1), (F.ETH_CFG_ENABLE 1, 1), (F.ETH_PTPCFG_EN 1, 1),
     (F.ETH_STATUS_PTP_STATE 1, 6)] 5, 1, .sync, 4, _, by decide +kernel, by decide +kernel, by decide +kernel, by decide +kernel, rfl⟩,
   ⟨st [(F.ETH_STATUS_LINK 0, 1), (F.ETH_CFG_ENABLE 0, 1), (F.ETH_STATUS_LINK 1, 1), (F.ETH_CFG_ENABLE 1, 1), (F.ETH_STATUS_ACTIVE 1, 1),
     (F.ETH_IP_ADDR 1, 5), (F.ETH_450GRP_CFG_EN 15, 1), (F.ETH_450GRP_CFG_NET_A 15, 1), (F.ETH_450GRP_ADDR_ADDR 15, 0xE0000001)], 0, 1,
     by decide +kernel⟩,
   ⟨let s := at' [(F.ETH_STATUS_LINK 0, 1), (F.ETH_CFG_ENABLE 0, 1), (F.ETH_STATUS_LINK 1, 1), (F.ETH_CFG_ENABLE 1, 1), (F.ETH_PTPCFG_EN 1,
     1), (F.ETH_STATUS_PTP_STATE 1, 6)] 5; { s with eth :=
     { s.eth with ports := modNth s.eth.ports 1 (fun x => { x with ptpQ := [(.announce, none), (.sync, none)] }) } }, 1, 0, (.announce,
     none), [(.sync, none)], _, by decide +kernel, by decide +kernel, by decide +kernel, by decide +kernel, rfl⟩,
   ⟨st [(F.ETH_STATUS_LINK 0, 1), (F.ETH_CFG_ENABLE 0, 1), (F.ETH_STATUS_LINK 1, 1), (F.ETH_CFG_ENABLE 1, 1), (F.ETH_PTPCFG_EN 1, 1)], (255
     : Fin 256), by decide +kernel⟩,
   ⟨let s := at' [(F.ETH_STATUS_LINK 0, 1), (F.ETH_CFG_ENABLE 0, 1), (F.ETH_STATUS_LINK 1, 1), (F.ETH_CFG_ENABLE 1, 1), (F.ETH_PTPCFG_EN 1,
     1), (F.ETH_PTPCFG_LOGANN 1, 0)] 2999999999; { s with eth :=
     { s.eth with ports := modNth s.eth.ports 1 (fun x => { x with annAt := 0, best := some (⟨128, 6, 33, 20000, 128, 77, 0, 77⟩ : PtpSet) }) }
     }, 1, by decide +kernel⟩,
   ⟨let s := at' [(F.ETH_STATUS_LINK 0, 1), (F.ETH_CFG_ENABLE 0, 1), (F.ETH_STATUS_LINK 1, 1), (F.ETH_CFG_ENABLE 1, 1), (F.ETH_PTPCFG_EN 1,
     1), (F.ETH_STATUS_ACTIVE 1, 1), (F.ETH_STATUS_PTP_STATE 1, 6)] 5; { s with eth :=
     { s.eth with ports := modNth s.eth.ports 1 (fun x => { x with queues := [[[1]], [], [], []] }) } }, 1, PtpKind.sync, by decide +kernel⟩,
   ⟨st [], 1, PtpKind.delayResp, by decide +kernel⟩,
   ⟨st [], 3, by decide +kernel⟩⟩

/-- States and operands that meet the hypotheses of each clause of `Obligations.EthernetReception`. -/
theorem witness_EthernetReception :
  (∃ (s : State) (p : Fin 4), s.ethUp p = true ∧ s.frm.onceMajor.contains 27 = false) ∧
  (∃ (s : State) (p : Fin 4) (bs : List Byte), s.ethUp p = true ∧ bs.length ≤ 1518 ∧ (etherParts bs).2.1 = 0x88F7 ∧ s.eth.ports.length = 4 ∧
    (s.port p).ptpRx.length < 16) ∧
  (∃ (s : State) (p : Fin 4) (bs : List Byte), s.ethTakes p = true ∧ bs.length ≤ 1518 ∧ (etherParts bs).2.1 = 0x88B5) ∧
  (∃ (s : State) (p : Fin 4) (bs : List Byte), s.ethUp p = true ∧ s.flag (F.ETH_STATUS_ACTIVE p) = false ∧ bs.length ≤ 1518 ∧ (etherParts
    bs).2.1 = 0x88B5) ∧
  (∃ (s : State) (p : Fin 4) (g : Fin 16) (bs : List Byte), s.ethTakes p = true ∧ s.grpOn g (p / 2) = true ∧ bs.take 5 ≠ [85#8, 100#8, 80#8,
    98#8, 67#8]) ∧
  (∃ (s : State) (p : Fin 4) (g : Fin 16) (body : _) (l : _) (x : _), s.ethTakes p = true ∧ s.grpOn g (p / 2) = true ∧ lines body [] = [l] ∧
    tagBlocks 8 l = ([], l) ∧ parseSentence false l = some x) ∧
  (∃ (s : State) (p : Fin 4) (bs : List Byte), s.ethTakes p = true ∧ bs.length ≤ 1518 ∧ (etherParts bs).2.1 ≠ 0x88F7 ∧ (etherParts bs).2.1 ≠
    0x88B5 ∧ udpParts (etherParts bs).2.1 (etherParts bs).2.2 = none ∧ (etherParts bs).1 = s.ethMac p ∨ (etherParts bs).1 = 0xFFFFFFFFFFFF ∧
    s.flag (F.ETH_CFG_RAWRX p) = true) :=
  ⟨⟨st [(F.ETH_STATUS_LINK 0, 1), (F.ETH_CFG_ENABLE 0, 1), (F.ETH_STATUS_LINK 1, 1), (F.ETH_CFG_ENABLE 1, 1)], 1, by decide +kernel⟩,
   ⟨st [(F.ETH_STATUS_LINK 0, 1), (F.ETH_CFG_ENABLE 0, 1), (F.ETH_STATUS_LINK 1, 1), (F.ETH_CFG_ENABLE 1, 1)], 1, (List.replicate 12 0#8 ++
     [0x88, 0xF7, 1] : List Byte), by decide +kernel⟩,
   ⟨st [(F.ETH_STATUS_LINK 0, 1), (F.ETH_CFG_ENABLE 0, 1), (F.ETH_STATUS_LINK 1, 1), (F.ETH_CFG_ENABLE 1, 1), (F.ETH_STATUS_ACTIVE 1, 1)],
     1, (List.replicate 12 0#8 ++ [0x88, 0xB5, 1] : List Byte), by decide +kernel⟩,
   ⟨st [(F.ETH_STATUS_LINK 0, 1), (F.ETH_CFG_ENABLE 0, 1), (F.ETH_STATUS_LINK 1, 1), (F.ETH_CFG_ENABLE 1, 1)], 1, (List.replicate 12 0#8 ++
     [0x88, 0xB5, 1] : List Byte), by decide +kernel⟩,
   ⟨st [(F.ETH_STATUS_LINK 0, 1), (F.ETH_CFG_ENABLE 0, 1), (F.ETH_STATUS_LINK 1, 1), (F.ETH_CFG_ENABLE 1, 1), (F.ETH_STATUS_ACTIVE 1, 1),
     (F.ETH_450GRP_CFG_EN 15, 1), (F.ETH_450GRP_CFG_NET_A 15, 1), (F.ETH_450GRP_ADDR_ADDR 15, 0xE0000001), (F.ETH_450DROP_FORMAT, 65535)],
     1, 15, ([85#8] : List Byte), by decide +kernel⟩,
   ⟨st [(F.ETH_STATUS_LINK 0, 1), (F.ETH_CFG_ENABLE 0, 1), (F.ETH_STATUS_LINK 1, 1), (F.ETH_CFG_ENABLE 1, 1), (F.ETH_STATUS_ACTIVE 1, 1),
     (F.ETH_450GRP_CFG_EN 15, 1), (F.ETH_450GRP_CFG_NET_A 15, 1), (F.ETH_450GRP_ADDR_ADDR 15, 0xE0000001)], 1, 15, ([36#8, 71#8, 80#8, 88#8,
     44#8, 49#8, 13#8, 10#8] : List Byte), ([36#8, 71#8, 80#8, 88#8, 44#8, 49#8, 13#8, 10#8] : List Byte), (⟨[71#8, 80#8, 88#8], [[49#8]],
     []⟩ : Sentence), by decide +kernel⟩,
   ⟨st [(F.ETH_STATUS_LINK 0, 1), (F.ETH_CFG_ENABLE 0, 1), (F.ETH_STATUS_LINK 1, 1), (F.ETH_CFG_ENABLE 1, 1), (F.ETH_STATUS_ACTIVE 1, 1),
     (F.ETH_CFG_RAWRX 1, 1)], 1, (List.replicate 6 255#8 ++ List.replicate 8 0#8 : List Byte), by decide +kernel⟩⟩

/-- States and operands that meet the hypotheses of each clause of `Obligations.IslandStatesAndTicks`. -/
theorem witness_IslandStatesAndTicks :
  (∃ (s : State), s.get F.SAF_STATUS_STATE ≠ 3) ∧
  (∃ (s : State), s.get F.SAF_STATUS_STATE = 3) ∧
  (∃ (s : State) (tcxo : _) (rc : _) (xtal : _), clockApart tcxo rc = true ∧ clockApart tcxo xtal = true ∧ clockApart rc xtal = false ∧
    s.flag F.SAF_STATUS_TCXO_FAULT = false) ∧
  (∃ (s : State) (tcxo : _) (rc : _) (xtal : _), clockApart tcxo rc = true ∧ clockApart tcxo xtal = true ∧ clockApart rc xtal = true ∧ s.get
    F.SAF_STATUS_STATE ≠ 3) ∧
  (∃ (tcxo : _) (rc : _) (xtal : _), clockApart tcxo rc = false ∧ clockApart tcxo xtal = false) ∧
  (∃ (s : State) (v : Nat), s.islRun = true ∧ s.saf.cfg = some [(F.SAF_RSTCFG_EN.off, v)]) ∧
  (∃ (s : State) (v : Nat), s.islRun = true ∧ s.saf.cfg = some [(F.SAF_RSTCFG_EN.off, v)]) ∧
  (∃ (s : State) (l : _), s.islRun = true ∧ s.saf.cfg = some l) ∧
  (∃ (s : State), s.islRun = true ∧ s.get F.PWR_STATUS_STATE < 3) ∧
  (∃ (s : State), s.islRun = true ∧ s.get F.PWR_STATUS_STATE < 3) ∧
  (∃ (s : State), s.get F.SAF_STATUS_STATE = 1 ∧ s.get F.PWR_STATUS_STATE < 3) ∧
  (∃ (s : State) (l : _), s.islRun = true ∧ s.saf.cfg = some l) ∧
  (∃ (s : State) (tcxo : _) (rc : _) (xtal : _), clockApart tcxo rc = true ∧ clockApart tcxo xtal = false ∧ clockApart rc xtal = true ∧
    s.flag F.SAF_STATUS_RC_FAULT = false) ∧
  (∃ (s : State) (tcxo : _) (rc : _) (xtal : _), clockApart tcxo rc = false ∧ clockApart tcxo xtal = true ∧ clockApart rc xtal = true ∧
    s.flag F.SAF_STATUS_XTAL_FAULT = false) :=
  ⟨⟨let s := st [(F.SAF_STATUS_STATE, 2), (F.SAF_CO_AUX_STATE 15, 4), (F.SAF_CO_AUX_OUT 15, 1), (F.SAF_CO_OUT_OUT, 65535)]; s.modCon 15 (fun
    c => { c with cmd := true }), by decide +kernel⟩,
   ⟨st [(F.SAF_STATUS_STATE, 3)], by decide +kernel⟩,
   ⟨st [], (20001 : Int), (0 : Int), (-10 : Int), by decide +kernel⟩,
   ⟨st [(F.SAF_STATUS_STATE, 2)], (20001 : Int), (0 : Int), (-20010 : Int), by decide +kernel⟩,
   ⟨(20000 : Int), (0 : Int), (0 : Int), by decide +kernel⟩,
   ⟨let s := st [(F.SAF_STATUS_STATE, 2)]; { s with saf := { s.saf with cfg := some [(0xC00028, 0xF0000)] } }, 0xF0000, by decide +kernel⟩,
   ⟨let s := st [(F.SAF_STATUS_STATE, 2)]; { s with saf := { s.saf with cfg := some [(0xC00028, 0)] } }, 0, by decide +kernel⟩,
   ⟨let s := st [(F.SAF_STATUS_STATE, 2)]; { s with saf := { s.saf with cfg := some [] } }, ([] : List (Nat × Nat)), by decide +kernel⟩,
   ⟨st [(F.SAF_STATUS_STATE, 2)], by decide +kernel⟩,
   ⟨let s := st [(F.SAF_STATUS_STATE, 2)];
     { s with saf := { s.saf with cfg := some [(0xC00028, 0xF0000)], rx := [⟨1, 99, List.replicate 16 9#8⟩] } }, by decide +kernel⟩,
   ⟨st [(F.SAF_STATUS_STATE, 1)], by decide +kernel⟩,
   ⟨let s := st [(F.SAF_STATUS_STATE, 2)]; { s with saf := { s.saf with cfg := some [(0xC00028, 0xF0000), (0xC01000, 1)] } }, [(0xC00028,
     0xF0000), (0xC01000, 1)], by decide +kernel⟩,
   ⟨st [], (0 : Int), (20001 : Int), (-10 : Int), by decide +kernel⟩,
   ⟨st [], (0 : Int), (10 : Int), (-20001 : Int), by decide +kernel⟩⟩

/-- States and operands that meet the hypotheses of each clause of `Obligations.IslandInputsAndContactors`. -/
theorem witness_IslandInputsAndContactors :
  (∃ (s : State) (n : Fin 32), s.islRun = true ∧ s.get (F.SAF_SI_STATE n) = 3 ∧ s.discT n ≤ nth s.saf.dcnt n 0 + 1) ∧
  (∃ (s : State) (m : Fin 16), s.islRun = true ∧ s.coTfb m ≤ (s.con m).t + 1 ∧ s.coSt m = 3 ∧ (s.con m).closed = false) ∧
  (∃ (s : State) (m : Fin 16), s.islRun = true ∧ s.coTfb m ≤ (s.con m).t + 1 ∧ (s.coSt m = 6 ∨ s.coSt m = 7) ∧ (s.con m).open 3 = false) ∧
  (∃ (s : State) (m : Fin 16), s.islRun = true ∧ s.coSt m = 5 ∧ s.get (F.SAF_CO_AUX_DELAY m) ≤ (s.con m).t + 1) ∧
  (∃ (s : State) (r : Fin 4) (m : Fin 16), s.islRun = true ∧ s.bit F.SAF_RSTCFG_EN r = true ∧ s.pressOk (nth s.saf.press r 0) = true ∧ bitOf
    (s.rstTargets r) m = true ∧ (s.coSt m = 1 ∨ s.coSt m = 8) ∧ s.stopDemand (s.get F.SAF_CO_LOCK_LOCK) m = false ∧ (s.con m).open 3 = true
    ∧ s.flag (F.SAF_CO_AUX_OUT m) = false) ∧
  (∃ (s : State) (r : Fin 4), s.islRun = true ∧ s.bit F.SAF_RSTCFG_EN r = true ∧ max 1 (s.get F.SAF_RSTCFG_MAXP) * 100 ≤ nth s.saf.press r
    0) ∧
  (∃ (s : State) (mask : BitVec 16) (m : Fin 16), s.islRun = true ∧ bitOf mask.toNat m = true ∧ s.flag (F.SAF_CO_CFG_HOSTRST m) = true ∧
    (s.coSt m = 1 ∨ s.coSt m = 8) ∧ s.stopDemand (s.get F.SAF_CO_LOCK_LOCK) m = false ∧ (s.con m).open 3 = true ∧ s.flag (F.SAF_CO_AUX_OUT
    m) = false) ∧
  (∃ (s : State) (mask : BitVec 16) (m : Fin 16), s.islRun = false ∧ s.saf.once.contains 188 = false ∧ bitOf mask.toNat m = true ∧ s.flag
    (F.SAF_CO_CFG_HOSTRST m) = true) ∧
  (∃ (s : State) (r : Fin 4), s.islRun = true ∧ s.bit F.SAF_RSTCFG_EN r = true ∧ s.saf.press.length = 4) ∧
  (∃ (s : State) (r : Fin 4), s.islRun = true ∧ s.bit F.SAF_RSTCFG_EN r = true ∧ s.saf.press.length = 4) ∧
  (∃ (s : State) (r : Fin 4), s.islRun = true ∧ s.bit F.SAF_RSTCFG_EN r = true ∧ s.saf.press.length = 4) ∧
  (∃ (s : State) (mask : BitVec 16) (m : Fin 16), s.islRun = true ∧ s.saf.once.contains 188 = false ∧ bitOf mask.toNat m = true ∧ s.flag
    (F.SAF_CO_CFG_HOSTRST m) = true ∧ s.coSt m ≠ 1 ∧ s.coSt m ≠ 8) :=
  ⟨⟨st [(F.SAF_STATUS_STATE, 2), (F.SAF_SI_STATE 31, 3), (F.SAF_SI_DISC 31, 1)], 31, by decide +kernel⟩,
   ⟨let s := st [(F.SAF_STATUS_STATE, 2), (F.SAF_CO_AUX_STATE 15, 3), (F.SAF_CO_CFG_TFB 15, 1)]; s.modCon 15 (fun c =>
     { c with t := 1, cmd := true }), 15, by decide +kernel⟩,
   ⟨let s := st [(F.SAF_STATUS_STATE, 2), (F.SAF_CO_AUX_STATE 15, 7), (F.SAF_CO_CFG_TFB 15, 1)]; s.modCon 15 (fun c => { c with t := 1 }),
     15, by decide +kernel⟩,
   ⟨let s := st [(F.SAF_STATUS_STATE, 2), (F.SAF_CO_AUX_STATE 15, 5), (F.SAF_CO_AUX_DELAY 15, 1)]; s.modCon 15 (fun c =>
     { c with cmd := true }), 15, by decide +kernel⟩,
   ⟨let s := let s := st [(F.SAF_STATUS_STATE, 2), (F.SAF_CO_AUX_STATE 15, 8), (F.SAF_CO_LOCK_LOCK, 32768), (F.SAF_RSTCFG_EN, 8),
     (F.SAF_RSTCFG_MINP, 1), (F.SAF_RSTCFG_MAXP, 1), (F.SAF_CO_CFG_RSTIN 15, 8), (F.SAF_CO_AUX_LCAUSE 15, 2)]; s.modCon 15 (fun c =>
     { c with fb := [true, true, true] }); { s with saf := { s.saf with press := [0, 0, 0, 10] } }, 3, 15, by decide +kernel⟩,
   ⟨let s := st [(F.SAF_STATUS_STATE, 2), (F.SAF_RSTCFG_EN, 8)]; { s with saf := { s.saf with press := [0, 0, 0, 100000] } }, 3,
     by decide +kernel⟩,
   ⟨let s := st [(F.SAF_STATUS_STATE, 2), (F.SAF_CO_AUX_STATE 15, 1), (F.SAF_CO_CFG_HOSTRST 15, 1)]; s.modCon 15 (fun c =>
     { c with fb := [true, true, true] }), 0x8000#16, 15, by decide +kernel⟩,
   ⟨st [(F.SAF_CO_CFG_HOSTRST 15, 1)], 0x8000#16, 15, by decide +kernel⟩,
   ⟨let s := st [(F.SAF_STATUS_STATE, 2), (F.SAF_RSTCFG_EN, 8), (F.SAF_RSTCFG_MINP, 1), (F.SAF_RSTCFG_MAXP, 1)];
     { s with saf := { s.saf with press := [0, 0, 0, 9] } }, 3, by decide +kernel⟩,
   ⟨let s := st [(F.SAF_STATUS_STATE, 2), (F.SAF_RSTCFG_EN, 8), (F.SAF_RSTCFG_MINP, 1), (F.SAF_RSTCFG_MAXP, 1)];
     { s with saf := { s.saf with press := [0, 0, 0, 10] } }, 3, by decide +kernel⟩,
   ⟨let s := st [(F.SAF_STATUS_STATE, 2), (F.SAF_RSTCFG_EN, 8), (F.SAF_RSTCFG_MINP, 1), (F.SAF_RSTCFG_MAXP, 1)];
     { s with saf := { s.saf with press := [0, 0, 0, 101] } }, 3, by decide +kernel⟩,
   ⟨st [(F.SAF_STATUS_STATE, 2), (F.SAF_CO_AUX_STATE 15, 4), (F.SAF_CO_CFG_HOSTRST 15, 1)], 0x8000#16, 15, by decide +kernel⟩⟩

/-- States and operands that meet the hypotheses of each clause of `Obligations.SafeTelegrams`. -/
theorem witness_SafeTelegrams :
  (∃ (s : State) (c : Fin 8), s.saf.conn.length = 8 ∧ s.pduDue c (s.saf.count + 1) = true) ∧
  (∃ (s : State) (c : Fin 8) (p : Fin 4), s.eth.ports.length = 4 ∧ (s.port p).queues.length = 4 ∧ s.pduDue c (s.saf.count + 1) = true ∧
    s.connNet c = 1 ∧ s.ethActive 0 = some p.val ∧ s.ethUp p = true) ∧
  (∃ (s : State) (net : Fin 2) (pdu : _) (c : Fin 8), s.saf.conn.length = 8 ∧ s.islRun = true ∧ s.flag (F.SAF_CONN_CFG_DIR c) = false ∧
    (s.get (F.SAF_CONN_STAT_STATE c) = 1 ∨ s.get (F.SAF_CONN_STAT_STATE c) = 3) ∧ (s.conn c).fresh = true ∧ (s.conn c).copy = none ∧ beAt
    (padTo 16 pdu) 0 2 = s.get (F.SAF_CONN_CFG_CONNID c) ∧ beAt (padTo 16 pdu) 12 4 = s.pduChk c (padTo 16 pdu) ∧ bitOf (s.connNet c) net =
    true) ∧
  (∃ (s : State) (pdu : _) (c : Fin 8), s.islRun = true ∧ s.flag (F.SAF_CONN_CFG_DIR c) = false ∧ s.get (F.SAF_CONN_STAT_STATE c) ≠ 0 ∧ beAt
    (padTo 16 pdu) 0 2 = s.get (F.SAF_CONN_CFG_CONNID c) ∧ beAt (padTo 16 pdu) 12 4 ≠ s.pduChk c (padTo 16 pdu)) ∧
  (∃ (s : State) (c : Fin 8) (k : _), s.saf.conn.length = 8 ∧ (s.conn c).copy = some k ∧ k.at10 + 500 < 100 * s.saf.ticks + 99 ∧ k.net = 0) ∧
  (∃ (s : State) (c : Fin 8), s.islRun = true ∧ s.get (F.SAF_CONN_STAT_STATE c) = 2 ∧ max 1 (s.get (F.SAF_CONN_WDT_WDT c)) ≤ (s.conn c).age
    + 1) ∧
  (∃ (s : State) (net : Fin 2) (pdu : _) (c : Fin 8) (d : _), s.saf.conn.length = 8 ∧ s.islRun = true ∧ s.flag (F.SAF_CONN_CFG_DIR c) =
    false ∧ 1 ≤ s.get (F.SAF_CONN_STAT_STATE c) ∧ s.get (F.SAF_CONN_STAT_STATE c) ≤ 3 ∧ (s.conn c).fresh = false ∧ (s.conn c).copy = none ∧
    beAt (padTo 16 pdu) 0 2 = s.get (F.SAF_CONN_CFG_CONNID c) ∧ beAt (padTo 16 pdu) 12 4 = s.pduChk c (padTo 16 pdu) ∧ bitOf (s.connNet c)
    net = true ∧ d = (beAt (padTo 16 pdu) 2 2 + 65536 - s.get (F.SAF_CONN_STAT_SEQ c)) % 65536 ∧ 0 < d ∧ d < 32768) ∧
  (∃ (s : State) (net : Fin 2) (pdu : _) (c : Fin 8) (d : _), s.saf.conn.length = 8 ∧ s.islRun = true ∧ s.flag (F.SAF_CONN_CFG_DIR c) =
    false ∧ 1 ≤ s.get (F.SAF_CONN_STAT_STATE c) ∧ s.get (F.SAF_CONN_STAT_STATE c) ≤ 3 ∧ (s.conn c).fresh = false ∧ (s.conn c).copy = none ∧
    beAt (padTo 16 pdu) 0 2 = s.get (F.SAF_CONN_CFG_CONNID c) ∧ beAt (padTo 16 pdu) 12 4 = s.pduChk c (padTo 16 pdu) ∧ bitOf (s.connNet c)
    net = true ∧ d = (beAt (padTo 16 pdu) 2 2 + 65536 - s.get (F.SAF_CONN_STAT_SEQ c)) % 65536 ∧ 0 < d ∧ d < 32768) ∧
  (∃ (s : State) (net : Fin 2) (pdu : _) (c : Fin 8) (d : _), s.islRun = true ∧ s.flag (F.SAF_CONN_CFG_DIR c) = false ∧ 1 ≤ s.get
    (F.SAF_CONN_STAT_STATE c) ∧ s.get (F.SAF_CONN_STAT_STATE c) ≤ 3 ∧ (s.conn c).fresh = false ∧ beAt (padTo 16 pdu) 0 2 = s.get
    (F.SAF_CONN_CFG_CONNID c) ∧ beAt (padTo 16 pdu) 12 4 = s.pduChk c (padTo 16 pdu) ∧ bitOf (s.connNet c) net = true ∧ d = (beAt (padTo 16
    pdu) 2 2 + 65536 - s.get (F.SAF_CONN_STAT_SEQ c)) % 65536 ∧ 32768 ≤ d) ∧
  (∃ (s : State) (net : Fin 2) (pdu : _) (c : Fin 8) (d : _), s.islRun = true ∧ s.flag (F.SAF_CONN_CFG_DIR c) = false ∧ 1 ≤ s.get
    (F.SAF_CONN_STAT_STATE c) ∧ s.get (F.SAF_CONN_STAT_STATE c) ≤ 3 ∧ (s.conn c).fresh = false ∧ beAt (padTo 16 pdu) 0 2 = s.get
    (F.SAF_CONN_CFG_CONNID c) ∧ beAt (padTo 16 pdu) 12 4 = s.pduChk c (padTo 16 pdu) ∧ bitOf (s.connNet c) net = true ∧ d = (beAt (padTo 16
    pdu) 2 2 + 65536 - s.get (F.SAF_CONN_STAT_SEQ c)) % 65536 ∧ 32768 ≤ d) ∧
  (∃ (s : State) (c : Fin 8) (k : _), s.saf.conn.length = 8 ∧ (s.conn c).copy = some k ∧ k.at10 + 500 < 100 * s.saf.ticks + 99 ∧ k.net = 1) :=
  ⟨⟨let s := st [(F.SAF_STATUS_STATE, 2), (F.SAF_CONN_STAT_STATE 7, 5), (F.SAF_CONN_CFG_PERIOD 7, 1), (F.SAF_SI_STATE 31, 1)]; s.modConn 7
    (fun c => { c with next := 65535 }), 7, by decide +kernel⟩,
   ⟨st [(F.SAF_STATUS_STATE, 2), (F.SAF_CONN_STAT_STATE 7, 5), (F.SAF_CONN_CFG_PERIOD 7, 1), (F.ETH_STATUS_LINK 0, 1), (F.ETH_CFG_ENABLE 0,
     1), (F.ETH_STATUS_LINK 1, 1), (F.ETH_CFG_ENABLE 1, 1), (F.ETH_STATUS_ACTIVE 1, 1), (F.SAF_CONN_CFG_NET 7, 1)], 7, 1, by decide +kernel⟩,
   ⟨let s := st [(F.SAF_STATUS_STATE, 2), (F.SAF_CONN_STAT_STATE 7, 3), (F.SAF_CONN_CFG_CONNID 7, 9)]; s.modConn 7 (fun c =>
     { c with news := 1 }), 1, (let h := [0#8, 9#8, 255#8, 255#8, 1#8, 2#8, 3#8, 4#8, 0#8, 1#8, 7#8, 8#8]; h ++ beBytes 4 (crc32c (beBytes 4
     0 ++ h)) : List Byte), 7, by decide +kernel⟩,
   ⟨st [(F.SAF_STATUS_STATE, 2), (F.SAF_CONN_STAT_STATE 7, 2), (F.SAF_CONN_CFG_CONNID 7, 9)], (let h := [0#8, 9#8, 255#8, 255#8, 1#8, 2#8,
     3#8, 4#8, 0#8, 1#8, 7#8, 8#8]; h ++ beBytes 4 (1 + crc32c (beBytes 4 0 ++ h)) : List Byte), 7, by decide +kernel⟩,
   ⟨let s := let s := st [(F.SAF_STATUS_STATE, 2)]; s.modConn 7 (fun c => { c with copy := some ⟨0, 100, []⟩ });
     { s with saf := { s.saf with ticks := 6 } }, 7, (⟨0, 100, []⟩ : PduCopy), by decide +kernel⟩,
   ⟨st [(F.SAF_STATUS_STATE, 2), (F.SAF_CONN_STAT_STATE 7, 2), (F.SAF_CONN_WDT_WDT 7, 1)], 7, by decide +kernel⟩,
   ⟨let s := st [(F.SAF_STATUS_STATE, 2), (F.SAF_CONN_STAT_STATE 7, 2), (F.SAF_CONN_CFG_CONNID 7, 9), (F.SAF_CONN_STAT_SEQ 7, 65534)];
     s.modConn 7 (fun c => { c with news := 1, fresh := false }), 1, (let h := [0#8, 9#8, 255#8, 255#8, 1#8, 2#8, 3#8, 4#8, 0#8, 1#8, 7#8,
     8#8]; h ++ beBytes 4 (crc32c (beBytes 4 0 ++ h)) : List Byte), 7, 1, by decide +kernel⟩,
   ⟨let s := st [(F.SAF_STATUS_STATE, 2), (F.SAF_CONN_STAT_STATE 7, 2), (F.SAF_CONN_CFG_CONNID 7, 9), (F.SAF_CONN_STAT_SEQ 7, 32768)];
     s.modConn 7 (fun c => { c with news := 1, fresh := false }), 1, (let h := [0#8, 9#8, 255#8, 255#8, 1#8, 2#8, 3#8, 4#8, 0#8, 1#8, 7#8,
     8#8]; h ++ beBytes 4 (crc32c (beBytes 4 0 ++ h)) : List Byte), 7, 32767, by decide +kernel⟩,
   ⟨let s := st [(F.SAF_STATUS_STATE, 2), (F.SAF_CONN_STAT_STATE 7, 2), (F.SAF_CONN_CFG_CONNID 7, 9), (F.SAF_CONN_STAT_SEQ 7, 0)]; s.modConn
     7 (fun c => { c with news := 1, fresh := false }), 1, (let h := [0#8, 9#8, 255#8, 255#8, 1#8, 2#8, 3#8, 4#8, 0#8, 1#8, 7#8, 8#8]; h ++
     beBytes 4 (crc32c (beBytes 4 0 ++ h)) : List Byte), 7, 65535, by decide +kernel⟩,
   ⟨let s := st [(F.SAF_STATUS_STATE, 2), (F.SAF_CONN_STAT_STATE 7, 2), (F.SAF_CONN_CFG_CONNID 7, 9), (F.SAF_CONN_STAT_SEQ 7, 32767)];
     s.modConn 7 (fun c => { c with news := 1, fresh := false }), 1, (let h := [0#8, 9#8, 255#8, 255#8, 1#8, 2#8, 3#8, 4#8, 0#8, 1#8, 7#8,
     8#8]; h ++ beBytes 4 (crc32c (beBytes 4 0 ++ h)) : List Byte), 7, 32768, by decide +kernel⟩,
   ⟨let s := let s := st [(F.SAF_STATUS_STATE, 2)]; s.modConn 7 (fun c => { c with copy := some ⟨1, 100, []⟩ });
     { s with saf := { s.saf with ticks := 6 } }, 7, (⟨1, 100, []⟩ : PduCopy), by decide +kernel⟩⟩

/-- States and operands that meet the hypotheses of each clause of `Obligations.SealOpenAndClose`. -/
theorem witness_SealOpenAndClose :
  (∃ (s : State), s.sealSt = 1 ∧ s.sld.check = none ∧ s.flag F.SEC_SEAL_STAT_BACKOFF = false ∧ s.sld.pwOk = true) ∧
  (∃ (s : State), s.sealSt = 1 ∧ s.sld.check = none ∧ s.flag F.SEC_SEAL_STAT_BACKOFF = true) ∧
  (∃ (s : State) (port : Fin 2) (pw : List Byte) (k : Nat) (a : _), s.sld.check = some (port.val, pw) ∧ s.sld.active = some (k, a) ∧ pwHash
    pw a.salt = a.hash) ∧
  (∃ (s : State) (port : Fin 2) (pw : List Byte), s.sld.check = some (port.val, pw) ∧ s.sld.active.all (fun a => pwHash pw a.2.salt !=
    a.2.hash) = true) ∧
  (∃ (s : State) (port : Fin 2) (pw : List Byte), s.sld.check = some (port.val, pw) ∧ s.sld.active.all (fun a => pwHash pw a.2.salt !=
    a.2.hash) = true) ∧
  (∃ (s : State) (port : Fin 2) (pw : List Byte), s.sld.check = some (port.val, pw) ∧ s.sld.active.all (fun a => pwHash pw a.2.salt !=
    a.2.hash) = true) ∧
  (∃ (s : State), s.flag F.SEC_SEAL_STAT_BACKOFF = true ∧ s.sld.boEnd ≤ s.now) ∧
  (∃ (s : State) (port : Fin 2), s.sealOwner port = true) ∧
  (∃ (s : State), s.sealSt < 2) ∧
  (∃ (s : State), s.sealSt = 2 ∧ s.sld.idleSince + s.sealIdleMax ≤ s.now) ∧
  (∃ (s : State) (port : Fin 2) (off : BitVec 26), s.sealOwner port = true ∧ safMask off.toNat ≠ 0) ∧
  (∃ (s : State) (port : Fin 2) (off : BitVec 26), s.sealOwner port = true ∧ safMask off.toNat ≠ 0) ∧
  (∃ (s : State) (port : Fin 2) (off : BitVec 26), s.sealOwner port = false ∧ safMask off.toNat ≠ 0 ∧ s.flag F.GLB_ACCERR_SEALED = false) ∧
  (∃ (s : State) (port : Fin 2), s.sealOwner port = true ∧ s.sld.check = none) ∧
  (∃ (s : State), s.sealSt = 0 ∧ s.sld.check = none ∧ s.sld.pwOk = true) ∧
  (∃ (s : State), s.sld.check = none) ∧
  (∃ (s : State), s.sealSt = 1 ∧ s.sld.check = none ∧ s.flag F.SEC_SEAL_STAT_BACKOFF = false ∧ s.sld.pwOk = false) ∧
  (∃ (s : State), s.sealSt = 0 ∨ s.sealSt = 2 ∧ s.sld.check = none) ∧
  (∃ (s : State), s.sealSt = 0 ∨ s.sealSt = 2 ∧ s.sld.check = none) ∧
  (∃ (s : State), s.sealBusy = true) ∧
  (∃ (s : State), s.sealBusy = true) ∧
  (∃ (s : State), s.flag F.SEC_SEAL_STAT_BACKOFF = true ∧ s.reaches s.sld.boEnd) ∧
  (∃ (s : State), s.sealSt = 2 ∧ s.reaches (s.sld.idleSince + s.sealIdleMax)) ∧
  (∃ (s : State) (port : Fin 2), s.sealSt = 3 ∧ s.get F.SEC_SEAL_STAT_PORT = port.val) ∧
  (∃ (off : BitVec 26), safMask off.toNat = 0) ∧
  (∃ (s : State) (port : Fin 2) (off : BitVec 26), s.sealOwner port = false ∧ safMask off.toNat ≠ 0) ∧
  (∃ (s : State) (j : _), s.sealSt = 3 ∧ s.sld.job = some j ∧ s.reaches (s.sld.idleSince + s.sealIdleMax)) ∧
  (∃ (s : State) (port : Fin 2), s.sealOwner port = true ∧ s.sld.check = none ∧ s.sld.pwOk = true) :=
  ⟨⟨let s := st [(F.SEC_SEAL_STAT_STATE, 1), (F.SEC_SEAL_STAT_FAILS, 255)];
    { s with sld := { s.sld with pw := List.replicate 16 0x41414141, pwLen := 8 } }, by decide +kernel⟩,
   ⟨let s := st [(F.SEC_SEAL_STAT_STATE, 1), (F.SEC_SEAL_STAT_BACKOFF, 1)];
     { s with sld := { s.sld with pw := List.replicate 16 0x41414141, pwLen := 8 } }, by decide +kernel⟩,
   (exists_eq' : ∃ h, pwHash [65#8] [] = h).elim fun h e => ⟨let s := st [(F.SEC_SEAL_STAT_STATE, 1), (F.SEC_SEAL_STAT_FAILS, 2)];
     { s with sld := { s.sld with check := some (1, [65#8]), slots := [some (⟨1, 1, [], h, [], [], 0⟩ : SealSlot), none] } }, 1, [65#8], 0,
     (⟨1, 1, [], h, [], [], 0⟩ : SealSlot), rfl, rfl, e⟩,
   ⟨let s := st [(F.SEC_SEAL_STAT_STATE, 1), (F.SEC_SEAL_STAT_FAILS, 2)]; { s with sld := { s.sld with check := some (1, [65#8]) } }, 1,
     [65#8], by decide +kernel⟩,
   ⟨let s := st [(F.SEC_SEAL_STAT_STATE, 1), (F.SEC_SEAL_STAT_FAILS, 3)]; { s with sld := { s.sld with check := some (1, [65#8]) } }, 1,
     [65#8], by decide +kernel⟩,
   ⟨let s := st [(F.SEC_SEAL_STAT_STATE, 1), (F.SEC_SEAL_STAT_FAILS, 15)]; { s with sld := { s.sld with check := some (1, [65#8]) } }, 1,
     [65#8], by decide +kernel⟩,
   ⟨at' [(F.SEC_SEAL_STAT_BACKOFF, 1), (F.SEC_SEAL_BOTIME_S, 3)] 5, by decide +kernel⟩,
   ⟨let s := st [(F.SEC_SEAL_STAT_STATE, 2), (F.SEC_SEAL_STAT_PORT, 1), (F.SEC_SEAL_STAT_PEND, 1)];
     { s with sld := { s.sld with pend := [(0xC00028, 1)], pendPw := some ([], []) } }, 1, by decide +kernel⟩,
   ⟨st [], by decide +kernel⟩,
   ⟨at' [(F.SEC_SEAL_STAT_STATE, 2), (F.SEC_SEAL_IDLE_MIN, 1)] 60000000000, by decide +kernel⟩,
   ⟨st [(F.SEC_SEAL_STAT_STATE, 2), (F.SEC_SEAL_STAT_PORT, 1)], 1, 0xC00028#26, by decide +kernel⟩,
   ⟨let s := st [(F.SEC_SEAL_STAT_STATE, 2), (F.SEC_SEAL_STAT_PORT, 1)]; { s with sld := { s.sld with pend := [(0xC00028, 1)] } }, 1,
     0xC00028#26, by decide +kernel⟩,
   ⟨st [(F.SEC_SEAL_STAT_STATE, 2), (F.SEC_SEAL_STAT_PORT, 1)], 0, 0xC00028#26, by decide +kernel⟩,
   ⟨let s := st [(F.SEC_SEAL_STAT_STATE, 2), (F.SEC_SEAL_STAT_PORT, 1), (F.SEC_SEAL_STAT_PEND, 1)];
     { s with sld := { s.sld with pend := [(0xC00028, 1)] } }, 1, by decide +kernel⟩,
   ⟨let s := st []; { s with sld := { s.sld with pw := List.replicate 16 0x41414141, pwLen := 8 } }, by decide +kernel⟩,
   ⟨let s := st [(F.SEC_SEAL_STAT_STATE, 1)]; { s with sld := { s.sld with slots := [some (⟨1, 1, [], [], [], [], 0⟩ : SealSlot), none] } },
     by decide +kernel⟩,
   ⟨let s := st [(F.SEC_SEAL_STAT_STATE, 1)]; { s with sld := { s.sld with pwLen := 7 } }, by decide +kernel⟩,
   ⟨let s := st []; { s with sld := { s.sld with pw := List.replicate 16 0x41414141, pwLen := 8 } }, by decide +kernel⟩,
   ⟨let s := st [(F.SEC_SEAL_STAT_STATE, 2)]; { s with sld := { s.sld with pw := List.replicate 16 0x41414141, pwLen := 8 } },
     by decide +kernel⟩,
   ⟨let s := st [(F.SEC_SEAL_STAT_STATE, 1)]; { s with sld := { s.sld with check := some (0, [65#8]) } }, by decide +kernel⟩,
   ⟨let s := st [(F.SEC_SEAL_STAT_STATE, 3)]; { s with sld := { s.sld with pw := List.replicate 16 0x41414141, pwLen := 8 } },
     by decide +kernel⟩,
   ⟨let s := at' [(F.SEC_SEAL_STAT_BACKOFF, 1), (F.SEC_SEAL_BOTIME_S, 1)] 1000000000; { s with sld := { s.sld with boEnd := 1000100000 } },
     by decide +kernel⟩,
   ⟨let s := at' [(F.SEC_SEAL_STAT_STATE, 2), (F.SEC_SEAL_IDLE_MIN, 1)] 61000000000;
     { s with sld := { s.sld with idleSince := 1000100000, pend := [(0xC00028, 1)] } }, by decide +kernel⟩,
   ⟨let s := st [(F.SEC_SEAL_STAT_STATE, 3), (F.SEC_SEAL_STAT_PORT, 1)];
     { s with sld := { s.sld with job := some (⟨⟨1, 5, [], [], [], [], 0⟩, 1, false⟩ : CommitJob) } }, 1, by decide +kernel⟩,
   ⟨0x10#26, by decide +kernel⟩,
   ⟨st [(F.SEC_SEAL_STAT_STATE, 2), (F.SEC_SEAL_STAT_PORT, 1), (F.GLB_ACCERR_SEALED, 1)], 0, 0xE20BFC#26, by decide +kernel⟩,
   ⟨let s := at' [(F.SEC_SEAL_STAT_STATE, 3), (F.SEC_SEAL_IDLE_MIN, 1)] 61000000000;
     { s with sld := { s.sld with idleSince := 1000100000, job := some (⟨⟨1, 5, [], [], [], [], 0⟩, 1, false⟩ : CommitJob) } }, (⟨⟨1, 5, [],
     [], [], [], 0⟩, 1, false⟩ : CommitJob), by decide +kernel⟩,
   ⟨let s := st [(F.SEC_SEAL_STAT_STATE, 2), (F.SEC_SEAL_STAT_PORT, 1)];
     { s with sld := { s.sld with pw := List.replicate 16 0x41414141, pwLen := 8, pend := [(0xC00028, 1)] } }, 1, by decide +kernel⟩⟩

/-- States and operands that meet the hypotheses of each clause of `Obligations.SealCommitAndLog`. -/
theorem witness_SealCommitAndLog :
  (∃ (s : State) (port : Fin 2), s.sealOwner port = true ∧ s.sld.check = none ∧ s.commitEntries s.commitSlot ≠ [] ∧ s.sld.log.length +
    (s.commitEntries s.commitSlot).length ≤ 2048 ∧ s.commitSlot.counter < 2 ^ 32) ∧
  (∃ (s : State) (port : Fin 2), s.sealOwner port = true ∧ s.sld.check = none ∧ s.commitEntries s.commitSlot = []) ∧
  (∃ (s : State) (j : _), s.sld.job = some j ∧ s.sld.slots = [none, none] ∧ j.close = false) ∧
  (∃ (s : State) (j : _), s.sld.job = some j ∧ j.close = false) ∧
  (∃ (s : State) (port : Fin 2), s.sealOwner port = true ∧ s.sld.check = none ∧ s.get F.SEC_SEAL_LOG_EXPORTED = s.sld.log.length) ∧
  (∃ (s : State) (port : Fin 2), s.sealOwner port = true ∧ s.sld.check = none ∧ s.get F.SEC_SEAL_LOG_EXPORTED ≠ s.sld.log.length) ∧
  (∃ (s : State) (v : Nat), find1 s.shadow 0x10001DC = some v ∧ s.get F.SEC_SEAL_LOGIDX_IDX = s.get F.SEC_SEAL_LOG_EXPORTED ∧ s.get
    F.SEC_SEAL_LOG_EXPORTED < s.sld.log.length) ∧
  (∃ (s : State) (j : _) (k : _) (a : _), s.sld.job = some j ∧ s.sld.active = some (k, a) ∧ s.sld.slots.length = 2 ∧ laterSeq j.slot.cseq
    a.cseq = true ∧ j.close = false) ∧
  (∃ (s : State) (j : _) (k : _) (a : _), s.sld.job = some j ∧ s.sld.active = some (k, a) ∧ s.sld.slots.length = 2 ∧ laterSeq j.slot.cseq
    a.cseq = true ∧ j.close = false) ∧
  (∃ (s : State) (j : _) (k : _) (a : _), s.sld.job = some j ∧ s.sld.active = some (k, a) ∧ s.sld.slots.length = 2 ∧ laterSeq j.slot.cseq
    a.cseq = true ∧ j.close = true) ∧
  (∃ (s : State) (port : Fin 2), s.sealOwner port = true ∧ s.sld.check = none ∧ s.commitEntries s.commitSlot ≠ [] ∧ 2048 < s.sld.log.length
    + (s.commitEntries s.commitSlot).length) ∧
  (∃ (k : Fin 24), k.val ≠ 0) ∧
  (∃ (k : Fin 24), k.val ≠ 0) :=
  ⟨⟨let s := st [(F.SEC_SEAL_STAT_STATE, 2), (F.SEC_SEAL_STAT_PORT, 1)]; { s with sld := { s.sld with pend := [(0xC00028, 1)] } }, 1,
    by decide +kernel⟩,
   ⟨st [(F.SEC_SEAL_STAT_STATE, 2), (F.SEC_SEAL_STAT_PORT, 1)], 1, by decide +kernel⟩,
   ⟨let s := st [(F.SEC_SEAL_STAT_STATE, 3), (F.SEC_SEAL_STAT_PENDPW, 1), (F.SEC_SEAL_STAT_PEND, 1)];
     { s with sld := { s.sld with pend := [(0xC00028, 1)], job := some (⟨⟨1, 5, [], [], [], [], 0⟩, 1, false⟩ : CommitJob) } }, (⟨⟨1, 5, [],
     [], [], [], 0⟩, 1, false⟩ : CommitJob), by decide +kernel⟩,
   ⟨let s := st [(F.SEC_SEAL_STAT_STATE, 3)];
     { s with sld := { s.sld with log := [[], []], pend := [(0xC00028, 1)], job := some (⟨⟨1, 5, [], [], [], [], 0⟩, 1, false⟩ : CommitJob) } },
     (⟨⟨1, 5, [], [], [], [], 0⟩, 1, false⟩ : CommitJob), by decide +kernel⟩,
   ⟨let s := st [(F.SEC_SEAL_STAT_STATE, 2), (F.SEC_SEAL_STAT_PORT, 1), (F.SEC_SEAL_LOG_EXPORTED, 2)];
     { s with sld := { s.sld with log := [[], []] } }, 1, by decide +kernel⟩,
   ⟨let s := st [(F.SEC_SEAL_STAT_STATE, 2), (F.SEC_SEAL_STAT_PORT, 1)]; { s with sld := { s.sld with log := [[], []] } }, 1,
     by decide +kernel⟩,
   ⟨let s := let s := st [(F.SEC_SEAL_LOGIDX_IDX, 1), (F.SEC_SEAL_LOG_EXPORTED, 1)]; { s with sld := { s.sld with log := [[], []] } };
     { s with shadow := [(0x10001DC, 7)] }, 7, by decide +kernel⟩,
   ⟨let s := st [(F.SEC_SEAL_STAT_STATE, 3), (F.SEC_SEAL_STAT_PENDPW, 1), (F.SEC_SEAL_STAT_PEND, 1)];
     { s with sld := { s.sld with pend := [(0xC00028, 1)], slots := [none, some (⟨7, 3, [], [], [], [], 0⟩ : SealSlot)], job := some (⟨⟨8, 5, [], [], [], [], 0⟩, 1, false⟩ : CommitJob) } },
     (⟨⟨8, 5, [], [], [], [], 0⟩, 1, false⟩ : CommitJob), 1, (⟨7, 3, [], [], [], [], 0⟩ : SealSlot), by decide +kernel⟩,
   ⟨let s := st [(F.SEC_SEAL_STAT_STATE, 3), (F.SEC_SEAL_STAT_PENDPW, 1), (F.SEC_SEAL_STAT_PEND, 1)];
     { s with sld := { s.sld with pend := [(0xC00028, 1)], slots := [some (⟨7, 3, [], [], [], [], 0⟩ : SealSlot), none], job := some (⟨⟨8, 5, [], [], [], [], 0⟩, 1, false⟩ : CommitJob) } },
     (⟨⟨8, 5, [], [], [], [], 0⟩, 1, false⟩ : CommitJob), 0, (⟨7, 3, [], [], [], [], 0⟩ : SealSlot), by decide +kernel⟩,
   ⟨let s := st [(F.SEC_SEAL_STAT_STATE, 3), (F.SEC_SEAL_STAT_PEND, 1)];
     { s with sld := { s.sld with pend := [(0xC00028, 1)], slots := [some (⟨1, 1, [], [], [], [], 0⟩ : SealSlot), some (⟨7, 3, [], [], [], [], 0⟩ : SealSlot)], job := some (⟨⟨8, 5, [], [], [], [], 0⟩, 1, true⟩ : CommitJob) } },
     (⟨⟨8, 5, [], [], [], [], 0⟩, 1, true⟩ : CommitJob), 1, (⟨7, 3, [], [], [], [], 0⟩ : SealSlot), by decide +kernel⟩,
   ⟨let s := st [(F.SEC_SEAL_STAT_STATE, 2), (F.SEC_SEAL_STAT_PORT, 1)];
     { s with sld := { s.sld with pend := [(0xC00028, 1)], log := List.replicate 2048 [] } }, 1, by decide +kernel⟩,
   ⟨23, by decide +kernel⟩,
   ⟨1, by decide +kernel⟩⟩

/-- States and operands that meet the hypotheses of each clause of `Obligations.Recorder`. -/
theorem witness_Recorder :
  (∃ (s : State) (g : _), s.rcd.trigs = [g] ∧ g.ev < 256 ∧ s.flag F.FRM_STATUS_GAP = false ∧ ((s.framesOn = false ∧ s.ready = false) ∨
    (s.framesOn = true ∧ 240000 ≤ s.now % 250000 ∧ g.due = true)) ∧ s.recBuf < 64 ∧ s.recSt ≠ 0) ∧
  (∃ (s : State) (g : _), s.rcd.trigs = [g] ∧ g.ev < 256 ∧ s.flag F.FRM_STATUS_GAP = false ∧ ((s.framesOn = false ∧ s.ready = false) ∨
    (s.framesOn = true ∧ 240000 ≤ s.now % 250000 ∧ g.due = true)) ∧ s.recBuf < 64 ∧ s.recSt ≠ 0) ∧
  (∃ (s : State) (g : _), s.rcd.trigs = [g] ∧ g.ev < 256 ∧ s.flag F.FRM_STATUS_GAP = false ∧ s.framesOn = false ∧ s.ready = false ∧ 64 ≤
    s.recBuf) ∧
  (∃ (s : State) (r : _) (rest : _) (q : _) (k : _), s.recSt = 1 ∧ s.rcd.burst = r :: rest ∧ r.seq = some q ∧ s.recNext = some k) ∧
  (∃ (s : State) (r : _) (rest : _) (q : _) (k : _) (x : _), s.recSt = 1 ∧ s.rcd.burst = r :: rest ∧ r.seq = some q ∧ s.recNext = some k ∧
    padTo 256 x ≠ s.recBytes r k ∧ s.get F.REC_BAD_CONSEC < 7 ∧ s.frm.onceMajor.contains 212 = false) ∧
  (∃ (s : State), s.recSt ≠ 2) ∧
  (∃ (s : State), s.recSt = 2) ∧
  (∃ (s : State), s.recSt = 2) ∧
  (∃ (s : State) (ok : _), (s.recSt ≠ 2 ∨ ok = false)) ∧
  (∃ (s : State) (port : Fin 2), s.recSt = 1 ∧ s.sealOwner port = true) ∧
  (∃ (s : State) (port : Fin 2), s.sealOwner port = false) ∧
  (∃ (s : State), s.recSt = 3) ∧
  (∃ (s : State), s.recSt = 0) ∧
  (∃ (s : State), s.recSt = 0) ∧
  (∃ (s : State) (g : _), s.rcd.trigs = [g] ∧ g.ev < 256 ∧ s.flag F.FRM_STATUS_GAP = false ∧ s.framesOn = false ∧ s.reaches (g.at + 10000) ∧
    s.recBuf < 64 ∧ s.recSt ≠ 0) ∧
  (∃ (s : State) (g : _), s.rcd.trigs = [g] ∧ g.ev < 256 ∧ s.flag F.FRM_STATUS_GAP = false ∧ s.framesOn = false ∧ s.ready = false ∧ s.recBuf
    < 64 ∧ s.recSt = 0) ∧
  (∃ (s : State), s.rcd.trigs = []) ∧
  (∃ (s : State), s.recSt ≠ 1 ∨ s.rcd.burst = []) ∧
  (∃ (s : State), s.recSt ≠ 1 ∨ s.rcd.burst = []) ∧
  (∃ (s : State) (r : _) (rest : _) (q : _) (k : _) (x : _), s.recSt = 1 ∧ s.rcd.burst = r :: rest ∧ r.seq = some q ∧ s.recNext = some k ∧
    padTo 256 x ≠ s.recBytes r k ∧ s.get F.REC_BAD_CONSEC = 7) ∧
  (∃ (s : State), s.recSt ≠ 1) ∧
  (∃ (s : State), s.recSt ≠ 3) ∧
  (∃ (s : State), s.recSt ≠ 0) :=
  ⟨⟨let s := st [(F.REC_STATUS_STATE, 1), (F.REC_SEQ_SEQ, 4294967295)];
    { s with rcd := { s.rcd with trigs := [(⟨255, 15, 1, 2, true, true⟩ : Trig)], lostSince := 4 } }, (⟨255, 15, 1, 2, true, true⟩ : Trig),
    by decide +kernel⟩,
   ⟨let s := fr [(F.REC_STATUS_STATE, 1)] 240000; { s with rcd := { s.rcd with trigs := [(⟨255, 15, 1, 2, true, true⟩ : Trig)] } }, (⟨255,
     15, 1, 2, true, true⟩ : Trig), by decide +kernel⟩,
   ⟨let s := st [(F.REC_STATUS_STATE, 1)];
     { s with rcd := { s.rcd with trigs := [(⟨255, 15, 1, 2, true, true⟩ : Trig)], burst := List.replicate 64 (⟨some 3, 255, 15, 0, 0, 0, 0, 0, 0, 0, []⟩ : BurstRec) } },
     (⟨255, 15, 1, 2, true, true⟩ : Trig), by decide +kernel⟩,
   ⟨let s := st [(F.REC_STATUS_STATE, 1), (F.REC_PERMEFF_N, 1024)];
     { s with rcd := { s.rcd with burst := [(⟨some 3, 255, 15, 0, 0, 0, 0, 0, 0, 0, []⟩ : BurstRec), (⟨some 3, 255, 15, 0, 0, 0, 0, 0, 0, 0, []⟩ : BurstRec)] } },
     (⟨some 3, 255, 15, 0, 0, 0, 0, 0, 0, 0, []⟩ : BurstRec), [(⟨some 3, 255, 15, 0, 0, 0, 0, 0, 0, 0, []⟩ : BurstRec)], 3, 0,
     by decide +kernel⟩,
   ⟨let s := st [(F.REC_STATUS_STATE, 1), (F.REC_PERMEFF_N, 1024), (F.REC_BAD_CONSEC, 6)];
     { s with rcd := { s.rcd with burst := [(⟨some 3, 255, 15, 0, 0, 0, 0, 0, 0, 0, []⟩ : BurstRec)] } }, (⟨some 3, 255, 15, 0, 0, 0, 0, 0,
     0, 0, []⟩ : BurstRec), ([] : List BurstRec), 3, 0, ([] : List Byte), by decide +kernel⟩,
   ⟨st [(F.REC_STATUS_STATE, 1)], by decide +kernel⟩,
   ⟨st [(F.REC_STATUS_STATE, 2)], by decide +kernel⟩,
   ⟨st [(F.REC_STATUS_STATE, 2)], by decide +kernel⟩,
   ⟨st [(F.REC_STATUS_STATE, 1)], true, by decide +kernel⟩,
   ⟨st [(F.REC_STATUS_STATE, 1), (F.SEC_SEAL_STAT_STATE, 2), (F.SEC_SEAL_STAT_PORT, 1)], 1, by decide +kernel⟩,
   ⟨st [(F.REC_STATUS_STATE, 1)], 1, by decide +kernel⟩,
   ⟨let s := st [(F.REC_STATUS_STATE, 3), (F.REC_STATUS_WRAPPED, 1), (F.REC_BADMAP_WORD 1, 1)];
     { s with rcd := { s.rcd with slots := [(5, [1]), (32, [2])] } }, by decide +kernel⟩,
   ⟨st [], by decide +kernel⟩,
   ⟨st [], by decide +kernel⟩,
   ⟨let s := at' [(F.REC_STATUS_STATE, 1), (F.REC_SEQ_SEQ, 4294967295)] 1000000002;
     { s with rcd := { s.rcd with trigs := [(⟨255, 15, 1, 2, true, false⟩ : Trig)] } }, (⟨255, 15, 1, 2, true, false⟩ : Trig),
     by decide +kernel⟩,
   ⟨let s := st []; { s with rcd := { s.rcd with trigs := [(⟨255, 15, 1, 2, true, true⟩ : Trig)] } }, (⟨255, 15, 1, 2, true, true⟩ : Trig),
     by decide +kernel⟩,
   ⟨st [], by decide +kernel⟩,
   ⟨let s := st []; { s with rcd := { s.rcd with burst := [(⟨some 3, 255, 15, 0, 0, 0, 0, 0, 0, 0, []⟩ : BurstRec)] } }, by decide +kernel⟩,
   ⟨st [(F.REC_STATUS_STATE, 1)], by decide +kernel⟩,
   ⟨let s := st [(F.REC_STATUS_STATE, 1), (F.REC_PERMEFF_N, 1024), (F.REC_BAD_CONSEC, 7)];
     { s with rcd := { s.rcd with burst := [(⟨some 3, 255, 15, 0, 0, 0, 0, 0, 0, 0, []⟩ : BurstRec)] } }, (⟨some 3, 255, 15, 0, 0, 0, 0, 0,
     0, 0, []⟩ : BurstRec), ([] : List BurstRec), 3, 0, ([] : List Byte), by decide +kernel⟩,
   ⟨st [(F.SEC_SEAL_STAT_STATE, 2), (F.SEC_SEAL_STAT_PORT, 1)], by decide +kernel⟩,
   ⟨st [(F.REC_STATUS_STATE, 1)], by decide +kernel⟩,
   ⟨st [(F.REC_STATUS_STATE, 3)], by decide +kernel⟩⟩

/-- States and operands that meet the hypotheses of each clause of `Obligations.RecordsInOrder`. -/
theorem witness_RecordsInOrder :
  (∃ (s : State), s.flag F.FRM_STATUS_GAP = false ∧ s.framesOn = true ∧ 240000 ≤ s.now % 250000 ∨ s.reaches (s.now / 250000 * 250000 +
    240000) ∧ (∀ g ∈ s.rcd.trigs, g.due = true ∧ g.ev < 256) ∧ s.recBuf + s.rcd.trigs.length ≤ 64) :=
  ⟨let s := fr [(F.REC_STATUS_STATE, 1)] 240000;
    { s with rcd := { s.rcd with trigs := [(⟨255, 15, 1, 2, true, true⟩ : Trig), (⟨7, 15, 2, 2, true, true⟩ : Trig), (⟨255, 15, 3, 2, true, true⟩ : Trig), (⟨0, 15, 4, 2, true, true⟩ : Trig)] } },
    by decide +kernel⟩

/-- States and operands that meet the hypotheses of each clause of `Obligations.BootAndMeasurement`. -/
theorem witness_BootAndMeasurement :
  (∃ (s : State) (k : _) (fb : _), s.sec.lc ≠ 5 ∧ s.sec.running.length = 2 ∧ nth s.sec.running 0 none = none ∧ s.bootSlot 0 = (some k, fb)) ∧
  (∃ (s : State) (k : _) (fb : _), s.sec.lc ≠ 5 ∧ s.sec.running.length = 2 ∧ nth s.sec.running 0 none = none ∧ s.bootSlot 0 = (some k, fb)) ∧
  (∃ (s : State) (k : _) (fb : _), s.sec.lc ≠ 5 ∧ s.sec.running.length = 2 ∧ nth s.sec.running 0 none = none ∧ s.bootSlot 0 = (some k, fb)) ∧
  (∃ (s : State) (k : _) (fb : _), s.sec.lc ≠ 5 ∧ s.sec.running.length = 2 ∧ nth s.sec.running 0 none = none ∧ s.bootSlot 0 = (some k, fb)) ∧
  (∃ (s : State) (fb : _), s.sec.lc ≠ 5 ∧ nth s.sec.running 0 none = none ∧ s.bootSlot 0 = (none, fb)) ∧
  (∃ (s : State) (k : _) (fb : _), s.sec.lc ≠ 5 ∧ s.get F.SAF_STATUS_STATE = 0 ∧ s.bootSlot 1 = (some k, fb) ∧ s.sld.active = none) ∧
  (∃ (s : State) (k : _) (fb : _) (j : _) (a : _), s.sec.lc ≠ 5 ∧ s.get F.SAF_STATUS_STATE = 0 ∧ s.bootSlot 1 = (some k, fb) ∧ s.sld.active
    = some (j, a)) ∧
  (∃ (s : State) (fb : _), s.sec.lc ≠ 5 ∧ s.get F.SAF_STATUS_STATE = 0 ∧ s.bootSlot 1 = (none, fb)) ∧
  (∃ (r : Fin 8), 6 ≤ r.val) ∧
  (∃ (r : Fin 8), r.val < 6) ∧
  (∃ (s : State), s.flag F.SEC_ATT_STAT_BUSY = false ∧ s.sec.lc ≠ 0 ∧ s.sec.lc ≠ 5) ∧
  (∃ (s : State), s.flag F.SEC_ATT_STAT_BUSY = true) ∧
  (∃ (s : State) (b : _), s.sec.report = some b) ∧
  (∃ (s : State), s.ssOpen = true) ∧
  (∃ (s : State), s.ssOpen = true) ∧
  (∃ (s : State), s.ssOpen = false) ∧
  (∃ (s : State), s.get F.PWR_STATUS_STATE < 5) ∧
  (∃ (s : State), s.sec.lc ≠ 5 ∧ nth s.sec.running 0 none ≠ none) ∧
  (∃ (s : State), s.get F.SAF_STATUS_STATE ≠ 0) ∧
  (∃ (s : State), s.flag F.SEC_ATT_STAT_BUSY = false ∧ s.sec.lc = 0 ∨ s.sec.lc = 5) ∧
  (∃ (s : State), s.flag F.SEC_ATT_STAT_BUSY = false ∧ s.sec.lc = 0 ∨ s.sec.lc = 5) ∧
  (∃ (s : State), s.sec.report = none) ∧
  (∃ (s : State), s.ssOpen = false) ∧
  (∃ (s : State), 5 ≤ s.get F.PWR_STATUS_STATE) :=
  ⟨⟨st [], (State.bootSlot State.reset 0).1.getD 0, (State.bootSlot State.reset 0).2, by decide +kernel⟩,
   ⟨st [], (State.bootSlot State.reset 0).1.getD 0, (State.bootSlot State.reset 0).2, by decide +kernel⟩,
   ⟨st [], (State.bootSlot State.reset 0).1.getD 0, (State.bootSlot State.reset 0).2, by decide +kernel⟩,
   ⟨st [], (State.bootSlot State.reset 0).1.getD 0, (State.bootSlot State.reset 0).2, by decide +kernel⟩,
   ⟨let s := st [(F.RED_STATUS_LANES, 3)]; { s with sec := { s.sec with images := [.words [], .words [], .words [], .words []] } }, true,
     by decide +kernel⟩,
   ⟨st [], (State.bootSlot State.reset 1).1.getD 0, (State.bootSlot State.reset 1).2, by decide +kernel⟩,
   ⟨let s := st []; { s with sld := { s.sld with slots := [none, some (⟨1, 1, [], [], [1#8], [], 0⟩ : SealSlot)] } }, (State.bootSlot
     State.reset 1).1.getD 0, (State.bootSlot State.reset 1).2, 1, (⟨1, 1, [], [], [1#8], [], 0⟩ : SealSlot), by decide +kernel⟩,
   ⟨let s := st []; { s with sec := { s.sec with images := [.words [], .words [], .words [], .words []] } }, true, by decide +kernel⟩,
   ⟨7, by decide +kernel⟩,
   ⟨5, by decide +kernel⟩,
   ⟨st [(F.SEC_ATT_STAT_DONE, 1)], by decide +kernel⟩,
   ⟨st [(F.SEC_ATT_STAT_BUSY, 1)], by decide +kernel⟩,
   ⟨let s := st [(F.SEC_ATT_STAT_BUSY, 1)]; { s with sec := { s.sec with report := some [1#8] } }, [1#8], by decide +kernel⟩,
   ⟨st [(F.SEC_SS_IDX_ENTRY, 1023), (F.SEC_SS_ATTR_HOSTREAD, 1)], by decide +kernel⟩,
   ⟨let s := st [(F.SEC_SS_IDX_ENTRY, 3)]; { s with sec := { s.sec with store := [(3, ⟨true, []⟩)] } }, by decide +kernel⟩,
   ⟨let s := st []; { s with sec := { s.sec with lc := 4 } }, by decide +kernel⟩,
   ⟨let s := st [(F.SEC_TAMPER_WIPES, 65535)]; { s with sec := { s.sec with store := [(3, ⟨true, []⟩)] } }, by decide +kernel⟩,
   ⟨let s := st [(F.RED_STATUS_LANES, 3)]; { s with sec := { s.sec with running := [some 1, none] } }, by decide +kernel⟩,
   ⟨st [(F.SAF_STATUS_STATE, 2)], by decide +kernel⟩,
   ⟨let s := st [(F.SEC_ATT_STAT_DONE, 1)]; { s with sec := { s.sec with lc := 0 } }, by decide +kernel⟩,
   ⟨let s := st [(F.SEC_ATT_STAT_DONE, 1)]; { s with sec := { s.sec with lc := 5 } }, by decide +kernel⟩,
   ⟨st [(F.SEC_ATT_STAT_BUSY, 1)], by decide +kernel⟩,
   ⟨let s := st []; { s with sec := { s.sec with lc := 4 } }, by decide +kernel⟩,
   ⟨st [(F.PWR_STATUS_STATE, 5)], by decide +kernel⟩⟩

/-- States and operands that meet the hypotheses of each clause of `Obligations.FirmwareAndLifeCycle`. -/
theorem witness_FirmwareAndLifeCycle :
  (∃ (s : State) (isl : _) (page : Fin 64), s.sec.fwOwned = false ∧ s.get F.SEC_FW_STAT_STATE = 0 ∧ (isl = true → page.val ≤ 15)) ∧
  (∃ (s : State) (port : Fin 2), s.sec.fwOwned = true ∧ s.get F.SEC_FW_STAT_OWNER ≠ port.val) ∧
  (∃ (s : State) (port : Fin 2) (v : Word) (l : _), s.fwMine port = true ∧ s.get F.SEC_FW_STAT_STATE = 1 ∧ s.sec.images.length = 4 ∧ s.image
    s.fwKind (s.fwSlot s.fwKind) = .words l ∧ v ≠ 0#32) ∧
  (∃ (s : State) (port : Fin 2), s.fwMine port = true ∧ s.get F.SEC_FW_STAT_STATE = 1) ∧
  (∃ (s : State), s.get F.SEC_FW_STAT_STATE = 2) ∧
  (∃ (s : State) (port : Fin 2), s.fwMine port = true ∧ s.get F.SEC_FW_STAT_STATE = 3 ∧ s.fwSeal port = true ∧ s.sec.boot.length = 2) ∧
  (∃ (s : State) (port : Fin 2), s.fwMine port = true ∧ s.sec.boot.length = 2 ∧ s.sec.svnMin.length = 2 ∧ s.bootRec s.fwKind = ⟨(s.bootRec
    s.fwKind).active, true, true⟩ ∧ nth s.sec.running s.fwKind none = some (1 - (s.bootRec s.fwKind).active) ∧ s.fwSeal port = true ∧ 0 <
    nth s.sec.raises s.fwKind 0) ∧
  (∃ (s : State) (port : Fin 2), s.fwMine port = true ∧ s.sec.boot.length = 2 ∧ s.bootRec s.fwKind = ⟨(s.bootRec s.fwKind).active, true,
    true⟩ ∧ nth s.sec.running s.fwKind none = some (1 - (s.bootRec s.fwKind).active) ∧ s.fwSeal port = true ∧ nth s.sec.raises s.fwKind 0 =
    0) ∧
  (∃ (s : State) (port : Fin 2), s.fwMine port = true) ∧
  (∃ (s : State) (port : Fin 2) (g : Fin 8), s.get F.SEC_LC_PENDING = 7 ∧ s.sec.lcJob = none ∧ lcAllowed s.sec.lc g = true ∧ 2 < s.sec.steps
    ∧ g ≠ 4 ∧ (s.sec.lc = 2 → g = 3 → s.sealSt = 1 ∧ s.sld.active.isSome = true ∧ s.flag F.SEC_SEAL_STAT_IMGCHG = false ∧ (s.bootRec
    0).trial = false ∧ (s.bootRec 1).trial = false ∧ s.dualLane = true) ∧ (s.sec.lc = 3 → g = 2 → s.sealOwner port = true) ∧ (g = 5 →
    s.sld.active.isSome = true → s.sealOwner port = true)) ∧
  (∃ (s : State) (port : Fin 2) (g : Fin 8), s.get F.SEC_LC_PENDING = 7 ∧ s.sec.lcJob = none ∧ lcAllowed s.sec.lc g = true ∧ 2 < s.sec.steps
    ∧ g ≠ 4 ∧ (s.sec.lc = 2 → g = 3 → s.sealSt = 1 ∧ s.sld.active.isSome = true ∧ s.flag F.SEC_SEAL_STAT_IMGCHG = false ∧ (s.bootRec
    0).trial = false ∧ (s.bootRec 1).trial = false ∧ s.dualLane = true) ∧ (s.sec.lc = 3 → g = 2 → s.sealOwner port = true) ∧ (g = 5 →
    s.sld.active.isSome = true → s.sealOwner port = true)) ∧
  (∃ (s : State) (port : Fin 2) (g : Fin 8), s.get F.SEC_LC_PENDING = 7 ∧ s.sec.lcJob = none ∧ lcAllowed s.sec.lc g = true ∧ 2 < s.sec.steps
    ∧ g ≠ 4 ∧ (s.sec.lc = 2 → g = 3 → s.sealSt = 1 ∧ s.sld.active.isSome = true ∧ s.flag F.SEC_SEAL_STAT_IMGCHG = false ∧ (s.bootRec
    0).trial = false ∧ (s.bootRec 1).trial = false ∧ s.dualLane = true) ∧ (s.sec.lc = 3 → g = 2 → s.sealOwner port = true) ∧ (g = 5 →
    s.sld.active.isSome = true → s.sealOwner port = true)) ∧
  (∃ (s : State) (g : Fin 8), s.get F.SEC_LC_PENDING = 7 ∧ s.sec.lcJob = none ∧ lcAllowed s.sec.lc g = false) ∧
  (∃ (s : State) (g : Fin 8), s.get F.SEC_LC_PENDING = 7 ∧ s.sec.lcJob = none ∧ lcAllowed s.sec.lc g = false) ∧
  (∃ (s : State) (g : Fin 8), s.get F.SEC_LC_PENDING = 7 ∧ s.sec.lcJob = none ∧ lcAllowed s.sec.lc g = false) ∧
  (∃ (s : State) (j : Nat), s.sec.lcJob = some j) ∧
  (∃ (s : State) (j : Nat), s.sec.lcJob = some j) ∧
  (∃ (s : State) (j : Nat), s.sec.lcJob = some j) ∧
  (∃ (s : State) (port : Fin 2) (v : Word) (l : _), s.fwMine port = true ∧ s.get F.SEC_FW_STAT_STATE = 1 ∧ s.sec.images.length = 4 ∧ s.image
    s.fwKind (s.fwSlot s.fwKind) = .words l ∧ v = 0#32) ∧
  (∃ (s : State) (port : Fin 2), s.fwMine port = true ∧ s.get F.SEC_FW_STAT_STATE = 1 ∧ s.sec.images.length = 4 ∧ s.image s.fwKind (s.fwSlot
    s.fwKind) = .factory) ∧
  (∃ (s : State) (port : Fin 2) (l : _), s.fwMine port = true ∧ s.get F.SEC_FW_STAT_STATE = 1 ∧ s.sec.images.length = 4 ∧ s.image s.fwKind
    (s.fwSlot s.fwKind) = .patched l) ∧
  (∃ (s : State) (port : Fin 2), s.fwMine port = false) ∧
  (∃ (s : State), s.get F.SEC_FW_STAT_STATE ≠ 2) ∧
  (∃ (s : State) (port : Fin 2), s.fwMine port = true ∧ s.get F.SEC_FW_STAT_STATE ≠ 3 ∨ s.fwSeal port = false) ∧
  (∃ (s : State) (port : Fin 2), s.fwMine port = false) ∧
  (∃ (s : State) (g : Fin 8), s.get F.SEC_LC_PENDING = 7 ∧ s.sec.lcJob = none ∧ g = 4 ∧ s.sec.lc = 1 ∨ s.sec.lc = 2 ∨ s.sec.lc = 3 ∧ 0 <
    s.sec.steps) ∧
  (∃ (s : State) (port : Fin 2) (g : Fin 8), s.get F.SEC_LC_PENDING = 7 ∧ s.sec.lcJob = none ∧ g = 5 ∧ s.sec.lc ≠ 5 ∧ 0 < s.sec.steps ∧
    (s.sld.active.isSome = true → s.sealOwner port = true)) ∧
  (∃ (s : State), s.get F.SEC_LC_PENDING ≠ 7) ∧
  (∃ (s : State), s.sec.lcJob = none) ∧
  (∃ (s : State) (port : Fin 2) (v : Word) (l : _), s.fwMine port = true ∧ s.get F.SEC_FW_STAT_STATE = 4 ∧ s.sec.images.length = 4 ∧ s.image
    s.fwKind (s.fwSlot s.fwKind) = .words l ∧ v ≠ 0#32) ∧
  (∃ (s : State) (port : Fin 2), s.fwMine port = true ∧ s.get F.SEC_FW_STAT_STATE = 2 ∨ s.get F.SEC_FW_STAT_STATE = 3 ∨ s.get
    F.SEC_FW_STAT_STATE = 5) ∧
  (∃ (s : State) (port : Fin 2), s.fwMine port = true ∧ s.get F.SEC_FW_STAT_STATE = 2 ∨ s.get F.SEC_FW_STAT_STATE = 3 ∨ s.get
    F.SEC_FW_STAT_STATE = 5) ∧
  (∃ (s : State) (port : Fin 2), s.fwMine port = true ∧ s.get F.SEC_FW_STAT_STATE = 2 ∨ s.get F.SEC_FW_STAT_STATE = 3 ∨ s.get
    F.SEC_FW_STAT_STATE = 5) ∧
  (∃ (s : State) (port : Fin 2), s.fwMine port = true ∧ s.get F.SEC_FW_STAT_STATE = 4) :=
  ⟨⟨st [], true, 15, by decide +kernel⟩,
   ⟨let s := st []; { s with sec := { s.sec with fwOwned := true } }, 1, by decide +kernel⟩,
   ⟨let s := st [(F.SEC_FW_STAT_STATE, 1), (F.SEC_FW_STAT_OWNER, 1), (F.SEC_FW_CTRL_PAGE, 63)];
     { s with sec := { s.sec with fwOwned := true } }, 1, 5#32, ([] : List (Nat × Nat)), by decide +kernel⟩,
   ⟨let s := st [(F.SEC_FW_STAT_STATE, 1), (F.SEC_FW_STAT_OWNER, 1)]; { s with sec := { s.sec with fwOwned := true } }, 1,
     by decide +kernel⟩,
   ⟨let s := st [(F.SEC_FW_STAT_STATE, 2), (F.SEC_FW_STAT_OWNER, 1)]; { s with sec := { s.sec with fwOwned := true } }, by decide +kernel⟩,
   ⟨let s := st [(F.SEC_FW_STAT_STATE, 3), (F.SEC_FW_STAT_OWNER, 1)]; { s with sec := { s.sec with fwOwned := true } }, 1,
     by decide +kernel⟩,
   ⟨let s := st [(F.SEC_FW_STAT_STATE, 5), (F.SEC_FW_STAT_OWNER, 1), (F.SEC_FW_CTRL_TYPE, 1), (F.SEC_SVN_ICUR, 9)];
     { s with sec := { s.sec with boot := [⟨0, true, true⟩, ⟨0, true, true⟩], running := [some 1, some 1], fwOwned := true } }, 1,
     by decide +kernel⟩,
   ⟨let s := st [(F.SEC_FW_STAT_STATE, 5), (F.SEC_FW_STAT_OWNER, 1), (F.SEC_FW_CTRL_TYPE, 1), (F.SEC_SVN_ICUR, 9)];
     { s with sec := { s.sec with boot := [⟨0, true, true⟩, ⟨0, true, true⟩], running := [some 1, some 1], fwOwned := true, raises := [8, 0] } },
     1, by decide +kernel⟩,
   ⟨let s := st [(F.SEC_FW_STAT_STATE, 4), (F.SEC_FW_STAT_OWNER, 1)]; { s with sec := { s.sec with fwOwned := true } }, 1,
     by decide +kernel⟩,
   ⟨let s := st [(F.SEC_SEAL_STAT_STATE, 1), (F.RED_STATUS_LANES, 3), (F.SEC_LC_PENDING, 7)];
     { s with sld := { s.sld with slots := [some (⟨1, 1, [], [], [1#8], [], 0⟩ : SealSlot), none] } }, 1, 3, by decide +kernel⟩,
   ⟨st [(F.SEC_LC_PENDING, 7)], 1, 5, by decide +kernel⟩,
   ⟨let s := st [(F.SEC_LC_PENDING, 7), (F.SEC_SEAL_STAT_STATE, 2), (F.SEC_SEAL_STAT_PORT, 1)]; { s with sec := { s.sec with lc := 3 } }, 1,
     2, by decide +kernel⟩,
   ⟨st [(F.SEC_LC_PENDING, 7)], 0, by decide +kernel⟩,
   ⟨st [(F.SEC_LC_PENDING, 7)], 1, by decide +kernel⟩,
   ⟨st [(F.SEC_LC_PENDING, 7)], 7, by decide +kernel⟩,
   ⟨let s := let s := st []; { s with sec := { s.sec with lcJob := some 3 } };
     { s with sld := { s.sld with slots := [some (⟨1, 1, [], [], [1#8], [], 0⟩ : SealSlot), none] } }, 3, by decide +kernel⟩,
   ⟨let s := let s := st []; { s with sec := { s.sec with lcJob := some 4 } };
     { s with sld := { s.sld with slots := [some (⟨1, 1, [], [], [1#8], [], 0⟩ : SealSlot), none] } }, 4, by decide +kernel⟩,
   ⟨let s := let s := st []; { s with sec := { s.sec with lcJob := some 5 } };
     { s with sld := { s.sld with slots := [some (⟨1, 1, [], [], [1#8], [], 0⟩ : SealSlot), none] } }, 5, by decide +kernel⟩,
   ⟨let s := st [(F.SEC_FW_STAT_STATE, 1), (F.SEC_FW_STAT_OWNER, 1), (F.SEC_FW_CTRL_PAGE, 63)];
     { s with sec := { s.sec with fwOwned := true, images := [.factory, .words [(1048575, 7)], .factory, .words []] } }, 1, 0#32, [(1048575,
     7)], by decide +kernel⟩,
   ⟨let s := st [(F.SEC_FW_STAT_STATE, 1), (F.SEC_FW_STAT_OWNER, 1), (F.SEC_FW_CTRL_TYPE, 1)];
     { s with sec := { s.sec with fwOwned := true, running := [some 0, some 1] } }, 1, by decide +kernel⟩,
   ⟨let s := st [(F.SEC_FW_STAT_STATE, 1), (F.SEC_FW_STAT_OWNER, 1), (F.SEC_FW_CTRL_PAGE, 63)];
     { s with sec := { s.sec with fwOwned := true, running := [some 0, some 0], images := [.factory, .patched [(1048575, 7)], .factory, .words []] } },
     1, [(1048575, 7)], by decide +kernel⟩,
   ⟨let s := st [(F.SEC_FW_STAT_STATE, 1), (F.SEC_FW_STAT_OWNER, 1), (F.SEC_FW_CTRL_PAGE, 63)];
     { s with sec := { s.sec with fwOwned := true } }, 0, by decide +kernel⟩,
   ⟨st [(F.SEC_FW_STAT_STATE, 1), (F.SEC_FW_STAT_OWNER, 1), (F.SEC_FW_CTRL_PAGE, 63)], by decide +kernel⟩,
   ⟨let s := st [(F.SEC_FW_STAT_STATE, 4), (F.SEC_FW_STAT_OWNER, 1)]; { s with sec := { s.sec with fwOwned := true } }, 1,
     by decide +kernel⟩,
   ⟨st [(F.SEC_FW_STAT_STATE, 1), (F.SEC_FW_STAT_OWNER, 1), (F.SEC_FW_CTRL_PAGE, 63)], 1, by decide +kernel⟩,
   ⟨let s := st [(F.SEC_LC_PENDING, 7)]; { s with sec := { s.sec with lc := 3, steps := 1 } }, 4, by decide +kernel⟩,
   ⟨let s := st [(F.SEC_LC_PENDING, 7)]; { s with sec := { s.sec with lc := 4, steps := 1 } }, 1, 5, by decide +kernel⟩,
   ⟨st [(F.SEC_LC_PENDING, 4)], by decide +kernel⟩,
   ⟨st [], by decide +kernel⟩,
   ⟨let s := st [(F.SEC_FW_STAT_STATE, 4), (F.SEC_FW_STAT_OWNER, 1), (F.SEC_FW_CTRL_PAGE, 63), (F.SEC_FW_STAT_RESULT, 5)];
     { s with sec := { s.sec with fwOwned := true, images := [.factory, .words [(1048575, 7)], .factory, .words []] } }, 1, 9#32, [(1048575,
     7)], by decide +kernel⟩,
   ⟨let s := st [(F.SEC_FW_STAT_STATE, 2), (F.SEC_FW_STAT_OWNER, 1)]; { s with sec := { s.sec with fwOwned := true } }, 1,
     by decide +kernel⟩,
   ⟨let s := st [(F.SEC_FW_STAT_STATE, 3), (F.SEC_FW_STAT_OWNER, 1)]; { s with sec := { s.sec with fwOwned := true } }, 1,
     by decide +kernel⟩,
   ⟨let s := st [(F.SEC_FW_STAT_STATE, 5), (F.SEC_FW_STAT_OWNER, 1)]; { s with sec := { s.sec with fwOwned := true } }, 1,
     by decide +kernel⟩,
   ⟨let s := st [(F.SEC_FW_STAT_STATE, 4), (F.SEC_FW_STAT_OWNER, 1), (F.SEC_FW_CTRL_PAGE, 63), (F.SEC_FW_STAT_RESULT, 5)];
     { s with sec := { s.sec with fwOwned := true } }, 1, by decide +kernel⟩⟩

/-- States and operands that meet the hypotheses of each clause of `Obligations.HostRings`. -/
theorem witness_HostRings :
  (∃ (s : State) (p : Fin 2) (q : Fin 16) (cfg : Word), s.hifOk ∧ s.flag (F.HIF_Q_CFG_EN p q) = false ∧ s.ringBad p q (setBit cfg.toNat 0
    true) = false ∧ (s.get (F.HIF_Q_STAT_STATE p q) ≠ 2 ∨ (s.ring p q).queue = [])) ∧
  (∃ (s : State) (p : Fin 2) (q : Fin 16) (cfg : Word), s.flag (F.HIF_Q_CFG_EN p q) = false ∧ s.ringBad p q (setBit cfg.toNat 0 true) =
    true) ∧
  (∃ (s : State) (p : Fin 2) (q : Fin 16), s.flag (F.HIF_Q_CFG_EN p q) = true ∧ s.cmdRing p q = true) ∧
  (∃ (s : State) (p : Fin 2) (q : Fin 16), s.flag (F.HIF_Q_CFG_EN p q) = true ∧ s.cmdRing p q = false) ∧
  (∃ (s : State) (p : Fin 2) (q : Fin 16), s.get (F.HIF_Q_STAT_STATE p q) = 2 ∧ (s.ring p q).queue = []) ∧
  (∃ (s : State) (p : Fin 2) (q : Fin 16) (v : Word), s.hifOk ∧ s.flag F.HIF_STATUS_READY = true ∧ s.flag (F.HIF_Q_CFG_EN p q) = true ∧
    v.toNat < s.ringSize p q) ∧
  (∃ (s : State) (p : Fin 2) (q : Fin 16) (v : Word), s.flag F.HIF_STATUS_READY = true ∧ s.flag (F.HIF_Q_CFG_EN p q) = true ∧ s.ringSize p q
    ≤ v.toNat ∧ s.frm.onceMajor.contains 232 = false) ∧
  (∃ (s : State) (p : Fin 2) (q : Fin 16) (v : Word), s.hifOk ∧ s.flag F.HIF_STATUS_READY = true ∧ s.flag (F.HIF_Q_CFG_EN p q) = true ∧
    v.toNat < s.ringSize p q ∧ v.toNat = s.get (F.HIF_Q_STAT_CQTAIL p q)) ∧
  (∃ (s : State), s.flag F.HIF_STATUS_READY = true) ∧
  (∃ (s : State) (prio : _) (p : Nat) (q : Nat), s.hifOk ∧ s.nextFetch = some (prio, p, q) ∧ s.ringSize p q ≤ 4096) ∧
  (∃ (s : State) (prio : _) (p : Nat) (q : Nat), s.hifOk ∧ s.nextFetch = some (prio, p, q) ∧ s.ringSize p q ≤ 4096) ∧
  (∃ (s : State) (prio : _) (p : Nat) (q : Nat), s.nextFetch = some (prio, p, q) ∧ s.flag (F.HIF_Q_CFG_EN p q) = true ∧
    s.frm.onceMajor.contains 238 = false) ∧
  (∃ (s : State) (p : Fin 2) (q : Fin 16) (i : Nat) (d : _), s.hifOk ∧ s.nextDone p q = some (i, d) ∧ s.ringSize p q ≤ 4096) ∧
  (∃ (s : State) (p : Fin 2) (q : Fin 16) (i : Nat) (d : _), s.hifOk ∧ s.nextDone p q = some (i, d) ∧ s.ringSize p q ≤ 4096) ∧
  (∃ (s : State) (p : Fin 2) (q : Fin 16) (i : Nat) (d : _), s.hifOk ∧ s.nextDone p q = some (i, d) ∧ s.ringSize p q ≤ 4096) ∧
  (∃ (s : State) (p : Fin 2) (q : Fin 16) (i : Nat) (d : _), s.hifOk ∧ s.nextDone p q = some (i, d) ∧ s.flag (F.HIF_Q_CFG_EN p q) = true ∧
    s.frm.onceMajor.contains 238 = false) ∧
  (∃ (s : State) (p : Fin 2) (q : Fin 16), s.flag (F.HIF_Q_CFG_EN p q) = true) ∧
  (∃ (s : State) (p : Fin 2) (q : Fin 16), s.flag (F.HIF_Q_CFG_EN p q) = false) ∧
  (∃ (s : State) (p : Fin 2) (q : Fin 16), s.get (F.HIF_Q_STAT_STATE p q) ≠ 2 ∨ (s.ring p q).queue ≠ []) ∧
  (∃ (s : State) (p : Fin 2) (q : Fin 16), s.get (F.HIF_Q_STAT_STATE p q) ≠ 2 ∨ (s.ring p q).queue ≠ []) ∧
  (∃ (s : State) (p : Fin 2) (q : Fin 16) (v : Word), s.hifOk ∧ s.flag F.HIF_STATUS_READY = true ∧ s.flag (F.HIF_Q_CFG_EN p q) = true ∧
    v.toNat < s.ringSize p q ∧ v.toNat ≠ s.get (F.HIF_Q_STAT_CQTAIL p q) ∧ (v.toNat + s.ringSize p q - (s.ring p q).cqHead) % s.ringSize p q
    ≤ (s.ring p q).unread) ∧
  (∃ (s : State) (p : Fin 2) (q : Fin 16) (v : Word), s.flag F.HIF_STATUS_READY = true ∧ s.flag (F.HIF_Q_CFG_EN p q) = true ∧ s.ringSize p q
    ≤ v.toNat) ∧
  (∃ (s : State), s.nextFetch = none) ∧
  (∃ (s : State) (p : Fin 2) (q : Fin 16), s.nextDone p q = none) :=
  ⟨⟨st [(F.HIF_Q_STAT_STATE 1 15, 2), (F.HIF_Q_STAT_SQHEAD 1 15, 9), (F.HIF_Q_STAT_CQTAIL 1 15, 9)], 1, 15, 0x40#32, by decide +kernel⟩,
   ⟨st [], 1, 15, 0x30#32, by decide +kernel⟩,
   ⟨ring' [] [(desc 0 [] true (some (0, 1, 2)))], 1, 15, by decide +kernel⟩,
   ⟨ring' [(F.HIF_Q_CFG_TYPE 1 15, 1)] [(desc 0 [] true (some (0, 1, 2)))], 1, 15, by decide +kernel⟩,
   ⟨st [(F.HIF_Q_STAT_STATE 1 15, 2)], 1, 15, by decide +kernel⟩,
   ⟨ring' [] [(desc 0 [] true (some (0, 1, 2)))], 1, 15, 15#32, by decide +kernel⟩,
   ⟨ring' [] [(desc 0 [] true (some (0, 1, 2)))], 1, 15, 16#32, by decide +kernel⟩,
   ⟨(ring' [(F.HIF_Q_STAT_CQTAIL 1 15, 15)] []).modRing 1 15 (fun r => { r with unread := 2, irq := true }), 1, 15, 15#32,
     by decide +kernel⟩,
   ⟨st [(F.HIF_STATUS_READY, 1)], by decide +kernel⟩,
   ⟨(ring' [(F.HIF_Q_STAT_SQHEAD 1 15, 15)] [(desc 0 [] false none)]).modRing 1 15 (fun r => { r with sqTail := 3 }), (1 : Nat), 1, 15,
     by decide +kernel⟩,
   ⟨(ring' [(F.HIF_Q_STAT_SQHEAD 1 15, 15)] [(desc 0 [] false none)]).modRing 1 15 (fun r => { r with sqTail := 3 }), (1 : Nat), 1, 15,
     by decide +kernel⟩,
   ⟨(ring' [(F.HIF_Q_STAT_SQHEAD 1 15, 15)] []).modRing 1 15 (fun r => { r with sqTail := 3 }), (1 : Nat), 1, 15, by decide +kernel⟩,
   ⟨ring' [(F.HIF_Q_STAT_CQTAIL 1 15, 15), (F.HIF_Q_STAT_PHASE 1 15, 1)] [(desc 0 [] true (some (0, 1, 2))), (desc 0 [] false none)], 1, 15,
     0, (desc 0 [] true (some (0, 1, 2))), by decide +kernel⟩,
   ⟨ring' [(F.HIF_Q_STAT_CQTAIL 1 15, 14), (F.HIF_Q_STAT_PHASE 1 15, 1)] [(desc 0 [] true (some (0, 1, 2))), (desc 0 [] false none)], 1, 15,
     0, (desc 0 [] true (some (0, 1, 2))), by decide +kernel⟩,
   ⟨ring' [(F.HIF_Q_STAT_CQTAIL 1 15, 15), (F.HIF_Q_STAT_PHASE 1 15, 0)] [(desc 0 [] true (some (0, 1, 2))), (desc 0 [] false none)], 1, 15,
     0, (desc 0 [] true (some (0, 1, 2))), by decide +kernel⟩,
   ⟨ring' [] [(desc 0 [] true (some (0, 1, 2))), (desc 0 [] false none)], 1, 15, 0, (desc 0 [] true (some (0, 1, 2))), by decide +kernel⟩,
   ⟨ring' [] [(desc 0 [] true (some (0, 1, 2)))], 1, 15, by decide +kernel⟩,
   ⟨st [(F.HIF_Q_STAT_STATE 1 15, 2)], 1, 15, by decide +kernel⟩,
   ⟨ring' [] [(desc 0 [] true (some (0, 1, 2)))], 1, 15, by decide +kernel⟩,
   ⟨ring' [(F.HIF_Q_STAT_STATE 1 15, 2)] [(desc 0 [] true (some (0, 1, 2)))], 1, 15, by decide +kernel⟩,
   ⟨(ring' [(F.HIF_Q_STAT_CQTAIL 1 15, 3)] []).modRing 1 15 (fun r => { r with cqHead := 14, unread := 5, irq := true }), 1, 15, 2#32,
     by decide +kernel⟩,
   ⟨ring' [] [(desc 0 [] true (some (0, 1, 2)))], 1, 15, 16#32, by decide +kernel⟩,
   ⟨st [], by decide +kernel⟩,
   ⟨ring' [] [(desc 0 [] false none)], 1, 15, by decide +kernel⟩⟩

/-- States and operands that meet the hypotheses of each clause of `Obligations.HostDescriptors`. -/
theorem witness_HostDescriptors :
  (∃ (s : State) (p : Fin 2) (q : Fin 16) (i : Nat) (d : _), s.hifOk ∧ s.startable p q = some (i, d) ∧ d.opc = 0) ∧
  (∃ (s : State) (p : Fin 2) (q : Fin 16) (i : Nat) (d : _), s.startable p q = some (i, d) ∧ d.opc = 1 ∧ leAt d.raw 8 4 = 1 ∧ s.pairRefused
    p (leAt d.raw 16 4, leAt d.raw 20 4) = false ∧ bothAsked d.pairs (leAt d.raw 16 4) = 0) ∧
  (∃ (s : State) (p : Fin 2) (q : Fin 16) (i : Nat) (d : _), s.startable p q = some (i, d) ∧ d.opc = 1 ∧ 1 ≤ leAt d.raw 8 4 ∧ leAt d.raw 8 4
    ≤ 6 ∧ (d.pairs.map Prod.fst).Nodup ∧ d.pairs.all (fun x => !semWord x.1 && bothAsked d.pairs x.1 == 0) = true) ∧
  (∃ (s : State) (p : Fin 2) (q : Fin 16) (i : Nat) (d : _), s.hifOk ∧ s.startable p q = some (i, d) ∧ d.opc = 2 ∧ d.readOk = true ∧
    d.reads.all (fun o => !semWord o && o % 4 == 0 && (regAt o).isSome) = true) ∧
  (∃ (s : State) (p : Fin 2) (q : Fin 16) (i : Nat) (d : _), s.hifOk ∧ s.startable p q = some (i, d) ∧ d.opc = 2 ∧ d.readOk = true ∧
    d.reads.all (fun o => !semWord o && o % 4 == 0 && (regAt o).isSome) = true) ∧
  (∃ (s : State) (p : Fin 2) (q : Fin 16) (i : Nat) (d : _), s.hifOk ∧ s.startable p q = some (i, d) ∧ d.opc = 2 ∧ d.readOk = true ∧
    d.reads.any (fun o => semWord o || o % 4 != 0 || (regAt o).isNone) = true) ∧
  (∃ (s : State) (p : Fin 2) (q : Fin 16) (i : Nat) (d : _), s.hifOk ∧ s.startable p q = some (i, d) ∧ d.opc = 2 ∧ d.readOk = true ∧
    d.reads.any (fun o => semWord o || o % 4 != 0 || (regAt o).isNone) = true) ∧
  (∃ (s : State) (p : Fin 2) (q : Fin 16) (i : Nat) (d : _), s.startable p q = some (i, d) ∧ d.opc = 1 ∧ (leAt d.raw 8 4 = 0 ∨ 6 < leAt
    d.raw 8 4)) ∧
  (∃ (s : State) (p : Fin 2) (q : Fin 16) (i : Nat) (d : _), s.startable p q = some (i, d) ∧ d.opc = 1 ∧ (leAt d.raw 8 4 = 0 ∨ 6 < leAt
    d.raw 8 4)) ∧
  (∃ (s : State) (p : Fin 2) (q : Fin 16) (i : Nat) (d : _), s.hifOk ∧ s.startable p q = some (i, d) ∧ d.opc = 2 ∧ leAt d.raw 16 4 = 1 ∧
    semWord (leAt d.raw 24 4) = false ∧ leAt d.raw 24 4 % 4 = 0 ∧ (regAt (leAt d.raw 24 4)).isSome = true) ∧
  (∃ (s : State) (p : Fin 2) (q : Fin 16) (i : Nat) (d : _), s.hifOk ∧ s.startable p q = some (i, d) ∧ d.opc = 3 ∧ leAt d.raw 16 4 = 0) ∧
  (∃ (s : State) (p : Fin 2) (q : Fin 16) (i : Nat) (d : _), s.hifOk ∧ s.startable p q = some (i, d) ∧ d.opc = 3 ∧ leAt d.raw 16 4 = 1) ∧
  (∃ (s : State) (p : Fin 2) (q : Fin 16) (i : Nat) (d : _), s.hifOk ∧ s.startable p q = some (i, d) ∧ d.opc = 4 ∧ leAt d.raw 16 4 <
    recSlots ∧ 1 ≤ leAt d.raw 20 4 ∧ leAt d.raw 20 4 ≤ 4096) ∧
  (∃ (s : State) (p : Fin 2) (q : Fin 16) (i : Nat) (d : _), s.startable p q = some (i, d) ∧ d.opc = 5 ∧ 6 ≤ leAt d.raw 16 4 ∧ leAt d.raw 16
    4 ≤ 4096) ∧
  (∃ (s : State) (p : Fin 2) (q : Fin 16) (i : Nat) (d : _) (e : Fin 4), s.hifOk ∧ s.eth.ports.length = 4 ∧ (s.port e).queues.length = 4 ∧
    s.startable p q = some (i, d) ∧ d.opc = 6 ∧ 60 ≤ leAt d.raw 16 4 ∧ leAt d.raw 16 4 ≤ 1514 ∧ leAt d.raw 20 1 ≤ 1 ∧ s.ethActive (leAt
    d.raw 20 1) = some e.val ∧ s.flag (F.ETH_STATUS_LINK e) = true) ∧
  (∃ (s : State) (p : Fin 2) (q : Fin 16) (i : Nat) (d : _), s.hifOk ∧ s.startable p q = some (i, d) ∧ d.opc = 16 ∧ streamMax (s.get
    (F.HIF_Q_CFG_STREAM p q)) ≤ leAt d.raw 16 4) ∧
  (∃ (s : State) (p : Fin 2) (q : Fin 16) (i : Nat) (d : _), s.hifOk ∧ s.startable p q = some (i, d) ∧ d.opc = 16 ∧ leAt d.raw 16 4 <
    streamMax (s.get (F.HIF_Q_CFG_STREAM p q))) ∧
  (∃ (s : State) (p : Fin 2) (q : Fin 16) (i : Nat) (d : _), s.hifOk ∧ s.cmdRing p q = true ∧ s.startable p q = some (i, d) ∧ d.transfers =
    true ∧ s.frm.onceMajor.contains 233 = false) ∧
  (∃ (s : State) (p : Fin 2) (q : Fin 16) (i : Nat) (d : _), s.hifOk ∧ s.cmdRing p q = true ∧ s.startable p q = some (i, d) ∧ d.transfers =
    true ∧ s.frm.onceMajor.contains 233 = false) ∧
  (∃ (s : State) (x : _) (rest : _) (p : Fin 2) (q : Fin 16) (i : Nat) (d : _), s.hifOk ∧ s.hif.items = x :: rest ∧ s.flag (F.HIF_Q_CFG_EN p
    q) = true ∧ s.cmdRing p q = false ∧ s.get (F.HIF_Q_CFG_STREAM p q) = x.stream ∧ s.freeBuf p q = some (i, d)) ∧
  (∃ (s : State) (p : Fin 2) (q : Fin 16) (i : Nat) (d : _), s.hifOk ∧ s.startable p q = some (i, d) ∧ d.opc = 3 ∧ 1 < leAt d.raw 16 4) ∧
  (∃ (s : State) (p : Fin 2) (q : Fin 16) (i : Nat) (d : _), s.hifOk ∧ s.startable p q = some (i, d) ∧ d.opc = 4 ∧ recSlots ≤ leAt d.raw 16
    4 ∨ leAt d.raw 20 4 = 0 ∨ 4096 < leAt d.raw 20 4) ∧
  (∃ (s : State) (p : Fin 2) (q : Fin 16) (i : Nat) (d : _), s.hifOk ∧ s.startable p q = some (i, d) ∧ d.opc = 4 ∧ recSlots ≤ leAt d.raw 16
    4 ∨ leAt d.raw 20 4 = 0 ∨ 4096 < leAt d.raw 20 4) ∧
  (∃ (s : State) (p : Fin 2) (q : Fin 16) (i : Nat) (d : _), s.hifOk ∧ s.startable p q = some (i, d) ∧ d.opc = 4 ∧ recSlots ≤ leAt d.raw 16
    4 ∨ leAt d.raw 20 4 = 0 ∨ 4096 < leAt d.raw 20 4) ∧
  (∃ (s : State) (p : Fin 2) (q : Fin 16) (i : Nat) (d : _), s.hifOk ∧ s.startable p q = some (i, d) ∧ d.opc = 5 ∧ leAt d.raw 16 4 < 6 ∨
    4096 < leAt d.raw 16 4) ∧
  (∃ (s : State) (p : Fin 2) (q : Fin 16) (i : Nat) (d : _), s.hifOk ∧ s.startable p q = some (i, d) ∧ d.opc = 5 ∧ leAt d.raw 16 4 < 6 ∨
    4096 < leAt d.raw 16 4) ∧
  (∃ (s : State) (p : Fin 2) (q : Fin 16) (i : Nat) (d : _), s.hifOk ∧ s.startable p q = some (i, d) ∧ d.opc = 6 ∧ 60 ≤ leAt d.raw 16 4 ∧
    leAt d.raw 16 4 ≤ 1514 ∧ leAt d.raw 20 1 ≤ 1 ∧ (s.ethActive (leAt d.raw 20 1)).all (fun e => !s.flag (F.ETH_STATUS_LINK e)) = true) ∧
  (∃ (s : State) (p : Fin 2) (q : Fin 16) (i : Nat) (d : _), s.hifOk ∧ s.cmdRing p q = false ∧ s.freeBuf p q = some (i, d) ∧ s.hif.items.any
    (fun x => x.stream == s.get (F.HIF_Q_CFG_STREAM p q)) = true) ∧
  (∃ (s : State) (x : _) (rest : _), s.hif.items = x :: rest ∧ (∀ p < 2, ∀ q < 16, s.flag (F.HIF_Q_CFG_EN p q) = false)) ∧
  (∃ (s : State) (x : _) (rest : _) (p : Fin 2) (q : Fin 16), s.hif.items = x :: rest ∧ s.flag (F.HIF_Q_CFG_EN p q) = true ∧ s.cmdRing p q =
    false ∧ s.get (F.HIF_Q_CFG_STREAM p q) = x.stream ∧ s.freeBuf p q = none ∧ s.frm.onceMajor.contains 236 = false) :=
  ⟨⟨ring' [] [(desc 0 [] false none)], 1, 15, 0, (desc 0 [] false none), by decide +kernel⟩,
   ⟨ring' [] [(desc 1 [1, 0, 0xB00000, 7] false none)], 1, 15, 0, (desc 1 [1, 0, 0xB00000, 7] false none), by decide +kernel⟩,
   ⟨ring' [] [(desc 1 [6, 0, 0xB00000, 1, 0xB00001, 2, 0x20, 3, 0xB00008, 4, 0x3FFFFFC, 5, 0xB00010, 6] false none)], 1, 15, 0, (desc 1 [6,
     0, 0xB00000, 1, 0xB00001, 2, 0x20, 3, 0xB00008, 4, 0x3FFFFFC, 5, 0xB00010, 6] false none), by decide +kernel⟩,
   ⟨ring' [] [(desc 2 [64, 0, 10, 0, 0xb00000, 0xb00004, 0xb00008, 0xb0000c, 0xb00010, 0xb00014, 0xb00018, 0xb0001c, 0xb00020, 0xb00024]
     false none)], 1, 15, 0, (desc 2 [64, 0, 10, 0, 0xb00000, 0xb00004, 0xb00008, 0xb0000c, 0xb00010, 0xb00014, 0xb00018, 0xb0001c,
     0xb00020, 0xb00024] false none), by decide +kernel⟩,
   ⟨ring' [] [(desc 2 [64, 0, 1, 0, 0x20] false none)], 1, 15, 0, (desc 2 [64, 0, 1, 0, 0x20] false none), by decide +kernel⟩,
   ⟨ring' [] [(desc 2 [64, 0, 2, 0, 0x10, 0xF10000] false none)], 1, 15, 0, (desc 2 [64, 0, 2, 0, 0x10, 0xF10000] false none),
     by decide +kernel⟩,
   ⟨ring' [] [(desc 2 [64, 0, 1, 0, 0x11] false none)], 1, 15, 0, (desc 2 [64, 0, 1, 0, 0x11] false none), by decide +kernel⟩,
   ⟨ring' [] [(desc 1 [0] false none)], 1, 15, 0, (desc 1 [0] false none), by decide +kernel⟩,
   ⟨ring' [] [(desc 1 [7] false none)], 1, 15, 0, (desc 1 [7] false none), by decide +kernel⟩,
   ⟨ring' [] [(desc 2 [64, 0, 1, 0, 0xB00000] false none)], 1, 15, 0, (desc 2 [64, 0, 1, 0, 0xB00000] false none), by decide +kernel⟩,
   ⟨ring' [] [(desc 3 [64, 0, 0] false none)], 1, 15, 0, (desc 3 [64, 0, 0] false none), by decide +kernel⟩,
   ⟨ring' [] [(desc 3 [64, 0, 1] false none)], 1, 15, 0, (desc 3 [64, 0, 1] false none), by decide +kernel⟩,
   ⟨ring' [] [(desc 4 [64, 0, 131071, 2] false none)], 1, 15, 0, (desc 4 [64, 0, 131071, 2] false none), by decide +kernel⟩,
   ⟨ring' [] [(desc 5 [64, 0, 6] false none)], 1, 15, 0, (desc 5 [64, 0, 6] false none), by decide +kernel⟩,
   ⟨ring' [(F.ETH_STATUS_LINK 3, 1), (F.ETH_STATUS_ACTIVE 3, 1)] [(desc 6 [64, 0, 60, 1] false none)], 1, 15, 0, (desc 6 [64, 0, 60, 1]
     false none), 3, by decide +kernel⟩,
   ⟨ring' [(F.HIF_Q_CFG_TYPE 1 15, 1)] [(desc 16 [64, 0, 1534] false none)], 1, 15, 0, (desc 16 [64, 0, 1534] false none),
     by decide +kernel⟩,
   ⟨ring' [(F.HIF_Q_CFG_TYPE 1 15, 1)] [(desc 16 [64, 0, 1533] false none)], 1, 15, 0, (desc 16 [64, 0, 1533] false none),
     by decide +kernel⟩,
   ⟨ring' [] [(desc 3 [64, 0, 0] false none)], 1, 15, 0, (desc 3 [64, 0, 0] false none), by decide +kernel⟩,
   ⟨ring' [] [(desc 2 [64, 0, 1, 0, 0xB00000] false none)], 1, 15, 0, (desc 2 [64, 0, 1, 0, 0xB00000] false none), by decide +kernel⟩,
   ⟨(ring' [(F.HIF_Q_CFG_TYPE 1 15, 1), (F.HIF_Q_CFG_STREAM 1 15, 3)] [(desc 16 [64, 0, 1534] true none)]).modHif (fun h =>
     { h with items := [⟨3, 5, 1, [7]⟩] }), (⟨3, 5, 1, [7]⟩ : RxItem), ([] : List RxItem), 1, 15, 0, (desc 16 [64, 0, 1534] true none),
     by decide +kernel⟩,
   ⟨ring' [] [(desc 3 [64, 0, 2] false none)], 1, 15, 0, (desc 3 [64, 0, 2] false none), by decide +kernel⟩,
   ⟨ring' [] [(desc 4 [64, 0, 131072, 1] false none)], 1, 15, 0, (desc 4 [64, 0, 131072, 1] false none), by decide +kernel⟩,
   ⟨ring' [] [(desc 4 [64, 0, 0, 0] false none)], 1, 15, 0, (desc 4 [64, 0, 0, 0] false none), by decide +kernel⟩,
   ⟨ring' [] [(desc 4 [64, 0, 0, 4097] false none)], 1, 15, 0, (desc 4 [64, 0, 0, 4097] false none), by decide +kernel⟩,
   ⟨ring' [] [(desc 5 [64, 0, 5] false none)], 1, 15, 0, (desc 5 [64, 0, 5] false none), by decide +kernel⟩,
   ⟨ring' [] [(desc 5 [64, 0, 4097] false none)], 1, 15, 0, (desc 5 [64, 0, 4097] false none), by decide +kernel⟩,
   ⟨ring' [] [(desc 6 [64, 0, 1514, 0] false none)], 1, 15, 0, (desc 6 [64, 0, 1514, 0] false none), by decide +kernel⟩,
   ⟨(ring' [(F.HIF_Q_CFG_TYPE 1 15, 1), (F.HIF_Q_CFG_STREAM 1 15, 3)] [(desc 16 [64, 0, 1534] true none)]).modHif (fun h =>
     { h with items := [⟨3, 5, 1, [7]⟩] }), 1, 15, 0, (desc 16 [64, 0, 1534] true none), by decide +kernel⟩,
   ⟨(st []).modHif (fun h => { h with items := [⟨3, 5, 1, [7]⟩] }), (⟨3, 5, 1, [7]⟩ : RxItem), ([] : List RxItem), by decide +kernel⟩,
   ⟨(ring' [(F.HIF_Q_CFG_TYPE 1 15, 1), (F.HIF_Q_CFG_STREAM 1 15, 3)] []).modHif (fun h => { h with items := [⟨3, 5, 1, [7]⟩] }), (⟨3, 5, 1,
     [7]⟩ : RxItem), ([] : List RxItem), 1, 15, by decide +kernel⟩⟩

/-- States and operands that meet the hypotheses of each clause of `Obligations.HostPorts`. -/
theorem witness_HostPorts :
  (∃ (s : State) (p : Fin 2), s.linkUp p = false) ∧
  (∃ (s : State) (p : Fin 2), s.hifOk ∧ s.linkUp p = true) ∧
  (∃ (s : State) (p : Fin 2), s.hifOk ∧ s.linkUp p = true) ∧
  (∃ (s : State) (p : Fin 2), s.hifOk ∧ s.linkUp p = true) ∧
  (∃ (s : State) (p : Fin 2) (v : Fin 32), s.hifOk ∧ s.linkUp p = true ∧ s.asserted p v = true ∧ bitOf (s.hp p).told v = false ∧ nth (s.hp
    p).sentAt v none = none) ∧
  (∃ (s : State) (p : Fin 2) (v : Fin 32), s.hifOk ∧ s.linkUp p = true ∧ s.asserted p v = true ∧ bitOf (s.hp p).told v = false) ∧
  (∃ (s : State) (p : Fin 2) (v : Fin 32) (w : Nat), s.hifOk ∧ bitOf (s.hp p).due v = true ∧ nth (s.hp p).sentAt v none = some w ∧ w + 1000
    * s.modUs p ≤ s.now ∧ s.linkUp p = true ∧ s.asserted p v = true ∧ s.masked p v = false) ∧
  (∃ (s : State), s.ready = true ∧ s.now % 250000 < 8 ∧ s.hif.bank = none ∧ s.snapAsked = true) ∧
  (∃ (s : State) (ws : _), s.hif.bank = some ws ∧ ws.length = 846 ∧ 20000 ≤ s.now % 250000) ∧
  (∃ (s : State) (p : Fin 2), s.linkUp p = true) ∧
  (∃ (s : State) (p : Fin 2), s.linkUp p = false) ∧
  (∃ (s : State) (p : Fin 2) (v : Fin 32) (w : Nat), s.hifOk ∧ s.linkUp p = true ∧ s.asserted p v = true ∧ bitOf (s.hp p).told v = false ∧
    nth (s.hp p).sentAt v none = some w ∧ w + 1000 * s.modUs p ≤ s.now) ∧
  (∃ (s : State) (p : Fin 2) (v : Fin 32) (w : Nat), s.hifOk ∧ s.linkUp p = true ∧ s.asserted p v = true ∧ bitOf (s.hp p).told v = false ∧
    nth (s.hp p).sentAt v none = some w ∧ s.now < w + 1000 * s.modUs p) ∧
  (∃ (s : State) (p : Fin 2) (v : Fin 32), s.hifOk ∧ s.linkUp p = false ∨ s.asserted p v = false) ∧
  (∃ (s : State) (p : Fin 2) (v : Fin 32), s.hifOk ∧ s.linkUp p = false ∨ s.asserted p v = false) ∧
  (∃ (s : State) (p : Fin 2) (v : Fin 32) (w : Nat), s.hifOk ∧ bitOf (s.hp p).due v = true ∧ nth (s.hp p).sentAt v none = some w ∧ s.reaches
    (w + 1000 * s.modUs p) ∧ s.linkUp p = true ∧ s.asserted p v = true ∧ s.masked p v = false) ∧
  (∃ (s : State), s.ready = true ∧ s.now % 10000000 < 8 ∧ s.hif.bank = none ∧ s.flag F.HIF_SNAP_CTRL_AUTO = true ∧ s.snapAsked = false) ∧
  (∃ (s : State) (ws : _), s.hif.bank = some ws ∧ ws.length = 846 ∧ s.reaches (s.now / 250000 * 250000 + 20000)) :=
  ⟨⟨st [], 1, by decide +kernel⟩,
   ⟨ring' [(F.HIF_P_STATUS_LINK 1, 1), (F.HIF_P_STATUS_DOWNS 1, 65535), (F.HIF_SEM_TAKEN 63, 1), (F.HIF_SEM_OWNER 63, 1), (F.HIF_SEM_TAKEN
     0, 1)] [(desc 0 [] true (some (0, 1, 2)))], 1, by decide +kernel⟩,
   ⟨ring' [(F.HIF_P_STATUS_LINK 1, 1), (F.HIF_P_STATUS_DOWNS 1, 65535), (F.HIF_SEM_TAKEN 63, 1), (F.HIF_SEM_OWNER 63, 1), (F.HIF_SEM_TAKEN
     0, 1)] [(desc 0 [] true (some (0, 1, 2)))], 1, by decide +kernel⟩,
   ⟨ring' [(F.HIF_P_STATUS_LINK 1, 1), (F.HIF_P_STATUS_DOWNS 1, 65535), (F.HIF_SEM_TAKEN 63, 1), (F.HIF_SEM_OWNER 63, 1), (F.HIF_SEM_TAKEN
     0, 1)] [(desc 0 [] true (some (0, 1, 2)))], 1, by decide +kernel⟩,
   ⟨(st [(F.HIF_P_STATUS_LINK 1, 1), (F.HIF_Q_CFG_VEC 1 15, 31)]).modRing 1 15 (fun r => { r with irq := true }), 1, 31, by decide +kernel⟩,
   ⟨(st [(F.HIF_P_STATUS_LINK 1, 1), (F.HIF_Q_CFG_VEC 1 15, 31)]).modRing 1 15 (fun r => { r with irq := true }), 1, 31, by decide +kernel⟩,
   ⟨let s := State.modHp ((st [(F.HIF_P_STATUS_LINK 1, 1), (F.HIF_Q_CFG_VEC 1 15, 31)]).modRing 1 15 (fun r => { r with irq := true })) 1
     (fun h => { h with table := setNth h.table 31 ⟨1, 2, false⟩, due := 2 ^ 31, sentAt := setNth h.sentAt 31 (some 0) });
     { s with tim := { s.tim with ctr := ⟨0, 20000, 0⟩ } }, 1, 31, 0, by decide +kernel⟩,
   ⟨let s := at' [] 2500000007; { s with hif := { s.hif with snapReq := some 3 } }, by decide +kernel⟩,
   ⟨let s := at' [] 2500020000; { s with hif := { s.hif with bank := some (List.range 846) } }, (List.range 846), by decide +kernel⟩,
   ⟨st [(F.HIF_P_STATUS_LINK 1, 1)], 1, by decide +kernel⟩,
   ⟨st [], 1, by decide +kernel⟩,
   ⟨let s := State.modHp ((st [(F.HIF_P_STATUS_LINK 1, 1), (F.HIF_Q_CFG_VEC 1 15, 31)]).modRing 1 15 (fun r => { r with irq := true })) 1
     (fun h => { h with sentAt := setNth h.sentAt 31 (some 0) }); { s with tim := { s.tim with ctr := ⟨0, 20000, 0⟩ } }, 1, 31, 0,
     by decide +kernel⟩,
   ⟨let s := State.modHp ((st [(F.HIF_P_STATUS_LINK 1, 1), (F.HIF_Q_CFG_VEC 1 15, 31)]).modRing 1 15 (fun r => { r with irq := true })) 1
     (fun h => { h with sentAt := setNth h.sentAt 31 (some 0) }); { s with tim := { s.tim with ctr := ⟨0, 19996, 0⟩ } }, 1, 31, 0,
     by decide +kernel⟩,
   ⟨(st [(F.HIF_Q_CFG_VEC 1 15, 31)]).modRing 1 15 (fun r => { r with irq := true }), 1, 31, by decide +kernel⟩,
   ⟨st [(F.HIF_P_STATUS_LINK 1, 1)], 1, 31, by decide +kernel⟩,
   ⟨let s := State.modHp ((st [(F.HIF_P_STATUS_LINK 1, 1), (F.HIF_Q_CFG_VEC 1 15, 31), (F.TIM_STATUS_READY, 1)]).modRing 1 15 (fun r =>
     { r with irq := true })) 1 (fun h =>
     { h with table := setNth h.table 31 ⟨1, 2, false⟩, due := 2 ^ 31, sentAt := setNth h.sentAt 31 (some 0) });
     { s with tim := { s.tim with ctr := ⟨0, 10000, 0⟩ } }, 1, 31, 0, by decide +kernel⟩,
   ⟨at' [(F.HIF_SNAP_CTRL_AUTO, 1)] 2510000007, by decide +kernel⟩,
   ⟨let s := at' [] 2500010000; { s with hif := { s.hif with bank := some (List.range 846) } }, (List.range 846), by decide +kernel⟩⟩

/-- States and operands that meet the hypotheses of each clause of `Obligations.HostSemaphores`. -/
theorem witness_HostSemaphores :
  (∃ (s : State) (n : Fin 64), s.flag (F.HIF_SEM_TAKEN n) = false) ∧
  (∃ (s : State) (n : Fin 64), s.flag (F.HIF_SEM_TAKEN n) = true) ∧
  (∃ (s : State) (p : Fin 2) (n : Fin 64) (v : Word), s.flag (F.HIF_SEM_TAKEN n) = true ∧ s.get (F.HIF_SEM_OWNER n) = p.val ∧ bitOf v.toNat
    0 = false) ∧
  (∃ (s : State) (p : Fin 2) (n : Fin 64), s.flag (F.HIF_SEM_TAKEN n) = true ∧ s.get (F.HIF_SEM_OWNER n) ≠ p.val) ∧
  (∃ (s : State) (p : Fin 2) (n : Fin 64) (v : Word), s.flag (F.HIF_SEM_TAKEN n) = true ∧ s.get (F.HIF_SEM_OWNER n) = p.val ∧ bitOf v.toNat
    0 = true) ∧
  (∃ (s : State) (n : Fin 64), s.flag (F.HIF_SEM_TAKEN n) = false) :=
  ⟨⟨st [], 63, by decide +kernel⟩,
   ⟨st [(F.HIF_SEM_TAKEN 63, 1)], 63, by decide +kernel⟩,
   ⟨st [(F.HIF_SEM_TAKEN 63, 1), (F.HIF_SEM_OWNER 63, 1)], 1, 63, 2#32, by decide +kernel⟩,
   ⟨st [(F.HIF_SEM_TAKEN 63, 1)], 1, 63, by decide +kernel⟩,
   ⟨st [(F.HIF_SEM_TAKEN 63, 1), (F.HIF_SEM_OWNER 63, 1)], 1, 63, 1#32, by decide +kernel⟩,
   ⟨st [], 63, by decide +kernel⟩⟩

/-- States and operands that meet the hypotheses of each clause of `Obligations.LanesAndLinks`. -/
theorem witness_LanesAndLinks :
  (∃ (s : State), s.flag F.RED_STATUS_CHECK = true) ∧
  (∃ (s : State) (passA : _) (passB : _), s.flag F.RED_STATUS_CHECK = true ∧ s.get F.RED_STATUS_LANES = 3 ∧ passA = !passB) ∧
  (∃ (s : State) (passA : _) (passB : _), s.flag F.RED_STATUS_CHECK = true ∧ s.get F.RED_STATUS_LANES = 3 ∧ passA = !passB) ∧
  (∃ (s : State), s.flag F.RED_STATUS_CHECK = true ∧ s.get F.RED_STATUS_LANES = 3) ∧
  (∃ (s : State), s.red.copy = true) ∧
  (∃ (s : State) (l : Fin 2), bitOf s.red.retire l = true ∧ s.get F.RED_STATUS_LANES = 3) ∧
  (∃ (s : State) (l : Fin 2), bitOf s.red.retire l = true ∧ s.get F.RED_STATUS_LANES = 3) ∧
  (∃ (s : State) (c : _), bitOf s.red.retire 0 = true ∧ s.get F.RED_STATUS_LANES = 3 ∧ s.twin = some c) ∧
  (∃ (s : State) (c : _), s.stageOpen 4 ∧ s.twin = some c ∧ s.dualLane = true ∧ s.flag F.RED_STATUS_CHECK = false ∧ s.digestsDiffer 0 =
    true) ∧
  (∃ (s : State), s.twin = none) ∧
  (∃ (s : State), s.twin = none) ∧
  (∃ (s : State), s.twin = none) ∧
  (∃ (s : State), s.twin = none) ∧
  (∃ (s : State), s.flag F.RED_STATUS_MCHECK = true) ∧
  (∃ (s : State), s.flag F.RED_STATUS_MCHECK = true) ∧
  (∃ (s : State), s.flag F.RED_STATUS_MCHECK = true) ∧
  (∃ (b : _), (b.length < 20 ∨ beAt b (b.length - 4) 4 ≠ crc32c (b.take (b.length - 4)))) ∧
  (∃ (b : _), (b.length < 20 ∨ beAt b (b.length - 4) 4 ≠ crc32c (b.take (b.length - 4)))) ∧
  (∃ (s : State) (b : _) (p : Fin 3), s.red.peers.length = 3 ∧ b.length = 236 ∧ beAt b 232 4 = crc32c (b.take 232) ∧ beAt b 0 2 = 0x4B4C ∧
    beAt b 2 1 = 3 ∧ beAt b 3 1 = p.val + 12 ∧ beAt b 4 2 = 216 ∧ p.val ≠ s.ownPos ∧ s.seen p = false ∧ (linDiff (beAt b 8 8)
    s.majTick).natAbs ≤ 1000000 ∧ ((s.link p).fseq ≠ some (beAt b 6 2) ∨ (s.link p).lastT ≠ beAt b 8 8)) ∧
  (∃ (s : State) (l : Fin 2) (up : _), s.flag (F.RED_KL_STAT_UP l) = !up) ∧
  (∃ (s : State) (l : Fin 2) (up : _), s.flag (F.RED_KL_STAT_UP l) = !up) ∧
  (∃ (s : State) (p : Fin 3), s.seen p = true ∧ (s.link p).fresh = false ∧ s.linkTmo ≤ (s.link p).miss + 1) ∧
  (∃ (s : State) (b : _) (p : Fin 3) (ty : Fin 6), s.red.peers.length = 3 ∧ 20 ≤ b.length ∧ b.length ≤ 8212 ∧ beAt b (b.length - 4) 4 =
    crc32c (b.take (b.length - 4)) ∧ beAt b 0 2 = 0x4B4C ∧ beAt b 2 1 = ty.val ∧ ty ≠ 0 ∧ beAt b 3 1 = p.val + 12 ∧ beAt b 4 2 + 20 =
    b.length ∧ p.val ≠ s.ownPos ∧ (linDiff (beAt b 8 8) s.majTick).natAbs ≤ 1000000 ∧ s.seen p = false ∨ (s.link p).fseq.all (laterFseq
    (beAt b 6 2)) = true ∧ ((s.link p).fseq ≠ some (beAt b 6 2) ∨ (s.link p).lastT ≠ beAt b 8 8)) ∧
  (∃ (s : State) (b : _) (p : Fin 3) (ty : Fin 6), s.red.peers.length = 3 ∧ 20 ≤ b.length ∧ b.length ≤ 8212 ∧ beAt b (b.length - 4) 4 =
    crc32c (b.take (b.length - 4)) ∧ beAt b 0 2 = 0x4B4C ∧ beAt b 2 1 = ty.val ∧ ty ≠ 0 ∧ beAt b 3 1 = p.val + 12 ∧ beAt b 4 2 + 20 =
    b.length ∧ p.val ≠ s.ownPos ∧ (linDiff (beAt b 8 8) s.majTick).natAbs ≤ 1000000 ∧ s.seen p = false ∨ (s.link p).fseq.all (laterFseq
    (beAt b 6 2)) = true ∧ ((s.link p).fseq ≠ some (beAt b 6 2) ∨ (s.link p).lastT ≠ beAt b 8 8)) ∧
  (∃ (s : State) (b : _) (p : Fin 3) (ty : Fin 6), s.red.peers.length = 3 ∧ 20 ≤ b.length ∧ b.length ≤ 8212 ∧ beAt b (b.length - 4) 4 =
    crc32c (b.take (b.length - 4)) ∧ beAt b 0 2 = 0x4B4C ∧ beAt b 2 1 = ty.val ∧ ty ≠ 0 ∧ beAt b 3 1 = p.val + 12 ∧ beAt b 4 2 + 20 =
    b.length ∧ p.val ≠ s.ownPos ∧ (linDiff (beAt b 8 8) s.majTick).natAbs ≤ 1000000 ∧ s.seen p = false ∨ (s.link p).fseq.all (laterFseq
    (beAt b 6 2)) = true ∧ ((s.link p).fseq ≠ some (beAt b 6 2) ∨ (s.link p).lastT ≠ beAt b 8 8)) ∧
  (∃ (s : State) (b : _) (p : Fin 3) (ty : Fin 6), s.red.peers.length = 3 ∧ 20 ≤ b.length ∧ b.length ≤ 8212 ∧ beAt b (b.length - 4) 4 =
    crc32c (b.take (b.length - 4)) ∧ beAt b 0 2 = 0x4B4C ∧ beAt b 2 1 = ty.val ∧ ty ≠ 0 ∧ beAt b 3 1 = p.val + 12 ∧ beAt b 4 2 + 20 =
    b.length ∧ p.val ≠ s.ownPos ∧ (linDiff (beAt b 8 8) s.majTick).natAbs ≤ 1000000 ∧ s.seen p = false ∨ (s.link p).fseq.all (laterFseq
    (beAt b 6 2)) = true ∧ ((s.link p).fseq ≠ some (beAt b 6 2) ∨ (s.link p).lastT ≠ beAt b 8 8)) ∧
  (∃ (s : State) (b : _) (p : Fin 3) (ty : Fin 6), s.red.peers.length = 3 ∧ 20 ≤ b.length ∧ b.length ≤ 8212 ∧ beAt b (b.length - 4) 4 =
    crc32c (b.take (b.length - 4)) ∧ beAt b 0 2 = 0x4B4C ∧ beAt b 2 1 = ty.val ∧ ty ≠ 0 ∧ beAt b 3 1 = p.val + 12 ∧ beAt b 4 2 + 20 =
    b.length ∧ p.val ≠ s.ownPos ∧ (linDiff (beAt b 8 8) s.majTick).natAbs ≤ 1000000 ∧ s.seen p = false ∨ (s.link p).fseq.all (laterFseq
    (beAt b 6 2)) = true ∧ ((s.link p).fseq ≠ some (beAt b 6 2) ∨ (s.link p).lastT ≠ beAt b 8 8)) ∧
  (∃ (s : State) (l : Fin 2) (up : _), s.flag (F.RED_KL_STAT_UP l) = up) ∧
  (∃ (s : State), s.flag F.RED_STATUS_CHECK = false ∧ s.twin = none) ∧
  (∃ (s : State) (l : Fin 2), bitOf s.red.retire l = false) ∧
  (∃ (s : State), s.red.copy = false) ∧
  (∃ (s : State), s.flag F.RED_STATUS_MCHECK = false) :=
  ⟨⟨st [(F.RED_STATUS_CHECK, 1), (F.RED_STATUS_LANES, 3), (F.RED_DOVE_TRANSIENT, 65535)], by decide +kernel⟩,
   ⟨st [(F.RED_STATUS_CHECK, 1), (F.RED_STATUS_LANES, 3)], true, false, by decide +kernel⟩,
   ⟨st [(F.RED_STATUS_CHECK, 1), (F.RED_STATUS_LANES, 3), (F.RED_STATUS_ROLE, 1)], false, true, by decide +kernel⟩,
   ⟨st [(F.RED_STATUS_CHECK, 1), (F.RED_STATUS_LANES, 3), (F.RED_STATUS_ROLE, 1), (F.RED_STATUS_INCMD, 1)], by decide +kernel⟩,
   ⟨let s := st []; { s with red := { s.red with copy := true } }, by decide +kernel⟩,
   ⟨let s := st [(F.RED_STATUS_LANES, 3)]; { s with red := { s.red with retire := 3 } }, 0, by decide +kernel⟩,
   ⟨let s := st [(F.RED_STATUS_LANES, 3)]; { s with red := { s.red with retire := 3 } }, 1, by decide +kernel⟩,
   ⟨let s :=
     { (st [(F.RED_STATUS_LANES, 3)]) with twin := some (⟨[(0x400100, 1)], (st []).frm, (st []).sig, (st []).aln, (st []).est, (st []).cle, (st []).alc, (st []).prf, []⟩ : LaneCopy) };
     { s with red := { s.red with retire := 1 } }, (⟨[(0x400100, 1)], (st []).frm, (st []).sig, (st []).aln, (st []).est, (st []).cle, (st
     []).alc, (st []).prf, []⟩ : LaneCopy), by decide +kernel⟩,
   ⟨{ (fr [(F.RED_STATUS_LANES, 3)] 200000) with twin := some ({ (fr [(F.RED_STATUS_LANES, 3)] 200000).laneCopy with words := [((F.SIG_S_VAL_VALUE 95).off, 1#32)] } : LaneCopy) },
     ({ (fr [(F.RED_STATUS_LANES, 3)] 200000).laneCopy with words := [((F.SIG_S_VAL_VALUE 95).off, 1#32)] } : LaneCopy), by decide +kernel,
     rfl, by decide +kernel, by decide +kernel, digestsDiffer_run _ _ (List.replicate 768 0#8) (List.replicate 760 0#8 ++ [1#8] ++
     List.replicate 7 0#8) 0 0 rfl (by decide +kernel) (by decide +kernel) (by decide +kernel) (by decide +kernel) (by decide +kernel)⟩,
   ⟨fr [] 1000, by decide +kernel⟩,
   ⟨fr [] 1000, by decide +kernel⟩,
   ⟨fr [] 1000, by decide +kernel⟩,
   ⟨fr [] 1000, by decide +kernel⟩,
   ⟨st [(F.RED_STATUS_MCHECK, 1)], by decide +kernel⟩,
   ⟨let s := st [(F.RED_STATUS_MCHECK, 1)]; { s with red := { s.red with move := some .named } }, by decide +kernel⟩,
   ⟨st [(F.RED_STATUS_MCHECK, 1)], by decide +kernel⟩,
   ⟨([] : List Byte), by decide +kernel⟩,
   ⟨(List.replicate 20 0#8), by decide +kernel⟩,
   ⟨st [(F.RED_CFG_POS, 1)], (let b := ([0x4B#8, 0x4C#8, 3#8, 14#8, 0#8, 216#8, 0#8, 0#8] ++ List.replicate 8 0#8 ++ [2#8, 3#8] ++
     List.replicate 214 0#8 : List Byte); b ++ beBytes 4 (crc32c b)), 2, by decide +kernel⟩,
   ⟨st [], 1, true, by decide +kernel⟩,
   ⟨st [(F.RED_KL_STAT_UP 1, 1), (F.RED_KL_STAT_DOWNS 1, 65535)], 1, false, by decide +kernel⟩,
   ⟨st [(F.RED_PEER_STAT_SEEN 2, 1), (F.RED_STATUS_PEERS, 4), (F.RED_CFG_LINKTMO, 1)], 2, by decide +kernel⟩,
   ⟨st [(F.RED_CFG_POS, 1)], (let b := ([0x4B#8, 0x4C#8, 1#8, 14#8, 0#8, 0#8, 0#8, 0#8] ++ List.replicate 8 0#8 : List Byte); b ++ beBytes 4
     (crc32c b)), 2, 1, by decide +kernel⟩,
   ⟨st [(F.RED_CFG_POS, 1)], (let b := ([0x4B#8, 0x4C#8, 2#8, 14#8, 0#8, 0#8, 0#8, 0#8] ++ List.replicate 8 0#8 : List Byte); b ++ beBytes 4
     (crc32c b)), 2, 2, by decide +kernel⟩,
   ⟨st [(F.RED_CFG_POS, 1)], (let b := ([0x4B#8, 0x4C#8, 3#8, 14#8, 0#8, 0#8, 0#8, 0#8] ++ List.replicate 8 0#8 : List Byte); b ++ beBytes 4
     (crc32c b)), 2, 3, by decide +kernel⟩,
   ⟨st [(F.RED_CFG_POS, 1)], (let b := ([0x4B#8, 0x4C#8, 4#8, 14#8, 0#8, 0#8, 0#8, 0#8] ++ List.replicate 8 0#8 : List Byte); b ++ beBytes 4
     (crc32c b)), 2, 4, by decide +kernel⟩,
   ⟨st [(F.RED_CFG_POS, 1)], (let b := ([0x4B#8, 0x4C#8, 5#8, 14#8, 0#8, 0#8, 0#8, 0#8] ++ List.replicate 8 0#8 : List Byte); b ++ beBytes 4
     (crc32c b)), 2, 5, by decide +kernel⟩,
   ⟨st [], 1, false, by decide +kernel⟩,
   ⟨st [], by decide +kernel⟩,
   ⟨st [], 1, by decide +kernel⟩,
   ⟨st [], by decide +kernel⟩,
   ⟨st [], by decide +kernel⟩⟩

/-- States and operands that meet the hypotheses of each clause of `Obligations.RolesAndAxolotl`. -/
theorem witness_RolesAndAxolotl :
  (∃ (s : State), s.red.retire = 0 ∧ s.red.move = some .claim ∧ (s.role = 0 ∨ s.role = 2)) ∧
  (∃ (s : State), s.red.retire = 0 ∧ s.red.move = some .claim ∧ (s.role = 0 ∨ s.role = 2)) ∧
  (∃ (s : State), s.red.retire = 0 ∧ s.red.move = some .monitor ∧ (s.role = 1 ∨ s.role = 2)) ∧
  (∃ (s : State), s.red.retire = 0 ∧ s.red.move = some .monitor ∧ (s.role = 1 ∨ s.role = 2)) ∧
  (∃ (s : State) (planned : _), s.red.retire = 0 ∧ s.red.move = some (.take planned) ∧ s.role = 2) ∧
  (∃ (s : State), s.red.axo.isSome = true) ∧
  (∃ (s : State), s.role = 3 ∧ s.get F.RED_STATUS_LANES ≠ 0) ∧
  (∃ (s : State), s.role ≠ 3) ∧
  (∃ (s : State) (a : _), s.red.axo = some a ∧ a.full = true ∧ s.get F.RED_AXO_PHASE ≠ 2) ∧
  (∃ (s : State) (a : _), s.red.axo = some a ∧ a.step = 10 ∧ a.full = false ∧ s.get F.RED_AXO_PHASE ≠ 2) ∧
  (∃ (s : State), s.red.axo.isSome = true ∧ s.get F.RED_AXO_COUNT = 100 ∧ s.role = 0) ∧
  (∃ (s : State) (p : Fin 4), s.eth.ports.length = 4 ∧ (s.port p).queues.length = 4 ∧ s.red.healthEth = true ∧ s.flag F.RED_HCFG_EN = true ∧
    s.ready = true ∧ s.now % 1000000000 / 250000 = 23 ∧ 230000 ≤ s.now % 250000 ∧ s.get F.RED_HCFG_NET = 1 ∧ s.ethActive 0 = some p.val) ∧
  (∃ (s : State), s.red.retire = 0 ∧ s.red.move = some .give ∧ s.role = 1) ∧
  (∃ (s : State), s.red.retire = 0 ∧ (s.red.move = some .retire ∨ s.red.move = some .named) ∧ s.role ≠ 3) ∧
  (∃ (s : State), s.red.retire = 0 ∧ (s.red.move = some .retire ∨ s.red.move = some .named) ∧ s.role ≠ 3) ∧
  (∃ (s : State), s.red.retire = 0 ∧ s.red.move = some .rejoin ∧ s.role = 3 ∧ s.get F.RED_STATUS_LANES ≠ 0) ∧
  (∃ (s : State), s.red.retire = 0 ∧ s.red.move = none ∧ s.red.superseded = false ∧ s.newFault = false ∧ s.twin = none) ∧
  (∃ (s : State), s.red.axo = none) ∧
  (∃ (s : State), s.red.axo = none ∨ s.get F.RED_AXO_COUNT ≠ 100) ∧
  (∃ (s : State), s.red.axo = none ∨ s.get F.RED_AXO_COUNT ≠ 100) ∧
  (∃ (s : State) (n : Fin 2) (p : Fin 4), s.eth.ports.length = 4 ∧ (s.port p).queues.length = 4 ∧ s.red.healthEth = true ∧ s.flag
    F.RED_HCFG_EN = true ∧ s.ready = true ∧ s.now % 1000000000 / 250000 = 23 ∧ 230000 ≤ s.now % 250000 ∨ s.reaches (s.now / 250000 * 250000
    + 230000) ∧ bitOf (if s.get F.RED_HCFG_NET = 0 then 3 else s.get F.RED_HCFG_NET) n = true ∧ s.ethActive n = some p.val) ∧
  (∃ (s : State) (n : Fin 2) (p : Fin 4), s.eth.ports.length = 4 ∧ (s.port p).queues.length = 4 ∧ s.red.healthEth = true ∧ s.flag
    F.RED_HCFG_EN = true ∧ s.ready = true ∧ s.now % 1000000000 / 250000 = 23 ∧ 230000 ≤ s.now % 250000 ∨ s.reaches (s.now / 250000 * 250000
    + 230000) ∧ bitOf (if s.get F.RED_HCFG_NET = 0 then 3 else s.get F.RED_HCFG_NET) n = true ∧ s.ethActive n = some p.val) ∧
  (∃ (s : State), s.red.healthEth = false ∨ s.flag F.RED_HCFG_EN = false) ∧
  (∃ (s : State), s.red.healthEth = false ∨ s.flag F.RED_HCFG_EN = false) :=
  ⟨⟨let s := st [(F.RED_STATUS_ROLE, 0), (F.RED_CFG_POS, 2)]; { s with red := { s.red with move := some .claim, newest := 65535 } },
    by decide +kernel⟩,
   ⟨let s := st [(F.RED_STATUS_ROLE, 2), (F.RED_CFG_POS, 2)]; { s with red := { s.red with move := some .claim, newest := 65535 } },
     by decide +kernel⟩,
   ⟨let s := st [(F.RED_STATUS_ROLE, 1), (F.RED_STATUS_INCMD, 1)]; { s with red := { s.red with move := some .monitor } },
     by decide +kernel⟩,
   ⟨let s := st [(F.RED_STATUS_ROLE, 2), (F.RED_STATUS_INCMD, 1)]; { s with red := { s.red with move := some .monitor } },
     by decide +kernel⟩,
   ⟨let s := st [(F.RED_STATUS_ROLE, 2)]; { s with red := { s.red with move := some (.take true) } }, true, by decide +kernel⟩,
   ⟨let s := st [(F.RED_AXO_PHASE, 2), (F.RED_STATUS_AXPHASE, 2), (F.RED_AXO_COUNT, 9)];
     { s with red := { s.red with axo := some ⟨3, 1, []⟩ } }, by decide +kernel⟩,
   ⟨st [(F.RED_STATUS_ROLE, 3), (F.RED_STATUS_LANES, 2)], by decide +kernel⟩,
   ⟨st [], by decide +kernel⟩,
   ⟨let s := st [(F.RED_AXO_PHASE, 1)]; { s with red := { s.red with axo := some ⟨10, 1, [(0, snapBytes)]⟩ } }, (⟨10, 1, [(0, snapBytes)]⟩ :
     Axo), rfl, Axo.full_of_ok _ (axoOk_append _ List.length_replicate) 1, by decide +kernel⟩,
   ⟨let s := st [(F.RED_AXO_PHASE, 1), (F.RED_AXO_RESTARTS, 255)]; { s with red := { s.red with axo := some ⟨10, 1, []⟩ } }, (⟨10, 1, []⟩ :
     Axo), by decide +kernel⟩,
   ⟨let s := st [(F.RED_AXO_PHASE, 2), (F.RED_AXO_COUNT, 100)]; { s with red := { s.red with axo := some ⟨11, 1, []⟩ } }, by decide +kernel⟩,
   ⟨let s := at' [(F.RED_HCFG_EN, 1), (F.RED_HCFG_NET, 1), (F.ETH_STATUS_ACTIVE 1, 1)] 5980000;
     { s with red := { s.red with healthEth := true } }, 1, by decide +kernel⟩,
   ⟨let s := st [(F.RED_STATUS_ROLE, 1), (F.RED_STATUS_INCMD, 1)]; { s with red := { s.red with move := some .give } }, by decide +kernel⟩,
   ⟨let s := st [(F.RED_STATUS_ROLE, 0), (F.RED_AXO_PHASE, 2)];
     { s with red := { s.red with move := some .retire, axo := some ⟨3, 1, []⟩ } }, by decide +kernel⟩,
   ⟨let s := st [(F.RED_STATUS_ROLE, 2), (F.RED_AXO_PHASE, 2)];
     { s with red := { s.red with move := some .named, axo := some ⟨3, 1, []⟩ } }, by decide +kernel⟩,
   ⟨let s := st [(F.RED_STATUS_ROLE, 3), (F.RED_STATUS_LANES, 2)]; { s with red := { s.red with move := some .rejoin } }, by decide +kernel⟩,
   ⟨st [(F.RED_STATUS_ROLE, 1), (F.RED_STATUS_INCMD, 1)], by decide +kernel⟩,
   ⟨let s := st []; { s with red := { s.red with join := true } }, by decide +kernel⟩,
   ⟨st [(F.RED_AXO_COUNT, 100)], by decide +kernel⟩,
   ⟨let s := st [(F.RED_AXO_PHASE, 2), (F.RED_AXO_COUNT, 99)]; { s with red := { s.red with axo := some ⟨11, 1, []⟩ } }, by decide +kernel⟩,
   ⟨let s := at' [(F.RED_HCFG_EN, 1), (F.RED_HCFG_NET, 2), (F.ETH_STATUS_ACTIVE 3, 1)] 5980000;
     { s with red := { s.red with healthEth := true } }, 1, 3, by decide +kernel⟩,
   ⟨let s := at' [(F.RED_HCFG_EN, 1), (F.RED_HCFG_NET, 0), (F.ETH_STATUS_ACTIVE 0, 1), (F.ETH_STATUS_ACTIVE 3, 1)] 5750000;
     { s with red := { s.red with healthEth := true } }, 0, 0, by decide +kernel⟩,
   ⟨let s := st []; { s with red := { s.red with healthEth := true } }, by decide +kernel⟩,
   ⟨st [(F.RED_HCFG_EN, 1)], by decide +kernel⟩⟩

/-- States and operands that meet the hypotheses of each clause of `Obligations.PowerAndReset`. -/
theorem witness_PowerAndReset :
  (∃ (s : State) (k : Fin 8), k ≠ 0 ∧ s.pwrReason k = none) ∧
  (∃ (s : State) (k : Fin 8), k ≠ 0 ∧ s.pwrReason k = none) ∧
  (∃ (s : State) (k : Fin 8), k ≠ 0 ∧ s.pwrReason k = none) ∧
  (∃ (s : State) (k : Fin 8), k ≠ 0 ∧ s.pwrReason k = none) ∧
  (∃ (s : State) (k : Fin 8) (r : Nat), k ≠ 0 ∧ s.pwrReason k = some r) ∧
  (∃ (s : State) (k : Fin 8) (r : Nat), k ≠ 0 ∧ s.pwrReason k = some r) ∧
  (∃ (s : State) (k : Nat) (src : BitVec 17), s.pwr.req = some k ∧ k < 8 ∧ s.wakeFired k src.toNat = 0) ∧
  (∃ (s : State) (k : Nat) (src : BitVec 17), s.pwr.req = some k ∧ k < 8 ∧ s.wakeFired k src.toNat = 0) ∧
  (∃ (s : State) (k : Nat) (src : BitVec 17), s.pwr.req = some k ∧ k < 8 ∧ s.wakeFired k src.toNat = 0) ∧
  (∃ (s : State) (k : Nat) (src : BitVec 17), s.pwr.req = some k ∧ k < 8 ∧ s.wakeFired k src.toNat = 0) ∧
  (∃ (s : State) (k : Nat) (src : BitVec 17), s.pwr.req = some k ∧ k < 8 ∧ s.wakeFired k src.toNat = 0) ∧
  (∃ (s : State) (k : Nat) (src : BitVec 17), s.pwr.req = some k ∧ k < 8 ∧ s.wakeFired k src.toNat = 0) ∧
  (∃ (s : State) (k : Nat) (src : BitVec 17), s.pwr.req = some k ∧ k < 8 ∧ s.wakeFired k src.toNat = 0) ∧
  (∃ (s : State) (k : Nat) (src : BitVec 17), s.pwr.req = some k ∧ k < 8 ∧ s.wakeFired k src.toNat = 0) ∧
  (∃ (s : State) (k : Nat) (src : BitVec 17), s.pwr.req = some k ∧ k < 8 ∧ s.wakeFired k src.toNat = 0) ∧
  (∃ (s : State) (k : Nat) (src : BitVec 17), s.pwr.req = some k ∧ k < 8 ∧ s.wakeFired k src.toNat = 0) ∧
  (∃ (s : State) (k : Nat) (src : BitVec 17), s.pwr.req = some k ∧ s.wakeFired k src.toNat ≠ 0) ∧
  (∃ (s : State) (src : BitVec 17), (s.powerState = 1 ∨ s.powerState = 2) ∧ s.wakeFired s.powerState src.toNat ≠ 0) ∧
  (∃ (s : State) (src : BitVec 17), (s.powerState = 1 ∨ s.powerState = 2) ∧ s.wakeFired s.powerState src.toNat ≠ 0) ∧
  (∃ (s : State) (src : BitVec 17) (pulses : Nat), 3 ≤ s.powerState ∧ (∀ x ∈ s.sld.body, x.1 ∈ rwsOffs) ∧ (s.slept pulses).wakeFired
    s.powerState src.toNat ≠ 0) ∧
  (∃ (s : State) (src : BitVec 17) (pulses : Nat), 3 ≤ s.powerState ∧ (∀ x ∈ s.sld.body, x.1 ∈ rwsOffs) ∧ (s.slept pulses).wakeFired
    s.powerState src.toNat ≠ 0) ∧
  (∃ (s : State) (src : BitVec 17) (pulses : Nat), 3 ≤ s.powerState ∧ (∀ x ∈ s.sld.body, x.1 ∈ rwsOffs) ∧ (s.slept pulses).wakeFired
    s.powerState src.toNat ≠ 0) ∧
  (∃ (s : State), (∀ x ∈ s.sld.body, x.1 ∈ rwsOffs)) ∧
  (∃ (s : State), (∀ x ∈ s.sld.body, x.1 ∈ rwsOffs)) ∧
  (∃ (s : State) (us : Nat), 10 ≤ us ∧ (∀ x ∈ s.sld.body, x.1 ∈ rwsOffs)) ∧
  (∃ (us : Nat), us < 10) ∧
  (∃ (s : State), (∀ x ∈ s.sld.body, x.1 ∈ rwsOffs)) ∧
  (∃ (key : BitVec 16), key ≠ 0xD860#16) ∧
  (∃ (s : State) (port : Fin 2), (s.get F.SAF_STATUS_STATE = 3 ∨ s.get F.SAF_STATUS_STATE = 1 ∨ s.sealOwner port = true)) ∧
  (∃ (s : State) (port : Fin 2), (s.get F.SAF_STATUS_STATE = 3 ∨ s.get F.SAF_STATUS_STATE = 1 ∨ s.sealOwner port = true)) ∧
  (∃ (s : State) (port : Fin 2), (s.get F.SAF_STATUS_STATE = 0 ∨ s.get F.SAF_STATUS_STATE = 2) ∧ s.sealOwner port = false) ∧
  (∃ (s : State) (port : Fin 2), (s.get F.SAF_STATUS_STATE = 0 ∨ s.get F.SAF_STATUS_STATE = 2) ∧ s.sealOwner port = false) ∧
  (∃ (s : State), s.get F.SAF_STATUS_STATE ≠ 3 ∧ s.frm.onceMajor.contains 250 = false ∧ bitOf s.pwr.bad 3 = false) ∧
  (∃ (s : State) (lvl : Fin 3), lvl ≠ 2 ∧ s.frm.onceMajor.contains 250 = false ∧ bitOf s.pwr.bad 4 = false) ∧
  (∃ (s : State) (lvl : Fin 3), lvl ≠ 2 ∧ s.frm.onceMajor.contains 250 = false ∧ bitOf s.pwr.bad 4 = false) ∧
  (∃ (s : State) (lvl : Fin 3), lvl ≠ 2 ∧ s.frm.onceMajor.contains 250 = false ∧ bitOf s.pwr.bad 5 = false) ∧
  (∃ (s : State) (lvl : Fin 3), lvl ≠ 2 ∧ s.frm.onceMajor.contains 250 = false ∧ bitOf s.pwr.bad 5 = false) ∧
  (∃ (s : State) (p : Fin 2), s.hifOk ∧ s.linkUp p = true ∧ s.powerState < 2) ∧
  (∃ (s : State) (p : Fin 2), s.hifOk ∧ s.linkUp p = true ∧ s.powerState < 2) ∧
  (∃ (s : State) (p : Fin 2), s.hifOk ∧ s.linkUp p = true ∧ s.powerState < 2) ∧
  (∃ (s : State), s.powerState = 1) ∧
  (∃ (s : State), s.powerState ≠ 1 ∧ s.pwr.req = some 1) ∧
  (∃ (s : State), s.powerState ≠ 1 ∧ s.pwr.req ≠ some 1) ∧
  (∃ (s : State) (k : Nat) (src : BitVec 17), s.pwr.req = some k ∧ s.wakeFired k src.toNat ≠ 0) ∧
  (∃ (s : State), s.pwr.req = none) ∧
  (∃ (s : State) (src : BitVec 17), s.pwr.req = some 3 ∧ s.wakeFired 3 src.toNat = 0) ∧
  (∃ (s : State) (src : BitVec 17) (pulses : Nat), s.powerState = 3 ∧ (s.slept pulses).wakeFired 3 src.toNat ≠ 0) ∧
  (∃ (s : State), s.powerState = 0) ∧
  (∃ (s : State), s.get F.SAF_STATUS_STATE = 3 ∧ s.frm.onceMajor.contains 250 = false ∧ bitOf s.pwr.bad 3 = false) ∧
  (∃ (s : State), bitOf s.pwr.bad 3 = true) ∧
  (∃ (s : State) (lvl : Fin 3), lvl ≠ 2 ∧ bitOf s.pwr.bad 4 = true) ∧
  (∃ (s : State) (lvl : Fin 3), lvl ≠ 2 ∧ bitOf s.pwr.bad 4 = true) ∧
  (∃ (s : State) (lvl : Fin 3), lvl ≠ 2 ∧ bitOf s.pwr.bad 5 = true) ∧
  (∃ (s : State) (lvl : Fin 3), lvl ≠ 2 ∧ bitOf s.pwr.bad 5 = true) ∧
  (∃ (s : State) (kind : Fin 3), s.hifOk ∧ kind ≠ 0 ∨ s.powerState < 2) ∧
  (∃ (s : State) (kind : Fin 3), s.hifOk ∧ kind ≠ 0 ∨ s.powerState < 2) ∧
  (∃ (s : State) (kind : Fin 3), s.hifOk ∧ kind ≠ 0 ∨ s.powerState < 2) ∧
  (∃ (s : State) (kind : Fin 3), s.hifOk ∧ kind ≠ 0 ∨ s.powerState < 2) ∧
  (∃ (s : State), 2 ≤ s.powerState) :=
  ⟨⟨st [(F.PWR_WAKEEN_PERST0, 1), (F.SEC_LC_PENDING, 7)], 1, by decide +kernel⟩,
   ⟨st [(F.PWR_WAKEEN_PERST0, 1), (F.SEC_LC_PENDING, 7)], 2, by decide +kernel⟩,
   ⟨st [(F.PWR_WAKEEN_PERST0, 1), (F.SEC_LC_PENDING, 7)], 4, by decide +kernel⟩,
   ⟨st [(F.PWR_WAKEEN_PERST0, 1), (F.SEC_LC_PENDING, 7)], 5, by decide +kernel⟩,
   ⟨st [(F.SEC_LC_PENDING, 7), (⟨0x120000C, 31, 0⟩, 0)], 1, 4, by decide +kernel⟩,
   ⟨st [(F.FRM_STATUS_RUNNING, 1)], 5, 1, by decide +kernel⟩,
   ⟨let s := st [(F.PWR_STATUS_PENDING, 1)]; { s with pwr := { s.pwr with req := some 1 } }, 1, 0#17, by decide +kernel⟩,
   ⟨let s := st [(F.PWR_STATUS_PENDING, 1)]; { s with pwr := { s.pwr with req := some 1 } }, 1, 0#17, by decide +kernel⟩,
   ⟨let s := st [(F.PWR_STATUS_PENDING, 1)]; { s with pwr := { s.pwr with req := some 2 } }, 2, 0#17, by decide +kernel⟩,
   ⟨let s := st [(F.PWR_STATUS_PENDING, 1)]; { s with pwr := { s.pwr with req := some 2 } }, 2, 0#17, by decide +kernel⟩,
   ⟨let s := st [(F.PWR_STATUS_PENDING, 1)]; { s with pwr := { s.pwr with req := some 3 } }, 3, 0#17, by decide +kernel⟩,
   ⟨let s := st [(F.PWR_STATUS_PENDING, 1)]; { s with pwr := { s.pwr with req := some 3 } }, 3, 0#17, by decide +kernel⟩,
   ⟨let s := st [(F.PWR_STATUS_PENDING, 1)]; { s with pwr := { s.pwr with req := some 4 } }, 4, 0#17, by decide +kernel⟩,
   ⟨let s := st [(F.PWR_STATUS_PENDING, 1)]; { s with pwr := { s.pwr with req := some 4 } }, 4, 0#17, by decide +kernel⟩,
   ⟨let s := st [(F.PWR_STATUS_PENDING, 1)]; { s with pwr := { s.pwr with req := some 5 } }, 5, 0#17, by decide +kernel⟩,
   ⟨let s := st [(F.PWR_STATUS_PENDING, 1)]; { s with pwr := { s.pwr with req := some 5 } }, 5, 0#17, by decide +kernel⟩,
   ⟨let s := st [(F.PWR_STATUS_PENDING, 1), (F.PWR_WAKEEN_PERST0, 1)]; { s with pwr := { s.pwr with req := some 5 } }, 5, 1#17,
     by decide +kernel⟩,
   ⟨st [(F.PWR_STATUS_STATE, 1)], 0x10000#17, by decide +kernel⟩,
   ⟨st [(F.PWR_STATUS_STATE, 2), (F.PWR_WAKEEN_PERST0, 1)], 1#17, by decide +kernel⟩,
   ⟨st [(F.PWR_STATUS_STATE, 3), (F.PWR_WAKEEN_PERST0, 1)], 1#17, 5, by decide +kernel⟩,
   ⟨st [(F.PWR_STATUS_STATE, 4), (F.PWR_WAKEEN_PERST0, 1)], 1#17, 5, by decide +kernel⟩,
   ⟨st [(F.PWR_STATUS_STATE, 5), (F.PWR_WAKEEN_PERST0, 1)], 1#17, 5, by decide +kernel⟩,
   ⟨let s := st [(F.SEC_BOOTCNT_COUNT, 4294967295)]; { s with sec := { s.sec with store := [(3, ⟨true, []⟩)] } }, by decide +kernel⟩,
   ⟨st [], by decide +kernel⟩,
   ⟨st [(F.RED_STATUS_ROLE, 2)], 10, by decide +kernel⟩,
   ⟨9, by decide +kernel⟩,
   ⟨at' [] 5, by decide +kernel⟩,
   ⟨0xD861#16, by decide +kernel⟩,
   ⟨at' [(F.SAF_STATUS_STATE, 1)] 5, 1, by decide +kernel⟩,
   ⟨at' [(F.SAF_STATUS_STATE, 3)] 5, 1, by decide +kernel⟩,
   ⟨st [(F.SAF_STATUS_STATE, 0)], 1, by decide +kernel⟩,
   ⟨st [(F.SAF_STATUS_STATE, 2)], 1, by decide +kernel⟩,
   ⟨st [(F.SAF_STATUS_STATE, 2)], by decide +kernel⟩,
   ⟨st [(F.GNS_STATUS_READY, 1)], 0, by decide +kernel⟩,
   ⟨st [(F.GNS_STATUS_READY, 1)], 1, by decide +kernel⟩,
   ⟨st [], 0, by decide +kernel⟩,
   ⟨st [], 1, by decide +kernel⟩,
   ⟨ring' [(F.HIF_P_STATUS_LINK 1, 1)] [(desc 0 [] true (some (0, 1, 2)))], 1, by decide +kernel⟩,
   ⟨ring' [(F.HIF_P_STATUS_LINK 1, 1)] [(desc 0 [] true (some (0, 1, 2)))], 1, by decide +kernel⟩,
   ⟨ring' [(F.HIF_P_STATUS_LINK 1, 1)] [(desc 0 [] true (some (0, 1, 2)))], 1, by decide +kernel⟩,
   ⟨st [(F.PWR_STATUS_STATE, 1)], by decide +kernel⟩,
   ⟨let s := st [(F.PWR_STATUS_PENDING, 1)]; { s with pwr := { s.pwr with req := some 1 } }, by decide +kernel⟩,
   ⟨st [(F.SEC_LC_PENDING, 7)], by decide +kernel⟩,
   ⟨let s := st [(F.PWR_STATUS_PENDING, 1), (F.PWR_WAKEEN_PERST0, 1)]; { s with pwr := { s.pwr with req := some 5 } }, 5, 1#17,
     by decide +kernel⟩,
   ⟨st [], by decide +kernel⟩,
   ⟨let s := st [(F.PWR_STATUS_PENDING, 1), (F.SEC_SRAM_RET_BANK, 32768)]; { s with pwr := { s.pwr with req := some 3 } }, 0#17,
     by decide +kernel⟩,
   ⟨let s := st [(F.PWR_STATUS_STATE, 3), (F.PWR_WAKEEN_PERST0, 1)];
     { s with sec := { s.sec with sram := [(List.range 16).map (fun b => ⟨if b < 5 then .retained else .off, .data⟩), (List.range 16).map (fun b => ⟨if b < 5 then .retained else .off, .data⟩)] } },
     1#17, 5, by decide +kernel⟩,
   ⟨st [(F.PWR_WAKEEN_PERST0, 1)], by decide +kernel⟩,
   ⟨st [(F.SAF_STATUS_STATE, 3), (F.SAF_STATUS_CAUSE, 2)], by decide +kernel⟩,
   ⟨let s := st []; { s with pwr := { s.pwr with bad := 8 } }, by decide +kernel⟩,
   ⟨let s := st []; { s with pwr := { s.pwr with bad := 16 } }, 0, by decide +kernel⟩,
   ⟨let s := st []; { s with pwr := { s.pwr with bad := 16 } }, 1, by decide +kernel⟩,
   ⟨let s := st []; { s with pwr := { s.pwr with bad := 32 } }, 0, by decide +kernel⟩,
   ⟨let s := st []; { s with pwr := { s.pwr with bad := 32 } }, 1, by decide +kernel⟩,
   ⟨ring' [(F.HIF_P_STATUS_LINK 1, 1), (F.HIF_SEM_TAKEN 63, 1), (F.HIF_SEM_OWNER 63, 1)] [(desc 0 [] true (some (0, 1, 2)))], 0,
     by decide +kernel⟩,
   ⟨ring' [(F.HIF_P_STATUS_LINK 1, 1), (F.HIF_SEM_TAKEN 63, 1), (F.HIF_SEM_OWNER 63, 1)] [(desc 0 [] true (some (0, 1, 2)))], 1,
     by decide +kernel⟩,
   ⟨ring' [(F.HIF_P_STATUS_LINK 1, 1), (F.HIF_SEM_TAKEN 63, 1), (F.HIF_SEM_OWNER 63, 1)] [(desc 0 [] true (some (0, 1, 2)))], 2,
     by decide +kernel⟩,
   ⟨ring' [] [(desc 0 [] true (some (0, 1, 2)))], 2, by decide +kernel⟩,
   ⟨st [(F.PWR_STATUS_STATE, 2)], by decide +kernel⟩⟩

/-- States and operands that meet the hypotheses of each clause of `Obligations.HostAccess`. -/
theorem witness_HostAccess :
  (∃ (s : State) (port : Fin 2) (off : BitVec 26) (v : BitVec 64), off.toNat / 0x100000 = 4 ∧ off.toNat % 4 = 0 ∧ s.refusal port off.toNat
    (v.toNat % 2 ^ 32) = none ∧ regBits off.toNat (fun f => f.acc == .wc) = 0 ∧ regBits off.toNat (fun f => f.acc == .rw || f.acc == .wo) ≠
    0) ∧
  (∃ (s : State) (port : Fin 2) (off : BitVec 26) (v : BitVec 64), heldBlock off.toNat = true ∧ off.toNat % 4 = 0 ∧ off.toNat ∉ [0x100000,
    0x10001C, 0x600008, 0x60000C, 0x700040] ∧ s.refusal port off.toNat (v.toNat % 2 ^ 32) = none) ∧
  (∃ (s : State) (port : Fin 2) (off : BitVec 26) (v : BitVec 64), heldBlock off.toNat = true ∧ off.toNat % 4 = 0 ∧ off.toNat ∉ [0x100000,
    0x10001C, 0x600008, 0x60000C, 0x700040] ∧ s.refusal port off.toNat (v.toNat % 2 ^ 32) = none) ∧
  (∃ (s : State) (port : Fin 2) (off : BitVec 26) (v : BitVec 64), heldBlock off.toNat = true ∧ off.toNat % 4 = 0 ∧ off.toNat ∉ [0x100000,
    0x10001C, 0x600008, 0x60000C, 0x700040] ∧ s.refusal port off.toNat (v.toNat % 2 ^ 32) = none) ∧
  (∃ (s : State) (port : Fin 2) (off : BitVec 26) (v : BitVec 64), heldBlock off.toNat = true ∧ off.toNat % 4 = 0 ∧ off.toNat ∉ [0x100000,
    0x10001C, 0x600008, 0x60000C, 0x700040] ∧ s.refusal port off.toNat (v.toNat % 2 ^ 32) = none) ∧
  (∃ (s : State) (port : Fin 2) (off : BitVec 26) (v : BitVec 64), heldBlock off.toNat = true ∧ off.toNat % 4 = 0 ∧ off.toNat ∉ [0x100000,
    0x10001C, 0x600008, 0x60000C, 0x700040] ∧ s.refusal port off.toNat (v.toNat % 2 ^ 32) = none) ∧
  (∃ (s : State) (port : Fin 2) (off : BitVec 26) (v : BitVec 64), heldBlock off.toNat = true ∧ off.toNat % 4 = 0 ∧ off.toNat ∉ [0x100000,
    0x10001C, 0x600008, 0x60000C, 0x700040] ∧ s.refusal port off.toNat (v.toNat % 2 ^ 32) = none) ∧
  (∃ (s : State) (port : Fin 2) (off : BitVec 26) (v : BitVec 64), heldBlock off.toNat = true ∧ off.toNat % 4 = 0 ∧ off.toNat ∉ [0x100000,
    0x10001C, 0x600008, 0x60000C, 0x700040] ∧ s.refusal port off.toNat (v.toNat % 2 ^ 32) = none) ∧
  (∃ (s : State) (port : Fin 2) (off : BitVec 26) (v : BitVec 64), (tickKind off.toNat).isSome = true ∧ heldBlock off.toNat = false ∧
    off.toNat % 4 = 0 ∧ off.toNat ∉ [0x300000, 0x300054] ∧ ¬(0x301000 ≤ off.toNat ∧ off.toNat < 0x302000 ∧ s.flag F.GNS_CTRL_ALLOC = true) ∧
    regBits off.toNat (fun f => f.acc == .rw || f.acc == .wo) ≠ 0 ∧ s.refusal port off.toNat (v.toNat % 2 ^ 32) = none) ∧
  (∃ (s : State) (port : Fin 2) (off : BitVec 26) (v : BitVec 64), (tickKind off.toNat).isSome = true ∧ heldBlock off.toNat = false ∧
    off.toNat % 4 = 0 ∧ off.toNat ∉ [0x300000, 0x300054] ∧ ¬(0x301000 ≤ off.toNat ∧ off.toNat < 0x302000 ∧ s.flag F.GNS_CTRL_ALLOC = true) ∧
    regBits off.toNat (fun f => f.acc == .rw || f.acc == .wo) ≠ 0 ∧ s.refusal port off.toNat (v.toNat % 2 ^ 32) = none) ∧
  (∃ (s : State) (port : Fin 2) (off : BitVec 26) (v : BitVec 64), writesPlainly off.toNat = true ∧ tickKind off.toNat = none ∧ off.toNat %
    4 = 0 ∧ s.refusal port off.toNat (v.toNat % 2 ^ 32) = none ∧ regBits off.toNat (fun f => f.acc == .rws) = 0) ∧
  (∃ (s : State) (port : Fin 2) (off : BitVec 26) (v : BitVec 64), writesPlainly off.toNat = true ∧ tickKind off.toNat = none ∧ off.toNat %
    4 = 0 ∧ s.refusal port off.toNat (v.toNat % 2 ^ 32) = none ∧ regBits off.toNat (fun f => f.acc == .rws) = 0) ∧
  (∃ (s : State) (port : Fin 2) (off : BitVec 26) (v : BitVec 64), writesPlainly off.toNat = true ∧ tickKind off.toNat = none ∧ off.toNat %
    4 = 0 ∧ s.refusal port off.toNat (v.toNat % 2 ^ 32) = none ∧ regBits off.toNat (fun f => f.acc == .rws) = 0) ∧
  (∃ (s : State) (port : Fin 2) (off : BitVec 26) (v : BitVec 64), writesPlainly off.toNat = true ∧ tickKind off.toNat = none ∧ off.toNat %
    4 = 0 ∧ s.refusal port off.toNat (v.toNat % 2 ^ 32) = none ∧ regBits off.toNat (fun f => f.acc == .rws) = 0) ∧
  (∃ (s : State) (port : Fin 2) (off : BitVec 26) (v : BitVec 64), writesPlainly off.toNat = true ∧ tickKind off.toNat = none ∧ off.toNat %
    4 = 0 ∧ s.refusal port off.toNat (v.toNat % 2 ^ 32) = none ∧ regBits off.toNat (fun f => f.acc == .rws) = 0) ∧
  (∃ (s : State) (port : Fin 2) (off : BitVec 26) (v : BitVec 64), writesPlainly off.toNat = true ∧ tickKind off.toNat = none ∧ off.toNat %
    4 = 0 ∧ s.refusal port off.toNat (v.toNat % 2 ^ 32) = none ∧ safMask off.toNat ≠ 0) ∧
  (∃ (s : State) (port : Fin 2) (i : Instr) (off : Nat) (v : Nat), cmdWrite port i = some (off, v) ∧ s.refusal port off v = none) ∧
  (∃ (s : State) (port : Fin 2) (i : Instr) (off : Nat) (v : Nat), cmdWrite port i = some (off, v) ∧ s.refusal port off v = none) ∧
  (∃ (s : State) (port : Fin 2) (i : Instr) (off : Nat) (v : Nat), cmdWrite port i = some (off, v) ∧ s.refusal port off v = none) ∧
  (∃ (s : State) (port : Fin 2) (i : Instr) (off : Nat) (v : Nat), cmdWrite port i = some (off, v) ∧ s.refusal port off v = none) ∧
  (∃ (s : State) (port : Fin 2) (i : Instr) (off : Nat) (v : Nat), cmdWrite port i = some (off, v) ∧ s.refusal port off v = none) ∧
  (∃ (s : State) (port : Fin 2) (i : Instr) (off : Nat) (v : Nat), cmdWrite port i = some (off, v) ∧ s.refusal port off v = none) ∧
  (∃ (s : State) (port : Fin 2) (i : Instr) (off : Nat) (v : Nat), cmdWrite port i = some (off, v) ∧ s.refusal port off v = none) ∧
  (∃ (s : State) (port : Fin 2) (off : BitVec 26) (v : BitVec 64), off.toNat % 4 = 0 ∧ off.toNat / 0x100000 ≠ 0x11 ∧ s.refusal port
    off.toNat (v.toNat % 2 ^ 32) = some F.GLB_ACCERR_RO_WRITE) ∧
  (∃ (s : State) (port : Fin 2) (off : BitVec 26) (v : BitVec 64), off.toNat % 4 = 0 ∧ off.toNat / 0x100000 ≠ 0x11 ∧ s.refusal port
    off.toNat (v.toNat % 2 ^ 32) = some F.GLB_ACCERR_LEVEL ∧ regBits off.toNat (fun f => f.writable && !f.expert) = 0) ∧
  (∃ (s : State) (off : BitVec 26), off.toNat % 4 = 0 ∧ off.toNat / 0x100000 = 0x11 ∧ (regAt off.toNat).isSome = true ∧ s.flag
    F.RTC_STATUS_READY = false) ∧
  (∃ (s : State) (port : Fin 2) (off : BitVec 26) (v : BitVec 64), off.toNat % 4 = 0 ∧ off.toNat / 0x100000 ≠ 0x11 ∧ s.refusal port
    off.toNat (v.toNat % 2 ^ 32) = some F.GLB_ACCERR_RO_WRITE ∧ s.word 0x24 % 64 = 0) ∧
  (∃ (s : State) (n : Fin 8), find1 s.shadow (F.CAN_STATUS_LEC n).off = none) ∧
  (∃ (s : State), find1 s.shadow 0x100008 = none) ∧
  (∃ (off : BitVec 26), off.toNat % 4 = 0 ∧ (regAt off.toNat).isSome = true ∧ readsPlainly off.toNat = true ∧ regBits off.toNat (fun f =>
    f.acc == .rc) = 0 ∧ latchCount off.toNat = 0) ∧
  (∃ (off : BitVec 26), off.toNat % 4 = 0 ∧ (regAt off.toNat).isSome = true ∧ readsPlainly off.toNat = true ∧ regBits off.toNat (fun f =>
    f.acc == .rc) = 0 ∧ latchCount off.toNat = 0) ∧
  (∃ (s : State) (port : Fin 2) (i : Instr) (off : Nat), cmdRead port i = some off ∧ (off = 0x1100000 → s.flag F.RTC_STATUS_READY = true)) ∧
  (∃ (s : State) (port : Fin 2) (i : Instr) (off : Nat), cmdRead port i = some off ∧ (off = 0x1100000 → s.flag F.RTC_STATUS_READY = true)) ∧
  (∃ (s : State) (port : Fin 2) (i : Instr) (off : Nat), cmdRead port i = some off ∧ (off = 0x1100000 → s.flag F.RTC_STATUS_READY = true)) ∧
  (∃ (s : State) (port : Fin 2) (i : Instr) (off : Nat), cmdRead port i = some off ∧ (off = 0x1100000 → s.flag F.RTC_STATUS_READY = true)) ∧
  (∃ (s : State) (off : BitVec 26), off.toNat % 4 = 0 ∧ off.toNat / 0x100000 = 0x11 ∧ (regAt off.toNat).isSome = true ∧ s.flag
    F.RTC_STATUS_READY = false) ∧
  (∃ (off : BitVec 26), off.toNat % 4 = 0 ∧ readsPlainly off.toNat = true ∧ regBits off.toNat (fun f => f.acc == .rc) ≠ 0) ∧
  (∃ (off : BitVec 26), off.toNat % 4 = 0 ∧ readsPlainly off.toNat = true ∧ regBits off.toNat (fun f => f.acc == .rc) ≠ 0) ∧
  (∃ (off : BitVec 26), off.toNat % 4 = 0 ∧ readsPlainly off.toNat = true ∧ regBits off.toNat (fun f => f.acc == .rc) ≠ 0) ∧
  (∃ (off : BitVec 26), off.toNat % 4 = 0 ∧ latchCount off.toNat ≠ 0 ∧ readsPlainly off.toNat = true) ∧
  (∃ (off : BitVec 26), off.toNat % 4 = 0 ∧ latchCount off.toNat ≠ 0 ∧ readsPlainly off.toNat = true) ∧
  (∃ (off : BitVec 26), off.toNat % 4 = 0 ∧ latchCount off.toNat ≠ 0 ∧ readsPlainly off.toNat = true) ∧
  (∃ (s : State) (off : BitVec 26), off.toNat / 0x100000 = 0x11 ∧ off.toNat ≠ 0x1100000 ∧ latchCount off.toNat ≠ 0 ∧ off.toNat % 4 = 0 ∧
    s.flag F.RTC_STATUS_READY = true) ∧
  (∃ (s : State) (port : Fin 2) (i : Instr) (off : Nat), cmdRead port i = some off ∧ (off = 0x1100000 → s.flag F.RTC_STATUS_READY = true)) :=
  ⟨⟨st [], 1, 0x400040#26, 1#64, by decide +kernel⟩,
   ⟨st [], 1, 0x401000#26, 0xFFFFFFFF00000001#64, by decide +kernel⟩,
   ⟨st [], 1, 0x500000#26, 0xFFFFFFFF00000001#64, by decide +kernel⟩,
   ⟨st [], 1, 0x700100#26, 0xFFFFFFFF00000001#64, by decide +kernel⟩,
   ⟨st [], 1, 0x90000C#26, 0xFFFFFFFF00000001#64, by decide +kernel⟩,
   ⟨st [], 1, 0x100014#26, 0xFFFFFFFF00000001#64, by decide +kernel⟩,
   ⟨st [], 1, 0x600010#26, 0xFFFFFFFF00000001#64, by decide +kernel⟩,
   ⟨st [], 1, 0x810004#26, 0xFFFFFFFF00000001#64, by decide +kernel⟩,
   ⟨st [], 1, 0x300008#26, 1#64, by decide +kernel⟩,
   ⟨st [], 1, 0xA01000#26, 1#64, by decide +kernel⟩,
   ⟨st [(F.SAF_CO_REQ_REQ, 7)], 1, 0xC0000C#26, 0xFFFFFFFF#64, by decide +kernel⟩,
   ⟨st [(F.SAF_CO_REQ_REQ, 7)], 1, 0x200060#26, 0xFFFFFFFF#64, by decide +kernel⟩,
   ⟨st [(F.SAF_CO_REQ_REQ, 7)], 1, 0xB00200#26, 0xFFFFFFFF#64, by decide +kernel⟩,
   ⟨st [(F.SAF_CO_REQ_REQ, 7)], 1, 0xA00018#26, 0xFFFFFFFF#64, by decide +kernel⟩,
   ⟨st [(F.SAF_CO_REQ_REQ, 7)], 1, 0x1000170#26, 0xFFFFFFFF#64, by decide +kernel⟩,
   ⟨st [(F.SEC_SEAL_STAT_STATE, 2), (F.SEC_SEAL_STAT_PORT, 1)], 1, 0xC00028#26, 0xF0000#64, by decide +kernel⟩,
   ⟨st [], 1, .redClaim true, 0xD00008, 3, by decide +kernel⟩,
   ⟨st [], 1, .frmHold true, 0x100000, 2, by decide +kernel⟩,
   ⟨st [], 1, .hifSemWrite 1 63 1, 0xF100FC, 1, by decide +kernel⟩,
   ⟨st [], 1, .ringEnable 1 15 0x30, 0xF021F8, 0x31, by decide +kernel⟩,
   ⟨st [], 1, .canTxreq 7 3 5, 0xA0074C, 5, by decide +kernel⟩,
   ⟨st [], 1, .sealOpen 1, 0x1000104, 1, by decide +kernel⟩,
   ⟨st [], 1, .fwWindowWrite 1 16383 7, 0x101FFFC, 7, by decide +kernel⟩,
   ⟨st [(F.GLB_ACCERR_RO_WRITE, 1)], 1, 0x100008#26, 0#64, by decide +kernel⟩,
   ⟨st [], 1, 0x800018#26, 1#64, by decide +kernel⟩,
   ⟨st [], 0x1100000#26, by decide +kernel⟩,
   ⟨st [], 1, 0x100008#26, 0#64, by decide +kernel⟩,
   ⟨st [(F.CAN_STATUS_LEC 7, 3), (F.CAN_STATUS_DLEC 7, 5), (F.CAN_STATUS_STATE 7, 2)], 7, by decide +kernel⟩,
   ⟨st [(⟨0x100008, 31, 0⟩, 5), (⟨0x10000C, 31, 0⟩, 6)], by decide +kernel⟩,
   ⟨0xC0000C#26, by decide +kernel⟩,
   ⟨0x10000C#26, by decide +kernel⟩,
   ⟨st [], 1, .timNowRead 0, 0x200020, by decide +kernel⟩,
   ⟨st [], 1, .hifSemRead 1 63, 0xF100FC, by decide +kernel⟩,
   ⟨st [], 1, .secSealLogwinRead 0 23, 0x10001DC, by decide +kernel⟩,
   ⟨st [], 1, .sigValRead 95 0, 0x4015F8, by decide +kernel⟩,
   ⟨st [], 0x1100000#26, by decide +kernel⟩,
   ⟨0xA00710#26, by decide +kernel⟩,
   ⟨0x1000A0#26, by decide +kernel⟩,
   ⟨0xF00008#26, by decide +kernel⟩,
   ⟨0x100008#26, by decide +kernel⟩,
   ⟨0x1000400#26, by decide +kernel⟩,
   ⟨0xB000C8#26, by decide +kernel⟩,
   ⟨st [(F.RTC_STATUS_READY, 1)], 0x1100014#26, by decide +kernel⟩,
   ⟨st [], 1, .timNowRead 0, 0x200020, by decide +kernel⟩⟩

/-- States and operands that meet the hypotheses of each clause of `Obligations.WidthOfAccess`. -/
theorem witness_WidthOfAccess :
  (∃ (off : BitVec 26) (size : Fin 9), (off.toNat % 4 ≠ 0 ∨ (size ≠ 4 ∧ size ≠ 8))) ∧
  (∃ (off : BitVec 26) (size : Fin 9), (off.toNat % 4 ≠ 0 ∨ (size ≠ 4 ∧ size ≠ 8))) ∧
  (∃ (off : BitVec 26) (size : Fin 9), (off.toNat % 4 ≠ 0 ∨ (size ≠ 4 ∧ size ≠ 8))) ∧
  (∃ (off : BitVec 26) (size : Fin 9), (off.toNat % 4 ≠ 0 ∨ (size ≠ 4 ∧ size ≠ 8))) ∧
  (∃ (off : BitVec 26), off.toNat % 4 = 0 ∧ off.toNat + 4 < 2 ^ 26) ∧
  (∃ (off : BitVec 26), off.toNat % 4 = 0 ∧ off.toNat + 4 < 2 ^ 26) :=
  ⟨⟨0xC0000D#26, 4, by decide +kernel⟩,
   ⟨0xC0000C#26, 2, by decide +kernel⟩,
   ⟨0xC0000D#26, 4, by decide +kernel⟩,
   ⟨0xC0000C#26, 2, by decide +kernel⟩,
   ⟨0x3FFFFF8#26, by decide +kernel⟩,
   ⟨0x3FFFFF8#26, by decide +kernel⟩⟩

/-- States and operands that meet the hypotheses of each clause of `Obligations.UnmappedOffsets`. -/
theorem witness_UnmappedOffsets :
  (∃ (off : BitVec 26), off.toNat % 4 = 0 ∧ regAt off.toNat = none) ∧
  (∃ (off : BitVec 26), off.toNat % 4 = 0 ∧ regAt off.toNat = none) ∧
  (∃ (s : State) (off : BitVec 26), off.toNat % 4 = 0 ∧ regAt off.toNat = none ∧ s.word 0x24 % 64 = 0) :=
  ⟨⟨0x3FFFFFC#26, by decide +kernel⟩,
   ⟨0x3FFFFFC#26, by decide +kernel⟩,
   ⟨st [], 0x3FFFFFC#26, by decide +kernel⟩⟩

end Sys2Proof.Tests
end

section
/-! PROOFS. What a refused host access does: the record of the access and event 0, in both lanes (R21, R23, R28, R29). -/

namespace Sys2Proof.Machine

open Sys2Proof

/-! ### From the mask of `Keeps` to the list of `Frame` -/

/-- The bit of a part in the mask of `Keeps`. -/
def Part.bit : Part → Nat
  | .regs => 0 | .shadow => 1 | .hostData => 2 | .freeCtr => 3 | .frm => 5 | .tim => 6 | .eth => 7 | .sig => 8
  | .aln => 9 | .est => 10 | .rcd => 11 | .rtc => 12 | .gns => 13 | .hif => 14 | .cle => 15 | .alc => 16
  | .prf => 17 | .can => 18 | .red => 19 | .saf => 20 | .sld => 21 | .sec => 22 | .pwr => 23 | .twin => 24

theorem Part.mem_all (p : Part) : p ∈ Part.all := by
  cases p <;> decide

/-- A part whose bit is outside the mask is the same. -/
theorem Keeps.same {m : Nat} {s t : State} (h : Keeps m s t) (p : Part) (hp : m.testBit p.bit = false) : p.same s t := by
  cases p with
  | regs => exact h.regsSame hp
  | shadow => exact h.shadowSame hp
  | hostData => exact h.hostDataSame hp
  | freeCtr => exact h.freeCtrSame hp
  | frm => exact h.frmSame hp
  | tim => exact h.timSame hp
  | eth => exact h.ethSame hp
  | sig => exact h.sigSame hp
  | aln => exact h.alnSame hp
  | est => exact h.estSame hp
  | rcd => exact h.rcdSame hp
  | rtc => exact h.rtcSame hp
  | gns => exact h.gnsSame hp
  | hif => exact h.hifSame hp
  | cle => exact h.cleSame hp
  | alc => exact h.alcSame hp
  | prf => exact h.prfSame hp
  | can => exact h.canSame hp
  | red => exact h.redSame hp
  | saf => exact h.safSame hp
  | sld => exact h.sldSame hp
  | sec => exact h.secSame hp
  | pwr => exact h.pwrSame hp
  | twin => exact h.twinSame hp

/-- A mask within a list of parts gives the frame of the list. -/
theorem Keeps.frame {m : Nat} {may : List Part} {s t : State} (h : Keeps m s t)
    (hm : ∀ p ∈ Part.all, p ∈ may ∨ m.testBit p.bit = false) : Frame may s t :=
  ⟨h.pending, fun p hp => h.same p ((hm p p.mem_all).resolve_left hp)⟩

/-! ### A flag set with its event -/

theorem State.setRaise_word (s : State) (f : Fld) (e off : Nat) (he : e < 256) (hev : eventWord off = false) (hf : off ≠ f.off) :
    (s.setRaise f e).regs.word off = s.regs.word off := by
  unfold State.setRaise
  split
  · rfl
  · rw [State.raise_word _ _ _ he hev, State.put_regs, RegFile.word_put_ne _ _ _ _ hf]

theorem State.setRaise_get_other (s : State) (f g : Fld) (e : Nat) (he : e < 256) (hev : eventWord g.off = false) (hf : f.ok)
    (ha : f.apart g) : (s.setRaise f e).get g = s.get g := by
  unfold State.setRaise
  split
  · rfl
  · unfold State.get
    rw [State.raise_get _ _ _ he hev, State.put_regs, RegFile.get_put_other _ _ _ _ hf ha]

theorem State.setRaise_flag (s : State) (f : Fld) (e : Nat) (he : e < 256) (hev : eventWord f.off = false) (hf : f.ok) :
    (s.setRaise f e).flag f = true := by
  unfold State.setRaise
  split
  · assumption
  · have hw : 1 < 2 ^ (f.hi + 1 - f.lo) := Nat.one_lt_two_pow (by have := hf.1; omega)
    unfold State.flag State.get
    rw [State.raise_get _ _ _ he hev, State.put_regs, RegFile.get_put_same _ _ _ hf, Nat.mod_eq_of_lt hw]
    rfl

theorem State.setRaise_pended (s : State) (f : Fld) (e : Nat) (h : s.flag f = false) : (s.setRaise f e).pended e := by
  unfold State.setRaise
  rw [h, if_neg Bool.false_ne_true]
  exact State.raise_pended _ _

/-! ### The record of a refused access -/

/-- A bit of GLB_ACCERR[5:0]. -/
abbrev Fld.accFlag (f : Fld) : Prop := f.off = 0x24 ∧ f.lo = f.hi ∧ f.hi < 6

theorem Fld.accFlag.ok {f : Fld} (h : f.accFlag) : f.ok := by
  obtain ⟨-, hlo, hhi⟩ := h
  exact ⟨by omega, by omega⟩

/-- A bit of GLB_ACCERR[5:0] shares no bit with PORT. -/
theorem Fld.accFlag.apart_port {f : Fld} (h : f.accFlag) : F.GLB_ACCERR_PORT.apart f := by
  obtain ⟨-, -, hhi⟩ := h
  exact .inr (.inl (by change f.hi < 8; omega))

theorem Fld.accFlag.port_apart {f : Fld} (h : f.accFlag) : f.apart F.GLB_ACCERR_PORT := by
  obtain ⟨-, -, hhi⟩ := h
  exact .inr (.inr (by change f.hi < 8; omega))

/-- While the bits of GLB_ACCERR[5:0] are all zero, so is each of them. -/
theorem State.flag_of_accerr_zero {s : State} {f : Fld} (hf : f.accFlag) (h : s.word 0x24 % 64 = 0) : s.flag f = false := by
  obtain ⟨hoff, hlo, hhi⟩ := hf
  have hbit : (s.word 0x24).testBit f.hi = false := by
    have := Nat.testBit_mod_two_pow (s.word 0x24) 6 f.hi
    rw [show 2 ^ 6 = 64 from rfl, h] at this
    simpa [hhi] using this.symm
  have hget : s.get f = s.word 0x24 / 2 ^ f.hi % 2 := by
    unfold State.get RegFile.get bitsOf
    rw [hoff, hlo, Nat.add_sub_cancel_left]
    rfl
  rw [Nat.testBit_eq_decide_div_mod_eq, decide_eq_false_iff_not] at hbit
  unfold State.flag
  rw [hget, show s.word 0x24 / 2 ^ f.hi % 2 = 0 by omega]
  rfl

/-- A refused access is recorded in GLB_ACCERR and GLB_ACCADDR only, and raises an event (R28). -/
theorem State.accErr_onlyWordsEv (s : State) {f : Fld} (port off : Nat) (hf : f.off = 0x24) :
    OnlyWordsEv [F.GLB_ACCERR_WIDTH.off, F.GLB_ACCADDR_OFFSET.off] s (s.accErr f port off) := by
  intro w hev hw
  simp only [List.mem_cons, List.not_mem_nil, or_false, not_or] at hw
  obtain ⟨herr, haddr⟩ := hw
  unfold State.accErr
  rw [State.setRaise_word _ _ _ _ (by decide) hev (by rw [hf]; exact herr)]
  cases s.word 0x24 % 64 == 0 with
  | false => rfl
  | true =>
    rw [State.when_true, State.put_regs, RegFile.word_put_ne _ _ _ _ herr, State.put_regs, RegFile.word_put_ne _ _ _ _ haddr]

theorem State.accErr_flag (s : State) {f : Fld} (port off : Nat) (hf : f.accFlag) : (s.accErr f port off).flag f = true :=
  State.setRaise_flag _ _ _ (by decide) (by rw [hf.1]; decide) hf.ok

theorem State.accErr_eq_of_first (s : State) (f : Fld) (port off : Nat) (h : s.word 0x24 % 64 = 0) :
    s.accErr f port off = ((s.put F.GLB_ACCADDR_OFFSET off).put F.GLB_ACCERR_PORT port).setRaise f 0 := by
  unfold State.accErr
  rw [h]
  rfl

/-- The first refused access since the bits were all zero is recorded (R29): its port, its offset and event 0. -/
theorem State.accErr_first (s : State) {f : Fld} (port off : Nat) (hf : f.accFlag) (h : s.word 0x24 % 64 = 0) :
    (s.accErr f port off).get F.GLB_ACCERR_PORT = port % 2 ∧ (s.accErr f port off).get F.GLB_ACCADDR_OFFSET = off % 2 ^ 32 ∧
      (s.accErr f port off).pended 0 := by
  have hflag := State.flag_of_accerr_zero hf h
  have hok := hf.ok
  have haddr : f.apart F.GLB_ACCADDR_OFFSET := .inl (by rw [hf.1]; decide)
  rw [State.accErr_eq_of_first _ _ _ _ h]
  refine ⟨?_, ?_, State.setRaise_pended _ _ _ ?_⟩
  · rw [State.setRaise_get_other _ _ _ _ (by decide) (by decide) hok hf.port_apart]
    exact RegFile.get_put_same _ _ _ (by decide)
  · rw [State.setRaise_get_other _ _ _ _ (by decide) (by decide) hok haddr]
    exact (RegFile.get_put_off _ _ _ _ (by decide)).trans (RegFile.get_put_same _ _ _ (by decide))
  · have hget : ((s.put F.GLB_ACCADDR_OFFSET off).put F.GLB_ACCERR_PORT port).get f = s.get f :=
      (RegFile.get_put_other _ _ _ _ (by decide) hf.apart_port).trans
        (RegFile.get_put_off _ _ _ _ (by rw [hf.1]; decide))
    unfold State.flag
    rw [hget]
    exact hflag

/-! ### A refused access in both lanes -/

/-- What the register file alone decides is, after a command in both lanes, what it is in Lane A. -/
@[simp] theorem State.lanes_get (g : State → State) (s : State) (f : Fld) : (s.lanes g).get f = (g s).get f :=
  congrArg (·.get f) (State.lanes_regs g s)

@[simp] theorem State.lanes_flag (g : State → State) (s : State) (f : Fld) : (s.lanes g).flag f = (g s).flag f := by
  unfold State.flag
  rw [State.lanes_get]

@[simp] theorem State.lanes_pended (g : State → State) (s : State) (e : Nat) : (s.lanes g).pended e ↔ (g s).pended e := by
  simp only [State.pended, State.bit, State.lanes_get]

theorem State.lanes_onlyWordsEv {l : List Nat} {g : State → State} {s : State} (h : OnlyWordsEv l s (g s)) : OnlyWordsEv l s (s.lanes g) := by
  intro off hev hoff
  rw [State.lanes_regs]
  exact h off hev hoff

/-- A refused read: the access is recorded and the read returns 0 (R21, R23). -/
def State.refuseRead (f : Fld) (port off : Nat) (s : State) : State := { s.accErr f port off with hostData := 0 }

/-- A write refused whole does nothing but record the access. -/
theorem State.lanes_accErr_post (s : State) {f : Fld} (port off : Nat) (hf : f.accFlag) :
    (s.lanes (·.accErr f port off)).flag f = true ∧ Frame [.regs, .frm, .rcd, .twin] s (s.lanes (·.accErr f port off)) ∧
      OnlyWordsEv [F.GLB_ACCERR_WIDTH.off, F.GLB_ACCADDR_OFFSET.off] s (s.lanes (·.accErr f port off)) := by
  refine ⟨?_, ?_, State.lanes_onlyWordsEv (State.accErr_onlyWordsEv s port off hf.1)⟩
  · rw [State.lanes_flag, State.accErr_flag s port off hf]
  · have hk : Keeps 16779297 s (s.lanes (·.accErr f port off)) :=
      State.lanes_keep Keeps.refl rfl fun _ hx => State.accErr_keep hx rfl
    exact hk.frame (by decide)

/-- A refused read does nothing but record the access and return 0. -/
theorem State.lanes_refuseRead_post (s : State) {f : Fld} (port off : Nat) (hf : f.accFlag) :
    (s.lanes (State.refuseRead f port off)).hostData = 0 ∧ (s.lanes (State.refuseRead f port off)).flag f = true ∧
      Frame [.regs, .hostData, .frm, .rcd, .twin] s (s.lanes (State.refuseRead f port off)) ∧
      OnlyWordsEv [F.GLB_ACCERR_WIDTH.off, F.GLB_ACCADDR_OFFSET.off] s (s.lanes (State.refuseRead f port off)) := by
  refine ⟨State.lanes_hostData _ s, ?_, ?_, State.lanes_onlyWordsEv (g := State.refuseRead f port off) (State.accErr_onlyWordsEv s port off hf.1)⟩
  · rw [State.lanes_flag]
    exact State.accErr_flag s port off hf
  · have hk : Keeps 16779301 s (s.lanes (State.refuseRead f port off)) :=
      State.lanes_keep Keeps.refl rfl fun _ hx => Keeps.hostData_keep (State.accErr_keep hx rfl) rfl
    exact hk.frame (by decide)

/-! ### Which accesses are refused, and what a 64-bit access is -/

theorem State.write32_unmapped (s : State) (port off v : Nat) (h : regAt off = none) :
    s.write32 port off v = s.accErr F.GLB_ACCERR_UNMAPPED port off := by
  have hr : s.refusal port off v = some F.GLB_ACCERR_UNMAPPED := by
    unfold State.refusal
    rw [h]
  unfold State.write32
  rw [h, hr, if_neg (by simp)]
  rfl

theorem State.read32_unmapped (s : State) (port off : Nat) (h : regAt off = none) :
    s.read32 port off = State.refuseRead F.GLB_ACCERR_UNMAPPED port off s := by
  unfold State.read32
  rw [h]
  rfl

theorem State.hostWrite_four (s : State) (port off v : Nat) (h : off % 4 = 0) :
    s.hostWrite port off 4 v = s.write32 port off (v % 2 ^ 32) := by
  unfold State.hostWrite
  rw [if_neg (by omega), if_pos rfl]

theorem State.hostRead_four (s : State) (port off : Nat) (h : off % 4 = 0) : s.hostRead port off 4 = s.read32 port off := by
  unfold State.hostRead
  rw [if_neg (by omega), if_pos rfl]

/-- A host write that is not an aligned one of 64 bits is one write in each lane. -/
theorem exec_hostRegisterWrite_once (port : Fin 2) (off : BitVec 26) (size : Fin 9) (v : BitVec 64) (s : State)
    (h : ¬(off.toNat % 4 = 0 ∧ size = 8)) :
    exec (.hostRegisterWrite port off size v) s = .next (s.lanes (·.hostWrite port off.toNat size v.toNat)) :=
  congrArg Host.Outcome.next (if_neg h)

/-- A host read of BAR0 that is not an aligned one of 64 bits is one read in each lane. -/
theorem exec_hostReadUnmapped_once (port : Fin 2) (off : BitVec 26) (size : Fin 9) (s : State)
    (h : ¬(off.toNat % 4 = 0 ∧ size = 8)) :
    exec (.hostReadUnmapped port false off size) s = .next (s.lanes (·.hostRead port off.toNat size)) :=
  congrArg Host.Outcome.next (if_neg fun hd : off.toNat % 4 = 0 ∧ (size : Nat) = 8 => h ⟨hd.1, Fin.ext hd.2⟩)

theorem not_double_four {off : Nat} : ¬(off % 4 = 0 ∧ (4 : Fin 9) = 8) := fun ⟨_, h8⟩ => absurd h8 (by decide)

/-- An access that R21 does not perform is not one of 64 bits. -/
theorem not_double_of_width {off : Nat} {size : Fin 9} (h : off % 4 ≠ 0 ∨ (size ≠ 4 ∧ size ≠ 8)) : ¬(off % 4 = 0 ∧ size = 8) := by
  tauto

theorem size_val_ne_of_width {off : Nat} {size : Fin 9} (h : off % 4 ≠ 0 ∨ (size ≠ 4 ∧ size ≠ 8)) :
    off % 4 ≠ 0 ∨ ((size : Nat) ≠ 4 ∧ (size : Nat) ≠ 8) :=
  h.imp_right fun ⟨h4, h8⟩ => ⟨fun e => h4 (Fin.ext e), fun e => h8 (Fin.ext e)⟩

/-- A write that is not an aligned one of 32 or 64 bits is refused (R21). -/
theorem exec_hostRegisterWrite_width (port : Fin 2) (off : BitVec 26) (size : Fin 9) (v : BitVec 64) (s : State)
    (h : off.toNat % 4 ≠ 0 ∨ (size ≠ 4 ∧ size ≠ 8)) :
    exec (.hostRegisterWrite port off size v) s = .next (s.lanes (·.accErr F.GLB_ACCERR_WIDTH port off.toNat)) := by
  rw [exec_hostRegisterWrite_once _ _ _ _ _ (not_double_of_width h)]
  unfold State.hostWrite
  simp only [if_pos (size_val_ne_of_width h)]

/-- A read that is not an aligned one of 32 or 64 bits is refused (R21). -/
theorem exec_hostReadUnmapped_width (port : Fin 2) (off : BitVec 26) (size : Fin 9) (s : State)
    (h : off.toNat % 4 ≠ 0 ∨ (size ≠ 4 ∧ size ≠ 8)) :
    exec (.hostReadUnmapped port false off size) s = .next (s.lanes (State.refuseRead F.GLB_ACCERR_WIDTH port off.toNat)) := by
  rw [exec_hostReadUnmapped_once _ _ _ _ (not_double_of_width h)]
  unfold State.hostRead
  simp only [if_pos (size_val_ne_of_width h)]
  rfl

/-- A write of an unmapped offset is refused (R23). -/
theorem exec_hostRegisterWrite_unmapped (port : Fin 2) (off : BitVec 26) (v : BitVec 64) (s : State) (ha : off.toNat % 4 = 0)
    (h : regAt off.toNat = none) :
    exec (.hostRegisterWrite port off 4 v) s = .next (s.lanes (·.accErr F.GLB_ACCERR_UNMAPPED port off.toNat)) := by
  have hw (x : State) : x.hostWrite port off.toNat (4 : Fin 9) v.toNat = x.accErr F.GLB_ACCERR_UNMAPPED port off.toNat :=
    (x.hostWrite_four _ _ _ ha).trans (x.write32_unmapped _ _ _ h)
  rw [exec_hostRegisterWrite_once _ _ _ _ _ not_double_four]
  simp only [hw]

/-- A read of an unmapped offset is refused (R23). -/
theorem exec_hostReadUnmapped_unmapped (port : Fin 2) (off : BitVec 26) (s : State) (ha : off.toNat % 4 = 0)
    (h : regAt off.toNat = none) :
    exec (.hostReadUnmapped port false off 4) s = .next (s.lanes (State.refuseRead F.GLB_ACCERR_UNMAPPED port off.toNat)) := by
  have hr (x : State) : x.hostRead port off.toNat (4 : Fin 9) = State.refuseRead F.GLB_ACCERR_UNMAPPED port off.toNat x :=
    (x.hostRead_four _ _ ha).trans (x.read32_unmapped _ _ h)
  rw [exec_hostReadUnmapped_once _ _ _ _ not_double_four]
  simp only [hr]

theorem toNat_add_four {off : BitVec 26} (h : off.toNat + 4 < 2 ^ 26) : (off + 4#26).toNat = off.toNat + 4 := by
  bv_omega

/-- An aligned 64-bit write is the 32-bit write of the low word, then that of the high word (R22). -/
theorem exec_hostRegisterWrite_eight (port : Fin 2) (off : BitVec 26) (v : BitVec 64) (s : State) (ha : off.toNat % 4 = 0)
    (hr : off.toNat + 4 < 2 ^ 26) : ∃ t, exec (.hostRegisterWrite port off 4 v) s = .next t ∧
      exec (.hostRegisterWrite port off 8 v) s = exec (.hostRegisterWrite port (off + 4#26) 4 (v >>> 32)) t := by
  refine ⟨_, exec_hostRegisterWrite_once _ _ _ _ _ not_double_four, ?_⟩
  rw [exec_hostRegisterWrite_once port (off + 4#26) _ _ _ not_double_four, toNat_add_four hr, BitVec.toNat_ushiftRight,
    Nat.shiftRight_eq_div_pow]
  exact congrArg Host.Outcome.next (if_pos ⟨ha, rfl⟩)

/-- An aligned 64-bit read is the 32-bit read of the low word, then that of the high word (R22). -/
theorem exec_hostReadUnmapped_eight (port : Fin 2) (off : BitVec 26) (s : State) (ha : off.toNat % 4 = 0)
    (hr : off.toNat + 4 < 2 ^ 26) : ∃ t u, exec (.hostReadUnmapped port false off 4) s = .next t ∧
      exec (.hostReadUnmapped port false (off + 4#26) 4) t = .next u ∧
      exec (.hostReadUnmapped port false off 8) s = .next { u with hostData := t.hostData + 2 ^ 32 * u.hostData } := by
  refine ⟨_, _, exec_hostReadUnmapped_once _ _ _ _ not_double_four, exec_hostReadUnmapped_once _ _ _ _ not_double_four, ?_⟩
  rw [toNat_add_four hr]
  exact congrArg Host.Outcome.next (if_pos (show off.toNat % 4 = 0 ∧ 8 = 8 from ⟨ha, rfl⟩))

/-! ### The statements -/

/-- Settles O59: an access that R21 refuses only leaves its record, and one of 64 bits is two of 32 bits (R22). -/
theorem widthOfAccess : Obligations.WidthOfAccess :=
  ⟨fun s port off size v h => ⟨_, exec_hostRegisterWrite_width port off size v s h, s.lanes_accErr_post port off.toNat (by decide)⟩,
   fun s port off size h => ⟨_, exec_hostReadUnmapped_width port off size s h, s.lanes_refuseRead_post port off.toNat (by decide)⟩,
   fun s port off v => exec_hostRegisterWrite_eight port off v s,
   fun s port off => exec_hostReadUnmapped_eight port off s⟩

/-- Settles O60: an access of an unmapped offset only leaves its record, and the first one its port, its offset and event 0. -/
theorem unmappedOffsets : Obligations.UnmappedOffsets := by
  refine ⟨fun s port off ha h => ⟨_, exec_hostReadUnmapped_unmapped port off s ha h, s.lanes_refuseRead_post port off.toNat (by decide)⟩,
    fun s port off v ha h => ⟨_, exec_hostRegisterWrite_unmapped port off v s ha h, s.lanes_accErr_post port off.toNat (by decide)⟩,
    fun s port off ha h hfirst => ⟨_, exec_hostReadUnmapped_unmapped port off s ha h, ?_⟩⟩
  obtain ⟨hport, haddr, hpend⟩ := s.accErr_first (f := F.GLB_ACCERR_UNMAPPED) port off.toNat (by decide) hfirst
  have hoff : off.toNat % 2 ^ 32 = off.toNat := Nat.mod_eq_of_lt (by have := off.isLt; omega)
  rw [State.lanes_get, State.lanes_get, State.lanes_pended]
  exact ⟨hport.trans (Nat.mod_eq_of_lt port.isLt), haddr.trans hoff, hpend⟩

end Sys2Proof.Machine
end

section
/-! PROOFS. The snapshot of the recorder: where the counter stands when it is taken (R507), and the records it forms, in their order (R509). -/

namespace Sys2Proof.Machine

open Sys2Proof

/-! ### Running the counter inside a minor frame -/

/-- The clamp of FINE keeps the increment of an edge near 4 ns (R76). -/
theorem State.edgeStep_bounds (s : State) : 0 < s.edgeStep ∧ s.edgeStep < 5 * 2 ^ 32 := by
  unfold State.edgeStep clampFine clampI fineMax
  omega

/-- Inside the range of the counter, a number of 2^-32 ns is held as it is, in whole nanoseconds. -/
theorem Counter.ofFine_total {n : Nat} (h : n / 2 ^ 32 / 1000000000 < 2 ^ 48) : (Counter.ofFine n).total = n / 2 ^ 32 := by
  have htotal : (Counter.ofFine n).total = n / 2 ^ 32 / 1000000000 % 2 ^ 48 * 1000000000 + n / 2 ^ 32 % 1000000000 := rfl
  rw [htotal, Nat.mod_eq_of_lt h, Nat.div_add_mod']

theorem State.edges_now (s : State) (n : Nat) : (s.edges n).now = (Counter.ofFine (s.tim.ctr.fine + n * s.edgeStep)).total := rfl

/-- The edges counted by `edgesTo` bring the counter to the instant, and less than one edge beyond it. -/
theorem State.edgesTo_bounds (s : State) {target : Nat} (h : s.tim.ctr.fine ≤ target) :
    target ≤ s.tim.ctr.fine + s.edgesTo target * s.edgeStep ∧
      s.tim.ctr.fine + s.edgesTo target * s.edgeStep < target + s.edgeStep := by
  have hpos := s.edgeStep_bounds.1
  have hdiv := Nat.div_add_mod' (target - s.tim.ctr.fine + s.edgeStep - 1) s.edgeStep
  have hmod := Nat.mod_lt (target - s.tim.ctr.fine + s.edgeStep - 1) hpos
  unfold State.edgesTo
  omega

/-- An instant that lies an edge or more before another is reached by fewer edges. -/
theorem State.edgesTo_lt (s : State) {t u : Nat} (ht : s.tim.ctr.fine ≤ t) (hu : t + s.edgeStep ≤ u) : s.edgesTo t < s.edgesTo u := by
  have hlt := (s.edgesTo_bounds ht).2
  have hle := (s.edgesTo_bounds (Nat.le_trans ht (Nat.le_of_add_right_le hu))).1
  exact Nat.lt_of_mul_lt_mul_right (a := s.edgeStep) (by omega)

/-- An instant not ahead leaves the counter where it stands. -/
theorem State.runInside_of_le {s : State} {t : Nat} (h : t ≤ s.now) : s.runInside t = s := by
  unfold State.runInside
  simp only [if_neg (Nat.not_lt.mpr h), ite_self]

/-- Nothing but the edges to the instant pass where the instant lies an edge or more before the next tick. -/
theorem State.runInside_of_lt {s : State} {t : Nat} (hr : s.reaches t) (h : s.now < t) :
    s.runInside t = s.edges (s.edgesTo (t * 2 ^ 32)) := by
  obtain ⟨hready, ⟨-, -, hsub⟩, hgrid⟩ := hr
  have hstep := s.edgeStep_bounds.2
  have hfine : s.tim.ctr.fine ≤ t * 2 ^ 32 := by
    unfold Counter.fine
    change s.tim.ctr.total < t at h
    omega
  have hlt : s.edgesTo (t * 2 ^ 32) < s.edgesTo (s.nextGrid 250000 * 2 ^ 32) := s.edgesTo_lt hfine (by omega)
  unfold State.runInside
  rw [if_pos hready, if_pos h, Nat.min_eq_right (by omega)]

/-- The next value of a grid lies at most one step of the grid ahead (R38). -/
theorem State.nextGrid_le (s : State) (m : Nat) : s.nextGrid m ≤ s.now + m := by
  unfold State.nextGrid
  rw [Nat.add_mul, Nat.one_mul]
  exact Nat.add_le_add_right (Nat.div_mul_le_self _ _) m

/-- An instant the counter may run to inside the minor frame is reached. -/
theorem State.le_runInside_now {s : State} {t : Nat} (hr : s.reaches t) : t ≤ (s.runInside t).now := by
  rcases Nat.lt_or_ge s.now t with h | h
  · have hrun := State.runInside_of_lt hr h
    obtain ⟨-, ⟨hsec, hns, hsub⟩, hgrid⟩ := hr
    have hstep := s.edgeStep_bounds.2
    have hnow : s.now = s.tim.ctr.sec * 1000000000 + s.tim.ctr.ns := rfl
    have hfine : s.tim.ctr.fine = s.now * 2 ^ 32 + s.tim.ctr.sub := rfl
    obtain ⟨hle, hlt⟩ := s.edgesTo_bounds (target := t * 2 ^ 32) (by omega)
    have hnext := s.nextGrid_le 250000
    rw [hrun, State.edges_now, Counter.ofFine_total (by omega)]
    omega
  · rwa [State.runInside_of_le h]

/-! ### One record after the other -/

/-- What a record takes from its trigger: SRC, PROF and TIME (R510). -/
def BurstRec.origin (r : BurstRec) : Nat × Nat × Nat × Nat := (r.src, r.prof, r.sec, r.ns)

/-- What a trigger gives its record: event number, profile and the instant of the raising (R510). -/
def Trig.origin (g : Trig) : Nat × Nat × Nat × Nat := (g.ev, g.prof, g.sec, g.ns)

/-- From `s` to `t`, records with the given origins joined the burst buffer behind those that stood in it; the waiting triggers are
the same. -/
def FormsRecords (origins : List (Nat × Nat × Nat × Nat)) (s t : State) : Prop :=
  t.rcd.trigs = s.rcd.trigs ∧ ∃ rs : List BurstRec, t.rcd.burst = s.rcd.burst ++ rs ∧ rs.map BurstRec.origin = origins ∧
    ∀ r ∈ rs, r.copy = false

theorem FormsRecords.refl (s : State) : FormsRecords [] s s :=
  ⟨rfl, [], (List.append_nil _).symm, rfl, fun _ h => absurd h List.not_mem_nil⟩

theorem FormsRecords.trans {o₁ o₂ : List (Nat × Nat × Nat × Nat)} {s t u : State} (h₁ : FormsRecords o₁ s t) (h₂ : FormsRecords o₂ t u) :
    FormsRecords (o₁ ++ o₂) s u := by
  obtain ⟨htrigs₁, rs₁, hburst₁, horig₁, hcopy₁⟩ := h₁
  obtain ⟨htrigs₂, rs₂, hburst₂, horig₂, hcopy₂⟩ := h₂
  refine ⟨htrigs₂.trans htrigs₁, rs₁ ++ rs₂, ?_, ?_, fun r hr => ?_⟩
  · rw [hburst₂, hburst₁, List.append_assoc]
  · rw [List.map_append, horig₁, horig₂]
  · exact (List.mem_append.mp hr).elim (hcopy₁ r) (hcopy₂ r)

/-- The records formed stand behind the first of them. -/
theorem FormsRecords.origins_drop {o : List (Nat × Nat × Nat × Nat)} {s t : State} (h : FormsRecords o s t) :
    (t.rcd.burst.drop s.rcd.burst.length).map BurstRec.origin = o := by
  obtain ⟨-, rs, hburst, horig, -⟩ := h
  rw [hburst, List.drop_left, horig]

/-- Each record formed takes one place of the buffer (R512). -/
theorem FormsRecords.recBuf {o : List (Nat × Nat × Nat × Nat)} {s t : State} (h : FormsRecords o s t) : t.recBuf = s.recBuf + o.length := by
  obtain ⟨-, rs, hburst, horig, hcopy⟩ := h
  have hall : rs.filter (fun r => !r.copy) = rs := List.filter_eq_self.mpr fun r hr => by rw [hcopy r hr]; rfl
  unfold State.recBuf
  rw [hburst, List.filter_append, List.length_append, hall, ← horig, List.length_map]

/-- With room in the buffer, a record is formed (R511). -/
theorem State.recForm_forms {s : State} {src prof flags sec ns lag : Nat} {snap : List Nat} (hroom : s.recBuf < 64)
    (hcopy : bitOf flags 1 = false) : FormsRecords [(src, prof, sec, ns)] s (s.recForm src prof flags sec ns lag snap) := by
  unfold State.recForm
  rw [if_neg (Nat.not_le.mpr hroom)]
  cases s.recSt == 0 <;>
    exact ⟨rfl, [_], rfl, rfl, fun r hr => List.mem_singleton.mp hr ▸ hcopy⟩

/-- With room in the buffer for all of them, a list of triggers forms its records in the order of the list. -/
theorem State.each_recForm_forms (flags lag : Trig → Nat) (snap : Trig → List Nat) (hcopy : ∀ g, bitOf (flags g) 1 = false)
    (gs : List Trig) (s : State) (hroom : s.recBuf + gs.length ≤ 64) :
    FormsRecords (gs.map Trig.origin) s (s.each gs fun x g => x.recForm g.ev g.prof (flags g) g.sec g.ns (lag g) (snap g)) := by
  induction gs generalizing s with
  | nil => exact FormsRecords.refl s
  | cons g gs ih =>
    rw [List.length_cons] at hroom
    have hg : FormsRecords [g.origin] s (s.recForm g.ev g.prof (flags g) g.sec g.ns (lag g) (snap g)) :=
      State.recForm_forms (by omega) (hcopy g)
    have hbuf := hg.recBuf
    rw [List.length_singleton] at hbuf
    exact hg.trans (ih _ (by omega))

/-- The flags of a record formed by a snapshot do not mark it as a copy of a ring entry (R510, R521). -/
theorem State.recFlags_not_copy (s : State) (late : Bool) : bitOf (4 * b2n late + s.recFlags) 1 = false := by
  unfold State.recFlags
  generalize (!s.dualLane) = single
  generalize (!s.flag F.FRM_STATUS_RUNNING) = off
  revert late single off
  decide

/-! ### One snapshot -/

/-- The triggers of a list, by ascending event number and within one event in the order of the list (R509). -/
def byEvent (gs : List Trig) : List Trig := (List.range 256).flatMap (fun e => gs.filter (fun g => g.ev == e))

theorem byEvent_nil : byEvent [] = [] := by
  simp [byEvent]

/-- The order of R509 keeps every trigger. -/
theorem byEvent_length {gs : List Trig} (h : ∀ g ∈ gs, g.ev < 256) : (byEvent gs).length = gs.length := by
  have hcount : ∀ e, (gs.filter (fun g => g.ev == e)).length = (gs.map Trig.ev).count e := fun e => by
    rw [← List.countP_eq_length_filter, List.count, List.countP_map]
    rfl
  have hmem : ∀ e ∈ (gs.map Trig.ev : Multiset Nat), e ∈ Finset.range 256 := by
    simpa using h
  calc (byEvent gs).length
      = ∑ e ∈ Finset.range 256, (gs.map Trig.ev : Multiset Nat).count e := by
        simp only [byEvent, List.length_flatMap, hcount, Multiset.coe_count]
        rfl
    _ = gs.length := by
        rw [Multiset.sum_count_eq_card hmem, Multiset.coe_card, List.length_map]

/-- A snapshot that serves every waiting trigger forms their records in the order of R509. -/
theorem State.recSnap_forms {s : State} {p : Trig → Bool} (hp : ∀ g ∈ s.rcd.trigs, p g = true) (hev : ∀ g ∈ s.rcd.trigs, g.ev < 256)
    (hroom : s.recBuf + s.rcd.trigs.length ≤ 64) :
    FormsRecords ((byEvent s.rcd.trigs).map Trig.origin) (s.modRec fun x => { x with trigs := [] }) (s.recSnap p) := by
  have hserved : s.rcd.trigs.filter p = s.rcd.trigs := List.filter_eq_self.mpr hp
  have hwaiting : s.rcd.trigs.filter (fun g => !p g) = [] := List.filter_eq_nil_iff.mpr fun g hg => by simp [hp g hg]
  have hdrop : s.modRec (fun x => { x with trigs := x.trigs.filter (fun g => !p g) }) = s.modRec fun x => { x with trigs := [] } := by
    simp only [State.modRec, hwaiting]
  rw [← byEvent_length hev] at hroom
  unfold State.recSnap
  rw [hserved, hdrop]
  exact State.each_recForm_forms _ _ _ (fun g => s.recFlags_not_copy g.late) _ _ hroom

/-- While the frames run, a snapshot whose instant can be reached serves the triggers of this minor frame (R507). -/
theorem State.recorderSnapshot_of_framesOn {s : State} (hgap : s.flag F.FRM_STATUS_GAP = false) (hon : s.framesOn = true)
    (hreach : s.now / 250000 * 250000 + 240000 ≤ (s.runInside (s.now / 250000 * 250000 + 240000)).now) (htrigs : s.rcd.trigs ≠ []) :
    s.recorderSnapshot = (s.runInside (s.now / 250000 * 250000 + 240000)).recSnap (·.due) := by
  unfold State.recorderSnapshot
  split
  case h_1 hnil => exact absurd hnil htrigs
  case h_2 =>
    simp only [hgap, hon, if_neg (Nat.not_lt.mpr hreach), if_true, if_false, Bool.false_eq_true]

theorem State.recorderSnapshot_of_no_trigs {s : State} (h : s.rcd.trigs = []) : s.recorderSnapshot = s := by
  unfold State.recorderSnapshot
  rw [h]

/-- The snapshot of a minor frame is past, or the counter runs to its instant. -/
theorem State.snapshot_instant_reached {s : State}
    (h : 240000 ≤ s.now % 250000 ∨ s.reaches (s.now / 250000 * 250000 + 240000)) :
    s.now / 250000 * 250000 + 240000 ≤ (s.runInside (s.now / 250000 * 250000 + 240000)).now := by
  rcases h with hpast | hahead
  · have hle : s.now / 250000 * 250000 + 240000 ≤ s.now := by omega
    rwa [State.runInside_of_le hle]
  · exact State.le_runInside_now hahead

/-- The snapshot of a running minor frame forms the records of all triggers that wait for it, in the order of R509. -/
theorem State.recorderSnapshot_forms {s : State} (hgap : s.flag F.FRM_STATUS_GAP = false) (hon : s.framesOn = true)
    (hinst : 240000 ≤ s.now % 250000 ∨ s.reaches (s.now / 250000 * 250000 + 240000))
    (htrigs : ∀ g ∈ s.rcd.trigs, g.due = true ∧ g.ev < 256) (hroom : s.recBuf + s.rcd.trigs.length ≤ 64) :
    FormsRecords ((byEvent s.rcd.trigs).map Trig.origin) (s.modRec fun x => { x with trigs := [] }) s.recorderSnapshot := by
  by_cases hnil : s.rcd.trigs = []
  · have hsame : (s.modRec fun x => { x with trigs := [] }) = s := by
      unfold State.modRec
      rw [← hnil]
    rw [State.recorderSnapshot_of_no_trigs hnil, hsame, hnil, byEvent_nil]
    exact FormsRecords.refl s
  · rw [State.recorderSnapshot_of_framesOn hgap hon (State.snapshot_instant_reached hinst) hnil]
    generalize s.now / 250000 * 250000 + 240000 = e
    have hrcd := s.runInside_rcd e
    have hforms := State.recSnap_forms (s := s.runInside e) (p := (·.due))
      (by rw [hrcd]; exact fun g hg => (htrigs g hg).1) (by rw [hrcd]; exact fun g hg => (htrigs g hg).2)
      (by unfold State.recBuf; rw [hrcd]; exact hroom)
    unfold FormsRecords State.modRec at hforms ⊢
    rwa [hrcd] at hforms

/-! ### The statement -/

/-- Settles O47: the counter reaches the snapshot's instant with the triggers untouched, and each trigger, taken by event number and
then by raising, finds room in the burst buffer. -/
theorem recordsInOrder : Obligations.RecordsInOrder := by
  intro s hgap hon hinst htrigs hroom
  have hforms := State.recorderSnapshot_forms hgap hon hinst htrigs hroom
  exact ⟨s.recorderSnapshot, rfl, hforms.1, hforms.origins_drop⟩

end Sys2Proof.Machine
end

section
/-! PROOFS. The semaphores of the host ports (R548, R549), and which interrupt vectors of a port are asserted (R555). -/

namespace Sys2Proof.Machine

open Sys2Proof

/-! ### Words and flags after a field is set -/

theorem State.put_onlyWords (s : State) (f : Fld) (v : Nat) : OnlyWords [f.off] s (s.put f v) :=
  fun _ hoff => RegFile.word_put_ne _ _ _ _ (List.ne_of_not_mem_cons hoff)

theorem OnlyWords.trans {l : List Nat} {s t u : State} (h₁ : OnlyWords l s t) (h₂ : OnlyWords l t u) : OnlyWords l s u :=
  fun off hoff => (h₂ off hoff).trans (h₁ off hoff)

theorem State.flag_put_one (s : State) {f : Fld} (hf : f.ok) : (s.put f 1).flag f = true := by
  have hw : 1 < 2 ^ (f.hi + 1 - f.lo) := Nat.one_lt_two_pow (by have := hf.1; omega)
  unfold State.flag State.get
  rw [State.put_regs, RegFile.get_put_same _ _ _ hf, Nat.mod_eq_of_lt hw]
  rfl

theorem State.flag_put_zero (s : State) {f : Fld} (hf : f.ok) : (s.put f 0).flag f = false := by
  unfold State.flag State.get
  rw [State.put_regs, RegFile.get_put_same _ _ _ hf, Nat.zero_mod]
  rfl

theorem State.flag_put_other (s : State) {f g : Fld} (v : Nat) (hf : f.ok) (ha : f.apart g) : (s.put f v).flag g = s.flag g :=
  congrArg (· != 0) (RegFile.get_put_other s.regs f g v hf ha)

/-! ### The word of a semaphore -/

theorem semTaken_ok (n : Nat) : (F.HIF_SEM_TAKEN n).ok := ⟨Nat.le_refl 0, Nat.zero_lt_succ 31⟩

theorem semOwner_ok (n : Nat) : (F.HIF_SEM_OWNER n).ok := ⟨Nat.le_refl 1, Nat.one_lt_succ_succ 30⟩

/-- OWNER lies in the word of TAKEN and shares no bit with it. -/
theorem semOwner_apart_taken (n : Nat) : (F.HIF_SEM_OWNER n).apart (F.HIF_SEM_TAKEN n) := .inr (.inl Nat.zero_lt_one)

/-- TAKEN and OWNER of a semaphore, set together. -/
theorem State.put_sem_onlyWords (s : State) (n a b : Nat) :
    OnlyWords [(F.HIF_SEM_TAKEN n).off] s ((s.put (F.HIF_SEM_TAKEN n) a).put (F.HIF_SEM_OWNER n) b) :=
  (s.put_onlyWords _ a).trans (State.put_onlyWords _ (F.HIF_SEM_OWNER n) b)

/-- A read takes a free semaphore for its port (R548). -/
theorem State.semRead_of_free {s : State} {p n : Nat} (h : s.flag (F.HIF_SEM_TAKEN n) = false) :
    s.semRead p n = ({ s with hostData := s.word (F.HIF_SEM_TAKEN n).off }.put (F.HIF_SEM_TAKEN n) 1).put (F.HIF_SEM_OWNER n) p := by
  unfold State.semRead
  rw [h]
  rfl

/-- A read of a taken semaphore changes no register (R548). -/
theorem State.semRead_regs_of_taken {s : State} {p n : Nat} (h : s.flag (F.HIF_SEM_TAKEN n) = true) : (s.semRead p n).regs = s.regs := by
  unfold State.semRead
  rw [h]
  rfl

theorem State.semRead_hostData (s : State) (p n : Nat) : (s.semRead p n).hostData = s.word (F.HIF_SEM_TAKEN n).off := by
  unfold State.semRead
  split <;> rfl

/-- After the read of a free semaphore it is taken and owned by the port of the read. -/
theorem State.semRead_takes {s : State} {n : Nat} (p : Fin 2) (h : s.flag (F.HIF_SEM_TAKEN n) = false) :
    (s.semRead p n).flag (F.HIF_SEM_TAKEN n) = true ∧ (s.semRead p n).get (F.HIF_SEM_OWNER n) = p.val ∧
      OnlyWords [(F.HIF_SEM_TAKEN n).off] s (s.semRead p n) := by
  rw [State.semRead_of_free h]
  refine ⟨?_, ?_, State.put_sem_onlyWords _ n 1 p⟩
  · rw [State.flag_put_other _ _ (semOwner_ok n) (semOwner_apart_taken n), State.flag_put_one _ (semTaken_ok n)]
  · exact (RegFile.get_put_same _ _ _ (semOwner_ok n)).trans (Nat.mod_eq_of_lt p.isLt)

/-- A write to a free semaphore has no effect (R549). -/
theorem State.semWrite_of_free {s : State} {p n v : Nat} (h : s.flag (F.HIF_SEM_TAKEN n) = false) : s.semWrite p n v = s := by
  unfold State.semWrite
  rw [h]
  rfl

/-- A write by the port that does not own a taken semaphore only sets SEMOWN (R549). -/
theorem State.semWrite_of_not_owner {s : State} {p n v : Nat} (h : s.flag (F.HIF_SEM_TAKEN n) = true)
    (hp : s.get (F.HIF_SEM_OWNER n) ≠ p) : s.semWrite p n v = s.put F.HIF_ERR_SEMOWN 1 := by
  unfold State.semWrite
  rw [h, if_pos hp]
  rfl

/-- A write by the owner acts by its TAKEN bit (R549). -/
theorem State.semWrite_of_owner {s : State} {p n v : Nat} (h : s.flag (F.HIF_SEM_TAKEN n) = true)
    (hp : s.get (F.HIF_SEM_OWNER n) = p) : s.semWrite p n v = if bitOf v 0 then s else s.semFree n := by
  unfold State.semWrite
  rw [h, if_neg (not_not_intro hp)]
  rfl

theorem State.semFree_frees (s : State) (n : Nat) :
    (s.semFree n).flag (F.HIF_SEM_TAKEN n) = false ∧ OnlyWords [(F.HIF_SEM_TAKEN n).off] s (s.semFree n) := by
  refine ⟨?_, s.put_sem_onlyWords n 0 0⟩
  unfold State.semFree
  rw [State.flag_put_other _ _ (semOwner_ok n) (semOwner_apart_taken n), State.flag_put_zero _ (semTaken_ok n)]

/-! ### The asserted vectors -/

theorem bitOf_lor_two_pow (m k v : Nat) : bitOf (Nat.lor m (2 ^ k)) v = true ↔ bitOf m v = true ∨ k = v := by
  change bitOf (m ||| 2 ^ k) v = true ↔ _
  rw [bitOf_eq_testBit, bitOf_eq_testBit, Nat.testBit_or, Nat.testBit_two_pow, Bool.or_eq_true, decide_eq_true_eq]

/-- A mask made by setting the bit of each chosen item has a bit set where it had it, or where an item was chosen for it. -/
theorem bitOf_foldl_lor {α : Type} (c : α → Bool) (b : α → Nat) (v : Nat) (l : List α) (m : Nat) :
    bitOf (l.foldl (fun m x => if c x then Nat.lor m (2 ^ b x) else m) m) v = true ↔
      bitOf m v = true ∨ ∃ x ∈ l, c x = true ∧ b x = v := by
  induction l generalizing m with
  | nil => simp
  | cons x l ih =>
    rw [List.foldl_cons, ih, List.exists_mem_cons_iff]
    cases hc : c x with
    | false => simp only [Bool.false_eq_true, if_false, false_and, false_or]
    | true => rw [if_pos rfl, bitOf_lor_two_pow, or_assoc, eq_self_iff_true, true_and]

/-! ### The statements -/

/-- Settles O53: each clause is the branch of the read or the write that its hypotheses choose. -/
theorem hostSemaphores : Obligations.HostSemaphores :=
  ⟨fun s p n hfree => ⟨_, rfl, s.semRead_hostData p n, State.semRead_takes p hfree⟩,
   fun s p n htaken => ⟨_, rfl, s.semRead_hostData p n, State.semRead_regs_of_taken htaken⟩,
   fun s p n v htaken howner hv => ⟨s.semFree n, congrArg Host.Outcome.next
      ((State.semWrite_of_owner htaken howner).trans (if_neg (Bool.eq_false_iff.mp hv))), s.semFree_frees n⟩,
   fun s p n v htaken hother => ⟨_, congrArg Host.Outcome.next (State.semWrite_of_not_owner htaken hother),
      s.flag_put_one (by decide), s.put_onlyWords _ 1⟩,
   fun s p n v htaken howner hv => ⟨s, congrArg Host.Outcome.next
      ((State.semWrite_of_owner htaken howner).trans (if_pos hv)), rfl⟩,
   fun s p n v hfree => ⟨s, congrArg Host.Outcome.next (State.semWrite_of_free hfree), rfl⟩⟩

/-- Settles O54: the mask of the vectors is made from no bit by the events first, then by the completion rings. -/
theorem vectorAsserted : Obligations.VectorAsserted := by
  intro s p v
  have hzero : ¬bitOf 0 v = true := by rw [bitOf_eq_testBit, Nat.zero_testBit]; exact Bool.false_ne_true
  unfold State.asserted State.vectors
  rw [bitOf_foldl_lor, bitOf_foldl_lor, or_iff_right hzero]
  simp only [List.mem_range, Bool.and_eq_true, and_assoc]

end Sys2Proof.Machine
end

section
/-! PROOFS. A read of the count of the real-time clock: what a read of RTC_FRAC latches, and what a read of SEC_LO or SEC_HI returns (R591, R600). -/

namespace Sys2Proof.Machine

open Sys2Proof

/-! ### The shadow after a latch -/

theorem lookup_putKey_self {α : Type} (k : Nat) (v : α) (l : List (Nat × α)) : (putKey k v l).lookup k = some v :=
  lookup_insertAsc_self k v (eraseKey k l)

theorem lookup_putKey_ne {α : Type} (k j : Nat) (v : α) (l : List (Nat × α)) (h : j ≠ k) : (putKey k v l).lookup j = l.lookup j :=
  (lookup_insertAsc_ne k j v (eraseKey k l) h).trans (lookup_eraseKey_ne k j l h)

/-- Two words latched together: each stands in the shadow with its own value. -/
theorem State.latch_pair_lookup (s : State) {j k : Nat} (v w : Nat) (h : j ≠ k) :
    (s.latch [(j, v), (k, w)]).shadow.lookup j = some v ∧ (s.latch [(j, v), (k, w)]).shadow.lookup k = some w :=
  ⟨(lookup_putKey_ne k j w (putKey j v s.shadow) h).trans (lookup_putKey_self j v s.shadow), lookup_putKey_self k w (putKey j v s.shadow)⟩

/-! ### The read of FRAC -/

theorem State.fracRead_of_ready {s : State} (h : s.flag F.RTC_STATUS_READY = true) :
    s.fracRead = { s.latch [(0x1100004, s.rtcSec % 2 ^ 32), (0x1100008, s.rtcSec / 2 ^ 32)] with hostData := s.rtcFrac } :=
  if_pos h

theorem State.fracRead_of_lockout {s : State} (h : s.flag F.RTC_STATUS_READY = false) : s.fracRead = { s with hostData := 0 } :=
  if_neg (Bool.eq_false_iff.mp h)

/-! ### A read that the shadow answers -/

/-- A read of a word that stands in the shadow, has no RC field and latches no higher word changes nothing but the data returned. -/
theorem State.plainRead_of_shadow {s : State} {off v : Nat} (port : Nat) (hlatch : latchCount off = 0)
    (hrc : regBits off (fun f => f.acc == .rc) = 0) (hv : find1 s.shadow off = some v) :
    s.plainRead port off = { s with hostData := v } := by
  have hclear : s.clearRc off = s := if_pos hrc
  unfold State.plainRead
  rw [hlatch, hv]
  exact congrArg (fun t : State => { t with hostData := v }) hclear

/-- Outside the lockout a read in the block of the real-time clock, other than of FRAC, has no rule of its own. -/
theorem State.read32_of_rtc {s : State} {off : Nat} (port : Nat) (hready : s.flag F.RTC_STATUS_READY = true)
    (hmap : (regAt off).isSome = true) (hblock : off / 0x100000 = 0x11) (hfrac : off ≠ 0x1100000) :
    s.read32 port off = s.plainRead port off := by
  unfold State.read32 State.readMapped
  rw [if_pos hmap, hblock, hready]
  exact if_neg hfrac

/-- RTC_SEC_LO and RTC_SEC_HI are mapped words with no RC field, and a read of one latches none above it. -/
theorem rtcSec_word {off : Nat} (h : off = 0x1100004 ∨ off = 0x1100008) :
    (regAt off).isSome = true ∧ latchCount off = 0 ∧ regBits off (fun f => f.acc == .rc) = 0 := by
  obtain rfl | rfl := h <;> decide

/-- A read of SEC_LO or SEC_HI returns the shadow and leaves it and the registers as they are (R591). -/
theorem readClear_rtcSec_of_shadow {s : State} (port : Fin 2) {off : BitVec 26} {v : Nat}
    (hoff : off.toNat = 0x1100004 ∨ off.toNat = 0x1100008) (hready : s.flag F.RTC_STATUS_READY = true)
    (hv : find1 s.shadow off.toNat = some v) :
    Does (.readClear port off) s fun t => t.hostData = v ∧ t.shadow = s.shadow ∧ t.regs = s.regs := by
  obtain ⟨hmap, hlatch, hrc⟩ := rtcSec_word hoff
  have hread : s.hostRead port off.toNat 4 = { s with hostData := v } := by
    rw [State.hostRead_four s port off.toNat (by omega), State.read32_of_rtc port hready hmap (by omega) (by omega),
      State.plainRead_of_shadow port hlatch hrc hv]
  have hexec : exec (.readClear port off) s = .next (s.lanes (·.hostRead port off.toNat 4)) :=
    congrArg Host.Outcome.next (if_neg fun hd => absurd hd.2 (by decide))
  refine ⟨_, hexec, ?_, ?_, ?_⟩
  · rw [State.lanes_hostData, hread]
  · rw [State.lanes_shadow, hread]
  · rw [State.lanes_regs, hread]

/-! ### The statement -/

/-- Settles O23: the read of FRAC is one branch of READY, and what it latched answers the reads of SEC_LO and SEC_HI. -/
theorem readOfTheCount : Obligations.ReadOfTheCount := by
  refine ⟨fun s port hready => ⟨_, congrArg Host.Outcome.next (State.fracRead_of_ready hready), ?_⟩,
    fun s port hlock => ⟨_, congrArg Host.Outcome.next (State.fracRead_of_lockout hlock), rfl, rfl⟩,
    fun s port v hready hv => readClear_rtcSec_of_shadow port (.inl rfl) hready hv,
    fun s port v hready hv => readClear_rtcSec_of_shadow port (.inr rfl) hready hv⟩
  obtain ⟨hlo, hhi⟩ := s.latch_pair_lookup (s.rtcSec % 2 ^ 32) (s.rtcSec / 2 ^ 32) (show 0x1100004 ≠ 0x1100008 by decide)
  exact ⟨rfl, hlo, hhi, rfl⟩

end Sys2Proof.Machine
end
